-- ==== Sys2Proof/Word.lean ====
section
/-! DEFINITION. The plain words of the model: bytes, the sparse stores, and the vocabulary of the object tables
(spec chapters 0 and 18: data types, access codes, and the forms a "range" column takes). -/

namespace Sys2Proof

/-- One byte. -/
abbrev Byte := BitVec 8

/-- A sparse store of numbers by key, keys strictly rising (R652: an object is an index and a subindex). -/
abbrev Store := List (Nat × Int)

/-- A sparse store of byte strings by key, keys strictly rising (DOMAIN, OCTET_STRING and VISIBLE_STRING objects). -/
abbrev Blobs := List (Nat × List Byte)

/-- The key of object `index:sub` (R652). -/
abbrev okey (index sub : Nat) : Nat := index * 256 + sub

/-- Data types of Table 18-1 that the object tables use. -/
inductive OdTy where
  | u8 | u16 | u32 | u48 | u64 | i8 | i16 | i32 | i64 | r32 | dom | oct | vis
  deriving DecidableEq, Repr

/-- Access codes of Table 18-2 ("guarded, wo" of 1E20h:09 is `guardedWo`). -/
inductive OdAcc where
  | const | ro | wo | rw | rwMapped | pairWide | guarded | guardedWo
  deriving DecidableEq, Repr

/-- What a "Range and unit" column allows a write to carry. Constructors with a name of an object hold the rule that
object's own notes give. -/
inductive OdRng where
  | any
  | rng (lo hi : Int)
  | rngOr (lo hi other : Int)
  | zr (lo hi : Int)
  | vals (l : List Int)
  | mask (m : Nat)
  | cmd (v : Int)
  | real (loMilli hiMilli : Int)
  | blob (minLen maxLen : Nat)
  | evenRng (lo hi : Int)
  | portRate | integTime | charFormat | outputPhase | sourcePriority | gnssSource
  | rpdoType | tpdoType | slotBudget | readClearTarget | safePort
  deriving DecidableEq, Repr

/-- One line of an object table: the first index, how many consecutive indices have the same layout, the first and
last subindex, type, access, default (a REAL32 by its bits) and allowed values. -/
structure OdRow where
  base : Nat
  count : Nat
  sub0 : Nat
  subN : Nat
  ty : OdTy
  acc : OdAcc
  dflt : Int
  rng : OdRng
  deriving DecidableEq, Repr

/-- Size in bytes of a value of each fixed type (Table 18-1); 0 for the variable ones. -/
def OdTy.size : OdTy → Nat
  | .u8 | .i8 => 1
  | .u16 | .i16 => 2
  | .u32 | .i32 | .r32 => 4
  | .u48 => 6
  | .u64 | .i64 => 8
  | .dom | .oct | .vis => 0

/-- Whether a type is one of the two's complement ones. -/
def OdTy.signed : OdTy → Bool
  | .i8 | .i16 | .i32 | .i64 => true
  | _ => false

/-- Whether values of the type are byte strings, held in the blob store. -/
def OdTy.isBlob : OdTy → Bool
  | .dom | .oct | .vis => true
  | _ => false

end Sys2Proof
end

