-- ==== Sys2Proof/Word/Vocab.lean ====
section
/-! DEFINITION. The names and small records that commands carry as operands: roles, clients, values, message kinds. -/

namespace Sys2Proof.Machine

open Sys2Proof

/-! ### Names that commands carry -/

/-- STRAP_TWIN (Table 1-1). -/
inductive Twin where
  | a | b
  deriving DecidableEq, Repr

/-- STRAP_ROLE (Table 1-1). -/
inductive Duty where
  | manager | worker
  deriving DecidableEq, Repr

/-- The roles of Table 15-4. -/
inductive PairRole where
  | offline | slipway | standby | active | suspect | watch
  deriving DecidableEq, Repr

/-- Why the shutdown sequence ran (record type 06h, byte 0). -/
inductive LossCause where
  | supply | mrst
  deriving DecidableEq, Repr

/-- The planes of Table 1-5, as a record names them (Table 20-1). -/
inductive Plane where
  | control | data | management
  deriving DecidableEq, Repr

/-- The value of an object as a request carries it: a number (a REAL32 by its bits) or bytes. -/
inductive Val where
  | num (v : Int)
  | bytes (b : List Byte)
  deriving DecidableEq, Repr

/-- A client of the dictionary (R670, R675): the SDO server of a CAN port, a network address and port, or a ring slot;
`inner` is the module's own user pairs, RPDOs and safe connections. -/
inductive Client where
  | can (port : Nat)
  | net (id : Nat)
  | ring (slot : Nat)
  | inner
  deriving DecidableEq, Repr

/-- What a request is answered with. -/
inductive Reply where
  | done
  | value (b : List Byte) (final : Bool)
  | abort (code : Nat)
  deriving DecidableEq, Repr

/-- The types of Terward messages (Table 15-3). -/
inductive TwKind where
  | input | set | setAck | digest | time | write | slipway | control | heartbeat
  deriving DecidableEq, Repr


/-- The strap pads as read: true pad and _N pad of each strap (R67). -/
structure StrapPads where
  role : Bool × Bool
  twin : Bool × Bool
  node : List (Bool × Bool)
  deriving DecidableEq, Repr

/-- Which strap pair a level change is on (2000h:05). -/
inductive StrapName where
  | role | twin | node
  deriving DecidableEq, Repr

/-- Instructions of the test access port (R77): IDCODE, BYPASS, or any other. -/
inductive TapIr where
  | idcode | bypass | other (code : Nat)
  deriving DecidableEq, Repr

/-- Where module time is first set from (R121, Table 3-4): a qualified source 0 GNSS, 1 PTP-A, 2 PTP-B, or coarse time. -/
inductive TimeOrigin where
  | source (n : Nat)
  | coarse
  deriving DecidableEq, Repr

/-- The trailer of a tagged request as it arrived (R674): session identity, request counter, tag, and the bytes of the
message the tag covers. -/
structure OdTag where
  session : Nat
  counter : Nat
  tag : List Byte
  covered : List Byte
  deriving DecidableEq, Repr

/-- How a PTP message travelled (Table 4-2): its domain, over IEEE 802.3 instead of UDP over IPv4, unicast. -/
structure PtpHead where
  domain : Nat
  ethernet : Bool
  unicast : Bool
  deriving DecidableEq, Repr

/-- What the ordinary clock meets (R134): messages it receives, with corrections in picoseconds; the instants at which its own
messages leave (Sync, Announce, Delay_Req); the end of the time it waits for an Announce; what Table 4-2 does not support. -/
inductive PtpMsg where
  | sync (seqNo : Nat) (twoStep : Bool) (originPs correctionPs : Int)
  | followUp (seqNo : Nat) (originPs correctionPs : Int)
  | delayReq (seqNo : Nat) (correctionPs : Int)
  | delayResp (seqNo : Nat) (receivePs correctionPs : Int)
  | announce (priority1 clockClass accuracy variance priority2 identity : Nat) (taiUtc : Int) (leap : Nat)
  | management
  | unsupported
  | sendSync
  | sendAnnounce
  | sendDelayReq
  | announceTimeout
  deriving DecidableEq, Repr

/-- What the transparent clock forwards (R136, R137): event messages, the Follow_Up of a two-step Sync, other general messages, and
messages between an external port and the internal one. -/
inductive PtpFwd where
  | sync (seqNo : Nat) (twoStep : Bool)
  | delayReq
  | followUp (seqNo : Nat)
  | general
  | internal
  deriving DecidableEq, Repr

/-- Why a GNSS port faults (R167). -/
inductive PortFaultCause where
  | framing | range | absent
  deriving DecidableEq, Repr

/-- A satellite as 31xxh:03 and 31xxh:04 name it; `geo` marks a BeiDou GEO satellite (Table 5-3). -/
structure SatId where
  system : Nat
  number : Nat
  freqK : Int := 0
  geo : Bool := false
  deriving DecidableEq, Repr

/-- One sample of a stream as its pads carry it over four edges of Gx_CLK, first edge first (R161): the levels of the framing lane
and of the I and Q lanes. -/
structure IfSample where
  frm : List Bool
  i : List Bool
  q : List Bool
  deriving DecidableEq, Repr

/-- What ephemeris or almanac predicts of a satellite on a port (R175, R182): elevation in 0.1°, Doppler and its standard deviation
as parts in 10^12 of a signal's carrier. -/
structure SatPrediction where
  sat : SatId
  elevation10 : Int
  dopplerPico : Int
  sigmaPico : Nat
  deriving DecidableEq, Repr

/-- What the navigation message brings at the end of an integration (R201, R202, R214): a preamble or sync word, upright with the
transmit time of that end in ps of the system's time once the time of week has been decoded, or inverted. -/
inductive NavEvent where
  | preamble (txPs : Option Int)
  | inverted
  deriving DecidableEq, Repr

/-- A position solution as P1 forms it (R218 to R220); `instant` in TAI ns, `exclude` as 331xh:0E. -/
structure SolResult where
  fix : Nat
  sats : Nat
  lat : Int
  lon : Int
  height : Int
  vn : Int
  ve : Int
  vd : Int
  hStd : Nat
  vStd : Nat
  clockPs : Int
  clockStdPs : Nat
  instant : Nat
  exclude : Nat
  deriving DecidableEq, Repr

/-- An attitude epoch (R228, R229): azimuth and elevation of GA-GB and of GA-GC, and the angles of the best rotation, in 0.0001°. -/
structure AttResult where
  gb : Nat × Int
  gc : Nat × Int
  heading : Nat
  pitch : Int
  roll : Int
  headingStd : Nat
  pitchStd : Nat
  rollStd : Nat
  instant : Nat
  deriving DecidableEq, Repr

/-- An item of the GNSS kept data (R231) with the TAI time it belongs to in seconds: the ephemeris of a satellite, the frequency number
of a GLONASS slot, the almanac and the ionosphere parameters of a system, UTC parameters with TAI-UTC and the leap indicator, or the
last combined position. -/
inductive KeptItem where
  | ephemeris (sat : Nat) (taiS : Nat) (data : List Byte)
  | frequency (slot : Nat) (taiS : Nat) (k : Int)
  | almanac (system : Nat) (taiS : Nat) (data : List Byte)
  | ionosphere (system : Nat) (taiS : Nat) (data : List Byte)
  | utc (system : Nat) (taiS : Nat) (taiUtc : Int) (leap : Nat) (data : List Byte)
  | position (taiS : Nat) (lat lon height : Int)
  deriving DecidableEq, Repr

/-- What asks for a write of the kept data (R231): two decodes of one item in turn, or the 60 s of the last position. -/
inductive KeptWrite where
  | decoded (first second : KeptItem)
  | position
  deriving DecidableEq, Repr

/-- An edge of an input's SDnn_C: how long before the command it came, which edge, and the level of SDnn_D at it (R266). -/
structure SdEdge where
  ago : Nat
  rising : Bool
  level : Bool
  deriving DecidableEq, Repr

/-- What a decoder reads from a packet: the decoded values, and the standard deviation in mm where one is reported (R314). Values: gyrocompass [heading 0.001°]; motion sensor [roll,
pitch 0.001° where it reports them, rates p, q, r 0.001 °/s, accelerations x, y, z mm/s²]; wind sensor [speed 0.01 m/s, direction 0.01°];
external GNSS [latitude, longitude 10^-7°]; laser [range mm, bearing 0.01°]; taut wire [θx, θy 0.001°]. -/
structure Decoded where
  vals : List Int
  sigma : Option Nat
  deriving DecidableEq, Repr

/-- A command entry of one thruster (Table 14-3): thrust in 0.1 kN, azimuth or rudder angle in 0.01°. -/
structure CmdEntry where
  allocated : Bool := false
  thrust : Int := 0
  angle : Int := 0
  deriving DecidableEq, Repr

/-- A command section (Table 14-3). -/
structure CmdSection where
  rate : Nat
  cycle : Nat
  mode : Nat
  twin : Twin
  frame : Nat
  entries : List CmdEntry
  deriving DecidableEq, Repr

/-- A sync packet (Table 14-4): whether it is ring 2's copy, frame start in TAI units of 2^-16 ns, loop times in ps, announced step and
its second, owner table as serial numbers of twins A and B, grants as slot, units and offset. -/
structure SyncPacket where
  ring2 : Bool
  ringState : Nat
  frame : Nat
  start : Nat
  d1 : Nat
  d2 : Nat
  stepNs : Int
  stepSec : Nat
  timeState : Nat
  estErr : Nat
  owners : List (Nat × Nat)
  grants : List (Nat × Nat × Nat)
  deriving DecidableEq, Repr

/-- A feedback record of one thruster (Table 14-5). -/
structure FbRecord where
  state : Nat := 0
  flags : Nat := 0
  angle : Int := 0
  y : Int := 0
  thrust : Int := 0
  deriving DecidableEq, Repr

/-- A filled slot of the feedback packet (Table 14-5). -/
structure SlotIn where
  slot : Nat
  hop : Nat
  role : Nat
  wrapE : Bool
  wrapW : Bool
  following : Bool
  serial : Nat
  demand : Nat
  lastCycle : Nat
  rec0 : FbRecord
  rec1 : FbRecord
  deriving DecidableEq, Repr

/-- An asynchronous container (Table 14-6). -/
structure Container where
  slot : Nat
  units : Nat
  filled : Bool
  dest : Nat
  kind : Nat
  seqNo : Nat
  payload : List Byte
  deriving DecidableEq, Repr

/-- Why a ring port's link goes down (R531). -/
inductive LinkCause where
  | los | sync | silence
  deriving DecidableEq, Repr

/-- Hard-fault detectors (Table 15-6). -/
inductive FaultDetector where
  | lockstep (pair : Nat) | symbolCode | heartbeat | engine | supervision
  deriving DecidableEq, Repr

/-- Header of a Terward message (Table 15-2). -/
structure TwHeader where
  kind : Nat
  twin : Twin
  role : Nat
  seqNo : Nat
  count : Nat
  highest : Nat
  deriving DecidableEq, Repr

/-- Straps of the module at the other end of a Terward lane (R20). -/
structure FarStraps where
  duty : Duty
  twin : Twin
  node : Nat
  deriving DecidableEq, Repr

/-- An input the partner committed, as its INPUT message carries it (R565): a serial packet with its words and what a decoder
makes of it, a chain output, an internal product, a measurement record, an encoder word, a DRVFB level. -/
inductive PairInput where
  | packet (port : Nat) (words : List Nat) (d : Option Decoded)
  | chain (c : Nat) (value : Int) (stamp : Nat)
  | solution (which : Nat) (r : SolResult)
  | attitude (st : Nat) (r : AttResult)
  | record (b : List Byte)
  | encoder (e angle : Nat) (low : Bool)
  | drvfb (thruster : Nat) (energised : Bool)
  deriving DecidableEq, Repr


/-- What holds an uncorrectable word of a data-plane or management-plane memory: a packet of a serial port, a queued record of a
plane, a buffered sample of a source, or an OD message. -/
inductive SharedItem where
  | packet (port : Nat) | record (plane : Plane) | sample (source : Nat) | message
  deriving DecidableEq, Repr

/-- How a request for one object comes over a network (Table 18-5): its request ID, and the trailer of a tagged message: session ID,
request counter, tag. -/
structure OdVia where
  reqId : Nat := 0
  trailer : Option (Nat × Nat × List Byte) := none
  deriving DecidableEq, Repr

/-- Where an uncorrectable word lies (Table 22-1): control-plane memory; a data-plane or management-plane memory with the item
that holds it; the MRAM object store, met by an access of a client; a configuration image; the recorder partition; the GNSS and
estimator partition; the memory of a user pair. -/
inductive WordPlace where
  | control (memory : Nat) | shared (memory : Nat) (item : SharedItem) | objectStore (c : Client) (via : OdVia) (write : Bool) (key : Nat)
  | currentImage | previousImage | recorder (seqNo : Nat) | kept (n : Nat) | warm (n : Nat) | side (n : Nat) | tcm (u : Nat)
  deriving DecidableEq, Repr


/-- A request to the SDO server of a CAN port (Table 18-4): expedited and segmented transfer, block transfer, and what is none of
them. -/
inductive SdoReq where
  | upload (index sub : Nat)
  | uploadSegment (toggle : Bool)
  | download (index sub : Nat) (data : List Byte)
  | downloadStart (index sub : Nat)
  | downloadSegment (toggle : Bool) (data : List Byte) (final : Bool)
  | blockDownload (index sub : Nat)
  | blockSegment (seqNo : Nat) (data : List Byte)
  | blockEnd (crc : Option Nat)
  | blockUpload (index sub segments : Nat)
  | blockUploadNext (acked segments : Nat)
  | abort
  | other
  deriving DecidableEq, Repr

/-- An OD message taken apart (Table 18-5). -/
structure OdMsg where
  version : Nat
  opcode : Nat
  final : Bool
  reqId : Nat
  index : Nat
  sub : Nat
  offset : Nat
  data : List Byte
  tag : Option OdTag
  deriving DecidableEq, Repr

/-- NMT commands (Table 18-4). -/
inductive NmtCmd where
  | start | stop | preOp | resetNode | resetComm
  deriving DecidableEq, Repr

/-- Error states of a CAN port (1E00h:04). -/
inductive CanState where
  | active | passive | busOff
  deriving DecidableEq, Repr

end Sys2Proof.Machine
end

