-- ==== Sys2Proof/Word/Records.lean ====
section
/-! DEFINITION. The records of the data and control planes that the twins exchange in a slipway transfer, and the parts of an
input set: alignment, estimator, tracks, control, Capstan and servo state. -/

namespace Sys2Proof.Machine

open Sys2Proof

/-- A sample of an aligned source (Table 8-1): its measurement instant and the instant at which it was committed (R300) in TAI ns, its decoded values, the
standard deviation it reports in mm, and the late flag of R303. Sources 16h and 17h stand for the GNSS attitude and for
a single baseline, which the snapshot carries beside the 22. -/
structure Sample where
  source : Nat
  instant : Int
  arrival : Int
  vals : List Int
  sigma : Option Nat
  late : Bool := false
  /-- Terward sequence number of the INPUT message of its input, 0 for none (R566), and the number of the input among those of
  its source (R567). -/
  sent : Nat := 0
  num : Nat := 0
  deriving DecidableEq, Repr

/-- Timing of one source (R289 to R301): pairs of own time and offset (ns), the tracked offset d̂ = base + slope (ts - ref),
its buffer, and when it last delivered. -/
structure Source where
  pairs : List (Int × Int) := []
  base : Rat := 0
  slope : Rat := 0
  ref : Int := 0
  suspectFrom : Option Nat := none
  buffer : List Sample := []
  lateOnes : List Sample := []
  lastAt : Option Nat := none
  /-- Latest measurement instant that has reached the buffer (R297). -/
  latestInstant : Option Int := none
  /-- Choice between the twins' copies of a source wired to both (R565). -/
  copyLast : Option Nat := none
  standIn : Bool := false
  copyRun : Nat := 0
  deriving DecidableEq, Repr

/-- Test windows of one reference slot or sensor (R307 to R314, R333). -/
structure TestRun where
  lastVals : List Int := []
  unchangedFrom : Option Int := none
  hist : List (Int × Rat × Rat) := []
  consecutive : Nat := 0
  passFrom : Option Int := none
  latest : Option (List Rat) := none
  latestAt : Int := 0
  sigma : Option Nat := none
  acceptedAt : Int := 0
  /-- Offsets are to be set by the first fused sample (R328). -/
  joining : Bool := false
  deriving DecidableEq, Repr

/-- A packet of a target input with its instant (R355 to R358): the entries of a scan, or one broadcast position. -/
structure TargetPacket where
  input : Nat
  instant : Int
  /-- Arrival, and its INPUT message and number among the inputs of its source, as of a sample. -/
  arrival : Int
  sent : Nat
  num : Nat
  /-- (range or latitude, bearing or longitude, code or target number) of each detection. -/
  entries : List (Int × Int × Nat)
  deriving DecidableEq, Repr

/-- A GNSS product of this twin or its partner as the input set carries it (R240): its number among the inputs of its twin, the
Terward sequence number of its INPUT message, its measurement instant, and the solution 0 to 3, the heading in attitude state 03h, or
the record. -/
structure Product where
  own : Bool
  num : Nat
  sent : Nat
  instant : Nat
  /-- The instant at which it was committed. -/
  arrival : Int
  which : Nat
  solution : Option SolResult := none
  heading : Option Nat := none
  record : List Byte := []
  deriving DecidableEq, Repr

/-- One line of the track table that a snapshot carries (R374). -/
structure TrackLine where
  number : Nat
  generation : Nat
  x : List Rat
  at' : Int
  deriving DecidableEq, Repr

/-- The cycle snapshot (R299): the CONFIRMED tracks of the latest processing
(R374), which sources are expected and which time-suspect, the last GNSS products of both twins that the set
holds (R27, R240), and the samples. -/
structure Snapshot where
  tracks : List TrackLine := []
  expected : List Bool := []
  suspect : List Bool := []
  products : List Product := []
  t0 : Int := 0
  horizon : Int := 0
  samples : List Sample := []
  targets : List TargetPacket := []
  deriving DecidableEq, Repr

/-- Alignment buffer and reference quality (chapter 8). -/
structure Align where
  sources : List Source := List.replicate 22 {}
  slots : List TestRun := List.replicate 12 {}
  sensors : List TestRun := List.replicate 10 {}
  /-- GNSS attitude products waiting for the snapshot. -/
  attitude : List Sample := []
  /-- Target packets committed since the last freeze (R358). -/
  targets : List TargetPacket := []
  snap : Snapshot := {}
  frozen : Bool := false
  deriving DecidableEq, Repr

/-- A usable raw GNSS entry (R326, R327): channel, satellite as in 3100h:03, flags, slip count, pseudorange and carrier in
metres, C/N0 in dB-Hz, and whether its multipath flag is set. -/
structure RawEntry where
  channel : Nat
  sat : Nat
  flags : Nat
  slips : Nat
  range : Rat
  carrier : Rat
  hz : Int
  cn0 : Rat
  multipath : Bool
  deriving DecidableEq, Repr

/-- What P0 keeps of one horizon for retrodiction (R339): instant, state, covariance, and the accumulated product of
(I - K H) Φ over the later steps. -/
structure Horizon where
  instant : Int
  x : List Rat
  p : List (List Rat)
  acc : List (List Rat)
  deriving DecidableEq, Repr

/-- The vessel state estimator (chapter 9): 66 states, their covariance, and the instant they refer to. -/
structure Est where
  x : List Rat := []
  p : List (List Rat) := []
  at' : Int := 0
  /-- The prediction to T0 that is published (R323). -/
  x0 : List Rat := []
  horizons : List Horizon := []
  deferred : List Sample := []
  convRun : Nat := 0
  /-- A heading has been fused since INIT was entered. -/
  headed : Bool := false
  lastFix : Option Int := none
  drFrom : Option Int := none
  lastAttFused : Option Int := none
  primary : Nat := 0
  teamTwinB : Bool := false
  frozen : Bool := false
  rates : List (Int × Rat) := []
  /-- Wind force of the previous cycle (R321, R404). -/
  tauWind : List Rat := [0, 0, 0]
  /-- Thrust in body force as last reported by each worker pair's thrusters (R321). -/
  thrust : List (List Rat) := []
  commitDue : Bool := false
  geomCleared : List Nat := []
  lastWarm : Nat := 0
  deriving DecidableEq, Repr

/-- A track that is not FREE (R365 to R369): relative position and velocity in metres, their covariance, and its counts; its
other values stand in 4310h + t. -/
structure Track where
  x : List Rat := []
  p : List (List Rat) := []
  at' : Int := 0
  lastHit : Int := 0
  scans : Nat := 0
  deriving DecidableEq, Repr

/-- A combined solution as the track processor keeps it: whether twin B formed it, instant, latitude, longitude, fix type (R362). -/
structure OwnFix where
  twinB : Bool
  at' : Int
  lat : Int
  lon : Int
  fix : Nat
  deriving DecidableEq, Repr

/-- Relative targets and tracks (chapter 10). -/
structure Tracks where
  tracks : List Track := List.replicate 64 {}
  /-- FREE numbers, longest free first (R367). -/
  free : List Nat := List.range 64
  /-- Scans and broadcast detections that wait (R360, R364). -/
  waiting : List TargetPacket := []
  gyros : List Sample := []
  /-- Combined solutions of the last snapshots (R362). -/
  combined : List OwnFix := []
  table : List TrackLine := []
  doneFor : Int := 0
  deriving DecidableEq, Repr

/-- One axis of the reference model: position, velocity, acceleration, in m or degrees and seconds (R393). -/
structure RefAxis where
  x : Rat := 0
  v : Rat := 0
  a : Rat := 0
  deriving DecidableEq, Repr

/-- The mode and set-points kept for auto-resume (R100): the mode, the target track, and 5010h:03 to 5010h:0B with the set-point
origin 5010h:0F and 5010h:10, in that order. -/
structure KeptMode where
  mode : Nat
  track : Nat
  setPoints : List Int
  deriving DecidableEq, Repr

/-- Modes, reference model and engine (chapter 11); the mode itself stands in 5000h:01. -/
structure Control where
  /-- T0 of the running cycle in TAI ns, and whether one has begun since start-up. -/
  t0 : Int := 0
  cycling : Bool := false
  supervised : Bool := false
  demanded : Bool := false
  allocated : Bool := false
  /-- Cycles since the mode in force was entered; the cycle of entry counts 0 (R616). -/
  cyclesInMode : Nat := 0
  north : RefAxis := {}
  east : RefAxis := {}
  heading : RefAxis := {}
  shareN : Rat := 707 / 1000
  shareE : Rat := 707 / 1000
  /-- Effective horizontal set-point in mm as last judged (R394), the direction of the running leg (R397). -/
  lastSet : Option (Int × Int) := none
  legHeading : Option Rat := none
  /-- Integrators of the mode in force and, while blending, of the mode it replaces (R410). -/
  integ : List Rat := [0, 0, 0]
  oldInteg : List Rat := [0, 0, 0]
  oldMode : Nat := 1
  blendN : Nat := 0
  blendK : Nat := 0
  /-- τ_old held at the frozen demand of a forced change (R411). -/
  frozenOld : Option (List Rat) := none
  /-- Demanded force of the last finished program: X kN, Y kN, N kN·m. -/
  demand : List Rat := [0, 0, 0]
  /-- The demanded force before it, and the instant at which it is ready (R39, R413). -/
  demandBefore : List Rat := [0, 0, 0]
  demandAt : Int := 0
  /-- Sign of the clamp that acted on each axis in the previous cycle (R403). -/
  clampSign : List Int := [0, 0, 0]
  /-- Joystick: receipt instant of the latest write a set has carried, and HOLD-READY (R390), in TAI ns. -/
  joyAt : Option Int := none
  readyAt : Int := 0
  windBadFrom : Option Int := none
  windFade : Rat := 1
  /-- Track and generation that the last accepted request for TGT named (R399). -/
  tgtTrack : Nat := 0
  tgtGeneration : Nat := 0
  /-- Values of the set-point origin before this boundary's writes (R392). -/
  origin : Int × Int := (0, 0)
  /-- A resume that waits for its boundary (R99, R101). -/
  resume : Option KeptMode := none
  /-- Grid point the running cycle or a step consumed last (R130), and whether the set of the running cycle has been executed. -/
  gridAt : Int := 0
  worked : Bool := false
  deriving DecidableEq, Repr

/-- What Capstan keeps between cycles (chapter 12); the previous commands stand in 5100h. -/
structure Alloc where
  /-- Type with which each thruster was allocated in the previous cycle, 0 when it was not. -/
  types : List Nat := List.replicate 32 0
  /-- PBTRIP as its filter holds it, and as the previous snapshot showed it; true is energised (R447). -/
  level : List Bool := List.replicate 8 true
  snap : List Bool := List.replicate 8 true
  reduced : List Bool := List.replicate 8 false
  wrote : List Bool := List.replicate 8 false
  past : List Bool := List.replicate 8 false
  deriving DecidableEq, Repr

/-- One local thruster of a worker between samples (chapter 13): angles in 2^-32 turn, other values with 16 fractional bits;
its state stands in 6080h+j:01. -/
structure Thruster where
  alphaS : Nat := 0
  alphaHat : Nat := 0
  /-- Last α_c applied of an allocated entry (2^-32 turn), and the entry applied last with its cycle number (R487). -/
  alphaC : Nat := 0
  entry : CmdEntry := {}
  entryCycle : Option Nat := none
  omega : Int := 0
  ia : Int := 0
  iy : Int := 0
  ys : Int := 0
  yHat : Int := 0
  current : Int := 0
  ua : Int := 0
  uy : Int := 0
  /-- Sign of the clamp that acted on each loop output in the previous period (R492). -/
  signA : Int := 0
  signY : Int := 0
  invalidRun : Nat := 0
  validRun : Nat := 0
  /-- Entry to the state in force, set-point at entry to STALE-RAMP, since when y_s is zero, since when DRVFB is low. -/
  stateFrom : Nat := 0
  ramp : Int := 0
  zeroFrom : Option Nat := none
  lowFrom : Option Nat := none
  drvfb : Bool := false
  drven : Bool := false
  /-- P5 holds DRVEN and the SF-C outputs off (R620). -/
  forced : Bool := false
  /-- A timed row of Table 13-3 was taken at the sample that opens next. -/
  stepped : Bool := false
  deriving DecidableEq, Repr

/-- One SSI encoder: the last decoded angle, the change that led to it, what this period's burst gave. -/
structure Encoder where
  last : Option Nat := none
  change : Int := 0
  reading : Option Nat := none
  /-- The burst of this period has been read. -/
  done : Bool := false
  deriving DecidableEq, Repr

/-- What a sample instant latches of one chain: its outputs since the last instant, newest first, and its latest valid value. -/
structure ChainIn where
  recent : List (Int × Nat) := []
  value : Option Int := none
  deriving DecidableEq, Repr

/-- The part of a sample input set that is latched at the sample instant (R471): the instant in the outside world's ns, encoders,
chains, DRVFB and SF-A levels, the newest command section, whether its entries are fresh, and its age in ns. -/
structure SampleIn where
  at' : Nat := 0
  enc : List Encoder := []
  chains : List ChainIn := []
  drvfb : List Bool := [false, false]
  sfa : List Bool := [false, false]
  command : Option CmdSection := none
  fresh : Bool := false
  age : Nat := 0
  deriving DecidableEq, Repr

/-- The worker servo (chapter 13). -/
structure Servo where
  thr : List Thruster := [{}, {}]
  enc : List Encoder := [{}, {}, {}, {}]
  /-- The last sample instant on the grid of module time, ns; whether one has passed; whether this period's frames are due. -/
  sampleAt : Int := 0
  sampling : Bool := false
  gridAt : Int := 0
  worked : Bool := false
  framesDue : Bool := false
  fresh : Bool := false
  /-- DRVFB as this twin's own filter and the partner's inputs have it, and what the last sample instant latched. -/
  ownFb : List Bool := [false, false]
  farFb : List Bool := [false, false]
  latch : SampleIn := {}
  deriving DecidableEq, Repr

/-- A warm state or a side store: time of writing, values and variances (R349, R351). -/
structure KeptVec where
  writtenS : Nat
  vals : List Rat
  vars : List Rat
  deriving DecidableEq, Repr



/-- A mailbox declaration of a signed image (Table 23-2). -/
structure MailDecl where
  index : Nat
  ty : Nat
  isOut : Bool
  size : Nat
  dflt : List Byte
  deriving DecidableEq, Repr

/-- A call of a user pair's entry point under way: what it has listed (R762, R766). -/
structure UserCall where
  openedAt : Nat
  /-- a0, a1 and a2 of the call. -/
  first : Bool
  count : Nat
  stamp : Nat
  mail : List (Nat × List Byte) := []
  offset : Option (Int × Int × Int) := none
  /-- The cycle view: values of objects that differ from their defaults, taken when the slot opened (R765). -/
  view : List (Nat × List Byte) := []
  deriving DecidableEq, Repr

/-- One user pair (chapter 23): its running image and mailbox, its memory, the call in progress. -/
structure UserPair where
  image : List Byte := []
  decls : List MailDecl := []
  /-- Values of mailbox objects, by index; an unlisted one holds its declared default. -/
  mail : List (Nat × List Byte) := []
  /-- Tightly coupled memory: bytes by address, an unlisted one 0 (cleared at each load, R774). -/
  tcm : List (Nat × Byte) := []
  call : Option UserCall := none
  /-- The next call is the first after a load or restart (R762). -/
  fresh : Bool := true
  overrunRun : Nat := 0
  lastOpen : Option Nat := none
  /-- The running image is called at its slots; A000h+u:03 may meanwhile report an image being verified or rejected. -/
  runs : Bool := false
  /-- An image being verified, and whether it has been verified and waits for its boundary (R774). -/
  held : Option (List Byte) := none
  loadDue : Bool := false
  /-- Digest of the list last committed, with its cycle or sample count (R777), and the return instant in module time (R766). -/
  list : Option (Nat × Nat) := none
  committedAt : Nat := 0
  deriving DecidableEq, Repr

/-- A configuration image of MRAM (R95, R679). -/
structure Image where
  nums : Store
  blobs : Blobs
  valid : Bool
  deriving DecidableEq, Repr


/-- The state record that a joining twin adopts (R571, Table 15-9), with the objects that belong to it. -/
structure DynState where
  align : Align
  est : Est
  trk : Tracks
  ctl : Control
  alc : Alloc
  srv : Servo
  user : List UserPair
  objects : Store
  deriving DecidableEq, Repr

/-- A write held for its boundary (R593, R684), in the active twin's order of receipt. -/
structure HeldWrite where
  key : Nat
  val : Val
  stamp : Nat
  /-- Engineering session of a guarded write, 0 for none (R708, R717). -/
  session : Nat := 0
  deriving DecidableEq, Repr

/-- What a user pair has committed, as a set carries it (R777): its valid proposal, its mailbox values, the return instant. -/
structure UserOut where
  proposal : Option (Int × Int × Int)
  mail : List (Nat × List Byte)
  at' : Nat
  deriving DecidableEq, Repr

/-- The cut of one input set (R567): cycle or sample count, last included input of each source, horizon, worker feedback and PBTRIP
levels taken, what a worker latched, gate contents, pair events (drill, time step, phase of a slipway transfer), digest. -/
structure SetCut where
  count : Nat
  inputs : List (Nat × Nat)
  horizon : Int
  feedback : List (Option FbRecord)
  levels : List Bool
  sample : SampleIn
  writes : List HeldWrite
  drill : Bool
  stepNs : Option Int
  mark : Nat
  /-- The resume that waits (R99: the input set carries it). -/
  resume : Option KeptMode
  /-- What the user pairs of the active twin have committed (R777). -/
  user : List UserOut
  digest : List Byte
  deriving DecidableEq, Repr

/-- A block of a slipway transfer (Table 15-9): configuration, dynamic state at Bs, input sets from Bs onward to catch up with, or the
mark that opens phase 4. -/
inductive SlipBlock where
  | config (objects : Store) (blobs : Blobs) (sides : List (Option KeptVec)) (current previous : Option Image)
  | dynamic (r : DynState)
  | catchUp (cuts : List SetCut)
  | inStep
  deriving DecidableEq, Repr

end Sys2Proof.Machine
end

