-- ==== Sys2Proof/Syntax.lean ====
section
/-! DEFINITION. The commands of the block: one constructor for each row of spec/opcode_table.json, in its order. The first
operand of every command is the instant at which it happens, in the outside world's nanoseconds (log entry 1). -/

namespace Sys2Proof

open Sys2Proof.Machine

/-- A command. -/
inductive Instr where
  /-- SUPPLIES_VALID (R81): Either input becomes present, the supplies become valid and the start-up timeline begins. -/
  | suppliesValid (t input : Nat) (straps : StrapPads) (v10mV stableNs gaugeMs : Nat)
  /-- STRAP_LEVEL_CHANGE (R19): A strap pad changes level after sampling; the sampled value is kept and 2000h:05 is set. -/
  | strapLevelChange (t : Nat) (pad : StrapName)
  /-- INPUT_PRESENT (R80): A supply input stays above the present threshold for 2 ms and becomes present. -/
  | inputPresent (t input v10mV stableNs : Nat)
  /-- INPUT_ABSENT (R83): One supply input stays below the absent threshold for 50 µs while the other is present; a flag, count and supply event result. -/
  | inputAbsent (t input v10mV stableNs : Nat)
  /-- SUPPLY_WARNING_CHANGE (R85): An input crosses a low-warning or high-warning threshold and its warning flag is set or cleared. -/
  | supplyWarningChange (t input : Nat) (high set : Bool) (v10mV : Nat)
  /-- TOTAL_SUPPLY_LOSS (R89): The second input becomes absent and the module runs the shutdown sequence from the hold-up store. -/
  | totalSupplyLoss (t v10mV stableNs written : Nat)
  /-- SHUTDOWN_END (R90): The internal reset is asserted at the end of the shutdown sequence, and a new start-up timeline may begin. -/
  | shutdownEnd (t : Nat) (straps : StrapPads)
  /-- MRST_N_ACT (R74): MRST_N has read 100,000 consecutive low samples and the module behaves as after total supply loss. -/
  | mrstNAct (t written : Nat)
  /-- MRST_N_RELEASE (R76): MRST_N returns high after acting, and the start-up timeline restarts once the shutdown sequence has ended. -/
  | mrstNRelease (t : Nat) (straps : StrapPads)
  /-- TAP_INSTRUCTION (R77): An instruction loaded into the test access port executes, restricted to IDCODE and BYPASS in ACTIVE or STANDBY. -/
  | tapInstruction (t : Nat) (ir : TapIr)
  /-- HOLDUP_STORE_CHARGED (R86): The hold-up store becomes fully charged after supplies valid. -/
  | holdupStoreCharged (t : Nat) (tornCirc tornPerm : Bool)
  /-- CONFIGURATION_IMAGE_READ (R95): The configuration image is read from MRAM and checked, with fallback to the previous image or to factory defaults. -/
  | configurationImageRead (t : Nat) (currentReads previousReads : Bool)
  /-- RESETS_RELEASED (R93): Gx_RST_N, NA_RST_N and NB_RST_N are released 30 ms after supplies valid. -/
  | resetsReleased (t : Nat)
  /-- PORTS_ENABLED (R93): At 35 ms the links and ports are enabled, SS outputs energised, PAIR_ALIVE_O driven and the object dictionary answers. -/
  | portsEnabled (t : Nat)
  /-- SAFETY_SELF_TEST_DONE (R54): The safety plane completes its start-up self-test, after which the safe outputs may switch. -/
  | safetySelfTestDone (t : Nat) (passed : Bool) (mirrors : List (Bool × Bool))
  /-- HOLD_READY (R94): The estimator warm state is restored, the configuration is applied and the control plane runs with no thrust commanded. -/
  | holdReady (t : Nat) (panelReads : Bool)
  /-- OCXO_WARM (R790): The OCXO oven has stayed within ±0.1 K for 10 s or 4 min has passed, and 2020h:03 [7] is set. -/
  | ocxoWarm (t stableNs : Nat)
  /-- RESUME_ABANDON (R102): No cycle boundary met the resume condition within 10 s, so the resume is abandoned with 2010h:04 at 02h. -/
  | resumeAbandon (t : Nat)
  /-- THERMAL_WARNING (R106): Case or junction temperature rises above its limit; an alarm is raised and 2020h:07 set. -/
  | thermalWarning (t : Nat) (case10 junction10 : Int)
  /-- CYCLE_BOUNDARY (R38): T0 arrives: the pending bank swap is applied, the snapshot is frozen and the manager control cycle begins. -/
  | cycleBoundary (t : Nat)
  /-- MODE_SUPERVISION (R383): P2 completes mode supervision and the reference model once the estimate and the Fender report of the cycle are both available. -/
  | modeSupervision (t : Nat)
  /-- ENGINE_START (R413): The control-law engine runs its fixed 9,000-cycle program after P2 publishes. -/
  | engineStart (t : Nat)
  /-- CAPSTAN_START (R432): At T0 + 600 µs Capstan solves the allocation in exactly 51,200 CAP cycles. -/
  | capstanStart (t : Nat)
  /-- GANDER_COMPARE (R572): At the comparison deadline each twin compares output and state digests and counts a miss or divergence. -/
  | ganderCompare (t : Nat)
  /-- RING_FRAME_START (R515): The active manager twin originates a ring frame on both rings, including the command section at T0 + Φ. -/
  | ringFrameStart (t : Nat)
  /-- RING_PACKET_FORWARD (R514): A node forwards a ring packet from one port to the other, complementing failed CRCs. -/
  | ringPacketForward (t port : Nat) (pkt : List Byte) (twin : Twin)
  /-- COMMAND_SECTION_RX (R486): A worker receives an intact command section and takes its entries for the next sample. -/
  | commandSectionRx (t port : Nat) (pkt : List Byte) (subPs : Nat)
  /-- COMMAND_SECTION_RETURN (R523): The originator receives its command section back and measures the loop times D1 and D2. -/
  | commandSectionReturn (t ringNo : Nat) (pkt : Option (List Byte)) (subPs : Nat)
  /-- SYNC_PACKET_RX (R524): A node receives a sync packet and steers its module time from the stamped arrival of the command sections. -/
  | syncPacketRx (t port : Nat) (pkt : List Byte)
  /-- FEEDBACK_PACKET_PASS (R519): A node fills its feedback slot and increments the hop counter as the feedback packet passes. -/
  | feedbackPacketPass (t port : Nat) (pkt : List Byte) (twin : Twin)
  /-- FEEDBACK_PACKET_RETURN (R537): The originator receives the feedback packet, derives order numbers and assigns pair ownership. -/
  | feedbackPacketReturn (t ringNo : Nat) (pkt : List Byte)
  /-- OWNER_EXPIRY (R537): Neither owning twin's slot has returned for 1.0 s and the pair number loses its owner. -/
  | ownerExpiry (t pair : Nat)
  /-- CONTAINER_PASS (R536): A granted node fills its container, or a destination node reads an intact container addressed to it. -/
  | containerPass (t port : Nat) (pkt : List Byte) (twin : Twin)
  /-- RING_LINK_DOWN (R531): A Wymal port's link goes down and the node wraps at that port. -/
  | ringLinkDown (t port : Nat) (cause : LinkCause) (heldNs : Nat)
  /-- RING_UNWRAP (R532): After 100 consecutive intact command sections the node unwraps the port in the frame guard. -/
  | ringUnwrap (t port : Nat)
  /-- RING_TIME_LOSS (R526): No intact sync packet has arrived for 10 ms and the node enters holdover. -/
  | ringTimeLoss (t : Nat)
  /-- SAMPLE_BOUNDARY (R469): A worker sample instant latches feedback, applies the command entry and gate settings, and runs the servo datapath. -/
  | sampleBoundary (t : Nat)
  /-- SSI_BURST (R474): The clock burst of an SSI encoder begins L_e before the sample instant and reads the position word. -/
  | ssiBurst (t encoder word : Nat) (lowAtStart : Bool)
  /-- DAC_FRAME (R504): At Ts/8 the active worker twin changes DRVEN and sends the DAC frame, ending with LDAC_N. -/
  | dacFrame (t : Nat)
  /-- DRVFB_CHANGE (R499): A DRVFB level that has held for 200 µs is accepted into the sample input set. -/
  | drvfbChange (t thruster : Nat) (energised : Bool) (heldNs : Nat)
  /-- ENABLE_TIMEOUT (R494): ENABLING has lasted the enable timeout and the thruster enters FAULT. -/
  | enableTimeout (t thruster : Nat)
  /-- DRIVE_DROP_TIMEOUT (R494): DRVFB has been de-energised beyond its tolerance in a running state and the thruster enters FAULT. -/
  | driveDropTimeout (t thruster : Nat)
  /-- STALE_HOLD_TIMEOUT (R494): STALE-HOLD has lasted 6000h:02 and the thruster enters STALE-RAMP. -/
  | staleHoldTimeout (t thruster : Nat)
  /-- OFF_DELAY_EXPIRY (R494): y_s has been zero for the off delay in OPENING or STALE-RAMP and the thruster enters DISABLED. -/
  | offDelayExpiry (t thruster : Nat)
  /-- SERVO_RATE_WRITE (R468): A write of the servo rate is checked and takes effect at a sample boundary on the new grid. -/
  | servoRateWrite (t : Nat) (c : Client) (via : OdVia) (value : Int)
  /-- SERVO_BANK_SWAP (R508): A write of 01h to 6048h:02 sets a worker bank swap pending, applied to both thrusters at a sample boundary. -/
  | servoBankSwap (t : Nat) (c : Client) (via : OdVia)
  /-- SERVO_BANK_COPY (R507): A write of 02h to 6048h:02 copies the active worker bank into the inactive bank. -/
  | servoBankCopy (t : Nat) (c : Client) (via : OdVia)
  /-- TIME_SECONDS_READ (R120): A read of 2100h:01 latches 2100h:02 and 2100h:03 for that client. -/
  | timeSecondsRead (t : Nat) (c : Client) (via : OdVia)
  /-- TIME_FIRST_SET (R121): Module time is first set by a step from the first qualified source or coarse time. -/
  | timeFirstSet (t : Nat) (src : TimeOrigin) (taiNs : Nat) (taiUtc : Int)
  /-- TIME_SOURCE_QUALIFY (R124): A GNSS or PTP source meets its qualification condition. -/
  | timeSourceQualify (t source : Nat) (offsetPs : Int) (uncertaintyNs : Nat)
  /-- TIME_SOURCE_CHANGE (R125): At the next second boundary the servo changes to a qualified source and forms the return error. -/
  | timeSourceChange (t : Nat) (offsetPs : Int) (uncertaintyNs : Nat)
  /-- TIME_SOURCE_LOSS (R126): The selected source is lost or its grandmaster changes and module time enters holdover. -/
  | timeSourceLoss (t source : Nat) (grandmaster : Option Nat)
  /-- SLEW_DONE (R144): The slewed offset falls below 10 ns and the time state leaves slewing. -/
  | slewDone (t : Nat)
  /-- TIME_STEP (R145): An announced step of module time is applied at its pulse and the straddling cycle and servo period are adjusted. -/
  | timeStep (t : Nat)
  /-- PPS_PULSE (R147): Each enabled output emits a pulse at the second boundary less its cable compensation. -/
  | ppsPulse (t output sec : Nat)
  /-- PPS_SETTING_WRITE (R149): A write of cable compensation or width takes effect at the first pulse at least 0.5 s later. -/
  | ppsSettingWrite (t : Nat) (c : Client) (via : OdVia) (output : Nat) (compensation : Bool) (value : Int)
  /-- TIME_MESSAGE (R152): The time message of a pulse is issued as 2130h and as PSDUT sentences 10 ms to 100 ms after the pulse. -/
  | timeMessage (t : Nat)
  /-- PTP_EVENT_RX (R135): A PTP event message is stamped at the SGMII pads and processed by the ordinary clock. -/
  | ptpEventRx (t inst port : Nat) (head : PtpHead) (msg : PtpMsg)
  /-- PTP_TRANSPARENT_FORWARD (R136): The transparent clock forwards an event message and adds its residence time to the correctionField. -/
  | ptpTransparentForward (t inst : Nat) (fromPort1 : Bool) (kind : PtpFwd) (ingressPs egressPs correctionPs : Int)
  /-- FRAMING_LOCK (R165): A GNSS IF port sees 64 consecutive correct Gx_FRM patterns and declares framing lock. -/
  | framingLock (t port : Nat) (frm : List Bool)
  /-- FRAMING_ERROR (R165): A sample with a wrong framing pattern is counted and passed as zero. -/
  | framingError (t port sampleNo : Nat) (frm : List Bool)
  /-- IF_CLOCK_CHECK (R166): Each millisecond Gx_CLK is measured against module time and judged in or out of range. -/
  | ifClockCheck (t port milliHz sampleNo : Nat)
  /-- PORT_FAULT (R167): Framing errors, clock range or clock absence fault the port and send its channels to OFF. -/
  | portFault (t port : Nat) (cause : PortFaultCause)
  /-- PORT_RETRY (R167): One second after a port fault the port searches for framing lock again. -/
  | portRetry (t port : Nat)
  /-- FRONTEND_INIT (R169): The front-end initialisation sequence of 3000h:07 is written over SPI. -/
  | frontendInit (t port : Nat)
  /-- STREAM_LEVEL_CHECK (R172): Over each 1 ms the stream level and clipping are judged and the level alarms set. -/
  | streamLevelCheck (t port stream : Nat) (counts : List Nat)
  /-- CHANNEL_ASSIGN (R175): P1 assigns channels to predicted satellites and signals, or blind under R176. -/
  | channelAssign (t port : Nat) (sky : List SatPrediction)
  /-- CHANNEL_RELEASE (R177): P1 releases a channel whose satellite sets or is unhealthy. -/
  | channelRelease (t port c : Nat) (elevation10 : Int) (unhealthy : Bool)
  /-- ACQ_JOB_START (R183): The FFT engine starts the next queued search job in priority order. -/
  | acqJobStart (t : Nat)
  /-- ACQ_JOB_END (R181): A search job ends and detects or fails to detect each satellite. -/
  | acqJobEnd (t : Nat) (capture : List (List IfSample)) (first last : Nat)
  /-- INTEGRATION_DUMP (R191): At each integration dump the carrier and code loops update their NCOs. -/
  | integrationDump (t port c : Nat) (samples : List IfSample) (nav : Option NavEvent)
  /-- DETECTOR_WINDOW (R199): After 20 integrations the lock detectors form C/N0, PLI and FLI and channel transitions are evaluated. -/
  | detectorWindow (t port c : Nat)
  /-- PULLIN_TIMEOUT (R185): A channel has spent 200 ms in PULLIN without lock and returns to SEARCH. -/
  | pullinTimeout (t port c : Nat)
  /-- REACQ_TIMEOUT (R185): The reacquisition window expires and the channel returns to SEARCH. -/
  | reacqTimeout (t port c : Nat)
  /-- MEASUREMENT_INSTANT (R209): The baseband latches every channel at a measurement instant. -/
  | measurementInstant (t : Nat)
  /-- MEASUREMENT_RECORD_READY (R212): P1 offers the measurement record of an instant to the data plane. -/
  | measurementRecordReady (t : Nat)
  /-- SOLUTION_READY (R218): P1 completes the GA, GB, GC or combined position solution of an instant. -/
  | solutionReady (t which : Nat)
  /-- ATTITUDE_READY (R228): P1 completes the baseline states and attitude of an instant. -/
  | attitudeReady (t : Nat)
  /-- KEPT_DATA_WRITE (R231): An item decoded identically twice, or the last position every 60 s, is written to MRAM. -/
  | keptDataWrite (t : Nat) (w : KeptWrite)
  /-- KEPT_DATA_ERASE (R233): A guarded write of 01h to 3330h:08 erases that twin's kept data. -/
  | keptDataErase (t : Nat) (c : Client) (via : OdVia)
  /-- HARBOUR_MODE_ON (R235): A write of 01h to 3340h:01 is checked and puts the baseband to sleep at its gate boundary. -/
  | harbourModeOn (t : Nat) (c : Client) (via : OdVia)
  /-- HARBOUR_MODE_OFF (R238): A write of 00h to 3340h:01 or an engage command ends harbour mode at the cycle boundary. -/
  | harbourModeOff (t : Nat) (c : Client) (via : OdVia)
  /-- HARBOUR_WAKE (R237): A wake interval expires and the baseband wakes for ephemeris refresh. -/
  | harbourWake (t : Nat)
  /-- HARBOUR_WAKE_END (R237): The wake duration, with any extension, ends and the baseband sleeps again. -/
  | harbourWakeEnd (t : Nat) (lacking : Bool)
  /-- PACKET_COMMIT (R258): A serial packet's last character passes the checks and the packet is committed with one notice. -/
  | packetCommit (t port : Nat)
  /-- PACKET_DISCARD (R250): A sentence or binary packet is malformed and is discarded and counted. -/
  | packetDiscard (t port : Nat)
  /-- PACKET_GAP_TIMEOUT (R253): The gap or duration limit of a packet expires and it is closed as malformed. -/
  | packetGapTimeout (t port : Nat)
  /-- QUEUE_READ (R259): A consumer reads a word of the intake queue, or the idle word when none is committed. -/
  | queueRead (t port : Nat)
  /-- PACKET_CONSUME (R263): The port's consumer reads a committed packet after its notice and passes it to its decoder or the recorder. -/
  | packetConsume (t port : Nat) (d : Option Decoded)
  /-- CHAIN_OUTPUT (R271): A filter chain produces an output word with its stamp and validity. -/
  | chainOutput (t chain input : Nat) (edges : List SdEdge)
  /-- CHAIN_CLOCK_WINDOW (R268): Each 100 µs the chain's clock edges are counted and range and steps judged. -/
  | chainClockWindow (t chain edges : Nat)
  /-- CHAIN_CLOCK_LOSS (R268): The chain's clock has no edge for 1 µs and is out of range. -/
  | chainClockLoss (t chain silentNs : Nat)
  /-- SOURCE_EXCLUSION (R294): A source has been time-suspect for 30 s and is excluded. -/
  | sourceExclusion (t source : Nat)
  /-- SOURCE_READMIT (R294): A write of 01h to 4120h:09 re-admits an excluded source. -/
  | sourceReadmit (t : Nat) (c : Client) (via : OdVia) (source : Nat)
  /-- WARM_STATE_WRITE (R351): Every 10 s P0 writes a warm state to MRAM. -/
  | warmStateWrite (t : Nat)
  /-- CALIBRATION_COMMIT (R348): A write of 01h to 4230h:05 commits the calibration states to the side stores at the next boundary. -/
  | calibrationCommit (t : Nat) (c : Client) (via : OdVia)
  /-- TRACK_PROCESSING (R359): Once the input set is agreed, the target packets are associated and tracks updated. -/
  | trackProcessing (t : Nat)
  /-- TRACK_DELETE (R368): A write of 01h to 4310h:0D deletes the track at its gate boundary. -/
  | trackDelete (t : Nat) (c : Client) (via : OdVia) (track : Nat)
  /-- TRACK_TIMEOUT (R368): A track has had no hit for 10 s of module time and is freed. -/
  | trackTimeout (t track : Nat)
  /-- MODE_REQUEST (R384): A request for JOY, HDG, POS, TRK or TGT is evaluated at its boundary and accepted, held or refused. -/
  | modeRequest (t : Nat)
  /-- DISENGAGE_REQUEST (R381): A request of 01h sends the manager to DISENGAGED. -/
  | disengageRequest (t : Nat)
  /-- BOLLARD_REQUEST (R381): A request of 07h sends the manager to BOLLARD. -/
  | bollardRequest (t : Nat)
  /-- JOYSTICK_WRITE (R390): A joystick axis write with its receipt stamp enters the command block. -/
  | joystickWrite (t : Nat) (c : Client) (via : OdVia) (axis : Nat) (value : Int)
  /-- CONTROL_RATE_WRITE (R420): A write of 5001h:01 is checked and takes effect at a boundary on the new Tc grid. -/
  | controlRateWrite (t : Nat) (c : Client) (via : OdVia) (value : Int)
  /-- OUTPUT_PHASE_WRITE (R422): A write of Φ is checked and takes effect at its boundary, re-phasing the ring frames. -/
  | outputPhaseWrite (t : Nat) (c : Client) (via : OdVia) (value : Int)
  /-- BANK_SWAP (R429): A write of 01h to 5038h:02 sets a swap pending, applied at the first boundary whose set carries it. -/
  | bankSwap (t : Nat) (c : Client) (via : OdVia)
  /-- BANK_COPY (R428): A write of 02h to 5038h:02 copies the active bank into the inactive bank at once. -/
  | bankCopy (t : Nat) (c : Client) (via : OdVia)
  /-- PBTRIP_CHANGE (R447): A PBTRIP level held for 1.0 ms is accepted, and a trip reduction comes into force on the enabled bus. -/
  | pbtripChange (t bus : Nat) (energised : Bool) (heldNs : Nat)
  /-- BUS_LIMIT_WRITE (R448): A write of the bus limit takes effect at its boundary and ends a trip reduction. -/
  | busLimitWrite (t : Nat) (c : Client) (via : OdVia) (bus : Nat) (value : Int)
  /-- ALLOCATION_WRITE (R461): A write of 5100h:01 opens a thruster's loop or puts it into allocation at its boundary. -/
  | allocationWrite (t : Nat) (c : Client) (via : OdVia) (thruster : Nat) (value : Int)
  /-- GEOMETRY_WRITE (R460): A write to a geometry record or table is checked against banking or the thruster's allocation state. -/
  | geometryWrite (t : Nat) (c : Client) (via : OdVia) (index sub : Nat) (v : Val)
  /-- GEOMETRY_MODE_WRITE (R463): A write of 5130h:01 changes the geometry mode and moves records between slots. -/
  | geometryModeWrite (t : Nat) (c : Client) (via : OdVia) (value : Int)
  /-- TW_MESSAGE_RX (R546): A Terward message is received and judged intact or discarded. -/
  | twMessageRx (t lane : Nat) (words : List (List Byte))
  /-- INPUT_MESSAGE (R565): An INPUT message adds a partner's committed input to the pool. -/
  | inputMessage (t : Nat) (inp : PairInput)
  /-- SET_MESSAGE (R568): The standby receives SET, builds the set, checks the digest and returns SET-ACK. -/
  | setMessage (t : Nat) (cut : SetCut)
  /-- SET_ACK_MESSAGE (R567): The active twin receives a matching SET-ACK and the set is agreed. -/
  | setAckMessage (t count : Nat) (digest : List Byte)
  /-- DIGEST_MESSAGE (R572): A DIGEST message delivers the partner's output and state digests for comparison. -/
  | digestMessage (t count : Nat) (output : List Byte) (st : Nat) (lists : List (Option Nat))
  /-- TIME_MESSAGE_TW (R550): A Terward TIME message is stamped and answered for the replica channel. -/
  | timeMessageTw (t lane : Nat) (there back : Int) (err : Option Nat) (step : Option (Int × Nat))
  /-- TIME_MESSAGE_SEND (R550): Every 1 ms the active twin sends a TIME message on each lane that is up. -/
  | timeMessageSend (t : Nat)
  /-- WRITE_MESSAGE (R592): A WRITE message carries a pair-wide or rw-mapped write to the partner. -/
  | writeMessage (t key : Nat) (v : Val) (stamp : Nat) (verdict : Option Nat) (src : Option (Nat × Nat))
  /-- SLIPWAY_MESSAGE (R586): A joining twin receives one block of a slipway transfer. -/
  | slipwayMessage (t : Nat) (b : SlipBlock) (progress : Nat)
  /-- JOIN_REQUEST (R586): A twin entering SLIPWAY sends a join request and the active twin starts the transfer. -/
  | joinRequest (t : Nat)
  /-- HARD_FAULT_NOTICE (R575): A CONTROL message notifies the partner of a hard fault. -/
  | hardFaultNotice (t : Nat)
  /-- PARTNER_DEMAND (R601): A CONTROL message carries a change of the partner's SF-A or SF-C demand, cross-tripping when enabled. -/
  | partnerDemand (t demands : Nat)
  /-- HEARTBEAT_SEND (R544): A twin that has sent nothing on a lane for 10 µs sends a heartbeat. -/
  | heartbeatSend (t lane : Nat)
  /-- RELEASE (R549): Two consecutive intact RELEASE blocks are accepted on a lane. -/
  | release (t lane blocks : Nat)
  /-- LANE_DOWN (R544): A Terward lane goes down on LOS, loss of block lock or 30 µs of silence. -/
  | laneDown (t lane : Nat) (cause : LinkCause) (heldNs : Nat) (alive : Bool)
  /-- LANE_UP (R544): A lane comes up after block lock and 100 intact messages, and role resolution may follow. -/
  | laneUp (t lane : Nat) (far : FarStraps) (partner : Option PairRole) (partnerActiveNs : Nat)
  /-- PARTNER_GONE (R554): Link lost, PAIR_ALIVE_I low and partner absent from the rings for 1.0 ms. -/
  | partnerGone (t lowNs : Nat)
  /-- STARTUP_WAIT_EXPIRY (R558): The start-up wait ends with the link still lost, leading to WATCH or the claim rule. -/
  | startupWaitExpiry (t : Nat) (alive : Bool)
  /-- CLAIM_WAIT_EXPIRY (R559): TAKE_OVER_I has stayed low for the claim wait and the twin becomes ACTIVE. -/
  | claimWaitExpiry (t : Nat)
  /-- BOTH_ACTIVE_CONFLICT (R560): An ACTIVE twin reads TAKE_OVER_I high for 1.0 ms with the link lost. -/
  | bothActiveConflict (t : Nat)
  /-- TAKE_OVER_I_FALL (R576): A filtered fall of TAKE_OVER_I after 1.0 ms high triggers takeover in a STANDBY twin. -/
  | takeOverIFall (t : Nat)
  /-- TAKEOVER (R577): The standby twin takes over, enables its outputs and continues the open cycle or period. -/
  | takeover (t : Nat)
  /-- HARD_FAULT (R575): A detector declares a hard fault, the twin disables its outputs, sends RELEASE and turns TAKE_OVER_O off. -/
  | hardFault (t : Nat) (d : FaultDetector)
  /-- SUSPECT_SELF_TEST_DONE (R563): A SUSPECT twin finishes the self-test of the faulty unit. -/
  | suspectSelfTestDone (t : Nat) (passed : Bool)
  /-- REJOIN_WRITE (R563): A write of 01h to 8000h:06 makes a SUSPECT twin rejoin after a passed self-test. -/
  | rejoinWrite (t : Nat) (c : Client) (via : OdVia) (value : Int)
  /-- AUTO_REJOIN (R563): 60 s after a passed self-test a SUSPECT twin rejoins automatically when allowed. -/
  | autoRejoin (t : Nat)
  /-- SLIPWAY_COMPLETE (R586): The transfer completes and ten matching comparisons make the joining twin STANDBY. -/
  | slipwayComplete (t : Nat)
  /-- SLIPWAY_FAIL (R588): A slipway transfer fails on link loss, role change or divergence. -/
  | slipwayFail (t : Nat)
  /-- SLIPWAY_RETRY (R588): Ten seconds after a failed transfer the twin tries again. -/
  | slipwayRetry (t : Nat)
  /-- DRILL_DUE (R582): A scheduled swap drill falls due and is placed in the set, deferred or skipped. -/
  | drillDue (t : Nat)
  /-- DRILL_NOW (R585): A write of 01h to 8030h:03 requests a swap drill at the next boundary. -/
  | drillNow (t : Nat) (c : Client) (via : OdVia) (value : Int)
  /-- SAFE_INPUT_CHANGE (R603): A safe input level held for its filter time is accepted and the functions using it evaluate. -/
  | safeInputChange (t input : Nat) (energised : Bool) (heldNs : Nat)
  /-- SF_A_DISCREPANCY (R610): The two SF-A channels have differed for longer than the discrepancy time. -/
  | sfADiscrepancy (t thruster : Nat)
  /-- SF_A_RESET_PULSE (R610): The falling edge of a valid reset-input pulse resets SF-A. -/
  | sfAResetPulse (t thruster : Nat)
  /-- TEST_PULSE (R602): Each energised SS is pulsed low for 500 µs in its slot of the 80 ms frame. -/
  | testPulse (t supply : Nat) (before : List Bool) (drops : List (Option Nat))
  /-- TEST_FRAME_CHECK (R604): At the end of each test frame the SI checks are judged and confirmed faults latched. -/
  | testFrameCheck (t : Nat)
  /-- SS_OVERLOAD (R605): An SS exceeds 0.30 A for 100 µs and is turned off. -/
  | ssOverload (t supply milliamps heldNs : Nat)
  /-- SS_RETRY (R605): One second after an overload the SS is tried again. -/
  | ssRetry (t supply : Nat)
  /-- SO_CHANNEL_TEST (R608): Once per second a channel of an energised safe output is switched off for 200 µs and checked. -/
  | soChannelTest (t output channel : Nat) (first second rb1 rb2 : Bool)
  /-- SO_READBACK_TIMEOUT (R609): The drop or pull-in time passes and the mirror contact is judged for SF-E. -/
  | soReadbackTimeout (t output : Nat) (rb1 rb2 : Bool)
  /-- SF_A_REMOTE_RESET (R610): A write of an SF-A bit to 7000h:04 resets SF-A when remote reset is enabled. -/
  | sfARemoteReset (t : Nat) (c : Client) (via : OdVia) (value : Int)
  /-- SAFETY_RESET (R611): A write of an SF-B, SF-D or SF-E bit to 7000h:04 resets the latched demand when its trigger is absent. -/
  | safetyReset (t : Nat) (c : Client) (via : OdVia) (value : Int)
  /-- SUPERVISION_FAULT (R621): A rail or clock leaves its band, every safe output goes off and a hard fault is declared. -/
  | supervisionFault (t what rail deviation : Nat)
  /-- SAFE_PRODUCE (R632): At a production instant the module sends a produced safe message under its scheme. -/
  | safeProduce (t k : Nat)
  /-- SAFE_FRAME_RX (R642): A consumed safe frame or pair is checked and accepted, discarded or counted. -/
  | safeFrameRx (t net peer : Nat) (supervision : Bool) (frame trailer : List Byte)
  /-- PAIRING_WINDOW_END (R645): The pairing window of a sequence number ends without a copy from one network. -/
  | pairingWindowEnd (t k : Nat)
  /-- CHANNEL_REPORT_RX (R641): A producer receives a channel report and takes its requested scheme. -/
  | channelReportRx (t net peer : Nat) (frame : List Byte)
  /-- CHANNEL_REPORT_SEND (R641): A consumer sends a channel report each period or on a scheme change. -/
  | channelReportSend (t k : Nat)
  /-- PROBE_SEND (R640): Under Birrath the producer sends a probe frame each second on the other network. -/
  | probeSend (t k : Nat)
  /-- CONNECTION_LOST (R648): The time expectation expires and the consumed connection applies its loss action. -/
  | connectionLost (t k : Nat)
  /-- PRP_SUPERVISION_SEND (R639): A PRP supervision frame is sent on both networks every supervision interval. -/
  | prpSupervisionSend (t : Nat)
  /-- SAFE_TEST_COMMAND (R647): A write of 7120h:0D starts or ends a test scheme on a consumed connection. -/
  | safeTestCommand (t : Nat) (c : Client) (via : OdVia) (k : Nat) (value : Int)
  /-- SDO_REQUEST (R664): An SDO request on a CAN port is served by that port's SDO server. -/
  | sdoRequest (t port cobId : Nat) (req : SdoReq)
  /-- TRANSFER_TIMEOUT (R683): 1.0 s passes between segments and the segmented transfer aborts. -/
  | transferTimeout (t : Nat) (c : Client)
  /-- RPDO_RX (R667): A received RPDO writes its mapped rw-mapped objects with its receipt stamp. -/
  | rpdoRx (t port cobId : Nat) (data : List Byte)
  /-- SYNC_RX (R697): A SYNC frame is counted once across both ports and synchronous TPDOs fall due. -/
  | syncRx (t port cobId : Nat) (counter : Option Nat)
  /-- TPDO_SEND (R696): A TPDO is sent at its SYNC count or event timer, respecting the inhibit time. -/
  | tpdoSend (t p : Nat)
  /-- NMT_COMMAND (R693): An NMT command changes the twin's NMT state. -/
  | nmtCommand (t port : Nat) (cmd : NmtCmd) (node : Nat)
  /-- CAN_HEARTBEAT (R692): Each heartbeat interval the twin sends its NMT state on every non-bus-off port. -/
  | canHeartbeat (t : Nat)
  /-- OD_READ (R669): An OD message read returns up to 1,400 bytes of a value from an offset. -/
  | odRead (t : Nat) (c : Client) (broadcast : Bool) (msg : List Byte)
  /-- OD_WRITE (R669): An OD message write delivers a value or a segment at an offset. -/
  | odWrite (t : Nat) (c : Client) (broadcast : Bool) (msg : List Byte)
  /-- SESSION_OPEN (R673): Opcode 03h opens a session challenge with a module nonce and session ID. -/
  | sessionOpen (t : Nat) (c : Client) (broadcast : Bool) (msg : List Byte)
  /-- SESSION_AUTHENTICATE (R673): Opcode 04h checks the client tag and opens the engineering session. -/
  | sessionAuthenticate (t : Nat) (c : Client) (broadcast : Bool) (msg : List Byte)
  /-- SESSION_CLOSE (R676): Opcode 05h closes the network session. -/
  | sessionClose (t : Nat) (c : Client) (broadcast : Bool) (msg : List Byte)
  /-- CLIENT_NONCE (R675): A write of 1E20h:01 ends the open CAN session and produces a new challenge. -/
  | clientNonce (t : Nat) (c : Client) (via : OdVia) (nonce : List Byte)
  /-- CLIENT_TAG (R675): A write of 1E20h:03 authenticates and opens the CAN session. -/
  | clientTag (t : Nat) (c : Client) (via : OdVia) (clientTag : List Byte)
  /-- SESSION_CLOSE_WRITE (R676): A write of 01h to 1E20h:06 closes the session of that port. -/
  | sessionCloseWrite (t : Nat) (c : Client) (via : OdVia) (value : Int)
  /-- SESSION_IDLE_TIMEOUT (R676): A session has had no guarded request for the idle timeout and ends. -/
  | sessionIdleTimeout (t : Nat) (c : Client)
  /-- PAIR_KEY_WRITE (R677): A guarded write of 1E20h:09 installs the pair key and ends sessions. -/
  | pairKeyWrite (t : Nat) (c : Client) (via : OdVia) (key : List Byte)
  /-- LOCKOUT_EXPIRY (R678): The 600 s session-opening lockout ends. -/
  | lockoutExpiry (t : Nat)
  /-- CLIENT_FORGET (R670): A client silent for 60 s is forgotten with its read window. -/
  | clientForget (t : Nat) (c : Client)
  /-- STORE_PARAMETERS (R680): A write of 65766173h to 1010h stores the configuration image at the boundary that carries it. -/
  | storeParameters (t : Nat) (c : Client) (via : OdVia) (part : Nat) (value : Int)
  /-- RESTORE_DEFAULTS (R681): A write of 64616F6Ch to 1011h builds an image with factory defaults for the next power-up. -/
  | restoreDefaults (t : Nat) (c : Client) (via : OdVia) (part : Nat) (value : Int)
  /-- OBJECT_WRITE (R658): A write to an object without a row of its own is checked for access, length, value and state and applied. -/
  | objectWrite (t : Nat) (c : Client) (via : OdVia) (index sub : Nat) (v : Val)
  /-- RECORD_ACCEPT (R709): The recorder accepts a record from an intake queue, numbers it and stores it. -/
  | recordAccept (t : Nat)
  /-- RECORD_DROP (R710): A producer whose queue cannot hold its record drops it and counts the loss. -/
  | recordDrop (t : Nat) (plane : Plane) (payload : Nat)
  /-- DIRECTORY_UPDATE (R720): The recorder directory write position is updated at least every 1.0 s. -/
  | directoryUpdate (t : Nat)
  /-- RECORDER_SEAL (R717): A guarded write of 6C616573h to 9001h:02 seals both recorders at its boundary. -/
  | recorderSeal (t : Nat) (c : Client) (via : OdVia)
  /-- RECORDER_UNSEAL (R718): A guarded write of 6E65706Fh to 9001h:03 erases the permanent areas and unseals. -/
  | recorderUnseal (t : Nat) (c : Client) (via : OdVia)
  /-- WINDOW_CAPTURE (R721): A read of 9002h:03 at offset 0 captures the record at the cursor into the client's window. -/
  | windowCapture (t : Nat) (c : Client) (via : OdVia)
  /-- AREA_WRITE (R723): A write of 9002h:01 selects the area, resets the cursor and empties the window. -/
  | areaWrite (t : Nat) (c : Client) (via : OdVia) (value : Int)
  /-- CURSOR_WRITE (R723): A write of 9002h:02 sets the cursor and empties the window. -/
  | cursorWrite (t : Nat) (c : Client) (via : OdVia) (value : Int)
  /-- PANEL_HALF_CYCLE (R725): Each 32 PANEL cycles the drive waveform advances one half-cycle. -/
  | panelHalfCycle (t : Nat)
  /-- PANEL_FRAME_END (R731): A panel frame finishes its last guard half-cycle and the latched rows start the next frame. -/
  | panelFrameEnd (t : Nat)
  /-- PANEL_UPDATE_REQUEST (R730): A changed shown value recomposes the image and requests the differing rows. -/
  | panelUpdateRequest (t : Nat)
  /-- PANEL_ENABLE_WRITE (R732): A write of 9100h:01 disables the panel or requests a full update. -/
  | panelEnableWrite (t : Nat) (c : Client) (via : OdVia) (value : Int)
  /-- READ_CLEAR_ARM (R743): A write of 9200h:08 names an object for the client's next read-clear. -/
  | readClearArm (t : Nat) (c : Client) (via : OdVia) (value : Int)
  /-- READ_CLEAR (R743): The next read of the named object within 1.0 s returns and clears it. -/
  | readClear (t : Nat) (c : Client) (via : OdVia) (index sub : Nat)
  /-- SCRUB_PASS (R748): The management plane completes a scrub pass over SRAM, DRAM and MRAM. -/
  | scrubPass (t : Nat) (corrected : List Nat)
  /-- UNCORRECTABLE_WORD (R747): An uncorrectable symbol-code word has the effect Table 22-1 gives for its place. -/
  | uncorrectableWord (t : Nat) (place : WordPlace) (data read : List Byte) (address : Nat)
  /-- INJECTION_ARM (R750): A write of 01h to 9200h:04 arms an injection after checking detector, instance and count. -/
  | injectionArm (t : Nat) (c : Client) (via : OdVia)
  /-- INJECTION_CANCEL (R754): A write of 00h to 9200h:04 cancels an armed or running injection. -/
  | injectionCancel (t : Nat) (c : Client) (via : OdVia)
  /-- INJECTION (R752): At the boundary due, one injection of the count is made after checking its class condition. -/
  | injection (t : Nat)
  /-- DETECTION_TIMEOUT (R752): The detector has not declared within 1.0 s of an injection and an alarm is raised. -/
  | detectionTimeout (t : Nat)
  /-- LINK_TEST_GENERATE (R755): Mode 01h starts a PRBS31 generate-and-check test on a Terward lane or Wymal port. -/
  | linkTestGenerate (t : Nat) (c : Client) (via : OdVia) (l : Nat)
  /-- LINK_TEST_CHECK (R756): Mode 02h starts a check-only PRBS31 test. -/
  | linkTestCheck (t : Nat) (c : Client) (via : OdVia) (l : Nat)
  /-- LINK_TEST_LOOPBACK (R757): Mode 03h starts a loopback test on a serial or CAN port. -/
  | linkTestLoopback (t : Nat) (c : Client) (via : OdVia) (l : Nat)
  /-- LINK_TEST_STOP (R758): A write of 00h to 9210h:01 ends a link test and returns the link to service. -/
  | linkTestStop (t : Nat) (c : Client) (via : OdVia) (l : Nat)
  /-- LINK_TEST_TIME_LIMIT (R758): The elapsed time reaches the time limit and the link test ends. -/
  | linkTestTimeLimit (t l : Nat)
  /-- LOOPBACK_FRAME (R757): A loopback frame is sent and checked on reception or timeout. -/
  | loopbackFrame (t l : Nat) (received : Option (List Byte))
  /-- USER_SLOT_OPEN (R762): A user pair's slot opens and the image's entry point is called. -/
  | userSlotOpen (t u : Nat)
  /-- OD_READ_CALL (R765): Environment call 01h reads an object from the cycle view. -/
  | odReadCall (t u index sub buffer length : Nat)
  /-- MB_WRITE (R767): Environment call 02h lists a value for one of the pair's own out mailbox objects. -/
  | mbWrite (t u index sub buffer : Nat) (value : List Byte)
  /-- PROPOSE (R768): Environment call 03h lists an advisory set-point offset proposal. -/
  | propose (t u : Nat) (north east heading : Int)
  /-- RETURN (R766): Environment call 04h ends the call and commits its list. -/
  | returnCall (t u : Nat)
  /-- SLOT_OVERRUN (R763): A call has not returned by the end of its slot and is abandoned. -/
  | slotOverrun (t u : Nat)
  /-- USER_PAIR_FAULT (R770): A user pair faults and is stopped without affecting the twin's role. -/
  | userPairFault (t u cause : Nat)
  /-- USER_PAIR_RUN (R771): A write of 01h to A000h:01 restarts the pair at its boundary with the TCM reloaded. -/
  | userPairRun (t : Nat) (c : Client) (via : OdVia) (u : Nat)
  /-- USER_PAIR_STOP (R771): A write of 00h to A000h:01 stops the pair at its boundary. -/
  | userPairStop (t : Nat) (c : Client) (via : OdVia) (u : Nat)
  /-- IMAGE_WRITE (R773): A written signed image is checked for length and fields and held for verification. -/
  | imageWrite (t : Nat) (c : Client) (via : OdVia) (u : Nat) (image : List Byte)
  /-- IMAGE_VERIFIED (R774): Signature verification ends, and a verified image is loaded at the next boundary or rejected. -/
  | imageVerified (t u : Nat) (partner : Bool)
  /-- TAKE_OVER_I_RISE (R559): TAKE_OVER_I rises at a twin in OFFLINE or WATCH, which starts its claim wait again. -/
  | takeOverIRise (t : Nat)
  /-- IF_LANE_CHECKER_LOCK (R171): During the IF port lane test, a lane checker locks after 32 error-free bits or loses lock after 8 errors within 32 bits. -/
  | ifLaneCheckerLock (t port lane : Nat) (bits : List Bool)
  /-- PRBS_CHECKER_LOCK (R756): A link-test PRBS checker locks after 64 error-free bits or loses lock after 8 errors within 64 bits, and then counts lock losses. -/
  | prbsCheckerLock (t l : Nat) (bits : List Bool)
  /-- STORE_COMPLETE (R680): A store or restore that a boundary started finishes writing its image, with 1E30h:01 set to complete, or to failed under R682. -/
  | storeComplete (t : Nat) (ok : Bool)
  /-- NET_LINK_CHANGE (R645): The link of NET-A or NET-B goes down or comes up, changing 7140h:05 or 7140h:06 and the requested or sent safe scheme. -/
  | netLinkChange (t net : Nat) (up : Bool)
  /-- CAN_ERROR_STATE_CHANGE (R758): A CAN port changes between error active, error passive and bus off, counting bus-off events and ending a CAN link test. -/
  | canErrorStateChange (t port : Nat) (st : CanState)
  /-- SERIAL_CHARACTER_RX (R255): A character arrives at a serial port and is written to the queue, discarded outside a packet, or counted as a character error. -/
  | serialCharacterRx (t port : Nat) (b : Byte) (charError : Bool) (startLateNs endLateNs : Nat)
  deriving DecidableEq, Repr

end Sys2Proof
end

