-- ==== Sys2Proof/WellFormed.lean ====
section
/-! DEFINITION. Which commands are well formed: every port, channel, instance and object number among those the part has, every
list and byte string of the length its message has. An ill-formed command is none that the part can meet; its meaning leaves the
module as it is, or answers the abort code of the write it stands for (log entry 1). -/

namespace Sys2Proof

open Sys2Proof.Machine

/-- A number below its bound. -/
def below (n bound : Nat) : Bool := decide (n < bound)

/-- An object's index and subindex have 16 and 8 bits (R652). -/
def objectName (index sub : Nat) : Bool := below index 65536 && below sub 256

/-- Five node pairs (R67). -/
def Machine.StrapPads.wf (p : StrapPads) : Bool := decide (p.node.length = 5)

/-- Three sources, or coarse time (R121). -/
def Machine.TimeOrigin.wf : TimeOrigin → Bool
  | .source n => below n 3
  | .coarse => true

/-- Two CAN ports (R664), 66 ring slots (R519). -/
def Machine.Client.wf : Client → Bool
  | .can p => below p 2
  | .net _ => true
  | .ring n => below n 66
  | .inner => true

/-- Lockstep pairs P0 to P7. -/
def Machine.FaultDetector.wf : FaultDetector → Bool
  | .lockstep p => below p 8
  | _ => true

/-- Whether a command is well formed. -/
def Instr.wf : Instr → Bool
  | .suppliesValid _ input straps _ _ _ => below input 2 && straps.wf
  | .strapLevelChange _ _ => true
  | .inputPresent _ input _ _ => below input 2
  | .inputAbsent _ input _ _ => below input 2
  | .supplyWarningChange _ input _ _ v10mV => below input 2 && below v10mV 6001
  | .totalSupplyLoss _ _ _ _ => true
  | .shutdownEnd _ straps => straps.wf
  | .mrstNAct _ _ => true
  | .mrstNRelease _ straps => straps.wf
  | .tapInstruction _ _ => true
  | .holdupStoreCharged _ _ _ => true
  | .configurationImageRead _ _ _ => true
  | .resetsReleased _ => true
  | .portsEnabled _ => true
  | .safetySelfTestDone _ _ mirrors => decide (mirrors.length = 8)
  | .holdReady _ _ => true
  | .ocxoWarm _ _ => true
  | .resumeAbandon _ => true
  | .thermalWarning _ _ _ => true
  | .cycleBoundary _ => true
  | .modeSupervision _ => true
  | .engineStart _ => true
  | .capstanStart _ => true
  | .ganderCompare _ => true
  | .ringFrameStart _ => true
  | .ringPacketForward _ port _ _ => below port 2
  | .commandSectionRx _ port _ subPs => below port 2 && below subPs 1000
  | .commandSectionReturn _ ringNo _ subPs => below ringNo 2 && below subPs 1000
  | .syncPacketRx _ port _ => below port 2
  | .feedbackPacketPass _ port pkt _ => below port 2 && decide (pkt.length = 3184)
  | .feedbackPacketReturn _ ringNo pkt => below ringNo 2 && decide (pkt.length = 3184)
  | .ownerExpiry _ pair => below pair 32
  | .containerPass _ port _ _ => below port 2
  | .ringLinkDown _ port _ _ => below port 2
  | .ringUnwrap _ port => below port 2
  | .ringTimeLoss _ => true
  | .sampleBoundary _ => true
  | .ssiBurst _ encoder _ _ => below encoder 4
  | .dacFrame _ => true
  | .drvfbChange _ thruster _ _ => below thruster 2
  | .enableTimeout _ thruster => below thruster 2
  | .driveDropTimeout _ thruster => below thruster 2
  | .staleHoldTimeout _ thruster => below thruster 2
  | .offDelayExpiry _ thruster => below thruster 2
  | .servoRateWrite _ c _ _ => c.wf
  | .servoBankSwap _ c _ => c.wf
  | .servoBankCopy _ c _ => c.wf
  | .timeSecondsRead _ c _ => c.wf
  | .timeFirstSet _ src _ _ => src.wf
  | .timeSourceQualify _ source _ _ => below source 3
  | .timeSourceChange _ _ _ => true
  | .timeSourceLoss _ source _ => below source 3
  | .slewDone _ => true
  | .timeStep _ => true
  | .ppsPulse _ output _ => below output 2
  | .ppsSettingWrite _ c _ output _ _ => below output 2 && c.wf
  | .timeMessage _ => true
  | .ptpEventRx _ inst port _ _ => below inst 2 && below port 2
  | .ptpTransparentForward _ inst _ _ _ _ _ => below inst 2
  | .framingLock _ port frm => below port 3 && decide (frm.length = 256)
  | .framingError _ port _ frm => below port 3 && decide (frm.length = 4)
  | .ifClockCheck _ port _ _ => below port 3
  | .portFault _ port _ => below port 3
  | .portRetry _ port => below port 3
  | .frontendInit _ port => below port 3
  | .streamLevelCheck _ port stream counts => below port 3 && below stream 4 && decide (counts.length = 16)
  | .channelAssign _ port _ => below port 3
  | .channelRelease _ port c _ _ => below port 3 && below c 128
  | .acqJobStart _ => true
  | .acqJobEnd _ _ first last => decide (first ≤ last)
  | .integrationDump _ port c _ _ => below port 3 && below c 128
  | .detectorWindow _ port c => below port 3 && below c 128
  | .pullinTimeout _ port c => below port 3 && below c 128
  | .reacqTimeout _ port c => below port 3 && below c 128
  | .measurementInstant _ => true
  | .measurementRecordReady _ => true
  | .solutionReady _ which => below which 4
  | .attitudeReady _ => true
  | .keptDataWrite _ _ => true
  | .keptDataErase _ c _ => c.wf
  | .harbourModeOn _ c _ => c.wf
  | .harbourModeOff _ c _ => c.wf
  | .harbourWake _ => true
  | .harbourWakeEnd _ _ => true
  | .packetCommit _ port => below port 12
  | .packetDiscard _ port => below port 12
  | .packetGapTimeout _ port => below port 12
  | .queueRead _ port => below port 12
  | .packetConsume _ port _ => below port 12
  | .chainOutput _ chain input _ => below chain 24 && below input 24
  | .chainClockWindow _ chain _ => below chain 24
  | .chainClockLoss _ chain _ => below chain 24
  | .sourceExclusion _ source => below source 22
  | .sourceReadmit _ c _ source => below source 22 && c.wf
  | .warmStateWrite _ => true
  | .calibrationCommit _ c _ => c.wf
  | .trackProcessing _ => true
  | .trackDelete _ c _ track => below track 64 && c.wf
  | .trackTimeout _ track => below track 64
  | .modeRequest _ => true
  | .disengageRequest _ => true
  | .bollardRequest _ => true
  | .joystickWrite _ c _ axis _ => below axis 3 && c.wf
  | .controlRateWrite _ c _ _ => c.wf
  | .outputPhaseWrite _ c _ _ => c.wf
  | .bankSwap _ c _ => c.wf
  | .bankCopy _ c _ => c.wf
  | .pbtripChange _ bus _ _ => below bus 8
  | .busLimitWrite _ c _ bus _ => below bus 8 && c.wf
  | .allocationWrite _ c _ thruster _ => below thruster 32 && c.wf
  | .geometryWrite _ c _ index sub _ => objectName index sub && c.wf
  | .geometryModeWrite _ c _ _ => c.wf
  | .twMessageRx _ lane words => below lane 2 && words.all fun w => decide (w.length = 19)
  | .inputMessage _ _ => true
  | .setMessage _ _ => true
  | .setAckMessage _ _ _ => true
  | .digestMessage _ _ _ _ _ => true
  | .timeMessageTw _ lane _ _ _ _ => below lane 2
  | .timeMessageSend _ => true
  | .writeMessage _ _ _ _ _ _ => true
  | .slipwayMessage _ _ progress => below progress 101
  | .joinRequest _ => true
  | .hardFaultNotice _ => true
  | .partnerDemand _ _ => true
  | .heartbeatSend _ lane => below lane 2
  | .release _ lane _ => below lane 2
  | .laneDown _ lane _ _ _ => below lane 2
  | .laneUp _ lane _ _ _ => below lane 2
  | .partnerGone _ _ => true
  | .startupWaitExpiry _ _ => true
  | .claimWaitExpiry _ => true
  | .bothActiveConflict _ => true
  | .takeOverIFall _ => true
  | .takeover _ => true
  | .hardFault _ d => d.wf
  | .suspectSelfTestDone _ _ => true
  | .rejoinWrite _ c _ _ => c.wf
  | .autoRejoin _ => true
  | .slipwayComplete _ => true
  | .slipwayFail _ => true
  | .slipwayRetry _ => true
  | .drillDue _ => true
  | .drillNow _ c _ _ => c.wf
  | .safeInputChange _ input _ _ => below input 16
  | .sfADiscrepancy _ thruster => below thruster 2
  | .sfAResetPulse _ thruster => below thruster 2
  | .testPulse _ supply _ _ => below supply 16
  | .testFrameCheck _ => true
  | .ssOverload _ supply _ _ => below supply 16
  | .ssRetry _ supply => below supply 16
  | .soChannelTest _ output channel _ _ _ _ => below output 8 && below channel 2
  | .soReadbackTimeout _ output _ _ => below output 8
  | .sfARemoteReset _ c _ _ => c.wf
  | .safetyReset _ c _ _ => c.wf
  | .supervisionFault _ what rail _ => below what 3 && below rail 8
  | .safeProduce _ k => below k 16
  | .safeFrameRx _ net _ _ _ _ => below net 2
  | .pairingWindowEnd _ k => below k 16
  | .channelReportRx _ net _ _ => below net 2
  | .channelReportSend _ k => below k 16
  | .probeSend _ k => below k 16
  | .connectionLost _ k => below k 16
  | .prpSupervisionSend _ => true
  | .safeTestCommand _ c _ k _ => below k 16 && c.wf
  | .sdoRequest _ port _ _ => below port 2
  | .transferTimeout _ c => c.wf
  | .rpdoRx _ port cobId _ => below port 2 && below cobId 0x20000000
  | .syncRx _ port cobId _ => below port 2 && below cobId 0x20000000
  | .tpdoSend _ p => below p 8
  | .nmtCommand _ port _ node => below port 2 && below node 128
  | .canHeartbeat _ => true
  | .odRead _ c _ _ => c.wf
  | .odWrite _ c _ _ => c.wf
  | .sessionOpen _ c _ _ => c.wf
  | .sessionAuthenticate _ c _ _ => c.wf
  | .sessionClose _ c _ _ => c.wf
  | .clientNonce _ c _ nonce => decide (nonce.length = 16) && c.wf
  | .clientTag _ c _ tg => decide (tg.length = 32) && c.wf
  | .sessionCloseWrite _ c _ _ => c.wf
  | .sessionIdleTimeout _ c => c.wf
  | .pairKeyWrite _ c _ key => decide (key.length = 32) && c.wf
  | .lockoutExpiry _ => true
  | .clientForget _ c => c.wf
  | .storeParameters _ c _ part _ => decide (1 ≤ part) && below part 4 && c.wf
  | .restoreDefaults _ c _ part _ => decide (1 ≤ part) && below part 4 && c.wf
  | .objectWrite _ c _ index sub _ => objectName index sub && c.wf
  | .recordAccept _ => true
  | .recordDrop _ _ _ => true
  | .directoryUpdate _ => true
  | .recorderSeal _ c _ => c.wf
  | .recorderUnseal _ c _ => c.wf
  | .windowCapture _ c _ => c.wf
  | .areaWrite _ c _ _ => c.wf
  | .cursorWrite _ c _ _ => c.wf
  | .panelHalfCycle _ => true
  | .panelFrameEnd _ => true
  | .panelUpdateRequest _ => true
  | .panelEnableWrite _ c _ _ => c.wf
  | .readClearArm _ c _ _ => c.wf
  | .readClear _ c _ index sub => objectName index sub && c.wf
  | .scrubPass _ _ => true
  | .uncorrectableWord _ _ data read _ => decide (data.length = 16) && decide (read.length = 19)
  | .injectionArm _ c _ => c.wf
  | .injectionCancel _ c _ => c.wf
  | .injection _ => true
  | .detectionTimeout _ => true
  | .linkTestGenerate _ c _ l => below l 18 && c.wf
  | .linkTestCheck _ c _ l => below l 18 && c.wf
  | .linkTestLoopback _ c _ l => below l 18 && c.wf
  | .linkTestStop _ c _ l => below l 18 && c.wf
  | .linkTestTimeLimit _ l => below l 18
  | .loopbackFrame _ l _ => below l 18
  | .userSlotOpen _ u => below u 2
  | .odReadCall _ u index sub _ _ => objectName index sub && below u 2
  | .mbWrite _ u index sub _ _ => objectName index sub && below u 2
  | .propose _ u _ _ _ => below u 2
  | .returnCall _ u => below u 2
  | .slotOverrun _ u => below u 2
  | .userPairFault _ u cause => below u 2 && below cause 6
  | .userPairRun _ c _ u => below u 2 && c.wf
  | .userPairStop _ c _ u => below u 2 && c.wf
  | .imageWrite _ c _ u image => below u 2 && decide (image.length ≤ 4194304) && c.wf
  | .imageVerified _ u _ => below u 2
  | .takeOverIRise _ => true
  | .ifLaneCheckerLock _ port lane _ => below port 3 && below lane 8
  | .prbsCheckerLock _ l _ => below l 18
  | .storeComplete _ _ => true
  | .netLinkChange _ net _ => below net 2
  | .canErrorStateChange _ port _ => below port 2
  | .serialCharacterRx _ port _ _ _ _ => below port 12

end Sys2Proof
end

