-- ==== Sys2Proof/Decode.lean ====
section
/-! DEFINITION. The words of spec/opcode_table.json. No row of it gives bits: a command of this block is a message, a pin or an
event, and no word spells it. -/

namespace Sys2Proof

/-- The command that a word of the table spells: none, for the table gives no row any bits. -/
def decodeTableWord (_nbits _w : Nat) : Option Instr := none

end Sys2Proof
end

