-- ==== Sys2Proof/Config.lean ====
section
/-! DEFINITION. What an implementation fixes and the manual leaves open. Every constant without a body is a free value:
nothing in Lean can evaluate it, and a statement that mentions it holds whatever it is. Each is named in a log entry. -/

namespace Sys2Proof.Config

/-- A value the manual leaves open where it names no operands: applied to the model's own counter `State.freeCount`
(log entry 3). -/
opaque freeWord : Nat → Nat

/-- A byte of the hardware random source that draws session nonces and session identities (R673; log entry 3). -/
opaque randomByte : Nat → Nat → Byte

/-- Sine and cosine of an angle in radians, and the other functions that have no exact rational value (log entry 4). -/
opaque sin : Rat → Rat
opaque cos : Rat → Rat
opaque atan2 : Rat → Rat → Rat
opaque sqrt : Rat → Rat
opaque exp : Rat → Rat
opaque log10 : Rat → Rat
opaque cbrt : Rat → Rat

/-- atan(a / b) as Table 5-7 writes it, a quotient whose divisor is 0 included (log entry 4). -/
opaque atanQuot : Rat → Rat → Rat
/-- The circle number. -/
opaque pi : Rat
/-- A quotient of the manual whose divisor is 0: the manual states no value (log entry 4). -/
opaque overZero : Rat → Rat

/-- Check bytes of the module's symbol code for 16 data bytes (R746 gives the strength of the code, not its matrix; log entry 41). -/
opaque checkBytes : BitVec 128 → BitVec 24

/-- The detection threshold of R181 from the number of blocks, the number of cells and the false-alarm exponent, in
thousandths (log entry 16). -/
opaque acqThreshold : Nat → Nat → Nat → Nat

/-- Point n of the 65,536 to which the engine resamples a block (R178 gives no method; log entry 16). -/
opaque resampled : List (Int × Int) → Nat → Int × Int

/-- The published codes of Table 5-3, which the manual does not print (log entry 16): chip n of the primary code of a signal of a
satellite, of its data component or the tracked one, in a primary period (0, +1 or -1: 0 where the other code of an interleaved
signal stands); the length of its secondary code in primary periods (at least 1), and whether chip n of that is -1. -/
opaque primaryChip : Nat → Nat → Bool → Nat → Nat → Int
opaque secondaryLength : Nat → Nat
opaque secondaryChip : Nat → Nat → Nat → Bool

/-- The carrier replica at a 48-bit phase: cosine and sine as the correlator holds them (R192 gives the rate, nothing gives the
amplitude; log entry 16). -/
opaque carrierReplica : Nat → Int × Int

/-- North and east metres of a latitude and longitude (10^-7 degree) in the local tangent plane of an origin, and back
(R10 names the plane and gives no projection; log entry 22). -/
opaque tangent : Int → Int → Int → Int → Rat × Rat
opaque untangent : Rat → Rat → Int → Int → Int × Int

/-- Coefficient n of FIR response code in the ROM (R271, R272 give its length and band figures; log entry 23). -/
opaque firRom : Nat → Nat → Int

/-- Loop gains of the time servo for a time constant in seconds: frequency and phase gain per measured picosecond
(R122 gives a type-2 loop and its time constant and no gains; log entry 12). -/
opaque servoFreqGain : Nat → Rat
opaque servoPhaseGain : Nat → Rat

/-- clockAccuracy and offsetScaledLogVariance of the module's own PTP data set (R134 names the comparison and not these
members; log entry 12). -/
opaque clockAccuracy : Nat
opaque clockVariance : Nat

/-- How many times the matrix exponential halves a step, by the norm of the matrix (R322 names scaling and squaring and no rule), and
the process noise integrated over a step from the noise densities of the states (R322 gives no method; log entry 27). -/
opaque padeScaling : Rat → Nat
opaque noiseIntegral : List (List Rat) → List Rat → Rat → List (List Rat)

/-- Noise density of an estimator state and its initial variance where the manual gives none, and the variance of a sensor
measurement: 0 gyrocompass, 1 rates, 2 accelerations, 3 roll and pitch, 5 one baseline (log entry 27). -/
opaque noiseDensity : Nat → Rat
opaque initialVariance : Nat → Rat
opaque sensorVariance : Nat → Rat

/-- What the broadcast data gives for a satellite (number and system as in 3100h:03) at an instant seen from a point of the tangent
plane: range in m to it at its transmit instant with satellite clock, system time offset and the troposphere of DO-229, line of sight
north, east, down, elevation in degrees; the range rate of a receiver at rest; the broadcast ionosphere at a carrier; the correction of
an SBAS satellite, where it broadcasts one (R218 names the models; log entry 21). -/
opaque satModel : Nat → Int → Rat × Rat × Rat → Rat × (Rat × Rat × Rat) × Rat
opaque satRate : Nat → Int → Rat × Rat × Rat → Rat
opaque ionosphere : Nat → Int → Rat × Rat × Rat → Int → Rat
opaque sbasCorrection : Nat → Nat → Int → Rat × Rat × Rat → Option Rat

/-- Whether broadcast ephemerides of a satellite are held at an instant (R214, R218; log entry 21). -/
opaque hasEphemeris : Nat → Int → Bool

/-- Variances of a pseudorange (m²), a range rate and a carrier phase from C/N0 in 0.1 dB-Hz and elevation (R218 gives no weights; log
entry 21). -/
opaque rangeVariance : Nat → Rat → Rat
opaque rateVariance : Nat → Rat → Rat
opaque phaseVariance : Nat → Rat → Rat

/-- The chi-square limit at degrees of freedom and a false-alarm exponent (R220 names the test; log entry 21). -/
opaque chiSquare : Nat → Nat → Rat

/-- Best and second-best integer vectors of the integer least-squares search over float ambiguities and their covariance (R225; log
entry 21). -/
opaque integerSearch : List Rat → List (List Rat) → List Int × List Int

/-- Initial variance of a candidate's velocity in (m/s)² (R365 gives none; log entry 29). -/
opaque trackVelocityVariance : Rat

/-- This node's pass-through delay P_k in ps (R524 uses it, R514 gives its limits; log entry 33). -/
opaque passThroughPs : Nat

/-- Error of the CORDIC for atan2 of two sums, in 2^-32 turn; the machine holds it within 2^-22 turn (R472; log entry 34). -/
opaque cordicError : Int → Int → Int

/-- Free-fall acceleration in m/s² (Table 9-2 names g and gives no value; log entry 27). -/
opaque gravity : Rat

/-- The build suffix of 100Ah (Table 0-1; log entry 5). -/
opaque buildSuffix : List Byte

/-- What the sensors behind 2020h:01, 02, 04, 05 and 06 read at an instant, by subindex (R105; log entry 45). -/
opaque sensorReading : Nat → Nat → Nat

/-- The Arrhenius-weighted average of 2020h:0A from the average so far, a case temperature (0.1 °C) and the nanoseconds for which
it stood (R105, R111 give no activation energy; log entry 45). -/
opaque lifeWeighted : Int → Int → Nat → Int

/-- The bytes of a record whose layout the manual does not give, from the values that enter it: an input set (R567), the rest of an
output record and a state record (R571), the list of a user pair (R777; log entries 6 and 42). -/
opaque recordBytes : List Int → List Byte

end Sys2Proof.Config
end

