-- ==== Sys2Proof/Machine/Store.lean ====
section
/-! DEFINITION. Sparse stores in one canonical form: keys strictly rising, no entry equal to what an unlisted key
reads as. One read and one write serve every store of the machine. -/

namespace Sys2Proof.Machine

open Sys2Proof

/-- The entry of key `k`, or `d` where none is listed. -/
def assocGet {β : Type} (d : β) : List (Nat × β) → Nat → β
  | [], _ => d
  | (j, v) :: rest, k => if j = k then v else if k < j then d else assocGet d rest k

/-- The list with any entry of key `k` taken out. -/
def assocErase {β : Type} : List (Nat × β) → Nat → List (Nat × β)
  | [], _ => []
  | (j, v) :: rest, k => if j = k then rest else if k < j then (j, v) :: rest else (j, v) :: assocErase rest k

/-- The list with key `k` holding `v`, in rising order of keys. -/
def assocInsert {β : Type} : List (Nat × β) → Nat → β → List (Nat × β)
  | [], k, v => [(k, v)]
  | (j, w) :: rest, k, v =>
    if j = k then (k, v) :: rest
    else if k < j then (k, v) :: (j, w) :: rest
    else (j, w) :: assocInsert rest k v

/-- Write: a value equal to the default removes the entry, so that equal stores are equal lists. -/
def assocSet {β : Type} [DecidableEq β] (d : β) (m : List (Nat × β)) (k : Nat) (v : β) : List (Nat × β) :=
  if v = d then assocErase m k else assocInsert m k v

/-- Keys strictly rise, all above `lo`, and no entry equals its default. -/
def assocOk {β : Type} [DecidableEq β] (dflt : Nat → β) : Option Nat → List (Nat × β) → Bool
  | _, [] => true
  | lo, (k, v) :: rest =>
    (match lo with | none => true | some l => decide (l < k)) && decide (v ≠ dflt k) && assocOk dflt (some k) rest

/-- The canonical form of a store. -/
def storeWf {β : Type} [DecidableEq β] (dflt : Nat → β) (m : List (Nat × β)) : Bool := assocOk dflt none m

/-- The canonical form of an addressed memory whose unlisted bytes read 0 (R774). -/
def Memory.wf (m : List (Nat × Byte)) : Bool := storeWf (fun _ => (0 : Byte)) m

end Sys2Proof.Machine
end

