-- ==== Sys2Proof/Machine/OdTable.lean ====
section
/-! DEFINITION. The object dictionary of the module as data: one row per line of the object tables of spec chapters
1 to 24 (a family of records with consecutive indices is one row with its count), with the type, access class,
default value and allowed values each table gives. -/

namespace Sys2Proof.Machine

open Sys2Proof

/-- Objects 1000h to 1407h: spec Tables 19-2, 18-7, 18-8, 19-3. -/
def odRows00 : List OdRow :=
  [⟨0x1000, 1, 0x00, 0x00, .u32, .ro, 0, .any⟩,
   ⟨0x1001, 1, 0x00, 0x00, .u8, .ro, 0, .any⟩,
   ⟨0x1005, 1, 0x00, 0x00, .u32, .rw, 128, (.rng 1 0x7FF)⟩,
   ⟨0x1008, 1, 0x00, 0x00, .vis, .const, 0, .any⟩,
   ⟨0x1009, 1, 0x00, 0x00, .vis, .const, 0, .any⟩,
   ⟨0x100A, 1, 0x00, 0x00, .vis, .const, 0, .any⟩,
   ⟨0x1010, 1, 0x00, 0x00, .u8, .const, 3, .any⟩,
   ⟨0x1010, 1, 0x01, 0x03, .u32, .pairWide, 1, .any⟩,
   ⟨0x1011, 1, 0x00, 0x00, .u8, .const, 3, .any⟩,
   ⟨0x1011, 1, 0x01, 0x03, .u32, .guarded, 1, .any⟩,
   ⟨0x1017, 1, 0x00, 0x00, .u16, .rw, 0, (.zr 10 65535)⟩,
   ⟨0x1018, 1, 0x00, 0x00, .u8, .const, 4, .any⟩,
   ⟨0x1018, 1, 0x01, 0x01, .u32, .const, 5493921, .any⟩,
   ⟨0x1018, 1, 0x02, 0x02, .u32, .const, 38418, .any⟩,
   ⟨0x1018, 1, 0x03, 0x03, .u32, .const, 65540, .any⟩,
   ⟨0x1018, 1, 0x04, 0x04, .u32, .const, 1, .any⟩,
   ⟨0x1400, 8, 0x00, 0x00, .u8, .const, 2, .any⟩,
   ⟨0x1400, 8, 0x01, 0x01, .u32, .rw, 2147483648, .any⟩,
   ⟨0x1400, 8, 0x02, 0x02, .u8, .rw, 255, .rpdoType⟩]

/-- Objects 1600h to 1E01h: spec Tables 19-5, 19-4, 18-9. -/
def odRows01 : List OdRow :=
  [⟨0x1600, 8, 0x00, 0x00, .u8, .rw, 0, (.rng 0 64)⟩,
   ⟨0x1600, 8, 0x01, 0x40, .u32, .rw, 0, .any⟩,
   ⟨0x1800, 8, 0x00, 0x00, .u8, .const, 6, .any⟩,
   ⟨0x1800, 8, 0x01, 0x01, .u32, .rw, 2147483648, .any⟩,
   ⟨0x1800, 8, 0x02, 0x02, .u8, .rw, 255, .tpdoType⟩,
   ⟨0x1800, 8, 0x03, 0x03, .u16, .rw, 0, (.rng 0 65535)⟩,
   ⟨0x1800, 8, 0x04, 0x04, .u8, .const, 0, .any⟩,
   ⟨0x1800, 8, 0x05, 0x05, .u16, .rw, 0, (.zr 1 65535)⟩,
   ⟨0x1800, 8, 0x06, 0x06, .u8, .rw, 0, (.rng 0 240)⟩,
   ⟨0x1A00, 8, 0x00, 0x00, .u8, .rw, 0, (.rng 0 64)⟩,
   ⟨0x1A00, 8, 0x01, 0x40, .u32, .rw, 0, .any⟩,
   ⟨0x1E00, 2, 0x00, 0x00, .u8, .const, 7, .any⟩,
   ⟨0x1E00, 2, 0x01, 0x01, .u8, .rw, 1, (.rng 1 127)⟩,
   ⟨0x1E00, 2, 0x02, 0x02, .u8, .rw, 2, (.rng 0 3)⟩,
   ⟨0x1E00, 2, 0x03, 0x03, .u8, .rw, 2, (.rng 0 4)⟩,
   ⟨0x1E00, 2, 0x04, 0x04, .u8, .ro, 0, .any⟩,
   ⟨0x1E00, 2, 0x05, 0x05, .u32, .ro, 0, .any⟩,
   ⟨0x1E00, 2, 0x06, 0x06, .u32, .ro, 0, .any⟩,
   ⟨0x1E00, 2, 0x07, 0x07, .u32, .ro, 0, .any⟩]

/-- Objects 1E10h to 1E20h: spec Tables 18-10, 18-11. -/
def odRows02 : List OdRow :=
  [⟨0x1E10, 1, 0x00, 0x00, .u8, .const, 9, .any⟩,
   ⟨0x1E10, 1, 0x01, 0x01, .u8, .pairWide, 1, (.rng 0 1)⟩,
   ⟨0x1E10, 1, 0x02, 0x02, .u16, .const, 4721, .any⟩,
   ⟨0x1E10, 1, 0x03, 0x03, .u32, .rw, 0, .any⟩,
   ⟨0x1E10, 1, 0x04, 0x04, .u32, .rw, 0, .any⟩,
   ⟨0x1E10, 1, 0x05, 0x05, .u8, .rw, 24, (.rng 8 30)⟩,
   ⟨0x1E10, 1, 0x06, 0x06, .u32, .ro, 0, .any⟩,
   ⟨0x1E10, 1, 0x07, 0x07, .u8, .ro, 0, .any⟩,
   ⟨0x1E10, 1, 0x08, 0x08, .u32, .ro, 0, .any⟩,
   ⟨0x1E10, 1, 0x09, 0x09, .u8, .const, 16, .any⟩,
   ⟨0x1E20, 1, 0x00, 0x00, .u8, .const, 11, .any⟩,
   ⟨0x1E20, 1, 0x01, 0x01, .oct, .wo, 0, (.blob 16 16)⟩,
   ⟨0x1E20, 1, 0x02, 0x02, .oct, .ro, 0, .any⟩,
   ⟨0x1E20, 1, 0x03, 0x03, .oct, .wo, 0, (.blob 32 32)⟩,
   ⟨0x1E20, 1, 0x04, 0x04, .oct, .ro, 0, .any⟩,
   ⟨0x1E20, 1, 0x05, 0x05, .u8, .ro, 0, .any⟩,
   ⟨0x1E20, 1, 0x06, 0x06, .u8, .wo, 0, (.cmd 0x01)⟩,
   ⟨0x1E20, 1, 0x07, 0x07, .u16, .pairWide, 600, (.rng 60 3600)⟩,
   ⟨0x1E20, 1, 0x08, 0x08, .u32, .ro, 0, .any⟩,
   ⟨0x1E20, 1, 0x09, 0x09, .oct, .guardedWo, 0, (.blob 32 32)⟩,
   ⟨0x1E20, 1, 0x0A, 0x0A, .u8, .ro, 0, .any⟩,
   ⟨0x1E20, 1, 0x0B, 0x0B, .u16, .ro, 0, .any⟩]

/-- Objects 1E30h to 2010h: spec Tables 18-12, 1-2, 2-8, 3-5a. -/
def odRows03 : List OdRow :=
  [⟨0x1E30, 1, 0x00, 0x00, .u8, .const, 4, .any⟩,
   ⟨0x1E30, 1, 0x01, 0x01, .u8, .ro, 0, .any⟩,
   ⟨0x1E30, 1, 0x02, 0x02, .u32, .ro, 0, .any⟩,
   ⟨0x1E30, 1, 0x03, 0x03, .u32, .ro, 0, .any⟩,
   ⟨0x1E30, 1, 0x04, 0x04, .u32, .ro, 0, .any⟩,
   ⟨0x2000, 1, 0x00, 0x00, .u8, .const, 5, .any⟩,
   ⟨0x2000, 1, 0x01, 0x01, .u8, .ro, 0, .any⟩,
   ⟨0x2000, 1, 0x02, 0x02, .u8, .ro, 0, .any⟩,
   ⟨0x2000, 1, 0x03, 0x03, .u8, .ro, 0, .any⟩,
   ⟨0x2000, 1, 0x04, 0x04, .u16, .ro, 0, .any⟩,
   ⟨0x2000, 1, 0x05, 0x05, .u8, .ro, 0, .any⟩,
   ⟨0x2001, 1, 0x00, 0x00, .u8, .const, 1, .any⟩,
   ⟨0x2001, 1, 0x01, 0x01, .u8, .ro, 0, .any⟩,
   ⟨0x2010, 1, 0x00, 0x00, .u8, .const, 8, .any⟩,
   ⟨0x2010, 1, 0x01, 0x01, .u8, .ro, 0, .any⟩,
   ⟨0x2010, 1, 0x02, 0x02, .u8, .pairWide, 0, (.rng 0 1)⟩,
   ⟨0x2010, 1, 0x03, 0x03, .u32, .ro, 4294967295, .any⟩,
   ⟨0x2010, 1, 0x04, 0x04, .u8, .ro, 0, .any⟩,
   ⟨0x2010, 1, 0x05, 0x05, .u8, .ro, 0, .any⟩,
   ⟨0x2010, 1, 0x06, 0x06, .u32, .ro, 0, .any⟩,
   ⟨0x2010, 1, 0x07, 0x07, .u32, .ro, 0, .any⟩,
   ⟨0x2010, 1, 0x08, 0x08, .u32, .ro, 0, .any⟩]

/-- Objects 2020h to 2100h: spec Tables 3-5b, 4-7. -/
def odRows04 : List OdRow :=
  [⟨0x2020, 1, 0x00, 0x00, .u8, .const, 10, .any⟩,
   ⟨0x2020, 1, 0x01, 0x01, .u16, .ro, 0, .any⟩,
   ⟨0x2020, 1, 0x02, 0x02, .u16, .ro, 0, .any⟩,
   ⟨0x2020, 1, 0x03, 0x03, .u16, .ro, 0, .any⟩,
   ⟨0x2020, 1, 0x04, 0x04, .u16, .ro, 0, .any⟩,
   ⟨0x2020, 1, 0x05, 0x05, .i16, .ro, 0, .any⟩,
   ⟨0x2020, 1, 0x06, 0x06, .i16, .ro, 0, .any⟩,
   ⟨0x2020, 1, 0x07, 0x07, .u8, .ro, 0, .any⟩,
   ⟨0x2020, 1, 0x08, 0x08, .u32, .ro, 0, .any⟩,
   ⟨0x2020, 1, 0x09, 0x09, .u32, .ro, 0, .any⟩,
   ⟨0x2020, 1, 0x0A, 0x0A, .i16, .ro, 0, .any⟩,
   ⟨0x2100, 1, 0x00, 0x00, .u8, .const, 18, .any⟩,
   ⟨0x2100, 1, 0x01, 0x01, .u48, .ro, 0, .any⟩,
   ⟨0x2100, 1, 0x02, 0x02, .u32, .ro, 0, .any⟩,
   ⟨0x2100, 1, 0x03, 0x03, .u32, .ro, 0, .any⟩,
   ⟨0x2100, 1, 0x04, 0x04, .u8, .ro, 0, .any⟩,
   ⟨0x2100, 1, 0x05, 0x05, .u8, .ro, 0, .any⟩,
   ⟨0x2100, 1, 0x06, 0x06, .u16, .pairWide, 801, .sourcePriority⟩,
   ⟨0x2100, 1, 0x07, 0x07, .u32, .ro, 4294967295, .any⟩,
   ⟨0x2100, 1, 0x08, 0x08, .i32, .ro, 0, .any⟩,
   ⟨0x2100, 1, 0x09, 0x09, .i32, .ro, 0, .any⟩,
   ⟨0x2100, 1, 0x0A, 0x0A, .u32, .pairWide, 1000, (.rng 100 100000)⟩,
   ⟨0x2100, 1, 0x0B, 0x0B, .u32, .ro, 0, .any⟩,
   ⟨0x2100, 1, 0x0C, 0x0C, .u32, .ro, 0, .any⟩,
   ⟨0x2100, 1, 0x0D, 0x0D, .u32, .ro, 0, .any⟩,
   ⟨0x2100, 1, 0x0E, 0x0E, .i64, .ro, 0, .any⟩,
   ⟨0x2100, 1, 0x0F, 0x0F, .i16, .ro, 0, .any⟩,
   ⟨0x2100, 1, 0x10, 0x10, .u8, .ro, 0, .any⟩,
   ⟨0x2100, 1, 0x11, 0x11, .i32, .ro, 0, .any⟩,
   ⟨0x2100, 1, 0x12, 0x12, .i32, .ro, 0, .any⟩]

/-- Objects 2110h to 2121h: spec Tables 4-8, 4-9. -/
def odRows05 : List OdRow :=
  [⟨0x2110, 2, 0x00, 0x00, .u8, .const, 16, .any⟩,
   ⟨0x2110, 2, 0x01, 0x01, .u8, .pairWide, 1, (.rng 0 2)⟩,
   ⟨0x2110, 2, 0x02, 0x02, .u8, .pairWide, 0, (.rng 0 127)⟩,
   ⟨0x2110, 2, 0x03, 0x03, .u8, .pairWide, 0, (.rng 0 1)⟩,
   ⟨0x2110, 2, 0x04, 0x04, .u8, .pairWide, 128, (.rng 0 255)⟩,
   ⟨0x2110, 2, 0x05, 0x05, .u8, .pairWide, 128, (.rng 0 255)⟩,
   ⟨0x2110, 2, 0x06, 0x06, .i8, .pairWide, (-3), (.rng (-7) 0)⟩,
   ⟨0x2110, 2, 0x07, 0x07, .i8, .pairWide, (-3), (.rng (-7) 0)⟩,
   ⟨0x2110, 2, 0x08, 0x08, .u8, .ro, 1, .any⟩,
   ⟨0x2110, 2, 0x09, 0x09, .u64, .ro, 0, .any⟩,
   ⟨0x2110, 2, 0x0A, 0x0A, .i64, .ro, 0, .any⟩,
   ⟨0x2110, 2, 0x0B, 0x0B, .u32, .ro, 0, .any⟩,
   ⟨0x2110, 2, 0x0C, 0x0C, .u16, .pairWide, 0, (.rng 0 4000)⟩,
   ⟨0x2110, 2, 0x0D, 0x0D, .u16, .pairWide, 0, (.rng 0 4000)⟩,
   ⟨0x2110, 2, 0x0E, 0x0E, .u16, .pairWide, 0, (.rng 0 4000)⟩,
   ⟨0x2110, 2, 0x0F, 0x0F, .u16, .pairWide, 0, (.rng 0 4000)⟩,
   ⟨0x2110, 2, 0x10, 0x10, .u32, .ro, 0, .any⟩,
   ⟨0x2120, 2, 0x00, 0x00, .u8, .const, 5, .any⟩,
   ⟨0x2120, 2, 0x01, 0x01, .u8, .pairWide, 1, (.rng 0 1)⟩,
   ⟨0x2120, 2, 0x02, 0x02, .u8, .pairWide, 0, (.rng 0 1)⟩,
   ⟨0x2120, 2, 0x03, 0x03, .u32, .pairWide, 10000, (.rng 1 400000)⟩,
   ⟨0x2120, 2, 0x04, 0x04, .i32, .pairWide, 0, (.rng (-100000) 100000)⟩,
   ⟨0x2120, 2, 0x05, 0x05, .i16, .ro, 0, .any⟩]

/-- Objects 2130h to 3002h: spec Tables 4-10, 5-8. -/
def odRows06 : List OdRow :=
  [⟨0x2130, 1, 0x00, 0x00, .u8, .const, 9, .any⟩,
   ⟨0x2130, 1, 0x01, 0x01, .u48, .ro, 0, .any⟩,
   ⟨0x2130, 1, 0x02, 0x02, .u8, .ro, 5, .any⟩,
   ⟨0x2130, 1, 0x03, 0x03, .i16, .ro, 0, .any⟩,
   ⟨0x2130, 1, 0x04, 0x04, .i16, .ro, 0, .any⟩,
   ⟨0x2130, 1, 0x05, 0x05, .u32, .ro, 4294967295, .any⟩,
   ⟨0x2130, 1, 0x06, 0x06, .i64, .ro, 0, .any⟩,
   ⟨0x2130, 1, 0x07, 0x07, .u16, .ro, 0, .any⟩,
   ⟨0x2130, 1, 0x08, 0x08, .u16, .pairWide, 0, (.mask 0xFFF)⟩,
   ⟨0x2130, 1, 0x09, 0x09, .u8, .pairWide, 0, (.rng 0 1)⟩,
   ⟨0x3000, 3, 0x00, 0x00, .u8, .const, 13, .any⟩,
   ⟨0x3000, 3, 0x01, 0x01, .u8, .pairWide, 1, (.rng 0 2)⟩,
   ⟨0x3000, 3, 0x02, 0x02, .u8, .pairWide, 0, .portRate⟩,
   ⟨0x3000, 3, 0x03, 0x03, .u8, .pairWide, 1, (.mask 0xF)⟩,
   ⟨0x3000, 3, 0x04, 0x04, .u8, .pairWide, 0, (.rng 0 1)⟩,
   ⟨0x3000, 3, 0x05, 0x05, .u32, .pairWide, 1048575, (.mask 0xFFFFF)⟩,
   ⟨0x3000, 3, 0x06, 0x06, .u8, .pairWide, 5, (.rng 0 30)⟩,
   ⟨0x3000, 3, 0x07, 0x07, .dom, .pairWide, 0, (.blob 0 2048)⟩,
   ⟨0x3000, 3, 0x08, 0x08, .u16, .ro, 0, .any⟩,
   ⟨0x3000, 3, 0x09, 0x09, .u32, .ro, 0, .any⟩,
   ⟨0x3000, 3, 0x0A, 0x0A, .u32, .ro, 0, .any⟩,
   ⟨0x3000, 3, 0x0B, 0x0B, .u32, .ro, 0, .any⟩,
   ⟨0x3000, 3, 0x0C, 0x0C, .u8, .ro, 0, .any⟩,
   ⟨0x3000, 3, 0x0D, 0x0D, .u8, .ro, 0, .any⟩]

/-- Objects 3010h to 3053h: spec Tables 5-9, 5-10, 5-11. -/
def odRows07 : List OdRow :=
  [⟨0x3010, 12, 0x00, 0x00, .u8, .const, 4, .any⟩,
   ⟨0x3010, 12, 0x01, 0x01, .u32, .pairWide, 0, (.zr 1150000000 1620000000)⟩,
   ⟨0x3010, 12, 0x02, 0x02, .u8, .pairWide, 0, .any⟩,
   ⟨0x3010, 12, 0x03, 0x03, .u16, .ro, 0, .any⟩,
   ⟨0x3010, 12, 0x04, 0x04, .u8, .ro, 0, .any⟩,
   ⟨0x3020, 1, 0x00, 0x00, .u8, .const, 7, .any⟩,
   ⟨0x3020, 1, 0x01, 0x01, .u16, .pairWide, 6000, (.rng 500 10000)⟩,
   ⟨0x3020, 1, 0x02, 0x02, .u8, .pairWide, 1, (.rng 1 10)⟩,
   ⟨0x3020, 1, 0x03, 0x03, .u8, .pairWide, 4, (.rng 1 100)⟩,
   ⟨0x3020, 1, 0x04, 0x04, .u8, .pairWide, 3, (.rng 2 6)⟩,
   ⟨0x3020, 1, 0x05, 0x05, .u16, .pairWide, 250, (.rng 50 2000)⟩,
   ⟨0x3020, 1, 0x06, 0x06, .u32, .ro, 0, .any⟩,
   ⟨0x3020, 1, 0x07, 0x07, .u32, .ro, 0, .any⟩,
   ⟨0x3040, 20, 0x00, 0x00, .u8, .const, 13, .any⟩,
   ⟨0x3040, 20, 0x01, 0x01, .u8, .pairWide, 3, (.rng 2 3)⟩,
   ⟨0x3040, 2, 0x02, 0x02, .u16, .pairWide, 100, (.rng 10 400)⟩,
   ⟨0x3040, 20, 0x03, 0x03, .u16, .pairWide, 100, (.rng 5 200)⟩,
   ⟨0x3040, 20, 0x04, 0x04, .u16, .pairWide, 20, (.rng 0 200)⟩,
   ⟨0x3040, 20, 0x05, 0x05, .u16, .pairWide, 50, (.rng 5 500)⟩,
   ⟨0x3040, 2, 0x06, 0x06, .u8, .pairWide, 10, .integTime⟩,
   ⟨0x3040, 20, 0x07, 0x07, .u8, .pairWide, 20, (.rng 5 30)⟩,
   ⟨0x3040, 20, 0x08, 0x08, .u8, .pairWide, 0, (.rng 0 1)⟩,
   ⟨0x3040, 20, 0x09, 0x09, .u16, .pairWide, 800, (.rng 0 1000)⟩,
   ⟨0x3040, 20, 0x0A, 0x0A, .u16, .pairWide, 600, (.rng 0 1000)⟩,
   ⟨0x3040, 20, 0x0B, 0x0B, .u16, .pairWide, 220, (.rng 150 400)⟩,
   ⟨0x3040, 20, 0x0C, 0x0C, .u16, .pairWide, 2000, (.rng 100 10000)⟩,
   ⟨0x3040, 20, 0x0D, 0x0D, .u16, .pairWide, 50, (.rng 10 1000)⟩,
   ⟨0x3042, 1, 0x02, 0x02, .u16, .pairWide, 50, (.rng 10 400)⟩,
   ⟨0x3042, 1, 0x06, 0x06, .u8, .pairWide, 20, .integTime⟩,
   ⟨0x3043, 15, 0x02, 0x02, .u16, .pairWide, 100, (.rng 10 400)⟩,
   ⟨0x3043, 1, 0x06, 0x06, .u8, .pairWide, 10, .integTime⟩,
   ⟨0x3044, 1, 0x06, 0x06, .u8, .pairWide, 8, .integTime⟩,
   ⟨0x3045, 9, 0x06, 0x06, .u8, .pairWide, 10, .integTime⟩,
   ⟨0x304E, 1, 0x06, 0x06, .u8, .pairWide, 2, .integTime⟩,
   ⟨0x304F, 1, 0x06, 0x06, .u8, .pairWide, 10, .integTime⟩,
   ⟨0x3050, 2, 0x06, 0x06, .u8, .pairWide, 10, .integTime⟩,
   ⟨0x3052, 1, 0x02, 0x02, .u16, .pairWide, 50, (.rng 10 400)⟩,
   ⟨0x3052, 1, 0x06, 0x06, .u8, .pairWide, 20, .integTime⟩,
   ⟨0x3053, 1, 0x02, 0x02, .u16, .pairWide, 100, (.rng 10 400)⟩,
   ⟨0x3053, 1, 0x06, 0x06, .u8, .pairWide, 10, .integTime⟩]

/-- Objects 3100h to 3300h: spec Tables 5-12, 6-7. -/
def odRows08 : List OdRow :=
  [⟨0x3100, 384, 0x00, 0x00, .u8, .const, 12, .any⟩,
   ⟨0x3100, 384, 0x01, 0x01, .u8, .ro, 0, .any⟩,
   ⟨0x3100, 384, 0x02, 0x02, .u8, .ro, 255, .any⟩,
   ⟨0x3100, 384, 0x03, 0x03, .u16, .ro, 0, .any⟩,
   ⟨0x3100, 384, 0x04, 0x04, .i8, .ro, 0, .any⟩,
   ⟨0x3100, 384, 0x05, 0x05, .u16, .ro, 150, .any⟩,
   ⟨0x3100, 384, 0x06, 0x06, .i32, .ro, 0, .any⟩,
   ⟨0x3100, 384, 0x07, 0x07, .i16, .ro, 0, .any⟩,
   ⟨0x3100, 384, 0x08, 0x08, .u16, .ro, 0, .any⟩,
   ⟨0x3100, 384, 0x09, 0x09, .u32, .ro, 0, .any⟩,
   ⟨0x3100, 384, 0x0A, 0x0A, .u8, .ro, 0, .any⟩,
   ⟨0x3100, 384, 0x0B, 0x0B, .u16, .ro, 0, .any⟩,
   ⟨0x3100, 384, 0x0C, 0x0C, .u8, .ro, 0, .any⟩,
   ⟨0x3300, 1, 0x00, 0x00, .u8, .const, 4, .any⟩,
   ⟨0x3300, 1, 0x01, 0x01, .u8, .pairWide, 10, (.vals [1, 2, 5, 10, 20])⟩,
   ⟨0x3300, 1, 0x02, 0x02, .u16, .ro, 0, .any⟩,
   ⟨0x3300, 1, 0x03, 0x03, .u16, .ro, 0, .any⟩,
   ⟨0x3300, 1, 0x04, 0x04, .dom, .ro, 0, .any⟩]

/-- Objects 3303h to 3313h: spec Tables 6-8, 6-9. -/
def odRows09 : List OdRow :=
  [⟨0x3303, 3, 0x00, 0x00, .u8, .const, 3, .any⟩,
   ⟨0x3303, 3, 0x01, 0x01, .u32, .pairWide, 0, (.rng 0 2000000)⟩,
   ⟨0x3303, 3, 0x02, 0x02, .u32, .pairWide, 0, (.rng 0 2000000)⟩,
   ⟨0x3303, 3, 0x03, 0x03, .u32, .pairWide, 0, (.rng 0 2000000)⟩,
   ⟨0x3310, 4, 0x00, 0x00, .u8, .const, 14, .any⟩,
   ⟨0x3310, 4, 0x01, 0x01, .u8, .ro, 0, .any⟩,
   ⟨0x3310, 4, 0x02, 0x02, .u8, .ro, 0, .any⟩,
   ⟨0x3310, 4, 0x03, 0x03, .i32, .ro, 0, .any⟩,
   ⟨0x3310, 4, 0x04, 0x04, .i32, .ro, 0, .any⟩,
   ⟨0x3310, 4, 0x05, 0x05, .i32, .ro, 0, .any⟩,
   ⟨0x3310, 4, 0x06, 0x06, .i32, .ro, 0, .any⟩,
   ⟨0x3310, 4, 0x07, 0x07, .i32, .ro, 0, .any⟩,
   ⟨0x3310, 4, 0x08, 0x08, .i32, .ro, 0, .any⟩,
   ⟨0x3310, 4, 0x09, 0x09, .u32, .ro, 4294967295, .any⟩,
   ⟨0x3310, 4, 0x0A, 0x0A, .u32, .ro, 4294967295, .any⟩,
   ⟨0x3310, 4, 0x0B, 0x0B, .i32, .ro, 0, .any⟩,
   ⟨0x3310, 4, 0x0C, 0x0C, .u32, .ro, 4294967295, .any⟩,
   ⟨0x3310, 4, 0x0D, 0x0D, .u32, .ro, 0, .any⟩,
   ⟨0x3310, 4, 0x0E, 0x0E, .u16, .ro, 0, .any⟩]

/-- Objects 3318h to 3320h: spec Tables 6-10, 6-11. -/
def odRows10 : List OdRow :=
  [⟨0x3318, 1, 0x00, 0x00, .u8, .const, 5, .any⟩,
   ⟨0x3318, 1, 0x01, 0x01, .u8, .pairWide, 0, (.rng 0 1)⟩,
   ⟨0x3318, 1, 0x02, 0x02, .u8, .pairWide, 0, (.zr 120 158)⟩,
   ⟨0x3318, 1, 0x03, 0x03, .u8, .pairWide, 10, (.rng 0 30)⟩,
   ⟨0x3318, 1, 0x04, 0x04, .u8, .pairWide, 5, (.rng 3 7)⟩,
   ⟨0x3318, 1, 0x05, 0x05, .u16, .pairWide, 300, (.rng 150 400)⟩,
   ⟨0x3320, 1, 0x00, 0x00, .u8, .const, 13, .any⟩,
   ⟨0x3320, 1, 0x01, 0x01, .u8, .ro, 0, .any⟩,
   ⟨0x3320, 1, 0x02, 0x02, .u32, .ro, 4294967295, .any⟩,
   ⟨0x3320, 1, 0x03, 0x03, .i32, .ro, 2147483647, .any⟩,
   ⟨0x3320, 1, 0x04, 0x04, .i32, .ro, 2147483647, .any⟩,
   ⟨0x3320, 1, 0x05, 0x05, .u16, .ro, 65535, .any⟩,
   ⟨0x3320, 1, 0x06, 0x06, .u16, .ro, 65535, .any⟩,
   ⟨0x3320, 1, 0x07, 0x07, .u16, .ro, 65535, .any⟩,
   ⟨0x3320, 1, 0x08, 0x08, .u8, .ro, 0, .any⟩,
   ⟨0x3320, 1, 0x09, 0x09, .u8, .ro, 0, .any⟩,
   ⟨0x3320, 1, 0x0A, 0x0A, .u32, .ro, 4294967295, .any⟩,
   ⟨0x3320, 1, 0x0B, 0x0B, .i32, .ro, 2147483647, .any⟩,
   ⟨0x3320, 1, 0x0C, 0x0C, .u32, .ro, 0, .any⟩,
   ⟨0x3320, 1, 0x0D, 0x0D, .u32, .ro, 0, .any⟩]

/-- Objects 3328h to 3340h: spec Tables 6-11, 6-12, 6-13. -/
def odRows11 : List OdRow :=
  [⟨0x3328, 1, 0x00, 0x00, .u8, .const, 9, .any⟩,
   ⟨0x3328, 1, 0x01, 0x03, .i32, .pairWide, 0, .any⟩,
   ⟨0x3328, 1, 0x04, 0x06, .i32, .pairWide, 0, .any⟩,
   ⟨0x3328, 1, 0x07, 0x07, .u16, .pairWide, 30, (.rng 20 100)⟩,
   ⟨0x3328, 1, 0x08, 0x08, .u8, .pairWide, 20, (.rng 5 50)⟩,
   ⟨0x3328, 1, 0x09, 0x09, .u8, .pairWide, 1, (.rng 0 1)⟩,
   ⟨0x3330, 1, 0x00, 0x00, .u8, .const, 8, .any⟩,
   ⟨0x3330, 1, 0x01, 0x01, .u8, .ro, 0, .any⟩,
   ⟨0x3330, 1, 0x02, 0x02, .u32, .ro, 4294967295, .any⟩,
   ⟨0x3330, 1, 0x03, 0x03, .u16, .ro, 0, .any⟩,
   ⟨0x3330, 1, 0x04, 0x04, .u32, .ro, 4294967295, .any⟩,
   ⟨0x3330, 1, 0x05, 0x05, .u16, .ro, 65535, .any⟩,
   ⟨0x3330, 1, 0x06, 0x06, .u32, .ro, 4294967295, .any⟩,
   ⟨0x3330, 1, 0x07, 0x07, .u32, .ro, 0, .any⟩,
   ⟨0x3330, 1, 0x08, 0x08, .u8, .guarded, 0, (.cmd 0x01)⟩,
   ⟨0x3340, 1, 0x00, 0x00, .u8, .const, 6, .any⟩,
   ⟨0x3340, 1, 0x01, 0x01, .u8, .pairWide, 0, (.rng 0 1)⟩,
   ⟨0x3340, 1, 0x02, 0x02, .u16, .pairWide, 30, (.rng 10 120)⟩,
   ⟨0x3340, 1, 0x03, 0x03, .u16, .pairWide, 30, (.rng 30 300)⟩,
   ⟨0x3340, 1, 0x04, 0x04, .u8, .ro, 0, .any⟩,
   ⟨0x3340, 1, 0x05, 0x05, .u32, .ro, 0, .any⟩,
   ⟨0x3340, 1, 0x06, 0x06, .u32, .ro, 0, .any⟩]

/-- Objects 3350h to 400Bh: spec Tables 6-14, 7-6. -/
def odRows12 : List OdRow :=
  [⟨0x3350, 1, 0x00, 0x00, .u8, .const, 6, .any⟩,
   ⟨0x3350, 1, 0x01, 0x01, .u16, .pairWide, 1000, (.rng 100 10000)⟩,
   ⟨0x3350, 1, 0x02, 0x02, .u16, .pairWide, 2000, (.rng 100 50000)⟩,
   ⟨0x3350, 1, 0x03, 0x03, .u8, .ro, 0, .any⟩,
   ⟨0x3350, 1, 0x04, 0x04, .u32, .ro, 0, .any⟩,
   ⟨0x3350, 1, 0x05, 0x05, .i32, .ro, 0, .any⟩,
   ⟨0x3350, 1, 0x06, 0x06, .u32, .ro, 0, .any⟩,
   ⟨0x4000, 12, 0x00, 0x00, .u8, .const, 21, .any⟩,
   ⟨0x4000, 12, 0x01, 0x01, .u8, .pairWide, 0, (.rng 0 3)⟩,
   ⟨0x4000, 12, 0x02, 0x02, .u32, .pairWide, 4800, (.vals [4800, 9600, 19200, 38400, 57600, 115200, 230400, 460800])⟩,
   ⟨0x4000, 12, 0x03, 0x03, .u8, .pairWide, 0, .charFormat⟩,
   ⟨0x4000, 12, 0x04, 0x04, .u32, .pairWide, 0, .any⟩,
   ⟨0x4000, 12, 0x05, 0x05, .u8, .pairWide, 1, (.rng 1 4)⟩,
   ⟨0x4000, 12, 0x06, 0x06, .u16, .pairWide, 16, (.rng 2 1020)⟩,
   ⟨0x4000, 12, 0x07, 0x07, .u8, .pairWide, 0, (.rng 0 15)⟩,
   ⟨0x4000, 12, 0x08, 0x08, .i16, .pairWide, 0, (.rng (-255) 1020)⟩,
   ⟨0x4000, 12, 0x09, 0x09, .u8, .pairWide, 0, (.rng 0 3)⟩,
   ⟨0x4000, 12, 0x0A, 0x0A, .u16, .pairWide, 1000, (.rng 20 10000)⟩,
   ⟨0x4000, 12, 0x0B, 0x0B, .u8, .pairWide, 0, (.rng 0 6)⟩,
   ⟨0x4000, 12, 0x0C, 0x0C, .u8, .pairWide, 0, (.rng 0 11)⟩,
   ⟨0x4000, 12, 0x0D, 0x0D, .u8, .ro, 0, .any⟩,
   ⟨0x4000, 12, 0x0E, 0x0E, .u16, .ro, 0, .any⟩,
   ⟨0x4000, 12, 0x0F, 0x0F, .u16, .pairWide, 768, (.rng 1 1024)⟩,
   ⟨0x4000, 12, 0x10, 0x10, .u32, .ro, 0, .any⟩,
   ⟨0x4000, 12, 0x11, 0x11, .u64, .ro, 0, .any⟩,
   ⟨0x4000, 12, 0x12, 0x12, .u32, .ro, 0, .any⟩,
   ⟨0x4000, 12, 0x13, 0x13, .u32, .ro, 0, .any⟩,
   ⟨0x4000, 12, 0x14, 0x14, .u32, .ro, 0, .any⟩,
   ⟨0x4000, 12, 0x15, 0x15, .u32, .ro, 0, .any⟩]

/-- Objects 4040h to 4057h: spec Tables 7-7. -/
def odRows13 : List OdRow :=
  [⟨0x4040, 24, 0x00, 0x00, .u8, .const, 26, .any⟩,
   ⟨0x4040, 24, 0x01, 0x01, .u8, .pairWide, 0, (.rng 0 1)⟩,
   ⟨0x4040, 24, 0x02, 0x02, .u8, .pairWide, 0, (.rng 0 23)⟩,
   ⟨0x4040, 24, 0x03, 0x03, .u8, .pairWide, 0, (.rng 0 1)⟩,
   ⟨0x4040, 24, 0x04, 0x04, .u8, .pairWide, 3, (.rng 1 5)⟩,
   ⟨0x4040, 24, 0x05, 0x05, .u16, .pairWide, 64, (.rng 4 1024)⟩,
   ⟨0x4040, 24, 0x06, 0x06, .u8, .pairWide, 3, (.rng 0 15)⟩,
   ⟨0x4040, 24, 0x07, 0x07, .u8, .pairWide, 3, (.rng 0 0x13)⟩,
   ⟨0x4040, 24, 0x08, 0x08, .u8, .pairWide, 0, (.rng 0 15)⟩,
   ⟨0x4040, 24, 0x09, 0x09, .u8, .pairWide, 0, (.rng 0 2)⟩,
   ⟨0x4040, 24, 0x0A, 0x0A, .i32, .pairWide, 0, (.rng (-8388608) 8388607)⟩,
   ⟨0x4040, 24, 0x0B, 0x0B, .u32, .pairWide, 0, (.rng 0 16777215)⟩,
   ⟨0x4040, 24, 0x0C, 0x0C, .u8, .pairWide, 0, (.rng 0 2)⟩,
   ⟨0x4040, 24, 0x0D, 0x0D, .i32, .pairWide, 0, (.rng (-8388608) 8388607)⟩,
   ⟨0x4040, 24, 0x0E, 0x0E, .u32, .pairWide, 0, (.rng 0 16777215)⟩,
   ⟨0x4040, 24, 0x0F, 0x0F, .i32, .ro, 0, .any⟩,
   ⟨0x4040, 24, 0x10, 0x10, .u16, .ro, 0, .any⟩,
   ⟨0x4040, 24, 0x11, 0x11, .u32, .ro, 0, .any⟩,
   ⟨0x4040, 24, 0x12, 0x12, .u32, .ro, 0, .any⟩,
   ⟨0x4040, 24, 0x13, 0x13, .u32, .ro, 0, .any⟩,
   ⟨0x4040, 24, 0x14, 0x14, .u32, .ro, 0, .any⟩,
   ⟨0x4040, 24, 0x15, 0x15, .u32, .ro, 0, .any⟩,
   ⟨0x4040, 24, 0x16, 0x16, .u32, .ro, 0, .any⟩,
   ⟨0x4040, 24, 0x17, 0x17, .u32, .ro, 0, .any⟩,
   ⟨0x4040, 24, 0x18, 0x18, .u32, .ro, 0, .any⟩,
   ⟨0x4040, 24, 0x19, 0x19, .u32, .ro, 0, .any⟩,
   ⟨0x4040, 24, 0x1A, 0x1A, .u32, .ro, 0, .any⟩]

/-- Objects 4058h to 4135h: spec Tables 7-8, 8-7, 8-8. -/
def odRows14 : List OdRow :=
  [⟨0x4058, 1, 0x00, 0x00, .u8, .const, 2, .any⟩,
   ⟨0x4058, 1, 0x01, 0x01, .u8, .pairWide, 0, (.zr 10 40)⟩,
   ⟨0x4058, 1, 0x02, 0x02, .u8, .pairWide, 0, (.zr 10 40)⟩,
   ⟨0x4100, 12, 0x00, 0x00, .u8, .const, 8, .any⟩,
   ⟨0x4100, 12, 0x01, 0x01, .u8, .pairWide, 0, (.rng 0 5)⟩,
   ⟨0x4100, 12, 0x02, 0x02, .u8, .pairWide, 0, .any⟩,
   ⟨0x4100, 12, 0x03, 0x03, .u8, .pairWide, 1, (.rng 0 1)⟩,
   ⟨0x4100, 12, 0x04, 0x04, .u16, .pairWide, 2000, (.zr 200 60000)⟩,
   ⟨0x4100, 12, 0x05, 0x05, .u16, .pairWide, 1000, (.rng 10 20000)⟩,
   ⟨0x4100, 12, 0x06, 0x06, .u16, .pairWide, 3000, (.rng 100 50000)⟩,
   ⟨0x4100, 12, 0x07, 0x07, .u8, .pairWide, 40, (.rng 20 100)⟩,
   ⟨0x4100, 12, 0x08, 0x08, .u16, .pairWide, 1000, (.rng 100 20000)⟩,
   ⟨0x4120, 22, 0x00, 0x00, .u8, .const, 16, .any⟩,
   ⟨0x4120, 22, 0x01, 0x01, .u8, .pairWide, 1, (.rng 0 1)⟩,
   ⟨0x4120, 22, 0x02, 0x02, .u32, .pairWide, 0, (.rng 0 1000000)⟩,
   ⟨0x4120, 22, 0x03, 0x03, .u8, .pairWide, 0, (.rng 0 1)⟩,
   ⟨0x4120, 22, 0x04, 0x04, .u16, .pairWide, 100, (.rng 5 10000)⟩,
   ⟨0x4120, 22, 0x05, 0x05, .u16, .pairWide, 10, (.rng 0 1000)⟩,
   ⟨0x4120, 22, 0x06, 0x06, .u8, .ro, 0, .any⟩,
   ⟨0x4120, 22, 0x07, 0x07, .i32, .ro, 0, .any⟩,
   ⟨0x4120, 22, 0x08, 0x08, .i32, .ro, 0, .any⟩,
   ⟨0x4120, 22, 0x09, 0x09, .u8, .pairWide, 0, (.cmd 0x01)⟩,
   ⟨0x4120, 22, 0x0A, 0x0A, .u32, .ro, 0, .any⟩,
   ⟨0x4120, 22, 0x0B, 0x0B, .u32, .ro, 0, .any⟩,
   ⟨0x4120, 22, 0x0C, 0x0C, .u32, .ro, 0, .any⟩,
   ⟨0x4120, 22, 0x0D, 0x0D, .u32, .ro, 0, .any⟩,
   ⟨0x4120, 22, 0x0E, 0x0E, .u32, .ro, 0, .any⟩,
   ⟨0x4120, 22, 0x0F, 0x0F, .u32, .ro, 0, .any⟩,
   ⟨0x4120, 22, 0x10, 0x10, .u32, .ro, 0, .any⟩]

/-- Objects 4140h to 4160h: spec Tables 8-9, 8-10, 8-11. -/
def odRows15 : List OdRow :=
  [⟨0x4140, 1, 0x00, 0x00, .u8, .const, 6, .any⟩,
   ⟨0x4140, 1, 0x01, 0x01, .u16, .pairWide, 150, (.rng 20 500)⟩,
   ⟨0x4140, 1, 0x02, 0x02, .u32, .ro, 0, .any⟩,
   ⟨0x4140, 1, 0x03, 0x03, .u8, .ro, 255, .any⟩,
   ⟨0x4140, 1, 0x04, 0x04, .u32, .ro, 0, .any⟩,
   ⟨0x4140, 1, 0x05, 0x05, .u16, .const, 2000, .any⟩,
   ⟨0x4140, 1, 0x06, 0x06, .u16, .const, 30, .any⟩,
   ⟨0x4150, 12, 0x00, 0x00, .u8, .const, 8, .any⟩,
   ⟨0x4150, 12, 0x01, 0x01, .u8, .ro, 0, .any⟩,
   ⟨0x4150, 12, 0x02, 0x02, .u16, .ro, 0, .any⟩,
   ⟨0x4150, 12, 0x03, 0x03, .u16, .ro, 0, .any⟩,
   ⟨0x4150, 12, 0x04, 0x04, .u32, .ro, 4294967295, .any⟩,
   ⟨0x4150, 12, 0x05, 0x05, .i32, .ro, 0, .any⟩,
   ⟨0x4150, 12, 0x06, 0x06, .i32, .ro, 0, .any⟩,
   ⟨0x4150, 12, 0x07, 0x07, .u32, .ro, 0, .any⟩,
   ⟨0x4150, 12, 0x08, 0x08, .u32, .ro, 0, .any⟩,
   ⟨0x4160, 1, 0x00, 0x00, .u8, .const, 7, .any⟩,
   ⟨0x4160, 1, 0x01, 0x01, .u16, .pairWide, 10000, (.rng 2000 60000)⟩,
   ⟨0x4160, 1, 0x02, 0x02, .u16, .pairWide, 60, (.rng 10 600)⟩,
   ⟨0x4160, 1, 0x03, 0x03, .u16, .pairWide, 20, (.rng 1 600)⟩,
   ⟨0x4160, 1, 0x04, 0x04, .u16, .pairWide, 200, (.rng 0 5000)⟩,
   ⟨0x4160, 1, 0x05, 0x05, .u8, .pairWide, 3, (.rng 1 20)⟩,
   ⟨0x4160, 1, 0x06, 0x06, .u32, .ro, 0, .any⟩,
   ⟨0x4160, 1, 0x07, 0x07, .u32, .ro, 0, .any⟩]

/-- Objects 4200h to 4201h: spec Tables 9-6, 9-7. -/
def odRows16 : List OdRow :=
  [⟨0x4200, 1, 0x00, 0x00, .u8, .const, 12, .any⟩,
   ⟨0x4200, 1, 0x01, 0x01, .u8, .pairWide, 1, (.rng 0 1)⟩,
   ⟨0x4200, 1, 0x02, 0x02, .u8, .pairWide, 0, (.rng 0 2)⟩,
   ⟨0x4200, 1, 0x03, 0x03, .u16, .pairWide, 1000, (.rng 100 10000)⟩,
   ⟨0x4200, 1, 0x04, 0x04, .u16, .pairWide, 3000, (.rng 100 10000)⟩,
   ⟨0x4200, 1, 0x05, 0x05, .u16, .pairWide, 100, (.rng 10 500)⟩,
   ⟨0x4200, 1, 0x06, 0x06, .u8, .pairWide, 3, (.rng 1 30)⟩,
   ⟨0x4200, 1, 0x07, 0x07, .u16, .pairWide, 300, (.rng 10 1800)⟩,
   ⟨0x4200, 1, 0x08, 0x08, .u16, .pairWide, 500, (.rng 100 5000)⟩,
   ⟨0x4200, 1, 0x09, 0x09, .u8, .pairWide, 3, (.rng 1 20)⟩,
   ⟨0x4200, 1, 0x0A, 0x0A, .u8, .const, 40, .any⟩,
   ⟨0x4200, 1, 0x0B, 0x0B, .u8, .pairWide, 40, (.rng 20 100)⟩,
   ⟨0x4200, 1, 0x0C, 0x0C, .u16, .pairWide, 20, (.rng 1 1000)⟩,
   ⟨0x4201, 1, 0x00, 0x00, .u8, .const, 11, .any⟩,
   ⟨0x4201, 1, 0x01, 0x01, .u8, .ro, 0, .any⟩,
   ⟨0x4201, 1, 0x02, 0x02, .u8, .ro, 0, .any⟩,
   ⟨0x4201, 1, 0x03, 0x03, .u32, .ro, 0, .any⟩,
   ⟨0x4201, 1, 0x04, 0x04, .u32, .ro, 4294967295, .any⟩,
   ⟨0x4201, 1, 0x05, 0x05, .u16, .ro, 65535, .any⟩,
   ⟨0x4201, 1, 0x06, 0x06, .u8, .ro, 0, .any⟩,
   ⟨0x4201, 1, 0x07, 0x07, .u32, .ro, 0, .any⟩,
   ⟨0x4201, 1, 0x08, 0x08, .u32, .ro, 0, .any⟩,
   ⟨0x4201, 1, 0x09, 0x09, .u32, .ro, 0, .any⟩,
   ⟨0x4201, 1, 0x0A, 0x0A, .u32, .ro, 0, .any⟩,
   ⟨0x4201, 1, 0x0B, 0x0B, .u32, .ro, 0, .any⟩]

/-- Objects 4204h to 422Bh: spec Tables 9-8, 9-9, 9-10. -/
def odRows17 : List OdRow :=
  [⟨0x4204, 1, 0x00, 0x00, .u8, .const, 12, .any⟩,
   ⟨0x4204, 1, 0x01, 0x02, .u32, .pairWide, 10000, (.rng 100 1000000)⟩,
   ⟨0x4204, 1, 0x03, 0x03, .u32, .pairWide, 5000000, (.rng 1000 4000000000)⟩,
   ⟨0x4204, 1, 0x04, 0x05, .u32, .pairWide, 100, (.rng 1 100000)⟩,
   ⟨0x4204, 1, 0x06, 0x06, .u32, .pairWide, 100000, (.rng 100 1000000000)⟩,
   ⟨0x4204, 1, 0x07, 0x07, .u8, .const, 0, .any⟩,
   ⟨0x4204, 1, 0x08, 0x08, .u16, .pairWide, 80, (.rng 40 200)⟩,
   ⟨0x4204, 1, 0x09, 0x09, .u16, .pairWide, 100, (.rng 50 500)⟩,
   ⟨0x4204, 1, 0x0A, 0x0A, .u16, .pairWide, 80, (.rng 20 400)⟩,
   ⟨0x4204, 1, 0x0B, 0x0B, .u16, .pairWide, 120, (.rng 20 400)⟩,
   ⟨0x4204, 1, 0x0C, 0x0C, .u16, .pairWide, 70, (.rng 20 400)⟩,
   ⟨0x4210, 1, 0x00, 0x00, .u8, .const, 24, .any⟩,
   ⟨0x4210, 1, 0x01, 0x03, .i32, .guarded, 0, (.rng (-200000) 200000)⟩,
   ⟨0x4210, 1, 0x04, 0x06, .i32, .guarded, 0, (.rng (-200000) 200000)⟩,
   ⟨0x4210, 1, 0x07, 0x0F, .i32, .guarded, 0, (.rng (-200000) 200000)⟩,
   ⟨0x4210, 1, 0x10, 0x18, .i32, .guarded, 0, (.rng (-180000) 180000)⟩,
   ⟨0x4220, 12, 0x00, 0x00, .u8, .const, 7, .any⟩,
   ⟨0x4220, 12, 0x01, 0x03, .i32, .guarded, 0, (.rng (-200000) 200000)⟩,
   ⟨0x4220, 12, 0x04, 0x04, .u32, .pairWide, 0, (.rng 0 1000000)⟩,
   ⟨0x4220, 12, 0x05, 0x05, .u16, .pairWide, 10, (.rng 1 10000)⟩,
   ⟨0x4220, 12, 0x06, 0x06, .i32, .ro, 0, .any⟩,
   ⟨0x4220, 12, 0x07, 0x07, .i32, .ro, 0, .any⟩]

/-- Objects 4230h to 4249h: spec Tables 9-11, 9-12. -/
def odRows18 : List OdRow :=
  [⟨0x4230, 1, 0x00, 0x00, .u8, .const, 16, .any⟩,
   ⟨0x4230, 1, 0x01, 0x01, .u8, .pairWide, 1, (.rng 0 1)⟩,
   ⟨0x4230, 1, 0x02, 0x02, .u16, .pairWide, 30, (.rng 5 500)⟩,
   ⟨0x4230, 1, 0x03, 0x03, .u16, .ro, 0, .any⟩,
   ⟨0x4230, 1, 0x04, 0x04, .u16, .ro, 0, .any⟩,
   ⟨0x4230, 1, 0x05, 0x05, .u8, .pairWide, 0, (.cmd 0x01)⟩,
   ⟨0x4230, 1, 0x06, 0x06, .u8, .ro, 0, .any⟩,
   ⟨0x4230, 1, 0x07, 0x09, .i16, .ro, 0, .any⟩,
   ⟨0x4230, 1, 0x0A, 0x0C, .i16, .ro, 0, .any⟩,
   ⟨0x4230, 1, 0x0D, 0x0F, .i16, .ro, 0, .any⟩,
   ⟨0x4230, 1, 0x10, 0x10, .u32, .ro, 0, .any⟩,
   ⟨0x4240, 10, 0x00, 0x00, .u8, .const, 8, .any⟩,
   ⟨0x4240, 10, 0x01, 0x01, .u8, .ro, 0, .any⟩,
   ⟨0x4240, 10, 0x02, 0x02, .u16, .pairWide, 30, (.zr 5 600)⟩,
   ⟨0x4240, 4, 0x03, 0x03, .u16, .pairWide, 100, (.rng 1 5000)⟩,
   ⟨0x4240, 10, 0x04, 0x04, .u8, .ro, 0, .any⟩,
   ⟨0x4240, 10, 0x05, 0x05, .i32, .ro, 0, .any⟩,
   ⟨0x4240, 10, 0x06, 0x06, .u32, .ro, 0, .any⟩,
   ⟨0x4240, 10, 0x07, 0x07, .u32, .ro, 0, .any⟩,
   ⟨0x4240, 10, 0x08, 0x08, .u16, .ro, 0, .any⟩,
   ⟨0x4244, 3, 0x03, 0x03, .u16, .pairWide, 50, (.rng 1 5000)⟩,
   ⟨0x4247, 3, 0x03, 0x03, .u16, .pairWide, 200, (.rng 1 5000)⟩]

/-- Objects 4250h to 4300h: spec Tables 9-13, 10-3. -/
def odRows19 : List OdRow :=
  [⟨0x4250, 1, 0x00, 0x00, .u8, .const, 18, .any⟩,
   ⟨0x4250, 1, 0x01, 0x02, .i32, .ro, 0, .any⟩,
   ⟨0x4250, 1, 0x03, 0x03, .u32, .ro, 0, .any⟩,
   ⟨0x4250, 1, 0x04, 0x05, .i32, .ro, 0, .any⟩,
   ⟨0x4250, 1, 0x06, 0x06, .i32, .ro, 0, .any⟩,
   ⟨0x4250, 1, 0x07, 0x08, .i32, .ro, 0, .any⟩,
   ⟨0x4250, 1, 0x09, 0x09, .i32, .ro, 0, .any⟩,
   ⟨0x4250, 1, 0x0A, 0x0B, .i32, .ro, 0, .any⟩,
   ⟨0x4250, 1, 0x0C, 0x0C, .i32, .ro, 0, .any⟩,
   ⟨0x4250, 1, 0x0D, 0x0E, .i32, .ro, 0, .any⟩,
   ⟨0x4250, 1, 0x0F, 0x0F, .u16, .ro, 0, .any⟩,
   ⟨0x4250, 1, 0x10, 0x10, .u16, .ro, 0, .any⟩,
   ⟨0x4250, 1, 0x11, 0x11, .u8, .ro, 0, .any⟩,
   ⟨0x4250, 1, 0x12, 0x12, .i32, .ro, 0, .any⟩,
   ⟨0x4300, 1, 0x00, 0x00, .u8, .const, 9, .any⟩,
   ⟨0x4300, 1, 0x01, 0x01, .u8, .pairWide, 0, (.rng 0 3)⟩,
   ⟨0x4300, 1, 0x02, 0x02, .u16, .pairWide, 200, (.rng 10 5000)⟩,
   ⟨0x4300, 1, 0x03, 0x03, .u8, .pairWide, 40, (.rng 20 100)⟩,
   ⟨0x4300, 1, 0x04, 0x04, .u16, .pairWide, 500, (.rng 0 10000)⟩,
   ⟨0x4300, 1, 0x05, 0x05, .u16, .pairWide, 50, (.rng 1 5000)⟩,
   ⟨0x4300, 1, 0x06, 0x06, .u8, .ro, 0, .any⟩,
   ⟨0x4300, 1, 0x07, 0x07, .u32, .ro, 0, .any⟩,
   ⟨0x4300, 1, 0x08, 0x08, .u32, .ro, 0, .any⟩,
   ⟨0x4300, 1, 0x09, 0x09, .u32, .ro, 0, .any⟩]

/-- Objects 4301h to 434Fh: spec Tables 10-4, 10-5. -/
def odRows20 : List OdRow :=
  [⟨0x4301, 4, 0x00, 0x00, .u8, .const, 13, .any⟩,
   ⟨0x4301, 4, 0x01, 0x01, .u8, .pairWide, 0, (.rng 0 2)⟩,
   ⟨0x4301, 4, 0x02, 0x02, .u8, .pairWide, 0, (.rng 0 11)⟩,
   ⟨0x4301, 4, 0x03, 0x03, .u32, .pairWide, 0, (.rng 0 1000000)⟩,
   ⟨0x4301, 4, 0x04, 0x04, .u16, .pairWide, 1000, (.rng 50 10000)⟩,
   ⟨0x4301, 4, 0x05, 0x05, .u16, .pairWide, 0, (.rng 0 35999)⟩,
   ⟨0x4301, 4, 0x06, 0x06, .u32, .pairWide, 1000, (.rng 0 10000000)⟩,
   ⟨0x4301, 4, 0x07, 0x07, .u32, .pairWide, 2000000, (.rng 0 10000000)⟩,
   ⟨0x4301, 4, 0x08, 0x08, .u16, .pairWide, 50, (.rng 1 10000)⟩,
   ⟨0x4301, 4, 0x09, 0x09, .u16, .pairWide, 20, (.rng 1 10000)⟩,
   ⟨0x4301, 4, 0x0A, 0x0A, .u16, .pairWide, 3000, (.rng 100 50000)⟩,
   ⟨0x4301, 4, 0x0B, 0x0B, .u32, .ro, 0, .any⟩,
   ⟨0x4301, 4, 0x0C, 0x0C, .u32, .ro, 0, .any⟩,
   ⟨0x4301, 4, 0x0D, 0x0D, .u32, .ro, 0, .any⟩,
   ⟨0x4310, 64, 0x00, 0x00, .u8, .const, 13, .any⟩,
   ⟨0x4310, 64, 0x01, 0x01, .u8, .ro, 0, .any⟩,
   ⟨0x4310, 64, 0x02, 0x02, .u16, .ro, 0, .any⟩,
   ⟨0x4310, 64, 0x03, 0x03, .u8, .ro, 255, .any⟩,
   ⟨0x4310, 64, 0x04, 0x04, .u8, .ro, 0, .any⟩,
   ⟨0x4310, 64, 0x05, 0x06, .i32, .ro, 0, .any⟩,
   ⟨0x4310, 64, 0x07, 0x08, .i32, .ro, 0, .any⟩,
   ⟨0x4310, 64, 0x09, 0x09, .u32, .ro, 4294967295, .any⟩,
   ⟨0x4310, 64, 0x0A, 0x0A, .u32, .ro, 0, .any⟩,
   ⟨0x4310, 64, 0x0B, 0x0B, .u16, .ro, 0, .any⟩,
   ⟨0x4310, 64, 0x0C, 0x0C, .u8, .ro, 0, .any⟩,
   ⟨0x4310, 64, 0x0D, 0x0D, .u8, .pairWide, 0, (.cmd 0x01)⟩]

/-- Objects 5000h to 5000h: spec Tables 11-5. -/
def odRows21 : List OdRow :=
  [⟨0x5000, 1, 0x00, 0x00, .u8, .const, 20, .any⟩,
   ⟨0x5000, 1, 0x01, 0x01, .u8, .ro, 1, .any⟩,
   ⟨0x5000, 1, 0x02, 0x02, .u8, .ro, 1, .any⟩,
   ⟨0x5000, 1, 0x03, 0x03, .u8, .ro, 0, .any⟩,
   ⟨0x5000, 1, 0x04, 0x04, .u16, .ro, 0, .any⟩,
   ⟨0x5000, 1, 0x05, 0x05, .u8, .ro, 0, .any⟩,
   ⟨0x5000, 1, 0x06, 0x06, .u16, .ro, 0, .any⟩,
   ⟨0x5000, 1, 0x07, 0x07, .u8, .ro, 0, .any⟩,
   ⟨0x5000, 1, 0x08, 0x08, .u16, .ro, 0, .any⟩,
   ⟨0x5000, 1, 0x09, 0x09, .u32, .ro, 0, .any⟩,
   ⟨0x5000, 1, 0x0A, 0x0A, .u32, .ro, 0, .any⟩,
   ⟨0x5000, 1, 0x0B, 0x0B, .u32, .ro, 0, .any⟩,
   ⟨0x5000, 1, 0x0C, 0x0D, .i32, .ro, 0, .any⟩,
   ⟨0x5000, 1, 0x0E, 0x0E, .i32, .ro, 0, .any⟩,
   ⟨0x5000, 1, 0x0F, 0x10, .i32, .ro, 0, .any⟩,
   ⟨0x5000, 1, 0x11, 0x11, .u32, .ro, 0, .any⟩,
   ⟨0x5000, 1, 0x12, 0x13, .i32, .ro, 0, .any⟩,
   ⟨0x5000, 1, 0x14, 0x14, .i32, .ro, 0, .any⟩]

/-- Objects 5001h to 5010h: spec Tables 11-6, 11-7. -/
def odRows22 : List OdRow :=
  [⟨0x5001, 1, 0x00, 0x00, .u8, .const, 5, .any⟩,
   ⟨0x5001, 1, 0x01, 0x01, .u8, .pairWide, 0, (.rng 0 4)⟩,
   ⟨0x5001, 1, 0x02, 0x02, .u16, .pairWide, 1000, .outputPhase⟩,
   ⟨0x5001, 1, 0x03, 0x03, .u16, .pairWide, 500, (.rng 100 5000)⟩,
   ⟨0x5001, 1, 0x04, 0x04, .u16, .pairWide, 5000, (.rng 0 50000)⟩,
   ⟨0x5001, 1, 0x05, 0x05, .u16, .pairWide, 5000, (.rng 0 30000)⟩,
   ⟨0x5010, 1, 0x00, 0x00, .u8, .const, 19, .any⟩,
   ⟨0x5010, 1, 0x01, 0x01, .u8, .pairWide, 0, (.rng 0 7)⟩,
   ⟨0x5010, 1, 0x02, 0x02, .u8, .pairWide, 0, (.mask 0x3)⟩,
   ⟨0x5010, 1, 0x03, 0x04, .i32, .pairWide, 0, .any⟩,
   ⟨0x5010, 1, 0x05, 0x05, .u32, .pairWide, 0, (.rng 0 3599999)⟩,
   ⟨0x5010, 1, 0x06, 0x06, .u16, .pairWide, 200, (.rng 10 2000)⟩,
   ⟨0x5010, 1, 0x07, 0x07, .u8, .pairWide, 0, (.rng 0 1)⟩,
   ⟨0x5010, 1, 0x08, 0x08, .u8, .pairWide, 0, (.rng 0 63)⟩,
   ⟨0x5010, 1, 0x09, 0x09, .u16, .pairWide, 0, .any⟩,
   ⟨0x5010, 1, 0x0A, 0x0B, .i32, .pairWide, 0, (.rng (-1000000) 1000000)⟩,
   ⟨0x5010, 1, 0x0C, 0x0E, .i16, .rwMapped, 0, (.rng (-1000) 1000)⟩,
   ⟨0x5010, 1, 0x0F, 0x10, .i32, .pairWide, 0, .any⟩,
   ⟨0x5010, 1, 0x11, 0x12, .i32, .ro, 0, .any⟩,
   ⟨0x5010, 1, 0x13, 0x13, .i32, .ro, 0, .any⟩]

/-- Objects 5030h to 5031h: spec Tables 11-8. -/
def odRows23 : List OdRow :=
  [⟨0x5030, 2, 0x00, 0x00, .u8, .const, 141, .any⟩,
   ⟨0x5030, 2, 0x01, 0x02, .r32, .pairWide, 1103626240, (.real 0 1000000000)⟩,
   ⟨0x5030, 2, 0x03, 0x03, .r32, .pairWide, 1128792064, (.real 0 1000000000)⟩,
   ⟨0x5030, 2, 0x04, 0x06, .r32, .pairWide, 0, (.real 0 1000000000)⟩,
   ⟨0x5030, 2, 0x07, 0x08, .r32, .pairWide, 1056964608, (.real 0 1000000000)⟩,
   ⟨0x5030, 2, 0x09, 0x09, .r32, .pairWide, 1082130432, (.real 0 1000000000)⟩,
   ⟨0x5030, 2, 0x0A, 0x0B, .r32, .pairWide, 1147207680, (.real 0 1000000000)⟩,
   ⟨0x5030, 2, 0x0C, 0x0C, .r32, .pairWide, 1174011904, (.real 0 1000000000)⟩,
   ⟨0x5030, 2, 0x0D, 0x0E, .u32, .pairWide, 300, (.rng 0 100000)⟩,
   ⟨0x5030, 2, 0x0F, 0x0F, .u32, .pairWide, 3000, (.rng 0 100000)⟩,
   ⟨0x5030, 2, 0x10, 0x10, .u32, .pairWide, 1500, (.rng 1 100000)⟩,
   ⟨0x5030, 2, 0x11, 0x11, .u32, .pairWide, 1000, (.rng 1 100000)⟩,
   ⟨0x5030, 2, 0x12, 0x12, .u32, .pairWide, 20000, (.rng 1 100000)⟩,
   ⟨0x5030, 2, 0x13, 0x13, .u16, .pairWide, 300, (.rng 10 2000)⟩,
   ⟨0x5030, 2, 0x14, 0x14, .u16, .pairWide, 20, (.rng 1 500)⟩,
   ⟨0x5030, 2, 0x15, 0x15, .u16, .pairWide, 10, (.rng 1 500)⟩,
   ⟨0x5030, 2, 0x16, 0x16, .u16, .pairWide, 100, (.rng 1 1000)⟩,
   ⟨0x5030, 2, 0x17, 0x17, .u16, .pairWide, 100, (.rng 1 5000)⟩,
   ⟨0x5030, 2, 0x18, 0x18, .u16, .pairWide, 50, (.rng 1 5000)⟩,
   ⟨0x5030, 2, 0x19, 0x19, .u16, .pairWide, 800, (.rng 0 1000)⟩,
   ⟨0x5030, 2, 0x1A, 0x1A, .u16, .pairWide, 500, (.rng 0 1000)⟩,
   ⟨0x5030, 2, 0x1B, 0x1C, .r32, .pairWide, 0, (.real (-1000000000) 1000000000)⟩,
   ⟨0x5030, 2, 0x1D, 0x1D, .u16, .pairWide, 200, (.rng 0 2000)⟩,
   ⟨0x5030, 2, 0x1E, 0x1E, .u16, .pairWide, 2000, (.rng 0 30000)⟩,
   ⟨0x5030, 2, 0x1F, 0x20, .u32, .pairWide, 100, (.rng 0 100000)⟩,
   ⟨0x5030, 2, 0x21, 0x21, .u32, .pairWide, 1000, (.rng 0 100000)⟩,
   ⟨0x5030, 2, 0x22, 0x45, .r32, .pairWide, 0, (.real (-1000000000) 1000000000)⟩,
   ⟨0x5030, 2, 0x46, 0x69, .r32, .pairWide, 0, (.real (-1000000000) 1000000000)⟩,
   ⟨0x5030, 2, 0x6A, 0x8D, .r32, .pairWide, 0, (.real (-100000000000) 100000000000)⟩]

/-- Objects 5038h to 511Fh: spec Tables 11-9, 12-5. -/
def odRows24 : List OdRow :=
  [⟨0x5038, 1, 0x00, 0x00, .u8, .const, 5, .any⟩,
   ⟨0x5038, 1, 0x01, 0x01, .u8, .ro, 0, .any⟩,
   ⟨0x5038, 1, 0x02, 0x02, .u8, .pairWide, 0, (.rng 1 2)⟩,
   ⟨0x5038, 1, 0x03, 0x03, .u8, .ro, 0, .any⟩,
   ⟨0x5038, 1, 0x04, 0x04, .u32, .ro, 0, .any⟩,
   ⟨0x5038, 1, 0x05, 0x05, .u32, .ro, 0, .any⟩,
   ⟨0x5040, 1, 0x00, 0x00, .u8, .const, 6, .any⟩,
   ⟨0x5040, 1, 0x01, 0x01, .u16, .const, 9000, .any⟩,
   ⟨0x5040, 1, 0x02, 0x02, .u32, .ro, 0, .any⟩,
   ⟨0x5040, 1, 0x03, 0x03, .u32, .ro, 0, .any⟩,
   ⟨0x5040, 1, 0x04, 0x04, .u32, .ro, 0, .any⟩,
   ⟨0x5040, 1, 0x05, 0x05, .i8, .ro, (-128), .any⟩,
   ⟨0x5040, 1, 0x06, 0x06, .u32, .ro, 0, .any⟩,
   ⟨0x5100, 32, 0x00, 0x00, .u8, .const, 9, .any⟩,
   ⟨0x5100, 32, 0x01, 0x01, .u8, .pairWide, 0, (.rng 0 1)⟩,
   ⟨0x5100, 32, 0x02, 0x02, .u8, .ro, 0, .any⟩,
   ⟨0x5100, 32, 0x03, 0x03, .i32, .ro, 0, .any⟩,
   ⟨0x5100, 32, 0x04, 0x04, .i32, .ro, 0, .any⟩,
   ⟨0x5100, 32, 0x05, 0x06, .i32, .ro, 0, .any⟩,
   ⟨0x5100, 32, 0x07, 0x07, .u32, .ro, 0, .any⟩,
   ⟨0x5100, 32, 0x08, 0x08, .u16, .ro, 0, .any⟩,
   ⟨0x5100, 32, 0x09, 0x09, .u16, .ro, 0, .any⟩]

/-- Objects 5120h to 5130h: spec Tables 12-8, 12-6. -/
def odRows25 : List OdRow :=
  [⟨0x5120, 8, 0x00, 0x00, .u8, .const, 8, .any⟩,
   ⟨0x5120, 8, 0x01, 0x01, .u8, .pairWide, 0, (.rng 0 1)⟩,
   ⟨0x5120, 8, 0x02, 0x02, .u32, .rwMapped, 0, (.rng 0 100000)⟩,
   ⟨0x5120, 8, 0x03, 0x03, .u32, .pairWide, 0, (.rng 0 100000)⟩,
   ⟨0x5120, 8, 0x04, 0x04, .u32, .ro, 0, .any⟩,
   ⟨0x5120, 8, 0x05, 0x05, .u32, .ro, 0, .any⟩,
   ⟨0x5120, 8, 0x06, 0x06, .u8, .ro, 0, .any⟩,
   ⟨0x5120, 8, 0x07, 0x07, .u32, .ro, 0, .any⟩,
   ⟨0x5120, 8, 0x08, 0x08, .u32, .ro, 0, .any⟩,
   ⟨0x5130, 1, 0x00, 0x00, .u8, .const, 8, .any⟩,
   ⟨0x5130, 1, 0x01, 0x01, .u8, .pairWide, 0, (.rng 0 1)⟩,
   ⟨0x5130, 1, 0x02, 0x02, .u8, .pairWide, 0, (.rng 0 5)⟩,
   ⟨0x5130, 1, 0x03, 0x03, .r32, .pairWide, 1454761505, (.real 1000 (10 ^ 33))⟩,
   ⟨0x5130, 1, 0x04, 0x04, .r32, .pairWide, 1371161527, (.real 1000 (10 ^ 33))⟩,
   ⟨0x5130, 1, 0x05, 0x05, .r32, .pairWide, 1287568416, (.real 1000 (10 ^ 33))⟩,
   ⟨0x5130, 1, 0x06, 0x06, .u16, .pairWide, 100, (.rng 1 10000)⟩,
   ⟨0x5130, 1, 0x07, 0x07, .u16, .pairWide, 10, (.rng 1 1000)⟩,
   ⟨0x5130, 1, 0x08, 0x08, .r32, .pairWide, 1028443341, (.real 1 10000)⟩]

/-- Objects 5131h to 515Fh: spec Tables 12-7, 12-9. -/
def odRows26 : List OdRow :=
  [⟨0x5131, 1, 0x00, 0x00, .u8, .const, 13, .any⟩,
   ⟨0x5131, 1, 0x01, 0x01, .u8, .ro, 2, .any⟩,
   ⟨0x5131, 1, 0x02, 0x02, .u8, .ro, 0, .any⟩,
   ⟨0x5131, 1, 0x03, 0x03, .u8, .ro, 0, .any⟩,
   ⟨0x5131, 1, 0x04, 0x04, .u32, .ro, 0, .any⟩,
   ⟨0x5131, 1, 0x05, 0x05, .u32, .ro, 0, .any⟩,
   ⟨0x5131, 1, 0x06, 0x07, .i32, .ro, 0, .any⟩,
   ⟨0x5131, 1, 0x08, 0x08, .i32, .ro, 0, .any⟩,
   ⟨0x5131, 1, 0x09, 0x09, .u16, .ro, 0, .any⟩,
   ⟨0x5131, 1, 0x0A, 0x0A, .r32, .ro, 0, .any⟩,
   ⟨0x5131, 1, 0x0B, 0x0B, .u32, .ro, 0, .any⟩,
   ⟨0x5131, 1, 0x0C, 0x0C, .u32, .ro, 0, .any⟩,
   ⟨0x5131, 1, 0x0D, 0x0D, .u8, .ro, 0, .any⟩,
   ⟨0x5140, 32, 0x00, 0x00, .u8, .const, 25, .any⟩,
   ⟨0x5140, 32, 0x01, 0x01, .u8, .pairWide, 0, (.rng 0 3)⟩,
   ⟨0x5140, 32, 0x02, 0x03, .i32, .pairWide, 0, (.rng (-200000) 200000)⟩,
   ⟨0x5140, 32, 0x04, 0x04, .u16, .pairWide, 0, (.rng 0 35999)⟩,
   ⟨0x5140, 32, 0x05, 0x05, .u32, .pairWide, 0, (.rng 0 100000)⟩,
   ⟨0x5140, 32, 0x06, 0x06, .u32, .pairWide, 0, (.rng 0 100000)⟩,
   ⟨0x5140, 32, 0x07, 0x07, .u32, .pairWide, 1000, (.rng 1 50000)⟩,
   ⟨0x5140, 32, 0x08, 0x08, .u32, .pairWide, 1000, (.rng 1 100000)⟩,
   ⟨0x5140, 32, 0x09, 0x09, .u32, .pairWide, 0, (.rng 0 5000)⟩,
   ⟨0x5140, 32, 0x0A, 0x0A, .u8, .pairWide, 0, (.rng 0 7)⟩,
   ⟨0x5140, 32, 0x0B, 0x0B, .u16, .pairWide, 500, (.rng 1 3000)⟩,
   ⟨0x5140, 32, 0x0C, 0x0C, .u32, .pairWide, 200, (.rng 1 100000)⟩,
   ⟨0x5140, 32, 0x0D, 0x0D, .u32, .pairWide, 200, (.rng 1 100000)⟩,
   ⟨0x5140, 32, 0x0E, 0x0E, .u32, .pairWide, 2000, (.rng 1 1000000)⟩,
   ⟨0x5140, 32, 0x0F, 0x0F, .u16, .pairWide, 12, (.rng 1 100)⟩,
   ⟨0x5140, 32, 0x10, 0x10, .u16, .pairWide, 350, (.rng 10 700)⟩,
   ⟨0x5140, 32, 0x11, 0x18, .u16, .pairWide, 0, (.rng 0 35999)⟩,
   ⟨0x5140, 32, 0x19, 0x19, .u8, .const, 0, .any⟩]

/-- Objects 5200h to 6011h: spec Tables 12-10, 12-11, 13-6, 13-7, 13-8. -/
def odRows27 : List OdRow :=
  [⟨0x5200, 32, 0x00, 0x00, .dom, .pairWide, 0, (.blob 512 512)⟩,
   ⟨0x5220, 32, 0x00, 0x00, .dom, .pairWide, 0, (.blob 512 512)⟩,
   ⟨0x6000, 1, 0x00, 0x00, .u8, .const, 4, .any⟩,
   ⟨0x6000, 1, 0x01, 0x01, .u8, .pairWide, 1, (.rng 0 2)⟩,
   ⟨0x6000, 1, 0x02, 0x02, .u16, .pairWide, 200, (.rng 0 5000)⟩,
   ⟨0x6000, 1, 0x03, 0x03, .u16, .pairWide, 5000, (.rng 500 30000)⟩,
   ⟨0x6000, 1, 0x04, 0x04, .u16, .const, 2000, .any⟩,
   ⟨0x6001, 1, 0x00, 0x00, .u8, .const, 6, .any⟩,
   ⟨0x6001, 1, 0x01, 0x01, .u32, .ro, 0, .any⟩,
   ⟨0x6001, 1, 0x02, 0x02, .u16, .ro, 0, .any⟩,
   ⟨0x6001, 1, 0x03, 0x03, .u32, .ro, 4294967295, .any⟩,
   ⟨0x6001, 1, 0x04, 0x04, .u32, .ro, 0, .any⟩,
   ⟨0x6001, 1, 0x05, 0x05, .u32, .ro, 0, .any⟩,
   ⟨0x6001, 1, 0x06, 0x06, .u32, .ro, 0, .any⟩,
   ⟨0x6010, 2, 0x00, 0x00, .u8, .const, 20, .any⟩,
   ⟨0x6010, 2, 0x01, 0x01, .u8, .pairWide, 0, (.rng 0 1)⟩,
   ⟨0x6010, 2, 0x02, 0x02, .u8, .pairWide, 0, (.rng 0 3)⟩,
   ⟨0x6010, 2, 0x03, 0x03, .u8, .pairWide, 0, (.rng 0 3)⟩,
   ⟨0x6010, 2, 0x04, 0x05, .u8, .pairWide, 0, (.rng 0 23)⟩,
   ⟨0x6010, 2, 0x06, 0x06, .u8, .pairWide, 0, (.rng 0 2)⟩,
   ⟨0x6010, 2, 0x07, 0x07, .u8, .pairWide, 0, (.rng 0 23)⟩,
   ⟨0x6010, 2, 0x08, 0x08, .r32, .pairWide, 1065353216, (.real (-1000000000) 1000000000)⟩,
   ⟨0x6010, 2, 0x09, 0x09, .u8, .pairWide, 0, (.rng 0 1)⟩,
   ⟨0x6010, 2, 0x0A, 0x0A, .u32, .pairWide, 1000, (.rng 1 100000)⟩,
   ⟨0x6010, 2, 0x0B, 0x0B, .u8, .pairWide, 0, (.rng 0 1)⟩,
   ⟨0x6010, 2, 0x0C, 0x0C, .u16, .pairWide, 0, (.rng 0 35999)⟩,
   ⟨0x6010, 2, 0x0D, 0x0D, .u8, .pairWide, 0, (.rng 0 1)⟩,
   ⟨0x6010, 2, 0x0E, 0x0E, .u32, .pairWide, 0, .any⟩,
   ⟨0x6010, 2, 0x0F, 0x0F, .u8, .pairWide, 255, (.rngOr 0 23 255)⟩,
   ⟨0x6010, 2, 0x10, 0x10, .r32, .pairWide, 0, (.real 0 100000000)⟩,
   ⟨0x6010, 2, 0x11, 0x11, .u8, .pairWide, 4, (.rng 1 64)⟩,
   ⟨0x6010, 2, 0x12, 0x12, .u16, .pairWide, 500, (.rng 10 5000)⟩,
   ⟨0x6010, 2, 0x13, 0x13, .u16, .pairWide, 10, (.rng 1 1000)⟩,
   ⟨0x6010, 2, 0x14, 0x14, .u16, .pairWide, 2000, (.rng 0 30000)⟩]

/-- Objects 6020h to 6043h: spec Tables 13-9, 13-10, 13-11. -/
def odRows28 : List OdRow :=
  [⟨0x6020, 4, 0x00, 0x00, .u8, .const, 9, .any⟩,
   ⟨0x6020, 4, 0x01, 0x01, .u8, .pairWide, 0, (.rng 0 1)⟩,
   ⟨0x6020, 4, 0x02, 0x02, .u8, .pairWide, 25, (.rng 8 32)⟩,
   ⟨0x6020, 4, 0x03, 0x03, .u16, .pairWide, 1000, (.rng 100 4000)⟩,
   ⟨0x6020, 4, 0x04, 0x04, .u8, .pairWide, 1, (.rng 0 1)⟩,
   ⟨0x6020, 4, 0x05, 0x05, .u8, .pairWide, 24, (.rng 8 24)⟩,
   ⟨0x6020, 4, 0x06, 0x06, .u8, .pairWide, 1, (.rng 0 4)⟩,
   ⟨0x6020, 4, 0x07, 0x07, .u16, .pairWide, 500, (.rng 1 18000)⟩,
   ⟨0x6020, 4, 0x08, 0x08, .u32, .ro, 0, .any⟩,
   ⟨0x6020, 4, 0x09, 0x09, .u32, .ro, 0, .any⟩,
   ⟨0x6028, 2, 0x00, 0x00, .u8, .const, 3, .any⟩,
   ⟨0x6028, 2, 0x01, 0x01, .u16, .pairWide, 0, .any⟩,
   ⟨0x6028, 2, 0x02, 0x02, .u16, .pairWide, 400, (.rng 100 700)⟩,
   ⟨0x6028, 2, 0x03, 0x03, .i16, .pairWide, 0, (.rng (-18000) 18000)⟩,
   ⟨0x6040, 4, 0x00, 0x00, .u8, .const, 16, .any⟩,
   ⟨0x6040, 4, 0x01, 0x01, .r32, .pairWide, 1073741824, (.real 0 1000000)⟩,
   ⟨0x6040, 4, 0x02, 0x02, .r32, .pairWide, 1084227584, (.real 0 10000000)⟩,
   ⟨0x6040, 4, 0x03, 0x03, .r32, .pairWide, 1073741824, (.real 0 10000000)⟩,
   ⟨0x6040, 4, 0x04, 0x04, .u16, .pairWide, 2000, (.rng 0 10000)⟩,
   ⟨0x6040, 4, 0x05, 0x05, .u16, .pairWide, 10000, (.rng 0 10000)⟩,
   ⟨0x6040, 4, 0x06, 0x06, .u16, .pairWide, 1200, (.rng 1 6000)⟩,
   ⟨0x6040, 4, 0x07, 0x07, .u32, .pairWide, 2000, (.rng 125 100000)⟩,
   ⟨0x6040, 4, 0x08, 0x08, .u16, .pairWide, 50, (.rng 1 1000)⟩,
   ⟨0x6040, 4, 0x09, 0x09, .r32, .pairWide, 1056964608, (.real 0 10000000)⟩,
   ⟨0x6040, 4, 0x0A, 0x0A, .r32, .pairWide, 1065353216, (.real 0 10000000)⟩,
   ⟨0x6040, 4, 0x0B, 0x0B, .u16, .pairWide, 2000, (.rng 0 10000)⟩,
   ⟨0x6040, 4, 0x0C, 0x0C, .u16, .pairWide, 10000, (.rng 0 10000)⟩,
   ⟨0x6040, 4, 0x0D, 0x0D, .r32, .pairWide, 0, (.real 0 10000000)⟩,
   ⟨0x6040, 4, 0x0E, 0x0F, .u32, .pairWide, 500, (.rng 1 1000000)⟩,
   ⟨0x6040, 4, 0x10, 0x10, .u16, .pairWide, 0, (.zr 1 65535)⟩]

/-- Objects 6048h to 6051h: spec Tables 13-12, 13-13. -/
def odRows29 : List OdRow :=
  [⟨0x6048, 1, 0x00, 0x00, .u8, .const, 5, .any⟩,
   ⟨0x6048, 1, 0x01, 0x01, .u8, .ro, 0, .any⟩,
   ⟨0x6048, 1, 0x02, 0x02, .u8, .pairWide, 0, (.rng 1 2)⟩,
   ⟨0x6048, 1, 0x03, 0x03, .u8, .ro, 0, .any⟩,
   ⟨0x6048, 1, 0x04, 0x04, .u32, .ro, 0, .any⟩,
   ⟨0x6048, 1, 0x05, 0x05, .u32, .ro, 0, .any⟩,
   ⟨0x6050, 2, 0x00, 0x00, .u8, .const, 20, .any⟩,
   ⟨0x6050, 2, 0x01, 0x01, .u8, .pairWide, 0, (.rng 0 4)⟩,
   ⟨0x6050, 2, 0x02, 0x02, .u16, .pairWide, 8, (.evenRng 6 256)⟩,
   ⟨0x6050, 2, 0x03, 0x03, .u8, .pairWide, 1, (.rng 0 3)⟩,
   ⟨0x6050, 2, 0x04, 0x04, .u32, .ro, 0, .any⟩,
   ⟨0x6050, 2, 0x05, 0x05, .u8, .pairWide, 0, (.mask 0x13)⟩,
   ⟨0x6050, 2, 0x06, 0x06, .u8, .pairWide, 0, .any⟩,
   ⟨0x6050, 2, 0x07, 0x07, .i32, .pairWide, 32767, (.rng (-65535) 65535)⟩,
   ⟨0x6050, 2, 0x08, 0x08, .i32, .pairWide, 32768, (.rng (-32768) 65535)⟩,
   ⟨0x6050, 2, 0x09, 0x09, .u8, .pairWide, 0, (.mask 0x13)⟩,
   ⟨0x6050, 2, 0x0A, 0x0A, .u8, .pairWide, 0, .any⟩,
   ⟨0x6050, 2, 0x0B, 0x0B, .i32, .pairWide, 32767, (.rng (-65535) 65535)⟩,
   ⟨0x6050, 2, 0x0C, 0x0C, .i32, .pairWide, 32768, (.rng (-32768) 65535)⟩,
   ⟨0x6050, 2, 0x0D, 0x0D, .u8, .pairWide, 0, (.mask 0x13)⟩,
   ⟨0x6050, 2, 0x0E, 0x0E, .u8, .pairWide, 0, .any⟩,
   ⟨0x6050, 2, 0x0F, 0x0F, .i32, .pairWide, 32767, (.rng (-65535) 65535)⟩,
   ⟨0x6050, 2, 0x10, 0x10, .i32, .pairWide, 32768, (.rng (-32768) 65535)⟩,
   ⟨0x6050, 2, 0x11, 0x11, .u8, .pairWide, 0, (.mask 0x13)⟩,
   ⟨0x6050, 2, 0x12, 0x12, .u8, .pairWide, 0, .any⟩,
   ⟨0x6050, 2, 0x13, 0x13, .i32, .pairWide, 32767, (.rng (-65535) 65535)⟩,
   ⟨0x6050, 2, 0x14, 0x14, .i32, .pairWide, 32768, (.rng (-32768) 65535)⟩]

/-- Objects 6070h to 7000h: spec Tables 13-12, 13-13, 16-4. -/
def odRows30 : List OdRow :=
  [⟨0x6070, 4, 0x00, 0x00, .dom, .pairWide, 0, (.blob 8192 8192)⟩,
   ⟨0x6074, 4, 0x00, 0x00, .dom, .pairWide, 0, (.blob 8192 8192)⟩,
   ⟨0x6078, 4, 0x00, 0x00, .dom, .pairWide, 0, (.blob 66 66)⟩,
   ⟨0x6080, 2, 0x00, 0x00, .u8, .const, 14, .any⟩,
   ⟨0x6080, 2, 0x01, 0x01, .u8, .ro, 0, .any⟩,
   ⟨0x6080, 2, 0x02, 0x02, .u16, .ro, 0, .any⟩,
   ⟨0x6080, 2, 0x03, 0x05, .i32, .ro, 0, .any⟩,
   ⟨0x6080, 2, 0x06, 0x06, .i32, .ro, 0, .any⟩,
   ⟨0x6080, 2, 0x07, 0x07, .i32, .ro, 0, .any⟩,
   ⟨0x6080, 2, 0x08, 0x09, .i32, .ro, 0, .any⟩,
   ⟨0x6080, 2, 0x0A, 0x0A, .i32, .ro, 0, .any⟩,
   ⟨0x6080, 2, 0x0B, 0x0B, .i32, .ro, 0, .any⟩,
   ⟨0x6080, 2, 0x0C, 0x0C, .u32, .ro, 0, .any⟩,
   ⟨0x6080, 2, 0x0D, 0x0D, .u32, .ro, 0, .any⟩,
   ⟨0x6080, 2, 0x0E, 0x0E, .u8, .ro, 0, .any⟩,
   ⟨0x7000, 1, 0x00, 0x00, .u8, .const, 8, .any⟩,
   ⟨0x7000, 1, 0x01, 0x01, .u8, .ro, 0, .any⟩,
   ⟨0x7000, 1, 0x02, 0x02, .u16, .ro, 0, .any⟩,
   ⟨0x7000, 1, 0x03, 0x03, .u16, .ro, 0, .any⟩,
   ⟨0x7000, 1, 0x04, 0x04, .u16, .pairWide, 0, (.mask 0xFF)⟩,
   ⟨0x7000, 1, 0x05, 0x05, .u32, .ro, 0, .any⟩,
   ⟨0x7000, 1, 0x06, 0x06, .u32, .ro, 0, .any⟩,
   ⟨0x7000, 1, 0x07, 0x07, .u16, .ro, 0, .any⟩,
   ⟨0x7000, 1, 0x08, 0x08, .u8, .ro, 0, .any⟩]

/-- Objects 7010h to 7018h: spec Tables 16-5, 16-6. -/
def odRows31 : List OdRow :=
  [⟨0x7010, 2, 0x00, 0x00, .u8, .const, 8, .any⟩,
   ⟨0x7010, 2, 0x01, 0x01, .u8, .pairWide, 0, (.rng 0 1)⟩,
   ⟨0x7010, 2, 0x02, 0x02, .u8, .pairWide, 0, (.rng 0 15)⟩,
   ⟨0x7010, 2, 0x03, 0x03, .u8, .pairWide, 255, (.rngOr 0 15 255)⟩,
   ⟨0x7010, 2, 0x04, 0x04, .u16, .pairWide, 200, (.rng 10 2000)⟩,
   ⟨0x7010, 2, 0x05, 0x05, .u8, .pairWide, 255, (.rngOr 0 15 255)⟩,
   ⟨0x7010, 2, 0x06, 0x06, .u8, .pairWide, 0, (.rng 0 1)⟩,
   ⟨0x7010, 2, 0x07, 0x07, .u8, .pairWide, 1, (.rng 0 1)⟩,
   ⟨0x7010, 2, 0x08, 0x08, .u32, .ro, 0, .any⟩,
   ⟨0x7018, 1, 0x00, 0x00, .u8, .const, 13, .any⟩,
   ⟨0x7018, 1, 0x01, 0x01, .u8, .pairWide, 1, (.rng 0 1)⟩,
   ⟨0x7018, 1, 0x02, 0x02, .u8, .pairWide, 2, .gnssSource⟩,
   ⟨0x7018, 1, 0x03, 0x03, .u8, .pairWide, 1, (.rng 0 3)⟩,
   ⟨0x7018, 1, 0x04, 0x04, .u16, .pairWide, 10000, (.rng 1000 60000)⟩,
   ⟨0x7018, 1, 0x05, 0x05, .u16, .pairWide, 1000, (.rng 100 5000)⟩,
   ⟨0x7018, 1, 0x06, 0x06, .u16, .pairWide, 1000, (.rng 200 5000)⟩,
   ⟨0x7018, 1, 0x07, 0x07, .u8, .pairWide, 0, (.rng 0 1)⟩,
   ⟨0x7018, 1, 0x08, 0x08, .u8, .ro, 0, .any⟩,
   ⟨0x7018, 1, 0x09, 0x09, .u32, .ro, 0, .any⟩,
   ⟨0x7018, 1, 0x0A, 0x0A, .u32, .ro, 0, .any⟩,
   ⟨0x7018, 1, 0x0B, 0x0B, .u32, .ro, 0, .any⟩,
   ⟨0x7018, 1, 0x0C, 0x0C, .u32, .ro, 0, .any⟩,
   ⟨0x7018, 1, 0x0D, 0x0D, .u8, .ro, 0, .any⟩]

/-- Objects 7020h to 7037h: spec Tables 16-7, 16-8, 16-9. -/
def odRows32 : List OdRow :=
  [⟨0x7020, 2, 0x00, 0x00, .u8, .const, 3, .any⟩,
   ⟨0x7020, 2, 0x01, 0x01, .u8, .pairWide, 1, (.rng 0 1)⟩,
   ⟨0x7020, 2, 0x02, 0x02, .u32, .ro, 0, .any⟩,
   ⟨0x7020, 2, 0x03, 0x03, .u32, .ro, 0, .any⟩,
   ⟨0x7028, 1, 0x00, 0x00, .u8, .const, 7, .any⟩,
   ⟨0x7028, 1, 0x01, 0x01, .u8, .pairWide, 1, (.rng 0 1)⟩,
   ⟨0x7028, 1, 0x02, 0x02, .u16, .pairWide, 1000, (.rng 200 5000)⟩,
   ⟨0x7028, 1, 0x03, 0x03, .u16, .pairWide, 300, (.rng 10 2000)⟩,
   ⟨0x7028, 1, 0x04, 0x04, .u8, .ro, 0, .any⟩,
   ⟨0x7028, 1, 0x05, 0x05, .i32, .ro, 0, .any⟩,
   ⟨0x7028, 1, 0x06, 0x06, .u32, .ro, 0, .any⟩,
   ⟨0x7028, 1, 0x07, 0x07, .u32, .ro, 0, .any⟩,
   ⟨0x7030, 8, 0x00, 0x00, .u8, .const, 8, .any⟩,
   ⟨0x7030, 8, 0x01, 0x01, .u16, .pairWide, 0, (.mask 0x3F)⟩,
   ⟨0x7030, 8, 0x02, 0x02, .u8, .pairWide, 1, (.rng 0 2)⟩,
   ⟨0x7030, 8, 0x03, 0x03, .u16, .pairWide, 50, (.rng 5 500)⟩,
   ⟨0x7030, 8, 0x04, 0x04, .u16, .pairWide, 50, (.rng 5 500)⟩,
   ⟨0x7030, 8, 0x05, 0x05, .u8, .ro, 0, .any⟩,
   ⟨0x7030, 8, 0x06, 0x06, .u8, .ro, 0, .any⟩,
   ⟨0x7030, 8, 0x07, 0x07, .u32, .ro, 0, .any⟩,
   ⟨0x7030, 8, 0x08, 0x08, .u32, .ro, 0, .any⟩]

/-- Objects 7040h to 710Fh: spec Tables 16-10, 16-11, 16-12, 17-5. -/
def odRows33 : List OdRow :=
  [⟨0x7040, 16, 0x00, 0x00, .u8, .const, 5, .any⟩,
   ⟨0x7040, 16, 0x01, 0x01, .u8, .pairWide, 0, (.rngOr 0 15 255)⟩,
   ⟨0x7040, 16, 0x02, 0x02, .u16, .pairWide, 1000, (.rng 500 2000)⟩,
   ⟨0x7040, 16, 0x03, 0x03, .u8, .ro, 0, .any⟩,
   ⟨0x7040, 16, 0x04, 0x04, .u32, .ro, 0, .any⟩,
   ⟨0x7040, 16, 0x05, 0x05, .u32, .ro, 0, .any⟩,
   ⟨0x7050, 1, 0x00, 0x00, .u8, .const, 3, .any⟩,
   ⟨0x7050, 1, 0x01, 0x01, .u16, .ro, 0, .any⟩,
   ⟨0x7050, 1, 0x02, 0x02, .u16, .ro, 0, .any⟩,
   ⟨0x7050, 1, 0x03, 0x03, .u32, .ro, 0, .any⟩,
   ⟨0x7060, 1, 0x00, 0x00, .u8, .const, 4, .any⟩,
   ⟨0x7060, 1, 0x01, 0x01, .u8, .ro, 0, .any⟩,
   ⟨0x7060, 1, 0x02, 0x02, .u32, .ro, 0, .any⟩,
   ⟨0x7060, 1, 0x03, 0x03, .u32, .ro, 0, .any⟩,
   ⟨0x7060, 1, 0x04, 0x04, .u16, .ro, 0, .any⟩,
   ⟨0x7100, 16, 0x00, 0x00, .u8, .const, 24, .any⟩,
   ⟨0x7100, 16, 0x01, 0x01, .u8, .pairWide, 0, (.rng 0 2)⟩,
   ⟨0x7100, 16, 0x02, 0x02, .u32, .guarded, 0, (.rng 1 0xFFFFFFFF)⟩,
   ⟨0x7100, 16, 0x03, 0x03, .u8, .pairWide, 0, (.rng 0 255)⟩,
   ⟨0x7100, 16, 0x04, 0x04, .u32, .pairWide, 0, .any⟩,
   ⟨0x7100, 16, 0x05, 0x05, .u16, .pairWide, 4722, (.rng 1 65535)⟩,
   ⟨0x7100, 16, 0x06, 0x06, .u16, .pairWide, 0, (.zr 10 1000)⟩,
   ⟨0x7100, 16, 0x07, 0x07, .u16, .pairWide, 0, (.zr 20 10000)⟩,
   ⟨0x7100, 16, 0x08, 0x08, .u8, .pairWide, 1, (.rng 0 2)⟩,
   ⟨0x7100, 16, 0x09, 0x10, .u32, .pairWide, 0, .any⟩,
   ⟨0x7100, 16, 0x11, 0x18, .i32, .pairWide, 0, .any⟩]

/-- Objects 7120h to 7140h: spec Tables 17-6, 17-7. -/
def odRows34 : List OdRow :=
  [⟨0x7120, 16, 0x00, 0x00, .u8, .const, 13, .any⟩,
   ⟨0x7120, 16, 0x01, 0x01, .u8, .ro, 0, .any⟩,
   ⟨0x7120, 16, 0x02, 0x02, .u8, .ro, 0, .any⟩,
   ⟨0x7120, 16, 0x03, 0x03, .u16, .ro, 0, .any⟩,
   ⟨0x7120, 16, 0x04, 0x04, .u8, .ro, 0, .any⟩,
   ⟨0x7120, 16, 0x05, 0x05, .u32, .ro, 0, .any⟩,
   ⟨0x7120, 16, 0x06, 0x06, .u32, .ro, 0, .any⟩,
   ⟨0x7120, 16, 0x07, 0x07, .u32, .ro, 0, .any⟩,
   ⟨0x7120, 16, 0x08, 0x08, .u32, .ro, 0, .any⟩,
   ⟨0x7120, 16, 0x09, 0x09, .u32, .ro, 0, .any⟩,
   ⟨0x7120, 16, 0x0A, 0x0A, .u32, .ro, 0, .any⟩,
   ⟨0x7120, 16, 0x0B, 0x0B, .u32, .ro, 0, .any⟩,
   ⟨0x7120, 16, 0x0C, 0x0C, .u32, .ro, 0, .any⟩,
   ⟨0x7120, 16, 0x0D, 0x0D, .u8, .pairWide, 0, (.rng 0 2)⟩,
   ⟨0x7140, 1, 0x00, 0x00, .u8, .const, 11, .any⟩,
   ⟨0x7140, 1, 0x01, 0x01, .u16, .pairWide, 4722, .safePort⟩,
   ⟨0x7140, 1, 0x02, 0x02, .u16, .pairWide, 2000, (.rng 100 10000)⟩,
   ⟨0x7140, 1, 0x03, 0x03, .u8, .pairWide, 0, (.rng 0 1)⟩,
   ⟨0x7140, 1, 0x04, 0x04, .u16, .pairWide, 2000, (.rng 500 10000)⟩,
   ⟨0x7140, 1, 0x05, 0x05, .u8, .ro, 0, .any⟩,
   ⟨0x7140, 1, 0x06, 0x06, .u8, .ro, 0, .any⟩,
   ⟨0x7140, 1, 0x07, 0x07, .u16, .const, 1000, .any⟩,
   ⟨0x7140, 1, 0x08, 0x08, .u8, .pairWide, 10, (.rng 3 100)⟩,
   ⟨0x7140, 1, 0x09, 0x09, .u32, .ro, 0, .any⟩,
   ⟨0x7140, 1, 0x0A, 0x0A, .u32, .ro, 0, .any⟩,
   ⟨0x7140, 1, 0x0B, 0x0B, .u32, .ro, 0, .any⟩]

/-- Objects 8000h to 8011h: spec Tables 15-11, 15-12. -/
def odRows35 : List OdRow :=
  [⟨0x8000, 1, 0x00, 0x00, .u8, .const, 14, .any⟩,
   ⟨0x8000, 1, 0x01, 0x01, .u8, .ro, 0, .any⟩,
   ⟨0x8000, 1, 0x02, 0x02, .u8, .ro, 255, .any⟩,
   ⟨0x8000, 1, 0x03, 0x03, .u8, .pairWide, 0, (.rng 0 1)⟩,
   ⟨0x8000, 1, 0x04, 0x04, .u16, .pairWide, 200, (.rng 50 5000)⟩,
   ⟨0x8000, 1, 0x05, 0x05, .u8, .ro, 0, .any⟩,
   ⟨0x8000, 1, 0x06, 0x06, .u8, .rw, 0, (.cmd 1)⟩,
   ⟨0x8000, 1, 0x07, 0x07, .u8, .pairWide, 1, (.rng 0 10)⟩,
   ⟨0x8000, 1, 0x08, 0x08, .u32, .ro, 0, .any⟩,
   ⟨0x8000, 1, 0x09, 0x09, .u32, .ro, 0, .any⟩,
   ⟨0x8000, 1, 0x0A, 0x0A, .u32, .ro, 0, .any⟩,
   ⟨0x8000, 1, 0x0B, 0x0B, .u8, .ro, 0, .any⟩,
   ⟨0x8000, 1, 0x0C, 0x0C, .u16, .ro, 0, .any⟩,
   ⟨0x8000, 1, 0x0D, 0x0D, .u32, .ro, 0, .any⟩,
   ⟨0x8000, 1, 0x0E, 0x0E, .u32, .ro, 0, .any⟩,
   ⟨0x8010, 2, 0x00, 0x00, .u8, .const, 10, .any⟩,
   ⟨0x8010, 2, 0x01, 0x01, .u8, .ro, 0, .any⟩,
   ⟨0x8010, 2, 0x02, 0x02, .u32, .ro, 0, .any⟩,
   ⟨0x8010, 2, 0x03, 0x03, .u32, .ro, 0, .any⟩,
   ⟨0x8010, 2, 0x04, 0x04, .u32, .ro, 0, .any⟩,
   ⟨0x8010, 2, 0x05, 0x05, .u32, .ro, 0, .any⟩,
   ⟨0x8010, 2, 0x06, 0x06, .u32, .ro, 0, .any⟩,
   ⟨0x8010, 2, 0x07, 0x07, .u64, .ro, 0, .any⟩,
   ⟨0x8010, 2, 0x08, 0x08, .u64, .ro, 0, .any⟩,
   ⟨0x8010, 2, 0x09, 0x09, .u32, .ro, 4294967295, .any⟩,
   ⟨0x8010, 2, 0x0A, 0x0A, .u32, .ro, 0, .any⟩]

/-- Objects 8020h to 8030h: spec Tables 15-13, 15-14. -/
def odRows36 : List OdRow :=
  [⟨0x8020, 1, 0x00, 0x00, .u8, .const, 8, .any⟩,
   ⟨0x8020, 1, 0x01, 0x01, .u32, .ro, 0, .any⟩,
   ⟨0x8020, 1, 0x02, 0x02, .u32, .ro, 0, .any⟩,
   ⟨0x8020, 1, 0x03, 0x03, .u32, .ro, 0, .any⟩,
   ⟨0x8020, 1, 0x04, 0x04, .u32, .ro, 0, .any⟩,
   ⟨0x8020, 1, 0x05, 0x05, .u32, .ro, 0, .any⟩,
   ⟨0x8020, 1, 0x06, 0x06, .u32, .ro, 0, .any⟩,
   ⟨0x8020, 1, 0x07, 0x07, .u8, .ro, 0, .any⟩,
   ⟨0x8020, 1, 0x08, 0x08, .oct, .ro, 0, .any⟩,
   ⟨0x8030, 1, 0x00, 0x00, .u8, .const, 8, .any⟩,
   ⟨0x8030, 1, 0x01, 0x01, .u8, .pairWide, 24, (.zr 1 168)⟩,
   ⟨0x8030, 1, 0x02, 0x02, .u32, .pairWide, 0, (.rng 0 604799)⟩,
   ⟨0x8030, 1, 0x03, 0x03, .u8, .pairWide, 0, (.cmd 0x01)⟩,
   ⟨0x8030, 1, 0x04, 0x04, .u32, .ro, 0, .any⟩,
   ⟨0x8030, 1, 0x05, 0x05, .u32, .ro, 0, .any⟩,
   ⟨0x8030, 1, 0x06, 0x06, .u32, .ro, 0, .any⟩,
   ⟨0x8030, 1, 0x07, 0x07, .u48, .ro, 0, .any⟩,
   ⟨0x8030, 1, 0x08, 0x08, .u32, .ro, 0, .any⟩]

/-- Objects 8040h to 8100h: spec Tables 15-15, 15-16, 14-7. -/
def odRows37 : List OdRow :=
  [⟨0x8040, 1, 0x00, 0x00, .u8, .const, 6, .any⟩,
   ⟨0x8040, 1, 0x01, 0x01, .u8, .ro, 0, .any⟩,
   ⟨0x8040, 1, 0x02, 0x02, .u8, .ro, 0, .any⟩,
   ⟨0x8040, 1, 0x03, 0x03, .u32, .ro, 0, .any⟩,
   ⟨0x8040, 1, 0x04, 0x04, .u32, .ro, 0, .any⟩,
   ⟨0x8040, 1, 0x05, 0x05, .u32, .ro, 0, .any⟩,
   ⟨0x8040, 1, 0x06, 0x06, .u64, .ro, 0, .any⟩,
   ⟨0x8050, 1, 0x00, 0x00, .u8, .const, 36, .any⟩,
   ⟨0x8050, 1, 0x01, 0x0C, .u8, .pairWide, 0, (.rng 0 2)⟩,
   ⟨0x8050, 1, 0x0D, 0x24, .u8, .pairWide, 0, (.rng 0 2)⟩,
   ⟨0x8100, 1, 0x00, 0x00, .u8, .const, 14, .any⟩,
   ⟨0x8100, 1, 0x01, 0x01, .u8, .ro, 0, .any⟩,
   ⟨0x8100, 1, 0x02, 0x02, .u32, .ro, 0, .any⟩,
   ⟨0x8100, 1, 0x03, 0x04, .u32, .ro, 4294967295, .any⟩,
   ⟨0x8100, 1, 0x05, 0x05, .u8, .ro, 0, .any⟩,
   ⟨0x8100, 1, 0x06, 0x06, .u8, .ro, 0, .any⟩,
   ⟨0x8100, 1, 0x07, 0x07, .u8, .ro, 255, .any⟩,
   ⟨0x8100, 1, 0x08, 0x09, .u32, .ro, 4294967295, .any⟩,
   ⟨0x8100, 1, 0x0A, 0x0A, .u8, .ro, 2, .any⟩,
   ⟨0x8100, 1, 0x0B, 0x0B, .u32, .ro, 0, .any⟩,
   ⟨0x8100, 1, 0x0C, 0x0C, .u32, .ro, 0, .any⟩,
   ⟨0x8100, 1, 0x0D, 0x0D, .u32, .ro, 0, .any⟩,
   ⟨0x8100, 1, 0x0E, 0x0E, .u8, .ro, 0, .any⟩]

/-- Objects 8110h to 9000h: spec Tables 14-8, 14-9, 20-6. -/
def odRows38 : List OdRow :=
  [⟨0x8110, 2, 0x00, 0x00, .u8, .const, 8, .any⟩,
   ⟨0x8110, 2, 0x01, 0x01, .u8, .ro, 0, .any⟩,
   ⟨0x8110, 2, 0x02, 0x02, .u32, .ro, 0, .any⟩,
   ⟨0x8110, 2, 0x03, 0x03, .u32, .ro, 0, .any⟩,
   ⟨0x8110, 2, 0x04, 0x04, .u32, .ro, 0, .any⟩,
   ⟨0x8110, 2, 0x05, 0x05, .u32, .ro, 0, .any⟩,
   ⟨0x8110, 2, 0x06, 0x06, .u64, .ro, 0, .any⟩,
   ⟨0x8110, 2, 0x07, 0x07, .u64, .ro, 0, .any⟩,
   ⟨0x8110, 2, 0x08, 0x08, .u32, .ro, 0, .any⟩,
   ⟨0x8120, 66, 0x00, 0x00, .u8, .const, 7, .any⟩,
   ⟨0x8120, 66, 0x01, 0x01, .u8, .ro, 0, .any⟩,
   ⟨0x8120, 66, 0x02, 0x02, .u32, .ro, 0, .any⟩,
   ⟨0x8120, 66, 0x03, 0x03, .u8, .ro, 255, .any⟩,
   ⟨0x8120, 66, 0x04, 0x04, .u8, .ro, 255, .any⟩,
   ⟨0x8120, 66, 0x05, 0x05, .u32, .ro, 0, .any⟩,
   ⟨0x8120, 66, 0x06, 0x06, .u16, .ro, 0, .any⟩,
   ⟨0x8120, 66, 0x07, 0x07, .u64, .ro, 0, .any⟩,
   ⟨0x9000, 1, 0x00, 0x00, .u8, .const, 12, .any⟩,
   ⟨0x9000, 1, 0x01, 0x01, .u64, .ro, 0, .any⟩,
   ⟨0x9000, 1, 0x02, 0x02, .u64, .ro, 0, .any⟩,
   ⟨0x9000, 1, 0x03, 0x03, .u64, .ro, 0, .any⟩,
   ⟨0x9000, 1, 0x04, 0x04, .u64, .ro, 0, .any⟩,
   ⟨0x9000, 1, 0x05, 0x05, .u64, .ro, 0, .any⟩,
   ⟨0x9000, 1, 0x06, 0x06, .u32, .ro, 0, .any⟩,
   ⟨0x9000, 1, 0x07, 0x07, .u32, .ro, 0, .any⟩,
   ⟨0x9000, 1, 0x08, 0x08, .u32, .ro, 0, .any⟩,
   ⟨0x9000, 1, 0x09, 0x09, .u32, .ro, 0, .any⟩,
   ⟨0x9000, 1, 0x0A, 0x0A, .u32, .ro, 0, .any⟩,
   ⟨0x9000, 1, 0x0B, 0x0B, .u32, .ro, 0, .any⟩,
   ⟨0x9000, 1, 0x0C, 0x0C, .u8, .ro, 0, .any⟩]

/-- Objects 9001h to 9100h: spec Tables 20-7, 20-8, 21-5. -/
def odRows39 : List OdRow :=
  [⟨0x9001, 1, 0x00, 0x00, .u8, .const, 6, .any⟩,
   ⟨0x9001, 1, 0x01, 0x01, .u8, .ro, 0, .any⟩,
   ⟨0x9001, 1, 0x02, 0x02, .u32, .guarded, 0, (.cmd 0x6C616573)⟩,
   ⟨0x9001, 1, 0x03, 0x03, .u32, .guarded, 0, (.cmd 0x6E65706F)⟩,
   ⟨0x9001, 1, 0x04, 0x04, .u8, .pairWide, 0, (.rng 0 2)⟩,
   ⟨0x9001, 1, 0x05, 0x05, .u8, .pairWide, 7, (.rng 0 7)⟩,
   ⟨0x9001, 1, 0x06, 0x06, .u48, .ro, 0, .any⟩,
   ⟨0x9002, 1, 0x00, 0x00, .u8, .const, 5, .any⟩,
   ⟨0x9002, 1, 0x01, 0x01, .u8, .rw, 0, (.rng 0 1)⟩,
   ⟨0x9002, 1, 0x02, 0x02, .u64, .rw, 0, .any⟩,
   ⟨0x9002, 1, 0x03, 0x03, .dom, .ro, 0, .any⟩,
   ⟨0x9002, 1, 0x04, 0x04, .u8, .ro, 1, .any⟩,
   ⟨0x9002, 1, 0x05, 0x05, .u64, .ro, 0, .any⟩,
   ⟨0x9100, 1, 0x00, 0x00, .u8, .const, 10, .any⟩,
   ⟨0x9100, 1, 0x01, 0x01, .u8, .pairWide, 1, (.rng 0 1)⟩,
   ⟨0x9100, 1, 0x02, 0x02, .u16, .pairWide, 480, (.rng 200 720)⟩,
   ⟨0x9100, 1, 0x03, 0x03, .u16, .pairWide, 400, (.rng 200 720)⟩,
   ⟨0x9100, 1, 0x04, 0x04, .i16, .pairWide, 0, (.rng (-300) 300)⟩,
   ⟨0x9100, 1, 0x05, 0x05, .u64, .pairWide, 0, (.mask 0xFFFFFFFFFFFF)⟩,
   ⟨0x9100, 1, 0x06, 0x06, .u8, .ro, 0, .any⟩,
   ⟨0x9100, 1, 0x07, 0x07, .oct, .ro, 0, .any⟩,
   ⟨0x9100, 1, 0x08, 0x08, .u8, .ro, 0, .any⟩,
   ⟨0x9100, 1, 0x09, 0x09, .u32, .ro, 0, .any⟩,
   ⟨0x9100, 1, 0x0A, 0x0A, .u32, .ro, 0, .any⟩]

/-- Objects 9200h to 9300h: spec Tables 22-4, 22-5, 22-6. -/
def odRows40 : List OdRow :=
  [⟨0x9200, 1, 0x00, 0x00, .u8, .const, 8, .any⟩,
   ⟨0x9200, 1, 0x01, 0x01, .u8, .guarded, 0, (.rng 0 0x0D)⟩,
   ⟨0x9200, 1, 0x02, 0x02, .u8, .guarded, 0, .any⟩,
   ⟨0x9200, 1, 0x03, 0x03, .u16, .guarded, 1, (.rng 1 1000)⟩,
   ⟨0x9200, 1, 0x04, 0x04, .u8, .guarded, 0, (.rng 0 1)⟩,
   ⟨0x9200, 1, 0x05, 0x05, .u8, .ro, 0, .any⟩,
   ⟨0x9200, 1, 0x06, 0x06, .u32, .ro, 0, .any⟩,
   ⟨0x9200, 1, 0x07, 0x07, .u32, .ro, 4294967295, .any⟩,
   ⟨0x9200, 1, 0x08, 0x08, .u32, .guarded, 0, .readClearTarget⟩,
   ⟨0x9210, 18, 0x00, 0x00, .u8, .const, 7, .any⟩,
   ⟨0x9210, 18, 0x01, 0x01, .u8, .guarded, 0, (.rng 0 3)⟩,
   ⟨0x9210, 18, 0x02, 0x02, .u16, .guarded, 0, (.zr 1 65535)⟩,
   ⟨0x9210, 18, 0x03, 0x03, .u8, .ro, 0, .any⟩,
   ⟨0x9210, 18, 0x04, 0x04, .u64, .ro, 0, .any⟩,
   ⟨0x9210, 18, 0x05, 0x05, .u32, .ro, 0, .any⟩,
   ⟨0x9210, 18, 0x06, 0x06, .u32, .ro, 0, .any⟩,
   ⟨0x9210, 18, 0x07, 0x07, .u32, .ro, 0, .any⟩,
   ⟨0x9300, 1, 0x00, 0x00, .u8, .const, 10, .any⟩,
   ⟨0x9300, 1, 0x01, 0x03, .u32, .ro, 0, .any⟩,
   ⟨0x9300, 1, 0x04, 0x06, .u32, .ro, 0, .any⟩,
   ⟨0x9300, 1, 0x07, 0x07, .u64, .ro, 0, .any⟩,
   ⟨0x9300, 1, 0x08, 0x08, .u32, .ro, 0, .any⟩,
   ⟨0x9300, 1, 0x09, 0x09, .u32, .ro, 0, .any⟩,
   ⟨0x9300, 1, 0x0A, 0x0A, .u16, .ro, 0, .any⟩]

/-- Objects A000h to A021h: spec Tables 23-3, 23-4, 23-5. -/
def odRows41 : List OdRow :=
  [⟨0xA000, 2, 0x00, 0x00, .u8, .const, 10, .any⟩,
   ⟨0xA000, 2, 0x01, 0x01, .u8, .pairWide, 0, (.rng 0 1)⟩,
   ⟨0xA000, 2, 0x02, 0x02, .u16, .pairWide, 2000, .slotBudget⟩,
   ⟨0xA000, 2, 0x03, 0x03, .u8, .ro, 0, .any⟩,
   ⟨0xA000, 2, 0x04, 0x04, .oct, .guarded, 0, (.blob 64 64)⟩,
   ⟨0xA000, 2, 0x05, 0x05, .oct, .ro, 0, .any⟩,
   ⟨0xA000, 2, 0x06, 0x06, .u32, .ro, 0, .any⟩,
   ⟨0xA000, 2, 0x07, 0x07, .u32, .ro, 0, .any⟩,
   ⟨0xA000, 2, 0x08, 0x08, .u32, .ro, 0, .any⟩,
   ⟨0xA000, 2, 0x09, 0x09, .u8, .ro, 0, .any⟩,
   ⟨0xA000, 2, 0x0A, 0x0A, .u32, .ro, 0, .any⟩,
   ⟨0xA010, 2, 0x00, 0x00, .dom, .guarded, 0, (.blob 0 4194304)⟩,
   ⟨0xA020, 2, 0x00, 0x00, .u8, .const, 4, .any⟩,
   ⟨0xA020, 2, 0x01, 0x02, .i32, .ro, 0, .any⟩,
   ⟨0xA020, 2, 0x03, 0x03, .i32, .ro, 0, .any⟩,
   ⟨0xA020, 2, 0x04, 0x04, .u8, .ro, 0, .any⟩]

/-- The whole object dictionary as pages of rows, each page with its first and last index (spec chapter 19, index of objects). -/
def odPages : List (Nat × Nat × List OdRow) :=
  [(0x1000, 0x1407, odRows00),
   (0x1600, 0x1E01, odRows01),
   (0x1E10, 0x1E20, odRows02),
   (0x1E30, 0x2010, odRows03),
   (0x2020, 0x2100, odRows04),
   (0x2110, 0x2121, odRows05),
   (0x2130, 0x3002, odRows06),
   (0x3010, 0x3053, odRows07),
   (0x3100, 0x3300, odRows08),
   (0x3303, 0x3313, odRows09),
   (0x3318, 0x3320, odRows10),
   (0x3328, 0x3340, odRows11),
   (0x3350, 0x400B, odRows12),
   (0x4040, 0x4057, odRows13),
   (0x4058, 0x4135, odRows14),
   (0x4140, 0x4160, odRows15),
   (0x4200, 0x4201, odRows16),
   (0x4204, 0x422B, odRows17),
   (0x4230, 0x4249, odRows18),
   (0x4250, 0x4300, odRows19),
   (0x4301, 0x434F, odRows20),
   (0x5000, 0x5000, odRows21),
   (0x5001, 0x5010, odRows22),
   (0x5030, 0x5031, odRows23),
   (0x5038, 0x511F, odRows24),
   (0x5120, 0x5130, odRows25),
   (0x5131, 0x515F, odRows26),
   (0x5200, 0x6011, odRows27),
   (0x6020, 0x6043, odRows28),
   (0x6048, 0x6051, odRows29),
   (0x6070, 0x7000, odRows30),
   (0x7010, 0x7018, odRows31),
   (0x7020, 0x7037, odRows32),
   (0x7040, 0x710F, odRows33),
   (0x7120, 0x7140, odRows34),
   (0x8000, 0x8011, odRows35),
   (0x8020, 0x8030, odRows36),
   (0x8040, 0x8100, odRows37),
   (0x8110, 0x9000, odRows38),
   (0x9001, 0x9100, odRows39),
   (0x9200, 0x9300, odRows40),
   (0xA000, 0xA021, odRows41)]

end Sys2Proof.Machine
end

