-- ==== Sys2Proof/Machine/State.lean ====
section
/-! DEFINITION. The state of one CLV-9612 module as plain data: every object value, every piece of state the spec names
beside the objects, the queue of commands that wait, and the state after the internal reset. -/

namespace Sys2Proof.Machine

open Sys2Proof

/-! ### Names shared by every chapter -/




/-- Where a powered period stands (R89, R90, R93): internal reset asserted, on the start-up timeline before HOLD-READY,
at or after HOLD-READY, or running the shutdown sequence. -/
inductive Stage where
  | down | starting | ready | closing
  deriving DecidableEq, Repr



/-- Supply inputs, start-up and shutdown (chapter 3). -/
structure Power where
  stage : Stage := .down
  /-- VIN_A, VIN_B present (R80). -/
  inA : Bool := false
  inB : Bool := false
  /-- When each input was last judged present or absent, none before the first time (Table 3-1). -/
  judgedA : Option Nat := none
  judgedB : Option Nat := none
  /-- Origin of the running start-up timeline, in the outside world's nanoseconds (R81, R90). -/
  origin : Nat := 0
  /-- Start of the running or last shutdown sequence, and its cause (R89). -/
  lossAt : Option Nat := none
  lossCause : Option LossCause := none
  /-- MRST_N has acted and has not returned high (R74, R76). -/
  mrstLow : Bool := false
  /-- Clean-close mark in MRAM of the last shutdown (Table 3-2, R89). -/
  cleanMark : Bool := false
  /-- Clean-close mark found at this start-up (R99). -/
  cleanFound : Bool := false
  /-- The previous shutdown was total supply loss (R99). -/
  fromSupplyLoss : Bool := false
  /-- Ports, links and the object dictionary enabled, 35 ms after the origin (Table 3-3). -/
  portsOn : Bool := false
  /-- Gx_RST_N, NA_RST_N and NB_RST_N released (Table 3-3). -/
  resetsReleased : Bool := false
  /-- Configuration image applied (R95). -/
  configured : Bool := false
  /-- Start-up self-test of the safety plane complete (R54). -/
  safetyTested : Bool := false
  /-- The module was engaged or resumed at this start-up (2010h:01 reads 04h). -/
  engaged : Bool := false
  /-- Mode and set-points in force at the last loss, as MRAM held them at this start-up (R99, R100). -/
  keptMode : Option KeptMode := none
  /-- When the temperatures of 2020h:05 and 2020h:06 were last told, and since when the present case temperature has not been
  weighed into 2020h:0A (R105, R111). -/
  thermalAt : Option Nat := none
  lifeFrom : Nat := 0
  /-- ACTIVE was reached at this start-up under R558 or R559 while the partner was not ACTIVE (R99). -/
  activeAlone : Bool := false
  /-- The first cycle boundary at which R99 is judged has passed. -/
  resumeJudged : Bool := false
  /-- An engage command is refused until a valid configuration is stored (R95). -/
  engageBarred : Bool := false
  /-- Instant of the last total supply loss, and the interruption the gauge has measured, ms (R91, R92). -/
  lostAt : Option Nat := none
  gauge : Option Nat := none
  deriving DecidableEq, Repr

/-- The strapped identity as sampled (R17, R67). -/
structure Identity where
  duty : Duty := .manager
  twin : Twin := .a
  node : Nat := 0
  /-- A strap fault or mismatch holds the module in OFFLINE to the next power-up (R20, R68, R69). -/
  held : Bool := false
  /-- A strap-mismatch event has been recorded (R20). -/
  mismatch : Bool := false
  deriving DecidableEq, Repr




/-- A request whose answer waits until both twins hold the write (R592, R593). -/
structure AckWait where
  client : Client
  key : Nat
  val : Val
  /-- Terward sequence number whose acknowledgement releases the answer (ACTIVE), none while forwarded. -/
  seqNo : Option Nat
  since : Nat
  deriving DecidableEq, Repr

/-- An engineering session or an opening challenge (R673, R675). -/
structure Session where
  client : Client
  id : Nat
  nm : List Byte
  nc : List Byte
  isOpen : Bool
  counter : Option Nat
  lastUsed : Nat
  deriving DecidableEq, Repr

/-- A response kept to be sent again (R671): the request's ID and counter, the object, the answer, its bytes, when it was given. -/
structure Answered where
  reqId : Nat
  counter : Option Nat
  key : Nat
  reply : Reply
  bytes : List Byte
  at' : Nat
  deriving DecidableEq, Repr

/-- What the module keeps of one client: last request heard, cached response (R671), recorder cursor and window
(R721 to R723), the latched time reading (R120) and the armed read-clear (R743). -/
structure ClientRec where
  client : Client
  lastHeard : Nat
  request : Option OdMsg := none
  answered : List Answered := []
  waiting : List OdMsg := []
  area : Nat := 0
  cursor : Nat := 0
  window : List Byte := []
  windowSeq : Option Nat := none
  outcome : Nat := 1
  skipped : Nat := 0
  latchSec : Nat := 0
  latchNs : Nat := 0
  latchStamp : Nat := 0
  latched : Bool := false
  armKey : Option Nat := none
  armAt : Nat := 0
  deriving DecidableEq, Repr

/-- A segmented transfer in progress (R654, R669, R683). -/
structure Transfer where
  client : Client
  key : Nat
  write : Bool
  data : List Byte
  nextOff : Nat
  lastAt : Nat
  deriving DecidableEq, Repr

/-- NMT states (R692). -/
inductive Nmt where
  | preOp | operational | stopped
  deriving DecidableEq, Repr

/-- Timing of one TPDO (R696, R697). -/
structure TpdoRun where
  syncs : Nat := 0
  started : Bool := false
  timerFrom : Nat := 0
  lastSent : Option Nat := none
  due : Bool := false
  deriving DecidableEq, Repr

/-- A store or restore that is running (R680, R681). -/
structure StoreJob where
  started : Nat
  factory : Bool
  image : Image
  deriving DecidableEq, Repr

/-- Dictionary server: sessions, clients, transfers, store, CAN network state (chapters 18 and 19). -/
structure Dict where
  sessions : List Session := []
  sessionSeq : Nat := 0
  failTimes : List Nat := []
  lockUntil : Option Nat := none
  clients : List ClientRec := []
  transfers : List Transfer := []
  acks : List AckWait := []
  storeJob : Option StoreJob := none
  nmt : Nmt := .preOp
  lastSync : Option (Nat × Nat) := none
  tpdo : List TpdoRun := List.replicate 8 {}
  busOff : List Bool := [false, false]
  /-- Node ID and data bit rate of each CAN port in force since start-up (after Table 18-9). -/
  nodeIds : List Nat := [1, 1]
  dataRates : List Nat := [2, 2]
  lastHeartbeat : Nat := 0
  /-- Time in IO-island cycles and port of the last NMT command (R693). -/
  lastNmt : Option (Nat × Nat) := none
  deriving DecidableEq, Repr

/-- A record of the event recorder (Table 20-1); padding and CRC are formed when it is read. -/
structure Rec where
  ty : Nat
  sev : Nat
  source : Nat
  plane : Plane
  /-- Module time of the happening in TAI nanoseconds, none while module time is unset. -/
  time : Option Nat
  utcOff : Int
  /-- TAI second of an inserted leap second that is announced (Table 20-1). -/
  leapAt : Option Nat
  seqNo : Nat
  twinB : Bool
  payload : List Byte
  deriving DecidableEq, Repr

/-- An entry of the recorder intake: a record, or a cycle status record with the values it carries (R711). -/
structure IntakeItem where
  item : Rec
  doneAt : Nat
  status : Option Store := none
  /-- The summary of this cycle status record is to be stored (Table 20-5). -/
  keep : Bool := true
  deriving DecidableEq, Repr

/-- The event recorder (chapter 20): three queues, two areas, the served cycle status record. -/
structure Recorder where
  qControl : List IntakeItem := []
  qData : List IntakeItem := []
  qManagement : List IntakeItem := []
  circ : List Rec := []
  perm : List Rec := []
  nextSeq : Nat := 1
  dropped : Nat × Nat × Nat := (0, 0, 0)
  stopped : Bool := true
  /-- The directory's last update, and the sequence number its write position stands before (R720). -/
  lastDirectory : Nat := 0
  dirSeq : Nat := 1
  served : Store := []
  /-- The store's position is known: the hold-up store is charged and the scan is done (R720). -/
  ready : Bool := false
  /-- Permanent area: 0 unsealed, 1 sealed and filling, 2 sealed and FULL; TAI seconds of the seal (R716 to R718). -/
  sealState : Nat := 0
  sealSec : Nat := 0
  deriving DecidableEq, Repr

/-- Time states (2100h:04). -/
inductive TimeState where
  | unset | freeRunning | locked | slewing | holdover | following
  deriving DecidableEq, Repr

/-- A step of module time that has been decided or announced (R145, R133). -/
structure PlannedStep where
  amountNs : Int
  /-- Second boundary (before the step) at whose pulse it applies, once announced. -/
  atSec : Option Nat
  deriving DecidableEq, Repr

/-- A setting of a pulse output waiting for its first pulse (R149). -/
structure PpsPending where
  key : Nat
  val : Int
  writtenAt : Nat
  deriving DecidableEq, Repr

/-- One PTP instance (R134, R136): the running exchange of Sync and delay messages, the foreign masters heard (data set, and when),
when its own messages last left and their sequence numbers, and the residence times of two-step Syncs whose Follow_Up has not
passed (from port 1, sequence number, ps). -/
structure PtpInst where
  syncSeq : Option Nat := none
  syncRx : Int := 0
  syncCorr : Int := 0
  t1 : Int := 0
  t2 : Int := 0
  delaySeq : Option Nat := none
  t3 : Int := 0
  foreign : List (List Nat × Nat) := []
  sentAt : List (Option Nat) := [none, none, none]
  sentNo : List Nat := [0, 0, 0]
  residence : List (Bool × Nat × Int) := []
  deriving DecidableEq, Repr

/-- What a pulse output's last pulse was (R152, R153): its second, its on-time edge in the outside world's nanoseconds, and the quality
and estimated error at that edge. -/
structure PulseInfo where
  sec : Nat
  edgeAt : Nat
  quality : Nat
  err : Option Nat
  deriving DecidableEq, Repr

/-- The TIME island (chapter 4). -/
structure Clock where
  state : TimeState := .unset
  /-- Module time as TAI in units of 2^-48 ns (R117, R118); meaningless while unset. -/
  units : Nat := 0
  /-- Rounding residual of R119, in 10^-12 of a unit. -/
  resid : Int := 0
  /-- TIME-island cycles since the origin of the start-up timeline. -/
  ticks : Nat := 0
  /-- Frequency term of the servo, in 10^-12 (R140). -/
  freq : Int := 0
  /-- Qualified sources GNSS, PTP-A, PTP-B and the runs toward qualification (R124). -/
  gnssRun : Nat := 0
  gnssLast : Option Nat := none
  syncRun : List Nat := [0, 0]
  delayRun : List Nat := [0, 0]
  qualified : List Bool := [false, false, false]
  offsets : List Int := [0, 0, 0]
  uncertainty : List Nat := [0, 0, 0]
  /-- A source change waiting for the next second boundary (R121, R125, R126). -/
  change : Option Nat := none
  /-- Module time at which the change was decided (R125). -/
  changeAt : Nat := 0
  holdFrom : Option Nat := none
  holdEntryErr : Option Nat := none
  holdDiscipline : Nat := 0
  holdWarm : Bool := false
  lockedFrom : Option Nat := none
  slewLeft : Int := 0
  step : Option PlannedStep := none
  gnssSet : Bool := false
  leaderErr : Option Nat := none
  coarseOnly : Bool := false
  ppsQual : Bool := false
  ppsPending : List PpsPending := []
  /-- The width and cable compensation in force at each output (R149). -/
  ppsForce : List (Nat × Int) := [(10000, 0), (10000, 0)]
  lastPulse : List (Option Nat) := [none, none]
  /-- First second whose pulse is due (R147), what each output's last pulse was, and the pulse last described (R152). -/
  pulsesFrom : Nat := 0
  pulseInfo : List (Option PulseInfo) := [none, none]
  described : Option Nat := none
  ptp : List PtpInst := [{}, {}]
  /-- UTC day, in days since the epoch, at whose end the leap second of 2100h:10 falls (R154, R160). -/
  leapDay : Int := 0
  deriving DecidableEq, Repr


/-- One Terward lane (R543, R544). -/
structure Lane where
  los : Bool := true
  blockLock : Bool := false
  up : Bool := false
  lastHeard : Nat := 0
  lastSent : Nat := 0
  intactRun : Nat := 0
  /-- Twin and role that the last intact message on this lane named. -/
  heard : Option (Twin × PairRole) := none
  deriving DecidableEq, Repr

/-- Self-test of a SUSPECT twin (R563). -/
inductive SelfTest where
  | none | running | passed
  deriving DecidableEq, Repr

/-- A committed input in the pool of both twins' inputs (R565, R566): its source, sequence number, stamp and value. -/
structure PoolInput where
  source : Nat
  seqNo : Nat
  stamp : Nat
  own : Bool
  /-- Terward sequence number of its INPUT message. -/
  sentAs : Nat
  data : List Byte
  deriving DecidableEq, Repr

/-- A digest of one cycle or sample (R571). -/
structure DigestRec where
  count : Nat
  output : List Byte
  state : Nat
  /-- Own: not sent before this instant; of the partner: its arrival. And the deadline of its comparison. Module ns. -/
  at' : Int
  deadline : Int := 0
  deriving DecidableEq, Repr

/-- Pairing with the partner twin over Terward (chapter 15). -/
structure Pair where
  role : PairRole := .offline
  partnerRole : Option PairRole := none
  lanes : List Lane := [{}, {}]
  sendSeq : Nat := 0
  recvSeq : Nat := 0
  ackedByPartner : Nat := 0
  /-- A first message has been received since the link came up, and the messages received beyond a gap (R543). -/
  recvKnown : Bool := false
  recvAhead : List Nat := []
  /-- Messages received intact whose content has not been taken (R543, R546): type, sequence number, bytes. -/
  waiting : List (TwKind × Nat × Nat) := []
  /-- INPUT message of the packet or product being decoded, 0 for none. -/
  inputSeq : Nat := 0
  inputNum : Nat := 0
  /-- PAIR_ALIVE_I as last read, TAKE_OVER_I as accepted, and since when TAKE_OVER_I has had its level. -/
  aliveIn : Bool := false
  takeIn : Bool := false
  takeSince : Nat := 0
  aliveOut : Bool := false
  takeOut : Bool := false
  activeSince : Nat := 0
  /-- When the last lane went down (R554). -/
  lostAt : Nat := 0
  /-- Instant from which the start-up wait or claim wait runs (R558, R559); whether the start-up wait is over. -/
  waitFrom : Nat := 0
  claiming : Bool := false
  /-- A takeover that has been decided, and its cause (R576). -/
  decided : Option (Nat × Nat) := none
  selfTest : SelfTest := .none
  selfTestAt : Nat := 0
  faultTimes : List Nat := []
  rejoinTimes : List Nat := []
  /-- OFFLINE to the next power-up, and OFFLINE from which R563 rejoins as SUSPECT (Table 15-5). -/
  offlineHeld : Bool := false
  offlineRejoins : Bool := false
  slipFails : Nat := 0
  slipFailedAt : Option Nat := none
  slipFrom : Nat := 0
  /-- Next phase that the active twin sends, 0 for none; a divergence in phase 4 (R586, R588). -/
  slipSend : Nat := 0
  slipDiverged : Bool := false
  /-- The joining partner has been sent phase 4 (R573). -/
  partnerLive : Bool := false
  joinMatches : Nat := 0
  pool : List PoolInput := []
  setDigest : List Byte := []
  setAgreed : Bool := false
  /-- The candidate set formed at the freeze (R568). -/
  candidate : Option SetCut := none
  /-- An intact SET for the open cycle or period is held (R569). -/
  setHeld : Bool := false
  /-- The digest of the running cycle or sample that has not left yet (R572), and the one that has. -/
  formed : Option DigestRec := none
  ownDigest : Option DigestRec := none
  partnerDigest : Option DigestRec := none
  hardFaultNow : Bool := false
  partnerFaultNow : Bool := false
  misses : Nat := 0
  drillDueAt : Option Nat := none
  drillPlaced : Bool := false
  drillRequested : Bool := false
  lastDrillMark : Nat := 0
  stopOriginatedAt : Option Nat := none
  lastTime : Nat := 0
  deriving DecidableEq, Repr

/-- Channel states (Table 5-5). -/
inductive ChanState where
  | off | search | pullin | fll | pll | reacq
  deriving DecidableEq, Repr

/-- Classes of search jobs, in the order they are served (R183). -/
inductive JobClass where
  | reacq | aided | blind
  deriving DecidableEq, Repr

/-- The sums of a detector window (R198, R199): dumps, |z|² and |z|⁴, IP² − QP², dot and |z||z|, the sums of each tap, and the
integration time of its last dump in ms. -/
structure WinSums where
  dumps : Nat := 0
  p2 : Rat := 0
  p4 : Rat := 0
  diff : Int := 0
  freq : Rat := 0
  freqDen : Rat := 0
  taps : List (Int × Int) := List.replicate 9 (0, 0)
  tMs : Nat := 0
  deriving DecidableEq, Repr

/-- A tracking channel that is not OFF (R185 to R203). Samples are counted from the port's framing lock. -/
structure Chan where
  idx : Nat
  state : ChanState
  signal : Nat
  sat : SatId
  stream : Nat
  blind : Bool
  misses : Nat := 0
  /-- Predicted or coasted Doppler and its standard deviation, mHz (R182, R186). -/
  centreMilli : Int := 0
  sigmaMilli : Int := 0
  /-- Loop: velocity, acceleration, frequency (R191), rate of change of the frequency while coasting (R186), code error. -/
  v : Rat := 0
  a : Rat := 0
  f : Rat := 0
  slope : Rat := 0
  tau : Rat := 0
  /-- Sample at which the integration under way begins, and both phase accumulators there (R193): carrier in 2^-48 cycle, code in
  2^-48 chip from the start of the primary period; their rates per sample, the new rates, and the sample from which those apply. -/
  next : Nat := 0
  carr : Nat := 0
  code : Int := 0
  carrStep : Int := 0
  codeStep : Int := 0
  carrNew : Int := 0
  codeNew : Int := 0
  newFrom : Nat := 0
  /-- Doppler part of the carrier phase accumulated since pull-in, 2^-48 cycle (R203). -/
  accum : Int := 0
  /-- Primary periods since pull-in, and the index among them that begins a bit or the secondary code (R187, R188). -/
  period : Nat := 0
  bitOffset : Nat := 0
  /-- Signs of the latest prompts, newest first, the histogram of sign changes and the prompts it holds (R188). -/
  signs : List Bool := []
  bins : List Nat := []
  binned : Nat := 0
  /-- Transmit time at the start of the integration under way, ps of the signal's system time, once decoded (R214). -/
  txPs : Option Int := none
  /-- Data-component product of the last integration of a pilot (R173). -/
  dataSum : Int × Int := (0, 0)
  prevI : Int := 0
  prevQ : Int := 0
  havePrev : Bool := false
  /-- The detector window that runs, and the last complete one until it has been judged (R199). -/
  win : WinSums := {}
  full : Option WinSums := none
  goodFll : Nat := 0
  goodPll : Nat := 0
  lowNs : Nat := 0
  stateFrom : Nat := 0
  lockFrom : Option Nat := none
  bitSync : Bool := false
  secSync : Bool := false
  halfCycle : Bool := false
  codeLock : Bool := false
  bigPhase : Bool := false
  sideRun : Nat := 0
  cn0s : List (Nat × Rat) := []
  cn0Low : Bool := false
  cn0High : Bool := false
  multipath : Bool := false
  /-- Carrier phase at the first record after entry into PLL, whole cycles, and the accumulated phase then (R215). -/
  phaseBase : Option (Int × Int) := none
  deriving DecidableEq, Repr

/-- A queued search request of one channel (R183). -/
structure AcqJob where
  cls : JobClass
  channel : Nat
  deriving DecidableEq, Repr

/-- The search job the FFT engine serves, with the settings it started with (R178 to R183); each channel with its window centre in
mHz. -/
structure AcqRun where
  cls : JobClass
  channels : List (Nat × Int)
  port : Nat
  stream : Nat
  signal : Nat
  tcohMs : Nat
  blocks : Nat
  falseAlarm : Nat
  halfRange : Nat
  hypotheses : Nat
  transforms : Nat
  startAt : Nat
  endBy : Nat
  deriving DecidableEq, Repr

/-- The checker of one lane in the lane test (R171): its last seven bits, the run of error-free bits while it searches, the errors
among the last 32 bits while it is locked. -/
structure LaneCheck where
  reg : List Bool := []
  run : Nat := 0
  locked : Bool := false
  recent : List Bool := []
  deriving DecidableEq, Repr

/-- One IF port (R161 to R172, R176). -/
structure IfPort where
  errRun : Nat := 0
  /-- Number of the last sample with a framing error since lock. -/
  lastErr : Option Nat := none
  faultAt : Option Nat := none
  searching : Bool := false
  initPending : Bool := true
  lanes : List LaneCheck := List.replicate 8 {}
  /-- The last two Gx_FRM stamps, newest first: sample number and module time in ps (R168). -/
  stamps : List (Nat × Int) := []
  /-- Where the blind run through the satellite numbers goes on (R176). -/
  blindNext : Nat := 0
  deriving DecidableEq, Repr

/-- The GNSS baseband (chapter 5); `buffer` is the capture buffer: the blocks of the last job, 65,536 points each (R178). -/
structure Gnss where
  ports : List IfPort := [{}, {}, {}]
  chans : List Chan := []
  queue : List AcqJob := []
  run : Option AcqRun := none
  buffer : List (List (Int × Int)) := []
  deriving DecidableEq, Repr

/-- What the baseband latches of one channel at a measurement instant (R203): the channel with its accumulators there, its flags,
C/N0, slip count and multipath indicator. -/
structure ChanLatch where
  ch : Chan
  flags : Nat
  cn0 : Nat
  slips : Nat
  multipath : Nat
  deriving DecidableEq, Repr

/-- States of a baseline (Table 6-5). -/
inductive BaselineState where
  | none | float | fixed
  deriving DecidableEq, Repr

/-- An entry of a measurement record (Table 6-2): the channel and satellite with the values the bytes carry. -/
structure MeasEntry where
  idx : Nat
  sat : SatId
  stream : Nat
  signal : Nat
  flags : Nat
  pr : Nat
  phase : Int
  doppler : Int
  cn0 : Nat
  slips : Nat
  multipath : Nat
  deriving DecidableEq, Repr

/-- A signal of a satellite in the fixed set of a baseline, or on its way back into it (R226): its single integer, whether it is in
the set, and the epochs in a row whose residual stayed within 0.10 cycle. -/
structure FixedSignal where
  sat : SatId
  signal : Nat
  n : Int
  inSet : Bool
  good : Nat
  deriving DecidableEq, Repr

/-- A baseline (R224 to R226): its state, the run of bad epochs, its fixed signals, the measured vector north, east, down in metres
and its covariance. -/
structure Baseline where
  state : BaselineState := .none
  bad : Nat := 0
  set : List FixedSignal := []
  vec : List Rat := []
  cov : List (List Rat) := []
  deriving DecidableEq, Repr

/-- Measurements, solutions, attitude and harbour mode (chapter 6). -/
structure GnssSol where
  latches : List ChanLatch := []
  latchAt : Nat := 0
  /-- The last latched instant awaits its record (R212). -/
  latched : Bool := false
  /-- Entries of the last record and of the one before, with their instants. -/
  entries : List MeasEntry := []
  entriesAt : Nat := 0
  before : List MeasEntry := []
  /-- Instants of the last GA, GB, GC and combined solution, attitude and baseline epoch formed. -/
  formed : List (Option Nat) := List.replicate 6 Option.none
  /-- Where GA was last found, north, east, down in metres of the tangent plane. -/
  point : List Rat := [0, 0, 0]
  /-- The next record is the first after a step (R211). -/
  stepped : Bool := false
  /-- A rate change waiting for a whole second (R210), and the rate in force. -/
  ratePending : Option Nat := Option.none
  rate : Nat := 10
  gb : Baseline := {}
  gc : Baseline := {}
  /-- Products of both twins, newest last, as the input sets carry them (R240). -/
  products : List Product := []
  /-- Runs of comparisons beyond and within each limit (R243). -/
  posOver : Nat := 0
  posUnder : Nat := 0
  hdgOver : Nat := 0
  hdgUnder : Nat := 0
  lastFixWrite : Option Nat := Option.none
  wakeFrom : Nat := 0
  compared : Nat := 0
  deriving DecidableEq, Repr

/-- A received character with its two pad stamps (R256). -/
structure RxChar where
  b : Byte
  err : Bool
  startStamp : Nat
  endStamp : Nat
  at' : Nat
  /-- Steps of module time since its stamps were taken (R128). -/
  step : Int := 0
  deriving DecidableEq, Repr

/-- A committed packet of a queue: the words of it not yet read, module time at its commit, and the steps of module time since its
first and last stamp were taken (R128, R289). -/
structure PacketMark where
  words : Nat
  at' : Nat
  firstStep : Int := 0
  lastStep : Int := 0
  deriving DecidableEq, Repr

/-- One serial port: its queue and the packet in progress (R249 to R265). -/
structure RxPort where
  /-- Committed words not yet read, and the committed packets they belong to. -/
  words : List Nat := []
  packets : List PacketMark := []
  /-- Words of the packet in progress that stand in the queue. -/
  written : Nat := 0
  /-- Characters of the packet in progress, or of the sync match under way. -/
  chars : List RxChar := []
  inPacket : Bool := false
  crSeen : Bool := false
  /-- The packet in progress was cut by FULL; the rest of it is ignored (R261). -/
  ignoring : Bool := false
  /-- The end of the packet has been judged: complete, or malformed. -/
  verdict : Option Bool := none
  /-- Instant and stamp of the stop bit of the last character, stored or not (R253, R256). -/
  lastAt : Nat := 0
  lastStamp : Nat := 0
  lastStep : Int := 0
  notices : Nat := 0
  heldUntil : Nat := 0
  deriving DecidableEq, Repr

/-- One filter chain (R266 to R282). -/
structure Chain where
  ints : List Int := []
  combs : List Int := []
  fir : List Int := []
  bitCount : Nat := 0
  cicCount : Nat := 0
  inRange : Bool := false
  /-- The clock has been out of range since the last whole window in range (R276). -/
  wasOut : Bool := true
  lastEdges : Option Nat := none
  valid : Bool := false
  settling : Bool := false
  th0 : Bool := false
  th1 : Bool := false
  force0 : Nat := 0
  force1 : Nat := 0
  /-- Instant of the last clock edge sampled. -/
  lastEdge : Nat := 0
  /-- The 100 µs window counted last, and whether the clock was lost within the running one (R268, R276). -/
  window : Option Nat := none
  lost : Bool := false
  /-- Outputs of the running servo period with their stamps, newest first (R479). -/
  recent : List (Int × Nat) := []
  deriving DecidableEq, Repr

/-- Sensor intake (chapter 7). -/
structure Intake where
  serial : List RxPort := List.replicate 12 {}
  chains : List Chain := List.replicate 24 {}
  deriving DecidableEq, Repr

/-- One Wymal port (R531, R532). -/
structure RingPort where
  los : Bool := false
  wrapped : Bool := false
  down : Bool := false
  /-- Consecutive ring frames in which an intact command section has arrived. -/
  intactRun : Nat := 0
  lastFrame : Option Nat := none
  /-- Arrival of the last intact packet of any type, outside nanoseconds. -/
  lastPacket : Option Nat := none
  lastSync : Option Nat := none
  /-- Frame number and start of the first command section of the last frame at this port, TAI ps (R36, R525). -/
  stamp : Option (Nat × Int) := none
  deriving DecidableEq, Repr

/-- Owner of a worker pair number: serial numbers of twins A and B (0 none), and when a slot of it last returned (R537). -/
structure PairOwner where
  serialA : Nat := 0
  serialB : Nat := 0
  lastSeen : Nat := 0
  deriving DecidableEq, Repr

/-- The Wymal rings (chapter 14). -/
structure Ring where
  ports : List RingPort := [{}, {}]
  /-- Start of the running frame and of the next one on the grid of module time, ns. -/
  start : Int := 0
  nextStart : Option Int := none
  rephase : Option Int := none
  cycleNo : Nat := 0
  /-- Command entries that Capstan produced last (R517). -/
  entries : List CmdEntry := List.replicate 32 {}
  /-- Entries of the running cycle whose command frame is not built yet, and the instant from which it is (Table 1-9). -/
  built : Option (List CmdEntry × Int) := none
  pointer : Nat := 0
  grants : List Nat := []
  /-- Feedback slots as last returned, their arrival in TAI ns and outside ns, and the frame they came in. -/
  slots : List (Option (SlotIn × Int × Nat × Nat)) := List.replicate 66 none
  seenNow : List Nat := []
  owners : List PairOwner := List.replicate 32 {}
  /-- Slots of numbers without an owner that this frame has shown, with serial number and order number (R537). -/
  claims : List (Nat × Nat × Nat) := []
  duplicate : Bool := false
  missing : Bool := false
  /-- Twin whose slot reported ACTIVE in the previous snapshot, by pair (R521), and the feedback of the snapshot by thruster. -/
  lastActive : List (Option Nat) := List.replicate 32 none
  snapFb : List (Option FbRecord) := List.replicate 64 none
  /-- Worker side: newest intact command section with its arrival (outside ns), and when its cycle number last advanced. -/
  command : Option CmdSection := none
  commandAt : Nat := 0
  advancedAt : Nat := 0
  isOwner : Option Bool := none
  /-- Serial number of the other twin in the owner table, 0 for none. -/
  twinSerial : Nat := 0
  /-- Ring frames passed since the partner's slot last passed intact with its serial number. -/
  partnerGap : Nat := 3
  queue : List (Nat × List Byte) := []
  sourceSeq : Nat := 0
  /-- The container filled in a frame, for its other copies, and the slots whose containers have been read in it (R536). -/
  filledNow : Option (Nat × Container) := none
  readNow : Nat × List Nat := (0, [])
  deriving DecidableEq, Repr

/-- What the SAFE island keeps of one safe input: runs of failed and passed checks, when it last rose, and the length of its
last energised stretch, ns, until a reset uses it (R604, R610). -/
structure SafeIn where
  noDropRun : Nat := 0
  crossRun : Nat := 0
  passRun : Nat := 0
  roseAt : Nat := 0
  pulse : Option Nat := none
  /-- Checks of Table 16-2 in the running frame: one was made, the own pulse brought no drop, a cross pulse brought one. -/
  tested : Bool := false
  noDrop : Bool := false
  cross : Bool := false
  deriving DecidableEq, Repr

/-- One safe output: last switch-on and switch-off, whether a fault of R609 is still detected on it, and the last test of each channel
while energised (R608). -/
structure SafeOut where
  onAt : Nat := 0
  offAt : Nat := 0
  present : Bool := false
  testAt : List (Option Nat) := [none, none]
  deriving DecidableEq, Repr

/-- SF-A of one local thruster: since when its channels differ, the latched discrepancy, and whether both channels have read
de-energised together since (R610). -/
structure StopRun where
  differFrom : Option Nat := none
  discrepancy : Bool := false
  bothLow : Bool := false
  deriving DecidableEq, Repr

/-- The safety plane (chapter 16); its demands stand in 7000h. -/
structure Safety where
  ins : List SafeIn := List.replicate 16 {}
  outs : List SafeOut := List.replicate 8 {}
  stops : List StopRun := [{}, {}]
  /-- Since when each sensor supply is off after an overload (R605). -/
  ssOff : List (Option Nat) := List.replicate 16 none
  /-- SAFE-island time counts from here (R602); last test pulse of each supply, and the frame last judged (R604). -/
  framesFrom : Nat := 0
  pulseAt : List (Option Nat) := List.replicate 16 none
  judged : Nat := 0
  /-- SF-F demands its safe state, from the fault to leaving SUSPECT or OFFLINE (Table 16-1). -/
  sff : Bool := false
  /-- The start-up self-test has failed. -/
  failed : Bool := false
  /-- Entry not fresh, outputs that name SF-C held off, and thruster states as last judged (R620). -/
  stale : List Bool := [false, false]
  staleOff : List Bool := [false, false]
  lastThr : List Nat := [0, 0]
  /-- Gyrocompass samples of the last snapshots, newest last (R619). -/
  gyros : List Sample := []
  /-- Stretches of unavailability of Fender and SF-D under way (R617, R619). -/
  fenderGap : Bool := false
  rateGap : Bool := false
  /-- Resets of SF-B and SF-D that this boundary carries (R612). -/
  resetB : Bool := false
  resetD : Bool := false
  /-- Whether the triggers of SF-B and SF-D were present in P5's last evaluation (R614). -/
  presentB : Bool := false
  presentD : Bool := false
  deriving DecidableEq, Repr


/-- A 51h copy that waits for the other network's (R642). -/
structure FrameCopy where
  net : Nat
  prp : Nat
  frame : List Byte
  at' : Nat
  deriving DecidableEq, Repr

/-- One safe connection (chapter 17): the scheme last reported to a producer and when; of a consumer, the last report sent, the
last accepted message, the values of its event items, waiting copies, runs of missing copies, probes, and frames heard. -/
structure SafeConn where
  report : Option (Nat × Nat) := none
  reportSent : Nat := 0
  reportDue : Bool := false
  lastSeq : Option Nat := none
  lastAt : Nat := 0
  lost : Bool := false
  events : List Int := []
  copies : List FrameCopy := []
  missA : Nat := 0
  missB : Nat := 0
  probeRun : Nat := 0
  probeAt : Nat := 0
  heardA : Option Nat := none
  heardB : Option Nat := none
  /-- Produced: PRP sequence counter, last production instant (module ns), last probe. -/
  prp : Nat := 0
  produced : Option Nat := none
  probeSent : Nat := 0
  /-- Writes of accepted messages that have been placed at the gate, newest first: sequence number and key (R630). -/
  placed : List (Nat × Nat) := []
  deriving DecidableEq, Repr

/-- Safe data on NET-A and NET-B (chapter 17). -/
structure SafeNet where
  conns : List SafeConn := List.replicate 16 {}
  supervisionAt : Nat := 0
  deriving DecidableEq, Repr


/-- A running panel frame: rows with their contents in common order, half-cycle counts and amplitudes (0.1 mV) for the whole
frame, half-cycles done, its start (R726, R727). -/
structure PanelFrame where
  rows : List (Nat × Nat)
  erase : Nat
  write : Nat
  eraseLevel : Nat
  writeLevel : Nat
  done : Nat
  startAt : Nat
  deriving DecidableEq, Repr

/-- The status panel driver (chapter 21). Rows are 48-bit numbers, SEG00 in bit 0. -/
structure Panel where
  /-- Last driven target of each row. -/
  target : List Nat := [0, 0, 0, 0]
  frame : Option PanelFrame := none
  latched : List (Option Nat) := [none, none, none, none]
  /-- The power-up re-drive of the last complete image is running (R735). -/
  redrive : Bool := false
  deriving DecidableEq, Repr



/-- A link test under way or ended (R755 to R758): start, bits checked before the present lock, since when the checker has
searched or been locked and the bits it searched through; the loopback frame in flight, its sequence number and the PRBS7
register. -/
structure LinkTest where
  startAt : Nat := 0
  /-- The PRBS checker and the line bits it has taken (R756). -/
  check : LaneCheck := {}
  bits : Nat := 0
  seqNo : Nat := 0
  prbs : Nat := 1
  frame : Option (List Byte) := none
  sentAt : Nat := 0
  deriving DecidableEq, Repr

/-- Fault injection and link tests (chapter 22); the settings and states stand in 9200h and 9210h. -/
structure Diag where
  /-- Acknowledgement of the arm write, injections left, the last boundary, the boundary of the last injection. -/
  armedAt : Nat := 0
  left : Nat := 0
  boundaryAt : Nat := 0
  lastBoundary : Option Nat := none
  /-- The last injection while its detector has not declared: detector, instance, instant. -/
  awaiting : Option (Nat × Nat × Nat) := none
  /-- Frames in which the drop of a safe input's own pulse is still suppressed; the digest the next comparison sends inverted;
  lanes and Wymal ports whose next CRC is inverted. -/
  drops : Option (Nat × Nat) := none
  flip : Option Nat := none
  laneCrc : List Bool := [false, false]
  wyCrc : List Bool := [false, false]
  tests : List LinkTest := List.replicate 18 {}
  deriving DecidableEq, Repr

/-- What MRAM keeps across power-ups beside the recorder (R95, R100, R231, R349, R351, R733). -/
structure Mram where
  current : Option Image := none
  previous : Option Image := none
  powerUps : Nat := 0
  /-- GNSS kept data, each item with its CRC-32C (R231, R232). -/
  kept : List (KeptItem × Nat) := []
  /-- Warm states, youngest first (R351); side stores of GA of twin A, twin B and of M0 to M2 (R349). -/
  warm : List KeptVec := []
  sides : List (Option KeptVec) := [none, none, none, none, none]
  mode : Option KeptMode := none
  /-- Life-weighted case temperature, 0.1 °C (2020h:0A). -/
  lifeTemp : Int := 0
  /-- Last complete panel image, whether it passes its check, and the rows of the frame whose dirty mark is set (R733). -/
  panelImage : List Nat := [0, 0, 0, 0]
  panelOk : Bool := true
  panelDirty : Option (List Nat) := none
  /-- Pair key K, empty while none is installed (R677). -/
  pairKey : List Byte := []
  deriving DecidableEq, Repr

/-- What the module sends: messages, frames and answers. -/
inductive Out where
  /-- What a request is answered with. -/
  | reply (client : Client) (key : Nat) (r : Reply)
  /-- COB-ID on which an SDO server's answer leaves a port (R664). -/
  | sdo (port cobId : Nat)
  /-- An OD message to a network client (Table 18-5, R674). -/
  | datagram (client : Nat) (b : List Byte)
  /-- A Terward message: its header bytes and what its payload carries (R545; log entry 37). -/
  | tw (kind : TwKind) (header : List Byte) (data : List Int)
  /-- RELEASE, eight times in a row on both lanes (R549). -/
  | twRelease
  | takeOver (on : Bool)
  | can (port cobId : Nat) (data : List Byte)
  /-- Bit timing a CAN port takes: rate codes, sample point and jump width of each phase in percent of the bit, delay compensation (R782). -/
  | canTiming (port nominal data : Nat) (nominalPoint dataPoint : Nat × Nat) (compensated : Bool)
  | pps (output sec : Nat) (risingOnTime : Bool) (widthNs : Nat) (quantPs : Int)
  | ppsQual (high : Bool)
  /-- A PSDUT sentence (R154). -/
  | sentence (port : Nat) (text : List Byte)
  | ptpForward (inst : Nat) (fromPort1 : Bool) (correctionPs : Int)
  | ptpDelayResp (inst seqNo : Nat) (receivePs correctionPs : Int)
  /-- Announce with data set, TAI−UTC and leap indicator; two-step Sync and its Follow_Up; Delay_Req (R134, R139). -/
  | ptpAnnounce (inst seqNo : Nat) (dataSet : List Nat) (taiUtc : Int) (leap : Nat)
  | ptpSync (inst seqNo : Nat)
  | ptpFollowUp (inst seqNo : Nat) (originPs : Int)
  | ptpDelayReq (inst seqNo : Nat)
  | stepAnnounced (amountNs : Int) (atSec : Nat)
  | spi (port : Nat) (entries : List (List Byte × Nat))
  | queueWord (port word : Nat)
  | notice (port : Nat)
  | tapShift (ir : TapIr)
  /-- A packet leaves a Wymal port (Tables 14-3 to 14-6). -/
  | ringForward (port : Nat) (bytes : List Byte)
  | containerRead (from' : Nat) (payload : List Byte)
  | safeOut (output : Nat) (on : Bool)
  | ssPulse (supply : Nat)
  /-- One channel of a safe output off for 200 µs (R608). -/
  | soPulse (output channel : Nat)
  | excOff
  | drven (thruster : Nat) (on : Bool)
  /-- The frame of a DAC port: SCK divider, SPI mode, and the words of 24 bits (R504, R505). -/
  | dac (port divider mode : Nat) (words : List Nat)
  /-- A burst of clock cycles on ENCe_CLK at a rate in kHz (R474). -/
  | encClock (encoder cycles rateKHz : Nat)
  /-- A safe frame to a peer, with its PRP redundancy control trailer or none (R636, R637). -/
  | safeFrame (net peer port : Nat) (frame trailer : List Byte)
  | prpSupervision (net : Nat)
  /-- The CRC of what left on a Terward lane (code 06h) or a Wymal port (05h) was inverted (Table 22-2). -/
  | crcInverted (code inst : Nat)
  | serial (port : Nat) (data : List Byte)
  | userCall (u a0 a1 a2 : Nat)
  | envResult (u : Nat) (a0 : Int)
  /-- Half a cycle of the panel's drive: V in mV, and the levels of the commons and segments in sixths of V (Table 21-1). -/
  | panelHalf (level : Nat) (commons segments : List Int)
  | panelParked
  deriving DecidableEq, Repr

/-- Why a run stops with a fault. No command of this block stops: the constructor stands for the one stop the form of
the interface needs a name for, and nothing raises it (safe: a stop proves nothing false). -/
inductive Fault where
  /-- Raised by nobody. Safe. -/
  | none
  deriving DecidableEq, Repr

/-- Why a command is refused. -/
inductive Refusal where
  /-- Raised by `exec`'s arm of a command that has no meaning yet. Safe: nothing is claimed of such a command. -/
  | notModelled (mnemonic : String)
  deriving DecidableEq, Repr

/-- The module. Every field has its reset value as its default, so `State.reset` is the plain record of them. -/
structure State where
  /-- The outside world's nanoseconds, never falling. -/
  now : Nat := 0
  power : Power := {}
  ident : Identity := {}
  clock : Clock := {}
  /-- Values of objects; an unlisted key reads its default. -/
  od : Store := []
  /-- Values of DOMAIN, OCTET_STRING and VISIBLE_STRING objects; an unlisted key reads its default. -/
  blobs : Blobs := []
  /-- Writes held for the next boundary, in order of receipt (R28, R593). -/
  held : List HeldWrite := []
  dict : Dict := {}
  recorder : Recorder := {}
  pair : Pair := {}
  /-- Active alarms, oldest first: the key of the object they name and their severity. -/
  alarms : List (Nat × Nat) := []
  /-- Counters whose saturation has been recorded (R737). -/
  saturated : List Nat := []
  mram : Mram := {}
  /-- The instruction the test access port executes (R77). -/
  tap : TapIr := .bypass
  gnss : Gnss := {}
  gsol : GnssSol := {}
  intake : Intake := {}
  align : Align := {}
  est : Est := {}
  trk : Tracks := {}
  ctl : Control := {}
  ring : Ring := {}
  alc : Alloc := {}
  srv : Servo := {}
  saf : Safety := {}
  net : SafeNet := {}
  panel : Panel := {}
  diagn : Diag := {}
  user : List UserPair := [{}, {}]
  /-- Messages, frames and answers that the command just executed made the module send (a model field). -/
  out : List Out := []
  /-- How many free values have been drawn (a model field; log entry 3). -/
  freeCount : Nat := 0
  /-- The commands that wait, first in, first out. -/
  pending : List Instr := []
  deriving DecidableEq, Repr

/-- The module with its internal reset asserted and no supply input present: every object at its default (Table values
of the chapters), every engine idle, every output off. -/
def State.reset : State := {}

end Sys2Proof.Machine
end

