-- ==== Sys2Proof/Machine/Ops.lean ====
section
/-! DEFINITION. The named operations every meaning is built from: reading and writing objects, counters and flags, the
passage of time, the recorder intake, alarms, and what the module sends. -/

namespace Sys2Proof.Machine

open Sys2Proof

/-! ### Objects -/

/-- The row of the object tables that holds object `i:sub` (R652, R689). -/
def odRow (i sub : Nat) : Option OdRow :=
  match odPages.find? (fun p => decide (p.1 ≤ i) && decide (i ≤ p.2.1)) with
  | none => none
  | some p => p.2.2.find? fun r =>
      decide (r.base ≤ i) && decide (i < r.base + r.count) && decide (r.sub0 ≤ sub) && decide (sub ≤ r.subN)

/-- Whether any subindex of index `i` exists (R652). -/
def odIndexExists (i : Nat) : Bool :=
  match odPages.find? (fun p => decide (p.1 ≤ i) && decide (i ≤ p.2.1)) with
  | none => false
  | some p => p.2.2.any fun r => decide (r.base ≤ i) && decide (i < r.base + r.count)

/-- The default of object `i:sub`: the table's, and for the three families whose default is the instance itself
(4040h+c:02, 7040h+n:01, 7100h+c:03) that instance. -/
def odDefault (i sub : Nat) : Int :=
  if sub = 2 ∧ 0x4040 ≤ i ∧ i < 0x4058 then (i : Int) - 0x4040
  else if sub = 1 ∧ 0x7040 ≤ i ∧ i < 0x7050 then (i : Int) - 0x7040
  else if sub = 3 ∧ 0x7100 ≤ i ∧ i < 0x7110 then (i : Int) - 0x7100
  else match odRow i sub with
    | none => 0
    | some r => r.dflt

/-- The default of a key. -/
def keyDefault (k : Nat) : Int := odDefault (k / 256) (k % 256)

/-- The value a key holds. -/
def State.objK (s : State) (k : Nat) : Int := assocGet (keyDefault k) s.od k

/-- A key set to `v`. -/
def State.setObjK (s : State) (k : Nat) (v : Int) : State := { s with od := assocSet (keyDefault k) s.od k v }

/-- The value object `i:sub` holds. -/
def State.obj (s : State) (i sub : Nat) : Int := s.objK (okey i sub)

/-- Object `i:sub` set to `v`. -/
def State.setObj (s : State) (i sub : Nat) (v : Int) : State := s.setObjK (okey i sub) v

/-- Several objects set, first to last. -/
def State.setObjs (s : State) : List (Nat × Nat × Int) → State
  | [] => s
  | (i, sub, v) :: rest => (s.setObj i sub v).setObjs rest

/-- Object as a natural number. -/
def State.nat (s : State) (i sub : Nat) : Nat := (s.obj i sub).toNat

/-- The bytes a blob object holds; unlisted means empty. -/
def State.blob (s : State) (i sub : Nat) : List Byte := assocGet [] s.blobs (okey i sub)

/-- A blob object set. -/
def State.setBlob (s : State) (i sub : Nat) (b : List Byte) : State :=
  { s with blobs := assocSet [] s.blobs (okey i sub) b }

/-- Bit `n` of object `i:sub`. -/
def State.bit (s : State) (i sub n : Nat) : Bool := (s.nat i sub).testBit n

/-- A bit field with bit `n` put to `b`. -/
def putBit (v n : Nat) (b : Bool) : Nat :=
  if v.testBit n = b then v else if b then v + 2 ^ n else v - 2 ^ n

/-- Bit `n` of object `i:sub` put to `b`. -/
def State.setBit (s : State) (i sub n : Nat) (b : Bool) : State :=
  s.setObj i sub (putBit (s.nat i sub) n b)

/-- Bit `n` of object `i:sub` set where `b` holds, else left as it is. -/
def State.raiseBit (s : State) (i sub n : Nat) (b : Bool) : State := if b then s.setBit i sub n true else s

/-! ### Bytes -/

/-- `w` bytes of a number, least significant first (R4). -/
def leBytes : Nat → Nat → List Byte
  | 0, _ => []
  | w + 1, v => BitVec.ofNat 8 v :: leBytes w (v / 256)

/-- A signed number as `w` bytes in two's complement (Table 18-1). -/
def leBytesInt (w : Nat) (v : Int) : List Byte := leBytes w ((v % (2 ^ (8 * w) : Nat)).toNat)

/-- The number `w` bytes spell, least significant first. -/
def leNat : List Byte → Nat
  | [] => 0
  | b :: rest => b.toNat + 256 * leNat rest

/-- The signed number `w` bytes spell in two's complement. -/
def leInt (b : List Byte) : Int :=
  let n := leNat b
  if n < 2 ^ (8 * b.length - 1) then n else (n : Int) - (2 ^ (8 * b.length) : Nat)

/-- Bytes of an ASCII text. -/
def ascii (t : String) : List Byte := t.toList.map fun c => BitVec.ofNat 8 c.toNat

/-- Decimal digits of a number, last digit first, at most `fuel` of them. -/
def digitsRev : Nat → Nat → List Byte
  | 0, _ => []
  | fuel + 1, n => BitVec.ofNat 8 (48 + n % 10) :: (if n < 10 then [] else digitsRev fuel (n / 10))

/-- A number in decimal, at least `w` digits. -/
def decText (w n : Nat) : List Byte :=
  let d := (digitsRev 20 n).reverse
  List.replicate (w - d.length) 0x30 ++ d

/-- An integer in decimal, with its sign where it is negative. -/
def intText (i : Int) : List Byte := if i < 0 then 0x2D :: decText 1 i.natAbs else decText 1 i.natAbs

/-- A byte as two upper-case hexadecimal digits. -/
def hexText (b : Byte) : List Byte :=
  let d (n : Nat) : Byte := BitVec.ofNat 8 (if n < 10 then 48 + n else 55 + n)
  [d (b.toNat / 16), d (b.toNat % 16)]

/-- Fields joined by commas. -/
def commaText : List (List Byte) → List Byte
  | [] => []
  | [f] => f
  | f :: rest => f ++ 0x2C :: commaText rest

/-- Day, month and year of a day counted from 1970-01-01 (Gregorian calendar). -/
def civilDate (day : Nat) : Nat × Nat × Nat :=
  let z := day + 719468
  let doe := z % 146097
  let yoe := (doe - doe / 1460 + doe / 36524 - doe / 146096) / 365
  let doy := doe - (365 * yoe + yoe / 4 - yoe / 100)
  let mp := (5 * doy + 2) / 153
  let m := if mp < 10 then mp + 3 else mp - 9
  (doy - (153 * mp + 2) / 5 + 1, m, yoe + 400 * (z / 146097) + (if m ≤ 2 then 1 else 0))

/-- Stop at the limits of a range. -/
def clampInt (lo hi v : Int) : Int := if v < lo then lo else if hi < v then hi else v

/-- Round a rational to the nearest integer, a half to the even one. -/
def roundHalfEven (q : Rat) : Int :=
  let f := q.floor
  let d := q - f
  if d < 1 / 2 then f
  else if 1 / 2 < d then f + 1
  else if f % 2 = 0 then f else f + 1

/-- Round to the nearest integer, a half upwards. -/
def roundHalfUp (q : Rat) : Int := (q + 1 / 2).floor

/-- The magnitude of a rational. -/
def ratAbs (q : Rat) : Rat := if q < 0 then -q else q

/-- The exact value of a REAL32 by its bits (IEEE 754 single; an infinity or NaN reads as 0, and no range admits one). -/
def real32 (bits : Int) : Rat :=
  let b := bits.toNat
  let e := b / 2 ^ 23 % 256
  let f := b % 2 ^ 23
  let m : Nat := if e = 255 then 0 else if e = 0 then f else (2 ^ 23 + f) * 2 ^ (e - 1)
  let mag : Rat := (m : Rat) / ((2 ^ 149 : Nat) : Rat)
  if b ≥ 2 ^ 31 then -mag else mag

/-- The REAL32 object `i:sub` as a number. -/
def State.real (s : State) (i sub : Nat) : Rat := real32 (s.obj i sub)

/-! ### Lists of instances -/

/-- Element `n` of a list, or `d`. -/
def nth {α : Type} (d : α) (l : List α) (n : Nat) : α := l.getD n d

/-- Element `n` of a list changed. -/
def modifyNth {α : Type} (f : α → α) : List α → Nat → List α
  | [], _ => []
  | a :: rest, 0 => f a :: rest
  | a :: rest, n + 1 => a :: modifyNth f rest n

/-! ### Time -/

/-- Units of 2^-48 ns in one nanosecond (R118). -/
def unitsPerNs : Nat := 2 ^ 48

/-- Module time wraps with its 48-bit count of seconds (R117). -/
def unitsModulus : Nat := 2 ^ 48 * 1000000000 * unitsPerNs

/-- `n` TIME-island cycles at rate correction `rho` (in 10^-12). Each cycle adds 4 ns and 4 ns × ρ rounded to the nearest
unit with the residual carried, so the sum over `n` cycles is the nearest to the exact total (R118, R119). -/
def Clock.advance (c : Clock) (rho : Int) (n : Nat) : Clock :=
  let total : Int := (n : Int) * 4 * (unitsPerNs : Int) * rho + c.resid
  let add : Int := (total + 500000000000) / 1000000000000
  { c with
    ticks := c.ticks + n
    units := (((c.units : Int) + (n : Int) * 4 * (unitsPerNs : Int) + add) % (unitsModulus : Int)).toNat
    resid := total - add * 1000000000000 }

/-- Whether the module runs: its internal reset is not asserted. -/
def State.running (s : State) : Bool := s.power.stage ≠ .down

/-- Time passes to the instant `t` (never back); what the module sent before is gone from the wires. -/
def State.at (s : State) (t : Nat) : State :=
  let now := max s.now t
  let target := (now - s.power.origin) / 4
  let n := target - s.clock.ticks
  { s with
    now := now
    clock := if s.running then s.clock.advance (s.obj 0x2100 0x09) n else s.clock
    out := [] }

/-- Nanoseconds since the origin of the start-up timeline. -/
def State.sinceOrigin (s : State) : Nat := s.now - s.power.origin

/-- Module time in whole TAI nanoseconds, none while unset (R117, R121). -/
def State.moduleNs (s : State) : Option Nat :=
  if s.clock.state = .unset then none else some (s.clock.units / unitsPerNs)

/-- The count of module time in nanoseconds; while it is unset, since the origin of the start-up timeline (log entry 44). -/
def State.mt (s : State) : Nat := s.clock.units / unitsPerNs

/-- Module time in ps, meaningful while set. -/
def State.mtPs (s : State) : Int := (s.clock.units : Int) * 1000 / unitsPerNs

/-- The exported 32-bit stamp (R155). -/
def State.stamp32 (s : State) : Nat := s.mt % 2 ^ 32

/-- A temperature sensor (2020h:05 case, 2020h:06 hottest junction, 0.1 °C): what was told at this instant; at any other a free
reading on the side of its limit on which it was last told (Table 3-5b, R106; log entry 45). -/
def State.temperature (s : State) (sub : Nat) (limit : Int) : Int :=
  let told := s.obj 0x2020 sub
  if s.power.thermalAt = some s.now then told
  else if limit < told then limit + 1 + ((Config.sensorReading sub s.now % (1500 - limit).toNat : Nat) : Int)
  else ((Config.sensorReading sub s.now % (limit + 551).toNat : Nat) : Int) - 550

/-- Case temperature. -/
def State.caseTemp (s : State) : Int := s.temperature 5 950

/-- Highest junction temperature. -/
def State.junctionTemp (s : State) : Int := s.temperature 6 1200

/-- Code of a time state (2100h:04). -/
def TimeState.code : TimeState → Nat
  | .unset => 0 | .freeRunning => 1 | .locked => 2 | .slewing => 3 | .holdover => 4 | .following => 5

/-- Code of a role (Table 15-4). -/
def PairRole.code : PairRole → Nat
  | .offline => 0 | .slipway => 1 | .standby => 2 | .active => 3 | .suspect => 4 | .watch => 5

/-- Role of a code; codes never reported read as OFFLINE. -/
def PairRole.ofCode : Nat → PairRole
  | 1 => .slipway | 2 => .standby | 3 => .active | 4 => .suspect | 5 => .watch | _ => .offline

/-- The role the twin holds. -/
def State.role (s : State) : PairRole := s.pair.role

/-- Whether the module is strapped as manager. -/
def State.isManager (s : State) : Bool := s.ident.duty = .manager

/-- The executing frame of every command: time passes to `t`, the command has its effect, which knows nothing of the queue, and
the queue is as it was. -/
def State.run (s : State) (t : Nat) (f : State → State) : Host.Outcome State Fault Refusal :=
  .next { f { s.at t with pending := [] } with pending := s.pending, now := max s.now t }

/-- The same, for what only a running module does. -/
def State.live (s : State) (t : Nat) (f : State → State) : Host.Outcome State Fault Refusal :=
  s.run t fun s => if s.running then f s else s

/-- The same, for what needs links, ports and the object dictionary, enabled 35 ms after the origin (Table 3-3). -/
def State.ported (s : State) (t : Nat) (f : State → State) : Host.Outcome State Fault Refusal :=
  s.run t fun s => if s.running && s.power.portsOn then f s else s

/-- The other twin. -/
def Twin.other : Twin → Twin
  | .a => .b
  | .b => .a

/-- The module sends `o`. -/
def State.tell (s : State) (o : Out) : State := { s with out := s.out ++ [o] }

/-- A free value below `bound`, and the counter that makes the next one another (log entry 3). -/
def State.free (s : State) (bound : Nat) : Nat × State :=
  (Config.freeWord s.freeCount % bound, { s with freeCount := s.freeCount + 1 })

/-! ### The recorder intake (chapter 20) -/

/-- Stored size of a record with `n` bytes of payload (R704). -/
def storedSize (n : Nat) : Nat := 32 * ((30 + n + 31) / 32)

/-- Stored size of a record. -/
def Rec.size (r : Rec) : Nat := storedSize r.payload.length

/-- Bytes a queue holds. -/
def queueBytes : List IntakeItem → Nat
  | [] => 0
  | i :: rest => i.item.size + queueBytes rest

/-- Size of each plane's intake queue (chapter 20, Intake). -/
def queueLimit : Plane → Nat
  | .control => 65536
  | .data => 262144
  | .management => 65536

/-- The queue of a plane. -/
def Recorder.queue (r : Recorder) : Plane → List IntakeItem
  | .control => r.qControl
  | .data => r.qData
  | .management => r.qManagement

/-- A plane's queue replaced. -/
def Recorder.setQueue (r : Recorder) (p : Plane) (q : List IntakeItem) : Recorder :=
  match p with
  | .control => { r with qControl := q }
  | .data => { r with qData := q }
  | .management => { r with qManagement := q }

/-- Bit of a plane in 9000h:0C, and subindex less 6 of its lost-record counter (Table 20-6). -/
def Plane.code : Plane → Nat
  | .control => 0 | .data => 1 | .management => 2

/-- One more dropped record of a plane since the last type 08h record (R710). -/
def Recorder.noteDrop (r : Recorder) (p : Plane) : Recorder :=
  let (a, b, c) := r.dropped
  { r with dropped := match p with
    | .control => (a + 1, b, c) | .data => (a, b + 1, c) | .management => (a, b, c + 1) }

/-- A saturating count that records nothing (used for the counters of the recorder itself, whose saturation event would
drop again; R737). -/
def State.bump (s : State) (i sub : Nat) : State :=
  if s.obj i sub < 0xFFFFFFFF then s.setObj i sub (s.obj i sub + 1) else s.setBit 0x9300 0x0A 0 true

/-- A producer offers a record to its plane's queue: it is placed whole, or dropped and counted when the queue cannot
hold it; a rise past three quarters sets the sticky bit (R31, R709, R710, R745). After total supply loss the intake
accepts nothing (R719). -/
def State.offer (s : State) (it : IntakeItem) : State :=
  if s.recorder.stopped then s
  else
    let p := it.item.plane
    let q := s.recorder.queue p
    let before := queueBytes q
    let after := before + it.item.size
    if queueLimit p < after then
      { s with recorder := s.recorder.noteDrop p }.bump 0x9000 (6 + p.code)
    else
      let s := { s with recorder := s.recorder.setQueue p (q ++ [it]) }
      if 4 * before ≤ 3 * queueLimit p ∧ 3 * queueLimit p < 4 * after then s.setBit 0x9000 0x0C p.code true else s

/-- TAI second of the inserted leap second that 2100h:10 announces: 23:59:60 of its day. -/
def State.leapSecond (s : State) : Option Nat :=
  if s.obj 0x2100 0x10 = 1 then some ((s.clock.leapDay + 1) * 86400 + s.obj 0x2100 0x0F).toNat else none

/-- A record of this module at this instant (R705, Table 20-1). -/
def State.mkRec (s : State) (ty sev source : Nat) (plane : Plane) (payload : List Byte) : IntakeItem :=
  { item := { ty := ty, sev := sev, source := source, plane := plane, time := s.moduleNs
              utcOff := s.obj 0x2100 0x0F, leapAt := s.leapSecond, seqNo := 0, twinB := s.ident.twin = .b, payload := payload }
    doneAt := s.now }

/-- Payload of records 02h to 04h: the object named, then the detail bytes (Table 20-2). -/
def eventPayload (i sub : Nat) (detail : List Byte) : List Byte :=
  leBytes 2 i ++ leBytes 1 sub ++ [0] ++ detail.take 64

/-- An event (record type 02h) naming object `i:sub`. -/
def State.event (s : State) (plane : Plane) (i sub sev : Nat) (detail : List Byte := []) : State :=
  s.offer (s.mkRec 2 sev i plane (eventPayload i sub detail))

/-- An alarm naming object `i:sub` is raised: active until cleared, record type 03h when it was not active (R729). -/
def State.alarm (s : State) (plane : Plane) (i sub sev : Nat) (detail : List Byte := []) : State :=
  if s.alarms.any (fun a => a.1 = okey i sub) then s
  else { s with alarms := s.alarms ++ [(okey i sub, sev)] }.offer
    (s.mkRec 3 sev i plane (eventPayload i sub detail))

/-- The alarm naming object `i:sub` is cleared, record type 04h when it was active. -/
def State.unalarm (s : State) (plane : Plane) (i sub sev : Nat) : State :=
  if s.alarms.any (fun a => a.1 = okey i sub) then
    { s with alarms := s.alarms.filter (fun a => a.1 ≠ okey i sub) }.offer
      (s.mkRec 4 sev i plane (eventPayload i sub []))
  else s

/-- An alarm raised or cleared by its condition. -/
def State.alarmIf (s : State) (c : Bool) (plane : Plane) (i sub sev : Nat) : State :=
  if c then s.alarm plane i sub sev else s.unalarm plane i sub sev

/-- A saturating counter counts: past FFFFFFFFh it stays, sets 9300h:0A [0] and records one event that names it
(R737, R738). -/
def State.count (s : State) (plane : Plane) (i sub : Nat) : State :=
  if s.obj i sub < 0xFFFFFFFF then s.setObj i sub (s.obj i sub + 1)
  else if s.saturated.contains (okey i sub) then s
  else { s.setBit 0x9300 0x0A 0 true with saturated := okey i sub :: s.saturated }.event plane i sub 3

/-- A count of `n` events at once. -/
def State.countBy (s : State) (plane : Plane) (i sub n : Nat) : State :=
  if s.obj i sub + n ≤ 0xFFFFFFFF then s.setObj i sub (s.obj i sub + n)
  else (s.setObj i sub 0xFFFFFFFF).count plane i sub

end Sys2Proof.Machine
end

