-- ==== Sys2Proof/Machine/Flags.lean ====
section
/-! DEFINITION. The checks a write meets and the arithmetic shared by the computations: values of a range column, the
latest value held for a key, quotients, powers and saturation. -/

namespace Sys2Proof.Machine

open Sys2Proof

/-- A quotient; a divisor of 0 gives a free value, for the manual states none (log entry 4). -/
def qdiv (a b : Rat) : Rat := if b = 0 then Config.overZero a else a / b

/-- The numeric write held last for a key. -/
def heldNum (h : List HeldWrite) (k : Nat) : Option Int :=
  match (h.filter (·.key = k)).getLast? with
  | some w => match w.val with
    | .num v => some v
    | .bytes _ => none
  | none => none

/-- The bytes held last for a key. -/
def heldBytes (h : List HeldWrite) (k : Nat) : Option (List Byte) :=
  match (h.filter (·.key = k)).getLast? with
  | some w => match w.val with
    | .num _ => none
    | .bytes b => some b
  | none => none

/-- The latest value this twin holds for an object, even before its boundary (R659). -/
def State.latest (s : State) (i sub : Nat) : Int := (heldNum s.held (okey i sub)).getD (s.obj i sub)

/-- The same as a natural number. -/
def State.latestNat (s : State) (i sub : Nat) : Nat := (s.latest i sub).toNat

/-- A REAL32's value in thousandths lies within limits. -/
def realWithin (bits : Int) (loMilli hiMilli : Int) : Bool :=
  let e := bits.toNat / 2 ^ 23 % 256
  decide (e ≠ 255) && decide ((loMilli : Rat) ≤ real32 bits * 1000) && decide (real32 bits * 1000 ≤ (hiMilli : Rat))

/-- The exponent e with 2^e ≤ q < 2^(e+1), for q > 0. -/
def log2Rat (q : Rat) : Int :=
  let e : Int := (Nat.log2 q.num.natAbs : Int) - Nat.log2 q.den
  let low : Rat := if 0 ≤ e then ((2 ^ e.toNat : Nat) : Rat) else 1 / ((2 ^ (-e).toNat : Nat) : Rat)
  if q < low then e - 1 else e

/-- The bits of the REAL32 nearest to a number, a half to even; past the largest, infinity. -/
def toReal32 (q : Rat) : Int :=
  let m := ratAbs q
  let sign : Int := if q < 0 then 2147483648 else 0
  if m = 0 then 0
  else
    let e := max (-126) (log2Rat m)
    let k : Rat := if e ≤ 23 then ((2 ^ (23 - e).toNat : Nat) : Rat) else 1 / ((2 ^ (e - 23).toNat : Nat) : Rat)
    let f := roundHalfEven (m * k)
    let bits := (e + 126) * 8388608 + f
    sign + min bits 0x7F800000

/-- A number rounded to IEEE 754 binary64, a half to even (R321, R433); the exponent is not bounded above. -/
def b64 (q : Rat) : Rat :=
  let m := ratAbs q
  if m = 0 then 0
  else
    let e := max (-1022) (log2Rat m)
    let k : Rat := if e ≤ 52 then ((2 ^ (52 - e).toNat : Nat) : Rat) else 1 / ((2 ^ (e - 52).toNat : Nat) : Rat)
    let f : Rat := (roundHalfEven (m * k) : Rat) / k
    if q < 0 then -f else f

/-- Both numbers of a pair rounded to binary64. -/
def b64Pair (p : Rat × Rat) : Rat × Rat := (b64 p.1, b64 p.2)

end Sys2Proof.Machine
end

