-- ==== Sys2Proof/Machine/Detect.lean ====
section
/-! DEFINITION. What injections and link tests (chapter 22) mean to the units they act on: the declaration of a detector, the
inversion of a CRC on its way out, a link that is under test. -/

namespace Sys2Proof.Machine

open Sys2Proof

/-! ### Detectors under injection (R750, R752, R753) -/

/-- The last injection is of this detector and instance and has not been declared. -/
def State.awaits (s : State) (code inst : Nat) : Bool :=
  match s.diagn.awaiting with
  | some (c, i, at') => decide (c = code) && decide (i = inst) && decide (s.now ≤ at' + 1000000000)
  | none => false

/-- A detector declares: 9200h:07 takes the time since the last injection of it (R752). -/
def State.declared (s : State) (code inst : Nat) : State :=
  if s.awaits code inst then
    let from' := match s.diagn.awaiting with
      | some (_, _, at') => at'
      | none => s.now
    { ((s.setObj 0x9200 7 (s.now - from' : Nat)).unalarm .management 0x9200 7 1) with diagn := { s.diagn with awaiting := none } }
  else s

/-- A detector declares where this module cannot observe when: the latency within 1.0 s is a free value (log entry 41). -/
def State.declaredFree (s : State) (code inst : Nat) : State :=
  if s.awaits code inst then
    let (n, s) := s.free 1000000001
    { (s.setObj 0x9200 7 (n : Nat)) with diagn := { s.diagn with awaiting := none } }
  else s

/-- Detector code of an injected hard fault that is being declared, none when the fault is a genuine one (R753). -/
def State.injectedFault (s : State) (d : FaultDetector) : Option (Nat × Nat) :=
  let l : List (Nat × Nat) := match d with
    | .lockstep p => [(3, p)]
    | .symbolCode => [(2, 0), (2, 1), (2, 2)]
    | .heartbeat => [(7, 0)]
    | .engine => []
    | .supervision => []
  l.find? fun q => s.awaits q.1 q.2

/-- The CRC of what leaves on a Terward lane (code 06h) or a Wymal port (05h) is inverted once. -/
def State.spoilCrc (s : State) (code inst : Nat) : State :=
  let d := s.diagn
  if nth false (if code = 6 then d.laneCrc else d.wyCrc) inst then
    let off (l : List Bool) : List Bool := modifyNth (fun _ => false) l inst
    let d := if code = 6 then { d with laneCrc := off d.laneCrc } else { d with wyCrc := off d.wyCrc }
    ({ s with diagn := d }.tell (.crcInverted code inst)).declaredFree code inst
  else s

/-- Any armed or running injection ends (R754). -/
def State.endInjection (s : State) : State :=
  let s := if s.obj 0x9200 5 = 1 ∨ s.obj 0x9200 5 = 2 then s.setObj 0x9200 5 0 else s
  { s with diagn := { s.diagn with left := 0 } }

/-! ### Links under test (R755 to R758) -/

/-- The test record of a link. -/
def State.linkTest (s : State) (l : Nat) : LinkTest := nth {} s.diagn.tests l

/-- A test record changed. -/
def State.modTest (s : State) (l : Nat) (f : LinkTest → LinkTest) : State :=
  { s with diagn := { s.diagn with tests := modifyNth f s.diagn.tests l } }

/-- Whether a link is under test. -/
def State.underTest (s : State) (l : Nat) : Bool := decide (s.obj (0x9210 + l) 3 = 1) || decide (s.obj (0x9210 + l) 3 = 2)

/-- Bits on a link in a time: 10.3125 Gb/s on a Terward lane, 1.25 Gb/s on a Wymal port (Table 22-3). -/
def lineBits (l ns : Nat) : Nat := if l < 2 then ns * 103125 / 10000 else ns * 5 / 4

/-- Seconds of a running test. -/
def State.testElapsed (s : State) (l : Nat) : Nat := min 4294967295 ((s.now - (s.linkTest l).startAt) / 1000000000)

/-- Live values of the link test and summary objects. -/
def State.diagView (s : State) (i sub : Nat) : Option Int :=
  if 0x9210 ≤ i ∧ i < 0x9222 ∧ s.underTest (i - 0x9210) then
    if sub = 7 then some (s.testElapsed (i - 0x9210) : Nat)
    else none
  else if i = 0x9300 ∧ sub = 0x0A then
    let b (c : Bool) (n : Nat) : Nat := if c then 2 ^ n else 0
    let kept := s.nat 0x9300 0x0A
    some (b (kept.testBit 0) 0 + b (decide (s.obj 0x9200 5 = 1) || decide (s.obj 0x9200 5 = 2)) 1 + b (kept.testBit 2) 2
      + b ((List.range 18).any s.underTest) 3 : Nat)
  else none

/-- The condition under which a test is refused (Table 22-3). -/
def State.testRefused (s : State) (l : Nat) : Bool :=
  if l < 2 then !(nth {} s.pair.lanes (1 - l)).up
  else if l < 4 then decide (s.obj 0x8100 1 ≠ 1) || s.underTest (5 - l)
  else if l < 16 then decide (s.obj (0x4000 + (l - 4)) 0x0B ≠ 0)
  else !(s.bit (0x1E00 + (l - 16)) 4 0)

/-- The condition that ends a running test (R758). The ring reads wrapped because of the test itself, so for a Wymal port it is a
break of the ring or the loss of the other port (log entry 41). -/
def State.testBroken (s : State) (l : Nat) : Bool :=
  if 2 ≤ l ∧ l < 4 then decide (s.obj 0x8100 1 = 3) || (nth {} s.ring.ports (3 - l)).down
  else s.testRefused l

/-- A test ends with a state (R758): its counts stay, the link returns to service. -/
def State.finishTest (s : State) (l st : Nat) : State :=
  if ¬ s.underTest l then s
  else
    let s := s.setObjs [(0x9210 + l, 7, (s.testElapsed l : Nat)), (0x9210 + l, 3, (st : Nat)), (0x9210 + l, 1, 0)]
    let s := s.modTest l fun q => { q with frame := none }
    let s := if l < 2 then s.setBit (0x8010 + l) 1 3 false else s
    s.event .management (0x9210 + l) 3 7 [BitVec.ofNat 8 st]

/-- Tests whose refusal condition has arisen end (R758). -/
def State.recheckTests (s : State) : State :=
  (List.range 18).foldl (fun (s : State) l => if s.underTest l && s.testBroken l then s.finishTest l 3 else s) s

end Sys2Proof.Machine
end

