-- ==== Sys2Proof/Machine/Codes.lean ====
section
/-! DEFINITION. Check codes and digit forms that several interfaces share: XOR, CRC-16, CRC-32C, hexadecimal and decimal
digits, SHA-256 and HMAC. -/

namespace Sys2Proof.Machine

open Sys2Proof

/-- XOR of all covered bytes (Table 7-2, code 01h). -/
def xorBytes (b : List Byte) : Nat := b.foldl (fun a x => a ^^^ x.toNat) 0

/-- `n` single-bit steps of a reflected CRC. -/
def crcStepsReflected (poly : Nat) : Nat → Nat → Nat
  | 0, c => c
  | n + 1, c => crcStepsReflected poly n (if c % 2 = 1 then (c / 2) ^^^ poly else c / 2)

/-- CRC-32C, reflected, initial value and final XOR FFFFFFFFh (Table 7-2, code 03h). -/
def crc32c (b : List Byte) : Nat :=
  b.foldl (fun c x => crcStepsReflected 0x82F63B78 8 (c ^^^ x.toNat)) 0xFFFFFFFF ^^^ 0xFFFFFFFF

/-- `n` single-bit steps of a CRC-16 that is not reflected. -/
def crcSteps16 : Nat → Nat → Nat
  | 0, c => c
  | n + 1, c => crcSteps16 n (if 0x8000 ≤ c then (2 * c % 65536) ^^^ 0x1021 else 2 * c)

/-- CRC-16, polynomial 1021h, initial value FFFFh (Table 7-2, code 02h). -/
def crc16 (b : List Byte) : Nat := b.foldl (fun c x => crcSteps16 8 (c ^^^ (256 * x.toNat))) 0xFFFF

/-- The value of a hexadecimal digit in either case. -/
def hexDigit (b : Byte) : Option Nat :=
  let n := b.toNat
  if 48 ≤ n ∧ n ≤ 57 then some (n - 48)
  else if 65 ≤ n ∧ n ≤ 70 then some (n - 55)
  else if 97 ≤ n ∧ n ≤ 102 then some (n - 87)
  else none

/-! ### SHA-256 and HMAC (R673)

The standard's constants are the first 32 bits of the fractional parts of roots of primes; they are formed here from that rule. -/

/-- The largest number of at most `n` bits over `acc` whose power `k` is not above `x`. -/
def rootBits (k x : Nat) : Nat → Nat → Nat
  | 0, acc => acc
  | n + 1, acc => rootBits k x n (if (acc + 2 ^ n) ^ k ≤ x then acc + 2 ^ n else acc)

/-- First 32 bits of the fractional part of the root of order `k` of `p`. -/
def rootFraction (k p : Nat) : Nat := rootBits k (p * 2 ^ (32 * k)) 37 0 % 2 ^ 32

/-- Whether `n` has no divisor from 2 up to 17; below 324 the primes are these and the divisors themselves. -/
def smallPrime (n : Nat) : Bool := (List.range 18).all fun d => decide (d < 2) || decide (n = d) || decide (n % d ≠ 0)

/-- The primes below 312: 64 of them. -/
def hashPrimes : List Nat := (List.range 312).filter fun n => decide (2 ≤ n) && smallPrime n

/-- Bits of a 32-bit word turned right by the first two amounts, and by the third (`turn`) or shifted by it, combined by XOR. -/
def sigmaWord (r1 r2 r3 : Nat) (turn : Bool) (x : Nat) : Nat :=
  let w := BitVec.ofNat 32 x
  (w.rotateRight r1 ^^^ w.rotateRight r2 ^^^ (if turn then w.rotateRight r3 else w >>> r3)).toNat

/-- Sum of words in 32 bits. -/
def sum32 (l : List Nat) : Nat := l.foldl (· + ·) 0 % 2 ^ 32

/-- A window of the last 16 message words, oldest first, moved on by one word. -/
def hashWindow (w : List Nat) : List Nat :=
  w.drop 1 ++ [sum32 [w.getD 0 0, sigmaWord 7 18 3 false (w.getD 1 0), w.getD 9 0, sigmaWord 17 19 10 false (w.getD 14 0)]]

/-- One round on the eight chaining words with the oldest word of the window and constant `k`: two words are new, the rest move on. -/
def hashRound (v : List Nat) (word k : Nat) : List Nat :=
  let bits (n : Nat) : BitVec 32 := BitVec.ofNat 32 (v.getD n 0)
  let choice := ((bits 4 &&& bits 5) ||| (~~~bits 4 &&& bits 6)).toNat
  let majority := ((bits 0 &&& (bits 1 ||| bits 2)) ||| (bits 1 &&& bits 2)).toNat
  let carry := [v.getD 7 0, sigmaWord 6 11 25 true (v.getD 4 0), choice, k, word]
  sum32 (sigmaWord 2 13 22 true (v.getD 0 0) :: majority :: carry) :: v.take 3
    ++ sum32 (v.getD 3 0 :: carry) :: (v.drop 4).take 3

/-- Chaining words and window after a round for each constant. -/
def hashRounds (v w : List Nat) (ks : List Nat) : List Nat :=
  (ks.foldl (fun (s : List Nat × List Nat) k => (hashRound s.1 (s.2.getD 0 0) k, hashWindow s.2)) (v, w)).1

/-- Bytes of a number, most significant first. -/
def beBytes (n v : Nat) : List Byte := (leBytes n v).reverse

/-- A list in pieces of `n`. -/
def pieces {α : Type} (n : Nat) : Nat → List α → List (List α)
  | 0, _ => []
  | m + 1, l => l.take n :: pieces n m (l.drop n)

/-- One block of 64 bytes. -/
def hashBlock (v : List Nat) (block : List Byte) : List Nat :=
  let w := (pieces 4 16 block).map fun b => leNat b.reverse
  (v.zip (hashRounds v w (hashPrimes.map (rootFraction 3)))).map fun p => sum32 [p.1, p.2]

/-- SHA-256. -/
def sha256 (m : List Byte) : List Byte :=
  let fill := (119 - m.length % 64) % 64
  let padded := m ++ 0x80 :: List.replicate fill 0 ++ beBytes 8 (8 * m.length)
  ((pieces 64 (padded.length / 64) padded).foldl hashBlock ((hashPrimes.take 8).map (rootFraction 2))).flatMap (beBytes 4)

/-- `n` single-bit steps of the CRC-64 of R571, most significant bit first. -/
def crcSteps64 : Nat → Nat → Nat
  | 0, c => c
  | n + 1, c => crcSteps64 n (if 0x8000000000000000 ≤ c then (2 * c % 18446744073709551616) ^^^ 0x42F0E1EBA9EA3693 else 2 * c)

/-- CRC-64, polynomial 42F0E1EBA9EA3693h, initial value and final XOR 0 (R571). -/
def crc64 (b : List Byte) : Nat := b.foldl (fun c x => crcSteps64 8 (c ^^^ (x.toNat * 72057594037927936))) 0

/-- HMAC-SHA-256 (R673, R674). -/
def hmacSha256 (key msg : List Byte) : List Byte :=
  let k := if 64 < key.length then sha256 key else key
  let k := k ++ List.replicate (64 - k.length) 0
  let pad (x : Byte) := k.map (· ^^^ x)
  sha256 (pad 0x5C ++ sha256 (pad 0x36 ++ msg))

end Sys2Proof.Machine
end

