-- ==== Sys2Proof/Machine/Wire.lean ====
section
/-! DEFINITION. Bytes of the vendor's own framings, least significant first (R5): the packets of the Wymal rings (Tables 14-3 to
14-6), the header of a Terward message (Table 15-2), and the code words of the module's symbol code (R545, R746). -/

namespace Sys2Proof.Machine

open Sys2Proof

/-- `n` bytes of a packet at an offset. -/
def part (b : List Byte) (off n : Nat) : List Byte := (b.drop off).take n

/-- The unsigned number in `n` bytes at an offset. -/
def field (b : List Byte) (off n : Nat) : Nat := leNat (part b off n)

/-- The signed number there. -/
def fieldInt (b : List Byte) (off n : Nat) : Int := leInt (part b off n)

/-- Bit `n` of the byte at an offset. -/
def fieldBit (b : List Byte) (off n : Nat) : Bool := (field b off 1).testBit n

/-- Bytes with their CRC-32C behind them. -/
def withCrc (b : List Byte) : List Byte := b ++ leBytes 4 (crc32c b)

/-- Whether `n` bytes at an offset are followed by their CRC-32C. -/
def sealedAt (b : List Byte) (off n : Nat) : Bool := decide (field b (off + n) 4 = crc32c (part b off n))

/-- Whether `n` bytes at an offset are followed by the complement of their CRC-32C (R539). -/
def spoiledAt (b : List Byte) (off n : Nat) : Bool := decide (field b (off + n) 4 = 4294967295 - crc32c (part b off n))

/-- Bytes with those at an offset replaced. -/
def put (b : List Byte) (off : Nat) (v : List Byte) : List Byte := b.take off ++ v ++ b.drop (off + v.length)

/-! ### The rings (R516, Tables 14-3 to 14-6) -/

/-- Code of a twin in a header. -/
def Twin.code : Twin → Nat
  | .a => 0
  | .b => 1

/-- Twin of a code. -/
def Twin.ofCode (n : Nat) : Twin := if n = 0 then .a else .b

/-- One thruster's 12 bytes of a command section. -/
def CmdEntry.bytes (e : CmdEntry) : List Byte :=
  leBytes 4 (if e.allocated then 1 else 0) ++ leBytesInt 4 e.thrust ++ leBytesInt 4 e.angle

/-- A command section (Table 14-3). -/
def CmdSection.bytes (c : CmdSection) : List Byte :=
  withCrc (leBytes 1 0xA1 ++ leBytes 1 c.rate ++ leBytes 2 c.cycle ++ leBytes 1 c.mode ++ leBytes 1 c.twin.code ++ leBytes 2 0
    ++ leBytes 4 c.frame ++ leBytes 4 0 ++ (List.range 32).flatMap fun t => (c.entries.getD t {}).bytes)

/-- The command section that intact bytes spell. -/
def readCommand (b : List Byte) : Option CmdSection :=
  if b.length = 404 ∧ field b 0 1 = 0xA1 ∧ sealedAt b 0 400 then
    some { rate := field b 1 1, cycle := field b 2 2, mode := field b 4 1, twin := Twin.ofCode (field b 5 1), frame := field b 8 4
           entries := (List.range 32).map fun t =>
            { allocated := fieldBit b (16 + 12 * t) 0, thrust := fieldInt b (20 + 12 * t) 4, angle := fieldInt b (24 + 12 * t) 4 } }
  else none

/-- A sync packet (Table 14-4). -/
def SyncPacket.bytes (p : SyncPacket) : List Byte :=
  withCrc (leBytes 1 0xA2 ++ leBytes 1 ((if p.ring2 then 1 else 0) + 2 * (p.ringState % 4)) ++ leBytes 2 0 ++ leBytes 4 p.frame
    ++ leBytes 6 (p.start / 65536000000000) ++ leBytes 4 (p.start / 65536 % 1000000000) ++ leBytes 2 (p.start % 65536)
    ++ leBytes 4 p.d1 ++ leBytes 4 p.d2 ++ leBytesInt 8 p.stepNs ++ leBytes 6 p.stepSec ++ leBytes 1 p.timeState
    ++ leBytes 1 p.grants.length ++ leBytes 4 p.estErr
    ++ ((List.range 32).flatMap fun k => leBytes 4 (p.owners.getD k (0, 0)).1 ++ leBytes 4 (p.owners.getD k (0, 0)).2)
    ++ p.grants.flatMap fun g => leBytes 1 g.1 ++ leBytes 1 0 ++ leBytes 2 g.2.1 ++ leBytes 4 g.2.2)

/-- The sync packet that intact bytes spell. -/
def readSync (b : List Byte) : Option SyncPacket :=
  let n := field b 43 1
  if b.length = 308 + 8 * n ∧ n ≤ 66 ∧ field b 0 1 = 0xA2 ∧ sealedAt b 0 (304 + 8 * n) then
    some { ring2 := fieldBit b 1 0, ringState := field b 1 1 / 2 % 4, frame := field b 4 4
           start := (field b 8 6 * 1000000000 + field b 14 4) * 65536 + field b 18 2
           d1 := field b 20 4, d2 := field b 24 4, stepNs := fieldInt b 28 8, stepSec := field b 36 6, timeState := field b 42 1
           estErr := field b 44 4
           owners := (List.range 32).map fun k => (field b (48 + 8 * k) 4, field b (52 + 8 * k) 4)
           grants := (List.range n).map fun g => (field b (304 + 8 * g) 1, field b (306 + 8 * g) 2, field b (308 + 8 * g) 4) }
  else none

/-- A feedback record of a slot. -/
def FbRecord.bytes (r : FbRecord) : List Byte :=
  leBytes 1 r.state ++ [0] ++ leBytes 2 r.flags ++ leBytesInt 4 r.angle ++ leBytesInt 4 r.y ++ leBytesInt 4 r.thrust

/-- The record that 16 bytes spell. -/
def readFb (b : List Byte) : FbRecord :=
  { state := field b 0 1, flags := field b 2 2, angle := fieldInt b 4 4, y := fieldInt b 8 4, thrust := fieldInt b 12 4 }

/-- A filled slot of the feedback packet. -/
def SlotIn.bytes (q : SlotIn) : List Byte :=
  let b (c : Bool) (n : Nat) : Nat := if c then 2 ^ n else 0
  withCrc ([1] ++ leBytes 1 q.hop ++ leBytes 1 q.role ++ leBytes 1 (b q.wrapE 0 + b q.wrapW 1 + b q.following 2) ++ leBytes 4 q.serial
    ++ leBytes 2 q.demand ++ leBytes 2 q.lastCycle ++ q.rec0.bytes ++ q.rec1.bytes)

/-- Bytes 48 of slot `s` in a feedback packet. -/
def slotBytes (b : List Byte) (s : Nat) : List Byte := part b (16 + 48 * s) 48

/-- The filled, intact slot `s` of a feedback packet. -/
def readSlot (b : List Byte) (s : Nat) : Option SlotIn :=
  let q := slotBytes b s
  if field q 0 1 = 1 ∧ sealedAt q 0 44 then
    some { slot := s, hop := field q 1 1, role := field q 2 1, wrapE := fieldBit q 3 0, wrapW := fieldBit q 3 1
           following := fieldBit q 3 2, serial := field q 4 4, demand := field q 8 2, lastCycle := field q 10 2
           rec0 := readFb (part q 12 16), rec1 := readFb (part q 28 16) }
  else none

/-- Bytes that the header CRC of a feedback packet covers: 0 and 3 to 11. -/
def feedbackCovered (b : List Byte) : List Byte := part b 0 1 ++ part b 3 9

/-- The feedback packet as it leaves the originator, every slot blank (R519). -/
def blankFeedback (frame : Nat) : List Byte :=
  let h : List Byte := leBytes 1 0xA3 ++ leBytes 3 0 ++ leBytes 4 frame ++ leBytes 4 0
  h ++ leBytes 4 (crc32c (feedbackCovered h)) ++ List.replicate (66 * 48) 0

/-- Whether bytes are a feedback packet with an intact header. -/
def feedbackIntact (b : List Byte) : Bool :=
  decide (b.length = 3184) && decide (field b 0 1 = 0xA3) && decide (field b 12 4 = crc32c (feedbackCovered b))

/-- Bytes of a container; what the payload leaves of its units is zero (R536). -/
def Container.bytes (c : Container) : List Byte :=
  withCrc (leBytes 1 0xA4 ++ leBytes 1 c.slot ++ leBytes 2 c.units ++ leBytes 1 (if c.filled then 1 else 0) ++ leBytes 1 c.dest
    ++ leBytes 1 c.kind ++ [0] ++ leBytes 2 c.payload.length ++ leBytes 2 c.seqNo ++ leBytes 4 0 ++ c.payload
    ++ List.replicate (64 * c.units - c.payload.length) 0)

/-- The container that intact bytes spell. -/
def readContainer (b : List Byte) : Option Container :=
  let u := field b 2 2
  if b.length = 20 + 64 * u ∧ field b 0 1 = 0xA4 ∧ sealedAt b 0 (16 + 64 * u) then
    some { slot := field b 1 1, units := u, filled := decide (field b 4 1 = 1), dest := field b 5 1, kind := field b 6 1
           seqNo := field b 10 2, payload := part b 16 (min (field b 8 2) (64 * u)) }
  else none

/-- What a forwarding node does to the CRC over `n` bytes at an offset (R539): a failed one is replaced by the complement of the CRC,
and whether it failed and whether it came complemented. -/
def passCrc (b : List Byte) (off n : Nat) : List Byte × Bool × Bool :=
  if sealedAt b off n then (b, false, false)
  else if spoiledAt b off n then (b, false, true)
  else (put b (off + n) (leBytes 4 (4294967295 - crc32c (part b off n))), true, false)

/-! ### Terward headers (Table 15-2) -/

/-- Bytes of a header with `words` payload code words. -/
def TwHeader.bytes (h : TwHeader) (words : Nat) : List Byte :=
  leBytes 1 h.kind ++ leBytes 1 (h.twin.code + 2 * h.role) ++ leBytes 2 words ++ leBytes 4 h.seqNo ++ leBytes 4 h.count
    ++ leBytes 4 h.highest

/-- The header that the 16 bytes of the first code word spell, and its payload code words. -/
def readTwHeader (b : List Byte) : TwHeader × Nat :=
  ({ kind := field b 0 1, twin := Twin.ofCode (field b 1 1 % 2), role := field b 1 1 / 2 % 8, seqNo := field b 4 4, count := field b 8 4
     highest := field b 12 4 }, field b 2 2)

/-! ### The symbol code (R545, R746) -/

/-- What the decoder makes of a word of 19 lanes: its 16 data bytes and whether a lane was corrected, or none. -/
inductive WordRead where
  | clean (data : List Byte)
  | corrected (data : List Byte)
  | bad
  deriving DecidableEq, Repr

/-- A word of the symbol code: 16 data bytes and the 3 check bytes that the code gives them (log entry 41). -/
def codeWord (data : List Byte) : List Byte :=
  data ++ leBytes 3 (Config.checkBytes (BitVec.ofNat 128 (leNat data))).toNat

/-- Whether 19 lanes are a word of the code. -/
def isCodeWord (w : List Byte) : Bool := decide (w.length = 19) && decide (w = codeWord (w.take 16))

/-- The word of the code that differs from `w` in lane `n` alone, if there is one. -/
def laneCorrected (w : List Byte) (n : Nat) : Option (List Byte) :=
  ((List.range 256).map fun v => put w n [BitVec.ofNat 8 v]).find? isCodeWord

/-- The decoder (R746): a word of the code is clean, one that a change of one lane makes a word of the code is corrected, any other is
uncorrectable. -/
def readWord (w : List Byte) : WordRead :=
  if isCodeWord w then .clean (w.take 16)
  else match ((List.range 19).filterMap (laneCorrected w)).head? with
    | some c => if w.length = 19 then .corrected (c.take 16) else .bad
    | none => .bad

/-- The data of a read word. -/
def WordRead.data : WordRead → List Byte
  | .clean d => d
  | .corrected d => d
  | .bad => []

/-- Whether a lane was corrected. -/
def WordRead.wasCorrected : WordRead → Bool
  | .corrected _ => true
  | _ => false

/-- A message as code words: header, payload of whole words, and the trailer with the CRC-32C over all data bytes before it (R545). -/
def messageWords (header payload : List Byte) : List (List Byte) :=
  let words := pieces 16 (payload.length / 16) payload
  (header :: words ++ [leBytes 4 (crc32c (header ++ words.flatten)) ++ List.replicate 12 0]).map codeWord

end Sys2Proof.Machine
end

