-- ==== Sys2Proof/Machine/Link.lean ====
section
/-! DEFINITION. Sending over Terward: message sequence numbers, and the forwarding of committed inputs to the partner
(R543, R545, R565); what a client is answered with (R668, R671, R674). -/

namespace Sys2Proof.Machine

open Sys2Proof

/-! ### Answers to clients (R668, R671, R674) -/

/-- Key of a session, HMAC-SHA-256 over K (R673). -/
def State.sessionKey (s : State) (x : Session) : List Byte :=
  hmacSha256 s.mram.pairKey ([0x43, 0x4C, 0x56, 0x2D, 0x53, 0x45, 0x53] ++ x.nm ++ x.nc ++ leBytes 4 x.id)

/-- Bytes 0 to 15 + n of an OD message (Table 18-5, R5). -/
def odBytes (opcode : Nat) (final tagged failed : Bool) (reqId key offset : Nat) (data : List Byte) : List Byte :=
  [1, BitVec.ofNat 8 opcode, BitVec.ofNat 8 ((if final then 1 else 0) + (if tagged then 2 else 0)), if failed then 1 else 0]
    ++ leBytes 2 reqId ++ leBytes 2 data.length ++ leBytes 2 (key / 256) ++ leBytes 1 (key % 256) ++ [0] ++ leBytes 4 offset ++ data

/-- The message that bytes spell; none where they are no message of Table 18-5: a length that does not fit, more than 1,400 bytes of
data. A tag covers bytes 0 to 23 + n (R674). -/
def OdMsg.ofBytes (b : List Byte) : Option OdMsg :=
  let n := field b 6 2
  let tagged := fieldBit b 2 1
  if b.length < 16 ∨ 1400 < n ∨ b.length ≠ 16 + n + (if tagged then 24 else 0) then none
  else some {
    version := field b 0 1, opcode := field b 1 1, final := fieldBit b 2 0, reqId := field b 4 2
    index := field b 8 2, sub := field b 10 1, offset := field b 12 4, data := part b 16 n
    tag := if tagged then some { session := field b (16 + n) 4, counter := field b (20 + n) 4, tag := part b (24 + n) 16
                                 covered := b.take (24 + n) } else none }

/-- The message a client sends for one object. -/
def OdMsg.sent (opcode : Nat) (via : OdVia) (i sub offset : Nat) (data : List Byte) : OdMsg :=
  { version := 1, opcode := opcode, final := true, reqId := via.reqId, index := i, sub := sub, offset := offset, data := data
    tag := via.trailer.map fun (session, counter, tag) =>
      { session := session, counter := counter, tag := tag
        covered := odBytes opcode true true false via.reqId (okey i sub) offset data ++ leBytes 4 session ++ leBytes 4 counter } }

/-- The message that completes a write of a value: whole, or the last segment of a longer one (R654, R669). -/
def OdMsg.ofWrite (via : OdVia) (i sub : Nat) (b : List Byte) : OdMsg :=
  let offset := (b.length - 1) / 1400 * 1400
  OdMsg.sent 2 via i sub offset (b.drop offset)

/-- Bytes 0 to 15 + n of the response to a message. -/
def OdMsg.response (m : OdMsg) (key : Nat) (r : Reply) (tagged : Bool) : List Byte :=
  match r with
  | .done => odBytes (0x80 + m.opcode) true tagged false m.reqId key m.offset []
  | .value b f => odBytes (0x80 + m.opcode) f tagged false m.reqId key m.offset b
  | .abort a => odBytes (0x80 + m.opcode) true tagged true m.reqId key a []

/-- The whole response: to a tagged request of an open session it is tagged in the same way and echoes the counter (R674). -/
def State.responseTo (s : State) (c : Client) (m : OdMsg) (key : Nat) (r : Reply) : List Byte :=
  match m.tag with
  | none => m.response key r false
  | some g =>
    match s.dict.sessions.find? fun (x : Session) => x.isOpen && decide (x.client = c) && decide (x.id = g.session) with
    | none => m.response key r false
    | some x =>
      let covered := m.response key r true ++ leBytes 4 g.session ++ leBytes 4 g.counter
      covered ++ (hmacSha256 (s.sessionKey x) covered).take 16

/-- Bytes go to a client: a datagram, or over the rings, where they wait for a grant (R536, R672). -/
def State.sendOd (s : State) (c : Client) (b : List Byte) : State :=
  match c with
  | .net id => s.tell (.datagram id b)
  | .ring slot => { s with ring := { s.ring with queue := s.ring.queue ++ [(slot, b)] } }
  | _ => s

/-- A client is answered: over CAN on its server's COB-ID (R664), over a network by the response to the message being served, which is
kept with it (R671). -/
def State.answer (s : State) (c : Client) (key : Nat) (r : Reply) : State :=
  match c with
  | .inner => s
  | .can p => (s.tell (.reply c key r)).tell (.sdo p (0x580 + nth 0 s.dict.nodeIds p))
  | _ =>
    let s := s.tell (.reply c key r)
    match (s.dict.clients.find? fun (k : ClientRec) => decide (k.client = c)).bind (·.request) with
    | none => s
    | some m =>
      let b := s.responseTo c m key r
      let a : Answered := { reqId := m.reqId, counter := m.tag.map (·.counter), key := key, reply := r, bytes := b, at' := s.now }
      let keep (q : ClientRec) : ClientRec :=
        if q.client = c then { q with request := none, answered := a :: q.answered.filter fun o => decide (s.now ≤ o.at' + 2000000000) } else q
      ({ s with dict := { s.dict with clients := s.dict.clients.map keep } }).sendOd c b

/-! ### The link -/

/-- Whether a lane is up (8000h:0C [0]). -/
def State.linkUp (s : State) : Bool := s.pair.lanes.any fun (l : Lane) => l.up

/-- The twin whose side the pair runs on: this twin unless its partner is ACTIVE. -/
def State.activeTwin (s : State) : Twin :=
  if s.role ≠ .active ∧ s.pair.partnerRole = some .active then (if s.ident.twin = .a then .b else .a)
  else s.ident.twin

/-- Whether this twin's own copy is the active twin's. -/
def State.ownIsActive (s : State) : Bool := decide (s.activeTwin = s.ident.twin)

/-- Whether this twin's copy of a sigma-delta input is the one the set takes (R565). -/
def State.ownChain (s : State) (c : Nat) : Bool :=
  match s.obj 0x8050 (0x0D + c) with
  | 1 => decide (s.ident.twin = .a)
  | 2 => decide (s.ident.twin = .b)
  | _ => s.ownIsActive

/-- Code of a message type (Table 15-3). -/
def TwKind.code : TwKind → Nat
  | .input => 1 | .set => 2 | .setAck => 3 | .digest => 4 | .time => 5 | .write => 6 | .slipway => 7 | .control => 8 | .heartbeat => 9

/-- Count that a header and a digest carry: cycles in a manager, samples in a worker (Table 15-2). -/
def State.setCount (s : State) : Nat := if s.isManager then s.nat 0x8000 0x0D else s.nat 0x6001 1

/-- Header of a message with sequence number `n` and `words` payload code words (Table 15-2). -/
def State.twHeader (s : State) (kind : TwKind) (n words : Nat) : List Byte :=
  { kind := kind.code, twin := s.ident.twin, role := s.role.code, seqNo := n, count := s.setCount
    highest := s.pair.recvSeq : TwHeader }.bytes words

/-- A message is sent on every lane with the next sequence number (R543, R545); its size in code words beyond header and
trailer is a free value, for the layout of payloads is not given (log entry 37). -/
def State.twSend (s : State) (kind : TwKind) (data : List Int) : State :=
  let n := (s.pair.sendSeq + 1) % 4294967296
  let (words, s) := s.free 2049
  let sent (s : State) (i : Nat) : State := s.setObj i 8 ((s.obj i 8 + 16 * (2 + words)) % 18446744073709551616)
  let s := sent (sent s 0x8010) 0x8011
  let s := { s with pair := { s.pair with
      sendSeq := n
      lanes := s.pair.lanes.map fun (l : Lane) => { l with lastSent := s.now } } }.tell (.tw kind (s.twHeader kind n words) data)
  (s.spoilCrc 6 0).spoilCrc 6 1

/-- A committed input joins the pool and goes to the partner as an INPUT message, except in OFFLINE and WATCH (R565). -/
def State.commitInput (s : State) (source stamp : Nat) (data : List Byte) : State :=
  let last := (s.pair.pool.filter fun (p : PoolInput) => p.own ∧ p.source = source).map (·.seqNo)
  let seqNo := (last.foldl max 0) + 1
  let forward := decide (s.role ≠ .offline) && decide (s.role ≠ .watch)
  let s := if forward then s.twSend .input ((source : Int) :: seqNo :: stamp :: data.map fun b => (b.toNat : Int)) else s
  { s with pair := { s.pair with
    pool := s.pair.pool ++ [{ source := source, seqNo := seqNo, stamp := stamp, own := true
                              sentAs := if forward then s.pair.sendSeq else 0, data := data }] } }

/-- The input just committed is the one being decoded. -/
def State.nameInput (s : State) : State :=
  let one := s.pair.pool.getLast?
  { s with pair := { s.pair with inputSeq := (one.map (·.sentAs)).getD 0, inputNum := (one.map (·.seqNo)).getD 0 } }

/-- Inputs of the pool that the twin still needs: those of packets not yet consumed and the last of each source (R565). -/
def State.prunePool (s : State) : State :=
  let newer (l : List PoolInput) (p : PoolInput) : Nat :=
    (l.filter fun (q : PoolInput) => decide (q.own = p.own) && decide (q.source = p.source) && decide (p.seqNo < q.seqNo)).length
  { s with pair := { s.pair with
    pool := s.pair.pool.filter fun (p : PoolInput) =>
      decide (newer s.pair.pool p ≤ (if p.own ∧ p.source < 12 then (nth {} s.intake.serial p.source).packets.length else 0)) } }

end Sys2Proof.Machine
end

