-- ==== Sys2Proof/Machine/Intake.lean ====
section
/-! DEFINITION. Sensor intake (chapter 7): serial ports and their queues, filter chains and threshold comparators. -/

namespace Sys2Proof.Machine

open Sys2Proof

/-! ### Queues -/

/-- A serial port. -/
def State.rx (s : State) (n : Nat) : RxPort := nth {} s.intake.serial n

/-- A serial port changed. -/
def State.modRx (s : State) (n : Nat) (f : RxPort → RxPort) : State :=
  { s with intake := { s.intake with serial := modifyNth f s.intake.serial n } }

/-- Words standing in the queue. -/
def RxPort.level (p : RxPort) : Nat := p.words.length + p.written

/-- The level object follows the queue; a rise past the watermark sets the sticky bit and counts; FULL clears once a word
is free (R261, R264, R745). -/
def State.noteLevel (s : State) (n before : Nat) : State :=
  let i := 0x4000 + n
  let after := (s.rx n).level
  let s := s.setObj i 0x0E after
  let mark := s.nat i 0x0F
  if before ≤ mark ∧ mark < after then (s.setBit i 0x0D 2 true).count .data i 0x10 else s

/-- Packet in progress and its words dropped. -/
def RxPort.drop (p : RxPort) : RxPort :=
  { p with chars := [], inPacket := false, crSeen := false, ignoring := false, verdict := none, written := 0 }

/-- The packet in progress is discarded and counted in 4000h:15, unless FULL has discarded and counted it before (R250 to R253,
R261). -/
def State.dropPacket (s : State) (n : Nat) : State :=
  let p := s.rx n
  let s := if p.ignoring then s else s.count .data (0x4000 + n) 0x15
  (s.modRx n RxPort.drop).noteLevel n p.level

/-- Sync bytes of a binary port, first byte first (R252). -/
def State.syncBytes (s : State) (n : Nat) : List Byte :=
  (leBytes 4 (s.nat (0x4000 + n) 4)).take (s.nat (0x4000 + n) 5)

/-- Total length of the binary packet in progress, once known; `some none` for a malformed computed length (R252). -/
def State.binaryLength (s : State) (n : Nat) (chars : List RxChar) : Option (Option Nat) :=
  let i := 0x4000 + n
  if s.obj i 1 = 2 then some (some (s.nat i 6))
  else
    match chars[s.nat i 7]? with
    | none => none
    | some c =>
      let total : Int := (c.b.toNat : Int) + s.obj i 8
      if total < max (s.obj i 5) (s.obj i 7 + 1) ∨ 1020 < total then some none else some (some total.toNat)

/-- Words the packet in progress takes for `k` stored bytes (R257). -/
def packetWords (k : Nat) : Nat := 3 + (k + 3) / 4

/-- The packet's words are written as its characters arrive; when one finds the queue full, FULL and OVERRUN are set and
the packet is lost (R261, R262). -/
def State.writeWords (s : State) (n : Nat) : State :=
  let p := s.rx n
  if p.ignoring ∨ ¬ p.inPacket then s
  else
    let want := packetWords p.chars.length
    if 1024 < p.words.length + want then
      let before := p.level
      let s := s.modRx n fun p => { p with ignoring := true, written := 0 }
      let s := ((s.setBit (0x4000 + n) 0x0D 0 true).setBit (0x4000 + n) 0x0D 1 true).count .data (0x4000 + n) 0x13
      (s.declared 0x0D n).noteLevel n before
    else
      let before := p.level
      (s.modRx n fun p => { p with written := want }).noteLevel n before

/-- A packet begins with these characters; while FULL is set it is discarded and counted (R261). -/
def State.beginPacket (s : State) (n : Nat) (chars : List RxChar) : State :=
  let full := s.bit (0x4000 + n) 0x0D 0
  let s := s.modRx n fun p =>
    { p with inPacket := true, crSeen := false, verdict := none, chars := chars, ignoring := full, written := 0 }
  if full then s.count .data (0x4000 + n) 0x13 else s.writeWords n

/-! ### Characters -/

/-- A character in sentence mode (R249, R250). -/
def State.sentenceChar (s : State) (n : Nat) (c : RxChar) : State :=
  let p := s.rx n
  let v := c.b.toNat
  let start := decide (v = 36 ∨ v = 33)
  if ¬ p.inPacket then
    if start then s.beginPacket n [c]
    else if c.err then s.count .data (0x4000 + n) 0x14 else s
  else if p.crSeen then
    if v = 10 then s.modRx n fun p => { p with verdict := some (decide (p.chars.length + 2 ≤ 82)) }
    else if start then (s.dropPacket n).beginPacket n [c]
    else s.modRx n fun p => { p with verdict := some false }
  else if v = 13 then s.modRx n fun p => { p with crSeen := true }
  else if start then (s.dropPacket n).beginPacket n [c]
  else if v < 32 ∨ 126 < v ∨ 82 ≤ p.chars.length then s.modRx n fun p => { p with verdict := some false }
  else (s.modRx n fun p => { p with chars := p.chars ++ [c] }).writeWords n

/-- Characters with an error that prove to lie outside any packet are counted (R255). -/
def State.outsideChars (s : State) (n : Nat) (cs : List RxChar) : State :=
  s.countBy .data (0x4000 + n) 0x14 (cs.filter (·.err)).length

/-- A character in a binary mode (R252, R255): the last characters that may yet begin a packet are kept. -/
def State.binaryChar (s : State) (n : Nat) (c : RxChar) : State :=
  let p := s.rx n
  let sync := s.syncBytes n
  let s :=
    if ¬ p.inPacket then
      let seen := p.chars ++ [c]
      let win := seen.drop (seen.length - sync.length)
      let keep := if win.map (·.b) = sync then sync.length else sync.length - 1
      let s := s.outsideChars n (seen.take (seen.length - keep))
      if win.map (·.b) = sync then s.beginPacket n win
      else s.modRx n fun p => { p with chars := seen.drop (seen.length - keep) }
    else (s.modRx n fun p => { p with chars := p.chars ++ [c] }).writeWords n
  let p := s.rx n
  if ¬ p.inPacket then s
  else match s.binaryLength n p.chars with
    | none => s
    | some none => s.modRx n fun p => { p with verdict := some false }
    | some (some total) =>
      if total ≤ p.chars.length then s.modRx n fun p => { p with verdict := some true } else s

/-- A character by the port's framing mode; a port that is off receives nothing. -/
def State.rxChar (s : State) (n : Nat) (c : RxChar) : State :=
  let s := s.modRx n fun p => { p with lastAt := c.at', lastStamp := c.endStamp, lastStep := c.step }
  match s.obj (0x4000 + n) 1 with
  | 1 => s.sentenceChar n c
  | 2 => s.binaryChar n c
  | 3 => s.binaryChar n c
  | _ => s

/-- The checksum field of a sentence: none absent, or whether it matches (R251). -/
def sentenceCheck (b : List Byte) : Option Bool :=
  let k := b.length
  match b[k - 3]?, b[k - 2]?, b[k - 1]? with
  | some star, some h, some l =>
    if star.toNat = 42 ∧ 4 ≤ k then
      match hexDigit h, hexDigit l with
      | some x, some y => some (decide (xorBytes ((b.take (k - 3)).drop 1) = 16 * x + y))
      | _, _ => none
    else none
  | _, _, _ => none

/-- Whether a binary packet passes its check (R254, Table 7-2). -/
def binaryCheckOk (code sync : Nat) (b : List Byte) : Bool :=
  let body := b.drop sync
  let k := body.length
  match code with
  | 1 => decide (1 ≤ k) && decide (xorBytes (body.take (k - 1)) = leNat (body.drop (k - 1)))
  | 2 => decide (2 ≤ k) && decide (crc16 (body.take (k - 2)) = leNat (body.drop (k - 2)).reverse)
  | 3 => decide (4 ≤ k) && decide (crc32c (body.take (k - 4)) = leNat (body.drop (k - 4)))
  | _ => true

/-- Words of bytes, least significant byte first (Table 7-3). -/
def packWords : Nat → List Byte → List Nat
  | 0, _ => []
  | _, [] => []
  | fuel + 1, b => leNat (b.take 4) :: packWords fuel (b.drop 4)

/-- Flags [16] to [18] of the packet in progress, none when its absent checksum makes it malformed (R251, R254, R255). -/
def State.packetFlags (s : State) (n : Nat) (p : RxPort) : Option Nat :=
  let i := 0x4000 + n
  let b := p.chars.map (·.b)
  let err := if p.chars.any (·.err) then 4 else 0
  if s.obj i 1 = 1 then
    match sentenceCheck b with
    | some true => some err
    | some false => some (1 + err)
    | none => if s.obj i 9 = 1 then none else some (2 + err)
  else some ((if binaryCheckOk (s.nat i 9) (s.nat i 5) b then 0 else 1) + err)

/-- The queue words of a packet (R256, R257): the second stamp is that of its last character, an LF not stored. -/
def packetImage (sentence : Bool) (flags : Nat) (lastStamp : Nat) (chars : List RxChar) : List Nat :=
  let b := chars.map (·.b)
  let first := match chars.head? with | some c => c.startStamp % 4294967296 | none => 0
  let mark : Nat := if sentence then 0xA5 else 0xA6
  (b.length + 65536 * flags + 16777216 * mark) :: first :: (lastStamp % 4294967296) :: packWords b.length b

/-- A complete packet is committed with exactly one notice, or discarded where R251 says so (R258, R565). -/
def State.commitPacket (s : State) (n : Nat) : State :=
  let p := s.rx n
  if p.ignoring then s.modRx n RxPort.drop
  else match s.packetFlags n p with
    | none => s.dropPacket n
    | some flags =>
      let image := packetImage (decide (s.obj (0x4000 + n) 1 = 1)) flags p.lastStamp p.chars
      let before := p.level
      let s := s.modRx n fun p =>
        { p.drop with words := p.words ++ image, notices := p.notices + 1
                      packets := p.packets ++ [{ words := image.length, at' := s.mt, lastStep := p.lastStep
                                                 firstStep := (p.chars.head?.map (·.step)).getD 0 }] }
      let s := ((s.noteLevel n before).count .data (0x4000 + n) 0x12).tell (.notice n)
      s.commitInput n (image.getD 1 0) (p.chars.map (·.b))

/-- Characters fed again after a malformed packet: sync is searched from the byte after its first byte, and a packet that
completes or proves malformed among them ends before the next one (R252). -/
def State.refeed (s : State) (n : Nat) : Nat → List RxChar → State
  | 0, _ => s
  | _, [] => s
  | fuel + 1, c :: rest =>
    let s := s.rxChar n c
    let p := s.rx n
    match p.verdict with
    | some false => (s.dropPacket n).refeed n fuel (p.chars.drop 1 ++ rest)
    | some true => (s.commitPacket n).refeed n fuel rest
    | none => s.refeed n fuel rest

/-- A malformed packet is discarded and counted; binary modes search for sync again (R250, R252, R253). -/
def State.discardPacket (s : State) (n : Nat) : State :=
  let cs := (s.rx n).chars
  let s := s.dropPacket n
  if s.obj (0x4000 + n) 1 = 1 then s else s.refeed n (cs.length * cs.length + 1) (cs.drop 1)

/-- A verdict that stands is acted on before anything else arrives (log entry 25). -/
def State.settlePacket (s : State) (n : Nat) : State :=
  match (s.rx n).verdict with
  | some true => s.commitPacket n
  | some false => s.discardPacket n
  | none => s

/-- Whether the packet in progress has met its gap of 4000h:0A bit periods, or 1.0 s since its first character (R253). -/
def State.packetExpired (s : State) (n : Nat) : Bool :=
  let p := s.rx n
  p.inPacket && p.verdict.isNone
    && (decide (s.nat (0x4000 + n) 0x0A * 1000000000 < (s.now - p.lastAt) * s.nat (0x4000 + n) 2)
      || match p.chars.head? with
        | some f => decide (1000000000 < s.now - f.at')
        | none => false)

/-- Expired packets are closed as malformed: the one in progress, and any that begins among its own characters (R252, R253). -/
def State.expirePacket (s : State) (n : Nat) : Nat → State
  | 0 => s
  | fuel + 1 => if s.packetExpired n then (s.discardPacket n).expirePacket n fuel else s

/-- Half bit periods from the falling edge of the start bit to the centre of the stop bit (4000h:03). -/
def State.charHalfBits (s : State) (n : Nat) : Nat :=
  let f := s.nat (0x4000 + n) 3
  2 * (1 + (if f.testBit 3 then 7 else 8) + (if f % 4 = 0 then 0 else 1)) + 1

/-- SERIAL_CHARACTER_RX (R249, R252, R253, R255, R256, R261, R264): at the centre of the character's stop bit, with what each of the
two stamps lies after its edge, at most a sixteenth of a bit and 8 ns. -/
def execSerialCharacterRx (t port : Nat) (b : Byte) (charError : Bool) (startLateNs endLateNs : Nat) (s : State) :
    Host.Outcome State Fault Refusal :=
  s.ported t fun s =>
    let baud := s.nat (0x4000 + port) 2
    let late := 8 + 1000000000 / (16 * baud)
    if 12 ≤ port ∨ s.obj (0x4000 + port) 1 = 0 ∨ s.obj (0x9214 + port) 1 = 3 ∨ late < startLateNs ∨ late < endLateNs then s
    else
      let s := s.settlePacket port
      let s := s.expirePacket port ((s.rx port).chars.length + 1)
      let s := s.setObj (0x4000 + port) 0x11 ((s.obj (0x4000 + port) 0x11 + 1) % 18446744073709551616)
      let start : Int := (s.mt : Int) - (s.charHalfBits port * 500000000 / baud : Nat) + startLateNs
      s.rxChar port { b := b, err := charError, startStamp := (start % 4294967296).toNat
                      endStamp := (s.mt + endLateNs) % 4294967296, at' := s.now }

/-- PACKET_COMMIT (R258). -/
def execPacketCommit (t port : Nat) (s : State) : Host.Outcome State Fault Refusal :=
  s.ported t fun s => if (s.rx port).verdict = some true then s.commitPacket port else s

/-- PACKET_DISCARD (R250 to R252). -/
def execPacketDiscard (t port : Nat) (s : State) : Host.Outcome State Fault Refusal :=
  s.ported t fun s => if (s.rx port).verdict = some false then s.discardPacket port else s

/-- PACKET_GAP_TIMEOUT (R253): the gap of 4000h:0A bit periods, or 1.0 s since the first character, is exceeded. -/
def execPacketGapTimeout (t port : Nat) (s : State) : Host.Outcome State Fault Refusal :=
  s.ported t fun s => s.expirePacket port ((s.rx port).chars.length + 1)

/-- The committed packets after one word has been read. -/
def takeWord : List PacketMark → List PacketMark
  | [] => []
  | p :: rest => if p.words ≤ 1 then rest else { p with words := p.words - 1 } :: rest

/-- QUEUE_READ (R259 to R261, R264): the next committed word, or the idle word; a freed word clears FULL. -/
def execQueueRead (t port : Nat) (s : State) : Host.Outcome State Fault Refusal :=
  s.ported t fun s =>
    if 12 ≤ port then s
    else match (s.rx port).words with
      | [] => s.tell (.queueWord port 0xFFFFFFFE)
      | w :: rest =>
        let before := (s.rx port).level
        let s := s.modRx port fun p => { p with words := rest, packets := takeWord p.packets }
        ((s.setBit (0x4000 + port) 0x0D 0 false).noteLevel port before).tell (.queueWord port w)

/-- The oldest committed packet taken whole by its consumer (R263): what is left of its words, its mark. -/
def State.takePacket (s : State) (n : Nat) : Option (List Nat × PacketMark × State) :=
  let p := s.rx n
  match p.packets with
  | [] => none
  | k :: rest =>
    let before := p.level
    let s := s.modRx n fun p => { p with words := p.words.drop k.words, packets := rest, notices := p.notices - 1 }
    some (p.words.take k.words, k, (s.setBit (0x4000 + n) 0x0D 0 false).noteLevel n before)

/-! ### Filter chains -/

/-- A filter chain. -/
def State.chain (s : State) (c : Nat) : Chain := nth {} s.intake.chains c

/-- A filter chain changed. -/
def State.modChain (s : State) (c : Nat) (f : Chain → Chain) : State :=
  { s with intake := { s.intake with chains := modifyNth f s.intake.chains c } }

/-- Coefficient count L and decimation D2 of a FIR response (Table 7-4). -/
def firShape (code : Nat) : Nat × Nat :=
  if code = 0 then (1, 1)
  else if code ≤ 5 then (31, 2)
  else if code ≤ 0x0A then (63, 4)
  else match code with
    | 0x0B => (23, 2)
    | 0x0C => (47, 2)
    | 0x0D => (31, 1)
    | 0x0E => (63, 1)
    | 0x0F => (8, 1)
    | 0x10 => (16, 1)
    | 0x11 => (127, 4)
    | 0x12 => (15, 1)
    | _ => (127, 1)

/-- Coefficient `n` of a response, scaled by 2^17 (R271): pass-through and moving averages as their names say, the others
from the ROM. -/
def firCoeff (code n : Nat) : Int :=
  match code with
  | 0 => 131072
  | 0x0F => 16384
  | 0x10 => 8192
  | _ => Config.firRom code n

/-- Wrap to 56-bit two's complement (R269). -/
def wrap56 (v : Int) : Int := (v + 36028797018963968) % 72057594037927936 - 36028797018963968

/-- Shift right with rounding half up (R269, R271). -/
def shiftRound (v : Int) (n : Nat) : Int := if n = 0 then v else (v + 2 ^ (n - 1)) / (2 ^ n : Nat)

/-- One input bit through the integrators. -/
def integrate (x : Int) : List Int → List Int × Int
  | [] => ([], x)
  | a :: rest =>
    let y := wrap56 (a + x)
    let (r, z) := integrate y rest
    (y :: r, z)

/-- One CIC sample through the combs. -/
def comb (x : Int) : List Int → List Int × Int
  | [] => ([], x)
  | d :: rest =>
    let y := wrap56 (x - d)
    let (r, z) := comb y rest
    (x :: r, z)

/-- The sum of products of the FIR. -/
def firSum (code : Nat) : Nat → List Int → Int
  | _, [] => 0
  | n, x :: rest => firCoeff code n * x + firSum code (n + 1) rest

/-- Settling point in CIC outputs (R278). -/
def settleCic (nOrd code : Nat) : Nat :=
  let (l, d2) := firShape code
  d2 * ((nOrd + l - 1 + d2 - 1) / d2)

/-- An output of a chain: the FIR sum, the count of its CIC output since the restart, and how long before the command the edge that
captured its last input bit lay. -/
structure ChainOut where
  y : Int
  cic : Nat
  ago : Nat
  deriving DecidableEq, Repr

/-- Input bits of a chain at the chosen edge, oldest first: the new chain and the FIR outputs produced (R266, R269 to R271). -/
def Chain.feed (nOrd r s1 code s2 : Nat) (c : Chain) : List SdEdge → Chain × List ChainOut
  | [] => (c, [])
  | e :: rest =>
    let x : Int := if e.level then 1 else -1
    let (ints, top) := integrate x (if c.ints.length = nOrd then c.ints else List.replicate nOrd 0)
    let n := c.bitCount + 1
    if n < r then
      Chain.feed nOrd r s1 code s2 { c with ints := ints, bitCount := n } rest
    else
      let (combs, y) := comb top (if c.combs.length = nOrd then c.combs else List.replicate nOrd 0)
      let (l, d2) := firShape code
      let line := (shiftRound y s1 :: c.fir).take l
      let k := c.cicCount + 1
      let c := { c with ints := ints, combs := combs, fir := line, bitCount := 0, cicCount := k }
      let (c', outs) := Chain.feed nOrd r s1 code s2 c rest
      if k % d2 = 0 then (c', { y := shiftRound (firSum code 0 line) (17 + s2), cic := k, ago := e.ago } :: outs) else (c', outs)

/-- A restart: filters and counters cleared, valid clear; restarts within one settling period count once (R276, R279). -/
def State.chainRestart (s : State) (c : Nat) : State :=
  let was := (s.chain c).settling
  let s := s.modChain c fun k =>
    { k with ints := [], combs := [], fir := [], bitCount := 0, cicCount := 0, valid := false, settling := true }
  let s := s.setBit (0x4040 + c) 0x10 0 false
  if was then s else s.count .data (0x4040 + c) 0x16

/-- One comparator on a valid output (R280). -/
def comparator (mode : Nat) (v h : Int) (active : Bool) (y : Int) : Bool :=
  match mode with
  | 1 => if v < y then true else if y < v - h then false else active
  | 2 => if y < v then true else if v + h < y then false else active
  | _ => false

/-- A change of a comparator's state: live bit, sticky bit and count of an activation, event (R281). -/
def State.thresholdChange (s : State) (c k : Nat) (was now : Bool) : State :=
  if was = now then s
  else
    let i := 0x4040 + c
    let s := s.setBit i 0x10 (4 + k) now
    let s := if now then ((s.setBit i 0x10 (6 + k) true).count .data i (0x18 + k)).declared 0x0C (2 * c + k) else s
    s.event .data i 0x10 3 [BitVec.ofNat 8 k, if now then 1 else 0]

/-- One FIR output of a settled chain: saturation, value, comparators (R271, R275, R280, R281). -/
def State.chainWord (s : State) (c : Nat) (stamp : Nat) (y : Int) : State :=
  let i := 0x4040 + c
  let v := clampInt (-8388608) 8388607 y
  let sat := decide (v ≠ y)
  let s := s.setObj i 0x0F v
  let s := (s.setBit i 0x10 0 true).setBit i 0x10 1 sat
  let s := if sat then (s.setBit i 0x10 8 true).count .data i 0x17 else s
  let k := s.chain c
  let t0 := if 0 < k.force0 then true else comparator (s.nat i 9) (s.obj i 0x0A) (s.obj i 0x0B) k.th0 v
  let t1 := if 0 < k.force1 then true else comparator (s.nat i 0x0C) (s.obj i 0x0D) (s.obj i 0x0E) k.th1 v
  let s := s.modChain c fun k =>
    { k with valid := true, settling := false, th0 := t0, th1 := t1, force0 := k.force0 - 1, force1 := k.force1 - 1
             recent := if s.isManager then [] else if s.ownChain c then (v, stamp) :: k.recent else k.recent }
  (s.thresholdChange c 0 k.th0 t0).thresholdChange c 1 k.th1 t1

/-- CHAIN_OUTPUT (R266, R269 to R282): clock edges of an input since the command before, up to the one that completes an output, at
most 400 ns ago (R275). The chain takes those of its selected input and edge; outputs are suppressed until the settling point. A
committed output goes to the partner (R565). -/
def execChainOutput (t chain input : Nat) (edges : List SdEdge) (s : State) : Host.Outcome State Fault Refusal :=
  s.live t fun s =>
    let i := 0x4040 + chain
    let k := s.chain chain
    if 24 ≤ chain ∨ s.obj i 1 = 0 ∨ s.nat i 2 ≠ input ∨ ¬ k.inRange then s
    else
      let taken := edges.filter fun e => e.rising = decide (s.obj i 3 = 0)
      let (k', outs) := Chain.feed (s.nat i 4) (s.nat i 5) (s.nat i 6) (s.nat i 7) (s.nat i 8) k taken
      if outs.any fun o => decide (400 < o.ago) then s
      else
        let s := s.modChain chain fun _ => { k' with lastEdge := match edges.getLast? with | some e => s.now - e.ago | none => k.lastEdge }
        outs.foldl (fun s o =>
          if settleCic (s.nat i 4) (s.nat i 7) ≤ o.cic then
            let stamp := (((s.mt : Int) - o.ago) % 4294967296).toNat
            (s.chainWord chain stamp o.y).commitInput (12 + chain) stamp (leBytesInt 4 (clampInt (-8388608) 8388607 o.y))
          else s) s

/-- The chain's clock is out of range: no output, valid clear (R268, R277). -/
def State.chainClockOut (s : State) (c : Nat) (present : Bool) : State :=
  let s := s.modChain c fun k => { k with inRange := false, wasOut := true, valid := false }
  ((s.setBit (0x4040 + c) 0x10 0 false).setBit (0x4040 + c) 0x10 2 present).setBit (0x4040 + c) 0x10 3 false

/-- CHAIN_CLOCK_WINDOW (R268, R276): the edges of one 100 µs window of module time, judged once. A window in which the clock was lost
is no whole window in range. -/
def execChainClockWindow (t chain edges : Nat) (s : State) : Host.Outcome State Fault Refusal :=
  s.live t fun s =>
    let i := 0x4040 + chain
    let k := s.chain chain
    if 24 ≤ chain ∨ k.window = some (s.mt / 100000) then s
    else
      let s := s.setObj i 0x1A (10 * edges : Nat)
      let s := s.modChain chain fun k => { k with lastEdges := some edges, window := some (s.mt / 100000), lost := false }
      if edges < 490 ∨ 2050 < edges ∨ k.lost then s.chainClockOut chain (decide (0 < edges))
      else
        let step : Bool := match k.lastEdges with
          | some e => decide (e < 100 * ((edges : Int) - e).natAbs)
          | none => false
        let s := s.modChain chain fun k => { k with inRange := true, wasOut := false }
        let s := (s.setBit i 0x10 2 true).setBit i 0x10 3 true
        if s.obj i 1 = 1 ∧ (k.wasOut || step) then s.chainRestart chain else s

/-- CHAIN_CLOCK_LOSS (R268, R277): the input has had no edge for 1 µs. -/
def execChainClockLoss (t chain silentNs : Nat) (s : State) : Host.Outcome State Fault Refusal :=
  s.live t fun s =>
    if 24 ≤ chain ∨ silentNs < 1000 ∨ s.now - (s.chain chain).lastEdge < 1000 then s
    else (s.modChain chain fun k => { k with lost := true }).chainClockOut chain false

/-- 2G, the group delay in half input clock periods (R274). -/
def groupDelay2 (nOrd r code : Nat) : Nat := nOrd * (r - 1) + r * ((firShape code).1 - 1)

/-- Objects of a chain that its settings and measured clock give (R273, R274, R278). -/
def State.chainView (s : State) (i sub : Nat) : Option Int :=
  let clk := 1000 * s.nat i 0x1A
  let (_, d2) := firShape (s.nat i 7)
  match sub with
  | 0x11 => some (clampInt 0 0xFFFFFFFF (if clk = 0 then 0 else (100 * clk / (s.nat i 5 * d2) : Nat)))
  | 0x12 => some (if clk = 0 then 0 else roundHalfEven ((groupDelay2 (s.nat i 4) (s.nat i 5) (s.nat i 7) : Rat) * 500000000 / clk))
  | 0x13 => some (groupDelay2 (s.nat i 4) (s.nat i 5) (s.nat i 7) : Nat)
  | 0x14 => some (settleCic (s.nat i 4) (s.nat i 7) * s.nat i 5 : Nat)
  | 0x15 => some (clampInt 0 0xFFFFFFFF (roundHalfUp ((s.nat i 5 ^ s.nat i 4 : Nat) / (2 ^ (s.nat i 6 + s.nat i 8) : Nat) : Rat)))
  | _ => none

/-! ### Settings -/

/-- Upper device number of each serial function, none where the device is not used (R793). -/
def deviceMax (function : Nat) : Option Nat :=
  match function with
  | 1 => some 3
  | 2 => some 2
  | 3 => some 2
  | 4 => some 11
  | _ => none

/-- ceil(log2 r). -/
def ceilLog2 (r : Nat) : Nat := if r ≤ 1 then 0 else Nat.log2 (r - 1) + 1

/-- Aborts of a write to the objects of this chapter beyond its range column (R252, R270, R792, R793). -/
def State.intakeWriteAbort (s : State) (i sub : Nat) (v : Val) : Option Nat :=
  match v with
  | .bytes _ => none
  | .num n =>
    let g (k : Nat) : Int := if k = sub then n else s.latest i k
    if 0x4000 ≤ i ∧ i ≤ 0x400B then
      if (sub = 1 ∨ sub = 9) ∧ g 1 = 1 ∧ 2 ≤ g 9 then some 0x06040043
      else if (sub = 5 ∨ sub = 6) ∧ g 6 < g 5 then some 0x06040043
      else if sub = 0x0B ∨ sub = 0x0C then
        match deviceMax (g 0x0B).toNat with
        | some m => if (m : Int) < g 0x0C then some 0x06040043 else none
        | none => none
      else none
    else if 0x4040 ≤ i ∧ i ≤ 0x4057 ∧ 4 ≤ sub ∧ sub ≤ 6 then
      if 38 < g 4 * (ceilLog2 (g 5).toNat : Int) - g 6 then some 0x06040043 else none
    else none

/-- What follows a write of this chapter that has taken effect at its boundary (R265, R276). -/
def State.intakeApplied (s : State) (i sub : Nat) (old new : Int) : State :=
  if 0x4000 ≤ i ∧ i ≤ 0x400B ∧ 1 ≤ sub ∧ sub ≤ 0x0A ∧ old ≠ new then
    let n := i - 0x4000
    let before := (s.rx n).level
    let s := s.modRx n fun p => { p.drop with words := [], packets := [], notices := 0 }
    (s.setBit i 0x0D 0 false).noteLevel n before
  else if 0x4040 ≤ i ∧ i ≤ 0x4057 ∧ old ≠ new then
    let c := i - 0x4040
    if sub = 1 then
      if new = 1 then s.chainRestart c
      else (s.modChain c fun k => { k with valid := false }).setBit i 0x10 0 false
    else if 2 ≤ sub ∧ sub ≤ 8 then s.chainRestart c
    else s
  else s

end Sys2Proof.Machine
end

