-- ==== Sys2Proof/Machine/Numeric.lean ====
section
/-! DEFINITION. Vectors and matrices as lists of numbers, medians, rotations, and numbers that carry their gradient, from
which the estimator's linearised measurement rows come. -/

namespace Sys2Proof.Machine

open Sys2Proof

/-! ### Vectors and matrices -/

/-- Element `i` of a vector, 0 past its end. -/
def vget (v : List Rat) (i : Nat) : Rat := v.getD i 0

/-- Element `i` of a vector set. -/
def vset (v : List Rat) (i : Nat) (a : Rat) : List Rat := modifyNth (fun _ => a) v i

/-- Sum of products. -/
def dot : List Rat → List Rat → Rat
  | a :: u, b :: v => a * b + dot u v
  | _, _ => 0

/-- Row by row sum. -/
def vadd : List Rat → List Rat → List Rat
  | a :: u, b :: v => (a + b) :: vadd u v
  | _, _ => []

/-- Difference. -/
def vsub (u v : List Rat) : List Rat := vadd u (v.map fun a => -a)

/-- Scaled vector. -/
def vscale (k : Rat) (v : List Rat) : List Rat := v.map fun a => k * a

/-- Matrix times vector. -/
def matVec (m : List (List Rat)) (v : List Rat) : List Rat := m.map fun r => dot r v

/-- Sum of rows of `m` weighted by `v`. -/
def rowSum (width : Nat) : List Rat → List (List Rat) → List Rat
  | a :: v, r :: m => vadd (vscale a r) (rowSum width v m)
  | _, _ => List.replicate width 0

/-- Matrix product. -/
def matMul (width : Nat) (a b : List (List Rat)) : List (List Rat) := a.map fun r => rowSum width r b

/-- Element of a matrix. -/
def mget (m : List (List Rat)) (i j : Nat) : Rat := vget (m.getD i []) j

/-- A matrix by its elements. -/
def matOf (n k : Nat) (f : Nat → Nat → Rat) : List (List Rat) :=
  (List.range n).map fun i => (List.range k).map fun j => f i j

/-- Transpose of a square matrix. -/
def transpose (n : Nat) (m : List (List Rat)) : List (List Rat) := matOf n n fun i j => mget m j i

/-- Sum of a list. -/
def sumRat : List Rat → Rat
  | [] => 0
  | a :: v => a + sumRat v

/-- Mean of a list, 0 for none. -/
def meanRat (v : List Rat) : Rat := if v.length = 0 then 0 else sumRat v / (v.length : Rat)

/-- Rising order. -/
def insertRat (a : Rat) : List Rat → List Rat
  | [] => [a]
  | b :: v => if a ≤ b then a :: b :: v else b :: insertRat a v

/-- A list in rising order. -/
def sortRat : List Rat → List Rat
  | [] => []
  | a :: v => insertRat a (sortRat v)

/-- One column of a Gauss–Jordan elimination. -/
def pivotColumn (m : List (List Rat)) (c : Nat) : List (List Rat) :=
  let p := m.getD c []
  let p := p.map fun a => qdiv a (vget p c)
  (List.range m.length).map fun i => if i = c then p else vadd (m.getD i []) (vscale (-(mget m i c)) p)

/-- Inverse of an n by n matrix. -/
def inverse (n : Nat) (m : List (List Rat)) : List (List Rat) :=
  let wide := matOf n (2 * n) fun i j => if j < n then mget m i j else if j = n + i then 1 else 0
  ((List.range n).foldl pivotColumn wide).map fun r => r.drop n

/-- Weighted least squares over rows (coefficients, value, variance): the solution and its covariance. -/
def leastSquares (n : Nat) (rows : List (List Rat × Rat × Rat)) : List Rat × List (List Rat) :=
  let normal := matOf n n fun i j => sumRat (rows.map fun r => qdiv (vget r.1 i * vget r.1 j) r.2.2)
  let right := (List.range n).map fun i => sumRat (rows.map fun r => qdiv (vget r.1 i * r.2.1) r.2.2)
  let cov := inverse n normal
  (matVec cov right, cov)

/-- Sum of the normalised squares of the residuals. -/
def chiSum (rows : List (List Rat × Rat × Rat)) (x : List Rat) : Rat :=
  sumRat (rows.map fun r => let e := r.2.1 - dot r.1 x; qdiv (e * e) r.2.2)

/-- Median: the middle value, or the mean of the two in the middle. -/
def medianRat (v : List Rat) : Rat :=
  let w := sortRat v
  let n := w.length
  if n % 2 = 1 then vget w (n / 2) else (vget w (n / 2 - 1) + vget w (n / 2)) / 2

/-- The larger of two numbers. -/
def maxRat (a b : Rat) : Rat := if a < b then b else a

/-- The smaller of two numbers. -/
def minRat (a b : Rat) : Rat := if b < a then b else a

/-- Stop at limits. -/
def clampRat (lo hi a : Rat) : Rat := if a < lo then lo else if hi < a then hi else a

/-- Length of a plane vector. -/
def hypot (a b : Rat) : Rat := Config.sqrt (a * a + b * b)

/-- Larger eigenvalue of a symmetric 2 by 2 matrix. -/
def bigEigen (a b d : Rat) : Rat := (a + d) / 2 + Config.sqrt ((a - d) * (a - d) / 4 + b * b)

/-- Degrees to radians. -/
def rad (deg : Rat) : Rat := deg * Config.pi / 180

/-- Radians to degrees. -/
def deg (r : Rat) : Rat := if Config.pi = 0 then Config.overZero r else r * 180 / Config.pi

/-- Wrap to above -half and up to +half of a full turn. -/
def wrapTurn (full a : Rat) : Rat :=
  let k := ((full / 2 - a) / full).floor
  a + k * full

/-- Wrap to 0 up to but excluding a full turn. -/
def wrapPos (full a : Rat) : Rat := a - (a / full).floor * full

/-! ### The matrix exponential -/

/-- Sum of matrices. -/
def matAdd (a b : List (List Rat)) : List (List Rat) := a.zipWith vadd b

/-- Scaled matrix. -/
def matScale (k : Rat) (a : List (List Rat)) : List (List Rat) := a.map (vscale k)

/-- The unit matrix. -/
def unitMat (n : Nat) : List (List Rat) := matOf n n fun i j => if i = j then 1 else 0

/-- Largest absolute row sum. -/
def matNorm (a : List (List Rat)) : Rat := (a.map fun r => sumRat (r.map fun x => if x < 0 then -x else x)).foldl maxRat 0

/-- Coefficients of the (6, 6) Padé approximant of the exponential, from the constant term up (R322). -/
def padeCoeffs : List Rat := [1, 1 / 2, 5 / 44, 1 / 66, 1 / 792, 1 / 15840, 1 / 665280]

/-- Polynomial of an n by n matrix, its coefficients from the constant term up. -/
def matPoly (n : Nat) (m : List (List Rat)) : List Rat → List (List Rat)
  | [] => matOf n n fun _ _ => 0
  | c :: cs => matAdd (matScale c (unitMat n)) (matMul n m (matPoly n m cs))

/-- Squared `k` times. -/
def matSquares (n : Nat) : Nat → List (List Rat) → List (List Rat)
  | 0, m => m
  | k + 1, m => matSquares n k (matMul n m m)

/-- exp(a dt) of an n by n matrix by the (6, 6) Padé approximant with scaling and squaring (R322). -/
def expm (n : Nat) (a : List (List Rat)) (dt : Rat) : List (List Rat) :=
  let k := Config.padeScaling (matNorm (matScale dt a))
  let m := matScale (dt / (2 ^ k : Nat)) a
  matSquares n k (matMul n (inverse n (matPoly n (matScale (-1) m) padeCoeffs)) (matPoly n m padeCoeffs))

/-! ### Numbers with their gradient -/

/-- A number and its partial derivatives by state number. -/
structure Dual where
  v : Rat
  d : Nat → Rat

/-- A constant. -/
def Dual.const (a : Rat) : Dual := ⟨a, fun _ => 0⟩

/-- State number `i` (counted from 1, as Table 9-1 does) of `x`. -/
def Dual.var (x : List Rat) (i : Nat) : Dual := ⟨vget x (i - 1), fun j => if j + 1 = i then 1 else 0⟩

/-- Sum. -/
def Dual.add (a b : Dual) : Dual := ⟨a.v + b.v, fun i => a.d i + b.d i⟩

/-- Difference. -/
def Dual.sub (a b : Dual) : Dual := ⟨a.v - b.v, fun i => a.d i - b.d i⟩

/-- Product. -/
def Dual.mul (a b : Dual) : Dual := ⟨a.v * b.v, fun i => a.d i * b.v + a.v * b.d i⟩

/-- Scaled by a constant. -/
def Dual.scale (k : Rat) (a : Dual) : Dual := ⟨k * a.v, fun i => k * a.d i⟩

/-- Sine. -/
def Dual.sin (a : Dual) : Dual := ⟨Config.sin a.v, fun i => Config.cos a.v * a.d i⟩

/-- Cosine. -/
def Dual.cos (a : Dual) : Dual := ⟨Config.cos a.v, fun i => -(Config.sin a.v * a.d i)⟩

/-- Square root. -/
def Dual.sqrt (a : Dual) : Dual := ⟨Config.sqrt a.v, fun i => qdiv (a.d i) (2 * Config.sqrt a.v)⟩

/-- Angle of a point in the plane. -/
def Dual.atan2 (y x : Dual) : Dual :=
  ⟨Config.atan2 y.v x.v, fun i => qdiv (x.v * y.d i - y.v * x.d i) (x.v * x.v + y.v * y.v)⟩

/-- Length of a point in the plane. -/
def Dual.hypot (a b : Dual) : Dual := ((a.mul a).add (b.mul b)).sqrt

/-- A triple of numbers with gradients. -/
abbrev Dual3 := Dual × Dual × Dual

/-- Sum of triples. -/
def Dual3.add (a b : Dual3) : Dual3 := (a.1.add b.1, a.2.1.add b.2.1, a.2.2.add b.2.2)

/-- Vector product. -/
def Dual3.cross (a b : Dual3) : Dual3 :=
  ((a.2.1.mul b.2.2).sub (a.2.2.mul b.2.1), (a.2.2.mul b.1).sub (a.1.mul b.2.2), (a.1.mul b.2.1).sub (a.2.1.mul b.1))

/-- Turn about the third axis. -/
def Dual3.turnZ (a : Dual) (w : Dual3) : Dual3 :=
  ((a.cos.mul w.1).sub (a.sin.mul w.2.1), (a.sin.mul w.1).add (a.cos.mul w.2.1), w.2.2)

/-- Turn about the second axis. -/
def Dual3.turnY (a : Dual) (w : Dual3) : Dual3 :=
  ((a.cos.mul w.1).add (a.sin.mul w.2.2), w.2.1, (a.cos.mul w.2.2).sub (a.sin.mul w.1))

/-- Turn about the first axis. -/
def Dual3.turnX (a : Dual) (w : Dual3) : Dual3 :=
  (w.1, (a.cos.mul w.2.1).sub (a.sin.mul w.2.2), (a.sin.mul w.2.1).add (a.cos.mul w.2.2))

/-- From body to earth axes by roll, pitch and heading (R9 to R12). -/
def Dual3.toEarth (roll pitch yaw : Dual) (w : Dual3) : Dual3 :=
  Dual3.turnZ yaw (Dual3.turnY pitch (Dual3.turnX roll w))

/-- From earth or body axes into turned axes: the inverse turns. -/
def Dual3.intoTurned (roll pitch yaw : Dual) (w : Dual3) : Dual3 :=
  let n (a : Dual) : Dual := a.scale (-1)
  Dual3.turnX (n roll) (Dual3.turnY (n pitch) (Dual3.turnZ (n yaw) w))

end Sys2Proof.Machine
end

