-- ==== Sys2Proof/Machine/Align.lean ====
section
/-! DEFINITION. Position references and time alignment (chapter 8): measurement instants, timing states of sources, the
alignment buffer, the snapshot horizon, and slot states. -/

namespace Sys2Proof.Machine

open Sys2Proof

/-! ### Sources -/

/-- A source of Table 8-1. -/
def State.src (s : State) (k : Nat) : Source := nth {} s.align.sources k

/-- A source changed. -/
def State.modSrc (s : State) (k : Nat) (f : Source → Source) : State :=
  { s with align := { s.align with sources := modifyNth f s.align.sources k } }

/-- A slot's test windows changed. -/
def State.modSlot (s : State) (n : Nat) (f : TestRun → TestRun) : State :=
  { s with align := { s.align with slots := modifyNth f s.align.slots n } }

/-- Nominal period P of a source in ns. -/
def State.periodNs (s : State) (k : Nat) : Int := s.obj (0x4120 + k) 4 * 1000000

/-- Expectation time of R296. -/
def State.expectNs (s : State) (k : Nat) : Int := max (5 * s.periodNs k) 2000000000

/-- Extend a 32-bit stamp to full module time: the instant nearest the reference (R156). -/
def extend32 (ref stamp : Int) : Int := ref + ((stamp - ref + 2147483648) % 4294967296 - 2147483648)

/-- The tracked offset at a source time. -/
def Source.dHat (q : Source) (ts : Int) : Rat := q.base + q.slope * ((ts - q.ref : Int) : Rat)

/-- Offset and skew by least squares over pairs of own time and offset, referred to the first own time. -/
def fitOffsets (pairs : List (Int × Int)) : Rat × Rat × Int :=
  let ref := match pairs.head? with | some p => p.1 | none => 0
  let xs := pairs.map fun p => ((p.1 - ref : Int) : Rat)
  let ys := pairs.map fun p => (p.2 : Rat)
  let mx := meanRat xs
  let my := meanRat ys
  let sxx := sumRat (xs.map fun a => (a - mx) * (a - mx))
  let sxy := dot (xs.map fun a => a - mx) (ys.map fun a => a - my)
  let k : Rat := if sxx = 0 then 0 else sxy / sxx
  (my - k * mx, k, ref)

/-- Median of the offsets held. -/
def offsetMedian (pairs : List (Int × Int)) : Rat := medianRat (pairs.map fun p => (p.2 : Rat))

/-- The objects of a tracked mapping follow it. -/
def State.showMapping (s : State) (k : Nat) (ts : Int) : State :=
  let q := s.src k
  s.setObjs [(0x4120 + k, 7, clampInt (-2147483648) 2147483647 (roundHalfEven (q.dHat ts / 1000))),
    (0x4120 + k, 8, clampInt (-2147483648) 2147483647 (roundHalfEven (q.slope * 1000000000)))]

/-- The mapping made by one step to the median, skew 0 (Table 8-3, R293). -/
def State.makeMapping (s : State) (k : Nat) (ts : Int) (pairs : List (Int × Int)) : State :=
  let s := s.modSrc k fun q =>
    { q with base := offsetMedian pairs, slope := 0, ref := ts, pairs := pairs, suspectFrom := none }
  (s.setObj (0x4120 + k) 6 3).showMapping k ts

/-- Instant of a sample that a mapping gives. -/
def State.mapped (s : State) (k : Nat) (ts : Int) : Int := ts + roundHalfEven ((s.src k).dHat ts)

/-- A sample of a source with own time: its instant and the timing state it leaves (R292, R293, Table 8-3). -/
def State.ownTimeSample (s : State) (k : Nat) (ta ts : Int) : Int × State :=
  let d := ta - ts
  let q := s.src k
  match s.obj (0x4120 + k) 6 with
  | 3 =>
    let hat := q.dHat ts
    if (s.periodNs k : Rat) < ratAbs ((d : Rat) - hat) ∨ (ta : Rat) < (ts : Rat) + hat then
      let s := s.modSrc k fun q => { q with pairs := [(ts, d)], suspectFrom := some s.now }
      (ta, (s.setObj (0x4120 + k) 6 4).count .data (0x4120 + k) 0x0E)
    else
      let m := s.mapped k ts
      let pairs := (q.pairs ++ [(ts, d)]).filter fun p => decide (ts - 60000000000 < p.1)
      let (b, sl, r) := fitOffsets pairs
      (m, (s.modSrc k fun q => { q with pairs := pairs, base := b, slope := sl, ref := r }).showMapping k ts)
  | 4 =>
    let pairs := (q.pairs ++ [(ts, d)]).drop ((q.pairs.length + 1) - 10)
    let med := offsetMedian pairs
    if pairs.length = 10 ∧ pairs.all (fun p => decide (ratAbs ((p.2 : Rat) - med) ≤ (s.periodNs k : Rat) / 2)) then
      let s := s.makeMapping k ts pairs
      (s.mapped k ts, s)
    else (ta, s.modSrc k fun q => { q with pairs := pairs })
  | 2 =>
    let pairs := q.pairs ++ [(ts, d)]
    if 10 ≤ pairs.length then
      let s := s.makeMapping k ts pairs
      (s.mapped k ts, s)
    else (ta, s.modSrc k fun q => { q with pairs := pairs })
  | _ => (ta, (s.modSrc k fun q => { q with pairs := [(ts, d)] }).setObj (0x4120 + k) 6 2)

/-- Samples in order of instant. -/
def insertSample (a : Sample) : List Sample → List Sample
  | [] => [a]
  | b :: rest => if b.instant ≤ a.instant then b :: insertSample a rest else a :: b :: rest

/-- A sample reaches the buffer of its source: discarded when the source is excluded or the buffer is full, late when its
instant is at or before a frozen horizon (R301, R303, R306). -/
def State.deliver (s : State) (a : Sample) : State :=
  let k := a.source
  let a := { a with sent := s.pair.inputSeq, num := s.pair.inputNum }
  let s := (s.count .data (0x4120 + k) 0x0A).modSrc k fun q => { q with lastAt := some s.now }
  let q := s.src k
  if s.obj (0x4120 + k) 6 = 5 then s
  else if 128 ≤ q.buffer.length + q.lateOnes.length then s.count .data (0x4120 + k) 0x0F
  else
    let s := s.modSrc k fun q => { q with latestInstant := some (match q.latestInstant with
      | some m => max m a.instant
      | none => a.instant) }
    if s.align.frozen ∧ a.instant ≤ s.align.snap.horizon then
      s.modSrc k fun q => { q with lateOnes := insertSample { a with late := true } q.lateOnes }
    else s.modSrc k fun q => { q with buffer := insertSample a q.buffer }

/-- A sample mapped one to one: an internal GNSS product or a track update (R288). -/
def State.deliverMapped (s : State) (n : Nat) (instant : Int) (vals : List Int) (sigma : Option Nat) : State :=
  ((if s.obj (0x4120 + n) 6 = 0 then s.setObj (0x4120 + n) 6 3 else s)).deliver
    { source := n, instant := instant, arrival := s.mt, vals := vals, sigma := sigma }

/-- UTC of day resolved against module time to the nearest instant within ±12 h, as TAI ns (R291). -/
def State.resolveOwn (s : State) (tod10ms : Nat) : Int :=
  let utc : Int := (s.mt : Int) - s.obj 0x2100 0x0F * 1000000000
  let day : Int := 86400000000000
  let ts := utc + (((tod10ms : Int) * 10000000 - utc + day / 2) % day - day / 2)
  ts + s.obj 0x2100 0x0F * 1000000000

/-- A packet as its decoder gets it: its bytes, whether it is a sentence, its two stamps extended against module time at its commit, and
that time (R289). -/
structure PacketIn where
  bytes : List Byte
  sentence : Bool
  first : Int
  last : Int
  committed : Int
  deriving DecidableEq, Repr

/-- Two decimal digits. -/
def twoDigits : List Byte → Option Nat
  | [a, b] => if 48 ≤ a.toNat ∧ a.toNat ≤ 57 ∧ 48 ≤ b.toNat ∧ b.toNat ≤ 57 then some (10 * (a.toNat - 48) + (b.toNat - 48)) else none
  | _ => none

/-- Characters up to the next comma or asterisk. -/
def sentenceField (b : List Byte) : List Byte := b.takeWhile fun c => c.toNat ≠ 44 && c.toNat ≠ 42

/-- hhmmss.ss in 10 ms; the fraction may be absent or longer (R291). -/
def utcField (f : List Byte) : Option Nat :=
  match twoDigits (f.take 2), twoDigits ((f.drop 2).take 2), twoDigits ((f.drop 4).take 2) with
  | some h, some m, some sec =>
    let part : Option Nat := match (f.drop 6).map (·.toNat) with
      | [] => some 0
      | [46] => some 0
        | [46, d] => twoDigits [BitVec.ofNat 8 d, 48]
      | 46 :: d :: e :: _ => twoDigits [BitVec.ofNat 8 d, BitVec.ofNat 8 e]
      | _ => none
    if h < 24 ∧ m < 60 ∧ sec ≤ 60 then part.map fun c => ((h * 60 + m) * 60 + sec) * 100 + c else none
  | _, _, _ => none

/-- A number of decimal digits. -/
def digits (f : List Byte) : Option Nat :=
  if f.isEmpty ∨ f.any fun c => c.toNat < 48 || 57 < c.toNat then none
  else some (f.foldl (fun n c => 10 * n + (c.toNat - 48)) 0)

/-- A decimal number with or without a fraction. -/
def decimal (f : List Byte) : Option Rat :=
  let whole := f.takeWhile fun c => c.toNat ≠ 46
  match digits whole, f.drop (whole.length + 1) with
  | some w, [] => some (w : Rat)
  | some w, part => (digits part).map fun p => (w : Rat) + (p : Rat) / (10 ^ part.length : Nat)
  | none, _ => none

/-- Degrees and minutes (ddmm.mm) with the letter of their sign, in 10^-7 degree. -/
def angleField (f sign : List Byte) (plus minus : Nat) : Option Int :=
  match decimal f, sign.map (·.toNat) with
  | some v, [c] =>
    let d : Int := (v / 100).floor
    let a := roundHalfEven (((d : Rat) + (v - 100 * (d : Rat)) / 60) * 10000000)
    if c = plus then some a else if c = minus then some (-a) else none
  | _, _ => none

/-- Fields of a sentence, the address first, up to its checksum. -/
def sentenceFields (b : List Byte) : List (List Byte) :=
  let step (acc : List (List Byte)) (c : Byte) : List (List Byte) :=
    match acc with
    | [] => []
    | f :: rest => if c.toNat = 44 then [] :: f :: rest else (f ++ [c]) :: rest
  ((b.takeWhile fun c => c.toNat ≠ 42).foldl step [[]]).reverse

/-- A TLL sentence whose status field is T: latitude, longitude (10^-7 degree) and target number (R355; log entry 19). -/
def tllTarget (b : List Byte) : Option (Int × Int × Nat) :=
  match sentenceFields b with
  | [address, number, lat, ns, lon, ew, _, _, status, _] =>
    if (address.drop 3).map (·.toNat) = [84, 76, 76] ∧ status.map (·.toNat) = [84] then
      match digits number, angleField lat ns 78 83, angleField lon ew 69 87 with
      | some n, some la, some lo => if n < 100 then some (la, lo, n) else none
      | _, _, _ => none
    else none
  | _ => none

/-- UTC of day of a sentence that carries one: the first field of GGA, GNS, GST, RMC and ZDA, after a talker of two characters (R291;
log entry 19). -/
def sentenceTime (b : List Byte) : Option Nat :=
  let kind := ((b.drop 3).take 3).map (·.toNat)
  if (b.drop 6).head? = some 44 ∧ [[71, 71, 65], [71, 78, 83], [71, 83, 84], [82, 77, 67], [90, 68, 65]].contains kind then
    utcField (sentenceField (b.drop 7))
  else none

/-- A slot enters a state; entering REJECTED or EXCLUDED raises an alarm and records an event (R311, R313). -/
def State.slotTo (s : State) (n st : Nat) : State :=
  let i := 0x4150 + n
  if s.nat i 1 = st then s
  else
    let was := s.nat i 1
    let s := s.setObj i 1 st
    let s := if st = 3 then s.count .control i 7 else s
    let s := if st = 3 ∨ st = 5 then (s.alarm .control i 1 1).event .control i 1 3 [BitVec.ofNat 8 st]
      else if was = 3 ∨ was = 5 then s.unalarm .control i 1 1 else s
    if st = 2 then s.modSlot n fun r => { r with joining := r.joining || decide (was = 1), acceptedAt := s.align.snap.t0 } else s

/-- A source that has been time-suspect for 30 s is excluded: its samples go, a slot that uses it goes to EXCLUDED (R294, R306). -/
def State.excludeDue (s : State) (source : Nat) : State :=
  if 22 ≤ source ∨ s.obj (0x4120 + source) 6 ≠ 4 then s
  else match (s.src source).suspectFrom with
    | none => s
    | some f =>
      if s.now < f + 30000000000 then s
      else
        let i := 0x4120 + source
        let s := s.setObj i 6 5
        let s := (s.alarm .data i 6 1).event .data i 6 3
        let s := s.modSrc source fun q => { q with buffer := [], lateOnes := [], suspectFrom := none, pairs := [] }
        if source < 12 ∧ s.obj (0x4100 + source) 1 ≠ 0 then s.slotTo source 5 else s

/-- A decoded sample of a serial source (R289 to R292). -/
def State.serialSample (s : State) (k : Nat) (p : PacketIn) (d : Decoded) : State :=
  let i := 0x4120 + k
  let s := s.excludeDue k
  let ta := (if s.obj i 1 = 0 then p.first else p.last) - s.obj i 2 * 1000
  if s.obj i 6 = 5 then s.count .data i 0x0A
  else
    let (m, s) :=
      if s.obj i 3 = 0 then (ta, if s.obj i 6 = 0 then s.setObj i 6 1 else s)
      else match (if p.sentence then sentenceTime p.bytes else none) with
        | some tod => s.ownTimeSample k ta (s.resolveOwn tod)
        | none => (ta, s.count .data i 0x10)
    s.deliver { source := k, instant := m, arrival := p.committed, vals := d.vals, sigma := d.sigma }

/-- The choice between the two twins' copies of a serial source (R565): whether this copy is taken. -/
def State.takesCopy (s : State) (k port : Nat) (ownCopy : Bool) : Bool × State :=
  match s.obj 0x8050 (port + 1) with
  | 1 => (ownCopy = decide (s.ident.twin = .a), s)
  | 2 => (ownCopy = decide (s.ident.twin = .b), s)
  | _ =>
    let q := s.src k
    if ownCopy = s.ownIsActive then
      let run := q.copyRun + 1
      if q.standIn ∧ run < 10 then (false, s.modSrc k fun q => { q with copyLast := some s.now, copyRun := run })
      else
        (!q.standIn, s.modSrc k fun q => { q with copyLast := some s.now, standIn := false, copyRun := 0 })
    else
      let silent : Bool := match q.copyLast with
        | some l => decide (s.expectNs k < (s.now : Int) - l)
        | none => true
      if q.standIn ∨ silent then (true, s.modSrc k fun q => { q with standIn := true }) else (false, s)

/-! ### Consuming packets -/

/-- Bytes of a packet's queue words (Table 7-3). -/
def packetBytes (words : List Nat) : List Byte :=
  ((words.drop 3).flatMap fun w => leBytes 4 w).take (words.headD 0 % 4096)

/-- Length of a check value (Table 7-2). -/
def checkLength (code : Nat) : Nat :=
  match code with
  | 1 => 1
  | 2 => 2
  | 3 => 4
  | _ => 0

/-- The target input that names a port, when one does (R354). -/
def State.targetInput (s : State) (port : Nat) : Option Nat :=
  (List.range 4).find? fun i => decide (s.obj (0x4301 + i) 1 ≠ 0) && decide (s.nat (0x4301 + i) 2 = port)

/-- Entries of a reflector scan (Table 10-1). -/
def scanEntries : Nat → List Byte → List (Int × Int × Nat)
  | 0, _ => []
  | n + 1, b =>
    ((leNat (b.take 4) : Int), (leNat ((b.drop 4).take 2) : Int), leNat ((b.drop 6).take 1)) :: scanEntries n (b.drop 8)

/-- A packet of a target input joins the target packets of the next snapshot, or is discarded and counted (R355 to R358). -/
def State.targetPacket (s : State) (i port : Nat) (q : PacketIn) : State :=
  let o := 0x4301 + i
  let p := 0x4000 + port
  let bad (s : State) : State := s.count .data o 0x0D
  let instant := q.last - s.obj o 3 * 1000
  let add (s : State) (es : List (Int × Int × Nat)) : State :=
    { s with align := { s.align with
      targets := s.align.targets ++ [{ input := i, instant := instant, arrival := q.committed, sent := s.pair.inputSeq
                                       num := s.pair.inputNum, entries := es }] } }
  match s.obj o 1 with
  | 1 =>
    let b := q.bytes
    let payload := (b.drop (s.nat p 7 + 1)).take (b.length - (s.nat p 7 + 1) - checkLength (s.nat p 9))
    match (if q.sentence ∨ s.obj p 1 ≠ 3 then [] else payload) with
    | [] => bad s
    | k :: rest =>
      let es := scanEntries k.toNat rest
      if 32 < k.toNat ∨ rest.length ≠ k.toNat * 8 ∨ es.any (fun e => decide (35999 < e.2.1)) then bad s
      else
        let inRange (e : Int × Int × Nat) : Bool := decide (s.obj o 6 ≤ e.1) && decide (e.1 ≤ s.obj o 7)
        add (s.countBy .data o 0x0D (es.filter fun e => !inRange e).length) (es.filter inRange)
  | 2 =>
    match (if q.sentence then tllTarget q.bytes else none) with
    | some e => add s [e]
    | none => bad s
  | _ => s

/-- The aligned source that a port's packets belong to, by its function and device (Table 8-1). -/
def State.portSource (s : State) (port : Nat) : Option Nat :=
  let dev := s.nat (0x4000 + port) 0x0C
  match s.obj (0x4000 + port) 0x0B with
  | 1 => some (0x0C + dev)
  | 2 => some (0x10 + dev)
  | 3 => some (0x13 + dev)
  | 4 =>
    if 2 ≤ s.obj (0x4100 + dev) 1 ∧ s.obj (0x4100 + dev) 1 ≤ 4 ∧ s.nat (0x4100 + dev) 2 = port then some dev else none
  | _ => none

/-- A committed packet, of this twin or of its partner, passes to its decoder (R289, R355, R565). -/
def State.decodePacket (s : State) (port : Nat) (q : PacketIn) (ownCopy : Bool) (d : Option Decoded) : State :=
  match s.targetInput port with
  | some i => s.targetPacket i port q
  | none =>
    match s.portSource port with
    | none => s
    | some k =>
      let (take, s) := s.takesCopy k port ownCopy
      if ¬ take then s
      else match d with
        | some d => s.serialSample k q d
        | none => s

/-- A packet of queue words with module time at its commit and the steps since its stamps were taken (Table 7-3, R289). -/
def packetIn (words : List Nat) (m : PacketMark) : PacketIn :=
  { bytes := packetBytes words, sentence := decide (words.headD 0 / 16777216 = 0xA5)
    first := extend32 m.at' (words.getD 1 0) + m.firstStep, last := extend32 m.at' (words.getD 2 0) + m.lastStep
    committed := m.at' + m.lastStep }

/-- The INPUT message that carried the packet being consumed, `after` unread packets before the end of the pool (R565). -/
def State.markInput (s : State) (port after : Nat) : State :=
  let mine := (s.pair.pool.filter fun (p : PoolInput) => p.own ∧ p.source = port).reverse
  let one := (mine.drop after).head?
  { s with pair := { s.pair with inputSeq := (one.map (·.sentAs)).getD 0, inputNum := (one.map (·.seqNo)).getD 0 } }

/-- No input is being decoded. -/
def State.unmarkInput (s : State) : State := { s with pair := { s.pair with inputSeq := 0, inputNum := 0 } }

/-- PACKET_CONSUME (R263, R289 to R293): the consumer reads the oldest committed packet. -/
def execPacketConsume (t port : Nat) (d : Option Decoded) (s : State) : Host.Outcome State Fault Refusal :=
  s.ported t fun s =>
    if 12 ≤ port ∨ s.now < (s.rx port).heldUntil then s
    else match s.takePacket port with
      | none => s
      | some (words, mark, s) =>
        let head := words.headD 0
        if head.testBit 16 ∨ head.testBit 18 ∨ s.obj (0x4000 + port) 0x0B = 0 then
          s.count .data (0x4000 + port) 0x15
        else if s.obj (0x4000 + port) 0x0B = 6 then
          s.offer (s.mkRec 5 0 (0x4000 + port) .data (words.flatMap (leBytes 4) ++ [BitVec.ofNat 8 port]))
        else ((s.markInput port (s.rx port).packets.length).decodePacket port (packetIn words mark) true d).unmarkInput

/-- The twin whose products a slot of type 01h takes (R287). -/
def State.slotTwin (s : State) (n : Nat) : Twin :=
  match s.nat (0x4100 + n) 2 / 4 % 4 with
  | 1 => Twin.a
  | 2 => Twin.b
  | _ => s.activeTwin

/-- A solution of twin `tw` reaches slot `n` when the slot is of type 01h and names it (R241, R285, R288). -/
def State.productSlot (tw : Twin) (which : Nat) (r : SolResult) (s : State) (n : Nat) : State :=
  if s.obj (0x4100 + n) 1 = 1 ∧ s.nat (0x4100 + n) 2 % 4 = which ∧ s.slotTwin n = tw then
    s.deliverMapped n r.instant [r.lat, r.lon] (some r.hStd)
  else s

/-- A solution reaches every slot that names it. -/
def State.productSample (s : State) (tw : Twin) (which : Nat) (r : SolResult) (fix : Nat) : State :=
  if fix = 0 then s else (List.range 12).foldl (State.productSlot tw which r) s

/-! ### Timing states -/

/-- SOURCE_EXCLUSION (R294, R306): time-suspect for 30 s. -/
def execSourceExclusion (t source : Nat) (s : State) : Host.Outcome State Fault Refusal :=
  s.live t fun s => s.excludeDue source

/-- Re-admission of an excluded source at its boundary (R294, Table 8-5). -/
def State.readmit (s : State) (k : Nat) : State :=
  if s.obj (0x4120 + k) 6 ≠ 5 then s
  else
    let s := (s.setObj (0x4120 + k) 6 0).unalarm .data (0x4120 + k) 6 1
    let s := s.modSrc k fun q => { q with pairs := [], base := 0, slope := 0, lastAt := none }
    if k < 12 ∧ s.obj (0x4150 + k) 1 = 5 then s.slotTo k 1 else s

/-! ### The snapshot -/

/-- Whether a slot makes its source expected: OFF, DESELECTED and EXCLUDED do not (R296). -/
def State.slotLive (s : State) (n : Nat) : Bool :=
  decide (s.obj (0x4150 + n) 1 = 1) || decide (s.obj (0x4150 + n) 1 = 2) || decide (s.obj (0x4150 + n) 1 = 3)

/-- Whether a source is expected (R296). -/
def State.expected (s : State) (k : Nat) : Bool :=
  (match (s.src k).lastAt with
    | some l => decide ((s.now : Int) - l ≤ s.expectNs k)
    | none => false)
  && decide (s.obj (0x4120 + k) 6 ≠ 5) && (if k < 12 then s.slotLive k else true)

/-- The instant up to which an expected source is complete: its latest buffered instant, plus P, less J (R297). -/
def State.completeTo (s : State) (k : Nat) : Option Int :=
  match s.expected k, (s.src k).latestInstant with
  | true, some m => some (m + s.periodNs k - s.obj (0x4120 + k) 5 * 1000000)
  | _, _ => none

/-- The expected source with the lowest completeness, ties to the lowest number. -/
def State.slowest (s : State) : Option (Nat × Int) :=
  (List.range 22).foldl (fun best k =>
    match s.completeTo k, best with
    | some c, none => some (k, c)
    | some c, some (j, b) => if c < b then some (k, c) else some (j, b)
    | none, b => b) none

/-- The horizon of T0 and what set it (R297). -/
def State.horizonAt (s : State) (t0 : Int) : Int × Nat :=
  let floor := t0 - s.obj 0x4140 1 * 1000000
  let prev := if s.align.frozen then s.align.snap.horizon else floor
  match s.slowest with
  | none => (t0, 0xFF)
  | some (k, raw) =>
    let th := min t0 (max raw (max floor prev))
    (th, if th = t0 then 0xFF
      else if th = prev ∧ raw < prev ∧ floor < prev then 0xFE
      else if th = floor ∧ raw < floor then 0x80 + k
      else k)

/-- Snapshot order: instant, then source number (R299). -/
def sampleBefore (a b : Sample) : Bool :=
  decide (a.instant < b.instant) || (decide (a.instant = b.instant) && decide (a.source ≤ b.source))

/-- Insert in snapshot order. -/
def insertBySource (a : Sample) : List Sample → List Sample
  | [] => [a]
  | b :: rest => if sampleBefore b a then b :: insertBySource a rest else a :: b :: rest

/-- Whether the set may include a sample: the partner, where there is one, has acknowledged its INPUT message (R566). -/
def State.mayInclude (s : State) (a : Sample) : Bool :=
  decide (a.sent = 0) || decide (s.role ≠ .active)
    || !(decide (s.pair.partnerRole = some .standby) || decide (s.pair.partnerRole = some .slipway))
    || decide ((s.pair.ackedByPartner + 4294967296 - a.sent) % 4294967296 < 2147483648)

/-- One source's part in the freeze: waited out, samples taken, late samples carried or discarded (R298, R299, R303, R304). -/
def State.freezeSource (inc : Sample → Bool) (t0 th : Int) (limited : Bool) (s : State) (k : Nat) : List Sample × State :=
  let s := match s.completeTo k with
    | some c => if limited ∧ c < th then s.count .data (0x4120 + k) 0x0D else s
    | none => s
  let q := s.src k
  let take := q.buffer.filter fun a => decide (a.instant ≤ th) && inc a
  let held := q.buffer.filter fun a => decide (a.instant ≤ th) && !inc a
  let due := q.lateOnes.filter inc
  let late := due.filter fun a => decide (t0 - a.instant ≤ 2000000000)
  let s := s.countBy .data (0x4120 + k) 0x0C (due.length - late.length)
  (take ++ late, s.modSrc k fun q => { q with
    buffer := q.buffer.filter fun a => decide (th < a.instant)
    lateOnes := (held.map fun (a : Sample) => { a with late := true }) ++ q.lateOnes.filter fun a => !inc a })

/-- Whether the set of T0 takes a sample: committed before the cycle of T0's freeze, and within the cut of the SET received, or as the active twin's own rule
has it (R300, R566 to R568). -/
def State.inSet (s : State) (t0 : Int) (cut : Option SetCut) (a : Sample) : Bool :=
  decide (a.arrival < t0) && (match cut with
    | some c => decide (a.num = 0) || decide (a.num ≤ ((c.inputs.find? fun q => decide (q.1 = a.source)).map (·.2)).getD 0)
    | none => s.mayInclude a)

/-- Name of a product's stream in a cut: its twin and kind (R567). -/
def State.productSource (s : State) (p : Product) : Nat :=
  64 + (if p.own = decide (s.ident.twin = .b) then 8 else 0) + p.which

/-- Whether the set of T0 takes a GNSS product (R240, R566 to R568). -/
def State.takesProduct (s : State) (t0 : Int) (cut : Option SetCut) (p : Product) : Bool :=
  decide (p.arrival < t0) && (match cut with
    | some c => decide (p.num ≤ ((c.inputs.find? fun q => decide (q.1 = s.productSource p)).map (·.2)).getD 0)
    | none => s.mayInclude { source := 0, instant := p.instant, arrival := p.arrival, vals := [], sigma := none, sent := p.sent })

/-- Whether the set of T0 takes a target packet (R358, R566 to R568). -/
def State.takesTarget (s : State) (t0 : Int) (cut : Option SetCut) (p : TargetPacket) : Bool :=
  s.inSet t0 cut { source := 24 + p.input, instant := p.instant, arrival := p.arrival, vals := [], sigma := none, sent := p.sent, num := p.num }

/-- The last product of a kind that the snapshot holds, of this twin or its partner. -/
def State.snapProduct (s : State) (own : Bool) (which : Nat) : Option Product :=
  (s.align.snap.products.filter fun p => decide (p.own = own ∧ p.which = which)).getLast?

/-- The snapshot of T0 (R297 to R302), with the horizon of a SET received (R567). -/
def State.freeze (s : State) (t0 : Int) (cut : Option SetCut) : State :=
  let inc := s.inSet t0 cut
  let sources := List.range 22
  let expected := sources.map s.expected
  let suspect := sources.map fun k => decide (s.obj (0x4120 + k) 6 = 4)
  let (own, what) := s.horizonAt t0
  let th := (cut.map fun (c : SetCut) => c.horizon).getD own
  let limited := decide (0x80 ≤ what) && decide (what < 0xA0)
  let (samples, s) := (List.range 22).foldl (fun (acc : List Sample × State) k =>
    let (new, s) := State.freezeSource inc t0 th limited acc.2 k
    (acc.1 ++ new, s)) ([], s)
  let att := s.align.attitude.filter fun a => decide (a.instant ≤ th) && inc a
  let ordered := (samples ++ att).foldr insertBySource []
  let s := if limited then s.count .data 0x4140 4 else s
  let s := s.setObjs [(0x4140, 2, ((t0 - th) / 1000)), (0x4140, 3, (what : Nat))]
  { s with align := { s.align with
    snap := { tracks := s.trk.table, expected := expected, suspect := suspect, products := s.gsol.products.filter (s.takesProduct t0 cut), t0 := t0, horizon := th, samples := ordered
              targets := s.align.snap.targets ++ s.align.targets.filter (s.takesTarget t0 cut) }
    targets := s.align.targets.filter fun p => !s.takesTarget t0 cut p
    frozen := true
    attitude := s.align.attitude.filter fun a => decide (th < a.instant) || !inc a } }

/-! ### Settings -/

/-- The port rules between reference slots and target inputs (R286, R354, R788). -/
def State.alignWriteAbort (s : State) (i sub : Nat) (v : Val) : Option Nat :=
  match v with
  | .bytes _ => none
  | .num n =>
    if 0x4100 ≤ i ∧ i ≤ 0x410B ∧ sub ≤ 2 then
      let ty := if sub = 1 then n else s.latest i 1
      let so := (if sub = 2 then n else s.latest i 2).toNat
      let valid : Bool := match ty with
        | 0 => true
        | 1 => decide (so / 4 % 4 ≤ 2) && decide (so < 16)
        | 5 => decide (so ≤ 63)
        | _ => decide (so ≤ 11)
      if ¬ valid then some 0x06040043
      else if 2 ≤ ty ∧ ty ≤ 4 ∧ (s.latest (0x4000 + so) 0x0B ≠ 4 ∨ s.latest (0x4000 + so) 0x0C ≠ (i : Int) - 0x4100) then
        some 0x06040043
      else none
    else if 0x4120 ≤ i ∧ i ≤ 0x4135 ∧ (sub = 4 ∨ sub = 5) then
      let g (k : Nat) : Int := if k = sub then n else s.latest i k
      if g 4 ≤ g 5 then some 0x06040043 else none
    else if 0x4301 ≤ i ∧ i ≤ 0x4304 then
      let g (k : Nat) : Int := if k = sub then n else s.latest i k
      if (sub = 6 ∨ sub = 7) ∧ g 7 ≤ g 6 then some 0x06040043
      else if (sub = 1 ∨ sub = 2) ∧ g 1 ≠ 0 then
        let named := (List.range 12).any fun m =>
          decide (2 ≤ s.latest (0x4100 + m) 1) && decide (s.latest (0x4100 + m) 1 ≤ 4)
            && decide (s.latest (0x4100 + m) 2 = g 2)
        if s.latest (0x4000 + (g 2).toNat) 0x0B ≠ 4 ∨ named then some 0x06040043 else none
      else none
    else none

/-- What follows a write of this chapter at its boundary (Table 8-3, R294, R311, R312). -/
def State.alignApplied (s : State) (i sub : Nat) (old new : Int) : State :=
  if 0x4100 ≤ i ∧ i ≤ 0x410B then
    let n := i - 0x4100
    let restart (s : State) : State :=
      ((s.modSlot n fun r => { joining := r.joining, sigma := none }).modSrc n fun q => { q with buffer := [], lateOnes := [] })
    if sub = 3 then
      if new = 0 ∧ s.obj (0x4150 + n) 1 ≠ 0 ∧ s.obj (0x4150 + n) 1 ≠ 5 then s.slotTo n 4
      else if new = 1 ∧ s.obj (0x4150 + n) 1 = 4 then s.slotTo n 1 else s
    else if old = new then s
    else
      let s := restart s
      let s := if sub = 1 ∨ sub = 2 then s.setObj (0x4120 + n) 6 0 else s
      if s.obj i 1 = 0 then s.slotTo n 0
      else if s.obj i 3 = 0 then s.slotTo n 4
      else s.slotTo n 1
  else if 0x4120 ≤ i ∧ i ≤ 0x4135 then
    let k := i - 0x4120
    if sub = 9 then (if new = 1 then (s.setObj i 9 0).readmit k else s)
    else if 1 ≤ sub ∧ sub ≤ 5 ∧ old ≠ new ∧ s.obj i 6 ≠ 5 then
      (s.modSrc k fun q => { q with pairs := [], base := 0, slope := 0, suspectFrom := none }).setObjs
        [(i, 6, 0), (i, 7, 0), (i, 8, 0)]
    else s
  else s

end Sys2Proof.Machine
end

