-- ==== Sys2Proof/Machine/Signature.lean ====
section
/-! DEFINITION. ECDSA over P-256 with SHA-256, as signed images carry it (Table 23-2, R774). -/

namespace Sys2Proof.Machine

open Sys2Proof

/-- Prime of the field, order of the group, coefficient b of the curve. -/
def p256P : Nat := 0xffffffff00000001000000000000000000000000ffffffffffffffffffffffff
def p256N : Nat := 0xffffffff00000000ffffffffffffffffbce6faada7179e84f3b9cac2fc632551
def p256B : Nat := 0x5ac635d8aa3a93e7b3ebbd55769886bc651d06b0cc53b0f63bce3c3e27d2604b

/-- The base point. -/
def p256G : Nat × Nat :=
  (0x6b17d1f2e12c4247f8bce6e563a440f277037d812deb33a0f4a13945d898c296,
   0x4fe342e2fe1a7f9b8ee7eb4a7c0f9e162bce33576b315ececbb6406837bf51f5)

/-- A power modulo `m`, over the `n` low bits of the exponent. -/
def powMod (m : Nat) : Nat → Nat → Nat → Nat
  | 0, _, _ => 1
  | n + 1, b, e =>
    let r := powMod m n (b * b % m) (e / 2)
    if e % 2 = 1 then b * r % m else r

/-- Inverse modulo a prime. -/
def invMod (m a : Nat) : Nat := powMod m 256 (a % m) (m - 2)

/-- Sum of two points; none is the point at infinity. -/
def p256Add : Option (Nat × Nat) → Option (Nat × Nat) → Option (Nat × Nat)
  | none, q => q
  | p, none => p
  | some (x1, y1), some (x2, y2) =>
    let m := p256P
    let third (l : Nat) : Option (Nat × Nat) :=
      let x := (l * l + 2 * m - x1 - x2) % m
      some (x, (l * (x1 + m - x) + m - y1) % m)
    if x1 ≠ x2 then third ((y2 + m - y1) * invMod m (x2 + m - x1) % m)
    else if (y1 + y2) % m = 0 then none
    else third ((3 * x1 * x1 + m - 3) * invMod m (2 * y1) % m)

/-- A multiple of a point, over the `n` low bits of the factor. -/
def p256Mul : Nat → Nat → Option (Nat × Nat) → Option (Nat × Nat)
  | 0, _, _ => none
  | n + 1, k, p =>
    let r := p256Mul n (k / 2) (p256Add p p)
    if k % 2 = 1 then p256Add p r else r

/-- Whether a point lies on the curve. -/
def p256On (q : Nat × Nat) : Bool :=
  decide (q.1 < p256P) && decide (q.2 < p256P)
    && decide (q.2 * q.2 % p256P = (q.1 * q.1 * q.1 + (p256P - 3) * q.1 + p256B) % p256P)

/-- Verification of a 64-byte signature of a message against a key of 64 bytes, both most significant byte first. -/
def ecdsaOk (key msg sig : List Byte) : Bool :=
  let q := (leNat (key.take 32).reverse, leNat (key.drop 32).reverse)
  let r := leNat (sig.take 32).reverse
  let s := leNat (sig.drop 32).reverse
  let e := leNat (sha256 msg).reverse
  if ¬ p256On q ∨ r = 0 ∨ p256N ≤ r ∨ s = 0 ∨ p256N ≤ s then false
  else
    let w := invMod p256N s
    match p256Add (p256Mul 256 (e * w % p256N) (some p256G)) (p256Mul 256 (r * w % p256N) (some q)) with
    | none => false
    | some (x, _) => decide (x % p256N = r)

end Sys2Proof.Machine
end

