-- ==== Sys2Proof/Machine/Image.lean ====
section
/-! DEFINITION. The live configuration as a whole: which objects a configuration image holds, the defaults that depend on the
straps, loading an image, and building one (R95, R679 to R682). -/

namespace Sys2Proof.Machine

open Sys2Proof

/-- Objects that only carry a command, or the command block, or a self-clearing selector: never stored (R679). -/
def commandObject (i sub : Nat) : Bool :=
  decide (i = 0x5010) || decide (i = 0x1010) || decide (i = 0x1011) || [(0x5038, 2), (0x6048, 2), (0x7000, 4),
    (0x8000, 6), (0x8030, 3), (0x9001, 2), (0x9001, 3), (0x9002, 1), (0x9002, 2), (0x9200, 4), (0x9200, 8)].contains (i, sub)
    || (decide (0x9210 ≤ i) && decide (i < 0x9230) && decide (sub = 1))

/-- Whether a configuration image holds object `i:sub`: access pair-wide, guarded or rw, no command object, not the command
block, not rw-mapped (R679). -/
def storable (i sub : Nat) : Bool :=
  match odRow i sub with
  | none => false
  | some r =>
    let command := match r.rng with
      | .cmd _ => true
      | _ => false
    (match r.acc with
      | .pairWide | .guarded | .rw => true
      | _ => false) && !command && !commandObject i sub

/-- Whether a key of the live configuration belongs to a part: 1 everything, 2 1000h to 1FFFh, 3 2000h to AFFFh (R680). -/
def inPart (part k : Nat) : Bool :=
  decide (part = 1) || (decide (part = 2) && decide (k / 256 < 0x2000)) || (decide (part = 3) && decide (0x2000 ≤ k / 256))

/-- Defaults that the straps decide, with the node ID of CAN0 in force (1E00h:01, 1400h:01, 1800h:01 and the objects whose
default differs by role). -/
def identityDefaults (d : Duty) (tw : Twin) (node n0 : Nat) : List (Nat × Int) :=
  let t : Nat := if tw = .b then 1 else 0
  let id : Int := match d with
    | .manager => 1 + t
    | .worker => 3 + 2 * node + t
  let cob (base : Nat) : List (Nat × Int) := (List.range 4).map fun p =>
    (okey (base + p) 1, (0x80000000 + (if base = 0x1400 then 0x200 else 0x180) + 0x100 * p + n0 : Nat))
  let worker : List (Nat × Int) := if d = .manager then [] else
    [(okey 0x2110 1, 2), (okey 0x2111 1, 2), (okey 0x2120 1, 0), (okey 0x2121 1, 0), (okey 0x3000 1, 0), (okey 0x3001 1, 0),
     (okey 0x3002 1, 0), (okey 0x3328 9, 0), (okey 0x8030 2, 60 * ((node : Int) + 1)), (okey 0xA000 2, 200), (okey 0xA001 2, 200)]
  [(okey 0x1E00 1, id), (okey 0x1E01 1, id)] ++ cob 0x1400 ++ cob 0x1800 ++ worker

/-- The node ID of CAN0 an image gives, or the strapped one. -/
def Image.node0 (g : Image) (s : State) : Nat :=
  let t : Nat := if s.ident.twin = .b then 1 else 0
  let dflt : Int := if s.isManager then 1 + t else 3 + 2 * s.ident.node + t
  (assocGet dflt g.nums (okey 0x1E00 1)).toNat

/-- Entries put into a store over their table defaults. -/
def putKeys (m : Store) (l : List (Nat × Int)) : Store :=
  l.foldl (fun (m : Store) e => assocSet (keyDefault e.1) m e.1 e.2) m

/-- The live configuration replaced by an image over factory defaults (R95). -/
def State.loadImage (s : State) (g : Image) : State :=
  let keep (k : Nat) : Bool := !storable (k / 256) (k % 256)
  let od := s.od.filter fun e => keep e.1
  let od := putKeys od (identityDefaults s.ident.duty s.ident.twin s.ident.node (g.node0 s))
  let od := putKeys od g.nums
  let blobs := g.blobs.foldl (fun (m : Blobs) e => assocSet [] m e.1 e.2) (s.blobs.filter fun e => keep e.1)
  { s with od := od, blobs := blobs }

/-- The image with nothing stored. -/
def emptyImage : Image := { nums := [], blobs := [], valid := true }

/-- The image that start-up uses: the current one, the previous one, or factory defaults (R95). -/
def State.imageInUse (s : State) : Image :=
  match s.mram.current, s.mram.previous with
  | some g, p => if g.valid then g else match p with
    | some h => if h.valid then h else emptyImage
    | none => emptyImage
  | none, some h => if h.valid then h else emptyImage
  | none, none => emptyImage

/-- What engines hold of settings that they change only at an instant of their own takes the configuration as it is loaded: pulse
widths and compensations, measurement rate, set-point origin. -/
def State.settle (s : State) : State :=
  { s with
    clock := { s.clock with ppsForce := [(s.nat 0x2120 3, s.obj 0x2120 4), (s.nat 0x2121 3, s.obj 0x2121 4)], ppsPending := [] }
    gsol := { s.gsol with rate := s.nat 0x3300 1, ratePending := none }
    ctl := { s.ctl with origin := (s.obj 0x5010 0x0F, s.obj 0x5010 0x10) } }

/-- A twin that starts afresh runs with the configuration it last stored (chapter 15, after Table 15-5; R95). -/
def State.reloadConfig (s : State) : State := (s.loadImage s.imageInUse).settle

/-- A new image: the named part from the live configuration, or at factory defaults, and the rest from the image in use
(R680, R681). -/
def State.buildImage (s : State) (part : Nat) (factory : Bool) : Image :=
  let old := s.imageInUse
  let live (k : Nat) : Bool := inPart part k && storable (k / 256) (k % 256)
  let fixed := (identityDefaults s.ident.duty s.ident.twin s.ident.node (s.nat 0x1E00 1)).map (·.1)
  let nums := if factory then [] else
    (s.od.filter fun e => live e.1) ++ (fixed.filter live).map fun k => (k, s.objK k)
  let rest := old.nums.filter fun e => !inPart part e.1
  let blobs := if factory then [] else s.blobs.filter fun e => live e.1
  let restB := old.blobs.filter fun e => !inPart part e.1
  { nums := (nums ++ rest).foldl (fun (m : Store) e => assocInsert m e.1 e.2) []
    blobs := (blobs ++ restB).foldl (fun (m : Blobs) e => assocInsert m e.1 e.2) []
    valid := true }

end Sys2Proof.Machine
end

