-- ==== Sys2Proof/Machine/Signals.lean ====
section
/-! DEFINITION. The signals of Table 5-3, the samples of an IF port, and the replicas and phase accumulators of a tracking channel
(R161 to R164, R168, R173, R192, R193, R196 to R198). -/

namespace Sys2Proof.Machine

open Sys2Proof

/-! ### Signals (Table 5-3) -/

/-- QZSS signals 10h to 13h are as 00h to 03h. -/
def baseSignal (n : Nat) : Nat := if 0x10 ≤ n ∧ n ≤ 0x13 then n - 0x10 else n

/-- Carrier in Hz, with the GLONASS frequency number. -/
def carrierHz (n : Nat) (k : Int) : Int :=
  match baseSignal n with
  | 0 | 1 | 4 | 9 | 0xE => 1575420000
  | 2 => 1227600000
  | 3 | 5 | 0xA | 0xF => 1176450000
  | 6 => 1207140000
  | 7 => 1278750000
  | 8 => 1561098000
  | 0xB => 1268520000
  | 0xC => 1602000000 + 562500 * k
  | 0xD => 1246000000 + 437500 * k
  | _ => 0

/-- Half-width in Hz. -/
def halfWidthHz (n : Nat) : Int :=
  match baseSignal n with
  | 0 | 2 | 0xE => 1023000
  | 1 | 4 | 8 | 9 => 2046000
  | 7 => 5115000
  | 0xC | 0xD => 511000
  | _ => 10230000

/-- Chip rate in Hz. -/
def chipRateHz (n : Nat) : Int :=
  match baseSignal n with
  | 0 | 1 | 2 | 4 | 9 | 0xE => 1023000
  | 8 => 2046000
  | 7 => 5115000
  | 0xC | 0xD => 511000
  | _ => 10230000

/-- Satellite system of a signal, as 31xxh:03 codes it. -/
def signalSystem (n : Nat) : Nat :=
  if 0x10 ≤ n then 5 else if n ≤ 3 then 0 else if n ≤ 7 then 1 else if n ≤ 0xB then 2 else if n ≤ 0xD then 3 else 4

/-- Satellite numbers of a system (Table 5-12). -/
def systemNumbers (system : Nat) : List Nat :=
  match system with
  | 0 => List.range' 1 32 | 1 => List.range' 1 36 | 2 => List.range' 1 63 | 3 => List.range' 1 24
  | 4 => List.range' 120 39 | 5 => List.range' 193 10 | _ => []

/-- Whether a satellite is one of a signal's system, with a frequency number from -7 to +6 on GLONASS and 0 elsewhere (Table 5-3,
Table 5-12). -/
def SatId.fits (x : SatId) (sig : Nat) : Bool :=
  decide (sig ≤ 0x13) && decide (x.system = signalSystem sig) && (systemNumbers x.system).contains x.number &&
    (if x.system = 3 then decide (-7 ≤ x.freqK) && decide (x.freqK ≤ 6) else decide (x.freqK = 0))

/-- Replicas that are BOC(1,1). -/
def isBoc (n : Nat) : Bool := match baseSignal n with | 1 | 4 | 9 => true | _ => false

/-- Data-only signals: those tracked on their data component. -/
def isDataOnly (n : Nat) : Bool := match baseSignal n with | 0 | 8 | 0xB | 0xC | 0xD | 0xE => true | _ => false

/-- Signals marked "Aided only". -/
def isAidedOnly (n : Nat) : Bool := decide (baseSignal n = 2)

/-- Coherent blocks allowed, in ms. -/
def coherentAllowed (n : Nat) : List Nat :=
  match baseSignal n with
  | 0 | 0xC | 0xD => [1, 2, 3, 4, 5, 6, 7, 8, 9, 10]
  | 1 | 9 => [10]
  | 2 => []
  | 4 => [4]
  | 0xE => [1, 2]
  | _ => [1]

/-- Integration times allowed, in ms. -/
def integrationAllowed (n : Nat) : List Nat :=
  match baseSignal n with
  | 0 | 8 | 0xB => [1, 2, 4, 5, 10, 20]
  | 1 | 9 => [10, 20]
  | 2 => [20]
  | 4 => [4, 8, 12, 16, 20]
  | 0xC | 0xD => [1, 2, 5, 10]
  | 0xE => [1, 2]
  | _ => List.range' 1 20

/-- Primary code period of the tracked component in ms (R187). -/
def primaryMs (n : Nat) : Nat :=
  match baseSignal n with
  | 2 => 20
  | 1 | 9 => 10
  | 4 => 4
  | _ => 1

/-- Chips of one primary period. -/
def primaryChips (n : Nat) : Nat := (chipRateHz n).toNat * primaryMs n / 1000

/-- Length in ms of a bit of a data-only signal: the longest integration allowed on it (Table 5-3, R188; log entry 16). -/
def bitMs (n : Nat) (geo : Bool) : Nat :=
  if geo && (baseSignal n = 8 || baseSignal n = 0xB) then 2 else (integrationAllowed n).foldl max 1

/-- Whether a satellite's bit synchronisation goes by the 20-bit NH code (R188). -/
def usesNh (n : Nat) (geo : Bool) : Bool := !geo && (baseSignal n = 8 || baseSignal n = 0xB)

/-- Usable half-bandwidth of a stream in Hz by rate code (Table 5-1). -/
def halfBandHz (code : Nat) : Int := if code = 0 then 36000000 else if code = 1 then 18000000 else 9000000

/-- Gx_CLK in Hz by rate code (Table 5-1). -/
def ifClockHz (code : Nat) : Nat := if code = 0 then 163680000 else if code = 1 then 81840000 else 40920000

/-- The decoded component of Table 5-2. -/
def decodeSample (format c : Nat) : Int :=
  if format = 0 then 2 * (c : Int) - 15 else if c ≤ 7 then c else (c : Int) - 16

/-! ### Samples -/

/-- A number whose bits stand most significant first. -/
def msbFirst (l : List Bool) : Nat := l.foldl (fun a b => 2 * a + (if b then 1 else 0)) 0

/-- The framing pattern 1000b: Gx_FRM high on the edge of bit 3 only (R161, R165). -/
def framedOk (frm : List Bool) : Bool := decide (frm = [true, false, false, false])

/-- A sample as the channels take it (R161, R163 to R165): each component from its lane, most significant bit first, decoded in
the port's format, Q negated on an inverted stream; both 0 where the framing pattern is wrong. -/
def State.sample (s : State) (p st : Nat) (x : IfSample) : Int × Int :=
  if framedOk x.frm then
    let c (l : List Bool) : Int := decodeSample (s.nat (0x3000 + p) 4) (msbFirst (l.take 4))
    (c x.i, if s.bit (0x3000 + p) 2 (2 + st) then -(c x.q) else c x.q)
  else (0, 0)

/-- Sample rate of a port in Hz: half of Gx_CLK (R162). -/
def State.sampleHz (s : State) (p : Nat) : Nat := ifClockHz (s.nat (0x3000 + p) 2 % 4) / 2

/-- Module time in ps, the part of a TIME-island cycle included (the stamps of R168 hold to ±1 ns). -/
def State.finePs (s : State) : Int := s.mtPs + 1000 * ((s.sinceOrigin % 4 : Nat) : Int)

/-- Where an instant of module time (ps) falls among a port's samples: on the line through its last two stamps (R168); through one
stamp at the nominal rate. -/
def State.sampleAt (s : State) (p : Nat) (ps : Int) : Rat :=
  match (nth {} s.gnss.ports p).stamps with
  | (n2, t2) :: (n1, t1) :: _ =>
    (n2 : Rat) + ((ps - t2 : Int) : Rat) * (((n2 : Int) - n1 : Int) : Rat) / ((max 1 (t2 - t1) : Int) : Rat)
  | [(n, t)] => (n : Rat) + ((ps - t : Int) : Rat) * (s.sampleHz p : Rat) / 1000000000000
  | [] => 0

/-! ### Phase accumulators (R192, R193) -/

/-- One cycle or chip of a 48-bit accumulator. -/
def nco48 : Int := 281474976710656

/-- Carrier rate per sample at loop frequency `f`: (f_RF - f_LO) + f, its sign reversed on an inverted stream. -/
def State.carrierStep (s : State) (k : Chan) (f : Rat) : Int :=
  let p := k.idx / 128
  let base : Int := carrierHz k.signal k.sat.freqK - s.obj (0x3010 + 4 * p + k.stream) 1
  let r := roundHalfEven (((base : Rat) + f) * (nco48 : Rat) / (s.sampleHz p : Rat))
  if s.bit (0x3000 + p) 2 (2 + k.stream) then -r else r

/-- Code rate per sample: f_chip (1 + f / f_RF) + 4 Bd τ chips per second, Bd being 3040h+n:05. -/
def State.codeRate (s : State) (k : Chan) (f tau : Rat) : Int :=
  let chip : Rat := (chipRateHz k.signal : Rat)
  let hz := chip * (1 + f / (carrierHz k.signal k.sat.freqK : Rat)) + 4 * ((s.nat (0x3040 + k.signal) 5 : Rat) / 100) * tau
  roundHalfEven (hz * (nco48 : Rat) / (s.sampleHz (k.idx / 128) : Rat))

/-- Samples between a dump and the first sample that begins 32 GNB cycles or more after it. -/
def State.ncoLag (s : State) (p : Nat) : Nat := 32 * s.sampleHz p / 163680000

/-- Advance of an accumulator over `x` samples from the start of an integration: at the old rate for the first `lag` of them. -/
def ncoSum (step new : Int) (lag : Nat) (x : Rat) : Rat :=
  if x ≤ lag then x * step else (lag : Rat) * step + (x - lag) * new

/-- Samples of the running integration at the old rates. -/
def Chan.lag (k : Chan) : Nat := k.newFrom - k.next

/-- Code accumulator `x` samples into the integration. -/
def Chan.codeAt (k : Chan) (x : Rat) : Rat := (k.code : Rat) + ncoSum k.codeStep k.codeNew k.lag x

/-- Advance of the carrier accumulator over `x` samples; while coasting its rate changes by the last rate of change (R186). -/
def State.carrierAdvance (s : State) (k : Chan) (x : Rat) : Rat :=
  let fs : Rat := (s.sampleHz (k.idx / 128) : Rat)
  let bend : Rat := if k.state = .reacq then k.slope * x * x / (2 * fs * fs) * (nco48 : Rat) else 0
  ncoSum k.carrStep k.carrNew k.lag x + (if s.bit (0x3000 + k.idx / 128) 2 (2 + k.stream) then -bend else bend)

/-- The Doppler part of that advance, in the sense of f. -/
def State.dopplerAdvance (s : State) (k : Chan) (x : Rat) : Rat :=
  let adv := s.carrierAdvance k x
  let up (v : Rat) : Rat := if s.bit (0x3000 + k.idx / 128) 2 (2 + k.stream) then -v else v
  up adv - x * up (s.carrierStep k 0 : Rat)

/-! ### Replicas and taps (R196, R197) -/

/-- Length of a signal's secondary code: 20 where it is the NH code of R188. -/
def secondaryLength (sig : Nat) : Nat := if usesNh sig false then 20 else max 1 (Config.secondaryLength (baseSignal sig))

/-- Whether the secondary code of a channel's component is in step: NH of data-only signals, or a pilot's. -/
def Chan.wipes (k : Chan) : Bool :=
  if isDataOnly k.signal then k.bitSync && usesNh k.signal k.sat.geo else k.secSync

/-- Index of primary period `n` in the secondary code. -/
def Chan.secondaryIndex (k : Chan) (n : Nat) : Nat :=
  let len := secondaryLength k.signal
  (n + len - k.bitOffset % len) % len

/-- The replica at a code position (2^-48 chip) that counts from the start of the integration: primary chip, half-chip subcarrier of
BOC(1,1), and secondary chip once in step (R173, R187). -/
def Chan.replica (k : Chan) (data : Bool) (pos : Int) : Int :=
  let len : Int := (max 1 (primaryChips k.signal) : Nat)
  let chip := pos / nco48
  let per := ((k.period : Int) + chip / len).toNat
  let idx := k.secondaryIndex per
  let c := Config.primaryChip (baseSignal k.signal) k.sat.number data (if k.wipes then idx else 0) (chip % len).toNat
  let c := if isBoc k.signal && decide (nco48 / 2 ≤ pos % nco48) then -c else c
  if k.wipes && !data && Config.secondaryChip (baseSignal k.signal) k.sat.number idx then -c else c

/-- Offsets of VE, E, P, L, VL and MP1 to MP4 in 1/200 chip at spacing `d` (0.01 chip); a negative one is earlier (R196). -/
def tapOffsets (boc : Bool) (d : Int) : List Int :=
  let v := if boc then 100 else 2 * d
  [-v, -d, 0, d, v, -6 * d, -4 * d, 4 * d, 6 * d]

/-- Samples with the carrier taken off and the code position of each, from sample `n` of the integration (R192, R193). -/
def State.mixed (s : State) (k : Chan) : Nat → List IfSample → List (Int × Int × Int)
  | _, [] => []
  | n, x :: rest =>
    let (i, q) := s.sample (k.idx / 128) k.stream x
    let (c, d) := Config.carrierReplica ((((k.carr : Rat) + s.carrierAdvance k n).floor % nco48).toNat)
    (i * c + q * d, q * c - i * d, (k.codeAt n).floor) :: s.mixed k (n + 1) rest

/-- A signed 32-bit sum (R197). -/
def int32 (v : Int) : Int := (BitVec.ofInt 32 v).toInt

/-- I and Q sums of the tap at an offset in 1/200 chip: an earlier tap's replica runs ahead. -/
def Chan.tapSum (k : Chan) (data : Bool) (off : Int) (l : List (Int × Int × Int)) : Int × Int :=
  let r := l.foldl (fun a x =>
    let c := k.replica data (x.2.2 - off * nco48 / 200)
    (a.1 + x.1 * c, a.2 + x.2.1 * c)) ((0, 0) : Int × Int)
  (int32 r.1, int32 r.2)

/-- The ideal autocorrelation of a replica without band limit at an offset in chips (R198). -/
def idealCorrelation (boc : Bool) (x : Rat) : Rat :=
  let m := ratAbs x
  if 1 ≤ m then 0 else if ¬ boc then 1 - m else if m ≤ 1 / 2 then 1 - 3 * m else m - 1

/-! ### Checkers of a pseudo-random pattern (R171, R756) -/

/-- One bit through a checker of x^len + x^tap + 1: the next bit of the pattern is the sum of the bits `len` and `tap` before. While the
checker searches its register follows the line, and `span` error-free bits lock it; while locked the register runs free, each bit
error is counted, and 8 errors within `span` bits end the lock. A register of zeros is no pattern; before the register is full a bit
is error-free where `blank` says so. The number is what this bit counts. -/
def LaneCheck.take (c : LaneCheck) (len tap span : Nat) (blank b : Bool) : LaneCheck × Nat :=
  let want := (nth false c.reg (len - 1)) != (nth false c.reg (tap - 1))
  if c.locked then
    let recent := ((b != want) :: c.recent).take span
    let lost := decide (8 ≤ (recent.filter (·)).length)
    let next : LaneCheck := if lost then {} else { c with reg := (want :: c.reg).take len, recent := recent }
    (next, if b != want then 1 else 0)
  else
    let good := if c.reg.length < len then blank else c.reg.any (·) && b == want
    let run := if good then c.run + 1 else 0
    ({ reg := (b :: c.reg).take len, run := run, locked := decide (span ≤ run), recent := [] }, 0)

end Sys2Proof.Machine
end

