-- ==== Sys2Proof/Machine/Time.lean ====
section
/-! DEFINITION. The time base (chapter 4): module time, its sources, holdover and return, steps, the pulse per second,
the time message, and the PTP clocks. -/

namespace Sys2Proof.Machine

open Sys2Proof

/-! ### Rate, sources, errors -/

/-- The rate correction stops at ±100 × 10^-6 (R119). -/
def State.setRho (s : State) (rho : Int) : State := s.setObj 0x2100 0x09 (clampInt (-100000000) 100000000 rho)

/-- Nibble codes of 2100h:06 in order (R123). -/
def State.sourcePriority (s : State) : List Nat :=
  let v := s.nat 0x2100 0x06
  [v % 16, v / 16 % 16, v / 256 % 16]

/-- Rank of source `n` in the priority list, none when it is not named. -/
def State.sourceRank (s : State) (n : Nat) : Option Nat :=
  s.sourcePriority.findIdx? (· = n + 1)

/-- The highest-priority qualified source (R123, R126). -/
def State.bestSource (s : State) : Option Nat :=
  (s.sourcePriority.filterMap fun code =>
    if 1 ≤ code ∧ code ≤ 3 ∧ nth false s.clock.qualified (code - 1) then some (code - 1) else none).head?

/-- The selected source, as a servo channel (2100h:05 codes 01h to 03h). -/
def State.selectedSource (s : State) : Option Nat :=
  let v := s.nat 0x2100 0x05
  if 1 ≤ v ∧ v ≤ 3 then some (v - 1) else none

/-- Time constant of a servo channel in seconds (Table 4-1). -/
def servoTau (source : Nat) : Nat := if source = 0 then 100 else 30

/-- The holdover bound of R141 and Table 4-3 in picoseconds after `ns` nanoseconds, none where it has none: linear
between the rows of the discipline class from the 0 s row, quadratic beyond its last row. -/
def holdoverBoundPs (disciplineS : Nat) (warm : Bool) (ns : Nat) : Option Nat :=
  let hour := 3600 * 1000000000
  if ¬ warm ∨ disciplineS < 3600 then none
  else if 86400 ≤ disciplineS then
    if ns ≤ hour / 6 then some (600000 * ns / (hour / 6))
    else if ns ≤ hour then some (600000 + 4400000 * (ns - hour / 6) / (hour - hour / 6))
    else if ns ≤ 4 * hour then some (5000000 + 55000000 * (ns - hour) / (3 * hour))
    else some (60000000 * (ns * ns) / (4 * hour * (4 * hour)))
  else if ns ≤ hour then some (20000000 * ns / hour)
  else some (20000000 * (ns * ns) / (hour * hour))

/-- Whether a running module hears a leader over Terward: its partner is ACTIVE, it is not, and a lane is up. Such a twin, a STANDBY
worker too, follows its partner and not the rings (R122; log entry 12). -/
def State.followsTwin (s : State) : Bool :=
  decide (s.role ≠ .active) && decide (s.pair.partnerRole = some .active) && s.pair.lanes.any fun (l : Lane) => l.up

/-- Whether a module that leads nobody hears a leader: its partner, or a sync packet within 10 ms (R159, R526). -/
def State.hasLeader (s : State) : Bool :=
  s.followsTwin || ((!s.isManager || decide (s.role ≠ .active)) && s.ring.ports.any fun (q : RingPort) => match q.lastSync with
    | some l => decide (s.now < l + 10000000)
    | none => false)

/-- 2100h:07: the estimated error in ns, none for unknown (R141 in holdover, to the nearest ns as in the worked example of the
chapter, R791 while following: 20 ns beyond the active twin's, 50 ns beyond the manager's). While slewing it is the return error found,
until SLEW_DONE, and before a step that is planned the value from before the return (log entry 12). -/
def State.estErrNs (s : State) : Option Nat :=
  match s.clock.state with
  | .holdover =>
    match s.clock.holdEntryErr, s.clock.holdFrom with
    | some e, some f =>
      match holdoverBoundPs s.clock.holdDiscipline s.clock.holdWarm (s.now - f) with
      | some b => some (e + (b + 500) / 1000)
      | none => none
    | _, _ => none
  | .following =>
    s.clock.leaderErr.map fun e => e + if s.obj 0x2100 0x05 = 4 then 20 else 50
  | _ => if s.obj 0x2100 0x07 = 0xFFFFFFFF then none else some (s.nat 0x2100 0x07)

/-- The estimated error as the object reads. -/
def State.estErrObj (s : State) : Int :=
  match s.estErrNs with
  | some e => if e < 0xFFFFFFFF then e else 0xFFFFFFFF
  | none => 0xFFFFFFFF

/-- Seconds spent in holdover (2100h:0C). -/
def State.holdoverNs (s : State) : Nat :=
  match s.clock.holdFrom with
  | some f => s.now - f
  | none => 0

/-- 2100h:0B: seconds of continuous lock, running from lock through changes of source and kept from the loss (R142). Time spent
following counts for nothing: a follower is not locked (Table 4-7), so its holdover has no bound (log entry 12). -/
def State.disciplineS (s : State) : Nat :=
  match s.clock.lockedFrom with
  | some f => (s.now - f) / 1000000000
  | none => s.nat 0x2100 0x0B

/-- The objects of 2100h that run with time; `none` for those held as plain values. -/
def State.timeView (s : State) (sub : Nat) : Option Int :=
  match sub with
  | 1 => some (s.mt / 1000000000 : Nat)
  | 2 => some (s.mt % 1000000000 : Nat)
  | 3 => some (s.stamp32 : Nat)
  | 4 => some s.clock.state.code
  | 7 => some s.estErrObj
  | 0x0B => some s.disciplineS
  | 0x0C => some (s.holdoverNs / 1000000000 : Nat)
  | _ => none

/-- Module time enters holdover with the frequency term alone (R126, R140, R142). A worker has no servo and learns no frequency term
from following: it free-runs at rate correction 0 (log entry 12). -/
def State.enterHoldover (s : State) : State :=
  let e := s.estErrNs
  let d := s.disciplineS
  let s := s.setRho s.clock.freq
  let s := s.setObjs [(0x2100, 0x0B, d), (0x2100, 0x05, 0)]
  { s with clock := { s.clock with
      state := .holdover, holdFrom := some s.now, holdEntryErr := e, holdDiscipline := d
      holdWarm := s.bit 0x2020 0x03 7, lockedFrom := none, slewLeft := 0 } }

/-- The servo takes a measured offset of its source in ps (module minus source): a type-2 loop with the channel's time
constant; while slewing, the rate departs from the frequency term by at most 50 × 10^-9 (R122, R144). -/
def State.servo (s : State) (source : Nat) (offsetPs : Int) : State :=
  let tau := servoTau source
  let freq := s.clock.freq - roundHalfEven (Config.servoFreqGain tau * offsetPs)
  let phase := - roundHalfEven (Config.servoPhaseGain tau * offsetPs)
  let s := { s with clock := { s.clock with freq := freq } }
  let s := s.setObj 0x2100 0x08 (clampInt (-2147483648) 2147483647 offsetPs)
  match s.clock.state with
  | .slewing =>
    { s.setRho (freq + clampInt (-50000) 50000 phase) with clock := { s.clock with slewLeft := offsetPs } }
  | .locked => s.setRho (freq + phase)
  | _ => s

/-- The offset found at a return of signals or a change of source: below 500 ns of return error it is slewed out, otherwise one step
is planned, to be announced in the next time message (R143 to R145). A step already announced stays as announced; its residual
is slewed (R145). Continuous lock is not lost by a change of source (R142). The uncertainty of GNSS is the one its clock solution
states (R221). -/
def State.returnOfSignals (s : State) (source : Nat) (offsetPs : Int) (uncertaintyNs : Nat) : State :=
  let unc := if source = 0 then nth 0 s.clock.uncertainty 0 else uncertaintyNs
  let errPs : Int := (offsetPs.natAbs : Int) + 1000 * unc
  let s := s.setObjs [(0x2100, 0x08, clampInt (-2147483648) 2147483647 offsetPs), (0x2100, 0x05, (source : Int) + 1)]
  let s := { s with clock := { s.clock with uncertainty := modifyNth (fun _ => unc) s.clock.uncertainty source } }
  let announced : Bool := match s.clock.step with
    | some p => p.atSec.isSome
    | none => false
  if announced then s
  else if errPs < 500000 then
    let s := s.setObj 0x2100 0x07 (errPs / 1000)
    { s with clock := { s.clock with
        state := .slewing, slewLeft := offsetPs, step := none, holdFrom := none, holdEntryErr := none
        gnssSet := s.clock.gnssSet || decide (source = 0) } }
  else
    { s with clock := { s.clock with step := some { amountNs := - roundHalfEven (offsetPs / 1000), atSec := none } } }

/-- A change of source waits for the next second boundary (R121, R125, R126). -/
def State.awaitChange (s : State) (c : Option Nat) : State := { s with clock := { s.clock with change := c, changeAt := s.mt } }

/-- Whether module time stands at a second boundary: on it, or in the cycle in which it is passed. -/
def State.atSecond (s : State) : Bool := decide (s.mt % 1000000000 < 8)

/-- Module time follows a leader (R122, R157): the twin's, or the manager's. -/
def State.beFollower (s : State) : State :=
  let d := s.disciplineS
  let s := s.setObjs [(0x2100, 0x0B, d), (0x2100, 0x05, if s.followsTwin then 4 else 5)]
  { s with clock := { s.clock with
      state := .following, change := none, lockedFrom := none, holdFrom := none, holdEntryErr := none, slewLeft := 0 } }

/-! ### Periods -/

/-- Tc in ns of a code of 5001h:01. -/
def tcOfCode (code : Int) : Nat :=
  match code with
  | 1 => 50000000
  | 2 => 40000000
  | 3 => 20000000
  | 4 => 10000000
  | _ => 100000000

/-- Control period in ns (5001h:01). -/
def State.tcNs (s : State) : Nat := tcOfCode (s.obj 0x5001 1)

/-- Samples per second (6000h:01). -/
def servoRate (code : Int) : Nat := if code = 0 then 2000 else if code = 2 then 8000 else 4000

/-- Servo period in ns. -/
def tsNs (code : Int) : Nat := 1000000000 / servoRate code

/-! ### Steps of module time (R127 to R133, R211, R295, R529) -/

/-- A sample's instants on the stepped scale. -/
def Sample.step (ns : Int) (a : Sample) : Sample := { a with instant := a.instant + ns, arrival := a.arrival + ns }

/-- A target packet on the stepped scale. -/
def TargetPacket.step (ns : Int) (p : TargetPacket) : TargetPacket := { p with instant := p.instant + ns, arrival := p.arrival + ns }

/-- A solution's instant on the stepped scale. -/
def SolResult.step (ns : Int) (r : SolResult) : SolResult := { r with instant := ((r.instant : Int) + ns).toNat }

/-- A source's mapping and buffer: offset and buffered stamps shift by the step (R127, R128, R295). -/
def Source.step (ns : Int) (q : Source) : Source :=
  { q with
    pairs := q.pairs.map fun (ts, d) => (ts, d + ns)
    base := q.base + (ns : Rat)
    buffer := q.buffer.map (Sample.step ns)
    lateOnes := q.lateOnes.map (Sample.step ns)
    latestInstant := q.latestInstant.map (· + ns) }

/-- Test windows on the stepped scale. -/
def TestRun.step (ns : Int) (r : TestRun) : TestRun :=
  { r with
    unchangedFrom := r.unchangedFrom.map (· + ns)
    hist := r.hist.map fun (at', a, b) => (at' + ns, a, b)
    passFrom := r.passFrom.map (· + ns)
    latestAt := r.latestAt + ns
    acceptedAt := r.acceptedAt + ns }

/-- A product on the stepped scale (R128). -/
def Product.step (ns : Int) (p : Product) : Product :=
  { p with instant := ((p.instant : Int) + ns).toNat, arrival := p.arrival + ns
           solution := p.solution.map (SolResult.step ns) }

/-- The alignment buffer on the stepped scale (R128). -/
def Align.step (ns : Int) (a : Align) : Align :=
  { a with
    sources := a.sources.map (Source.step ns)
    slots := a.slots.map (TestRun.step ns)
    sensors := a.sensors.map (TestRun.step ns)
    attitude := a.attitude.map (Sample.step ns)
    targets := a.targets.map (TargetPacket.step ns)
    snap := { tracks := a.snap.tracks.map fun l => { l with at' := l.at' + ns }, expected := a.snap.expected, suspect := a.snap.suspect
              products := a.snap.products.map (Product.step ns)
              t0 := a.snap.t0 + ns, horizon := a.snap.horizon + ns, samples := a.snap.samples.map (Sample.step ns)
              targets := a.snap.targets.map (TargetPacket.step ns) } }

/-- The estimator's instants on the stepped scale, its retrodiction history included (R128). -/
def Est.step (ns : Int) (e : Est) : Est :=
  { e with
    at' := e.at' + ns
    horizons := e.horizons.map fun h => { h with instant := h.instant + ns }
    deferred := e.deferred.map (Sample.step ns)
    lastFix := e.lastFix.map (· + ns)
    drFrom := e.drFrom.map (· + ns)
    lastAttFused := e.lastAttFused.map (· + ns)
    rates := e.rates.map fun (at', v) => (at' + ns, v)
    lastWarm := ((e.lastWarm : Int) + ns).toNat }

/-- Tracks and what waits for them on the stepped scale. -/
def Tracks.step (ns : Int) (k : Tracks) : Tracks :=
  { k with
    tracks := k.tracks.map fun t => { t with at' := t.at' + ns, lastHit := t.lastHit + ns }
    waiting := k.waiting.map (TargetPacket.step ns)
    gyros := k.gyros.map (Sample.step ns)
    combined := k.combined.map fun c => { c with at' := c.at' + ns }
    table := k.table.map fun l => { l with at' := l.at' + ns }
    doneFor := k.doneFor + ns }

/-- A serial port across a step: its exported stamps stand, with the step to add where they are extended (R128). -/
def RxPort.step (ns : Int) (p : RxPort) : RxPort :=
  { p with
    chars := p.chars.map fun c => { c with step := c.step + ns }
    packets := p.packets.map fun m => { m with firstStep := m.firstStep + ns, lastStep := m.lastStep + ns }
    lastStep := p.lastStep + ns }

/-- Solutions on the stepped scale; the next record is the first after a step (R211). -/
def GnssSol.step (ns : Int) (g : GnssSol) : GnssSol :=
  { g with
    stepped := true
    latchAt := ((g.latchAt : Int) + ns).toNat
    entriesAt := ((g.entriesAt : Int) + ns).toNat
    formed := g.formed.map (Option.map fun (a : Nat) => ((a : Int) + ns).toNat)
    compared := ((g.compared : Int) + ns).toNat
    products := g.products.map (Product.step ns) }

/-- The stamps of the IF ports on the stepped scale (R168). -/
def Gnss.step (ns : Int) (g : Gnss) : Gnss :=
  { g with ports := g.ports.map fun p => { p with stamps := p.stamps.map fun x => (x.1, x.2 + 1000 * ns) } }

/-- Whole seconds of a step of `ns`, its fraction lying from -0.5 s, excluded, to +0.5 s (R146). -/
def stepWhole (ns : Int) : Int := -((-(ns - 500000000)) / 1000000000)

/-- A PTP instance's own stamps on the stepped scale (R128). -/
def PtpInst.step (ns : Int) (p : PtpInst) : PtpInst :=
  { p with syncRx := p.syncRx + 1000 * ns, t2 := p.t2 + 1000 * ns, t3 := p.t3 + 1000 * ns }

/-- The running cycle across a step at the new count `m`: with Φ + 1 ms or more elapsed it ends at the step, else it goes on to
the next T0 of the corrected scale (R130). -/
def Control.step (ns m phi tc : Int) (c : Control) : Control :=
  let t0 := c.t0 + ns
  { c with
    t0 := t0
    gridAt := if phi + 1000000 ≤ m - t0 then t0 else max t0 (m / tc * tc)
    joyAt := c.joyAt.map (· + ns)
    readyAt := c.readyAt + ns
    demandAt := c.demandAt + ns
    windBadFrom := c.windBadFrom.map (· + ns) }

/-- Chain outputs with their stamps on the stepped scale. -/
def stepStamps (ns : Int) (l : List (Int × Nat)) : List (Int × Nat) :=
  l.map fun q => (q.1, (((q.2 : Int) + ns) % 4294967296).toNat)

/-- The running servo period across a step: with Ts/2 or more elapsed it ends there (R131). -/
def Servo.step (ns m ts : Int) (v : Servo) : Servo :=
  let at' := v.sampleAt + ns
  { v with
    sampleAt := at'
    gridAt := if ts ≤ 2 * (m - at') then at' else max at' (m / ts * ts)
    latch := { v.latch with chains := v.latch.chains.map fun c => { c with recent := stepStamps ns c.recent } } }

/-- The ring frame in progress ends at the first grid point of the corrected scale 100 µs or more after its start (R529). -/
def Ring.step (ns m phi : Int) (r : Ring) : Ring :=
  let start := r.start + ns
  let from' := max (start + 100000) m
  { r with
    start := start
    nextStart := r.nextStart.map fun _ => from' + (phi - from') % 1000000
    rephase := none
    slots := r.slots.map (Option.map fun (q, at', now', f) => (q, at' + ns, now', f)) }

/-- Queued records carry the instants of the stepped scale (R128, R705). -/
def IntakeItem.step (ns : Int) (q : IntakeItem) : IntakeItem :=
  { q with item := { q.item with time := q.item.time.map fun x => ((x : Int) + ns).toNat } }

/-- Module time steps by an amount in units of 2^-48 ns: every stamp kept from before moves with it, the cycle, servo period and
ring frame that straddle the step are adjusted, and the step is counted and recorded (R127 to R132, R211, R295, R529). -/
def State.stepTime (s : State) (amount : Int) (tc ts : Int) : State :=
  let units := (((s.clock.units : Int) + amount) % (unitsModulus : Int)).toNat
  let m : Int := (units / unitsPerNs : Nat)
  let ns : Int := m - (s.mt : Int)
  let phi : Int := s.obj 0x5001 2 * 1000
  let old (x : Nat) : Nat := ((x : Int) + ns).toNat
  let whole := stepWhole ns
  let s := { s with
    clock := { s.clock with
      units := units
      ptp := s.clock.ptp.map (PtpInst.step ns)
      gnssLast := s.clock.gnssLast.map old
      changeAt := old s.clock.changeAt
      pulsesFrom := ((s.clock.pulsesFrom : Int) + whole).toNat
      lastPulse := s.clock.lastPulse.map (Option.map fun (sec : Nat) => ((sec : Int) + whole).toNat) }
    align := s.align.step ns
    est := s.est.step ns
    trk := s.trk.step ns
    gsol := s.gsol.step ns
    gnss := s.gnss.step ns
    ctl := s.ctl.step ns m phi tc
    srv := s.srv.step ns m ts
    ring := s.ring.step ns m phi
    saf := { s.saf with gyros := s.saf.gyros.map (Sample.step ns) }
    intake := { s.intake with serial := s.intake.serial.map (RxPort.step ns), chains := s.intake.chains.map fun (c : Chain) => { c with recent := stepStamps ns c.recent } }
    net := { s.net with conns := s.net.conns.map fun (c : SafeConn) => { c with produced := c.produced.map old } }
    held := s.held.map fun (w : HeldWrite) => { w with stamp := old w.stamp }
    pair := { s.pair with
      faultTimes := s.pair.faultTimes.map old
      drillDueAt := s.pair.drillDueAt.map old }
    user := s.user.map fun (p : UserPair) => { p with lastOpen := p.lastOpen.map old, committedAt := old p.committedAt }
    recorder := { s.recorder with
      qControl := s.recorder.qControl.map (IntakeItem.step ns)
      qData := s.recorder.qData.map (IntakeItem.step ns)
      qManagement := s.recorder.qManagement.map (IntakeItem.step ns) } }
  let s := (s.count .data 0x2100 0x0D).setObj 0x2100 0x0E (clampInt (-9223372036854775808) 9223372036854775807 ns)
  s.event .data 0x2100 0x0D 3

/-! ### Setting, sources, steps -/

/-- TIME_SECONDS_READ (R120): the three readings of one instant, latched for this client. -/
def State.latchTime (s : State) (c : Client) : State :=
  let rec' (r : ClientRec) : ClientRec :=
    { r with latchSec := s.mt / 1000000000, latchNs := s.mt % 1000000000, latchStamp := s.stamp32, latched := true }
  if s.dict.clients.any (·.client = c) then
    { s with dict := { s.dict with clients := s.dict.clients.map fun r => if r.client = c then rec' r else r } }
  else
    { s with dict := { s.dict with clients := s.dict.clients ++ [rec' { client := c, lastHeard := s.now }] } }

/-- Module time steps by an amount with the periods in force. -/
def State.stepGrids (s : State) (amount : Int) : State := s.stepTime amount s.tcNs (tsNs (s.obj 0x6000 1))

/-- What an announced step for second `sec` makes of the pulse there: the step pulse lies 1 s less the fraction after the pulse before
(R146). Module time in ns at which that boundary falls, any other at its second. -/
def State.boundaryNs (s : State) (sec : Nat) : Int :=
  match s.clock.step with
  | some { amountNs := a, atSec := some at' } =>
    if at' = sec then (sec : Int) * 1000000000 - (a - stepWhole a * 1000000000) else (sec : Int) * 1000000000
  | _ => (sec : Int) * 1000000000

/-- TIME_STEP (R129 to R133, R145, R146, R159): an announced step is applied at its pulse. A module that hears its leader follows; one
that has selected a source takes its residual by slewing; in any other, a worker that hears no ring among them, holdover goes on. -/
def execTimeStep (t : Nat) (s : State) : Host.Outcome State Fault Refusal :=
  s.live t fun s =>
    match s.clock.step with
    | some { amountNs := a, atSec := some sec } =>
      if (s.mt : Int) < s.boundaryNs sec then s
      else
        let s := s.stepGrids (a * unitsPerNs)
        let s := { s with clock := { s.clock with step := none } }
        if s.hasLeader then s.beFollower
        else match s.selectedSource with
          | some n =>
            { s with clock := { s.clock with
                state := .slewing, slewLeft := s.obj 0x2100 8 + 1000 * a, holdFrom := none, holdEntryErr := none
                gnssSet := s.clock.gnssSet || decide (n = 0) } }
          | none => s
    | _ => s

/-- Whether a source has met the condition of R124. -/
def State.mayQualify (s : State) (source : Nat) : Bool :=
  if source = 0 then decide (10 ≤ s.clock.gnssRun)
  else decide (16 ≤ nth 0 s.clock.syncRun (source - 1)) && decide (4 ≤ nth 0 s.clock.delayRun (source - 1))

/-- Whether this module steers its own time: a manager that follows nobody (R122, R157). -/
def State.steersTime (s : State) : Bool := s.isManager && decide (s.clock.state ≠ .following)

/-- TAI−UTC and the leap indicator as GNSS or PTP gives them (2100h:0F, 2100h:10): the leap second stands at the end of the UTC day
in which they are given. -/
def State.putUtc (s : State) (taiUtc : Int) (leap : Nat) : State :=
  let s := s.setObjs [(0x2100, 0x0F, clampInt (-32768) 32767 taiUtc), (0x2100, 0x10, if leap ≤ 2 then (leap : Nat) else 0)]
  { s with clock := { s.clock with leapDay := (((s.mt / 1000000000 : Nat) : Int) - s.obj 0x2100 0x0F) / 86400 } }

/-- TIME_SOURCE_QUALIFY (R124): of the qualified sources of 2100h:06 the highest waits for the next second boundary when no source is
selected or when it stands higher than the selected one (R121, R123, R125, R126). -/
def execTimeSourceQualify (t source : Nat) (offsetPs : Int) (uncertaintyNs : Nat) (s : State) :
    Host.Outcome State Fault Refusal :=
  s.live t fun s =>
    if ¬ (s.isManager ∧ source < 3 ∧ s.mayQualify source) then s
    else
      let s := { s with clock := { s.clock with
        qualified := modifyNth (fun _ => true) s.clock.qualified source
        offsets := modifyNth (fun _ => offsetPs) s.clock.offsets source
        uncertainty := if source = 0 then s.clock.uncertainty else modifyNth (fun _ => uncertaintyNs) s.clock.uncertainty source } }
      if ¬ s.steersTime ∨ s.clock.state = .unset then s
      else match s.bestSource, s.selectedSource with
        | none, _ => s
        | some b, none => s.awaitChange (some b)
        | some b, some cur =>
          match s.sourceRank b, s.sourceRank cur with
          | some r, some rc => if r < rc then s.awaitChange (some b) else s
          | _, _ => s.awaitChange (some b)

/-- TIME_SOURCE_CHANGE (R125, R126, R143): at the first second boundary after the decision the servo changes to the source that waits
and judges the offset it measures there. -/
def execTimeSourceChange (t : Nat) (offsetPs : Int) (uncertaintyNs : Nat) (s : State) :
    Host.Outcome State Fault Refusal :=
  s.live t fun s =>
    match s.clock.change with
    | none => s
    | some src =>
      if ¬ s.steersTime ∨ ¬ s.atSecond ∨ s.mt / 1000000000 ≤ s.clock.changeAt / 1000000000 then s
      else { s with clock := { s.clock with change := none, coarseOnly := false } }.returnOfSignals src offsetPs uncertaintyNs

/-- A source is lost: it is no longer qualified and its runs begin again; where it steered module time, holdover begins, another
qualified source is taken at the next second boundary, and of a step only an announced one stands (R126, R145). -/
def State.loseSource (s : State) (source : Nat) : State :=
  let s := { s with clock := { s.clock with
    qualified := modifyNth (fun _ => false) s.clock.qualified source
    gnssRun := if source = 0 then 0 else s.clock.gnssRun
    syncRun := if source = 0 then s.clock.syncRun else modifyNth (fun _ => 0) s.clock.syncRun (source - 1)
    delayRun := if source = 0 then s.clock.delayRun else modifyNth (fun _ => 0) s.clock.delayRun (source - 1)
    change := if s.clock.change = some source then none else s.clock.change } }
  if s.steersTime ∧ s.selectedSource = some source then
    let s := s.enterHoldover
    { s.awaitChange s.bestSource with clock := { (s.awaitChange s.bestSource).clock with
        step := s.clock.step.filter fun (p : PlannedStep) => p.atSec.isSome } }
  else s

/-- A PTP instance has another grandmaster (R126): it is counted, and the source is lost. -/
def State.newGrandmaster (s : State) (inst identity : Nat) : State :=
  if s.obj (0x2110 + inst) 9 = identity then s
  else ((s.setObj (0x2110 + inst) 9 identity).count .data (0x2110 + inst) 0x10).loseSource (inst + 1)

/-- TIME_SOURCE_LOSS (R126, R140, R142): loss of a source, or a new grandmaster of a PTP instance. -/
def execTimeSourceLoss (t source : Nat) (grandmaster : Option Nat) (s : State) : Host.Outcome State Fault Refusal :=
  s.live t fun s =>
    if ¬ (s.isManager ∧ source < 3) then s
    else match grandmaster with
      | some g => if 1 ≤ source then s.newGrandmaster (source - 1) g else s
      | none => s.loseSource source

/-- A module that takes the lead keeps its module time: it holds over from what it followed, and its servo judges the offset of its
own best source (R158; log entry 12). -/
def State.leadTime (s : State) : State :=
  if s.isManager ∧ s.clock.state = .following then
    let s := s.enterHoldover
    match s.bestSource with
    | some n => s.returnOfSignals n (nth 0 s.clock.offsets n) (nth 0 s.clock.uncertainty n)
    | none => s
  else s

/-- SLEW_DONE (R144): the slewed offset, as the servo last measured it, is below 10 ns; lock begins where it was lost (R142). -/
def execSlewDone (t : Nat) (s : State) : Host.Outcome State Fault Refusal :=
  s.live t fun s =>
    if s.clock.state ≠ .slewing ∨ 10000 ≤ s.clock.slewLeft.natAbs then s
    else
      let s := match s.selectedSource with
        | some n => s.setObj 0x2100 0x07 (nth 0 s.clock.uncertainty n)
        | none => s
      { s with clock := { s.clock with state := .locked, slewLeft := 0, lockedFrom := some (s.clock.lockedFrom.getD s.now) } }

/-! ### Pulses and the time message -/

/-- The pending settings of an output whose write lies at least 0.5 s before the second boundary `sec` apply at this
pulse, oldest first; the others wait (R149). -/
def State.takePps (s : State) (output sec : Nat) : State :=
  let boundary : Int := (s.now : Int) + (s.boundaryNs sec - s.mt)
  let due (p : PpsPending) : Bool :=
    decide (p.key / 256 = 0x2120 + output) && decide ((p.writtenAt : Int) + 500000000 ≤ boundary)
  let force := (s.clock.ppsPending.filter due).foldl (fun f p =>
    modifyNth (fun (w, c) => if p.key % 256 = 3 then (p.val.toNat, c) else (w, p.val)) f output) s.clock.ppsForce
  { s with clock := { s.clock with
    ppsForce := force, ppsPending := s.clock.ppsPending.filter fun p => ¬ due p } }

/-- The quantisation error in ps of an edge on the 4 ns grid for the ideal instant `idealNs` of module time (R148). -/
def State.quantErr (s : State) (idealNs : Int) : Int :=
  let rho := s.obj 0x2100 0x09
  let stepPs : Rat := 4000 + 4000 * (rho : Rat) / 1000000000000
  let gapPs : Rat := (idealNs : Rat) * 1000 - (s.clock.units : Rat) * 1000 / unitsPerNs
  let n := roundHalfEven (gapPs / stepPs)
  clampInt (-2000) 2000 (roundHalfEven ((n : Rat) * stepPs - gapPs))

/-- PPS_QUAL judged at the on-time edge of PPS_OUT_A (R150, R791). -/
def State.judgePpsQual (s : State) : State :=
  let limit := s.nat 0x2100 0x0A
  let within := match s.estErrNs with | some e => decide (e ≤ limit) | none => false
  let fall : Bool := !within || (decide (s.clock.state = .holdover) && decide (600000000000 ≤ s.holdoverNs))
  let rise : Bool := decide (s.clock.state = .locked ∨ s.clock.state = .slewing ∨ s.clock.state = .following) && within
  if s.clock.ppsQual then
    if fall then { s with clock := { s.clock with ppsQual := false } }.tell (.ppsQual false) else s
  else if rise then { s with clock := { s.clock with ppsQual := true } }.tell (.ppsQual true) else s

/-- The quality of Table 4-5. -/
def State.timeQuality (s : State) : Nat :=
  let limit := s.nat 0x2100 0x0A
  match s.clock.state, s.estErrNs with
  | .unset, _ => 5
  | .freeRunning, _ => 5
  | .holdover, some e => if e ≤ limit ∧ s.holdoverNs < 600000000000 then 3 else 4
  | .slewing, some e => if e ≤ limit then 2 else 4
  | _, some e => if e ≤ 100 then 0 else if e ≤ limit then 1 else 4
  | _, none => 4

/-- The second `sec` ends an inserted leap second, or stands where one is deleted: TAI−UTC changes and the indicator clears. -/
def State.turnLeap (s : State) (sec : Nat) : State :=
  let left : Int := (s.clock.leapDay + 1) * 86400 - ((sec : Int) - s.obj 0x2100 0x0F)
  if s.obj 0x2100 0x10 = 1 ∧ left < 0 then s.setObjs [(0x2100, 0x0F, s.obj 0x2100 0x0F + 1), (0x2100, 0x10, 0)]
  else if s.obj 0x2100 0x10 = 2 ∧ left ≤ 1 then s.setObjs [(0x2100, 0x0F, s.obj 0x2100 0x0F - 1), (0x2100, 0x10, 0)]
  else s

/-- Whether the pulse of second `sec` at an output is the next one: no pulse is dropped or doubled, and the first is that of the first
second boundary after module time was set (R147). -/
def State.nextPulse (s : State) (output sec : Nat) : Bool :=
  match nth none s.clock.lastPulse output with
  | some l => decide (sec = l + 1)
  | none => decide (s.clock.pulsesFrom ≤ sec)

/-- PPS_PULSE (R147 to R150, R153): the pulse of the second boundary `sec` at an output, on the 4 ns grid point nearest the boundary
less the cable compensation. An output that is off keeps the same seconds and sends nothing. -/
def execPpsPulse (t output sec : Nat) (s : State) : Host.Outcome State Fault Refusal :=
  s.live t fun s =>
    if s.clock.state = .unset ∨ 2 ≤ output ∨ ¬ s.nextPulse output sec then s
    else
      let s' := s.takePps output sec
      let force := nth (10000, 0) s'.clock.ppsForce output
      let ideal := s.boundaryNs sec - force.2
      if 4 < ((s.mt : Int) - ideal).natAbs then s
      else
        let s := s'
        let s := if output = 0 then s.turnLeap sec else s
        let info : PulseInfo := { sec := sec, edgeAt := s.now, quality := s.timeQuality, err := s.estErrNs }
        let s := { s with clock := { s.clock with
          lastPulse := modifyNth (fun _ => some sec) s.clock.lastPulse output
          pulseInfo := modifyNth (fun _ => some info) s.clock.pulseInfo output } }
        let s :=
          if s.obj (0x2120 + output) 1 = 1 then
            let q := s.quantErr ideal
            (s.setObj (0x2120 + output) 5 q).tell
              (.pps output sec (decide (s.obj (0x2120 + output) 2 = 0)) (force.1 * 1000) q)
          else s
        if output = 0 then s.judgePpsQual else s

/-- The source letter of f11 (Table 4-6). -/
def State.timeLetter (s : State) : Byte :=
  match s.clock.state with
  | .unset => 0x55
  | .freeRunning => 0x55
  | .holdover => 0x48
  | _ => match s.nat 0x2100 0x05 with
    | 1 => 0x47 | 2 => 0x41 | 3 => 0x42 | 4 => 0x54 | 5 => 0x57 | _ => 0x55

/-- UTC of a TAI second as PSDUT writes it: hhmmss, dd, mm, yyyy; the inserted leap second is 23:59:60 of its day (R154). -/
def State.utcText (s : State) (sec : Nat) : List (List Byte) :=
  let utc : Int := (sec : Int) - s.obj 0x2100 0x0F
  let extra := decide (s.obj 0x2100 0x10 = 1) && decide (utc = (s.clock.leapDay + 1) * 86400)
  let u := (if extra then utc - 1 else utc).toNat
  let d := civilDate (u / 86400)
  [decText 2 (u % 86400 / 3600) ++ decText 2 (u % 3600 / 60) ++ decText 2 (if extra then 60 else u % 60),
    decText 2 d.1, decText 2 d.2.1, decText 4 d.2.2]

/-- Checksum of a sentence: the exclusive or of the characters between $ and * (IEC 61162-1). -/
def nmeaSum (b : List Byte) : Byte := b.foldl (· ^^^ ·) 0

/-- A PSDUT sentence (R154, Table 4-6). -/
def State.psdut (s : State) (p : PulseInfo) (quantPs : Int) (announced : Option Int) : List Byte :=
  let err := match p.err with
    | some e => min e 999999
    | none => 999999
  let step : List Byte := match announced with
    | some a => intText a
    | none => []
  let body := commaText (ascii "PSDUT" :: s.utcText p.sec ++
    [intText (s.obj 0x2100 0x0F), intText (s.obj 0x2100 0x10), decText 1 p.quality, intText quantPs, decText 1 err, step, [s.timeLetter]])
  0x24 :: body ++ 0x2A :: hexText (nmeaSum body) ++ [0x0D, 0x0A]

/-- The pulse that the next time message describes: of the output 2130h:09 names, else of the other. -/
def State.lastPulseInfo (s : State) : Option PulseInfo :=
  let r := s.nat 0x2130 9
  match nth none s.clock.pulseInfo r with
  | some p => some p
  | none => nth none s.clock.pulseInfo (1 - r)

/-- TIME_MESSAGE (R145, R152 to R154, R133): from 10 ms to 100 ms after the on-time edge of a pulse, once, its message stands in 2130h
and leaves as PSDUT on the selected ports; a step that has been decided is announced in it for the next pulse, to the rings and the
twin too. -/
def execTimeMessage (t : Nat) (s : State) : Host.Outcome State Fault Refusal :=
  s.ported t fun s =>
    match s.lastPulseInfo with
    | none => s
    | some p =>
      if s.clock.described = some p.sec ∨ s.now < p.edgeAt + 10000000 ∨ p.edgeAt + 100000000 < s.now then s
      else
        let s := { s with clock := { s.clock with described := some p.sec } }
        let s := match s.clock.step with
          | some q =>
            if q.atSec.isNone then
              { s with clock := { s.clock with step := some { q with atSec := some (p.sec + 1) } } }.tell
                (.stepAnnounced q.amountNs (p.sec + 1))
            else s
          | none => s
        let announced : Option Int := match s.clock.step with
          | some q => if q.atSec = some (p.sec + 1) then some q.amountNs else none
          | none => none
        let err : Int := match p.err with
          | some e => if e < 0xFFFFFFFF then e else 0xFFFFFFFF
          | none => 0xFFFFFFFF
        let s := s.setObjs
          [(0x2130, 1, p.sec), (0x2130, 2, p.quality), (0x2130, 3, s.obj 0x2120 5), (0x2130, 4, s.obj 0x2121 5),
           (0x2130, 5, err), (0x2130, 6, announced.getD 0), (0x2130, 7, (s.obj 0x2130 7 + 1) % 65536)]
        let text := s.psdut p (if s.obj 0x2130 9 = 0 then s.obj 0x2120 5 else s.obj 0x2121 5) announced
        (List.range 12).foldl (fun s q => if s.bit 0x2130 8 q then s.tell (.sentence q text) else s) s

/-! ### Settings -/

/-- What follows a write of this chapter at its boundary: a width or cable compensation waits for its pulse (R149), a new order of the
sources takes another source at the next second boundary (R123, R125; log entry 44). -/
def State.timeApplied (s : State) (i sub stamp : Nat) (new : Int) : State :=
  if (i = 0x2120 ∨ i = 0x2121) ∧ (sub = 3 ∨ sub = 4) then
    { s with clock := { s.clock with
      ppsPending := s.clock.ppsPending ++ [{ key := okey i sub, val := new, writtenAt := s.now - (s.mt - stamp) }] } }
  else if i = 0x2100 ∧ sub = 6 ∧ s.steersTime ∧ s.clock.state ≠ .unset then
    match s.selectedSource, s.bestSource with
    | some c, some b => if c = b then s else s.awaitChange (some b)
    | some _, none => s.enterHoldover
    | none, b => s.awaitChange b
  else s

/-! ### PTP -/

/-- Configured PHY latency in ps: subindex 0Ch to 0Fh by port 1 or 2, ingress or egress (R135). -/
def State.phyPs (s : State) (inst port : Nat) (egress : Bool) : Int :=
  1000 * s.obj (0x2110 + inst) (0x0C + (if port = 2 then 2 else 0) + (if egress then 1 else 0))

/-- A pad stamp at the resolution of 0.5 ns (R135). -/
def halfNs (ps : Int) : Int := 500 * roundHalfEven ((ps : Rat) / 500)

/-- clockClass this manager announces, none while it is slave-only (R139). -/
def State.clockClass (s : State) : Option Nat :=
  if ¬ (s.isManager ∧ s.clock.gnssSet) then none
  else if s.clock.state = .locked ∧ s.obj 0x2100 0x05 = 1 then some 6
  else if s.clock.state = .holdover then some (if s.clock.ppsQual then 7 else 52)
  else none

/-- Lexicographic order of the default data sets (best master clock algorithm, Table 4-2). -/
def betterMaster : List Nat → List Nat → Bool
  | [], _ => false
  | _, [] => false
  | a :: as, b :: bs => if a < b then true else if b < a then false else betterMaster as bs

/-- A PTP instance. -/
def State.ptpInst (s : State) (inst : Nat) : PtpInst := nth {} s.clock.ptp inst

/-- A PTP instance changed. -/
def State.modPtp (s : State) (inst : Nat) (f : PtpInst → PtpInst) : State :=
  { s with clock := { s.clock with ptp := modifyNth f s.clock.ptp inst } }

/-- Nanoseconds of a logarithmic message interval of 0 or less. -/
def intervalNs (log : Int) : Nat := 1000000000 / 2 ^ log.natAbs

/-- Announce interval and the time without an Announce after which a master is no longer heard, ns (log entry 12). -/
def announceNs : Nat := 2000000000
/-- Three announce intervals. -/
def announceOutNs : Nat := 6000000000

/-- The data set this module's ordinary clock announces, none while it is slave-only. -/
def State.ownDataSet (s : State) (inst : Nat) : Option (List Nat) :=
  s.clockClass.map fun c =>
    [s.nat (0x2110 + inst) 4, c, Config.clockAccuracy, Config.clockVariance, s.nat (0x2110 + inst) 5, s.nat 0x1018 4]

/-- The best foreign master that is heard. -/
def State.bestForeign (s : State) (inst : Nat) : Option (List Nat) :=
  ((s.ptpInst inst).foreign.filter fun (q : List Nat × Nat) => decide (s.now < q.2 + announceOutNs)).foldl
    (fun b q => match b with
      | none => some q.1
      | some x => some (if betterMaster q.1 x then q.1 else x)) none

/-- Port state of the ordinary clock (2110h:08, IEEE 1588): initializing before the ports are enabled or where the mode is not 01h,
else slave of the best master heard, master where this clock is better, listening where there is none (R134, R139). -/
def State.ptpState (s : State) (inst : Nat) : Nat :=
  if ¬ s.isManager ∨ ¬ s.power.portsOn ∨ s.obj (0x2110 + inst) 1 ≠ 1 then 1
  else match s.bestForeign inst, s.ownDataSet inst with
    | some f, some own => if betterMaster f own then 9 else 6
    | some _, none => 9
    | none, some _ => 6
    | none, none => 4

/-- The offset of source `n`, as a twin that follows its partner measures it, of the highest source of 2100h:06 that is qualified
(2100h:12, R157; which of several the manual does not say: log entry 12). -/
def State.ownOffset (s : State) (n : Nat) (offsetPs : Int) : State :=
  if s.isManager ∧ s.clock.state = .following ∧ s.bestSource = some n then
    s.setObj 0x2100 0x12 (clampInt (-2147483648) 2147483647 offsetPs)
  else s

/-- The offset from master and its servo, once a Sync has its origin time (R122, R124). -/
def State.ptpOffset (s : State) (inst : Nat) (t1 t2 : Int) : State :=
  let off := t2 - t1 - s.obj (0x2110 + inst) 0x0B
  let s := s.setObj (0x2110 + inst) 0x0A (clampInt (-9223372036854775808) 9223372036854775807 off)
  let slave := s.ptpState inst = 9
  let s := s.modPtp inst fun p => { p with t1 := t1, t2 := t2, syncSeq := none }
  let s := { s with clock := { s.clock with
    syncRun := modifyNth (fun n => if slave then n + 1 else 0) s.clock.syncRun inst
    offsets := modifyNth (fun _ => off) s.clock.offsets (inst + 1) } }
  if s.steersTime ∧ s.selectedSource = some (inst + 1) then s.servo (inst + 1) off
  else s.ownOffset (inst + 1) off

/-- The masters heard have changed (R126, R134): the grandmaster is that of the best one while this clock is its slave; a clock that is
slave of none has lost the source. -/
def State.judgeMasters (s : State) (inst : Nat) : State :=
  match decide (s.ptpState inst = 9), s.bestForeign inst with
  | true, some f => s.newGrandmaster inst (f.getD 5 0)
  | _, _ => s.loseSource (inst + 1)

/-- Whether one of this clock's own messages may leave: Announce 0, Sync 1, Delay_Req 2, at its interval. -/
def State.ptpMaySend (s : State) (inst kind gapNs : Nat) : Bool :=
  match nth none (s.ptpInst inst).sentAt kind with
  | some a => decide (a + gapNs ≤ s.now)
  | none => true

/-- One of this clock's own messages leaves: its sequence number counts. -/
def State.ptpSent (s : State) (inst kind : Nat) : Nat × State :=
  let n := (nth 0 (s.ptpInst inst).sentNo kind + 1) % 65536
  (n, s.modPtp inst fun p => { p with
    sentAt := modifyNth (fun _ => some s.now) p.sentAt kind, sentNo := modifyNth (fun _ => n) p.sentNo kind })

/-- PTP_EVENT_RX (R134, R135, R138, R139): one message at the ordinary clock of NET-A (0) or NET-B (1), stamped at the pads as it
arrives or leaves. Of received messages those of its domain and transport count, multicast only. -/
def execPtpEventRx (t inst port : Nat) (head : PtpHead) (msg : PtpMsg) (s : State) : Host.Outcome State Fault Refusal :=
  s.ported t fun s =>
    let o := 0x2110 + inst
    let foreign := decide ((head.domain : Int) ≠ s.obj o 2) || decide (head.ethernet ≠ decide (s.obj o 3 = 1)) || head.unicast
    if 2 ≤ inst ∨ s.obj o 1 ≠ 1 ∨ ¬ s.isManager then s
    else
      let p := s.ptpInst inst
      let rx := halfNs s.mtPs - s.phyPs inst port false
      let tx := halfNs s.mtPs + s.phyPs inst port true
      let heard (s' : State) : State := if foreign then s else s'
      match msg with
      | .sync n twoStep origin corr =>
        heard (if twoStep then s.modPtp inst fun p => { p with syncSeq := some n, syncRx := rx, syncCorr := corr }
          else s.ptpOffset inst (origin + corr) rx)
      | .followUp n origin corr =>
        heard (if p.syncSeq = some n then s.ptpOffset inst (origin + p.syncCorr + corr) p.syncRx else s)
      | .delayReq n corr => heard (if s.ptpState inst = 6 then s.tell (.ptpDelayResp inst n rx corr) else s)
      | .delayResp n recv corr =>
        heard (if p.delaySeq = some n then
          let delay := ((p.t2 - p.t1) + (recv - corr - p.t3)) / 2
          let s := s.modPtp inst fun p => { p with delaySeq := none }
          let s := s.setObj o 0x0B (clampInt 0 0xFFFFFFFF delay)
          let slave := s.ptpState inst = 9
          { s with clock := { s.clock with delayRun := modifyNth (fun k => if slave then k + 1 else 0) s.clock.delayRun inst } }
        else s)
      | .announce p1 cls acc var p2 ident taiUtc leap =>
        heard (let s := s.modPtp inst fun p => { p with
            foreign := p.foreign.filter (fun (q : List Nat × Nat) => decide (q.1.getD 5 0 ≠ ident)) ++ [([p1, cls, acc, var, p2, ident], s.now)] }
          let s := s.judgeMasters inst
          if s.selectedSource = some (inst + 1) ∧ s.obj o 9 = ident then s.putUtc taiUtc leap else s)
      | .management => s
      | .unsupported => s
      | .sendAnnounce =>
        match decide (s.ptpState inst = 6) && s.ptpMaySend inst 0 announceNs, s.ownDataSet inst with
        | true, some d =>
          let (n, s) := s.ptpSent inst 0
          s.tell (.ptpAnnounce inst n d (s.obj 0x2100 0x0F) (s.nat 0x2100 0x10))
        | _, _ => s
      | .sendSync =>
        if s.ptpState inst = 6 ∧ s.ptpMaySend inst 1 (intervalNs (s.obj o 6)) then
          let (n, s) := s.ptpSent inst 1
          (s.tell (.ptpSync inst n)).tell (.ptpFollowUp inst n tx)
        else s
      | .sendDelayReq =>
        if s.ptpState inst = 9 ∧ s.ptpMaySend inst 2 (intervalNs (s.obj o 7)) then
          let (n, s) := s.ptpSent inst 2
          (s.modPtp inst fun p => { p with delaySeq := some n, t3 := tx }).tell (.ptpDelayReq inst n)
        else s
      | .announceTimeout =>
        (s.modPtp inst fun p => { p with
          foreign := p.foreign.filter fun (q : List Nat × Nat) => decide (s.now < q.2 + announceOutNs) }).judgeMasters inst

/-- PTP_TRANSPARENT_FORWARD (R136 to R138): the residence time between the two external ports of one network, PHY latencies included,
is added to the correctionField of a Sync or Delay_Req as it passes, and of a two-step Sync to that of its Follow_Up; general
messages, and messages to or from the internal ordinary clock, pass as they are. -/
def execPtpTransparentForward (t inst : Nat) (fromPort1 : Bool) (kind : PtpFwd) (ingressPs egressPs correctionPs : Int)
    (s : State) : Host.Outcome State Fault Refusal :=
  s.ported t fun s =>
    if 2 ≤ inst ∨ s.obj (0x2110 + inst) 1 = 0 then s
    else
      let inPort := if fromPort1 then 1 else 2
      let outPort := if fromPort1 then 2 else 1
      let residence := halfNs egressPs + s.phyPs inst outPort true - (halfNs ingressPs - s.phyPs inst inPort false)
      let one (n : Nat) (q : Bool × Nat × Int) : Bool := decide (q.1 = fromPort1) && decide (q.2.1 = n)
      let pass (s : State) (add : Int) : State := s.tell (.ptpForward inst fromPort1 (correctionPs + add))
      match kind with
      | .sync n true =>
        pass (s.modPtp inst fun p => { p with residence := (p.residence.filter fun q => !one n q) ++ [(fromPort1, n, residence)] }) 0
      | .sync _ false => pass s residence
      | .delayReq => pass s residence
      | .followUp n =>
        let add : Int := match (s.ptpInst inst).residence.find? (one n) with
          | some q => q.2.2
          | none => 0
        pass (s.modPtp inst fun p => { p with residence := p.residence.filter fun q => !one n q }) add
      | .general => pass s 0
      | .internal => pass s 0

end Sys2Proof.Machine
end

