-- ==== Sys2Proof/Machine/Gnss.lean ====
section
/-! DEFINITION. The IF ports and channel assignment of chapter 5: framing, port faults, front-end initialisation, lane test, levels,
which channels run, and what a setting of the chapter does when it takes effect. -/

namespace Sys2Proof.Machine

open Sys2Proof

/-- The stream of port `p` that a signal is placed on: the lowest-numbered enabled one whose band holds it (R174). -/
def State.placeSignal (s : State) (p sig : Nat) (k : Int) : Option Nat :=
  let band := halfBandHz (s.nat (0x3000 + p) 2 % 4)
  (List.range 4).find? fun st =>
    let lo := s.obj (0x3010 + 4 * p + st) 1
    s.bit (0x3000 + p) 3 st && decide (lo ≠ 0) &&
      decide (lo - band ≤ carrierHz sig k - halfWidthHz sig) && decide (carrierHz sig k + halfWidthHz sig ≤ lo + band)

/-! ### Channels -/

/-- A channel that is not OFF. -/
def State.chan (s : State) (i : Nat) : Option Chan := s.gnss.chans.find? (·.idx = i)

/-- Code of a channel state (Table 5-5). -/
def ChanState.code : ChanState → Nat
  | .off => 0 | .search => 1 | .pullin => 2 | .fll => 3 | .pll => 4 | .reacq => 5

/-- Whether a channel has the synchronisation R187 asks for: bit or symbol on data-only signals, secondary code on pilots. -/
def Chan.synced (c : Chan) : Bool := if isDataOnly c.signal then c.bitSync else c.secSync

/-- Primary periods of the integration under way (R187): one until synchronised and in PULLIN; then the setting, once it begins on a
boundary it is aligned to, and one until then. A BeiDou GEO satellite uses 1 or 2 ms (Table 5-3). -/
def State.integrationPeriods (s : State) (c : Chan) : Nat :=
  if c.state = .pullin ∨ ¬ c.synced then 1
  else
    let set := s.nat (0x3040 + c.signal) 6
    let set := if c.sat.geo ∧ (baseSignal c.signal = 8 ∨ baseSignal c.signal = 0xB) then min set 2 else set
    let n := max 1 (set / primaryMs c.signal)
    let at' := (c.period + n * (c.bitOffset + 1) - c.bitOffset) % n
    if isDataOnly c.signal ∧ at' ≠ 0 then 1 else n

/-- Integration time in use, in ms (R187). -/
def State.integrationMs (s : State) (c : Chan) : Nat := s.integrationPeriods c * primaryMs c.signal

/-- Milliseconds in PLL since the latest entry or possible slip (R201). -/
def lockTimeMs (now : Nat) (c : Chan) : Nat :=
  match c.lockFrom with
  | some f => min ((now - f) / 1000000) 0xFFFFFFFF
  | none => 0

/-- The status objects of a channel (Table 5-12), as its state gives them; flag [7] is sticky and kept. -/
def State.showChan (s : State) (c : Chan) : State :=
  let i := 0x3100 + c.idx
  let sticky := s.bit i 8 7
  let flags : Nat := (if c.bitSync then 1 else 0) + (if c.secSync then 2 else 0) + (if c.halfCycle then 4 else 0)
    + (if c.state = .fll ∨ c.state = .pll then 8 else 0) + (if c.state = .pll then 16 else 0)
    + (if c.codeLock then 32 else 0) + (if c.multipath then 64 else 0) + (if sticky then 128 else 0)
    + (if c.cn0Low then 256 else 0) + (if c.cn0High then 512 else 0)
  s.setObjs [(i, 1, c.state.code), (i, 2, c.signal),
    (i, 3, c.sat.number % 256 + 256 * c.sat.system + 4096 * c.stream), (i, 4, c.sat.freqK),
    (i, 6, clampInt (-2147483648) 2147483647 (roundHalfEven (c.f * 1000))), (i, 8, flags),
    (i, 9, lockTimeMs s.now c), (i, 0x0C, s.integrationMs c)]

/-- A channel put in place of the one with its index. -/
def State.putChan (s : State) (c : Chan) : State :=
  let lower := s.gnss.chans.filter fun (k : Chan) => k.idx < c.idx
  let upper := s.gnss.chans.filter fun (k : Chan) => c.idx < k.idx
  { s with gnss := { s.gnss with chans := lower ++ c :: upper } }.showChan c

/-- Channels in use of a port (3000h:0D). -/
def State.countChans (s : State) (p : Nat) : State :=
  s.setObj (0x3000 + p) 0x0D ((s.gnss.chans.filter fun (k : Chan) => k.idx / 128 = p).length : Nat)

/-- A channel goes to OFF: its jobs are dropped and its objects return to OFF (Table 5-6). -/
def State.chanOff (s : State) (i : Nat) : State :=
  match s.chan i with
  | none => s
  | some _ =>
    let run := s.gnss.run.map fun (r : AcqRun) => { r with channels := r.channels.filter fun x => x.1 ≠ i }
    let s := { s with gnss := { s.gnss with
      chans := s.gnss.chans.filter fun (k : Chan) => k.idx ≠ i
      queue := s.gnss.queue.filter fun (q : AcqJob) => q.channel ≠ i
      run := run } }
    let o := 0x3100 + i
    let sticky := if s.bit o 8 7 then 128 else 0
    (s.setObjs [(o, 1, 0), (o, 2, 255), (o, 3, 0), (o, 4, 0), (o, 5, 150), (o, 6, 0), (o, 7, 0), (o, 8, sticky),
      (o, 9, 0), (o, 0x0B, 0), (o, 0x0C, 0)]).countChans (i / 128)

/-- Every channel that satisfies `p` goes to OFF. -/
def State.chansOff (s : State) (p : Chan → Bool) : State :=
  (s.gnss.chans.filter p).foldl (fun s c => s.chanOff c.idx) s

/-- A possible slip: slip count, lock time and half-cycle flag (R201, R202). -/
def State.slip (s : State) (c : Chan) : State × Chan :=
  (s.setObj (0x3100 + c.idx) 0x0A ((s.obj (0x3100 + c.idx) 0x0A + 1) % 256),
   { c with lockFrom := if c.state = .pll then some s.now else none, halfCycle := false })

/-- A search request joins the queue (R183); none is ever formed for a signal marked "Aided only" (R182). -/
def State.queueJob (s : State) (cls : JobClass) (i : Nat) : State :=
  if s.gnss.chans.any fun c => decide (c.idx = i) && isAidedOnly c.signal then s
  else { s with gnss := { s.gnss with queue := s.gnss.queue ++ [{ cls := cls, channel := i }] } }

/-! ### Ports -/

/-- A port's record changed. -/
def State.modPort (s : State) (p : Nat) (f : IfPort → IfPort) : State :=
  { s with gnss := { s.gnss with ports := modifyNth f s.gnss.ports p } }

/-- The port's record. -/
def State.ifPort (s : State) (p : Nat) : IfPort := nth {} s.gnss.ports p

/-- A fault of port `p` takes its baselines to NONE (Table 6-5). -/
def State.dropBaselines (s : State) (p : Nat) : State :=
  let s := { s with gsol := { s.gsol with
    gb := if p = 2 then s.gsol.gb else {}, gc := if p = 1 then s.gsol.gc else {} } }
  s.setObjs ((if p = 2 then [] else [(0x3320, 8, 0)]) ++ (if p = 1 then [] else [(0x3320, 9, 0)]))

/-- A port fault (R167): channels to OFF, count, alarm and event; a fault in force is not declared again. -/
def State.portFault (s : State) (p : Nat) : State :=
  if s.bit (0x3000 + p) 8 3 then s
  else
    let s := s.chansOff fun (k : Chan) => k.idx / 128 = p
    let s := (s.count .data (0x3000 + p) 0x0A).dropBaselines p
    let s := (s.setBit (0x3000 + p) 8 3 true).setBit (0x3000 + p) 8 2 false
    let s := s.modPort p fun q => { q with faultAt := some s.now, searching := false, errRun := 0, lastErr := none, stamps := [] }
    (s.alarm .data (0x3000 + p) 8 1).event .data (0x3000 + p) 0x0A 3

/-- The mark of a port fault and its alarm end, and the port searches for framing lock (R167; log entry 15). -/
def State.portSearch (s : State) (p : Nat) : State :=
  let s := (s.setBit (0x3000 + p) 8 3 false).unalarm .data (0x3000 + p) 8 1
  s.modPort p fun q => { q with faultAt := none, searching := true, errRun := 0, lastErr := none }

/-- The port searches for framing lock again with its channels OFF (R206); after a fault that fell in the cycle this boundary ends,
only when the delay of R167 from this boundary is over (R207). -/
def State.portRestart (s : State) (p : Nat) : State :=
  let s := s.chansOff fun (k : Chan) => k.idx / 128 = p
  let s := (s.setBit (0x3000 + p) 8 2 false).modPort p fun q => { q with stamps := [], lastErr := none }
  match (s.ifPort p).faultAt with
  | some f =>
    if s.now < f + (if s.isManager then s.tcNs else tsNs (s.obj 0x6000 1)) then s.modPort p fun q => { q with faultAt := some s.now, searching := false }
    else s.portSearch p
  | none => s.portSearch p

/-- Whether the port runs channels: enabled, not in its lane test (R171). -/
def State.portTracks (s : State) (p : Nat) : Bool := decide (s.obj (0x3000 + p) 1 = 1)

/-- Groups of four levels. -/
def fours : List Bool → List (List Bool)
  | a :: b :: c :: d :: rest => [a, b, c, d] :: fours rest
  | _ => []

/-- FRAMING_LOCK (R161, R165): the levels of Gx_FRM over the edges of 64 consecutive samples on a port that searches; the port locks
when each sample's pattern is 1000b. Samples are counted from here. -/
def execFramingLock (t port : Nat) (frm : List Bool) (s : State) : Host.Outcome State Fault Refusal :=
  s.live t fun s =>
    let good := decide (frm.length = 256) && (fours frm).all framedOk
    if 3 ≤ port ∨ s.obj (0x3000 + port) 1 = 0 ∨ ¬ s.bit (0x3000 + port) 8 4 ∨ ¬ (s.ifPort port).searching ∨ ¬ good then s
    else (s.setBit (0x3000 + port) 8 2 true).modPort port fun q =>
      { q with searching := false, errRun := 0, lastErr := none, stamps := [] }

/-- FRAMING_ERROR (R165, R167): a sample whose pattern is not 1000b is counted (it passes to the channels as zero, `State.sample`);
the third in a row faults the port. -/
def execFramingError (t port sampleNo : Nat) (frm : List Bool) (s : State) : Host.Outcome State Fault Refusal :=
  s.live t fun s =>
    if 3 ≤ port ∨ ¬ s.bit (0x3000 + port) 8 2 ∨ framedOk frm ∨ (s.ifPort port).lastErr.any (sampleNo ≤ ·) then s
    else
      let s := s.count .data (0x3000 + port) 9
      let n := if (s.ifPort port).lastErr.any (· + 1 = sampleNo) then (s.ifPort port).errRun + 1 else 1
      let s := s.modPort port fun q => { q with errRun := n, lastErr := some sampleNo }
      if 3 ≤ n then s.portFault port else s

/-- The TIME island stamps the Gx_FRM edge of the first sample after a whole millisecond of module time (R168). -/
def State.stampSample (s : State) (port sampleNo : Nat) : State :=
  let fresh := match (s.ifPort port).stamps with
    | (n, ps) :: _ => decide (n < sampleNo) && decide (ps / 1000000000 < s.finePs / 1000000000)
    | [] => true
  let first := decide (s.finePs % 1000000000 * (s.sampleHz port : Int) < 1000000000000)
  if s.bit (0x3000 + port) 8 2 && fresh && first then
    s.modPort port fun q => { q with stamps := (sampleNo, s.finePs) :: q.stamps.take 1 }
  else s

/-- IF_CLOCK_CHECK (R166, R168): each millisecond the measured clock is held against twice the sample rate, in mHz, on every port,
and the first sample after the millisecond is stamped at its edge; a clock out of range faults a port that is on. -/
def execIfClockCheck (t port milliHz sampleNo : Nat) (s : State) : Host.Outcome State Fault Refusal :=
  s.live t fun s =>
    if 3 ≤ port then s
    else
      let want := ifClockHz (s.nat (0x3000 + port) 2 % 4) * 1000
      let off := ((milliHz : Int) - want).natAbs
      let inRange := decide (off * 1000000 ≤ 20 * want)
      let s := (s.setBit (0x3000 + port) 8 0 (decide (0 < milliHz))).setBit (0x3000 + port) 8 1 inRange
      if s.obj (0x3000 + port) 1 = 0 then s
      else if inRange then s.stampSample port sampleNo else s.portFault port

/-- PORT_FAULT (R167). -/
def execPortFault (t port : Nat) (cause : PortFaultCause) (s : State) : Host.Outcome State Fault Refusal :=
  s.live t fun s =>
    if 3 ≤ port ∨ s.obj (0x3000 + port) 1 = 0 then s
    else
      let s := match cause with
        | .framing => s
        | .range => s.setBit (0x3000 + port) 8 1 false
        | .absent => (s.setBit (0x3000 + port) 8 0 false).setBit (0x3000 + port) 8 1 false
      s.portFault port

/-- PORT_RETRY (R167): 1 s after a fault the port searches again; its fault mark and alarm end here (DESIGN CHOICE, log entry 15). -/
def execPortRetry (t port : Nat) (s : State) : Host.Outcome State Fault Refusal :=
  s.live t fun s =>
    match (s.ifPort port).faultAt with
    | some f =>
      if f + 1000000000 ≤ s.now then
        s.portSearch port
      else s
    | none => s

/-- The entries of a front-end initialisation sequence: bytes sent and the delay after them in µs (R169). -/
def initEntries : Nat → List Byte → List (List Byte × Nat)
  | 0, _ => []
  | _, [] => []
  | fuel + 1, n :: rest =>
    if n.toNat = 0 ∨ 8 < n.toNat then []
    else (rest.take n.toNat, 100 * ((rest.drop n.toNat).head?.getD 0).toNat) :: initEntries fuel (rest.drop (n.toNat + 1))

/-- Whether every length byte of a sequence is at most 8 (R170). -/
def initLegal : Nat → List Byte → Bool
  | 0, _ => true
  | _, [] => true
  | fuel + 1, n :: rest =>
    if n.toNat = 0 then true else if 8 < n.toNat then false else initLegal fuel (rest.drop (n.toNat + 1))

/-- FRONTEND_INIT (R169, R170): the sequence of 3000h:07 goes out over the port's SPI pads; its end is reported and the
port then searches for framing lock. -/
def execFrontendInit (t port : Nat) (s : State) : Host.Outcome State Fault Refusal :=
  s.live t fun s =>
    if 3 ≤ port ∨ ¬ s.power.resetsReleased ∨ s.obj 0x3340 4 = 1 ∨ ¬ (s.ifPort port).initPending then s
    else
      let b := s.blob (0x3000 + port) 7
      let s := s.tell (.spi port (initEntries b.length b))
      let s := s.setBit (0x3000 + port) 8 4 true
      s.modPort port fun q => { q with initPending := false, searching := q.faultAt.isNone }

/-- Root of a ratio of naturals in hundredths, to the nearest. -/
def rootHundredths (num den : Nat) : Nat := (Nat.sqrt (40000 * num / max den 1) + 1) / 2

/-- STREAM_LEVEL_CHECK (R163, R172): how often each of the 16 codes stood in the components of a stream over 1 ms. The RMS level of
the decoded components goes to 301xh:03; a level below 2.0, or more than 2 % of the components at ±15 (-8 and +7 in format 01h),
sets its sticky alarm. -/
def execStreamLevelCheck (t port stream : Nat) (counts : List Nat) (s : State) : Host.Outcome State Fault Refusal :=
  s.live t fun s =>
    let total := counts.foldl (· + ·) 0
    if 3 ≤ port ∨ 4 ≤ stream ∨ ¬ s.portTracks port ∨ ¬ s.bit (0x3000 + port) 3 stream ∨ ¬ s.bit (0x3000 + port) 8 2 ∨ total = 0 then s
    else
      let format := s.nat (0x3000 + port) 4
      let level (c : Nat) : Int := decodeSample format c
      let square := (List.range 16).foldl (fun a c => a + nth 0 counts c * (level c * level c).toNat) 0
      let ends (c : Nat) : Bool := if format = 0 then decide ((level c).natAbs = 15) else decide (level c = -8) || decide (level c = 7)
      let clipped := (List.range 16).foldl (fun a c => a + (if ends c then nth 0 counts c else 0)) 0
      let i := 0x3010 + 4 * port + stream
      let s := s.setObj i 3 (min (rootHundredths square total) 1500 : Nat)
      let s := s.raiseBit i 4 0 (decide (square < 4 * total))
      s.raiseBit i 4 1 (decide (2 * total < 100 * clipped))

/-- One bit of a lane through its checker (R171): x^7 + x^6 + 1, 32 bits; the number is what this bit counts (log entry 15). -/
def LaneCheck.bit (c : LaneCheck) (b : Bool) : LaneCheck × Nat := c.take 7 6 32 false b

/-- Several bits of a lane, first to last, and the errors counted. -/
def LaneCheck.run' (c : LaneCheck) : List Bool → LaneCheck × Nat
  | [] => (c, 0)
  | b :: rest =>
    let (c, n) := c.bit b
    let (d, m) := c.run' rest
    (d, n + m)

/-- IF_LANE_CHECKER_LOCK (R171): the bits that arrived on a lane in the lane test, one per edge, since the last such command. -/
def execIfLaneCheckerLock (t port lane : Nat) (bits : List Bool) (s : State) : Host.Outcome State Fault Refusal :=
  s.live t fun s =>
    if 3 ≤ port ∨ 8 ≤ lane ∨ s.obj (0x3000 + port) 1 ≠ 2 then s
    else
      let (c, errors) := (nth {} (s.ifPort port).lanes lane).run' bits
      let s := if 0 < errors then (s.countBy .data (0x3000 + port) 0x0B errors).setBit (0x3000 + port) 0x0C lane true else s
      let s := s.modPort port fun q => { q with lanes := modifyNth (fun _ => c) q.lanes lane }
      s.setBit (0x3000 + port) 8 5 ((s.ifPort port).lanes.all (·.locked))

/-! ### Assignment -/

/-- The channel's loops start at a frequency, a code position and a sample: v and a from Doppler and zero rate (R192). -/
def State.startLoops (s : State) (k : Chan) (f : Rat) (code : Int) (sample : Nat) : Chan :=
  let cs := s.carrierStep k f
  let ds := s.codeRate k f 0
  let goal := (primaryChips k.signal : Int) * nco48
  let wait : Int := (goal - code + ds - 1) / max 1 ds
  { k with
    state := .pullin, v := f, f := f, a := 0, slope := 0, tau := 0, next := sample + wait.toNat, code := code + wait * ds - goal
    carrStep := cs, carrNew := cs, codeStep := ds, codeNew := ds, newFrom := 0, carr := 0, accum := 0, period := 0
    txPs := none, signs := [], bins := [], binned := 0, havePrev := false, misses := 0, goodFll := 0, goodPll := 0
    lowNs := 0, win := {}, full := none, bigPhase := false, sideRun := 0, stateFrom := s.now }

/-- The channel of the satellite on the port that is in PLL, from which another of its signals may be handed over (Table 5-6). -/
def State.pllChannel (s : State) (port : Nat) (sat : SatId) : Option Chan :=
  s.gnss.chans.find? fun k => decide (k.idx / 128 = port) && decide (k.sat = sat) && decide (k.state = .pll)

/-- Hand-over (Table 5-6): the new channel takes Doppler and code phase from one in PLL. The time since its last bit boundary,
within the new signal's primary period, gives the code phase. -/
def State.handOver (s : State) (k from' : Chan) : Chan :=
  let x := (s.sampleAt (k.idx / 128) s.mtPs - from'.next).floor
  let x : Nat := x.toNat
  let bit := max 1 (bitMs from'.signal from'.sat.geo / primaryMs from'.signal)
  let periods := (from'.period + bit - from'.bitOffset % bit) % bit
  let sec : Rat := (periods * primaryMs from'.signal : Nat) / 1000
    + from'.codeAt x / ((chipRateHz from'.signal : Rat) * (nco48 : Rat))
  let span : Rat := (primaryMs k.signal : Rat) / 1000
  let part := sec - (sec / span).floor * span
  let f := from'.f * carrierHz k.signal k.sat.freqK / carrierHz from'.signal from'.sat.freqK
  s.startLoops k f ((part * (chipRateHz k.signal : Rat) * (nco48 : Rat)).floor) (from'.next + x)

/-- The lowest channel of a port that is OFF (log entry 16). -/
def State.freeChan (s : State) (port : Nat) : Option Nat :=
  (List.range 128).find? fun c => (s.chan (128 * port + c)).isNone

/-- Whether a channel of the port already has the signal of the satellite (R175); a blind GLONASS channel has only its frequency
number. -/
def State.alreadyOn (s : State) (port sig : Nat) (sat : SatId) : Bool :=
  s.gnss.chans.any fun k => decide (k.idx / 128 = port ∧ k.signal = sig ∧ k.sat.system = sat.system) &&
    (if k.sat.number = 0 ∨ sat.number = 0 then decide (k.sat.freqK = sat.freqK) else decide (k.sat.number = sat.number))

/-- Whether a signal of a satellite takes a channel of the port: enabled, placed and not yet on one. -/
def State.mayAssign (s : State) (port sig : Nat) (sat : SatId) : Bool :=
  s.bit (0x3000 + port) 5 sig && (s.placeSignal port sig sat.freqK).isSome && !(s.alreadyOn port sig sat)

/-- One signal of one satellite is given a channel (R174, R175): a search around the prediction, or for a signal marked "Aided only"
a hand-over where the satellite has a channel in PLL, and nothing elsewhere. -/
def State.assignSignal (port : Nat) (pr : SatPrediction) (s : State) (sig : Nat) : State :=
  match s.freeChan port with
  | none => s
  | some c =>
    if ¬ (pr.sat.fits sig && s.mayAssign port sig pr.sat) then s
    else
      let hz : Rat := (carrierHz sig pr.sat.freqK : Rat)
      let milli (pico : Int) : Int := roundHalfEven (hz * pico / 1000000000)
      let base : Chan := { idx := 128 * port + c, state := .search, signal := sig, sat := pr.sat
                           stream := (s.placeSignal port sig pr.sat.freqK).getD 0, blind := false, stateFrom := s.now
                           centreMilli := milli pr.dopplerPico, sigmaMilli := milli pr.sigmaPico }
      if isAidedOnly sig then
        match s.pllChannel port pr.sat with
        | some k => (s.putChan (s.handOver base k)).countChans port
        | none => s
      else ((s.putChan base).queueJob .aided base.idx).countChans port

/-- Predictions in descending elevation. -/
def insertSky (p : SatPrediction) : List SatPrediction → List SatPrediction
  | [] => [p]
  | q :: rest => if q.elevation10 < p.elevation10 then p :: q :: rest else q :: insertSky p rest

/-- The satellites at or above the mask, highest first. -/
def State.skyAbove (s : State) (port : Nat) (sky : List SatPrediction) : List SatPrediction :=
  (sky.filter fun p => decide (10 * s.obj (0x3000 + port) 6 ≤ p.elevation10)).foldr insertSky []

/-- Every satellite or frequency number of every enabled signal, ascending (R176). -/
def State.blindList (s : State) (port : Nat) : List (Nat × SatId) :=
  (List.range 0x14).flatMap fun sig =>
    if ¬ s.bit (0x3000 + port) 5 sig ∨ isAidedOnly sig then []
    else if signalSystem sig = 3 then (List.range 14).map fun n => (sig, { system := 3, number := 0, freqK := (n : Int) - 7 })
    else (systemNumbers (signalSystem sig)).map fun n => (sig, { system := signalSystem sig, number := n })

/-- One place of the blind run: a channel, if one is free and the signal fits, and the place after it. -/
def State.assignBlind (port : Nat) (s : State) (x : Nat × Nat × SatId) : State :=
  match s.freeChan port with
  | none => s
  | some c =>
    let (place, sig, sat) := x
    if ¬ s.mayAssign port sig sat then s
    else
      let base : Chan := { idx := 128 * port + c, state := .search, signal := sig, sat := sat
                           stream := (s.placeSignal port sig sat.freqK).getD 0, blind := true, stateFrom := s.now }
      (((s.putChan base).queueJob .blind base.idx).countChans port).modPort port fun q => { q with blindNext := place + 1 }

/-- Position and time within ±2 s (R176): module time set, and a combined fix or a kept position (log entry 16). -/
def State.placeTime (s : State) : Bool :=
  decide (s.clock.state ≠ .unset) && (decide (s.obj 0x3313 1 ≠ 0) || s.mram.kept.any fun (p : KeptItem × Nat) =>
    match p.1 with | .position _ _ _ _ => true | _ => false)

/-- Numbered elements of a list. -/
def numbered {α : Type} : Nat → List α → List (Nat × α)
  | _, [] => []
  | n, a :: rest => (n, a) :: numbered (n + 1) rest

/-- CHANNEL_ASSIGN (R175, R176, Table 5-6): P1 gives the free channels of a port to the predicted satellites, highest first and each
one's signals in order of number; without position and time, blind, from where the last blind run ended. -/
def execChannelAssign (t port : Nat) (sky : List SatPrediction) (s : State) : Host.Outcome State Fault Refusal :=
  s.live t fun s =>
    if 3 ≤ port ∨ ¬ s.portTracks port ∨ ¬ s.bit (0x3000 + port) 8 2 ∨ s.obj 0x3340 4 = 1 then s
    else if s.placeTime then
      (s.skyAbove port sky).foldl (fun s p => (List.range 0x14).foldl (State.assignSignal port p) s) s
    else
      let all := numbered 0 (s.blindList port)
      let at' := (s.ifPort port).blindNext % max 1 all.length
      (all.drop at' ++ all.take at').foldl (State.assignBlind port) s

/-- CHANNEL_RELEASE (R177): the satellite 2° below the mask, or marked unhealthy. -/
def execChannelRelease (t port c : Nat) (elevation10 : Int) (unhealthy : Bool) (s : State) :
    Host.Outcome State Fault Refusal :=
  s.live t fun s =>
    if 3 ≤ port ∨ 128 ≤ c then s
    else if unhealthy ∨ elevation10 ≤ 10 * s.obj (0x3000 + port) 6 - 20 then s.chanOff (128 * port + c) else s

/-! ### Settings (R190, R194, R206, R207) -/

/-- Consistency of a write to 3040h+n with the values that result after it (R194, Table 5-11). -/
def State.loopConsistent (s : State) (i sub : Nat) (v : Int) : Bool :=
  let g (n : Nat) : Int := if n = sub then v else s.latest i n
  decide (g 2 * g 6 ≤ if g 1 = 3 then 1500 else 2500) && decide (g 3 * g 6 ≤ 2500) && decide (g 4 * g 6 ≤ 2500) &&
  decide (g 0x0A < g 9)

/-- Aborts of a write to the objects of this chapter beyond its range column. -/
def State.gnssWriteAbort (s : State) (i sub : Nat) (v : Val) : Option Nat :=
  match v with
  | .bytes b =>
    if 0x3000 ≤ i ∧ i ≤ 0x3002 ∧ sub = 7 ∧ ¬ initLegal b.length b then some 0x06090030 else none
  | .num n =>
    if 0x3040 ≤ i ∧ i ≤ 0x3053 then
      if sub = 8 ∧ n = 1 ∧ isBoc (i - 0x3040) then some 0x06090030
      else if 1 ≤ sub ∧ sub ≤ 0x0A ∧ ¬ s.loopConsistent i sub n then some 0x06040043
      else none
    else none

/-- What follows a write of this chapter that has taken effect at its boundary (R206): `old` is the value before. -/
def State.gnssApplied (s : State) (i sub : Nat) (old new : Int) : State :=
  if 0x3000 ≤ i ∧ i ≤ 0x3002 then
    let p := i - 0x3000
    if sub = 1 ∧ old ≠ new then
      let s := (s.portRestart p).modPort p fun q =>
        { q with lanes := List.replicate 8 {}, initPending := q.initPending || decide (old = 0)
                 searching := q.searching && decide (new ≠ 0) && decide (old ≠ 0) }
      let s := s.setBit i 8 5 false
      if old = 0 then s.setBit i 8 4 false else s
    else if (sub = 2 ∨ sub = 3 ∨ sub = 4) ∧ old ≠ new then s.portRestart p
    else if sub = 7 ∧ old ≠ new then s.portRestart p
    else if sub = 5 then s.chansOff fun c => decide (c.idx / 128 = p) && !(new.toNat.testBit c.signal)
    else s
  else if 0x3010 ≤ i ∧ i ≤ 0x301B ∧ (sub = 1 ∨ sub = 2) ∧ old ≠ new then s.portRestart ((i - 0x3010) / 4)
  else s

end Sys2Proof.Machine
end

