-- ==== Sys2Proof/Machine/Acquire.lean ====
section
/-! DEFINITION. The acquisition engine of chapter 5 (R178 to R184): the queue of search jobs, the transforms of a job and its
detection. -/

namespace Sys2Proof.Machine

open Sys2Proof

/-! ### Jobs -/

/-- The coherent block a job for a signal uses (R182). -/
def jobCoherentMs (setting sig : Nat) : Nat :=
  let l := coherentAllowed sig
  match (l.filter (· ≤ setting)).getLast? with
  | some v => v
  | none => l.headD setting

/-- Rounded-up quotient. -/
def ceilDiv (a b : Nat) : Nat := (a + b - 1) / b

/-- Window centre of a channel in mHz: 0 for blind jobs, the prediction, or the coasted loop frequency (R182, R186). -/
def State.windowCentre (s : State) (cls : JobClass) (k : Chan) : Int :=
  match cls with
  | .blind => 0
  | .aided => k.centreMilli
  | .reacq => roundHalfEven ((k.f + k.slope * ((s.now - k.stateFrom : Nat) : Rat) / 1000000000) * 1000)

/-- ACQ_JOB_START (R178 to R183): the first request of the best class is served, with every queued request of the same
class, port, stream and signal in the same job (log entry 16). -/
def execAcqJobStart (t : Nat) (s : State) : Host.Outcome State Fault Refusal :=
  s.live t fun s =>
    if s.gnss.run.isSome then s
    else
      let pick (cls : JobClass) := s.gnss.queue.find? (·.cls = cls)
      match pick .reacq <|> pick .aided <|> pick .blind with
      | none => s
      | some j =>
        match s.chan j.channel with
        | none => { s with gnss := { s.gnss with queue := s.gnss.queue.filter (· ≠ j) } }
        | some k =>
          let same (q : AcqJob) : Bool := decide (q.cls = j.cls) && (match s.chan q.channel with
            | some o => decide (o.idx / 128 = k.idx / 128 ∧ o.stream = k.stream ∧ o.signal = k.signal)
            | none => false)
          let chans := (s.gnss.queue.filter same).filterMap fun q => s.chan q.channel
          let tc := jobCoherentMs (s.nat 0x3020 2) k.signal
          let nnc := s.nat 0x3020 3
          let sigma := chans.foldl (fun (m : Nat) c => max m c.sigmaMilli.toNat) 0
          let half : Nat := if j.cls = .blind then 1000 * s.nat 0x3020 1 else max (1000 * s.nat 0x3020 5) (3 * sigma)
          let nb := 2 * ceilDiv (half * 2 * tc) 1000000 + 1
          let nt := nnc * (2 + chans.length * nb) + chans.length
          { s with gnss := { s.gnss with
              queue := s.gnss.queue.filter fun q => ¬ same q
              run := some { cls := j.cls, channels := chans.map fun c => (c.idx, s.windowCentre j.cls c)
                            port := k.idx / 128, stream := k.stream, signal := k.signal, tcohMs := tc, blocks := nnc
                            falseAlarm := s.nat 0x3020 4, halfRange := half, hypotheses := nb, transforms := nt
                            startAt := s.now, endBy := s.now + nnc * tc * 1000000 + nt * 50440 + 200000 } } }

/-! ### Transforms (R178 to R181) -/

/-- Points of a block. -/
def fftPoints : Nat := 65536

/-- A complex number. -/
abbrev Cx := Rat × Rat

/-- Product of complex numbers. -/
def Cx.mul (a b : Cx) : Cx := (a.1 * b.1 - a.2 * b.2, a.1 * b.2 + a.2 * b.1)

/-- The unit number at an angle in turns. -/
def Cx.turn (a : Rat) : Cx := (Config.cos (2 * Config.pi * a), Config.sin (2 * Config.pi * a))

/-- Point `k` of the transform of `x`; `sign` is -1 forward and +1 inverse. -/
def dftPoint (sign : Int) (x : List Cx) (k : Nat) : Cx :=
  (numbered 0 x).foldl (fun acc p =>
    let w := Cx.mul p.2 (Cx.turn (sign * ((p.1 * k : Nat) : Rat) / (fftPoints : Rat)))
    (acc.1 + w.1, acc.2 + w.2)) (0, 0)

/-- A transform. -/
def dft (sign : Int) (x : List Cx) : List Cx := (List.range fftPoints).map (dftPoint sign x)

/-- A block as the buffer holds it: exactly 65,536 points at 8 bits per component (R178). -/
def capturePoints (x : List (Int × Int)) : List (Int × Int) :=
  (List.range fftPoints).map fun n =>
    let p := Config.resampled x n
    (clampInt (-128) 127 p.1, clampInt (-128) 127 p.2)

/-- A block turned by the intermediate frequency, and by half an FFT bin for odd hypotheses. -/
def mixedDown (perPoint : Rat) (x : List (Int × Int)) : List Cx :=
  (numbered 0 x).map fun p => Cx.mul ((p.2.1 : Rat), (p.2.2 : Rat)) (Cx.turn (-(perPoint * (p.1 : Rat))))

/-- The cells of a block at hypothesis `g`, counted in half bins: product with the replica's transform, inverse transform, squared
magnitudes (R179, R181). -/
def blockCells (direct half replica : List Cx) (g : Int) : List Rat :=
  let x := if g % 2 = 0 then direct else half
  let shift := ((g / 2) % (fftPoints : Int)).toNat
  let prod := (numbered 0 replica).map fun p =>
    Cx.mul (nth (0, 0) x ((p.1 + shift) % fftPoints)) (p.2.1, -p.2.2)
  (dft 1 prod).map fun c => c.1 * c.1 + c.2 * c.2

/-- What a job finds for one satellite: its best cell, the mean of the cells of that hypothesis more than 2 chips away, the cell and
the hypothesis. -/
structure Peak where
  best : Rat
  mean : Rat
  cell : Nat
  g : Int
  deriving DecidableEq, Repr

/-- The best cell of one hypothesis among the cells of a primary period; `chips` are the chips of a block, `period` those of a
primary period. -/
def peakOf (chips period : Nat) (g : Int) (cells : List Rat) : Peak :=
  let row := (numbered 0 cells).filter fun p => decide (p.1 * chips < period * fftPoints)
  let top := row.foldl (fun (b : Nat × Rat) p => if b.2 < p.2 then p else b) (0, 0)
  let far (n : Nat) : Bool :=
    let d : Rat := ((((n : Int) - top.1).natAbs * chips : Nat) : Rat) / (fftPoints : Rat)
    decide (2 < d) && decide (d + 2 < (period : Rat))
  { best := top.2, mean := meanRat ((row.filter fun p => far p.1).map (·.2)), cell := top.1, g := g }

/-- The replica of a channel over a block: its primary code at 65,536 points. -/
def replicaPoints (k : Chan) (chips : Nat) : List Cx :=
  (List.range fftPoints).map fun n =>
    ((({ k with bitSync := false, secSync := false, period := 0 } : Chan).replica false
      (((n * chips : Nat) : Int) * nco48 / (fftPoints : Int)) : Rat), 0)

/-- Peak of a channel over the blocks of a job: per hypothesis the squared magnitudes summed cell by cell over the blocks, the
largest cell of all against the mean of its own hypothesis (R181). Hypotheses stand 1 / (2 Tcoh) apart around the centre. -/
def State.search (s : State) (r : AcqRun) (k : Chan) (centreMilli : Int) (blocks : List (List (Int × Int))) : Peak :=
  let chips := (chipRateHz k.signal).toNat * r.tcohMs / 1000
  let ifHz : Rat := ((carrierHz k.signal k.sat.freqK - s.obj (0x3010 + 4 * r.port + r.stream) 1 : Int) : Rat)
  let up : Rat := if s.bit (0x3000 + r.port) 2 (2 + r.stream) then -1 else 1
  let block : Rat := (r.tcohMs : Rat) / 1000
  let pair := blocks.map fun b =>
    (dft (-1) (mixedDown (up * ifHz * block / (fftPoints : Rat)) b),
     dft (-1) (mixedDown ((up * ifHz * block + 1 / 2) / (fftPoints : Rat)) b))
  let rep := dft (-1) (replicaPoints k chips)
  let mid := roundHalfEven ((centreMilli : Rat) / 1000 * 2 * block)
  let gs := (List.range r.hypotheses).map fun h => mid + (h : Int) - ((r.hypotheses / 2 : Nat) : Int)
  let row (g : Int) : List Rat := pair.foldl (fun acc p => vadd acc (blockCells p.1 p.2 rep (if up < 0 then -g else g)))
    (List.replicate fftPoints 0)
  (gs.map fun g => peakOf chips (primaryChips k.signal) g (row g)).foldl (fun b p => if b.best < p.best then p else b)
    { best := 0, mean := 0, cell := 0, g := 0 }

/-! ### The end of a job -/

/-- One channel's outcome of a job (R181, R185): detection starts the pull-in at the detected cell's code phase and Doppler; without
one the channel searches again, goes on, or goes OFF as Table 5-6 states. `first` and `last` number the first captured sample and
the sample at the job's end. -/
def State.jobResult (r : AcqRun) (blocks : List (List (Int × Int))) (first last : Nat) (s : State) (x : Nat × Int) : State :=
  match s.chan x.1 with
  | none => s
  | some k =>
    if k.state ≠ .search ∧ k.state ≠ .reacq then s
    else
      let p := s.search r k x.2 blocks
      let cells := r.hypotheses * (primaryChips k.signal * fftPoints / max 1 ((chipRateHz k.signal).toNat * r.tcohMs / 1000))
      if (Config.acqThreshold r.blocks cells r.falseAlarm : Rat) / 1000 < qdiv p.best p.mean then
        let f : Rat := (p.g : Rat) * 1000 / (2 * (r.tcohMs : Rat))
        let goal := (primaryChips k.signal : Int) * nco48
        let step := (chipRateHz k.signal).toNat * r.tcohMs / 1000
        let start := -((p.cell * step : Nat) : Int) * nco48 / (fftPoints : Int)
        let now := (start + ((last - first : Nat) : Int) * s.codeRate k f 0) % goal
        s.putChan (s.startLoops k f now last)
      else match k.state, r.cls with
        | .reacq, _ => s.queueJob .reacq k.idx
        | _, .blind => s.chanOff k.idx
        | _, _ =>
          if 3 ≤ k.misses + 1 then s.chanOff k.idx
          else (s.putChan { k with misses := k.misses + 1 }).queueJob .aided k.idx

/-- ACQ_JOB_END (R178 to R181): the captured samples of the job's stream, block by block, the numbers of the first of them and of the
sample at the end; each channel of the job detects or does not. -/
def execAcqJobEnd (t : Nat) (capture : List (List IfSample)) (first last : Nat) (s : State) : Host.Outcome State Fault Refusal :=
  s.live t fun s =>
    match s.gnss.run with
    | none => s
    | some r =>
      let size := s.sampleHz r.port * r.tcohMs / 1000
      let whole := decide (capture.length = r.blocks) && capture.all (fun b => decide (b.length = size))
        && decide (first + r.blocks * size ≤ last)
      if ¬ whole ∨ s.now < r.startAt + r.blocks * r.tcohMs * 1000000 then s
      else
        let blocks := capture.map fun b => capturePoints (b.map (s.sample r.port r.stream))
        let s := { s with gnss := { s.gnss with run := none, buffer := blocks } }.count .data 0x3020 6
        r.channels.foldl (State.jobResult r blocks first last) s

end Sys2Proof.Machine
end

