-- ==== Sys2Proof/Machine/Loops.lean ====
section
/-! DEFINITION. The loops of a tracking channel (chapter 5): correlation and dumps, bit and secondary-code synchronisation,
discriminators, loop filters, lock detectors, slips and the channel transitions they cause. -/

namespace Sys2Proof.Machine

open Sys2Proof

/-! ### Discriminators (Table 5-7) -/

/-- Envelope of a tap. -/
def envelope (x : Int × Int) : Rat := Config.sqrt ((x.1 * x.1 + x.2 * x.2 : Int) : Rat)

/-- Carrier discriminators in cycles and Hz; pure after secondary synchronisation of a pilot. -/
def phaseError (pure' : Bool) (ip qp : Int) : Rat :=
  (if pure' then Config.atan2 qp ip else Config.atanQuot qp ip) / (2 * Config.pi)

def freqError (pure' : Bool) (dot cross : Int) (tSec : Rat) : Rat :=
  (if pure' then Config.atan2 cross dot else Config.atanQuot cross dot) / (2 * Config.pi * tSec)

/-- Code discriminators in chips, within ±d/2. Taps are VE, E, P, L, VL, MP1 to MP4. -/
def codeError (doubleDelta boc : Bool) (d : Rat) (taps : List (Int × Int)) : Rat :=
  let m (n : Nat) : Rat := envelope (nth (0, 0) taps n)
  clampRat (-d / 2) (d / 2) (if doubleDelta then qdiv ((m 1 - m 3) - (m 0 - m 4) / 2) (m 2)
    else (if boc then (2 - 3 * d) / 6 else (2 - d) / 2) * qdiv (m 1 - m 3) (m 1 + m 3))

/-- The carrier loop update of R191: new acceleration, velocity and frequency. -/
def carrierLoop (order : Nat) (tSec bp bf ePhase eFreq v a : Rat) : Rat × Rat × Rat :=
  if order = 3 then
    let wp := bp / (7845 / 10000)
    let wf := bf / (53 / 100)
    let a' := a + tSec * (wp * wp * wp * ePhase + wf * wf * eFreq)
    let v' := v + tSec * (a' + 11 / 10 * wp * wp * ePhase + 1414 / 1000 * wf * eFreq)
    (a', v', v' + 24 / 10 * wp * ePhase)
  else
    let wp := bp / (53 / 100)
    let wf := bf / (25 / 100)
    let v' := v + tSec * (wp * wp * ePhase + wf * eFreq)
    (a, v', v' + 1414 / 1000 * wp * ePhase)

/-- Pairs of sums added tap by tap. -/
def addTaps : List (Int × Int) → List (Int × Int) → List (Int × Int)
  | (a, b) :: r, (c, d) :: q => (a + c, b + d) :: addTaps r q
  | r, [] => r
  | [], q => q

/-! ### Synchronisation (R187, R188) -/

/-- Correlation of the signs of the last prompts, newest first, with the secondary code at an offset, over groups of `group`
prompts whose magnitudes add (a data bit turns a whole group). The newest is of the period before `k.period`. -/
def Chan.codeMatch (k : Chan) (group offset : Nat) : Int :=
  let len := secondaryLength k.signal
  let one (i : Nat) (b : Bool) : Int :=
    let idx := (k.period - 1 + (k.signs.length + 1) * len - i - offset % len) % len
    if b != Config.secondaryChip (baseSignal k.signal) k.sat.number idx then -1 else 1
  let terms := (numbered 0 k.signs).map fun p => ((k.period - 1 - p.1 + group * (offset + 1) - offset) / max 1 group, one p.1 p.2)
  let groups := terms.map (·.1) |>.eraseDups
  if group = 0 then terms.foldl (fun a x => a + x.2) 0
  else groups.foldl (fun a g => a + ((terms.filter fun x => decide (x.1 = g)).foldl (fun b x => b + x.2) (0 : Int)).natAbs) 0

/-- The offsets at which a test holds. -/
def offsetsWhere (n : Nat) (p : Nat → Bool) : List Nat := (List.range n).filter p

/-- Bit synchronisation by the NH code: its correlation over 100 ms is largest at one offset only (R188). -/
def Chan.nhSync (k : Chan) : Option Nat :=
  if k.signs.length < 100 then none
  else
    let m (o : Nat) : Int := k.codeMatch 20 o
    match offsetsWhere 20 (fun o => (List.range 20).all fun q => decide (m q ≤ m o)) with
    | [o] => some o
    | _ => none

/-- Secondary-code synchronisation of a pilot: over one full period a correlation of 0.8 or more, of either sign, at a single offset;
with whether it is inverted (R188; log entry 16). -/
def Chan.pilotSync (k : Chan) : Option (Nat × Bool) :=
  let len := secondaryLength k.signal
  if k.signs.length < len then none
  else
    let k := { k with signs := k.signs.take len }
    let m (o : Nat) : Int := k.codeMatch 0 o
    match offsetsWhere len (fun o => decide (8 * len ≤ 10 * (m o).natAbs)) with
    | [o] => some (o, decide (m o < 0))
    | _ => none

/-- Bit synchronisation by histogram: after 100 bits, the bin that holds 60 % or more of all sign changes; else a new histogram. -/
def Chan.histSync (k : Chan) (changed : Bool) : Chan :=
  let n := max 1 (bitMs k.signal k.sat.geo / primaryMs k.signal)
  let bins := if k.bins.length = n then k.bins else List.replicate n 0
  let bins := if changed then modifyNth (· + 1) bins ((k.period - 1) % n) else bins
  let total := bins.foldl (· + ·) 0
  if k.binned + 1 < 100 * n then { k with bins := bins, binned := k.binned + 1 }
  else match offsetsWhere n fun b => decide (0 < total) && decide (6 * total ≤ 10 * nth 0 bins b) with
    | b :: _ => { k with bitSync := true, bitOffset := b, bins := [], binned := 0 }
    | [] => { k with bins := [], binned := 0 }

/-- A prompt over one primary period seeks synchronisation (R188). -/
def Chan.seekSync (k : Chan) (ip : Int) : Chan :=
  let sign := decide (ip < 0)
  let keep := if isDataOnly k.signal then 100 else secondaryLength k.signal
  let k' := { k with signs := (sign :: k.signs).take keep }
  if isDataOnly k.signal then
    if usesNh k.signal k.sat.geo then
      match k'.nhSync with
      | some o => { k' with bitSync := true, bitOffset := o, signs := [] }
      | none => k'
    else k'.histSync (k.signs.head?.any (· != sign))
  else match k'.pilotSync with
    | some (o, inv) => { k' with
        secSync := true, bitOffset := o, signs := []
        carr := if inv then ((k'.carr : Int) + nco48 / 2).toNat % nco48.toNat else k'.carr
        halfCycle := decide (k'.state = .pll) || k'.halfCycle }
    | none => k'

/-- What the navigation message brings (R201, R202, R214): a match on a data-only signal in PLL resolves its half cycle; an inverted
one after that is a possible slip; the time of week gives the transmit time. -/
def State.navEvent (s : State) (k : Chan) : Option NavEvent → State × Chan
  | none => (s, k)
  | some (.preamble tx) =>
    (s, { k with txPs := tx.orElse fun _ => k.txPs
                 halfCycle := k.halfCycle || (isDataOnly k.signal && decide (k.state = .pll)) })
  | some .inverted => if isDataOnly k.signal ∧ k.halfCycle then s.slip k else (s, k)

/-! ### Integration dumps -/

/-- The accumulators move past an integration of `n` samples and `m` primary periods; the rates of the loops apply from 32 GNB
cycles after the dump (R193). -/
def State.moveOn (s : State) (k : Chan) (n m : Nat) (f tau : Rat) : Chan :=
  let fresh := decide (k.newFrom ≤ k.next + n)
  { k with
    next := k.next + n
    carr := (((k.carr : Rat) + s.carrierAdvance k n).floor % nco48).toNat
    accum := k.accum + (s.dopplerAdvance k n).floor
    code := (k.codeAt n).floor - (m * primaryChips k.signal : Nat) * nco48
    carrStep := if fresh then k.carrNew else k.carrStep, codeStep := if fresh then k.codeNew else k.codeStep
    carrNew := s.carrierStep k f, codeNew := s.codeRate k f tau, newFrom := k.next + n + s.ncoLag (k.idx / 128)
    period := k.period + m, txPs := k.txPs.map fun x => x + ((m * primaryMs k.signal : Nat) : Int) * 1000000000 }

/-- A dump enters the running detector window; the 20th completes it (R199). -/
def Chan.intoWindow (k : Chan) (isPure : Bool) (taps : List (Int × Int)) (dot : Int) (tMs : Nat) : Chan :=
  let (ip, qp) := nth (0, 0) taps 2
  let mag : Int := ip * ip + qp * qp
  let prevMag : Int := k.prevI * k.prevI + k.prevQ * k.prevQ
  let w : WinSums := { k.win with
    dumps := k.win.dumps + 1, p2 := k.win.p2 + mag, p4 := k.win.p4 + (mag * mag : Int), diff := k.win.diff + (ip * ip - qp * qp)
    freq := k.win.freq + (if isPure then (dot : Rat) else ratAbs dot)
    freqDen := k.win.freqDen + Config.sqrt ((mag * prevMag : Int) : Rat), taps := addTaps k.win.taps taps, tMs := tMs }
  if 20 ≤ w.dumps then { k with win := {}, full := some w } else { k with win := w }

/-- Two large phase errors in a row are a possible slip (R201). -/
def State.phaseSlip (s : State) (k : Chan) (isPure : Bool) (eP : Rat) : State × Chan :=
  let big := decide (k.state = .pll) && decide ((if isPure then 4 / 10 else 2 / 10) < ratAbs eP)
  let (s, k') := if big && k.bigPhase then s.slip k else (s, k)
  (s, { k' with bigPhase := big })

/-- R195: the third integration in a row with a very early or very late tap above the prompt moves the code NCO by half a chip toward
the larger, declares a possible slip and sets flag [7]. -/
def State.sidePeak (s : State) (k : Chan) (taps : List (Int × Int)) : State × Chan :=
  let m (n : Nat) : Rat := envelope (nth (0, 0) taps n)
  let side := isBoc k.signal && decide (k.state = .fll ∨ k.state = .pll) && (decide (m 2 < m 0) || decide (m 2 < m 4))
  let run := if side then k.sideRun + 1 else 0
  if 3 ≤ run then
    let (s, k) := s.slip { k with sideRun := 0, code := k.code + (if m 4 < m 0 then nco48 / 2 else -(nco48 / 2)) }
    (s.setBit (0x3100 + k.idx) 8 7 true, k)
  else (s, { k with sideRun := run })

/-- Whether `n` samples bring the code accumulator just past `m` primary periods: the integration ends on its boundary (R187). -/
def Chan.endsAt (k : Chan) (n m : Nat) : Bool :=
  let goal : Rat := ((m * primaryChips k.signal : Nat) : Int) * nco48
  decide (0 < n) && decide (goal ≤ k.codeAt n) && decide (k.codeAt (n - 1 : Nat) < goal)

/-- INTEGRATION_DUMP (R186 to R197): the samples of one integration of a channel, from its first to the one on whose end the code
accumulator reaches the boundary, and what the navigation message brings at that end. The nine taps are formed, synchronisation is
sought, and the loops update the NCOs. -/
def execIntegrationDump (t port c : Nat) (samples : List IfSample) (nav : Option NavEvent) (s : State) :
    Host.Outcome State Fault Refusal :=
  s.live t fun s =>
    match s.chan (128 * port + c) with
    | none => s
    | some k0 =>
      let m := s.integrationPeriods k0
      if (k0.state ≠ .pullin ∧ k0.state ≠ .fll ∧ k0.state ≠ .pll) ∨ ¬ k0.endsAt samples.length m then s
      else
        let o := 0x3040 + k0.signal
        let tMs := m * primaryMs k0.signal
        let tSec : Rat := (tMs : Rat) / 1000
        let mixed := s.mixed k0 0 samples
        let taps := (tapOffsets (isBoc k0.signal) (s.obj o 7)).map fun off => k0.tapSum false off mixed
        let (ip, qp) := nth (0, 0) taps 2
        let dot := k0.prevI * ip + k0.prevQ * qp
        let cross := k0.prevI * qp - k0.prevQ * ip
        let isPure := !isDataOnly k0.signal && k0.secSync
        let eP : Rat := if k0.state = .pll then phaseError isPure ip qp else 0
        let eF : Rat := if k0.havePrev then freqError isPure dot cross tSec else 0
        let bp : Rat := (s.obj o 2 : Rat) / 10
        let bf : Rat := (s.obj o (if k0.state = .pll then 4 else 3) : Rat) / 10
        let (a', v', f') := carrierLoop (s.nat o 1) tSec bp bf eP eF k0.v k0.a
        let tau := codeError (decide (s.obj o 8 = 1)) (isBoc k0.signal) ((s.obj o 7 : Rat) / 100) taps
        let k := { k0.intoWindow isPure taps dot tMs with
          v := v', a := a', f := f', tau := tau, slope := if s.nat o 1 = 3 then a' else (v' - k0.v) / tSec
          prevI := ip, prevQ := qp, havePrev := true
          dataSum := if isDataOnly k0.signal then (0, 0) else k0.tapSum true 0 mixed }
        let k := s.moveOn k samples.length m f' tau
        let k := if k.synced ∨ m ≠ 1 then k else k.seekSync ip
        let (s, k) := s.navEvent k nav
        let (s, k) := s.phaseSlip k isPure eP
        let (s, k) := s.sidePeak k taps
        s.putChan k

/-! ### Detector windows -/

/-- The multipath indicator of R198 over a window: the mean of the six squared deviations. -/
def multipathSquare (boc : Bool) (d : Rat) (taps : List (Int × Int)) : Rat :=
  let m (j : Nat) : Rat := envelope (nth (0, 0) taps j)
  let dev (j : Nat) (x : Rat) : Rat :=
    let e := qdiv (m j) (m 2) - idealCorrelation boc x
    e * e
  (dev 1 (-d / 2) + dev 3 (d / 2) + dev 5 (-3 * d) + dev 6 (-2 * d) + dev 7 (2 * d) + dev 8 (3 * d)) / 6

/-- A channel goes to REACQ: its NCOs coast and an aided job is queued (R186, Table 5-6). -/
def State.toReacq (s : State) (k : Chan) : State :=
  let k := { k with
    carrStep := if k.newFrom ≤ k.next then k.carrNew else k.carrStep, carrNew := s.carrierStep k k.f
    codeNew := s.codeRate k k.f 0 }
  (s.putChan { k with state := .reacq, stateFrom := s.now, lockFrom := none, halfCycle := false, lowNs := 0
                      goodFll := 0, goodPll := 0
                      centreMilli := roundHalfEven (k.f * 1000) }).queueJob .reacq k.idx

/-- A channel goes back to SEARCH and queues its job; one of a signal marked "Aided only", for which no job is ever formed, is
released (R182; log entry 16). -/
def State.toSearch (s : State) (k : Chan) : State :=
  if isAidedOnly k.signal then s.chanOff k.idx
  else (s.putChan { k with state := .search, stateFrom := s.now, misses := 0, goodFll := 0, win := {}, full := none }).queueJob
    (if k.blind then .blind else .aided) k.idx

/-- The transitions that a judged window brings (Table 5-6): loss of code or frequency lock is judged before the change from PLL to
FLL (log entry 17). -/
def State.windowMoves (s : State) (k : Chan) (pli fli : Rat) : State :=
  let o := 0x3040 + k.signal
  match k.state with
  | .pullin => if 2 ≤ k.goodFll then s.putChan { k with state := .fll, stateFrom := s.now, goodPll := 0 } else s.putChan k
  | .fll =>
    if 100000000 ≤ k.lowNs ∨ fli < 1 / 2 then s.toReacq k
    else if 2 ≤ k.goodPll then
      s.putChan { k with state := .pll, stateFrom := s.now, lockFrom := some s.now, bigPhase := false, phaseBase := none
                         halfCycle := !isDataOnly k.signal && k.secSync }
    else s.putChan k
  | .pll =>
    if 100000000 ≤ k.lowNs ∨ fli < 1 / 2 then s.toReacq k
    else if pli < (s.obj o 0x0A : Rat) / 1000 ∧ 9 / 10 ≤ fli then
      let (s, k) := s.slip { k with state := .fll, stateFrom := s.now, goodPll := 0 }
      s.putChan k
    else s.putChan k
  | _ => s.putChan k

/-- DETECTOR_WINDOW (R198 to R202, Table 5-6): over the last complete window of 20 integrations the lock detectors are formed and
transitions judged. -/
def execDetectorWindow (t port c : Nat) (s : State) : Host.Outcome State Fault Refusal :=
  s.live t fun s =>
    match s.chan (128 * port + c) with
    | none => s
    | some k =>
      match k.full with
      | none => s
      | some w =>
        let o := 0x3040 + k.signal
        let tSec : Rat := (w.tMs : Rat) / 1000
        let p2 := w.p2 / 20
        let p4 := w.p4 / 20
        let pc := Config.sqrt (max 0 (2 * p2 * p2 - p4))
        let cn0 := 10 * Config.log10 (qdiv pc ((p2 - pc) * tSec))
        let pli := qdiv (w.diff : Rat) w.p2
        let fli := qdiv w.freq w.freqDen
        let mp := multipathSquare (isBoc k.signal) ((s.obj o 7 : Rat) / 100) w.taps
        let limit : Rat := (s.nat o 0x0D : Rat) / 1000
        let hist := (k.cn0s ++ [(s.now, cn0)]).filter fun x => s.now ≤ x.1 + 1000000000
        let mean : Rat := meanRat (hist.map (·.2))
        let cn0Obj : Int := if mean < 15 then 150 else if 60 < mean then 600 else roundHalfEven (mean * 10)
        let s := s.setObjs [(0x3100 + k.idx, 5, clampInt 150 600 cn0Obj),
          (0x3100 + k.idx, 7, clampInt (-1000) 1000 (roundHalfEven (pli * 1000))),
          (0x3100 + k.idx, 0x0B, clampInt 0 65535 (roundHalfEven (1000 * Config.sqrt mp)))]
        let enough := decide ((s.obj o 0x0B : Rat) / 10 ≤ cn0)
        let k := { k with
          full := none, cn0s := hist, cn0Low := decide (mean < 15), cn0High := decide (60 < mean), codeLock := enough
          multipath := decide (limit * limit < mp), lowNs := if enough then 0 else k.lowNs + 20 * w.tMs * 1000000
          goodFll := if decide (9 / 10 ≤ fli) && enough then k.goodFll + 1 else 0
          goodPll := if (s.obj o 9 : Rat) / 1000 ≤ pli then k.goodPll + 1 else 0 }
        s.windowMoves k pli fli

/-- PULLIN_TIMEOUT (Table 5-6): 200 ms in PULLIN without lock is a false alarm. -/
def execPullinTimeout (t port c : Nat) (s : State) : Host.Outcome State Fault Refusal :=
  s.live t fun s =>
    match s.chan (128 * port + c) with
    | none => s
    | some k =>
      if k.state = .pullin ∧ k.stateFrom + 200000000 ≤ s.now then (s.count .data 0x3020 7).toSearch k else s

/-- REACQ_TIMEOUT (Table 5-6): the reacquisition window of 3040h+n:0C has expired. -/
def execReacqTimeout (t port c : Nat) (s : State) : Host.Outcome State Fault Refusal :=
  s.live t fun s =>
    match s.chan (128 * port + c) with
    | none => s
    | some k =>
      if k.state = .reacq ∧ k.stateFrom + 1000000 * s.nat (0x3040 + k.signal) 0x0C ≤ s.now then
        ({ s with gnss := { s.gnss with queue := s.gnss.queue.filter (·.channel ≠ k.idx) } }).toSearch k
      else s

end Sys2Proof.Machine
end

