-- ==== Sys2Proof/Machine/GnssSol.lean ====
section
/-! DEFINITION. GNSS measurements, solutions, attitude, kept data, harbour mode and the comparison of the twins
(chapter 6). -/

namespace Sys2Proof.Machine

open Sys2Proof

/-! ### Measurement instants and records -/

/-- Measurement instants of module time: whole multiples of 1 / rate (R209, R211). -/
def State.onGrid (s : State) : Bool := decide (s.mt % (1000000000 / max 1 s.gsol.rate) = 0)

/-- A channel as it stands at sample `x` of its port: both accumulators and the accumulated phase moved there (R203). -/
def State.latchChan (s : State) (ps : Int) (k : Chan) : ChanLatch :=
  let x : Rat := if k.state = .search then 0 else s.sampleAt (k.idx / 128) ps - (k.next : Rat)
  let o := 0x3100 + k.idx
  { ch := { k with
      code := (k.codeAt x).floor, carr := (((k.carr : Rat) + s.carrierAdvance k x).floor % nco48).toNat
      accum := k.accum + (s.dopplerAdvance k x).floor }
    flags := s.nat o 8 % 512, cn0 := s.nat o 5, slips := s.nat o 0x0A, multipath := s.nat o 0x0B }

/-- MEASUREMENT_INSTANT (R203, R209 to R211): on the grid of the rate in force, every channel on all ports is latched at one instant of
module time; a rate change that waits takes effect at a whole second, which is an instant at every rate. -/
def execMeasurementInstant (t : Nat) (s : State) : Host.Outcome State Fault Refusal :=
  s.live t fun s =>
    let whole := decide (s.mt % 1000000000 = 0)
    let s := match s.gsol.ratePending with
      | some r => if whole then { s with gsol := { s.gsol with rate := r, ratePending := none } } else s
      | none => s
    if ¬ s.onGrid then s
    else { s with gsol := { s.gsol with
      latches := s.gnss.chans.map (s.latchChan (1000 * (s.mt : Int))), latchAt := s.mt, latched := true } }

/-- Offset in ns from TAI to the system time of a satellite's system (R213). -/
def State.systemOffsetNs (s : State) (system : Nat) : Int :=
  match system with
  | 2 => -33000000000
  | 3 => -1000000000 * s.obj 0x2100 0x0F + 10800000000000
  | _ => -19000000000

/-- Group delay in ps set for a port and the band of a carrier (R213, Table 6-8). -/
def State.groupDelayPs (s : State) (port : Nat) (hz : Int) : Int :=
  s.obj (0x3303 + port) (if 1559000000 ≤ hz then 1 else if 1215000000 ≤ hz then 2 else 3)

/-- Pseudorange in 0.1 mm: c (tm - ttx), ttx being the recovered transmit time less the group delay (R213; log entry 20). -/
def pseudorange (tmPs ttxPs : Int) : Nat :=
  (roundHalfEven ((tmPs - ttxPs : Int) * 299792458 / 100000000 : Rat)).toNat

/-- Number and system of a satellite, as 31xxh:03 holds them. -/
def SatId.code (x : SatId) : Nat := x.number % 256 + 256 * x.system

/-- The value congruent to `phase` modulo `period` that lies nearest to `near`. -/
def nearestCongruent (phase period near : Int) : Int := near + ((phase - near + period / 2) % period - period / 2)

/-- Transmit time in ps of a latched channel, and whether it is known in full (R214): decoded; or, with ephemeris and module time, from
the last bit or secondary-code boundary; else only modulo one primary period, the latest time not after reception. -/
def State.transmitPs (s : State) (k : Chan) (tm : Int) : Int × Bool :=
  let within : Int := ((k.code : Rat) * 1000000000000 / ((chipRateHz k.signal : Rat) * (nco48 : Rat))).floor
  let one : Int := ((primaryMs k.signal : Nat) : Int) * 1000000000
  match k.txPs with
  | some x => (x + within, true)
  | none =>
    if k.synced && Config.hasEphemeris k.sat.code s.gsol.latchAt && decide (s.clock.state ≠ .unset) then
      let n : Nat := if isDataOnly k.signal then bitMs k.signal k.sat.geo / primaryMs k.signal else secondaryLength k.signal
      let phase : Int := (((k.period + n - k.bitOffset % max 1 n) % max 1 n : Nat) : Int) * one + within
      let p := s.gsol.point
      let range := (Config.satModel k.sat.code s.gsol.latchAt (vget p 0, vget p 1, vget p 2)).1
      (nearestCongruent phase ((max 1 n : Nat) * one) (tm - (range * 1000000000000 / 299792458).floor), true)
    else (tm - (tm - within) % one, false)

/-- The entry of a latched channel (R213 to R216), and the carrier base that the first record after entry into PLL sets. -/
def State.measureEntry (s : State) (l : ChanLatch) : MeasEntry × Option (Int × Int) :=
  let k := l.ch
  let hz := carrierHz k.signal k.sat.freqK
  let tm : Int := 1000 * ((s.gsol.latchAt : Int) + s.systemOffsetNs k.sat.system)
  let (tx, full) := s.transmitPs k tm
  let pr := pseudorange tm (tx - s.groupDelayPs (k.idx / 128) hz)
  let base : Int × Int := match k.phaseBase with
    | some b => b
    | none => (roundHalfEven ((pr : Rat) / 10000 * hz / 299792458), k.accum)
  ({ idx := k.idx, sat := k.sat, stream := k.stream, signal := k.signal
     flags := l.flags + (if full then 512 else 0) + (if k.state = .pll then 1024 else 0), pr := pr
     phase := base.1 * 16777216 - (k.accum - base.2) / 16777216
     doppler := clampInt (-2147483648) 2147483647 (roundHalfEven (k.f * 1000)), cn0 := l.cn0, slips := l.slips
     multipath := l.multipath }, if k.state = .pll then some base else none)

/-- Bytes of an entry (Table 6-2). -/
def MeasEntry.bytes (e : MeasEntry) : List Byte :=
  leBytes 2 e.idx ++ leBytes 2 (e.sat.code + 4096 * e.stream) ++ leBytes 1 e.signal ++ leBytesInt 1 e.sat.freqK
    ++ leBytes 2 e.flags ++ leBytes 8 e.pr ++ leBytesInt 8 e.phase ++ leBytesInt 4 e.doppler ++ leBytes 2 e.cn0
    ++ leBytes 1 (e.slips % 256) ++ leBytes 1 (min 255 e.multipath)

/-- Whether P1 works on GNSS at all: in a manager, and in a worker for the local heading aid alone (Table 1-4, R26). -/
def State.p1Works (s : State) : Bool := s.isManager || decide (s.obj 0x3328 9 = 1)

/-- A product of this twin, committed as an input of it, or of its partner (R240); the last eight of a kind are kept. -/
def State.keepProduct (s : State) (p : Product) : State :=
  let p := { p with num := s.pair.inputNum, sent := s.pair.inputSeq, arrival := s.mt }
  let l := s.gsol.products ++ [p]
  let newer (q : Product) : Nat :=
    (l.filter fun r => decide (r.own = q.own ∧ r.which = q.which ∧ q.num < r.num)).length
  { s with gsol := { s.gsol with products := l.filter fun q => decide (newer q < 8) } }

/-- MEASUREMENT_RECORD_READY (R212 to R216, Table 6-3): from 2 ms after a latched instant, once, its record stands in 3300h:04, with the
channels that were in PULLIN, FLL or PLL by port and channel. -/
def execMeasurementRecordReady (t : Nat) (s : State) : Host.Outcome State Fault Refusal :=
  s.live t fun s =>
    if ¬ s.gsol.latched ∨ ¬ s.p1Works ∨ s.mt < s.gsol.latchAt + 2000000 then s
    else
      let on := s.gsol.latches.filter fun l => decide (l.ch.state = .pullin ∨ l.ch.state = .fll ∨ l.ch.state = .pll)
      let made := on.map s.measureEntry
      let entries := made.map (·.1)
      let based (k : Chan) : Chan := match made.find? fun e => decide (e.1.idx = k.idx) with
        | some (_, some b) => if k.state = .pll then { k with phaseBase := some b } else k
        | _ => k
      let seqNo := (s.nat 0x3300 2 + 1) % 65536
      let flags := (if s.clock.state = .unset then 1 else 0) + (if s.gsol.stepped then 2 else 0)
        + (if s.ident.twin = .b then 4 else 0)
      let header := leBytes 6 (s.gsol.latchAt / 1000000000) ++ leBytes 4 (s.gsol.latchAt % 1000000000)
        ++ leBytes 2 seqNo ++ leBytes 2 entries.length ++ leBytes 1 flags ++ [0]
      let record := header ++ entries.flatMap MeasEntry.bytes
      let s := { s with
        gnss := { s.gnss with chans := s.gnss.chans.map based }
        gsol := { s.gsol with stepped := false, latched := false, before := s.gsol.entries, entries := entries
                              entriesAt := s.gsol.latchAt } }
      let s := (s.setObjs [(0x3300, 2, seqNo), (0x3300, 3, (entries.length : Nat))]).setBlob 0x3300 4 record
      let s := (s.commitInput 38 s.gsol.latchAt record).nameInput
      (s.keepProduct { own := true, num := 0, sent := 0, arrival := 0, instant := s.gsol.latchAt, which := 5, record := record }).unmarkInput

/-! ### Position solutions -/

/-- An observation of a solution: satellite, pseudorange in m, its carriers (two for an ionosphere-free combination), range rate in m/s,
C/N0. -/
structure SolObs where
  sat : Nat
  range : Rat
  dual : Bool
  hz : Int
  rate : Rat
  cn0 : Nat
  deriving DecidableEq, Repr

/-- Metres of an entry's pseudorange. -/
def MeasEntry.metres (e : MeasEntry) : Rat := (e.pr : Rat) / 10000

/-- Carrier of an entry. -/
def MeasEntry.hz (e : MeasEntry) : Int := carrierHz e.signal e.sat.freqK

/-- Range rate of an entry: -λ times the Doppler (R216). -/
def MeasEntry.rate (e : MeasEntry) : Rat := -((e.doppler : Rat) / 1000) * 299792458 / (e.hz : Rat)

/-- Observations of a set of entries (R218): of a satellite tracked on two bands the ionosphere-free combination of the first two, else
each entry by itself. -/
def observations (l : List MeasEntry) : List SolObs :=
  let sats := (l.map fun e => e.sat.code).eraseDups
  sats.flatMap fun c =>
    let own := l.filter fun e => decide (e.sat.code = c)
    let single (e : MeasEntry) : SolObs :=
      { sat := c, range := e.metres, dual := false, hz := e.hz, rate := e.rate, cn0 := e.cn0 }
    match own with
    | [] => []
    | e :: rest =>
      match rest.find? fun f => decide (f.hz ≠ e.hz) with
      | none => own.map single
      | some f =>
        let a : Rat := (e.hz : Rat) * (e.hz : Rat)
        let b : Rat := (f.hz : Rat) * (f.hz : Rat)
        [{ single e with range := qdiv (a * e.metres - b * f.metres) (a - b), dual := true }]

/-- The three coordinates of a vector. -/
def triple (v : List Rat) : Rat × Rat × Rat := (vget v 0, vget v 1, vget v 2)

/-- Elevation of a satellite in degrees. -/
def State.satElevation (s : State) (sat : Nat) : Rat := (Config.satModel sat s.gsol.entriesAt (triple s.gsol.point)).2.2

/-- Entries of a port that a solution may use (R218): [9] set, at or above the masks of 3318h:03 and 3318h:05, ephemeris held. -/
def State.usableEntries (s : State) (port : Nat) : List MeasEntry :=
  s.gsol.entries.filter fun e => decide (e.idx / 128 = port) && e.flags.testBit 9 && decide (s.obj 0x3318 5 ≤ e.cn0)
    && decide ((s.nat 0x3318 3 : Rat) ≤ s.satElevation e.sat.code) && Config.hasEphemeris e.sat.code s.gsol.entriesAt

/-- Correction of SBAS for a satellite, only with 3318h:01 at 01h (R218): of the satellite 3318h:02 names, or of the first that has one. -/
def State.sbasCorrection (s : State) (sat : Nat) (at' : Int) (p : Rat × Rat × Rat) : Option Rat :=
  if s.obj 0x3318 1 ≠ 1 then none
  else
    let from' := if s.obj 0x3318 2 = 0 then List.range' 120 39 else [s.nat 0x3318 2]
    from'.findSome? fun n => Config.sbasCorrection n sat at' p

/-- The rows of a position step at a point: line of sight and clock, the misclosure, the variance. -/
def State.rangeRows (s : State) (p : Rat × Rat × Rat) (obs : List SolObs) : List (List Rat × Rat × Rat) :=
  obs.map fun o =>
    let (r, (n, e, d), el) := Config.satModel o.sat s.gsol.entriesAt p
    let iono : Rat := if o.dual then 0 else Config.ionosphere o.sat s.gsol.entriesAt p o.hz
    let sbas := (s.sbasCorrection o.sat s.gsol.entriesAt p).getD 0
    ([-n, -e, -d, 1], o.range + sbas - r - iono, Config.rangeVariance o.cn0 el)

/-- The rows of the velocity: line of sight and clock drift, range rate, variance. -/
def State.rateRows (s : State) (p : Rat × Rat × Rat) (obs : List SolObs) : List (List Rat × Rat × Rat) :=
  obs.map fun o =>
    let (_, (n, e, d), el) := Config.satModel o.sat s.gsol.entriesAt p
    ([-n, -e, -d, 1], o.rate - Config.satRate o.sat s.gsol.entriesAt p, Config.rateVariance o.cn0 el)

/-- Gauss–Newton steps of the weighted least squares (R218; their number is a DESIGN CHOICE, log entry 21): the point, the clock in m. -/
def State.pointSteps (s : State) (obs : List SolObs) : Nat → List Rat → List Rat
  | 0, x => x
  | n + 1, x =>
    let d := (leastSquares 4 (s.rangeRows (triple x) obs)).1
    s.pointSteps obs n (vadd (vadd (x.take 3) (d.take 3)) [0, 0, 0] ++ [vget d 3])

/-- A least-squares solution of observations: point and clock, covariance, whether the chi-square test passes (R220). -/
def State.solvePoint (s : State) (obs : List SolObs) : List Rat × List (List Rat) × Bool × Rat :=
  let x := s.pointSteps obs 10 (s.gsol.point ++ [0])
  let rows := s.rangeRows (triple x) obs
  let step := leastSquares 4 rows
  let sum := chiSum rows step.1
  (x, step.2, decide (sum ≤ Config.chiSquare (obs.length - 4) (s.nat 0x3318 4)), sum)

/-- Satellites of observations. -/
def satsOf (obs : List SolObs) : List Nat := (obs.map (·.sat)).eraseDups

/-- Fault detection and exclusion (R220): the observations that stay, the satellite left out (0 for none), whether the solution
stands. Of several satellites whose exclusion passes, the one that leaves the smallest statistic goes (log entry 21). -/
def State.exclusion (s : State) (obs : List SolObs) : List SolObs × Nat × Bool :=
  if (satsOf obs).length < 4 then (obs, 0, false)
  else if (s.solvePoint obs).2.2.1 then (obs, 0, true)
  else if (satsOf obs).length < 6 then (obs, 0, false)
  else
    let tries := (satsOf obs).filterMap fun c =>
      let r := s.solvePoint (obs.filter fun o => decide (o.sat ≠ c))
      if r.2.2.1 then some (c, r.2.2.2) else none
    match tries with
    | [] => (obs, 0, false)
    | t :: rest =>
      let c := (rest.foldl (fun b x => if x.2 < b.2 then x else b) t).1
      (obs.filter fun o => decide (o.sat ≠ c), c, true)

/-- Root of a variance in thousandths of its unit, within 32 bits. -/
def milliStd (v : Rat) : Nat := (clampInt 0 4294967294 (roundHalfEven (1000 * Config.sqrt v))).toNat

/-- The solution of observations (R218, R220): fix type 02h when every observation is dual-frequency, 03h when SBAS corrections apply
(Table 6-4; log entry 21), 00h when it does not stand. -/
def State.solve (s : State) (obs : List SolObs) : SolResult :=
  let (used, out, stands) := s.exclusion obs
  let (x, cov, _, _) := s.solvePoint used
  let v := (leastSquares 4 (s.rateRows (triple x) used)).1
  let sbas := used.any fun o => (s.sbasCorrection o.sat s.gsol.entriesAt (triple x)).isSome
  let geo := Config.untangent (vget x 0) (vget x 1) (s.obj 0x5010 0x0F) (s.obj 0x5010 0x10)
  let mm (a : Rat) : Int := clampInt (-2147483648) 2147483647 (roundHalfEven (1000 * a))
  { fix := if ¬ stands then 0 else if sbas then 3 else if used.all (·.dual) then 2 else 1
    sats := (satsOf used).length, lat := geo.1, lon := geo.2, height := mm (-(vget x 2))
    vn := mm (vget v 0), ve := mm (vget v 1), vd := mm (vget v 2)
    hStd := milliStd (mget cov 0 0 + mget cov 1 1), vStd := milliStd (mget cov 2 2)
    clockPs := clampInt (-2147483648) 2147483647 (roundHalfEven (vget x 3 * 1000000000000 / 299792458))
    clockStdPs := (clampInt 0 4294967294 (roundHalfEven (Config.sqrt (mget cov 3 3) * 1000000000000 / 299792458))).toNat
    instant := s.gsol.entriesAt, exclude := out }

/-! ### Baselines (R224 to R226) -/

/-- Code of a baseline state. -/
def BaselineState.code : BaselineState → Nat
  | .none => 0 | .float => 1 | .fixed => 2

/-- A single difference between the two ports of a baseline: satellite, signal, carrier phase in cycles, pseudorange in m, wavelength,
line of sight, elevation, C/N0, and whether its slip counts have stayed since the previous epoch. -/
structure SingleDiff where
  sat : SatId
  signal : Nat
  cycles : Rat
  metres : Rat
  lam : Rat
  los : List Rat
  elevation : Rat
  cn0 : Nat
  deriving DecidableEq, Repr

/-- An entry that may enter a baseline: flags [2] and [10] set, its slip count as in the previous record (R224). -/
def State.steady (s : State) (e : MeasEntry) : Bool :=
  e.flags.testBit 2 && e.flags.testBit 10 && s.gsol.before.any fun b =>
    decide (b.idx = e.idx ∧ b.sat = e.sat ∧ b.signal = e.signal ∧ b.slips = e.slips)

/-- Single differences of GA and port `p`, of all signals tracked on both with [2] and [10] (`slipped` admits changed slip counts). -/
def State.singleDiffs (s : State) (p : Nat) (slipped : Bool) : List SingleDiff :=
  let ok (e : MeasEntry) : Bool := if slipped then e.flags.testBit 2 && e.flags.testBit 10 else s.steady e
  (s.gsol.entries.filter fun e => decide (e.idx / 128 = 0) && ok e).filterMap fun a =>
    (s.gsol.entries.find? fun e => decide (e.idx / 128 = p ∧ e.sat = a.sat ∧ e.signal = a.signal) && ok e).map fun b =>
      let (_, (n, e, d), el) := Config.satModel a.sat.code s.gsol.entriesAt (triple s.gsol.point)
      { sat := a.sat, signal := a.signal, cycles := ((b.phase - a.phase : Int) : Rat) / 16777216, metres := b.metres - a.metres
        lam := 299792458 / (a.hz : Rat), los := [n, e, d], elevation := el, cn0 := min a.cn0 b.cn0 }

/-- The highest of the differences of one system and signal, the reference of its double differences (R224). -/
def reference (l : List SingleDiff) (x : SingleDiff) : Option SingleDiff :=
  (l.filter fun y => decide (y.sat.system = x.sat.system ∧ y.signal = x.signal)).foldl (fun b y =>
    match b with
    | none => some y
    | some z => if z.elevation < y.elevation then some y else b) none

/-- Double differences: each difference with its reference. -/
def doubleDiffs (l : List SingleDiff) : List (SingleDiff × SingleDiff) :=
  l.filterMap fun x => match reference l x with
    | some r => if r.sat = x.sat then none else some (x, r)
    | none => none

/-- Row of a double difference for the baseline: minus the difference of the lines of sight. -/
def ddRow (d : SingleDiff × SingleDiff) : List Rat := vsub d.2.los d.1.los

/-- Variance of a double difference. -/
def ddVar (f : Nat → Rat → Rat) (d : SingleDiff × SingleDiff) : Rat := f d.1.cn0 d.1.elevation + f d.2.cn0 d.2.elevation

/-- Float solution of an epoch: vector and ambiguities in cycles, with their covariance (R225). -/
def floatSolution (dds : List (SingleDiff × SingleDiff)) : List Rat × List (List Rat) :=
  let n := dds.length
  let unit (i : Nat) (v : Rat) : List Rat := (List.range n).map fun j => if j = i then v else 0
  let rows := (numbered 0 dds).flatMap fun x =>
    [(ddRow x.2 ++ unit x.1 0, x.2.1.metres - x.2.2.metres, ddVar Config.rangeVariance x.2),
     (ddRow x.2 ++ unit x.1 x.2.1.lam, x.2.1.lam * x.2.1.cycles - x.2.2.lam * x.2.2.cycles, ddVar Config.phaseVariance x.2)]
  leastSquares (3 + n) rows

/-- Quadratic form of the distance of an integer vector from the float ambiguities. -/
def ambiguityNorm (a : List Rat) (weight : List (List Rat)) (z : List Int) : Rat :=
  let d := vsub a (z.map fun v => (v : Rat))
  dot d (matVec weight d)

/-- Integer of a signal in a set, 0 for its reference. -/
def integerOf (set : List FixedSignal) (x : SingleDiff) : Option FixedSignal :=
  set.find? fun f => decide (f.sat = x.sat ∧ f.signal = x.signal)

/-- Metres of a double difference with both integers taken off, where the set holds both. -/
def fixedMetres (set : List FixedSignal) (d : SingleDiff × SingleDiff) : Option Rat :=
  match integerOf set d.1, integerOf set d.2 with
  | some a, some b => some (d.1.lam * (d.1.cycles - a.n) - d.2.lam * (d.2.cycles - b.n))
  | _, _ => none

/-- Baseline from the double differences whose signals are all in the set. -/
def fixedVector (set : List FixedSignal) (dds : List (SingleDiff × SingleDiff)) : List Rat × List (List Rat) :=
  let inside := set.filter (·.inSet)
  leastSquares 3 (dds.filterMap fun d => (fixedMetres inside d).map fun z => (ddRow d, z, ddVar Config.phaseVariance d))

/-- Residual in cycles of a double difference. -/
def ddResidual (set : List FixedSignal) (vec : List Rat) (d : SingleDiff × SingleDiff) : Option Rat :=
  (fixedMetres set d).map fun z => ratAbs ((z - dot (ddRow d) vec) / d.1.lam)

/-- The set that a search has fixed: every reference with 0, every other signal with its integer (R225). -/
def searchedSet (dds : List (SingleDiff × SingleDiff)) (z : List Int) : List FixedSignal :=
  let refs := (dds.map fun d => (d.2.sat, d.2.signal)).eraseDups
  refs.map (fun r => { sat := r.1, signal := r.2, n := 0, inSet := true, good := 5 })
    ++ (dds.zip z).map fun x => { sat := x.1.1.sat, signal := x.1.1.signal, n := x.2, inSet := true, good := 5 }

/-- The set over an epoch (R226): a signal with a possible slip leaves it; a signal outside has its integer solved alone against the
vector of the others, and rejoins after five epochs in a row with a residual within 0.10 cycle. `steady` are the differences without a
slip, `all` those tracked. -/
def keepSet (set : List FixedSignal) (vec : List Rat) (steady all : List SingleDiff) : List FixedSignal :=
  let ok (l : List SingleDiff) (f : FixedSignal) : Bool := l.any fun x => decide (x.sat = f.sat ∧ x.signal = f.signal)
  let stay := set.filter fun f => f.inSet && ok steady f
  let anchor (x : SingleDiff) : Option (SingleDiff × FixedSignal) :=
    (all.filter fun y => decide (y.sat.system = x.sat.system ∧ y.signal = x.signal)).findSome? fun y =>
      (integerOf stay y).map fun f => (y, f)
  let outside := (all.filter fun x => (integerOf stay x).isNone).filterMap fun x =>
    (anchor x).map fun (y, f) =>
      let geo := dot (vsub y.los x.los) vec
      let whole := x.cycles - (geo + y.lam * (y.cycles - f.n)) / x.lam
      let old := (integerOf set x).filter fun g => !g.inSet && ok steady g
      let n : Int := match old with
        | some g => g.n
        | none => roundHalfEven whole
      let good := if ratAbs (whole - n) ≤ 1 / 10 then (old.map (·.good)).getD 0 + 1 else 0
      { sat := x.sat, signal := x.signal, n := n, inSet := decide (5 ≤ good), good := good : FixedSignal }
  stay ++ outside

/-- Length of a vector. -/
def vlen (v : List Rat) : Rat := Config.sqrt (dot v v)

/-- Angle between two vectors in degrees. -/
def angleDeg (u v : List Rat) : Rat :=
  let c := [vget u 1 * vget v 2 - vget u 2 * vget v 1, vget u 2 * vget v 0 - vget u 0 * vget v 2,
    vget u 0 * vget v 1 - vget u 1 * vget v 0]
  deg (Config.atan2 (vlen c) (dot u v))

/-- A configured baseline in metres, body axes (3328h). -/
def State.bodyBaseline (s : State) (first : Nat) : List Rat :=
  (List.range 3).map fun j => (s.obj 0x3328 (first + j) : Rat) / 1000

/-- Whether a baseline of 3328h is configured: its three components are not all 0. -/
def State.baselineUsed (s : State) (first : Nat) : Bool :=
  decide (s.obj 0x3328 first ≠ 0 ∨ s.obj 0x3328 (first + 1) ≠ 0 ∨ s.obj 0x3328 (first + 2) ≠ 0)

/-- One epoch of the baseline from GA to port `p` (Table 6-5, R224 to R226): its new state, and whether a wrong fix was found. `first`
is its first subindex in 3328h, `other` the other baseline with its first subindex. -/
def State.baselineEpoch (s : State) (p first : Nat) (b : Baseline) (other : Baseline × Nat) : Baseline × Bool :=
  let steady := s.singleDiffs p false
  let usable := (steady.map (·.sat)).eraseDups.length
  let portOk := !(s.bit 0x3000 8 3) && !(s.bit (0x3000 + p) 8 3)
  if ¬ (s.baselineUsed first && portOk && decide (s.obj 0x3328 9 = 1)) ∨ usable < 5 then ({}, false)
  else
    let want := vlen (s.bodyBaseline first)
    let tol : Rat := (s.nat 0x3328 8 : Rat) / 1000
    let lengthOk (v : List Rat) : Bool := decide (ratAbs (vlen v - want) ≤ tol)
    match b.state with
    | .none => ({ state := .float }, false)
    | .float =>
      let dds := doubleDiffs steady
      let (x, cov) := floatSolution dds
      let n := dds.length
      let weight := inverse n (matOf n n fun i j => mget cov (3 + i) (3 + j))
      let (best, second) := Config.integerSearch (x.drop 3) (matOf n n fun i j => mget cov (3 + i) (3 + j))
      let ratio := qdiv (ambiguityNorm (x.drop 3) weight second) (ambiguityNorm (x.drop 3) weight best)
      let set := searchedSet dds best
      let (vec, vcov) := fixedVector set dds
      let angleOk := decide (other.1.state ≠ .fixed) || decide
        (ratAbs (angleDeg vec other.1.vec - angleDeg (s.bodyBaseline first) (s.bodyBaseline other.2)) ≤ 1)
      if (s.nat 0x3328 7 : Rat) / 10 ≤ ratio ∧ lengthOk vec ∧ angleOk then
        ({ state := .fixed, bad := 0, set := set, vec := vec, cov := vcov }, false)
      else ({ b with vec := x.take 3 }, false)
    | .fixed =>
      let all := s.singleDiffs p true
      let set := keepSet b.set b.vec steady all
      let inSet := ((set.filter (·.inSet)).map (·.sat)).eraseDups.length
      if inSet < 4 then ({ state := .float }, false)
      else
        let dds := doubleDiffs all
        let (vec, vcov) := fixedVector set dds
        let wrong := !(lengthOk vec) || dds.any fun d => match ddResidual (set.filter (·.inSet)) vec d with
          | some r => decide (1 / 4 < r)
          | none => false
        let bad := if wrong then b.bad + 1 else 0
        if 3 ≤ bad then ({ state := .float }, true)
        else ({ state := .fixed, bad := bad, set := set, vec := vec, cov := vcov }, false)

/-- Both baselines over the epoch of the last record, once (R225): each angle is held against the other as it then stands. -/
def State.baselines (s : State) : State :=
  if nth none s.gsol.formed 5 = some s.gsol.entriesAt then s
  else
    let (gb, w1) := s.baselineEpoch 1 1 s.gsol.gb (s.gsol.gc, 4)
    let (gc, w2) := s.baselineEpoch 2 4 s.gsol.gc (gb, 1)
    let s := if w1 then s.count .data 0x3320 0x0C else s
    let s := if w2 then s.count .data 0x3320 0x0C else s
    let s := { s with gsol := { s.gsol with
      gb := gb, gc := gc, formed := modifyNth (fun _ => some s.gsol.entriesAt) s.gsol.formed 5 } }
    s.setObjs [(0x3320, 8, (gb.state.code : Nat)), (0x3320, 9, (gc.state.code : Nat))]

/-! ### Products -/

/-- Observations of GB or GC moved to GA by the vector of a FIXED baseline (R219). -/
def movedObs (b : Baseline) (los : Nat → List Rat) (obs : List SolObs) : List SolObs :=
  if b.state ≠ .fixed then []
  else obs.map fun o => { o with range := o.range + dot (los o.sat) b.vec }

/-- Observations of a solution: of one port, or all three for the combined one (R218, R219). -/
def State.solutionObs (s : State) (which : Nat) : List SolObs :=
  let of' (p : Nat) := observations (s.usableEntries p)
  let los (c : Nat) : List Rat :=
    let r := (Config.satModel c s.gsol.entriesAt (triple s.gsol.point)).2.1
    [r.1, r.2.1, r.2.2]
  if which < 3 then of' which else of' 0 ++ movedObs s.gsol.gb los (of' 1) ++ movedObs s.gsol.gc los (of' 2)

/-- Whether a combined solution is a valid clock solution (R221). -/
def clockValid (r : SolResult) : Bool :=
  decide (r.instant % 1000000000 = 0) && decide (5 ≤ r.sats) && decide (r.fix ≠ 0) && decide (r.clockStdPs ≤ 30000)

/-- The run of valid clock solutions at 1 s intervals toward qualification (R124, R221): solutions between whole seconds are none of
it; the uncertainty they state is twice the clock standard deviation. -/
def State.clockRun (s : State) (r : SolResult) : State :=
  if r.instant % 1000000000 ≠ 0 then s
  else if clockValid r then
    let run := match s.clock.gnssLast with
      | some l => if l + 1000000000 = r.instant then s.clock.gnssRun + 1 else 1
      | none => 1
    { s with clock := { s.clock with
      gnssRun := run, gnssLast := some r.instant
      offsets := modifyNth (fun _ => r.clockPs) s.clock.offsets 0
      uncertainty := modifyNth (fun _ => 2 * r.clockStdPs / 1000) s.clock.uncertainty 0 } }
  else { s with clock := { s.clock with gnssRun := 0, gnssLast := none } }

/-- Least offset of a solution from its instant (Table 6-3). -/
def solutionDelay (which : Nat) : Nat := if which = 3 then 6000000 else 5000000

/-- SOLUTION_READY (R218 to R222): once for each record, from the least offset of Table 6-3, a manager's P1 forms the solution of GA,
GB, GC (0 to 2) or combined (3); a valid combined clock solution counts toward qualification and disciplines module time while GNSS is
the selected source. -/
def execSolutionReady (t which : Nat) (s : State) : Host.Outcome State Fault Refusal :=
  s.live t fun s =>
    if 4 ≤ which ∨ ¬ s.isManager ∨ s.gsol.latched ∨ s.gsol.entriesAt = 0 ∨ s.mt < s.gsol.entriesAt + solutionDelay which
      ∨ nth none s.gsol.formed which = some s.gsol.entriesAt then s
    else
      let s := if which = 3 then s.baselines else s
      let r0 := s.solve (s.solutionObs which)
      let few := decide (which = 3) && decide ((satsOf (observations (s.usableEntries 0))).length < 4)
      let r := if few then { r0 with fix := 0 } else r0
      let i := 0x3310 + which
      let s := s.setObjs [(i, 1, (r.fix : Nat)), (i, 2, r.sats), (i, 3, r.lat), (i, 4, r.lon), (i, 5, r.height), (i, 6, r.vn),
        (i, 7, r.ve), (i, 8, r.vd), (i, 9, r.hStd), (i, 0x0A, r.vStd), (i, 0x0B, r.clockPs), (i, 0x0C, r.clockStdPs),
        (i, 0x0D, (r.instant % 4294967296 : Nat)), (i, 0x0E, r.exclude)]
      let s := if r.fix ≠ 0 ∧ s.obj 0x3330 2 = 0xFFFFFFFF then s.setObj 0x3330 2 (s.sinceOrigin / 1000000 : Nat) else s
      let s := { s with gsol := { s.gsol with
        formed := modifyNth (fun _ => some r.instant) s.gsol.formed which
        point := if which = 0 ∧ r.fix ≠ 0 then (s.solvePoint (s.exclusion (s.solutionObs 0)).1).1.take 3 else s.gsol.point } }
      let s := (s.commitInput 36 r.instant [BitVec.ofNat 8 which]).nameInput
      let s := s.keepProduct { own := true, num := 0, sent := 0, arrival := 0, instant := r.instant, which := which, solution := some r }
      let s := (s.productSample s.ident.twin which r r.fix).unmarkInput
      if which ≠ 3 then s
      else
        let s := s.clockRun r
        if ¬ clockValid r then s
        else if s.steersTime ∧ s.selectedSource = some 0 then s.servo 0 r.clockPs
        else s.ownOffset 0 r.clockPs

/-- The samples an attitude epoch gives the estimator: the full attitude (source 16h), or one baseline (17h with its
number first) (Table 9-2). -/
def attitudeSamples (committed : Int) (st : Nat) (r : AttResult) : List Sample :=
  let one (n : Int) (e : Nat × Int) : Sample :=
    { source := 0x17, instant := r.instant, arrival := committed, vals := [n, e.1, e.2], sigma := none }
  match st with
  | 3 => [{ source := 0x16, instant := r.instant, arrival := committed, sigma := none
            vals := [r.heading, r.pitch, r.roll, r.headingStd, r.pitchStd, r.rollStd] }]
  | 1 => [one 0 r.gb]
  | 2 => [one 1 r.gc]
  | _ => []

/-- An attitude product of twin `tw` waits for the snapshot when that twin is the active one (R240, R241). -/
def State.attitudeProduct (s : State) (tw : Twin) (st : Nat) (r : AttResult) : State :=
  if s.activeTwin = tw then
    { s with align := { s.align with attitude := s.align.attitude ++
      ((attitudeSamples s.mt st r).map fun (a : Sample) => { a with sent := s.pair.inputSeq, num := s.pair.inputNum }) } }
  else s

/-- Turn of a body vector into north, east, down by roll, pitch and heading (R9 to R12), with its gradient. -/
def turnedBody (x : List Rat) (b : List Rat) : Dual3 :=
  Dual3.toEarth (Dual.var x 1) (Dual.var x 2) (Dual.var x 3) (Dual.const (vget b 0), Dual.const (vget b 1), Dual.const (vget b 2))

/-- Normal equations of the rotation that maps body vectors onto measured ones, each weighted by its covariance (R228): the step and
its covariance at the angles `x`. -/
def rotationStep (x : List Rat) (pairs : List (List Rat × Baseline)) : List Rat × List (List Rat) :=
  let parts := pairs.map fun p =>
    let w := turnedBody x p.1
    let g := [w.1, w.2.1, w.2.2]
    let jac := g.map fun q => (List.range 3).map q.d
    let res := vsub p.2.vec (g.map (·.v))
    (jac, res, inverse 3 p.2.cov)
  let normal := matOf 3 3 fun i j => sumRat (parts.map fun p =>
    sumRat ((List.range 3).map fun a => sumRat ((List.range 3).map fun b => mget p.1 a i * mget p.2.2 a b * mget p.1 b j)))
  let right := (List.range 3).map fun i => sumRat (parts.map fun p =>
    sumRat ((List.range 3).map fun a => sumRat ((List.range 3).map fun b => mget p.1 a i * mget p.2.2 a b * vget p.2.1 b)))
  let cov := inverse 3 normal
  (matVec cov right, cov)

/-- The steps to the best rotation (their number is a DESIGN CHOICE, log entry 21). -/
def rotationSteps (pairs : List (List Rat × Baseline)) : Nat → List Rat → List Rat
  | 0, x => x
  | n + 1, x => rotationSteps pairs n (vadd x (rotationStep x pairs).1)

/-- Radians as 0.0001°. -/
def tenThousandths (r : Rat) : Int := roundHalfEven (deg r * 10000)

/-- Azimuth and elevation of a measured vector in 0.0001° (R229). -/
def Baseline.angles (b : Baseline) : Nat × Int :=
  ((tenThousandths (Config.atan2 (vget b.vec 1) (vget b.vec 0)) % 3600000).toNat,
   tenThousandths (Config.atan2 (-(vget b.vec 2)) (hypot (vget b.vec 0) (vget b.vec 1))))

/-- The attitude of the last epoch: single baselines, and the rotation that best maps both, from the heading of GA-GC. -/
def State.attitudeOf (s : State) : AttResult :=
  let pairs := [(s.bodyBaseline 1, s.gsol.gb), (s.bodyBaseline 4, s.gsol.gc)]
  let v := s.gsol.gc.vec
  let body := s.bodyBaseline 4
  let start := [0, 0, Config.atan2 (vget v 1) (vget v 0) - Config.atan2 (vget body 1) (vget body 0)]
  let x := rotationSteps pairs 10 start
  let cov := (rotationStep x pairs).2
  let std (i : Nat) : Nat := (clampInt 0 65534 (tenThousandths (Config.sqrt (mget cov i i)))).toNat
  { gb := s.gsol.gb.angles, gc := s.gsol.gc.angles, heading := (tenThousandths (vget x 2) % 3600000).toNat
    pitch := tenThousandths (vget x 1), roll := tenThousandths (vget x 0), headingStd := std 2, pitchStd := std 1, rollStd := std 0
    instant := s.gsol.entriesAt }

/-- ATTITUDE_READY (R224 to R229, Table 6-3): once for each record, from 8 ms after its instant, the baseline states, the attitude state
and the angles that state reports. -/
def execAttitudeReady (t : Nat) (s : State) : Host.Outcome State Fault Refusal :=
  s.live t fun s =>
    if s.obj 0x3328 9 ≠ 1 ∨ s.gsol.latched ∨ s.gsol.entriesAt = 0 ∨ s.mt < s.gsol.entriesAt + 8000000
      ∨ nth none s.gsol.formed 4 = some s.gsol.entriesAt then s
    else
      let s := s.baselines
      let r := s.attitudeOf
      let st : Nat := (if s.gsol.gb.state = .fixed then 1 else 0) + (if s.gsol.gc.state = .fixed then 2 else 0)
      let single := if st = 1 then some r.gb else if st = 2 then some r.gc else none
      let full := decide (st = 3)
      let s := s.setObjs [(0x3320, 1, (st : Nat)), (0x3320, 2, if full then (r.heading : Nat) else 0xFFFFFFFF),
        (0x3320, 3, if full then r.pitch else 0x7FFFFFFF), (0x3320, 4, if full then r.roll else 0x7FFFFFFF),
        (0x3320, 5, if full then (r.headingStd : Nat) else 0xFFFF), (0x3320, 6, if full then (r.pitchStd : Nat) else 0xFFFF),
        (0x3320, 7, if full then (r.rollStd : Nat) else 0xFFFF),
        (0x3320, 0x0A, match single with | some e => (e.1 : Nat) | none => 0xFFFFFFFF),
        (0x3320, 0x0B, match single with | some e => e.2 | none => 0x7FFFFFFF),
        (0x3320, 0x0D, (r.instant % 4294967296 : Nat))]
      let s := { s with gsol := { s.gsol with formed := modifyNth (fun _ => some r.instant) s.gsol.formed 4 } }
      let s := (s.commitInput 37 r.instant [BitVec.ofNat 8 st]).nameInput
      let s := s.keepProduct { own := true, num := 0, sent := 0, arrival := 0, instant := r.instant, which := 4
                               heading := if full then some r.heading else none }
      (s.attitudeProduct s.ident.twin st r).unmarkInput

/-! ### Kept data (R231 to R234) -/

/-- The place of an item in the store: its kind, and the satellite, slot or system it is of. -/
def KeptItem.place : KeptItem → Nat × Nat
  | .ephemeris a _ _ => (0, a)
  | .frequency a _ _ => (1, a)
  | .almanac a _ _ => (2, a)
  | .ionosphere a _ _ => (3, a)
  | .utc a _ _ _ _ => (4, a)
  | .position _ _ _ _ => (5, 0)

/-- TAI seconds an item belongs to. -/
def KeptItem.taiS : KeptItem → Nat
  | .ephemeris _ t _ => t
  | .frequency _ t _ => t
  | .almanac _ t _ => t
  | .ionosphere _ t _ => t
  | .utc _ t _ _ _ => t
  | .position t _ _ _ => t

/-- Bytes of an item under its CRC-32C (the layout is a DESIGN CHOICE, log entry 22). -/
def KeptItem.bytes (x : KeptItem) : List Byte :=
  leBytes 1 x.place.1 ++ leBytes 2 x.place.2 ++ leBytes 6 x.taiS ++ (match x with
    | .ephemeris _ _ d => d
    | .frequency _ _ k => leBytesInt 1 k
    | .almanac _ _ d => d
    | .ionosphere _ _ d => d
    | .utc _ _ u l d => leBytesInt 2 u ++ leBytes 1 l ++ d
    | .position _ a o h => leBytesInt 4 a ++ leBytesInt 4 o ++ leBytesInt 4 h)

/-- Whether a stored item passes its check. -/
def keptOk (p : KeptItem × Nat) : Bool := decide (crc32c p.1.bytes = p.2)

/-- An item is written to its place with its CRC. -/
def State.putKept (s : State) (x : KeptItem) : State :=
  { s with mram := { s.mram with
    kept := (s.mram.kept.filter fun (p : KeptItem × Nat) => decide (p.1.place ≠ x.place)) ++ [(x, crc32c x.bytes)] } }

/-- KEPT_DATA_WRITE (R231): an item decoded identically twice (decoded UTC parameters also give 2100h:0F and 2100h:10), or the last
combined position of 3313h with its time every 60 s while its fix type is not 00h. -/
def execKeptDataWrite (t : Nat) (w : KeptWrite) (s : State) : Host.Outcome State Fault Refusal :=
  s.live t fun s =>
    match w with
    | .decoded first second =>
      if first ≠ second then s
      else match second with
        | .position _ _ _ _ => s
        | .utc _ _ u l _ => (s.putKept second).putUtc u l
        | _ => s.putKept second
    | .position =>
      if s.obj 0x3313 1 = 0 ∨ s.gsol.lastFixWrite.any (fun a => decide (s.now < a + 60000000000)) then s
      else
        let at' := (extend32 s.mt (s.obj 0x3313 0x0D) / 1000000000).toNat
        { s.putKept (.position at' (s.obj 0x3313 3) (s.obj 0x3313 4) (s.obj 0x3313 5)) with
          gsol := { s.gsol with lastFixWrite := some s.now } }

/-- The kept data erased; the next start is cold and the baseband keeps tracking (R233). -/
def State.eraseKept (s : State) : State := { s with mram := { s.mram with kept := [] } }

/-- The kept data checked at start-up: an item that fails its check is discarded and counted (R232). -/
def State.checkKept (s : State) : State :=
  let bad := (s.mram.kept.filter fun (p : KeptItem × Nat) => !keptOk p).length
  let s := { s with mram := { s.mram with kept := s.mram.kept.filter keptOk } }
  if bad = 0 then s else s.countBy .data 0x3330 7 bad

/-- Start category from the kept data and coarse time in TAI seconds (R96, R232, Table 3-4): 0 hot, 1 warm, 2 cold. -/
def State.startCategory (s : State) (coarse : Option Nat) : Nat :=
  let has (f : KeptItem → Bool) : Bool := s.mram.kept.any fun (p : KeptItem × Nat) => f p.1
  let younger (limit at' : Nat) : Bool := match coarse with | some c => decide (c < at' + limit) | none => false
  let pos := has fun i => match i with | .position _ _ _ _ => true | _ => false
  let eph := has fun i => match i with | .ephemeris _ a _ => younger 14400 a | _ => false
  let alm := has fun i => match i with | .almanac _ a _ => coarse.isNone || younger 7776000 a | _ => false
  if eph ∧ pos ∧ coarse.isSome then 0 else if alm ∧ pos then 1 else 2

/-- Objects of 3330h that read the kept data (Table 6-12). -/
def State.keptView (s : State) (sub : Nat) : Option Int :=
  let now := s.mt / 1000000000
  let times (kind : Nat) : List Nat := s.mram.kept.filterMap fun (p : KeptItem × Nat) =>
    if p.1.place.1 = kind then some p.1.taiS else none
  let age (l : List Nat) (unit none' : Nat) : Option Int := some (match l.min? with
    | some a => if s.clock.state = .unset then (none' : Nat) else (min ((now - a) / unit) none' : Nat)
    | none => (none' : Nat))
  match sub with
  | 3 => some ((times 0).length : Nat)
  | 4 => age (times 0) 1 0xFFFFFFFF
  | 5 => age (times 2) 86400 0xFFFF
  | 6 => age (times 5) 1 0xFFFFFFFF
  | _ => none

/-! ### Harbour mode (R235 to R239) -/

/-- The baseband sleeps: every channel OFF, front ends held in reset (R236). -/
def State.harbourSleep (s : State) : State :=
  let s := s.chansOff fun _ => true
  let sleep (s : State) (p : Nat) : State :=
    let s := s.modPort p fun q => { q with initPending := true, searching := false }
    (s.setBit (0x3000 + p) 8 4 false).setBit (0x3000 + p) 8 2 false
  (sleep (sleep (sleep s 0) 1) 2).setObj 0x3340 4 1

/-- Entry at the gate boundary of the write (R236, R237). -/
def State.harbourEnter (s : State) : State :=
  let s := s.harbourSleep
  { s with gsol := { s.gsol with wakeFrom := s.now } }

/-- End at a cycle boundary: a baseband asleep wakes at once (R238). -/
def State.harbourLeave (s : State) : State := s.setObjs [(0x3340, 4, 0), (0x3340, 1, 0)]

/-- HARBOUR_WAKE (R237): one wake interval after entry or after the previous wake started. -/
def execHarbourWake (t : Nat) (s : State) : Host.Outcome State Fault Refusal :=
  s.live t fun s =>
    if s.obj 0x3340 4 = 1 ∧ s.gsol.wakeFrom + 60000000000 * s.nat 0x3340 2 ≤ s.now then
      let s := s.setObj 0x3340 4 2
      { s with gsol := { s.gsol with wakeFrom := s.now } }
    else s

/-- HARBOUR_WAKE_END (R237): after the wake duration, extended by up to 60 s while a predicted satellite lacks an
ephemeris; a wake that ends with one is counted. -/
def execHarbourWakeEnd (t : Nat) (lacking : Bool) (s : State) : Host.Outcome State Fault Refusal :=
  s.live t fun s =>
    let due := s.gsol.wakeFrom + 1000000000 * s.nat 0x3340 3 + (if lacking then 60000000000 else 0)
    if s.obj 0x3340 4 = 2 ∧ due ≤ s.now then
      let s := if lacking then s.count .data 0x3340 6 else s
      s.harbourSleep
    else s

/-- 3340h:05: seconds to the next wake while asleep. -/
def State.nextWakeS (s : State) : Nat :=
  if s.obj 0x3340 4 = 1 then (s.gsol.wakeFrom + 60000000000 * s.nat 0x3340 2 - s.now) / 1000000000 else 0

/-! ### Comparison of the twins (R242 to R244) -/

/-- One limit of R243: the run beyond and within it, and the bit that follows. -/
def limitRun (outside inside : Nat) (beyond was : Bool) : Nat × Nat × Bool :=
  let o := if beyond then outside + 1 else 0
  let u := if beyond then 0 else inside + 1
  (o, u, if 10 ≤ o then true else if 10 ≤ u then false else was)

/-- A difference of headings in 0.0001°, folded to ±180°. -/
def foldHeading (d : Int) : Int := (d + 1800000) % 3600000 - 1800000

/-- The comparison at a cycle whose snapshot holds both combined solutions of one instant (R242 to R244). `moved` gives the
horizontal difference in mm of the two solutions at the body-frame origin. -/
def State.twinCompare (s : State) (movedMm : SolResult → SolResult → Nat) : State :=
  let sol (own : Bool) : Option SolResult := ((s.snapProduct own 3).bind (·.solution)).filter fun r => decide (r.fix ≠ 0)
  match sol true, sol false with
  | some a, some b =>
    if (s.ctl.t0 - a.instant).natAbs > 1000000000 ∨ (s.ctl.t0 - b.instant).natAbs > 1000000000 then s.setBit 0x3350 3 0 false
    else if a.instant ≠ b.instant ∨ s.gsol.compared = a.instant then s
    else
      let d := movedMm a b
      let st := s.nat 0x3350 3
      let (po, pu, pBit) := limitRun s.gsol.posOver s.gsol.posUnder (decide (s.nat 0x3350 1 < d)) (st.testBit 1)
      let heading (own : Bool) : Option Nat := ((s.snapProduct own 4).filter fun p => decide (p.instant = a.instant)).bind (·.heading)
      let hd : Option Int := match heading true, heading false with
        | some h, some k => some (foldHeading (if s.ident.twin = .a then (h : Int) - k else (k : Int) - h))
        | _, _ => none
      let (ho, hu, hBit) := match hd with
        | some x => limitRun s.gsol.hdgOver s.gsol.hdgUnder (decide (s.nat 0x3350 2 < x.natAbs)) (st.testBit 2)
        | none => (s.gsol.hdgOver, s.gsol.hdgUnder, st.testBit 2)
      let s := { s with gsol := { s.gsol with
        posOver := po, posUnder := pu, hdgOver := ho, hdgUnder := hu, compared := a.instant } }
      let new := putBit (putBit (putBit st 0 true) 1 pBit) 2 hBit
      let s := s.setObjs [(0x3350, 3, (new : Nat)), (0x3350, 4, (d : Nat)), (0x3350, 5, hd.getD (s.obj 0x3350 5))]
      let raised (s : State) (was now : Bool) : State :=
        if ¬ was ∧ now then ((s.count .control 0x3350 6).alarm .control 0x3350 3 1).event .control 0x3350 6 3 else s
      let s := raised (raised s (st.testBit 1) pBit) (st.testBit 2) hBit
      if ¬ pBit ∧ ¬ hBit then s.unalarm .control 0x3350 3 1 else s
  | _, _ => s.setBit 0x3350 3 0 false

/-! ### Settings (R235, R246) -/

/-- Aborts of a write to the objects of this chapter beyond its range column. -/
def State.solWriteAbort (s : State) (i sub : Nat) (v : Val) : Option Nat :=
  match v with
  | .bytes _ => none
  | .num n =>
    if i = 0x3328 ∧ 1 ≤ sub ∧ sub ≤ 6 then
      let g (k : Nat) : Int := if k = sub then n else s.latest 0x3328 k
      let a2 := g 1 * g 1 + g 2 * g 2 + g 3 * g 3
      let b2 := g 4 * g 4 + g 5 * g 5 + g 6 * g 6
      let bad (q : Int) : Bool := decide (q ≠ 0) && (decide (q < 250000) || decide (2500000000 < q))
      let dot := g 1 * g 4 + g 2 * g 5 + g 3 * g 6
      if bad a2 || bad b2 then some 0x06090030
      else if a2 ≠ 0 ∧ b2 ≠ 0 ∧ 3 * a2 * b2 < 4 * dot * dot then some 0x06040043
      else none
    else if i = 0x3340 ∧ sub = 1 ∧ n = 1 then
      if ¬ s.isManager then some 0x06090030
      else if s.power.stage ≠ .ready ∨ s.nat 0x5000 1 ≠ 1 then some 0x08000022
      else none
    else none

/-- What follows a write of this chapter that has taken effect at its boundary. -/
def State.solApplied (s : State) (i sub : Nat) (old new : Int) : State :=
  if i = 0x3300 ∧ sub = 1 then { s with gsol := { s.gsol with ratePending := some new.toNat } }
  else if i = 0x3340 ∧ sub = 1 then
    if new = 1 ∧ old = 0 then s.harbourEnter
    else if new = 0 ∧ s.obj 0x3340 4 ≠ 0 then s.harbourLeave
    else s
  else if i = 0x3328 ∧ sub = 9 ∧ new = 0 then
    { s with gsol := { s.gsol with gb := {}, gc := {} } }.setObjs [(0x3320, 1, 0), (0x3320, 8, 0), (0x3320, 9, 0)]
  else s

end Sys2Proof.Machine
end

