-- ==== Sys2Proof/Machine/Estimator.lean ====
section
/-! DEFINITION. The vessel state estimator and on-line calibration (chapter 9), and the reference quality tests that use its
predictions (chapter 8). States are numbered from 1 as in Table 9-1; lengths in metres, angles in radians. -/

namespace Sys2Proof.Machine

open Sys2Proof

/-! ### The filter -/

/-- Number of states (R317). -/
def estStates : Nat := 66

/-- Initial variance of a state (R349 for the calibration states, else free). -/
def initVar (i : Nat) : Rat :=
  if (58 ≤ i ∧ i ≤ 60) ∨ 64 ≤ i then 1 / 400
  else if 61 ≤ i ∧ i ≤ 63 then rad (1 / 2) * rad (1 / 2)
  else Config.initialVariance i

/-- A diagonal matrix. -/
def diag (f : Nat → Rat) : List (List Rat) := matOf estStates estStates fun i j => if i = j then f (i + 1) else 0

/-- State `i` of an estimate. -/
def Est.get (e : Est) (i : Nat) : Rat := vget e.x (i - 1)

/-- Covariance of two states. -/
def Est.cov (e : Est) (i j : Nat) : Rat := mget e.p (i - 1) (j - 1)

/-- A state set to a value with a variance of its own, uncorrelated. -/
def Est.put (e : Est) (i : Nat) (v var : Rat) : Est :=
  { e with
    x := vset e.x (i - 1) v
    p := matOf estStates estStates fun a b =>
      if a + 1 = i ∧ b + 1 = i then var else if a + 1 = i ∨ b + 1 = i then 0 else mget e.p a b }

/-- A state moved, its variance kept. -/
def Est.shift (e : Est) (i : Nat) (v : Rat) : Est := { e with x := vset e.x (i - 1) v }

/-- The three-degree-of-freedom model with damped restoring and wave models (R320): time derivative of every state. -/
def State.derivative (s : State) (tau : List Rat) (x : List Rat) (i : Nat) : Dual :=
  let v := Dual.var x
  let m (k : Nat) : Rat := s.nat 0x4204 k
  let psi := v 6
  let period (k : Nat) : Rat := m k / 10
  let restoring (pos rate k : Nat) : Dual :=
    let w := qdiv (2 * Config.pi) (period k)
    ((v pos).scale (-(w * w))).add ((v rate).scale (-(w / 5)))
  let wave (a : Nat) : Dual :=
    let w := qdiv (2 * Config.pi) (period 8)
    ((v a).scale (-(w * w))).add ((v (a + 1)).scale (-(2 * (m 9 / 1000) * w)))
  let held : Bool := decide (s.obj 0x4201 1 = 4) || decide (s.obj 0x4201 1 = 5)
  match i with
  | 1 => (psi.cos.mul (v 7)).sub (psi.sin.mul (v 8))
  | 2 => (psi.sin.mul (v 7)).add (psi.cos.mul (v 8))
  | 3 => v 9
  | 4 => v 10
  | 5 => v 11
  | 6 => v 12
  | 7 => ((((v 7).scale (-(m 4))).add ((psi.cos.mul (v 19)).add (psi.sin.mul (v 20)))).add (Dual.const (vget tau 0))).scale (qdiv 1 (m 1))
  | 8 => ((((v 8).scale (-(m 5))).add ((psi.cos.mul (v 20)).sub (psi.sin.mul (v 19)))).add (Dual.const (vget tau 1))).scale (qdiv 1 (m 2))
  | 9 => restoring 3 9 0x0A
  | 10 => restoring 4 10 0x0B
  | 11 => restoring 5 11 0x0C
  | 12 => ((((v 12).scale (-(m 6))).add (v 21)).add (Dual.const (vget tau 2))).scale (qdiv 1 (m 3))
  | 13 => v 14
  | 14 => wave 13
  | 15 => v 16
  | 16 => wave 15
  | 17 => v 18
  | 18 => wave 17
  | 56 => v 57
  | _ => if 19 ≤ i ∧ i ≤ 21 ∧ ¬ held then (v i).scale (-(qdiv 1 (s.nat 0x4200 3))) else Dual.const 0

/-- Noise density of every state (R320, R329, R335, R338): none for calibration states, for held environmental forces and
for held gyrocompass biases. -/
def State.density (s : State) (now : Int) (i : Nat) : Rat :=
  if 58 ≤ i then 0
  else if 32 ≤ i ∧ i ≤ 55 then
    let n := (i - 32) / 2
    let ty := s.obj (0x4100 + n) 1
    let d : Rat := if ty = 1 ∨ ty = 2 then s.nat 0x4200 0x0C else if ty = 0 then 0 else s.nat (0x4220 + n) 5
    d / 10000 * (d / 10000)
  else if 19 ≤ i ∧ i ≤ 21 ∧ (s.obj 0x4201 1 = 4 ∨ s.obj 0x4201 1 = 5) then 0
  else if 22 ≤ i ∧ i ≤ 25 then
    match s.est.lastAttFused with
    | some a => if now - a ≤ 60000000000 then Config.noiseDensity i else 0
    | none => 0
  else Config.noiseDensity i

/-- The affine model linearised at `x`, with a last column for its constant part (R322). -/
def State.linearised (s : State) (tau x : List Rat) : List (List Rat) :=
  ((List.range estStates).map fun i =>
    let f := s.derivative tau x (i + 1)
    let row := (List.range estStates).map f.d
    row ++ [f.v - dot row x]) ++ [List.replicate (estStates + 1) 0]

/-- Propagation to an instant (R320 to R323): state, covariance and the stored products of retrodiction. -/
def State.propagate (s : State) (e : Est) (till : Int) : Est :=
  if till ≤ e.at' then e
  else
    let dt : Rat := ((till - e.at' : Int) : Rat) / 1000000000
    let tau := vadd (s.est.thrust.foldl vadd [0, 0, 0]) s.est.tauWind
    let a := s.linearised tau e.x
    let big := expm (estStates + 1) a dt
    let phi := matOf estStates estStates (mget big)
    let q := Config.noiseIntegral a ((List.range estStates).map fun i => s.density till (i + 1)) dt
    { e with
      at' := till
      x := (matVec big (e.x ++ [1])).take estStates
      p := (matMul estStates (matMul estStates phi e.p) (transpose estStates phi)).zipWith vadd q
      horizons := e.horizons.map fun h => { h with acc := matMul estStates phi h.acc } }

/-- Whether the gain rows of the calibration states are zero (R346). -/
def frozenRow (frozen : Bool) (i : Nat) : Bool := frozen && decide (57 ≤ i)

/-- Gain of a scalar measurement: H, P Hᵀ, S, K. -/
def gainOf (frozen : Bool) (p : List (List Rat)) (h : Nat → Rat) (r : Rat) : List Rat × Rat × List Rat :=
  let row := (List.range estStates).map h
  let ph := matVec p row
  let sVar := dot row ph + r
  (ph, sVar, (List.range estStates).map fun i => if frozenRow frozen i then 0 else qdiv (vget ph i) sVar)

/-- Scalar update in the Joseph form (R344): innovation `nu`, row `h`, variance `r`. -/
def Est.scalar (e : Est) (nu : Rat) (h : Nat → Rat) (r : Rat) : Est :=
  let (ph, sVar, k) := gainOf e.frozen e.p h r
  let ikh := matOf estStates estStates fun i j => (if i = j then 1 else 0) - vget k i * h j
  { e with
    x := vadd e.x (vscale nu k)
    p := matOf estStates estStates fun i j =>
      mget e.p i j - vget k i * vget ph j - vget ph i * vget k j + vget k i * sVar * vget k j
    horizons := e.horizons.map fun z => { z with acc := matMul estStates ikh z.acc } }

/-- Variance of an innovation. -/
def Est.innovVar (e : Est) (h : Nat → Rat) (r : Rat) : Rat :=
  let row := (List.range estStates).map h
  dot row (matVec e.p row) + r

/-! ### Measurement models (Table 9-2) -/

/-- A constant in millimetres as metres. -/
def milli (v : Int) : Dual := Dual.const ((v : Rat) / 1000)

/-- A lever arm of three consecutive objects in mm. -/
def State.arm (s : State) (i sub : Nat) : Dual3 := (milli (s.obj i sub), milli (s.obj i (sub + 1)), milli (s.obj i (sub + 2)))

/-- GA lever arm of a twin, with the calibration states while that twin is active. -/
def State.gaArm (s : State) (tw : Twin) (x : List Rat) : Dual3 :=
  let base := s.arm 0x4210 (if tw = .a then 1 else 4)
  if tw = s.activeTwin then base.add (Dual.var x 58, Dual.var x 59, Dual.var x 60) else base

/-- Lever arm of a reference slot (Table 9-2, R372). -/
def State.slotArm (s : State) (n : Nat) (x : List Rat) : Dual3 :=
  match s.obj (0x4100 + n) 1 with
  | 1 =>
    let base := s.gaArm (s.slotTwin n) x
    match s.nat (0x4100 + n) 2 % 4 with
    | 1 => base.add (s.arm 0x3328 1)
    | 2 => base.add (s.arm 0x3328 4)
    | _ => base
  | 5 =>
    let track := s.nat (0x4100 + n) 2
    let input := s.nat (0x4310 + track) 3
    if input < 4 ∧ s.obj (0x4301 + input) 1 = 2 then s.gaArm s.activeTwin x else s.arm (0x4220 + n) 1
  | _ => s.arm (0x4220 + n) 1

/-- Body vector to earth axes at the estimate. -/
def turned (x : List Rat) (w : Dual3) : Dual3 := Dual3.toEarth (Dual.var x 4) (Dual.var x 5) (Dual.var x 6) w

/-- p(l): the position of a measured point. -/
def point3 (x : List Rat) (l : Dual3) : Dual3 :=
  let w := turned x l
  (((Dual.var x 1).add w.1).add (Dual.var x 14), ((Dual.var x 2).add w.2.1).add (Dual.var x 16), (Dual.var x 3).add w.2.2)

/-- North and east of a measured point. -/
def pointOf (x : List Rat) (l : Dual3) : Dual × Dual := ((point3 x l).1, (point3 x l).2.1)

/-- Velocity of p(l) in earth axes (R314, R327). -/
def State.pointVelocity (s : State) (x : List Rat) (l : Dual3) : Dual3 :=
  let tau := vadd (s.est.thrust.foldl vadd [0, 0, 0]) s.est.tauWind
  let f := s.derivative tau x
  let om : Dual3 := (Dual.var x 10, Dual.var x 11, Dual.var x 12)
  Dual3.add ((f 1).add (f 14), (f 2).add (f 16), f 3) (turned x (om.cross l))

/-- p(l) + offset of a slot. -/
def State.slotModel (s : State) (n : Nat) (x : List Rat) : Dual × Dual :=
  let p := pointOf x (s.slotArm n x)
  (p.1.add (Dual.var x (32 + 2 * n)), p.2.add (Dual.var x (33 + 2 * n)))

/-- The position a reference sample stands for, north and east in metres (Table 9-2). -/
def State.slotPosition (s : State) (n : Nat) (x : List Rat) (a : Sample) : Rat × Rat :=
  let v (k : Nat) : Rat := (a.vals.getD k 0 : Int)
  match s.obj (0x4100 + n) 1 with
  | 3 =>
    let th := rad (v 1 / 100) + vget x 5
    (-(v 0 / 1000 * Config.cos th), -(v 0 / 1000 * Config.sin th))
  | 4 =>
    let tan (d : Rat) : Rat := qdiv (Config.sin (rad (d / 1000))) (Config.cos (rad (d / 1000)))
    let h : Rat := s.nat (0x4220 + n) 4 / 1000
    let c := Config.cos (vget x 5)
    let g := Config.sin (vget x 5)
    (h * (c * tan (v 0) - g * tan (v 1)), h * (g * tan (v 0) + c * tan (v 1)))
  | 5 => (v 0 / 1000, v 1 / 1000)
  | _ => Config.tangent (a.vals.getD 0 0) (a.vals.getD 1 0) (s.obj 0x5010 0x0F) (s.obj 0x5010 0x10)

/-- A side store by its place: 0 and 1 GA of twins A and B, 2 to 4 M0 to M2 (R349). -/
def State.sideStore (s : State) (k : Nat) : Option KeptVec := nth none s.mram.sides k

/-- A correction of a motion sensor: state 61 + j of the primary, the committed value of another, which is tested and not fused
(R324, R349; log entry 27). -/
def State.motionState (s : State) (k : Nat) (x : List Rat) (j : Nat) : Dual :=
  if k = s.est.primary then Dual.var x (61 + j)
  else Dual.const (match s.sideStore (2 + k) with | some q => vget q.vals j | none => 0)

/-- A bias of the primary motion sensor, none of another. -/
def State.motionBias (s : State) (k : Nat) (x : List Rat) (i : Nat) : Dual :=
  if k = s.est.primary then Dual.var x i else Dual.const 0

/-- C(μ) of a motion sensor: its commissioned misalignment with its corrections. -/
def State.motionTurn (s : State) (k : Nat) (x : List Rat) (w : Dual3) : Dual3 :=
  let a (j : Nat) : Dual := (Dual.const (rad ((s.obj 0x4210 (0x10 + 3 * k + j) : Rat) / 1000))).add (s.motionState k x j)
  Dual3.intoTurned (a 0) (a 1) (a 2) w

/-- Rates of a motion sensor: C(μ) ω + b. -/
def State.rateModel (s : State) (k : Nat) (x : List Rat) : Dual3 :=
  (s.motionTurn k x (Dual.var x 10, Dual.var x 11, Dual.var x 12)).add
    (s.motionBias k x 26, s.motionBias k x 27, s.motionBias k x 28)

/-- Roll and pitch of C(μ) R(Θ): those of the down axis in sensor axes (Table 9-2). -/
def State.tiltModel (s : State) (k : Nat) (x : List Rat) : Dual × Dual :=
  let down := s.motionTurn k x (Dual3.intoTurned (Dual.var x 4) (Dual.var x 5) (Dual.var x 6)
    (Dual.const 0, Dual.const 0, Dual.const 1))
  (Dual.atan2 down.2.1 down.2.2, Dual.atan2 (down.1.scale (-1)) (Dual.hypot down.2.1 down.2.2))

/-- Accelerations of a motion sensor: C(μ)(a + ω' × l + ω × (ω × l) - g) + b. -/
def State.accelModel (s : State) (k : Nat) (x : List Rat) : Dual3 :=
  let tau := vadd (s.est.thrust.foldl vadd [0, 0, 0]) s.est.tauWind
  let f := s.derivative tau x
  let om : Dual3 := (Dual.var x 10, Dual.var x 11, Dual.var x 12)
  let l := (s.arm 0x4210 (7 + 3 * k)).add (s.motionState k x 3, s.motionState k x 4, s.motionState k x 5)
  let g := Dual3.intoTurned (Dual.var x 4) (Dual.var x 5) (Dual.var x 6)
    (Dual.const 0, Dual.const 0, Dual.const (-Config.gravity))
  let a : Dual3 := (f 7, f 8, f 9)
  let omDot : Dual3 := (f 10, f 11, f 12)
  (s.motionTurn k x (((a.add (omDot.cross l)).add (om.cross (om.cross l))).add g)).add
    (s.motionBias k x 29, s.motionBias k x 30, s.motionBias k x 31)

/-- Heading with its wave part. -/
def waveHeading (x : List Rat) : Dual := (Dual.var x 6).add (Dual.var x 18)

/-- Azimuth and elevation of a configured baseline. -/
def State.baselineModel (s : State) (k : Nat) (x : List Rat) : Dual × Dual :=
  let w := turned x (s.arm 0x3328 (1 + 3 * k))
  (Dual.atan2 w.2.1 w.1, Dual.atan2 (w.2.2.scale (-1)) (Dual.hypot w.1 w.2.1))

/-- Values of a motion sensor's sample: roll and pitch where it reports them, before the rates and accelerations. -/
def motionParts (vals : List Int) : List Int × List Int := if vals.length < 8 then ([], vals) else (vals.take 2, vals.drop 2)

/-- One scalar measurement: its residual, row, variance, and whether it is an angle. -/
structure Scalar where
  nu : Rat
  h : Nat → Rat
  r : Rat

/-- Residual of an angle. -/
def angleScalar (z : Rat) (m : Dual) (r : Rat) : Scalar := ⟨wrapTurn (2 * Config.pi) (z - m.v), m.d, r⟩

/-- Residual of a length, rate or acceleration. -/
def plainScalar (z : Rat) (m : Dual) (r : Rat) : Scalar := ⟨z - m.v, m.d, r⟩

/-- The scalars of a sensor sample at an estimate; none for a source that only informs (Table 9-2). -/
def State.sensorScalars (s : State) (a : Sample) : List (List Rat → Scalar) :=
  let v (k : Nat) : Rat := (a.vals.getD k 0 : Int)
  let milliDeg (k : Nat) : Rat := rad (v k / 1000)
  let sq (d : Rat) : Rat := rad (d / 10000) * rad (d / 10000)
  if 0x0C ≤ a.source ∧ a.source ≤ 0x0F then
    [fun x => angleScalar (milliDeg 0) ((waveHeading x).add (Dual.var x (22 + a.source - 0x0C))) (Config.sensorVariance 0)]
  else if 0x10 ≤ a.source ∧ a.source ≤ 0x12 then
    let k := a.source - 0x10
    let m (j : Nat) : Rat := ((motionParts a.vals).2.getD j 0 : Int)
    let rate (j : Nat) : Rat := rad (m j / 1000)
    [fun x => plainScalar (rate 0) (s.rateModel k x).1 (Config.sensorVariance 1),
     fun x => plainScalar (rate 1) (s.rateModel k x).2.1 (Config.sensorVariance 1),
     fun x => plainScalar (rate 2) (s.rateModel k x).2.2 (Config.sensorVariance 1),
     fun x => plainScalar (m 3 / 1000) (s.accelModel k x).1 (Config.sensorVariance 2),
     fun x => plainScalar (m 4 / 1000) (s.accelModel k x).2.1 (Config.sensorVariance 2),
     fun x => plainScalar (m 5 / 1000) (s.accelModel k x).2.2 (Config.sensorVariance 2)]
     ++ (if (motionParts a.vals).1.isEmpty then [] else
      [fun x => angleScalar (milliDeg 0) (s.tiltModel k x).1 (Config.sensorVariance 3),
       fun x => angleScalar (milliDeg 1) (s.tiltModel k x).2 (Config.sensorVariance 3)])
  else if a.source = 0x16 then
    [fun x => angleScalar (rad (v 0 / 10000)) (waveHeading x) (sq (v 3)),
     fun x => angleScalar (rad (v 1 / 10000)) (Dual.var x 5) (sq (v 4)),
     fun x => angleScalar (rad (v 2 / 10000)) (Dual.var x 4) (sq (v 5))]
  else if a.source = 0x17 then
    let k := (a.vals.getD 0 0).toNat
    [fun x => angleScalar (rad (v 1 / 10000)) (s.baselineModel k x).1 (Config.sensorVariance 5),
     fun x => angleScalar (rad (v 2 / 10000)) (s.baselineModel k x).2 (Config.sensorVariance 5)]
  else []

/-- Largest normalised innovation of a sample at an estimate (R331). -/
def State.normInnov (s : State) (e : Est) (a : Sample) : Rat :=
  (s.sensorScalars a).foldl (fun m f =>
    let z := f e.x
    maxRat m (qdiv (ratAbs z.nu) (Config.sqrt (e.innovVar z.h z.r)))) 0

/-! ### Reference quality tests (R307 to R315) -/

/-- Test windows of a slot. -/
def State.slot (s : State) (n : Nat) : TestRun := nth {} s.align.slots n

/-- Residuals of a window of `ns` before an instant. -/
def TestRun.window (r : TestRun) (at' ns : Int) : List (Rat × Rat) :=
  (r.hist.filter fun h => decide (at' - ns < h.1)).map fun h => h.2

/-- rms about the mean, per axis, and magnitude of the mean. -/
def windowStats (w : List (Rat × Rat)) : Rat × Rat × Rat :=
  let n := w.map (·.1)
  let e := w.map (·.2)
  let rms (v : List Rat) : Rat := Config.sqrt (meanRat (v.map fun a => (a - meanRat v) * (a - meanRat v)))
  (rms n, rms e, hypot (meanRat n) (meanRat e))

/-- σn of R314 in metres. -/
def State.slotSigma (s : State) (n : Nat) : Rat :=
  let r := s.slot n
  let w := r.window r.latestAt (s.obj 0x4160 1 * 1000000)
  let (a, b, _) := windowStats w
  let measured := maxRat a b
  let base : Rat := match r.sigma with
    | some m => if 10 ≤ w.length then maxRat ((m : Rat) / 1000) measured else (m : Rat) / 1000
    | none => if 10 ≤ w.length then measured else (s.nat (0x4100 + n) 5 : Rat) / 1000
  if nth false s.align.snap.suspect n then
    let w := s.pointVelocity s.est.x (s.slotArm n s.est.x)
    let v := hypot w.1.v w.2.1.v * (s.nat (0x4120 + n) 4 : Rat) / 1000
    Config.sqrt (base * base + v * v)
  else base

/-- A reference sample with its residual at the prediction: north, east, and standard deviation of the prediction. -/
structure Residual where
  a : Sample
  n : Rat
  e : Rat
  sigma : Rat

/-- Residual of a reference sample at the prediction for its instant. -/
def State.residual (s : State) (a : Sample) : Residual :=
  let e := s.propagate s.est a.instant
  let z := s.slotPosition a.source e.x a
  let m := s.slotModel a.source e.x
  let r := s.slotSigma a.source * s.slotSigma a.source
  let pn := (List.range estStates).map m.1.d
  let pe := (List.range estStates).map m.2.d
  let cross := dot pn (matVec e.p pe)
  { a := a, n := z.1 - m.1.v, e := z.2 - m.2.v
    sigma := Config.sqrt (bigEigen (e.innovVar m.1.d r) cross (e.innovVar m.2.d r)) }

/-- Whether a residual fails the prediction test. -/
def State.failsPrediction (s : State) (r : Residual) : Bool :=
  decide (maxRat ((s.nat (0x4100 + r.a.source) 7 : Rat) / 10 * r.sigma) ((s.nat 0x4160 4 : Rat) / 1000) < hypot r.n r.e)

/-- What the snapshot as a whole says to the tests: slots voting, median of their latest residuals, and whether the
prediction test is suspended (R309). -/
structure Vote where
  voters : Nat
  n : Rat
  e : Rat
  suspended : Bool

/-- The vote of a snapshot (Table 8-4, R309). -/
def State.vote (s : State) (rs : List Residual) : Vote :=
  let slots := (List.range 12).filter fun n =>
    (decide (s.obj (0x4150 + n) 1 = 2) || decide (s.obj (0x4150 + n) 1 = 3)) && rs.any fun r => decide (r.a.source = n)
  let latest := slots.filterMap fun n => (rs.filter fun r => decide (r.a.source = n)).getLast?
  let accepted := slots.filter fun n => decide (s.obj (0x4150 + n) 1 = 2)
  { voters := slots.length, n := medianRat (latest.map (·.n)), e := medianRat (latest.map (·.e))
    suspended := decide (accepted ≠ []) && accepted.all fun n =>
      (rs.filter fun r => decide (r.a.source = n)).any fun r => s.failsPrediction r }

/-- The tests on one sample, and the slot's transition (R307, R308, R311): the new state and whether it may be fused. -/
def State.testSample (v : Vote) (s : State) (r : Residual) : Bool × State :=
  let n := r.a.source
  let i := 0x4100 + n
  let o := 0x4150 + n
  let st := s.obj o 1
  let at' := r.a.instant
  let old := s.slot n
  let same := decide (old.lastVals.take 2 = r.a.vals.take 2)
  let from' : Int := if same then old.unchangedFrom.getD at' else at'
  let s := s.modSlot n fun q =>
    { q with
      lastVals := r.a.vals, unchangedFrom := some from', latest := some [r.n, r.e], latestAt := at', sigma := r.a.sigma
      hist := (q.hist ++ [(at', r.n, r.e)]).filter fun h => decide (at' - 600000000000 < h.1) }
  let run := s.slot n
  let w := run.window at' (s.obj 0x4160 1 * 1000000)
  let d := run.window at' (s.obj 0x4160 2 * 1000000000)
  let (wn, we, _) := windowStats w
  let (_, _, dm) := windowStats d
  let lim : Rat := (s.nat i 5 : Rat) / 1000
  let freeze := decide (s.obj i 4 ≠ 0) && decide (s.obj i 4 * 1000000 ≤ at' - from')
  let variance := decide (10 ≤ w.length) && (decide (lim < wn) || decide (lim < we))
  let median := decide (3 ≤ v.voters) && decide ((s.nat i 6 : Rat) / 1000 < hypot (r.n - v.n) (r.e - v.e))
  let predict := !v.suspended && s.failsPrediction r
  let drift := decide (10 ≤ d.length) && decide ((s.nat i 8 : Rat) / 1000 < dm)
  let slotBad := freeze || variance || drift
  let sampleBad := median || predict
  let s := (((((((s.raiseBit o 2 1 freeze).raiseBit o 2 2 variance).raiseBit o 2 3 median).raiseBit o 2 4 predict).raiseBit o 2 5
    drift).raiseBit o 2 6 true).raiseBit o 2 7 r.a.late).raiseBit o 2 8 (decide (v.voters < 3))
  let s := s.setObjs [(o, 5, clampInt (-2147483648) 2147483647 (roundHalfEven (r.n * 1000))),
    (o, 6, clampInt (-2147483648) 2147483647 (roundHalfEven (r.e * 1000)))]
  let s := if sampleBad then s.count .control o 8 else s
  let s := s.modSlot n fun q =>
    { q with
      consecutive := if sampleBad then q.consecutive + 1 else 0
      passFrom := if slotBad || sampleBad then none else some (q.passFrom.getD at') }
  let run := s.slot n
  let s :=
    if st = 1 then
      if slotBad then s.slotTo n 3
      else if sampleBad ∨ (s.obj i 1 = 4 ∧ s.obj (0x4220 + n) 4 = 0) then s
      else s.slotTo n 2
    else if st = 2 then
      if slotBad ∨ s.nat 0x4160 5 ≤ run.consecutive then s.slotTo n 3 else s
    else if st = 3 then
      match run.passFrom with
      | some p => if s.obj 0x4160 3 * 1000000000 ≤ at' - p then s.slotTo n 2 else s
      | none => s
    else s
  (decide (s.obj o 1 = 2) && !slotBad && !sampleBad, s)

/-- The tests on every reference sample of the snapshot, in order, before any update (R307, R309, R310): the samples that
may be fused. -/
def State.qualityTests (s : State) : List Sample × State :=
  let refs := s.align.snap.samples.filter fun a => decide (a.source < 12) && decide (s.obj (0x4100 + a.source) 1 ≠ 0)
  let s := (List.range 12).foldl (fun (s : State) n =>
    let s := s.setObj (0x4150 + n) 2 (if nth false s.align.snap.suspect n then 1 else 0)
    if (s.obj (0x4150 + n) 1 = 2 ∨ s.obj (0x4150 + n) 1 = 3) ∧ ¬ nth false s.align.snap.expected n then s.slotTo n 1 else s) s
  let rs := refs.map s.residual
  let v := s.vote rs
  let s := if v.suspended then (s.alarm .control 0x4160 6 1).count .control 0x4160 6 else s.unalarm .control 0x4160 6 1
  let (ok, s) := rs.foldl (fun (acc : List Sample × State) r =>
    let (b, s) := State.testSample v acc.2 r
    (if b then acc.1 ++ [r.a] else acc.1, s)) ([], s)
  let pair := (List.range 12).filter fun n => decide (s.obj (0x4150 + n) 1 = 2) || decide (s.obj (0x4150 + n) 1 = 3)
  let apart : Bool := match pair with
    | [a, b] =>
      match (s.slot a).latest, (s.slot b).latest with
      | some x, some y =>
        decide (maxRat (s.nat (0x4100 + a) 6) (s.nat (0x4100 + b) 6) / 1000 < hypot (vget x 0 - vget y 0) (vget x 1 - vget y 1))
      | _, _ => false
    | _ => false
  (ok, if apart then (s.alarm .control 0x4160 7 1).count .control 0x4160 7 else s.unalarm .control 0x4160 7 1)

/-- Standard deviations used and weights (R314, R315). -/
def State.slotWeights (s : State) : State :=
  let inv (n : Nat) : Rat :=
    if s.obj (0x4150 + n) 1 = 2 then qdiv 1 (s.slotSigma n * s.slotSigma n) else 0
  let total := sumRat ((List.range 12).map inv)
  (List.range 12).foldl (fun (s : State) n =>
    s.setObjs [(0x4150 + n, 3, if total = 0 then 0 else roundHalfEven (inv n / total * 1000)),
      (0x4150 + n, 4, if s.obj (0x4150 + n) 1 = 0 then 0xFFFFFFFF
        else clampInt 0 0xFFFFFFFF (roundHalfEven (s.slotSigma n * 1000)))]) s

/-! ### Sensor tests (R331 to R334) -/

/-- Test windows of a sensor, 0 to 3 gyrocompasses, 4 to 6 motion sensors, 7 to 9 wind sensors. -/
def State.sensor (s : State) (k : Nat) : TestRun := nth {} s.align.sensors k

/-- A sensor's windows changed. -/
def State.modSensor (s : State) (k : Nat) (f : TestRun → TestRun) : State :=
  { s with align := { s.align with sensors := modifyNth f s.align.sensors k } }

/-- First sensor and count of a class. -/
def sensorClass (k : Nat) : Nat × Nat := if k < 4 then (0, 4) else if k < 7 then (4, 3) else (7, 3)

/-- Whether a serial port assigns a sensor (R333). -/
def State.sensorAssigned (s : State) (k : Nat) : Bool :=
  (List.range 12).any fun p => decide (s.portSource p = some (0x0C + k))

/-- A sensor enters a state (R333). -/
def State.sensorTo (s : State) (k st : Nat) : State :=
  let i := 0x4240 + k
  let was := s.nat i 1
  if was = st then s
  else
    let s := s.setObj i 1 st
    if st = 3 then ((s.count .control i 6).alarm .control i 1 1).event .control i 1 3
    else if was = 3 then s.unalarm .control i 1 1 else s

/-- The quantities the median vote compares, in degrees or m/s. -/
def votedValues (k : Nat) (a : Sample) : List Rat :=
  let v (j : Nat) : Rat := (a.vals.getD j 0 : Int)
  if k < 4 then [v 0 / 1000] else if k < 7 then (motionParts a.vals).1.map fun (c : Int) => (c : Rat) / 1000 else [v 0 / 100]

/-- Largest difference of two lists, headings folded. -/
def votedGap (k : Nat) (u w : List Rat) : Rat :=
  (u.zipWith (fun a b => ratAbs (if k < 4 then wrapTurn 360 (a - b) else a - b)) w).foldl maxRat 0

/-- Component-wise median of the class's latest samples, headings taken about the first (Table 9-3). -/
def votedMedian (k : Nat) (rows : List (List Rat)) : List Rat :=
  let first := rows.headD []
  (List.range first.length).map fun j =>
    medianRat (rows.map fun r =>
      if k < 4 then vget first j + wrapTurn 360 (vget r j - vget first j) else vget r j)

/-- A range failure of Table 9-3. -/
def rangeFails (k : Nat) (run : TestRun) (a : Sample) : Bool :=
  let v (j : Nat) : Int := a.vals.getD j 0
  if k < 4 then
    match run.lastVals with
    | h :: _ => decide (a.instant - run.latestAt < 1000000000) && decide (10000 < ((v 0 - h + 180000) % 360000 - 180000).natAbs)
    | [] => false
  else if k < 7 then
    let m := (motionParts a.vals).2
    (m.take 3).any (fun c => decide (30000 < c.natAbs)) || (m.drop 3).any fun c => decide (20000 < c.natAbs)
  else decide (7500 < v 0)

/-- The tests on one sensor sample; `rejects` is the outcome of the innovation test (R331 to R333). -/
def State.testSensor (s : State) (a : Sample) (nu : Rat) (rejects : Bool) : Bool × State :=
  let k := a.source - 0x0C
  let i := 0x4240 + k
  let st := s.obj i 1
  let old := s.sensor k
  let at' := a.instant
  let from' : Int := if old.lastVals = a.vals then old.unchangedFrom.getD at' else at'
  let range := rangeFails k old a
  let vals := votedValues k a
  let s := s.modSensor k fun q =>
    { q with lastVals := a.vals, unchangedFrom := some from', latest := some vals, latestAt := at' }
  let (first, count) := sensorClass k
  let mates := ((List.range count).map (first + ·)).filter fun j =>
    decide (s.obj (0x4240 + j) 1 = 2) || decide (s.obj (0x4240 + j) 1 = 3)
  let rows := mates.filterMap fun j => (s.sensor j).latest
  let freeze := decide (s.obj i 2 ≠ 0) && decide (s.obj i 2 * 1000000000 ≤ at' - from')
  let median := decide (3 ≤ mates.length) && decide ((s.nat i 3 : Rat) / 100 < votedGap k vals (votedMedian k rows))
  let bad := range || median || rejects
  let s := (((s.raiseBit i 4 0 freeze).raiseBit i 4 1 range).raiseBit i 4 2 median).raiseBit i 4 3 rejects
  let s := if k < 7 then s.setObj i 8 (clampInt 0 65535 (roundHalfEven (nu * 100))) else s
  let s := if bad then s.count .control i 7 else s
  let s := s.modSensor k fun q =>
    { q with
      consecutive := if median || rejects then q.consecutive + 1 else 0
      passFrom := if freeze || bad then none else some (q.passFrom.getD at') }
  let run := s.sensor k
  let s :=
    if st = 1 then (if freeze then s.sensorTo k 3 else if bad then s else s.sensorTo k 2)
    else if st = 2 then (if freeze ∨ s.nat 0x4160 5 ≤ run.consecutive then s.sensorTo k 3 else s)
    else if st = 3 then
      match run.passFrom with
      | some p => if s.obj 0x4160 3 * 1000000000 ≤ at' - p then s.sensorTo k 2 else s
      | none => s
    else s
  (decide (s.obj i 1 = 2) && !freeze && !bad, s)

/-- Exactly two sensors of a class that disagree: alarm, counted, neither rejected (Table 9-3). -/
def State.sensorPairs (s : State) : State :=
  [0, 4, 7].foldl (fun (s : State) k =>
    let (first, count) := sensorClass k
    let mates := ((List.range count).map (first + ·)).filter fun j =>
      decide (s.obj (0x4240 + j) 1 = 2) || decide (s.obj (0x4240 + j) 1 = 3)
    let apart : Bool := match mates with
      | [x, y] =>
        match (s.sensor x).latest, (s.sensor y).latest with
        | some u, some w => decide (maxRat (s.nat (0x4240 + x) 3) (s.nat (0x4240 + y) 3) / 100 < votedGap k u w)
        | _, _ => false
      | _ => false
    if apart then (s.alarm .control (0x4240 + first) 4 1).count .control 0x4160 7 else s.unalarm .control (0x4240 + first) 4 1) s

/-- Sensor states at the start of a cycle: OFF while no port assigns the sensor, WAIT when it is no longer expected; flags
cleared (R333). -/
def State.sensorCycle (s : State) : State :=
  (List.range 10).foldl (fun (s : State) k =>
    let s := s.setObj (0x4240 + k) 4 0
    if ¬ s.sensorAssigned k then s.sensorTo k 0
    else if s.obj (0x4240 + k) 1 = 0 then s.sensorTo k 1
    else if s.obj (0x4240 + k) 1 ≠ 1 ∧ ¬ nth false s.align.snap.expected (0x0C + k) then s.sensorTo k 1
    else s) s

/-- True wind of a sample, north and east, in m/s (R334). -/
def trueWind (e : Est) (a : Sample) : Rat × Rat :=
  let v (j : Nat) : Rat := (a.vals.getD j 0 : Int)
  let th := e.get 6 + rad (v 1 / 100)
  let c := Config.cos (e.get 6)
  let g := Config.sin (e.get 6)
  (c * e.get 7 - g * e.get 8 - v 0 / 100 * Config.cos th, g * e.get 7 + c * e.get 8 - v 0 / 100 * Config.sin th)

/-- Mean true wind of the ACCEPTED sensors as reported (R334). -/
def State.windReport (s : State) : State :=
  let rows := ((List.range 3).filter fun j => decide (s.obj (0x4247 + j) 1 = 2)).filterMap fun j =>
    (s.sensor (7 + j)).hist.getLast?
  if rows.isEmpty then s.setObj 0x4250 0x11 0
  else
    let n := meanRat (rows.map fun h => h.2.1)
    let e := meanRat (rows.map fun h => h.2.2)
    s.setObjs [(0x4250, 0x0F, clampInt 0 65535 (roundHalfEven (hypot n e * 100))),
      (0x4250, 0x10, roundHalfEven (wrapPos 360 (deg (Config.atan2 (-e) (-n))) * 100) % 36000), (0x4250, 0x11, 1)]

/-! ### Updates -/

/-- Calibration states held within their bounds (R345). -/
def State.calibrationBounds (s : State) : State :=
  (List.range 9).foldl (fun (s : State) j =>
    let i := 58 + j
    let lim : Rat := if 61 ≤ i ∧ i ≤ 63 then rad (1 / 2) else 1 / 20
    let v := s.est.get i
    if lim < ratAbs v then
      ({ s with est := s.est.shift i (if v < 0 then -lim else lim) }).setBit 0x4230 3 (1 + j) true
    else if ratAbs v < lim then s.setBit 0x4230 3 (1 + j) false
    else s) s

/-- A correction of the position in mm, as the event of R338 carries it. -/
def moved (e e' : Est) : List Byte :=
  let mm (i : Nat) : Int := clampInt (-2147483648) 2147483647 (roundHalfEven ((e'.get i - e.get i) * 1000))
  leBytesInt 4 (mm 1) ++ leBytesInt 4 (mm 2)

/-- A reference sample fused (R323, R328): the offsets of a joining slot are set first; the first position of a cycle that began in
HEADING gives the position states, and the first after dead reckoning is recorded (Table 9-4, R338). -/
def State.fuseReference (s : State) (first : Bool) (a : Sample) : State :=
  let n := a.source
  let e := s.propagate s.est a.instant
  let z := s.slotPosition n e.x a
  let sigma2 := s.slotSigma n * s.slotSigma n
  let m := s.slotModel n e.x
  let e0 := e
  let e := if first ∧ s.obj 0x4201 1 = 1 then
      (e.put 1 (e.get 1 + (z.1 - m.1.v)) (Config.initialVariance 1)).put 2 (e.get 2 + (z.2 - m.2.v)) (Config.initialVariance 2)
    else e
  let m := s.slotModel n e.x
  let e := if (s.slot n).joining then
      (e.put (32 + 2 * n) (e.get (32 + 2 * n) + (z.1 - m.1.v)) sigma2).put (33 + 2 * n) (e.get (33 + 2 * n) + (z.2 - m.2.v)) sigma2
    else e
  let m := s.slotModel n e.x
  let e := e.scalar (z.1 - m.1.v) m.1.d sigma2
  let m := s.slotModel n e.x
  let e := e.scalar (z.2 - m.2.v) m.2.d sigma2
  let back := first && (decide (s.obj 0x4201 1 = 4) || decide (s.obj 0x4201 1 = 5))
  let s := ({ s with est := { e with lastFix := some a.instant } }.modSlot n fun q => { q with joining := false }).calibrationBounds
  if back then s.event .control 0x4201 3 3 (moved e0 e) else s

/-- A sensor sample fused. -/
def State.fuseSensor (s : State) (a : Sample) : State :=
  let e := s.propagate s.est a.instant
  let e := (s.sensorScalars a).foldl (fun (e : Est) f =>
    let z := f e.x
    e.scalar z.nu z.h z.r) e
  let e := if a.source = 0x16 ∨ a.source = 0x17 then { e with lastAttFused := some a.instant } else e
  { s with est := e }.calibrationBounds

/-- Late application by retrodiction at the last stored horizon before the sample (R339): each scalar's correction of the stored state
is carried forward through the accumulated product. -/
def Est.retrodict (e : Est) (instant : Int) (zs : List (List Rat → Scalar)) : Est :=
  match (e.horizons.filter fun h => decide (h.instant < instant)).getLast? with
  | none => e
  | some h =>
    let step (q : Est × Est) (f : List Rat → Scalar) : Est × Est :=
      let (old, e) := q
      let z := f old.x
      let (ph, sVar, k) := gainOf e.frozen old.p z.h z.r
      let g := matVec h.acc k
      let u := matVec h.acc ph
      (old.scalar z.nu z.h z.r,
        { e with
          x := vadd e.x (vscale z.nu g)
          p := matOf estStates estStates fun i j =>
            mget e.p i j - vget g i * vget u j - vget u i * vget g j + vget g i * sVar * vget g j })
    let r := zs.foldl step ({ e with x := h.x, p := h.p, horizons := [] }, e)
    { r.2 with horizons := r.2.horizons.map fun q => if q.instant = h.instant then { q with x := r.1.x, p := r.1.p } else q }

/-- The estimate of the stored horizon at which a late sample is linearised (R339). -/
def Est.storedAt (e : Est) (instant : Int) : Est :=
  match (e.horizons.filter fun h => decide (h.instant < instant)).getLast? with
  | none => e
  | some h => { e with x := h.x, p := h.p }

/-- A late sample applied: counted in its source (R303, R339). -/
def State.applyLate (s : State) (a : Sample) : State :=
  let zs : List (List Rat → Scalar) :=
    if a.source < 12 then
      let r := s.slotSigma a.source * s.slotSigma a.source
      [fun x => ⟨(s.slotPosition a.source x a).1 - (s.slotModel a.source x).1.v, (s.slotModel a.source x).1.d, r⟩,
       fun x => ⟨(s.slotPosition a.source x a).2 - (s.slotModel a.source x).2.v, (s.slotModel a.source x).2.d, r⟩]
    else s.sensorScalars a
  ({ s with est := s.est.retrodict a.instant zs }.calibrationBounds).count .control (0x4120 + a.source) 0x0B

/-- A late sensor sample: fused when its sensor is ACCEPTED and its innovation at the stored estimate passes (R331, R339). -/
def State.lateSensor (s : State) (a : Sample) : State :=
  let i := 0x4240 + (a.source - 0x0C)
  if s.obj i 1 ≠ 2 then s
  else if (s.nat 0x4200 0x0B : Rat) / 10 < s.normInnov (s.est.storedAt a.instant) a then
    (s.raiseBit i 4 3 true).count .control i 7
  else s.applyLate a

/-- Late samples of a cycle: expired ones and those of a slot accepted only after their instant are counted and dropped; of the rest at
most four are taken, oldest first, and the others deferred (R304, R306, R340, R341). -/
def State.lateSamples (s : State) (fresh : List Sample) : State :=
  let all := (s.est.deferred ++ fresh).foldr insertBySource []
  let drops (s : State) (a : Sample) : Bool := decide (2000000000 < s.align.snap.t0 - a.instant)
    || (decide (a.source < 12) && decide (a.instant < (s.slot a.source).acceptedAt))
  let out := all.filter (drops s)
  let stay := all.filter fun a => !drops s a && (decide (12 ≤ a.source) || decide (s.obj (0x4150 + a.source) 1 = 2))
  let s := out.foldl (fun (s : State) a => s.count .control (0x4120 + a.source) 0x0C) s
  let s := (stay.take 4).foldl (fun (s : State) a => if a.source < 12 then s.applyLate a else s.lateSensor a) s
  { s with est := { s.est with deferred := stay.drop 4 } }.countBy .control 0x4201 8 (stay.drop 4).length

/-- Samples of a class within its cap, the latest of each source in turn (R342), and the number left out. -/
def capSamples (cap : Nat) (l : List Sample) : List Sample × Nat :=
  if l.length ≤ cap then (l, 0)
  else
    let rank (a : Sample) : Nat := (l.filter fun b => decide (b.source = a.source) && decide (a.instant < b.instant)).length
    let before (a b : Sample) : Bool := decide (rank b < rank a) || (decide (rank b = rank a) && decide (b.source < a.source))
    let kept := l.filter fun a => decide ((l.filter fun b => before a b).length < cap)
    (kept, l.length - kept.length)

/-! ### Raw GNSS (R325 to R327) -/

/-- Satellite that the active twin's combined solution in the snapshot excludes, 0 for none (3313h:0E). -/
def State.excludedSat (s : State) : Nat :=
  ((s.snapProduct s.ownIsActive 3).bind (·.solution)).elim 0 (·.exclude)

/-- Raw entries of a measurement record of GA (Table 6-2) that are usable pseudoranges but for their elevation (R326). -/
def State.rawEntries (s : State) : Nat → List Byte → List RawEntry
  | 0, _ => []
  | n + 1, b =>
    let f (o w : Nat) : Nat := leNat ((b.drop o).take w)
    let sig := f 4 1
    let hz := carrierHz sig (leInt ((b.drop 5).take 1))
    let sat := f 2 2
    let e : RawEntry :=
      { channel := f 0 2, sat := sat, flags := f 6 2, slips := f 30 1, range := (f 8 8 : Rat) / 10000
        carrier := (leInt ((b.drop 16).take 8) : Rat) / 16777216 * 299792458 / hz
        hz := hz, cn0 := (f 28 2 : Rat) / 10, multipath := (f 6 2).testBit 6 }
    let rest := s.rawEntries n (b.drop 32)
    let ok : Bool := e.flags.testBit 9 && decide ((s.nat 0x3318 5 : Rat) / 10 ≤ e.cn0) && decide (sat / 256 % 16 ≠ 3)
      && !(decide (s.excludedSat ≠ 0) && decide (s.excludedSat = sat % 4096)) && decide (e.channel / 128 = 0)
    if ok then e :: rest else rest

/-- A measurement record with the entries usable at an estimate: its instant, the entries (R326), and those of the record before it with
their instant. -/
structure RawRecord where
  instant : Int
  entries : List RawEntry
  beforeAt : Int := 0
  before : List RawEntry := []

/-- p(l) of the active twin's GA. -/
def State.gaPoint (s : State) (x : List Rat) : Dual3 := point3 x (s.gaArm s.activeTwin x)

/-- Range with broadcast corrections, line of sight and elevation of an entry's satellite from a point (R218, R326). -/
def rawLook (instant : Int) (p : Rat × Rat × Rat) (r : RawEntry) : Rat × (Rat × Rat × Rat) × Rat :=
  let m := Config.satModel (r.sat % 4096) instant p
  (m.1 + Config.ionosphere (r.sat % 4096) instant p r.hz, m.2)

/-- The values of a triple. -/
def Dual3.vals (p : Dual3) : Rat × Rat × Rat := (p.1.v, p.2.1.v, p.2.2.v)

/-- A record's usable entries, those at or above the elevation mask at the estimate (R326). -/
def State.rawRecord (s : State) (b : List Byte) : RawRecord :=
  let at' : Int := (leNat (b.take 6) * 1000000000 + leNat ((b.drop 6).take 4) : Nat)
  let p := (s.gaPoint (s.propagate s.est at').x).vals
  { instant := at'
    entries := (s.rawEntries ((b.length - 16) / 32) (b.drop 16)).filter fun r =>
      decide ((s.nat 0x3318 3 : Rat) ≤ (rawLook at' p r).2.2) }

/-- The records of the active twin's GA that the snapshot adds, with two usable entries of one system or more (R325). -/
def State.rawRecords (s : State) : List RawRecord :=
  let mine := s.align.snap.products.filter fun p => decide (p.own = s.ownIsActive ∧ p.which = 5)
  let all := mine.map fun p => s.rawRecord p.record
  let paired := (all.zip all.tail).map fun q => { q.2 with beforeAt := q.1.instant, before := q.1.entries }
  ((all.take 1) ++ paired).filter fun r =>
    decide (s.est.at' < r.instant) && decide (r.instant ≤ s.align.snap.horizon)
      && r.entries.any fun a => r.entries.any fun b => a.channel ≠ b.channel && decide (a.sat / 256 % 16 = b.sat / 256 % 16)

/-- Slots whose solution the raw entries of a record replace (R325). -/
def State.tightSlot (s : State) (n : Nat) : Bool :=
  decide (s.obj 0x4200 1 = 1) && decide (s.obj (0x4100 + n) 1 = 1) && decide (s.obj (0x4150 + n) 1 = 2)
    && decide (s.slotTwin n = s.activeTwin) && (decide (s.nat (0x4100 + n) 2 % 4 = 0) || decide (s.nat (0x4100 + n) 2 % 4 = 3))

/-- Scale of the standard deviation of an entry (R326). -/
def rawScale (e : RawEntry) : Rat :=
  Config.sqrt (1 + Config.exp ((35 - e.cn0) / 10 * 23025850929940457 / 10000000000000000)) * (if e.multipath then 4 else 1)

/-- One single difference fused when its innovation passes, and whether it did (R326, R331). -/
def State.rawScalar (s : State) (nu : Rat) (h : Nat → Rat) (sigma : Rat) : Bool × State :=
  let sVar := s.est.innovVar h (sigma * sigma)
  if (s.nat 0x4200 0x0B : Rat) / 10 < qdiv (ratAbs nu) (Config.sqrt sVar) then (false, s.count .control 0x4201 0x0A)
  else (true, { s with est := s.est.scalar nu h (sigma * sigma) }.calibrationBounds)

/-- Scalar product of a line of sight with a triple: its value, and its row. -/
def losDual (u : Rat × Rat × Rat) (p : Dual3) : Dual :=
  ((p.1.scale u.1).add (p.2.1.scale u.2.1)).add (p.2.2.scale u.2.2)

/-- Difference of two lines of sight. -/
def losSub (a b : Rat × Rat × Rat) : Rat × Rat × Rat := (a.1 - b.1, a.2.1 - b.2.1, a.2.2 - b.2.2)

/-- The state half an interval before an estimate (R327). -/
def State.halfBack (s : State) (x : List Rat) (dt : Rat) : List Rat :=
  let tau := vadd (s.est.thrust.foldl vadd [0, 0, 0]) s.est.tauWind
  (List.range estStates).map fun i => vget x i - dt / 2 * (s.derivative tau x (i + 1)).v

/-- The differences of one entry against its system's highest satellite `b`: pseudorange, and carrier rate where both were usable in the
record before, over `dt` (R326, R327). -/
def State.fuseEntry (instant : Int) (dt : Rat) (before : RawEntry → Option RawEntry) (s : State) (r b : RawEntry) : Bool × State :=
  let x := s.est.x
  let p := s.gaPoint x
  let lr := rawLook instant p.vals r
  let lb := rawLook instant p.vals b
  let u := losSub lb.2.1 lr.2.1
  let (ok, s) := s.rawScalar (r.range - b.range - (lr.1 - lb.1)) (losDual u p).d ((s.nat 0x4200 8 : Rat) / 1000 * rawScale r)
  match before r, before b with
  | some r0, some b0 =>
    let rate := qdiv ((r.carrier - b.carrier) - (r0.carrier - b0.carrier)) dt
    let xm := s.halfBack s.est.x dt
    let mid := instant - (roundHalfEven (dt * 500000000))
    let at' := (s.gaPoint xm).vals
    let v := losDual u (s.pointVelocity xm (s.gaArm s.activeTwin xm))
    let sat := Config.satRate (r.sat % 4096) mid at' - Config.satRate (b.sat % 4096) mid at'
    (ok, (s.rawScalar (rate - (sat + v.v)) v.d (qdiv (Config.sqrt 2 * (s.nat 0x4200 9 : Rat) / 1000) dt * rawScale r)).2)
  | _, _ => (ok, s)

/-- Raw updates of a record: differences of its usable entries against each system's highest satellite, within what the cycle has left
of 40 satellites, in descending elevation (R325 to R327, R342). Whether a pseudorange was fused. -/
def State.fuseRaw (s : State) (rec : RawRecord) : Bool × State :=
  let e := s.propagate s.est rec.instant
  let s := { s with est := e }
  let p := (s.gaPoint e.x).vals
  let height (r : RawEntry) : Rat := (rawLook rec.instant p r).2.2
  let higher (r : RawEntry) : Nat := (rec.entries.filter fun q => decide (height r < height q)).length
  let room := 40 - s.nat 0x4201 6
  let used := rec.entries.filter fun r => decide (higher r < room)
  let s := s.countBy .control 0x4201 9 (rec.entries.length - used.length)
  let top (r : RawEntry) : Option RawEntry :=
    (used.filter fun q => decide (q.sat / 256 % 16 = r.sat / 256 % 16)).foldl (fun best q =>
      match best with
      | none => some q
      | some b => if height b < height q then some q else some b) none
  let dt : Rat := ((rec.instant - rec.beforeAt : Int) : Rat) / 1000000000
  let before (r : RawEntry) : Option RawEntry := rec.before.find? fun q =>
    decide (q.channel = r.channel) && decide (q.sat = r.sat) && decide (q.slips = r.slips)
      && q.flags.testBit 2 && q.flags.testBit 10 && r.flags.testBit 2 && r.flags.testBit 10
  let r := used.foldl (fun (acc : List Nat × State) r =>
    match top r with
    | none => acc
    | some b =>
      if b.channel = r.channel then acc
      else
        let q := State.fuseEntry rec.instant dt before acc.2 r b
        (if q.1 then (r.sat :: b.sat :: acc.1).eraseDups else acc.1, q.2)) ([], s)
  let fused := !r.1.isEmpty
  let back := fused && (decide (s.obj 0x4201 1 = 4) || decide (s.obj 0x4201 1 = 5)) && decide (s.nat 0x4201 6 = 0)
  let s := { r.2 with est := { r.2.est with lastFix := if fused then some rec.instant else r.2.est.lastFix } }
  let s := s.setObj 0x4201 6 ((s.nat 0x4201 6 + r.1.length : Nat))
  (fused, if back then s.event .control 0x4201 3 3 (moved e s.est) else s)

/-! ### The cycle of P0 -/

/-- States set from a side store, or zero with the initial variances. -/
def Est.loadSide (e : Est) (from' : Nat) (v : Option KeptVec) (n : Nat) : Est :=
  (List.range n).foldl (fun (e : Est) j =>
    match v with
    | some q => e.put (from' + j) (vget q.vals j) (vget q.vars j)
    | none => e.put (from' + j) 0 (initVar (from' + j))) e

/-- Place of the GA side store of a twin. -/
def gaPlace (tw : Twin) : Nat := if tw = .a then 0 else 1

/-- The primary motion sensor and the active twin's GA antenna as this boundary finds them (R318, R319). -/
def State.reloads (s : State) : State :=
  let ok (j : Nat) : Bool := decide (s.obj (0x4244 + j) 1 = 2)
  let want := s.nat 0x4200 2
  let prim := if ok want then want else ((List.range 3).find? ok).getD s.est.primary
  let e := s.est
  let e := if prim = e.primary then e else
    ({ e with primary := prim }.loadSide 61 (s.sideStore (2 + prim)) 6).loadSide 26 none 6
  let b := decide (s.activeTwin = .b)
  let s := s.setObj (0x4244 + prim) 4 16
  let e := if b = e.teamTwinB then e else
    let e := { e with teamTwinB := b }.loadSide 58 (s.sideStore (gaPlace s.activeTwin)) 3
    let add : Rat := 5995849160 / 1000000000
    (e.put 56 (e.get 56) (e.cov 56 56 + add * add)).put 57 (e.get 57) (e.cov 57 57 + add * add)
  { s with est := e }

/-- The weighted sum of absolute offsets held at zero (R329), and the flag of R330. -/
def State.absoluteOffsets (s : State) : State :=
  let abs := (List.range 12).filter fun n =>
    decide (s.obj (0x4150 + n) 1 = 2) && (decide (s.obj (0x4100 + n) 1 = 1) || decide (s.obj (0x4100 + n) 1 = 2))
  if abs.isEmpty then s
  else
    let w (n : Nat) : Rat := qdiv 1 (s.slotSigma n * s.slotSigma n)
    let total := sumRat (abs.map w)
    let h (axis i : Nat) : Rat := sumRat (abs.map fun n => if i + 1 = 32 + 2 * n + axis then qdiv (w n) total else 0)
    let one (e : Est) (axis : Nat) : Est :=
      e.scalar (-(sumRat ((List.range estStates).map fun i => h axis i * vget e.x i))) (h axis) (1 / 1000000)
    { s with est := one (one s.est 0) 1 }

/-- Excitation and the freezing of the calibration states (R346). -/
def State.excitation (s : State) : State :=
  let e := s.est
  let w2 := e.get 10 * e.get 10 + e.get 11 * e.get 11 + e.get 12 * e.get 12
  let rates := (e.rates ++ [(e.at', w2)]).filter fun r => decide (e.at' - 120000000000 < r.1)
  let x := deg (Config.sqrt (meanRat (rates.map (·.2))))
  let thr : Rat := (s.nat 0x4230 2 : Rat) / 100
  let frozen := decide (s.obj 0x4230 1 = 0) || decide (x < thr) || (e.frozen && decide (x < 6 / 5 * thr))
  ({ s with est := { e with rates := rates, frozen := frozen } }.setObj 0x4230 4
    (clampInt 0 65535 (roundHalfEven (x * 100)))).setBit 0x4230 3 0 frozen

/-- Symmetry and the floor of the variances (R344), and the converged bit (R347). -/
def State.tidyCovariance (s : State) : State :=
  let p := s.est.p
  let low := (List.range estStates).filter fun i => decide (mget p i i < initVar (i + 1) / 1000000000000)
  let p := matOf estStates estStates fun i j =>
    if i = j then maxRat (mget p i i) (initVar (i + 1) / 1000000000000) else (mget p i j + mget p j i) / 2
  let conv := (List.range 9).all fun j =>
    let i := 57 + j
    decide (Config.sqrt (mget p i i) ≤ if 60 ≤ i ∧ i ≤ 62 then rad (1 / 20) else 1 / 100)
  ({ s with est := { s.est with p := p } }.countBy .control 0x4201 0x0B low.length).setBit 0x4230 3 10 conv

/-- σh in metres. -/
def Est.sigmaH (e : Est) : Rat := Config.sqrt (bigEigen (e.cov 1 1) (e.cov 1 2) (e.cov 2 2))

/-- σψ in degrees. -/
def Est.sigmaPsi (e : Est) : Rat := deg (Config.sqrt (e.cov 6 6))

/-- Table 9-4 and the validity flags, evaluated after the updates of a cycle (R330, R336, R337). `heading` and `fix` say
that a heading or a horizontal position was fused in this cycle. -/
def State.estStatus (s : State) (heading fix : Bool) : State :=
  let e := s.est
  let now := s.align.snap.t0
  let okH := decide (e.sigmaH * 1000 ≤ (s.nat 0x4200 4 : Rat))
  let okP := decide (e.sigmaPsi * 100 ≤ (s.nat 0x4200 5 : Rat))
  let st := s.nat 0x4201 1
  let silent : Bool := match e.lastFix with
    | some f => decide (s.obj 0x4200 6 * 1000000000 ≤ now - f)
    | none => true
  let run := if okH then e.convRun + 1 else 0
  let headed := e.headed || heading
  let dr : Int := match e.drFrom with | some f => now - f | none => 0
  let next :=
    if st ≠ 0 ∧ ¬ okP then 0
    else match st with
      | 0 => if headed && okP then 1 else 0
      | 1 => if fix then 2 else 1
      | 2 => if 2 ≤ run then 3 else 2
      | 3 => if silent then 4 else 3
      | 4 => if fix && okH then 3 else if s.obj 0x4200 7 * 1000000000 ≤ dr ∨ ¬ okH then 5 else 4
      | 5 => if fix then 2 else 5
      | k => k
  let s := if next = 4 ∧ st = 3 then s.count .control 0x4201 7 else s
  let s := { s with est := { e with
    convRun := if next = 2 ∧ st = 2 then run else 0
    headed := headed && decide (next = 0 ∧ st = 0)
    drFrom := if next = 4 then some (e.drFrom.getD now) else if next = 5 then e.drFrom else none } }
  let inDr := decide (next = 4) || decide (next = 5)
  let pos := decide (next = 3) || decide (next = 4)
  let rel := pos && (List.range 12).any fun n => decide (s.obj (0x4100 + n) 1 = 5) && decide (s.obj (0x4150 + n) 1 = 2)
  let noAbs := !((List.range 12).any fun n =>
    decide (s.obj (0x4150 + n) 1 = 2) && (decide (s.obj (0x4100 + n) 1 = 1) || decide (s.obj (0x4100 + n) 1 = 2)))
  let bit (b : Bool) (n : Nat) : Int := if b then n else 0
  s.setObjs [(0x4201, 1, (next : Nat)), (0x4201, 2, bit (decide (next ≠ 0)) 1 + bit pos 2 + bit rel 4 + bit noAbs 8),
    (0x4201, 3, if inDr then (match s.est.drFrom with | some f => (now - f) / 1000000 | none => 0) else 0),
    (0x4201, 4, clampInt 0 0xFFFFFFFF (roundHalfEven (e.sigmaH * 1000))),
    (0x4201, 5, clampInt 0 65535 (roundHalfEven (e.sigmaPsi * 1000)))]

/-- The published estimate (Tables 9-11 to 9-13). -/
def State.publish (s : State) : State :=
  let x := s.est.x0
  let g (i : Nat) : Rat := vget x (i - 1)
  let r (k : Rat) (i : Nat) : Int := clampInt (-2147483648) 2147483647 (roundHalfEven (g i * k))
  let d (k : Rat) (i : Nat) : Int := clampInt (-2147483648) 2147483647 (roundHalfEven (deg (g i) * k))
  let s := s.setObjs [(0x4250, 1, r 1000 1), (0x4250, 2, r 1000 2),
    (0x4250, 3, roundHalfEven (wrapPos 360 (deg (g 6)) * 10000) % 3600000),
    (0x4250, 4, r 1000 7), (0x4250, 5, r 1000 8), (0x4250, 6, d 1000 12), (0x4250, 7, d 10000 4), (0x4250, 8, d 10000 5),
    (0x4250, 9, r 1000 3), (0x4250, 0x0A, r 1000 14), (0x4250, 0x0B, r 1000 16), (0x4250, 0x0C, d 10000 18),
    (0x4250, 0x0D, r 10 19), (0x4250, 0x0E, r 10 20), (0x4250, 0x12, r 1 21)]
  let s := (List.range 12).foldl (fun (s : State) n =>
    s.setObjs [(0x4220 + n, 6, r 1000 (32 + 2 * n)), (0x4220 + n, 7, r 1000 (33 + 2 * n))]) s
  let s := (List.range 4).foldl (fun (s : State) k => s.setObj (0x4240 + k) 5 (d 1000 (22 + k))) s
  let c (lo : Int) (v : Rat) : Int := clampInt (-lo) lo (roundHalfEven v)
  s.setObjs [(0x4230, 7, c 500 (g 58 * 10000)), (0x4230, 8, c 500 (g 59 * 10000)), (0x4230, 9, c 500 (g 60 * 10000)),
    (0x4230, 0x0A, c 500 (deg (g 61) * 1000)), (0x4230, 0x0B, c 500 (deg (g 62) * 1000)), (0x4230, 0x0C, c 500 (deg (g 63) * 1000)),
    (0x4230, 0x0D, c 500 (g 64 * 10000)), (0x4230, 0x0E, c 500 (g 65 * 10000)), (0x4230, 0x0F, c 500 (g 66 * 10000))]

/-- Whether a sample is a heading in the sense of R332: of a gyrocompass, or of the GNSS attitude, whole or one baseline. -/
def headingKind (a : Sample) : Bool :=
  (decide (0x0C ≤ a.source) && decide (a.source ≤ 0x0F)) || decide (a.source = 0x16) || decide (a.source = 0x17)

/-- One sensor sample of the snapshot: tested, and fused when it passes; `allFail` suspends the innovation test for
headings (R331, R332). -/
def State.sensorSample (allFail : Bool) (acc : Bool × State) (a : Sample) : Bool × State :=
  let s := acc.2
  let e := s.propagate s.est a.instant
  let nu := s.normInnov e a
  let beyond := decide ((s.nat 0x4200 0x0B : Rat) / 10 < nu) && !(allFail && headingKind a)
  if 0x16 ≤ a.source then
    if beyond then acc else (true, s.fuseSensor a)
  else
    let (ok, s) := s.testSensor a nu (beyond && decide (a.source < 0x13))
    let k := a.source - 0x0C
    if 7 ≤ k then
      let w := trueWind e a
      (acc.1, if ok then s.modSensor k fun q => { q with hist := [(a.instant, w.1, w.2)] } else s)
    else if ok ∧ (k < 4 ∨ k = 4 + s.est.primary) then (acc.1 || decide (k < 4), s.fuseSensor a)
    else (acc.1, s)

/-- Mark of a raw record among the samples of a cycle. -/
def rawMark (r : RawRecord) : Sample := { source := 0x18, instant := r.instant, arrival := 0, vals := [], sigma := none }

/-- One sample of the ordered list fused: a slot's sample unless the raw entries of its instant stand in its place, a sensor's, or a raw
record. The flags say whether heading and position have been fused. -/
def State.fuseOne (raws : List RawRecord) (allFail : Bool) (acc : Bool × Bool × State) (a : Sample) : Bool × Bool × State :=
  let s := acc.2.2
  if a.source = 0x18 then
    match raws.find? fun r => decide (r.instant = a.instant) with
    | some r => if 2 ≤ s.obj 0x4201 1 then (acc.1, acc.2.1 || (s.fuseRaw r).1, (s.fuseRaw r).2) else acc
    | none => acc
  else if a.source < 12 then
    let tight := s.tightSlot a.source && decide (2 ≤ s.obj 0x4201 1) && raws.any fun r => decide (r.instant = a.instant)
    if tight ∨ s.obj 0x4201 1 = 0 ∨ s.obj (0x4150 + a.source) 1 ≠ 2 then acc
    else (acc.1, true, s.fuseReference (!acc.2.1) a)
  else ((State.sensorSample allFail (acc.1, s) a).1, acc.2.1, (State.sensorSample allFail (acc.1, s) a).2)

/-- The samples of the snapshot fused in order under the caps of R342, with the raw records where a slot runs in the tight way (R307 to
R342). -/
def State.fuseSamples (s : State) (fusable : List Sample) : Bool × Bool × State :=
  let snap := s.align.snap
  let sensors := (snap.samples.filter fun a => decide (12 ≤ a.source)).filter fun a => !a.late
  let (sens, over1) := capSamples 64 sensors
  let (refs, over2) := capSamples 24 (fusable.filter fun a => !a.late)
  let s := s.countBy .control 0x4201 9 (over1 + over2)
  let heads := sens.filter headingKind
  let gate : Rat := (s.nat 0x4200 0x0B : Rat) / 10
  let allFail := decide (heads ≠ []) && heads.all fun a => decide (gate < s.normInnov (s.propagate s.est a.instant) a)
  let s := if allFail then (s.alarm .control 0x4160 6 1).count .control 0x4160 6 else s
  let raws := if (List.range 12).any s.tightSlot then s.rawRecords else []
  let s := s.setObj 0x4201 6 0
  let order := (sens ++ refs ++ raws.map rawMark).foldr insertBySource []
  order.foldl (State.fuseOne raws allFail) (false, false, s)

/-- The horizon is kept for retrodiction, and the prediction to T0 formed (R323, R339). -/
def State.moveHorizon (s : State) : State :=
  let snap := s.align.snap
  let e := s.propagate s.est snap.horizon
  let eye := matOf estStates estStates fun i j => if i = j then 1 else 0
  let kept := e.horizons.filter fun h => decide (snap.t0 - h.instant ≤ 2000000000)
  let e : Est := { e with horizons := kept ++ [{ instant := snap.horizon, x := e.x, p := e.p, acc := eye }] }
  { s with est := { e with x0 := (s.propagate e snap.t0).x } }

/-- The work of P0 in one cycle: quality tests, updates in snapshot order, retrodiction, prediction to T0, bounds and
status (R307 to R347, Table 9-5). -/
def State.estimate (s : State) : State :=
  if s.est.x.length ≠ estStates then s
  else
    let s := (s.sensorCycle).reloads
    let q := s.qualityTests
    let samples := q.2.align.snap.samples
    let r := (q.2.slotWeights).fuseSamples q.1
    let lateRefs := q.1.filter fun a => a.late
    let lateSens := samples.filter fun a => a.late
      && ((decide (0x0C ≤ a.source) && decide (a.source ≤ 0x0F)) || decide (a.source = 0x10 + r.2.2.est.primary))
    let s := (r.2.2.sensorPairs.absoluteOffsets).lateSamples (lateRefs ++ lateSens)
    let s := (s.moveHorizon.tidyCovariance).excitation
    ((s.estStatus r.1 r.2.1).windReport).publish

/-- The estimator at start-up: INIT, the youngest warm state restored (states 19 to 21 only when younger than 600 s), the
calibration states from their side stores (R349, R352, Table 9-4). -/
def State.estStart (s : State) : State :=
  let e : Est := { x := List.replicate estStates 0, p := diag initVar, at' := s.mt, lastWarm := s.mt
                   teamTwinB := decide (s.activeTwin = .b) }
  let e := match s.mram.warm.head? with
    | none => e
    | some w => (List.range 39).foldl (fun (e : Est) j =>
        if j < 3 ∧ (s.clock.state = TimeState.unset ∨ w.writtenS + 600 ≤ s.mt / 1000000000) then e
        else e.put (19 + j) (vget w.vals j) (vget w.vars j)) e
  let prim := s.nat 0x4200 2
  let e := ({ e with primary := prim }.loadSide 58 (s.sideStore (gaPlace s.activeTwin)) 3).loadSide 61 (s.sideStore (2 + prim)) 6
  { s with est := e }.setObj 0x4201 1 0

/-- WARM_STATE_WRITE (R351): from 10 s of module time after the one before, states 19 to 57 with their variances and the time of writing; two copies alternate. -/
def execWarmStateWrite (t : Nat) (s : State) : Host.Outcome State Fault Refusal :=
  s.live t fun s =>
    if ¬ s.isManager ∨ s.power.stage ≠ .ready ∨ s.est.x.length ≠ estStates ∨ s.mt < s.est.lastWarm + 10000000000 then s
    else
      let k : KeptVec :=
        { writtenS := s.mt / 1000000000, vals := (List.range 39).map fun j => s.est.get (19 + j)
          vars := (List.range 39).map fun j => s.est.cov (19 + j) (19 + j) }
      { s with mram := { s.mram with warm := k :: s.mram.warm.take 1 }, est := { s.est with lastWarm := s.mt } }

/-! ### Settings -/

/-- A commit is refused until every calibration state has converged (R348). -/
def State.estWriteAbort (s : State) (i sub : Nat) (v : Val) : Option Nat :=
  match v with
  | .bytes _ => none
  | .num n => if i = 0x4230 ∧ sub = 5 ∧ n = 1 ∧ ¬ s.bit 0x4230 3 10 then some 0x08000022 else none

/-- Place of the side store and first calibration state of a commissioned point, with the count of states (R350). -/
def pointOf4210 (sub : Nat) : Nat × Nat × Nat :=
  if sub ≤ 3 then (0, 58, 3) else if sub ≤ 6 then (1, 58, 3)
  else if sub ≤ 0x0F then (2 + (sub - 7) / 3, 64, 3) else (2 + (sub - 0x10) / 3, 61, 3)

/-- What follows a write of this chapter at its boundary (R348, R350). -/
def State.estApplied (s : State) (i sub : Nat) (_old new : Int) : State :=
  if i = 0x4230 ∧ sub = 5 ∧ new = 1 then { s.setObj 0x4230 5 0 with est := { s.est with commitDue := true } }
  else if i = 0x4210 ∧ 1 ≤ sub then
    let (place, first, n) := pointOf4210 sub
    let inUse := if place < 2 then decide (place = gaPlace s.activeTwin) else decide (place = 2 + s.est.primary)
    { s with
      mram := { s.mram with sides := modifyNth (fun _ => none) s.mram.sides place }
      est := { (if inUse ∧ s.est.x.length = estStates then s.est.loadSide first none n else s.est) with
        geomCleared := place :: s.est.geomCleared } }
  else s

/-- The commit of a boundary, once its writes have been applied (R348, R350). -/
def State.commitCalibration (s : State) : State :=
  if ¬ s.est.commitDue then { s with est := { s.est with geomCleared := [] } }
  else
    let ga := gaPlace s.activeTwin
    let ms := 2 + s.est.primary
    let vec (from' n : Nat) : KeptVec :=
      { writtenS := s.mt / 1000000000, vals := (List.range n).map fun j => s.est.get (from' + j)
        vars := (List.range n).map fun j => s.est.cov (from' + j) (from' + j) }
    let put (l : List (Option KeptVec)) (k : Nat) (v : KeptVec) : List (Option KeptVec) :=
      if k ∈ s.est.geomCleared then l else modifyNth (fun _ => some v) l k
    let partial' := decide (ga ∈ s.est.geomCleared) || decide (ms ∈ s.est.geomCleared)
    let s := { s with
      mram := { s.mram with sides := put (put s.mram.sides ga (vec 58 3)) ms (vec 61 6) }
      est := { s.est with commitDue := false, geomCleared := [] } }
    (s.setObj 0x4230 6 (if partial' then 2 else 1)).count .control 0x4230 0x10

end Sys2Proof.Machine
end

