-- ==== Sys2Proof/Machine/Law.lean ====
section
/-! DEFINITION. The control law and the block arithmetic of the engine (chapter 11). -/

namespace Sys2Proof.Machine

open Sys2Proof

/-! ### Engine vectors (R414, R415, R417) -/

/-- Largest mantissa. -/
def mantMax : Int := 8388607

/-- Mantissas of a vector at exponent `e`, rounded half to even. -/
def mantissas (e : Int) (v : List Rat) : List Int :=
  let k : Rat := if e ≤ 23 then ((2 ^ (23 - e).toNat : Nat) : Rat) else 1 / ((2 ^ (e - 23).toNat : Nat) : Rat)
  v.map fun a => roundHalfEven (a * k)

/-- Whether every mantissa fits. -/
def mantFits (l : List Int) : Bool := l.all fun m => decide (m.natAbs ≤ 8388607)

/-- Exponent and mantissas of a vector, and whether the exponent saturated: the smallest exponent from -128 for which every
rounded mantissa fits; all zero has -128; beyond +127 the mantissas saturate. -/
def blockOf (v : List Rat) : Int × List Int × Bool :=
  match (List.range 256).find? fun k => mantFits (mantissas ((k : Int) - 128) v) with
  | some k => ((k : Int) - 128, mantissas ((k : Int) - 128) v, false)
  | none => (127, (mantissas 127 v).map (clampInt (-mantMax) mantMax), true)

/-- Value of a mantissa at an exponent. -/
def blockValue (e m : Int) : Rat :=
  if e ≤ 23 then (m : Rat) / ((2 ^ (23 - e).toNat : Nat) : Rat) else (m : Rat) * ((2 ^ (e - 23).toNat : Nat) : Rat)

/-- A vector as the engine holds it. -/
def blockRound (v : List Rat) : List Rat :=
  let (e, m, _) := blockOf v
  m.map (blockValue e)

/-! ### Coefficients -/

/-- Index of the active coefficient bank (5038h:01). -/
def State.bank (s : State) : Nat := 0x5030 + s.nat 0x5038 1

/-- A row of REAL32 coefficients of the active bank as an engine vector (R429). -/
def State.rowF (s : State) (sub n : Nat) : List Rat := blockRound ((List.range n).map fun j => s.real s.bank (sub + j))

/-- A row of integer coefficients of the active bank as an engine vector. -/
def State.rowN (s : State) (sub n : Nat) : List Rat := blockRound ((List.range n).map fun j => (s.obj s.bank (sub + j) : Rat))

/-- A wind coefficient at a relative direction in degrees, linear between the 10° points (R404, R429). -/
def State.windCoeff (s : State) (sub : Nat) (gamma : Rat) : Rat :=
  let tbl := s.rowF sub 12 ++ s.rowF (sub + 12) 12 ++ s.rowF (sub + 24) 12
  let g := wrapPos 360 gamma / 10
  let k := g.floor.toNat % 36
  let f := g - g.floor
  vget tbl k * (1 - f) + vget tbl ((k + 1) % 36) * f

/-! ### Inputs of the law -/

/-- Estimated heading in degrees, position in m and earth-frame velocity in m/s as 4250h publishes them. -/
def State.hatPsi (s : State) : Rat := (s.obj 0x4250 3 : Rat) / 10000

/-- Velocity of the estimate in earth axes. -/
def State.hatVel (s : State) : Rat × Rat :=
  let c := Config.cos (rad s.hatPsi)
  let g := Config.sin (rad s.hatPsi)
  let u : Rat := (s.obj 0x4250 4 : Rat) / 1000
  let v : Rat := (s.obj 0x4250 5 : Rat) / 1000
  (c * u - g * v, g * u + c * v)

/-- Whether the control law drives axis `i` (0 X, 1 Y, 2 N) in a mode (Table 11-1). -/
def lawDrives (mode i : Nat) : Bool :=
  (decide (mode = 3) && decide (i = 2)) || (decide (4 ≤ mode) && decide (mode ≤ 6))

/-- Whether the joystick drives axis `i` in a mode. -/
def joyDrives (mode i : Nat) : Bool := decide (mode = 2) || (decide (mode = 3) && decide (i < 2))

/-- What a program loads (Table 11-4, stages 1 and 2), `rnd` rounding each vector as the engine does: estimate, its velocity, and the
rotation terms of its heading. -/
structure LawIn where
  hat : List Rat
  hatV : List Rat
  rot : List Rat

/-- The estimate as it enters a program. -/
def State.lawIn (s : State) (rnd : List Rat → List Rat) : LawIn :=
  let hat := rnd [(s.obj 0x4250 1 : Rat) / 1000, (s.obj 0x4250 2 : Rat) / 1000, s.hatPsi]
  { hat := hat
    hatV := rnd [(s.obj 0x4250 4 : Rat) / 1000, (s.obj 0x4250 5 : Rat) / 1000, (s.obj 0x4250 6 : Rat) / 1000]
    rot := rnd [Config.cos (rad (vget hat 2)), Config.sin (rad (vget hat 2))] }

/-- North and east components turned into the body frame. -/
def LawIn.toBody (w : LawIn) (n e : Rat) : Rat × Rat :=
  (vget w.rot 0 * n + vget w.rot 1 * e, vget w.rot 0 * e - vget w.rot 1 * n)

/-- Wind force in the body frame, kN and kN·m, from the true wind and the estimated motion, before it fades (R404). -/
def State.windForce (s : State) (rnd : List Rat → List Rat) : List Rat :=
  let w := s.lawIn rnd
  let wind := rnd [(s.obj 0x4250 0x0F : Rat) / 100, (s.obj 0x4250 0x10 : Rat) / 100]
  let from' := rad (vget wind 1) - rad (vget w.hat 2)
  let x := -(vget wind 0 * Config.cos from') - vget w.hatV 0
  let y := -(vget wind 0 * Config.sin from') - vget w.hatV 1
  let gamma := deg (Config.atan2 (-y) (-x))
  let v2 := x * x + y * y
  [v2 * s.windCoeff 0x22 gamma / 1000, v2 * s.windCoeff 0x46 gamma / 1000, v2 * s.windCoeff 0x6A gamma / 1000]

/-- Errors and error rates of the three axes in the body frame, heading in degrees (R402). -/
def State.lawErrors (s : State) (rnd : List Rat → List Rat) : List Rat × List Rat :=
  let r := s.ctl
  let w := s.lawIn rnd
  let ref := rnd [r.north.x, r.east.x, r.heading.x]
  let refV := rnd [r.north.v, r.east.v, r.heading.v]
  let p := w.toBody (vget ref 0 - vget w.hat 0) (vget ref 1 - vget w.hat 1)
  let v := w.toBody (vget refV 0) (vget refV 1)
  (rnd [p.1, p.2, wrapTurn 360 (vget ref 2 - vget w.hat 2)],
    rnd [v.1 - vget w.hatV 0, v.2 - vget w.hatV 1, vget refV 2 - vget w.hatV 2])

/-- Feed-forward of wind, of the environment, and the damping term (R404 to R406). -/
def State.lawFeed (s : State) (rnd : List Rat → List Rat) : List Rat × List Rat × List Rat :=
  let w := s.lawIn rnd
  let wind := (s.windForce rnd).map fun a => a * s.ctl.windFade
  let gw := vget (s.rowN 0x19 1) 0 / 1000
  let gb := vget (s.rowN 0x1A 1) 0 / 1000
  let env := rnd [vget s.est.x0 18, vget s.est.x0 19, vget s.est.x0 20]
  let b := w.toBody (vget env 0) (vget env 1)
  let cap := vget (s.rowN 0x1D 1) 0
  let rates := rnd [deg (vget s.est.x0 9), deg (vget s.est.x0 10)]
  let gain := s.rowF 0x1B 2
  (rnd (wind.map fun a => -(gw * a)), rnd [-(gb * b.1), -(gb * b.2), -(gb * vget env 2)],
    rnd [clampRat (-cap) cap (-(vget gain 1 * vget rates 1)), clampRat (-cap) cap (-(vget gain 0 * vget rates 0)), 0])

/-- Joystick demands in their units as they enter a program: per mille of each axis's force limit, zero while stale (R390). -/
def State.joyDemands (s : State) (rnd : List Rat → List Rat) : List Rat :=
  let lim := s.rowN 0x10 3
  rnd ((List.range 3).map fun i =>
    if s.bit 0x5000 8 0 then 0 else (s.obj 0x5010 (0x0C + i) : Rat) / 1000 * vget lim i)

/-- Output of a mode with given integrators (R402, R407); the clamps act on the demanded force (Table 11-4). -/
def State.lawOut (s : State) (rnd : List Rat → List Rat) (mode : Nat) (integ : List Rat) : List Rat :=
  let (e, ed) := s.lawErrors rnd
  let (fw, fe, d) := s.lawFeed rnd
  let joy := s.joyDemands rnd
  let kp := s.rowF 1 3
  let kp3 := s.rowF 4 3
  let kd := s.rowF 0x0A 3
  let term (f : Nat → Rat) : List Rat := rnd [f 0, f 1, f 2]
  let tp := term fun i => vget kp i * vget e i
  let t3 := term fun i => vget kp3 i * (vget e i * vget e i * vget e i)
  let td := term fun i => vget kd i * vget ed i
  let ti := term fun i => vget integ i
  rnd ((List.range 3).map fun i =>
    if lawDrives mode i then vget tp i + vget t3 i + vget td i + vget ti i + vget fw i + vget fe i + vget d i
    else if joyDrives mode i then vget joy i + vget fw i
    else 0)

/-- Integrators preloaded so that the incoming output meets the demanded force of the previous cycle (R408). -/
def State.preload (s : State) (rnd : List Rat → List Rat) (mode : Nat) : List Rat :=
  let zero := s.lawOut rnd mode [0, 0, 0]
  let lim := s.rowN 0x0D 3
  rnd ((List.range 3).map fun i =>
    if lawDrives mode i then clampRat (-(vget lim i)) (vget lim i) (vget s.ctl.demand i - vget zero i) else 0)

end Sys2Proof.Machine
end

