-- ==== Sys2Proof/Machine/Tracks.lean ====
section
/-! DEFINITION. Relative targets and tracks (chapter 10): scans, detections, association, track states, and the samples that
confirmed tracks give. -/

namespace Sys2Proof.Machine

open Sys2Proof

/-- Object index of a track. -/
def trackObj (t : Nat) : Nat := 0x4310 + t

/-- A track. -/
def State.track (s : State) (t : Nat) : Track := nth {} s.trk.tracks t

/-- A track changed. -/
def State.modTrack (s : State) (t : Nat) (f : Track → Track) : State :=
  { s with trk := { s.trk with tracks := modifyNth f s.trk.tracks t } }

/-- A slot of type 05h that names a track. -/
def State.slotsOfTrack (s : State) (t : Nat) : List Nat :=
  (List.range 12).filter fun n => decide (s.obj (0x4100 + n) 1 = 5) && decide (s.nat (0x4100 + n) 2 = t)

/-- Number of tracks in use. -/
def State.showTracks (s : State) : State :=
  s.setObj 0x4300 6 (((List.range 64).filter fun t => decide (s.obj (trackObj t) 1 ≠ 0)).length : Nat)

/-- A track is deleted: FREE, event, count, alarm when a slot names it (R368, R370). -/
def State.freeTrack (s : State) (t : Nat) : State :=
  if s.obj (trackObj t) 1 = 0 then s
  else
    let s := s.setObjs [(trackObj t, 1, 0), (trackObj t, 3, 0xFF), (trackObj t, 0x0B, 0), (trackObj t, 0x0C, 0)]
    let s := ({ s with trk := { s.trk with free := s.trk.free ++ [t] } }.count .data 0x4300 9).event .data 0x4300 9 3 [BitVec.ofNat 8 t]
    let s := if (s.slotsOfTrack t).isEmpty then s else s.alarm .data (trackObj t) 1 1
    s.showTracks

/-- Prediction of a track over `dt` seconds with the acceleration noise density of 4300h:05 (R365). -/
def State.predictTrack (s : State) (k : Track) (till : Int) : Track :=
  let dt : Rat := ((till - k.at' : Int) : Rat) / 1000000000
  let q : Rat := (s.nat 0x4300 5 : Rat) / 1000 * ((s.nat 0x4300 5 : Rat) / 1000)
  let f := matOf 4 4 fun i j => if i = j then 1 else if j = i + 2 then dt else 0
  let noise (i j : Nat) : Rat :=
    if i % 2 ≠ j % 2 then 0
    else if i < 2 ∧ j < 2 then q * dt * dt * dt / 3
    else if i < 2 ∨ j < 2 then q * dt * dt / 2
    else q * dt
  { k with
    x := matVec f k.x, at' := till
    p := (matMul 4 (matMul 4 f k.p) (transpose 4 f)).zipWith vadd (matOf 4 4 noise) }

/-- Update of a track with a relative position of variance `r` (R365). -/
def updateTrack (k : Track) (n e r : Rat) : Track :=
  let one (k : Track) (i : Nat) (z : Rat) : Track :=
    let col := (List.range 4).map fun a => mget k.p a i
    let sVar := mget k.p i i + r
    let g := col.map fun a => qdiv a sVar
    { k with
      x := vadd k.x (vscale (z - vget k.x i) g)
      p := matOf 4 4 fun a b => mget k.p a b - vget g a * vget col b }
  one (one k 0 n) 1 e

/-- A scan of an input (R364): a packet of reflectors, or the sentences of one broadcast interval; its instant, the latest of them. -/
structure Scan where
  input : Nat
  instant : Int
  parts : List TargetPacket

/-- Entries of a scan. -/
def Scan.size (c : Scan) : Nat := (c.parts.map fun p => p.entries.length).foldl (· + ·) 0

/-- A detection as a relative position at its instant: north, east, standard deviation, identity. -/
structure Detection where
  at' : Int
  n : Rat
  e : Rat
  sigma : Rat
  ident : Nat

/-- Heading of the data plane for a scan: of the named gyrocompass, or the next in the order G0 to G3, when its latest sample at or
before the instant is at most 1.0 s old (R361). -/
def State.scanHeading (s : State) (instant : Int) : Option Rat :=
  let latest (g : Nat) : Option Sample :=
    (s.trk.gyros.filter fun a => decide (a.source = 0x0C + g) && decide (a.instant ≤ instant)
      && decide (instant - a.instant ≤ 1000000000)).foldl (fun best a => match best with
        | some b => if b.instant ≤ a.instant then some a else best
        | none => some a) none
  (((List.range 4).map fun j => (s.nat 0x4300 1 + j) % 4).findSome? latest).map fun a => ((a.vals.getD 0 0 : Int) : Rat) / 1000

/-- The GA position of the active twin at an instant, by interpolation (R362). -/
def State.ownAt (s : State) (instant : Int) : Option (Int × Int) :=
  let mine := s.trk.combined.filter fun c => c.twinB = decide (s.activeTwin = .b)
  match (mine.filter fun c => decide (c.at' ≤ instant)).getLast?, (mine.filter fun c => decide (instant < c.at')).head? with
  | some a, some b =>
    if a.fix = 0 ∨ b.fix = 0 ∨ 1000000000 < b.at' - a.at' then none
    else
      let k : Rat := ((instant - a.at' : Int) : Rat) / ((b.at' - a.at' : Int) : Rat)
      some (a.lat + roundHalfEven (k * ((b.lat - a.lat : Int) : Rat)), a.lon + roundHalfEven (k * ((b.lon - a.lon : Int) : Rat)))
  | _, _ => none

/-- Detections of a packet, none for those that R361 or R362 discards (R361 to R363). -/
def State.detections (s : State) (p : TargetPacket) : List Detection :=
  let o := 0x4301 + p.input
  match s.obj o 1 with
  | 1 =>
    match s.scanHeading p.instant with
    | none => []
    | some psi => p.entries.map fun (rho, beta, code) =>
      let r : Rat := (rho : Rat) / 1000
      let th := rad ((beta : Rat) / 100 + (s.nat o 5 : Rat) / 100 + psi)
      let sr : Rat := (s.nat o 8 : Rat) / 1000
      let sb := r * rad ((s.nat o 9 : Rat) / 1000)
      { at' := p.instant, n := r * Config.cos th, e := r * Config.sin th, sigma := hypot sr sb, ident := code }
  | _ =>
    match s.ownAt p.instant with
    | none => []
    | some (la, lo) => p.entries.map fun (lat, lon, num) =>
      let z := Config.tangent lat lon la lo
      { at' := p.instant, n := z.1, e := z.2, sigma := (s.nat o 0x0A : Rat) / 1000, ident := num }

/-- The pairs inside the gate: normalised distance, track and entry. A track is predicted to the instant of the detection (R366). -/
def State.gatePairs (s : State) (mine : List Nat) (ds : List Detection) : List (Rat × Nat × Nat) :=
  mine.flatMap fun t => (List.range ds.length).filterMap fun j =>
    match ds[j]? with
    | none => none
    | some d =>
      if s.nat (trackObj t) 4 ≠ d.ident then none
      else
        let k := s.predictTrack (s.track t) d.at'
        let dn := d.n - vget k.x 0
        let de := d.e - vget k.x 1
        let gap := hypot dn de
        let un := if gap = 0 then 1 else dn / gap
        let ue := if gap = 0 then 0 else de / gap
        let var := un * un * mget k.p 0 0 + 2 * un * ue * mget k.p 0 1 + ue * ue * mget k.p 1 1 + d.sigma * d.sigma
        let sg := Config.sqrt var
        if gap ≤ maxRat ((s.nat 0x4300 3 : Rat) / 10 * sg) ((s.nat 0x4300 4 : Rat) / 1000) then some (qdiv gap sg, t, j) else none

/-- Order of pairs: distance, then track, then entry. -/
def insertPair (a : Rat × Nat × Nat) : List (Rat × Nat × Nat) → List (Rat × Nat × Nat)
  | [] => [a]
  | b :: rest =>
    if b.1 < a.1 ∨ (b.1 = a.1 ∧ (b.2.1 < a.2.1 ∨ (b.2.1 = a.2.1 ∧ b.2.2 ≤ a.2.2))) then b :: insertPair a rest else a :: b :: rest

/-- Pairs taken in order, each track and each detection once. -/
def takePairs : List (Rat × Nat × Nat) → List (Nat × Nat) → List (Nat × Nat)
  | [], taken => taken
  | (_, t, j) :: rest, taken =>
    if taken.any (fun p => p.1 = t || p.2 = j) then takePairs rest taken else takePairs rest (taken ++ [(t, j)])

/-- The objects of a track follow its filter. -/
def State.showTrack (s : State) (t : Nat) : State :=
  let k := s.track t
  let r (i : Nat) : Int := clampInt (-2147483648) 2147483647 (roundHalfEven (vget k.x i * 1000))
  s.setObjs [(trackObj t, 5, r 0), (trackObj t, 6, r 1), (trackObj t, 7, r 2), (trackObj t, 8, r 3),
    (trackObj t, 9, clampInt 0 0xFFFFFFFF (roundHalfEven
      (Config.sqrt (bigEigen (mget k.p 0 0) (mget k.p 0 1) (mget k.p 1 1)) * 1000))),
    (trackObj t, 0x0A, k.lastHit % 4294967296)]

/-- Bits set among the last `n` scans of a hit history. -/
def hitsIn (n h : Nat) : Nat := ((List.range n).filter h.testBit).length

/-- Transitions of a track after a scan, in the order of Table 10-2 (R368, R369). -/
def State.judgeTrack (s : State) (t : Nat) (now : Int) : State :=
  let o := trackObj t
  let k := s.track t
  let h := s.nat o 0x0B
  let gone := decide (20 ≤ s.obj o 0x0C) || decide (10000000000 ≤ now - k.lastHit)
  match s.obj o 1 with
  | 1 =>
    if 3 ≤ hitsIn 5 h then s.setObj o 1 2 else if 5 ≤ k.scans then s.freeTrack t else s
  | 2 =>
    if gone then s.freeTrack t
    else if 8 ≤ hitsIn 10 h ∧
        Config.sqrt (bigEigen (mget k.p 0 0) (mget k.p 0 1) (mget k.p 1 1)) * 1000 ≤ (s.nat 0x4300 2 : Rat) then s.setObj o 1 3
    else s
  | 3 => if gone then s.freeTrack t else s
  | _ => s

/-- A hit: the track is updated; a CONFIRMED track gives one sample to every slot that names it (R359, R366, R371). -/
def State.hitTrack (s : State) (t : Nat) (k : Track) (d : Detection) : State :=
  let o := trackObj t
  let up := updateTrack k d.n d.e (d.sigma * d.sigma)
  let s := s.modTrack t fun z => { up with lastHit := k.at', scans := z.scans + 1 }
  (s.setObjs [(o, 0x0B, ((s.nat o 0x0B * 2 + 1) % 1024 : Nat)), (o, 0x0C, 0)]).showTrack t

/-- Samples of a hit of a confirmed track (R371). -/
def State.trackSamples (s : State) (t : Nat) (d : Detection) : State :=
  if s.obj (trackObj t) 1 ≠ 3 then s
  else
    let k := s.track t
    let mm (a : Rat) : Int := roundHalfEven (a * 1000)
    (s.slotsOfTrack t).foldl (fun (s : State) n =>
      s.deliverMapped n d.at' [mm (-d.n), mm (-d.e), mm (vget k.x 2), mm (vget k.x 3), t, s.obj (trackObj t) 2]
        (some (roundHalfEven (d.sigma * 1000)).toNat)) s

/-- A miss: every track without a detection records one (R366). -/
def State.missTrack (s : State) (t : Nat) (k : Track) : State :=
  let o := trackObj t
  let s := s.modTrack t fun z => { k with lastHit := z.lastHit, scans := z.scans + 1 }
  (s.setObjs [(o, 0x0B, ((s.nat o 0x0B * 2) % 1024 : Nat)), (o, 0x0C, min 20 (s.obj o 0x0C + 1))]).showTrack t

/-- A new candidate on the number FREE the longest; dropped when none was FREE before this scan (R367). -/
def State.newCandidate (s : State) (input : Nat) (d : Detection) (free : List Nat) : List Nat × State :=
  match free with
  | [] => ([], s.count .data 0x4300 7)
  | t :: rest =>
    let o := trackObj t
    let var := d.sigma * d.sigma
    let s := s.modTrack t fun _ =>
      { x := [d.n, d.e, 0, 0], at' := d.at', lastHit := d.at', scans := 1
        p := matOf 4 4 fun i j => if i ≠ j then 0 else if i < 2 then var else Config.trackVelocityVariance }
    let s := { s with trk := { s.trk with free := s.trk.free.filter (· ≠ t) } }
    let s := s.setObjs [(o, 1, 1), (o, 2, ((s.nat o 2 + 1) % 65536 : Nat)), (o, 3, (input : Nat)), (o, 4, (d.ident : Nat)),
      (o, 0x0B, 1), (o, 0x0C, 0)]
    (rest, ((s.unalarm .data o 1 1).showTrack t).showTracks)

/-- Tracks in use of an input. -/
def State.tracksOf (s : State) (input : Nat) : List Nat :=
  (List.range 64).filter fun t => decide (s.obj (trackObj t) 1 ≠ 0) && decide (s.nat (trackObj t) 3 = input)

/-- The tracks of an input after a scan: a hit with the detection taken, else a miss; then their transitions (R366, R368). -/
def State.scanTracks (s : State) (c : Scan) (mine : List Nat) (taken : List (Nat × Nat)) (ds : List Detection) : State :=
  let hit (t : Nat) : Option Detection := (taken.find? fun z => z.1 = t).bind fun z => ds[z.2]?
  let s := mine.foldl (fun (s : State) t =>
    match hit t with
    | some d => s.hitTrack t (s.predictTrack (s.track t) d.at') d
    | none => s.missTrack t (s.predictTrack (s.track t) c.instant)) s
  let s := mine.foldl (fun (s : State) t => s.judgeTrack t c.instant) s
  mine.foldl (fun (s : State) t =>
    match hit t with
    | some d => s.trackSamples t d
    | none => s) s

/-- A detection that no track took: that of a broadcast target whose number a track carries is discarded, any other starts a candidate
on a number that was FREE before the scan (R366, R367; log entry 29). -/
def State.untaken (input : Nat) (acc : List Nat × State) (d : Detection) : List Nat × State :=
  let s := acc.2
  if s.obj (0x4301 + input) 1 = 2 ∧ (s.tracksOf input).any (fun t => s.nat (trackObj t) 4 = d.ident) then
    (acc.1, s.count .data (0x4301 + input) 0x0D)
  else s.newCandidate input d acc.1

/-- One scan (R361 to R369). -/
def State.scan (s : State) (c : Scan) : State :=
  let o := 0x4301 + c.input
  let ds := c.parts.flatMap s.detections
  let s := (s.count .data o 0x0B).countBy .data o 0x0C c.size
  let s := s.countBy .data o 0x0D (c.size - ds.length)
  let mine := s.tracksOf c.input
  let taken := takePairs ((s.gatePairs mine ds).foldr insertPair []) []
  let free := s.trk.free
  let left := ((List.range ds.length).filter fun j => !taken.any fun z => z.2 = j).filterMap fun j => ds[j]?
  (left.foldl (State.untaken c.input) (free, s.scanTracks c mine taken ds)).2

/-- Number of the interval of module time that a packet falls in (R364). -/
def State.interval (s : State) (p : TargetPacket) : Int := p.instant / (s.obj (0x4301 + p.input) 4 * 1000000)

/-- Packets as scans: broadcast sentences of one interval are joined (R364). -/
def State.joinIntervals (s : State) : List TargetPacket → List Scan
  | [] => []
  | p :: rest =>
    let later := s.joinIntervals rest
    let alone : Scan := { input := p.input, instant := p.instant, parts := [p] }
    let same (c : Scan) : Bool := decide (c.input = p.input) && c.parts.any fun q => decide (s.interval q = s.interval p)
    if s.obj (0x4301 + p.input) 1 ≠ 2 then alone :: later
    else match later.find? same with
      | some c => { c with instant := max p.instant c.instant, parts := p :: c.parts } :: later.filter fun c => !same c
      | none => alone :: later

/-- Whether a scan may be processed in the cycle of T0: a broadcast interval only once it has ended plus the latency. -/
def State.scanReady (s : State) (t0 : Int) (c : Scan) : Bool :=
  let o := 0x4301 + c.input
  if s.obj o 1 ≠ 2 then true
  else
    let per := s.obj o 4 * 1000000
    decide ((c.instant / per + 1) * per + s.obj o 3 * 1000 < t0)

/-- Scans taken in order until 256 detections; the others wait (R360). -/
def capScans : Nat → List Scan → List Scan × List Scan
  | _, [] => ([], [])
  | room, c :: rest =>
    if c.size ≤ room then
      let (a, b) := capScans (room - c.size) rest
      (c :: a, b)
    else ([], c :: rest)

/-- Scans in order of instant. -/
def insertScan (a : Scan) : List Scan → List Scan
  | [] => [a]
  | b :: rest => if b.instant ≤ a.instant then b :: insertScan a rest else a :: b :: rest

/-- Tracks without a hit for 10 s at T0 (R368). -/
def State.expireTracks (s : State) (t0 : Int) : State :=
  (List.range 64).foldl (fun (s : State) t =>
    if 2 ≤ s.obj (trackObj t) 1 ∧ 10000000000 ≤ t0 - (s.track t).lastHit then s.freeTrack t else s) s

/-- The combined solutions kept, with those that the snapshot adds (R362). -/
def State.combinedFixes (s : State) : List OwnFix :=
  let bySnap := s.align.snap.products.filterMap fun (p : Product) =>
    if p.which ≠ 3 then none
    else p.solution.map fun r =>
      { twinB := decide (p.own = decide (s.ident.twin = .b)), at' := r.instant, lat := r.lat, lon := r.lon, fix := r.fix : OwnFix }
  s.trk.combined ++ bySnap.filter fun c => !(s.trk.combined.any fun d => d.twinB = c.twinB && decide (c.at' ≤ d.at'))

/-- TRACK_PROCESSING (R358 to R369, R374): the target packets of the agreed cycle input set. -/
def execTrackProcessing (t : Nat) (s : State) : Host.Outcome State Fault Refusal :=
  s.live t fun s =>
    let snap := s.align.snap
    if ¬ s.isManager ∨ ¬ s.pair.setAgreed ∨ ¬ s.align.frozen ∨ snap.t0 ≤ s.trk.doneFor then s
    else
      let gyros := (s.trk.gyros ++ snap.samples.filter fun a => decide (0x0C ≤ a.source) && decide (a.source ≤ 0x0F)).filter
        fun a => decide (snap.t0 - a.instant ≤ 12000000000)
      let combined := (s.combinedFixes.filter fun c => decide (snap.t0 - c.at' ≤ 12000000000))
      let s := { s with
        trk := { s.trk with gyros := gyros, combined := combined, doneFor := snap.t0 }
        align := { s.align with snap := { snap with targets := [] } } }
      let s := s.expireTracks snap.t0
      let all := (s.joinIntervals (s.trk.waiting ++ snap.targets)).foldr insertScan []
      let ready := all.filter (s.scanReady snap.t0)
      let (now, left) := capScans 256 ready
      let s := s.countBy .data 0x4300 8 left.length
      let s := { s with trk := { s.trk with
        waiting := (left ++ all.filter fun c => !(s.scanReady snap.t0 c)).flatMap (·.parts) } }
      let s := now.foldl State.scan s
      { s with trk := { s.trk with
        table := ((List.range 64).filter fun t => decide (s.obj (trackObj t) 1 = 3)).map fun t =>
          { number := t, generation := s.nat (trackObj t) 2, x := (s.track t).x, at' := (s.track t).at' } } }

/-- TRACK_TIMEOUT (R368): 10 s of module time without a hit, judged at T0. -/
def execTrackTimeout (t track : Nat) (s : State) : Host.Outcome State Fault Refusal :=
  s.live t fun s =>
    if track < 64 ∧ 2 ≤ s.obj (trackObj track) 1 ∧ 10000000000 ≤ s.align.snap.t0 - (s.track track).lastHit then
      s.freeTrack track
    else s

/-- What follows a write of this chapter at its boundary (R368, Table 10-5). -/
def State.tracksApplied (s : State) (i sub : Nat) (_old new : Int) : State :=
  if 0x4310 ≤ i ∧ i ≤ 0x434F ∧ sub = 0x0D ∧ new = 1 then
    let s := s.setObj i 0x0D 0
    if 2 ≤ s.obj i 1 then s.freeTrack (i - 0x4310) else s
  else s

end Sys2Proof.Machine
end

