-- ==== Sys2Proof/Machine/Modes.lean ====
section
/-! DEFINITION. Modes, set-points, the reference model, bumpless transfer and the control-law engine (chapter 11). -/

namespace Sys2Proof.Machine

open Sys2Proof

/-- The mode in force (5000h:01). -/
def State.mode (s : State) : Nat := s.nat 0x5000 1

/-- Estimator validity flag `n` (4201h:02). -/
def State.valid (s : State) (n : Nat) : Bool := s.bit 0x4201 2 n

/-- Flags that Table 11-1 requires. -/
def State.flagsFor (s : State) (mode : Nat) : Bool :=
  match mode with
  | 3 => s.valid 0
  | 4 => s.valid 0 && s.valid 1
  | 5 => s.valid 0 && s.valid 1
  | 6 => s.valid 0 && s.valid 1 && s.valid 2
  | _ => true

/-- Whether a safety function demands BOLLARD (7000h:08). -/
def State.bollardDemand (s : State) : Bool := decide (s.obj 0x7000 8 = 1)

/-! ### Set-points -/

/-- The advisory offsets after their clamps, mm and 0.001°, and whether a clamp acts (R391). -/
def State.advisory (s : State) : Rat × Rat × Rat × Bool :=
  let n : Rat := s.obj 0x5010 0x11
  let e : Rat := s.obj 0x5010 0x12
  let h : Rat := s.obj 0x5010 0x13
  let lim : Rat := s.nat 0x5001 4
  let limH : Rat := s.nat 0x5001 5
  let m := hypot n e
  let k : Rat := if lim < m then qdiv lim m else 1
  (n * k, e * k, clampRat (-limH) limH h, (decide (s.mode ≠ 3) && decide (lim < m)) || decide (limH < ratAbs h))

/-- The ACCEPTED slot of type 05h that names a track, lowest first. -/
def State.targetSlot (s : State) (track : Nat) : Option Nat :=
  (s.slotsOfTrack track).find? fun n => decide (s.obj (0x4150 + n) 1 = 2)

/-- The line of the snapshot's track table for a track (R374). -/
def State.trackLine (s : State) (track : Nat) : Option TrackLine := s.align.snap.tracks.find? fun l => decide (l.number = track)

/-- Whether a track holds: CONFIRMED with its generation in the snapshot's table (R374, R399, Table 11-2). -/
def State.trackHolds (s : State) (track generation : Nat) : Bool :=
  (s.trackLine track).any fun l => decide (l.generation = generation)

/-- Target point in m and its velocity in m/s (R398, R400). -/
def State.targetPoint (s : State) : (Rat × Rat) × (Rat × Rat) :=
  match s.targetSlot s.ctl.tgtTrack, s.trackLine s.ctl.tgtTrack with
  | some n, some l =>
    let x := s.est.x0
    let arm := s.slotArm n x
    let w := turned x arm
    let om : Dual3 := (Dual.var x 10, Dual.var x 11, Dual.var x 12)
    let lin : Dual3 := (Dual.var x 7, Dual.var x 8, Dual.var x 9)
    let vl := turned x (lin.add (om.cross arm))
    let dt : Rat := ((s.ctl.t0 - l.at' : Int) : Rat) / 1000000000
    ((vget x 0 + w.1.v + vget l.x 0 + vget l.x 2 * dt, vget x 1 + w.2.1.v + vget l.x 1 + vget l.x 3 * dt),
      (vget l.x 2 + vl.1.v, vget l.x 3 + vl.2.1.v))
  | _, _ => ((s.ctl.north.x, s.ctl.east.x), (0, 0))

/-- Effective horizontal set-point in mm (R391, R398). -/
def State.effectiveSet (s : State) : Int × Int :=
  let (an, ae, _, _) := s.advisory
  if s.mode = 6 then
    let p := s.targetPoint.1
    (roundHalfEven (p.1 * 1000 + (s.obj 0x5010 0x0A : Rat) + an), roundHalfEven (p.2 * 1000 + (s.obj 0x5010 0x0B : Rat) + ae))
  else (roundHalfEven ((s.obj 0x5010 3 : Rat) + an), roundHalfEven ((s.obj 0x5010 4 : Rat) + ae))

/-- Effective heading in degrees (R391, R397). -/
def State.effectiveHeading (s : State) : Rat :=
  let (_, _, ah, _) := s.advisory
  let base : Rat := match decide (s.mode = 5 ∧ s.obj 0x5010 7 = 1), s.ctl.legHeading with
    | true, some h => h
    | _, _ => (s.obj 0x5010 5 : Rat) / 10000
  wrapPos 360 (base + ah / 1000)

/-! ### Reference model -/

/-- Braking speed at distance d (R393). -/
def brakeSpeed (amax jmax d : Rat) : Rat :=
  if amax * amax * amax ≤ d * (jmax * jmax) then
    (-(qdiv (amax * amax) jmax) + Config.sqrt (qdiv (amax * amax * amax * amax) (jmax * jmax) + 8 * amax * d)) / 2
  else Config.cbrt (d * d * jmax)

/-- Sign of a number. -/
def signRat (a : Rat) : Rat := if a < 0 then -1 else if 0 < a then 1 else 0

/-- One update of an axis with error `e`, velocity goal base `vT` and limits (R393). -/
def RefAxis.step (r : RefAxis) (tc vmax amax jmax e vT : Rat) : RefAxis :=
  let vGoal := vT + signRat e * minRat vmax (brakeSpeed amax jmax (ratAbs e))
  let dv := vGoal - r.v
  let aGoal := signRat dv * minRat amax (Config.sqrt (2 * jmax * ratAbs dv))
  let j := clampRat (-jmax) jmax ((aGoal - r.a) / tc)
  { x := r.x + tc * r.v + tc * tc * r.a / 2 + tc * tc * tc * j / 6
    v := r.v + tc * r.a + tc * tc * j / 2
    a := r.a + tc * j }

/-- Whether a mode drives the horizontal axes, and the heading, from the reference (Table 11-1). -/
def refHorizontal (mode : Nat) : Bool := lawDrives mode 0
/-- Heading. -/
def refHeading (mode : Nat) : Bool := lawDrives mode 2

/-- The horizontal axes at the estimate (R395). -/
def State.initHorizontal (s : State) : State :=
  let v := s.hatVel
  { s with ctl := { s.ctl with
    north := { x := (s.obj 0x4250 1 : Rat) / 1000, v := v.1, a := 0 }
    east := { x := (s.obj 0x4250 2 : Rat) / 1000, v := v.2, a := 0 } } }

/-- The heading axis at the estimate (R395). -/
def State.initHeading (s : State) : State :=
  { s with ctl := { s.ctl with heading := { x := s.hatPsi, v := (s.obj 0x4250 6 : Rat) / 1000, a := 0 } } }

/-- A leg starts in TRK: its direction, which a leg shorter than 1 mm leaves as it was where it gives the heading (R397). -/
def State.startLeg (s : State) : State :=
  if s.mode ≠ 5 then s
  else
    let p := s.effectiveSet
    let dn : Rat := (p.1 : Rat) / 1000 - s.ctl.north.x
    let de : Rat := (p.2 : Rat) / 1000 - s.ctl.east.x
    { s with ctl := { s.ctl with
      legHeading := if 1 / 1000 ≤ hypot dn de then some (wrapPos 360 (deg (Config.atan2 de dn)))
        else if s.obj 0x5010 7 = 1 then s.ctl.legHeading else none } }

/-- Shares of the horizontal limits when the effective set-point has changed (R394), and a new leg in TRK (R397). -/
def State.shares (s : State) : State :=
  let p := s.effectiveSet
  let moved : Bool := match s.ctl.lastSet with
    | some q => decide (p.1 ≠ q.1) || decide (p.2 ≠ q.2)
    | none => true
  if ¬ moved then s
  else
    let dn : Rat := (p.1 : Rat) / 1000 - s.ctl.north.x
    let de : Rat := (p.2 : Rat) / 1000 - s.ctl.east.x
    let d := hypot dn de
    let s := { s with ctl := { s.ctl with lastSet := some p } }
    let s := if 1 / 1000 ≤ d then { s with ctl := { s.ctl with
        shareN := maxRat (1 / 10) (qdiv (ratAbs dn) d), shareE := maxRat (1 / 10) (qdiv (ratAbs de) d) } } else s
    s.startLeg

/-- The reference model of one cycle (R393 to R400); axes that the mode does not drive are re-initialised (R396). -/
def State.refStep (s : State) : State :=
  let b := s.bank
  let tc : Rat := (s.tcNs : Rat) / 1000000000
  let s : State := if refHorizontal s.mode then
      let s := s.shares
      let p := s.effectiveSet
      let vBank : Rat := (s.nat b 0x13 : Rat) / 1000
      let v := if s.mode = 5 then minRat vBank ((s.nat 0x5010 6 : Rat) / 1000) else vBank
      let a : Rat := (s.nat b 0x14 : Rat) / 1000
      let j : Rat := (s.nat b 0x15 : Rat) / 1000
      let vT := if s.mode = 6 then s.targetPoint.2 else (0, 0)
      let c := s.ctl
      { s with ctl := { c with
        north := c.north.step tc (v * c.shareN) (a * c.shareN) (j * c.shareN) ((p.1 : Rat) / 1000 - c.north.x) vT.1
        east := c.east.step tc (v * c.shareE) (a * c.shareE) (j * c.shareE) ((p.2 : Rat) / 1000 - c.east.x) vT.2 } }
    else { s.initHorizontal with ctl := { s.initHorizontal.ctl with lastSet := none, legHeading := none } }
  let s : State := if refHeading s.mode then
      let h := s.ctl.heading
      let h := h.step tc ((s.nat b 0x16 : Rat) / 100) ((s.nat b 0x17 : Rat) / 1000) ((s.nat b 0x18 : Rat) / 1000)
        (wrapTurn 360 (s.effectiveHeading - h.x)) 0
      { s with ctl := { s.ctl with heading := { h with x := wrapPos 360 h.x } } }
    else s.initHeading
  let c := s.ctl
  let mm (a : Rat) : Int := clampInt (-2147483648) 2147483647 (roundHalfEven (a * 1000))
  let driven := decide (3 ≤ s.mode) && decide (s.mode ≤ 6)
  (s.setObjs [(0x5000, 0x0F, mm c.north.x), (0x5000, 0x10, mm c.east.x),
    (0x5000, 0x11, roundHalfEven (c.heading.x * 10000) % 3600000), (0x5000, 0x12, mm c.north.v), (0x5000, 0x13, mm c.east.v),
    (0x5000, 0x14, mm c.heading.v)]).setBit 0x5000 8 8 (driven && s.advisory.2.2.2)

/-! ### Transfers -/

/-- Number of cycles of a blend (R410). -/
def State.blendCycles (s : State) : Nat :=
  let n := s.nat s.bank 0x1E * 1000000
  (n + s.tcNs - 1) / s.tcNs

/-- The mode register changes; the previous mode is kept (Table 11-5). -/
def State.setMode (s : State) (m : Nat) : State :=
  { s.setObjs [(0x5000, 2, s.mode), (0x5000, 1, m)] with ctl := { s.ctl with cyclesInMode := 0 } }

/-- Axes that the new mode drives and the old one does not are initialised (R395); a new leg or set-point starts. -/
def State.enterAxes (s : State) (old new : Nat) : State :=
  let s := if refHorizontal new ∧ ¬ refHorizontal old then s.initHorizontal else s
  let s := if refHeading new ∧ ¬ refHeading old then s.initHeading else s
  { s with ctl := { s.ctl with lastSet := none, legHeading := none } }

/-- Entry to DISENGAGED or BOLLARD: demand zero, integrators cleared, blend ended (R386). -/
def State.stopMode (s : State) (m : Nat) : State :=
  let s := s.setMode m
  (s.setObjs [(0x5000, 3, 0), (0x5000, 4, 0)]) |> fun s =>
    { s with ctl := { s.ctl with
      integ := [0, 0, 0], oldInteg := [0, 0, 0], blendN := 0, blendK := 0, frozenOld := none, demand := [0, 0, 0]
      clampSign := [0, 0, 0] } }

/-- A transfer begins: integrators preloaded, blend set up (R408, R410, R411). -/
def State.beginTransfer (s : State) (old : Nat) (oldInteg : List Rat) (frozen : Option (List Rat)) : State :=
  let n := s.blendCycles
  let s := { s with ctl := { s.ctl with
    oldMode := old, oldInteg := oldInteg, integ := s.preload blockRound s.mode, blendN := n, blendK := 0
    frozenOld := frozen } }
  s.setObjs [(0x5000, 3, if n = 0 then 0 else 1), (0x5000, 4, 0)]

/-- A forced change (R381, R401, R411) with its cause (5000h:07). -/
def State.forced (s : State) (m cause : Nat) : State :=
  let old := s.mode
  let oldI := s.ctl.integ
  let s := (s.setObj 0x5000 7 (cause : Nat)).count .control 0x5000 0x0B
  let s := s.event .control 0x5000 7 2 [BitVec.ofNat 8 cause]
  let s := if old = 6 then
      s.setObjs [(0x5010, 3, roundHalfEven (s.ctl.north.x * 1000)), (0x5010, 4, roundHalfEven (s.ctl.east.x * 1000))] else s
  let d := s.ctl.demand
  (((s.setMode m).enterAxes old m).refStep).beginTransfer old oldI (some d)

/-- Entry to BOLLARD (R381, R386). -/
def State.enterBollard (s : State) (cause : Nat) : State :=
  let s := ((s.setObj 0x5000 7 (cause : Nat)).count .control 0x5000 0x0B).event .control 0x5000 7 2 [BitVec.ofNat 8 cause]
  ({ s with ctl := { s.ctl with resume := none } }.stopMode 7).refStep

/-- Set-points of an accepted request for HDG, POS, TRK or TGT, the mode in force by now (R389): taken from the command block where flagged, else from the reference. -/
def State.takeSetPoints (s : State) : State :=
  if s.mode < 3 ∨ 6 < s.mode then s
  else
  let f := s.nat 0x5010 2
  let s := if f.testBit 0 then s else
    s.setObjs [(0x5010, 3, roundHalfEven (s.ctl.north.x * 1000)), (0x5010, 4, roundHalfEven (s.ctl.east.x * 1000))]
  if f.testBit 1 then s else s.setObj 0x5010 5 (roundHalfEven (s.ctl.heading.x * 10000) % 3600000)

/-- The request of this boundary ends with an outcome (R379, R389). -/
def State.outcome (s : State) (o : Nat) : State :=
  s.setObjs [(0x5000, 5, o), (0x5000, 6, (s.nat 0x5000 6 + 1) % 65536), (0x5010, 1, 0), (0x5010, 2, 0)]

/-- An outcome when a request stood at this boundary. -/
def State.overtaken (s : State) : State := if s.obj 0x5010 1 = 0 then s else s.outcome 8

/-- The candidate of a transfer to mode `m`, one reference step included. -/
def State.candidate (s : State) (m : Nat) : State :=
  let old := s.mode
  let oldI := s.ctl.integ
  let s := { s with ctl := { s.ctl with tgtTrack := s.nat 0x5010 8, tgtGeneration := s.nat 0x5010 9 } }
  let s := (((s.setMode m).enterAxes old m).takeSetPoints).startLeg
  (s.refStep).beginTransfer old oldI none

/-- Whether the incoming output lies within the transfer tolerance of the demanded force on every axis (R409). -/
def State.withinTolerance (s : State) (before : List Rat) : Bool :=
  let out := s.lawOut id s.mode s.ctl.integ
  (List.range 3).all fun i => decide (ratAbs (vget out i - vget before i) ≤ (s.obj s.bank (0x1F + i) : Rat))

/-- Conditions of R399 for a request for TGT. -/
def State.targetOk (s : State) : Bool :=
  s.trackHolds (s.nat 0x5010 8) (s.nat 0x5010 9) && (s.targetSlot (s.nat 0x5010 8)).isSome && s.valid 2

/-- First condition of R384 that refuses a request for JOY, HDG, POS, TRK or TGT. -/
def State.refusal (s : State) (m : Nat) : Option Nat :=
  if s.power.engageBarred then some 6
  else if s.bollardDemand then some 5
  else if s.mode = 7 then some 9
  else if s.obj 0x5000 3 = 1 ∧ m ≠ s.mode then some 3
  else if ¬ s.flagsFor m then some 2
  else if m = 6 ∧ ¬ s.targetOk then some 7
  else none

/-- A request of 02h to 06h that nothing overtakes (R384, R385, R387, R389, R409). -/
def State.request (s : State) (m : Nat) : State :=
  match s.refusal m with
  | some o => (s.outcome o).refStep
  | none =>
    if m = s.mode then
      let s := { s with ctl := { s.ctl with tgtTrack := s.nat 0x5010 8, tgtGeneration := s.nat 0x5010 9 } }
      ((s.takeSetPoints.startLeg).outcome 1).refStep
    else
      let c := s.candidate m
      if c.withinTolerance s.ctl.demand then
        let c := { c with ctl := { c.ctl with resume := none }, power := { c.power with engaged := true } }
        ((if s.mode = 1 then c.harbourLeave else c).unalarm .control 0x5000 0x0A 1).outcome 1
      else
        (((s.outcome 4).count .control 0x5000 0x0A).alarm .control 0x5000 0x0A 1).refStep

/-- Whether what R99 asks of start-up and of the last loss holds; the twin's role is judged at the boundary. -/
def State.resumeEligible (s : State) : Bool :=
  s.isManager && decide (s.obj 0x2010 2 = 1) && decide (s.obj 0x2010 3 < 2000) && s.power.fromSupplyLoss && s.power.cleanFound
    && decide (s.obj 0x2010 5 = 0) && s.power.activeAlone
    && (match s.power.keptMode with
      | some k => decide (3 ≤ k.mode) && decide (k.mode ≤ 5)
      | none => false)

/-- Whether the last boundary that opened lies within 10 s of the origin of the start-up timeline (R102). -/
def State.resumeInTime (s : State) : Bool := decide (s.diagn.boundaryAt ≤ s.power.origin + 10000000000)

/-- Whether a resume is pending: judged and waiting, or still to be judged with what R99 asks of start-up and of the loss. -/
def State.resumePending (s : State) : Bool := s.ctl.resume.isSome || (!s.power.resumeJudged && s.resumeEligible)

/-- A pending resume is abandoned (R102). -/
def State.abandonResume (s : State) : State :=
  ({ s with power := { s.power with resumeJudged := true }, ctl := { s.ctl with resume := none } }.setObj 0x2010 4 2).alarm
    .control 0x2010 4 1

/-- A resume begins to wait, with the set-point origin of its set-points (R100, R392). -/
def State.adoptResume (s : State) (k : KeptMode) : State :=
  let g (j : Nat) : Int := k.setPoints.getD j 0
  { s with ctl := { s.ctl with resume := some k } }.setObjs [(0x5010, 0x0F, g 9), (0x5010, 0x10, g 10)]

/-- At the first boundary at which the twin holds ACTIVE the resume is judged (R99); one later than 10 s abandons it (R102). -/
def State.judgeResume (s : State) : State :=
  if s.power.resumeJudged ∨ s.role ≠ .active then s
  else
    let s := { s with power := { s.power with resumeJudged := true } }
    match s.resumeEligible, s.power.keptMode with
    | true, some k => if s.resumeInTime then s.adoptResume k else s.abandonResume
    | _, _ => s.setObj 0x2010 4 3

/-- Start-up phase (2010h:01). The manual does not say what it reads after an engaged module has come back to DISENGAGED, nor of a
BOLLARD that was entered unengaged, nor of a worker: 04h stays until the next start-up and stands for any mode but DISENGAGED,
and a worker, which nothing engages or resumes, never reads 03h or 04h (DESIGN CHOICE, log entry 14). -/
def State.phase (s : State) : Nat :=
  if s.power.stage ≠ .ready then 1
  else if s.power.engaged ∨ (s.isManager ∧ s.mode ≠ 1) then 4
  else if s.resumePending then 3
  else 2

/-- A resume that is pending re-enters the stored mode once the estimate allows it, at a boundary within 10 s of the origin (R100 to
R102, R388); an accepted request or BOLLARD ends it before (DEDUCED, log entry 14). -/
def State.resume (s : State) : Option State :=
  match decide (s.mode = 1), s.ctl.resume with
  | true, some k =>
    if s.flagsFor k.mode ∧ ¬ s.bollardDemand ∧ s.resumeInTime then
      let s := s.enterAxes 1 k.mode
      let s := s.setObjs ((List.range 9).map fun j => (0x5010, 3 + j, k.setPoints.getD j 0))
      let s := ((s.setMode k.mode).refStep).beginTransfer 1 [0, 0, 0] none
      some ({ s with ctl := { s.ctl with resume := none }, power := { s.power with engaged := true } }.setObj 0x2010 4 1)
    else none
  | _, _ => none

/-- The request that stands where nothing overtakes it, in mode `m` (R384 to R389). -/
def State.standing (s : State) (req m : Nat) : State :=
  if req = 0 then s.refStep
  else if req = 1 then
    if m = 7 ∧ s.bollardDemand then (s.outcome 5).refStep
    else if m = 1 then (s.outcome 1).refStep
    else ((s.stopMode 1).refStep).outcome 1
  else if req = 7 then (s.outcome 1).refStep
  else s.request req

/-- The first trigger in the order of R382 in mode `m` with request `req` (R379 to R401). -/
def State.trigger (s : State) (req m : Nat) : State :=
  let lost := decide (m = 6) && !(s.trackHolds s.ctl.tgtTrack s.ctl.tgtGeneration)
  if m ≠ 7 ∧ s.bollardDemand then (s.enterBollard (if s.bit 0x7000 2 2 then 5 else 6)).overtaken
  else if m ≠ 7 ∧ req = 7 then (s.enterBollard 7).outcome 1
  else if 3 ≤ m ∧ m ≤ 6 ∧ ¬ s.valid 0 then (s.forced 2 1).overtaken
  else if (m = 4 ∨ m = 5) ∧ ¬ s.valid 1 then (s.forced 3 2).overtaken
  else if m = 6 ∧ (lost ∨ ¬ s.valid 2) then
    let cause := if lost then 4 else if ¬ s.valid 1 then 2 else 3
    (s.forced (if s.valid 1 then 4 else 3) cause).overtaken
  else match s.resume with
    | some s => s.overtaken
    | none => s.standing req m

/-- Mode supervision and the reference model of a cycle (R379 to R401). -/
def State.supervise (s : State) : State :=
  { s with ctl := { s.ctl with supervised := true, cyclesInMode := s.ctl.cyclesInMode + 1 } }.trigger (s.nat 0x5010 1) s.mode

/-- Whether P2 may supervise this cycle: its estimate and Fender report are available and it has not done so (R383). -/
def State.mayDoSupervision (s : State) : Bool :=
  s.isManager && s.ctl.cycling && !s.ctl.supervised && decide (s.power.stage = .ready)
    && decide (s.ctl.t0 + 200000 ≤ (s.mt : Int))

/-! ### The engine -/

/-- The fading of the wind term (R405). -/
def State.fadeWind (s : State) : State :=
  let bad := decide (s.obj 0x4250 0x11 = 0)
  let from' : Option Int := if bad then some (s.ctl.windBadFrom.getD s.ctl.t0) else none
  let step : Rat := (s.tcNs : Rat) / 10000000000
  let fade := match from' with
    | some f => if 10000000000 ≤ s.ctl.t0 - f then maxRat 0 (s.ctl.windFade - step) else s.ctl.windFade
    | none => minRat 1 (s.ctl.windFade + step)
  let flag := match from' with
    | some f => decide (10000000000 ≤ s.ctl.t0 - f)
    | none => decide (fade < 1) && s.bit 0x5000 8 1
  { s with ctl := { s.ctl with windBadFrom := from', windFade := fade } }.setBit 0x5000 8 1 flag

/-- Sign of a number as an integer. -/
def signInt (a : Rat) : Int := if a < 0 then -1 else if 0 < a then 1 else 0

/-- Integrators of a mode after one cycle, and which are frozen (R402, R403). -/
def State.integrate' (s : State) (mode : Nat) (integ : List Rat) : List Rat × List Bool :=
  let (e, _) := s.lawErrors blockRound
  let ki := s.rowF 7 3
  let lim := s.rowN 0x0D 3
  let tc : Rat := (s.tcNs : Rat) / 1000000000
  let inc (i : Nat) : Rat := vget ki i * vget e i * tc
  let slack (i : Nat) : Int := if s.bit 0x5131 9 (1 + i) then (if s.obj 0x5131 (6 + i) < 0 then -1 else 1) else 0
  let frozen (i : Nat) : Bool :=
    let g := signInt (inc i)
    decide (g ≠ 0) && (decide (s.ctl.clampSign.getD i 0 = g) || decide (slack i = g))
  (blockRound ((List.range 3).map fun i =>
    if ¬ lawDrives mode i then vget integ i
    else if frozen i then vget integ i
    else clampRat (-(vget lim i)) (vget lim i) (vget integ i + inc i)),
   (List.range 3).map fun i => lawDrives mode i && frozen i)

/-- The engine program of one cycle (R402 to R418). -/
def State.engine (s : State) : State :=
  let s := s.fadeWind
  let m := s.mode
  let c := s.ctl
  let stopped := decide (m = 1) || decide (m = 7)
  let new := s.lawOut blockRound m c.integ
  let blending := decide (c.blendK < c.blendN)
  let k := c.blendK + 1
  let lam : Rat := vget (blockRound [if c.blendN = 0 then 1 else minRat 1 ((k : Rat) / (c.blendN : Rat))]) 0
  let old := match c.frozenOld with
    | some f => f
    | none => s.lawOut blockRound c.oldMode c.oldInteg
  let mix := if blending then blockRound ((List.range 3).map fun i => (1 - lam) * vget old i + lam * vget new i) else new
  let lim := s.rowN 0x10 3
  let overSat := (blockOf ((List.range 3).map fun i => (1 - lam) * vget old i + lam * vget new i)).2.2
  let (e', mant, sat) := blockOf ((List.range 3).map fun i => clampRat (-(vget lim i)) (vget lim i) (vget mix i))
  let out := if stopped then [0, 0, 0] else mant.map (blockValue e')
  let (integ, frozen) := s.integrate' m c.integ
  let (oldInteg, _) := s.integrate' c.oldMode c.oldInteg
  let sign (i : Nat) : Int :=
    if stopped then 0 else if vget lim i ≤ vget mix i then 1 else if vget mix i ≤ -(vget lim i) then -1 else 0
  let beyond (i : Nat) : Bool := !stopped && (decide (vget lim i < ratAbs (vget mix i)))
  let s := { s with ctl := { c with
    demand := out, demandBefore := c.demand, demandAt := (s.mt : Int) + 30000, demanded := true, clampSign := [sign 0, sign 1, sign 2]
    integ := if stopped then [0, 0, 0] else integ
    oldInteg := if blending ∧ c.frozenOld.isNone then oldInteg else c.oldInteg
    blendK := if blending then k else c.blendK } }
  let s := s.setObjs [(0x5000, 3, if blending ∧ k < c.blendN then 1 else 0),
    (0x5000, 4, if blending then roundHalfEven (lam * 1000) else s.obj 0x5000 4),
    (0x5000, 0x0C, clampInt (-2147483648) 2147483647 (roundHalfEven (vget out 0 * 10))),
    (0x5000, 0x0D, clampInt (-2147483648) 2147483647 (roundHalfEven (vget out 1 * 10))),
    (0x5000, 0x0E, clampInt (-2147483648) 2147483647 (roundHalfEven (vget out 2))),
    (0x5040, 3, clampInt 0 0xFFFFFFFF ((s.mt : Int) - c.t0)), (0x5040, 4, clampInt 0 0xFFFFFFFF ((s.mt : Int) - c.t0 + 30000)),
    (0x5040, 5, if stopped then -128 else e')]
  let s := (List.range 3).foldl (fun (s : State) i =>
    (s.setBit 0x5000 8 (2 + i) (beyond i)).setBit 0x5000 8 (5 + i) (frozen.getD i false && !stopped)) s
  let s := { s with est := { s.est with tauWind := (s.windForce blockRound).map fun a => a * s.ctl.windFade } }
  if (sat ∨ overSat) ∧ ¬ stopped then (s.count .control 0x5040 2).alarm .control 0x5040 2 1 else s

/-- ENGINE_START (R413): after P2 publishes, once in a cycle. -/
def execEngineStart (t : Nat) (s : State) : Host.Outcome State Fault Refusal :=
  s.live t fun s =>
    if s.isManager ∧ s.ctl.cycling ∧ s.ctl.supervised ∧ ¬ s.ctl.demanded then s.engine else s

/-! ### At the cycle boundary -/

/-- Joystick staleness at T0 (R390). -/
def State.joystick (s : State) : State :=
  let limit := s.obj 0x5001 3 * 1000000
  let stale : Bool := match s.ctl.joyAt with
    | some a => decide (limit < s.ctl.t0 - a)
    | none => decide (limit < s.ctl.t0 - s.ctl.readyAt)
  (s.setBit 0x5000 8 0 stale).alarmIf stale .control 0x5000 8 1

/-- The set-point, the reference model and the estimate in the tangent plane of a new origin (R392). -/
def State.reorigin (s : State) : State :=
  let (la, lo) := s.ctl.origin
  let la' := s.obj 0x5010 0x0F
  let lo' := s.obj 0x5010 0x10
  if la = la' ∧ lo = lo' then s
  else
    let move (n e : Rat) : Rat × Rat :=
      let g := Config.untangent n e la lo
      Config.tangent g.1 g.2 la' lo'
    let c := s.ctl
    let r := move c.north.x c.east.x
    let sp := move ((s.obj 0x5010 3 : Rat) / 1000) ((s.obj 0x5010 4 : Rat) / 1000)
    let x := s.est.x
    let p := move (vget x 0) (vget x 1)
    let s := { s with
      ctl := { c with north := { c.north with x := r.1 }, east := { c.east with x := r.2 }, lastSet := none, origin := (la', lo') }
      est := { s.est with
        x := vset (vset x 0 p.1) 1 p.2
        horizons := s.est.horizons.map fun (h : Horizon) =>
          let q := move (vget h.x 0) (vget h.x 1)
          { h with x := vset (vset h.x 0 q.1) 1 q.2 } } }
    s.setObjs [(0x5010, 3, roundHalfEven (sp.1 * 1000)), (0x5010, 4, roundHalfEven (sp.2 * 1000))]

/-- Rows of Table 11-8: first subindex, length, and whether its values are REAL32. -/
def bankRows : List (Nat × Nat × Bool) :=
  [(1, 3, true), (4, 3, true), (7, 3, true), (0x0A, 3, true), (0x0D, 3, false), (0x10, 3, false), (0x13, 1, false),
   (0x14, 1, false), (0x15, 1, false), (0x16, 1, false), (0x17, 1, false), (0x18, 1, false), (0x19, 1, false),
   (0x1A, 1, false), (0x1B, 2, true), (0x1D, 1, false), (0x1E, 1, false), (0x1F, 3, false),
   (0x22, 12, true), (0x2E, 12, true), (0x3A, 12, true), (0x46, 12, true), (0x52, 12, true), (0x5E, 12, true),
   (0x6A, 12, true), (0x76, 12, true), (0x82, 12, true)]

/-- Coefficients of the active bank that round to zero at conversion (R429). -/
def State.lostCoefficients (s : State) : Nat :=
  (bankRows.map fun (sub, n, f) =>
    let v := (List.range n).map fun j => if f then s.real s.bank (sub + j) else (s.obj s.bank (sub + j) : Rat)
    ((v.zip (blockRound v)).filter fun (a, b) => decide (a ≠ 0) && decide (b = 0)).length).foldl (· + ·) 0

/-- A pending bank swap takes place: the other bank is active, integrators are clamped to its limits (R429, R430). -/
def State.swapBanks (s : State) : State :=
  if s.obj 0x5038 3 ≠ 1 then s
  else
    let s := s.setObjs [(0x5038, 1, 1 - s.obj 0x5038 1), (0x5038, 3, 0)]
    let s := (s.count .control 0x5038 4).countBy .control 0x5040 6 (s.lostCoefficients)
    let lim := s.rowN 0x0D 3
    let clampI (l : List Rat) : List Rat := (List.range 3).map fun i => clampRat (-(vget lim i)) (vget lim i) (vget l i)
    { s with ctl := { s.ctl with integ := clampI s.ctl.integ, oldInteg := clampI s.ctl.oldInteg } }

/-- Copy every subindex of one object to another of the same layout. -/
def State.copyObject (s : State) (from' to' : Nat) (subs : Nat) : State :=
  (List.range subs).foldl (fun (s : State) k => s.setObj to' (k + 1) (s.obj from' (k + 1))) s

/-- Geometry slot `g` copied to slot `h` with its tables (R459, R463). -/
def State.copySlot (s : State) (g h : Nat) : State :=
  ((s.copyObject (0x5140 + g) (0x5140 + h) 0x18).setBlob (0x5200 + h) 0 (s.blob (0x5200 + g) 0)).setBlob
    (0x5220 + h) 0 (s.blob (0x5220 + g) 0)

/-- The active bank copied into the inactive bank, geometry included in mode 00h (R428, R459). -/
def State.copyBanks (s : State) : State :=
  let a := s.nat 0x5038 1
  let b := 1 - a
  let s := s.copyObject (0x5030 + a) (0x5030 + b) 0x8D
  if s.obj 0x5130 1 = 0 then (List.range 16).foldl (fun (s : State) t => s.copySlot (16 * a + t) (16 * b + t)) s else s

/-- Mode in force, target track and set-points as MRAM keeps them (R100). -/
def State.modeToKeep (s : State) : KeptMode :=
  { mode := s.mode, track := s.nat 0x5010 8, setPoints := ((List.range 9).map fun j => s.obj 0x5010 (3 + j)) ++ [s.obj 0x5010 0x0F, s.obj 0x5010 0x10] }

/-- The mode in force and its set-points go to MRAM at a boundary at which any of them has changed (R100). -/
def State.saveMode (s : State) : State :=
  if s.mram.mode = some s.modeToKeep then s else { s with mram := { s.mram with mode := some s.modeToKeep } }

/-! ### Settings -/

/-- Indexes of the coefficient banks and of the geometry that a write may concern: the bank it lies in (R424, R459). -/
def State.bankOf (s : State) (i : Nat) : Option Nat :=
  if i = 0x5030 then some 0 else if i = 0x5031 then some 1
  else if s.latest 0x5130 1 = 0 then
    if 0x5140 ≤ i ∧ i ≤ 0x515F then some ((i - 0x5140) / 16)
    else if 0x5200 ≤ i ∧ i ≤ 0x521F then some ((i - 0x5200) / 16)
    else if 0x5220 ≤ i ∧ i ≤ 0x523F then some ((i - 0x5220) / 16)
    else none
  else none

/-- Whether a swap is pending, in force or held (R425, R426). -/
def State.swapPending (s : State) : Bool :=
  decide (s.obj 0x5038 3 = 1) || decide (heldNum s.held (okey 0x5038 2) = some 1)

/-- Period in µs of a control rate code. -/
def tcMicros (code : Int) : Int :=
  match code with
  | 1 => 50000
  | 2 => 40000
  | 3 => 20000
  | 4 => 10000
  | _ => 100000

/-- Aborts of a write to the objects of this chapter beyond its range column (R376, R420 to R426). -/
def State.modesWriteAbort (s : State) (i sub : Nat) (v : Val) : Option Nat :=
  if ¬ s.isManager ∧ 0x5000 ≤ i ∧ i ≤ 0x523F then some 0x06090030
  else
    match s.bankOf i with
    | some b =>
      if (b : Int) = s.obj 0x5038 1 ∨ s.swapPending then some 0x08000022 else none
    | none =>
      match v with
      | .bytes _ => none
      | .num n =>
        if i = 0x5038 ∧ sub = 2 then
          if n ≠ 1 ∧ n ≠ 2 then some 0x06090030 else if s.swapPending then some 0x08000022 else none
        else if i = 0x5001 ∧ sub = 1 then
          if tcMicros n < 2 * s.latest 0x5001 2 then some 0x06040043
          else if s.mode ≠ 1 ∧ s.mode ≠ 7 then some 0x08000022 else none
        else if i = 0x5001 ∧ sub = 2 then
          if n < 800 ∨ 50000 < n ∨ n % 100 ≠ 0 then some 0x06090030
          else if tcMicros (s.latest 0x5001 1) < 2 * n then some 0x06040043 else none
        else none

/-- What follows a write of this chapter at its boundary (R390, R429). -/
def State.modesApplied (s : State) (i sub : Nat) (stamp : Nat) (new : Int) : State :=
  if i = 0x5010 ∧ 0x0C ≤ sub ∧ sub ≤ 0x0E then { s with ctl := { s.ctl with joyAt := some (match s.ctl.joyAt with
      | some a => max a (stamp : Int)
      | none => (stamp : Int)) } }
  else if i = 0x5038 ∧ sub = 2 then
    let s := s.setObj 0x5038 2 0
    if new = 1 then s.setObj 0x5038 3 1 else s
  else s

end Sys2Proof.Machine
end

