-- ==== Sys2Proof/Machine/Ring.lean ====
section
/-! DEFINITION. The Wymal manager–worker rings (chapter 14): frames, slots, transit, time, wraps, grants and ownership. -/

namespace Sys2Proof.Machine

open Sys2Proof

/-! ### Places -/

/-- Slot number of this module (R512). -/
def State.ownSlot (s : State) : Nat :=
  let tw := if s.ident.twin = .a then 0 else 1
  if s.isManager then 64 + tw else 2 * s.ident.node + tw

/-- Serial number 1018h:04. -/
def State.serial (s : State) : Nat := s.nat 0x1018 4

/-- A ring port. -/
def State.ringPort (s : State) (p : Nat) : RingPort := nth {} s.ring.ports p

/-- A ring port changed. -/
def State.modRingPort (s : State) (p : Nat) (f : RingPort → RingPort) : State :=
  { s with ring := { s.ring with ports := modifyNth f s.ring.ports p } }

/-- The port's live status bits follow it (8110h:01). -/
def State.showPort (s : State) (p : Nat) : State :=
  let q := s.ringPort p
  (((s.setBit (0x8110 + p) 1 0 q.los).setBit (0x8110 + p) 1 1 (!q.down)).setBit (0x8110 + p) 1 2 (!q.down)).setBit
    (0x8110 + p) 1 3 q.wrapped

/-- Whether this module originates ring traffic (R514). -/
def State.originates (s : State) : Bool := s.isManager && decide (s.role = .active) && s.power.portsOn

/-- Output phase Φ in ns. -/
def State.phiNs (s : State) : Int := s.obj 0x5001 2 * 1000

/-- Ports that a packet received on `port` leaves by: the other one; where the node has wrapped at that one, its own transmitter, with the
same stream still out of the down port (R514, R531). -/
def State.leaves (s : State) (port : Nat) : List Nat :=
  if (s.ringPort (1 - port)).wrapped then [port, 1 - port] else [1 - port]

/-- Bytes leave a port: they are counted; the header CRC of a feedback packet is inverted by an injection (Table 22-2, 05h). -/
def State.sendRing (s : State) (b : List Byte) (port : Nat) : State :=
  let s := s.setObj (0x8110 + port) 7 ((s.obj (0x8110 + port) 7 + b.length) % 18446744073709551616)
  if field b 0 1 = 0xA3 ∧ nth false s.diagn.wyCrc port then
    (s.tell (.ringForward port (put b 12 (leBytes 4 (4294967295 - field b 12 4))))).spoilCrc 5 port
  else s.tell (.ringForward port b)

/-- A packet has arrived on a port: its bytes, failed CRCs and complemented ones are counted, and an intact one keeps the link up
(R531, R539). -/
def State.heardPort (s : State) (p bytes failed complemented : Nat) : State :=
  let s := s.setObj (0x8110 + p) 6 ((s.obj (0x8110 + p) 6 + bytes) % 18446744073709551616)
  let s := (s.countBy .management (0x8110 + p) 3 failed).countBy .management (0x8110 + p) 4 complemented
  if failed = 0 ∧ complemented = 0 then s.modRingPort p fun q => { q with lastPacket := some s.now } else s

/-- Entries of the latest command frame that Capstan produced, built or not (R517). -/
def State.latestEntries (s : State) : List CmdEntry := (s.ring.built.map (·.1)).getD s.ring.entries

/-- The command frame of the running cycle is built, from 710 µs after T0 (Table 1-9). -/
def State.buildFrame (s : State) (at' : Int) : State :=
  match s.ring.built with
  | some (e, from') => if from' ≤ at' then { s with ring := { s.ring with entries := e, built := none } } else s
  | none => s

/-- Units that this node asks for: its queued messages in units of 64 bytes (Table 14-5). -/
def State.asyncDemand (s : State) : Nat := min 65535 ((s.ring.queue.map fun q => (q.2.length + 63) / 64).foldl (· + ·) 0)

/-! ### Grants (R534, R535) -/

/-- Budget U of a frame of length `l` ns with `r` bytes of command repeat. -/
def grantBudget (l : Int) (r : Nat) : Nat := ((125 * (l / 1000 - 46) - 2112 - r) / 64).toNat

/-- First pass: one unit to each slot of the order that asks, while any is left. -/
def grantOnes (req : List Nat) : List Nat → List Nat → Nat → List Nat × Nat
  | [], g, left => (g, left)
  | i :: rest, g, left =>
    if 0 < req.getD i 0 ∧ 0 < left then grantOnes req rest (modifyNth (fun _ => 1) g i) (left - 1) else grantOnes req rest g left

/-- Share in proportion to need. -/
def grantShares (req : List Nat) (share need : Nat) : List Nat → List Nat → Nat → List Nat × Nat
  | [], g, left => (g, left)
  | i :: rest, g, left =>
    let x := share * (req.getD i 0 - g.getD i 0) / need
    grantShares req share need rest (modifyNth (· + x) g i) (left - x)

/-- Last pass: one more unit in order while any is left. -/
def grantRest (req : List Nat) : List Nat → List Nat → Nat → List Nat
  | [], g, _ => g
  | i :: rest, g, left =>
    if 0 < left ∧ g.getD i 0 < req.getD i 0 then grantRest req rest (modifyNth (· + 1) g i) (left - 1) else grantRest req rest g left

/-- Grants of a frame by slot (R535). -/
def grantsOf (demand : List Nat) (p u : Nat) : List Nat :=
  let req := demand.map fun d => min d 512
  let order := (List.range 66).map fun k => (p + k) % 66
  let (g, left) := grantOnes req order (List.replicate 66 0) u
  let need := ((List.range 66).map fun i => req.getD i 0 - g.getD i 0).foldl (· + ·) 0
  if need ≤ left then req
  else
    let (g, left) := grantShares req left need order g left
    grantRest req order g left

/-! ### Ownership (R21, R537) -/

/-- The claimant of a pair number's twin with the lowest order number among those a frame has shown. -/
def lowestClaim (claims : List (Nat × Nat × Nat)) (slot : Nat) : Nat :=
  let mine := claims.filter fun c => decide (c.1 = slot)
  ((mine.find? fun c => mine.all fun d => decide (c.2.2 ≤ d.2.2)).map (·.2.1)).getD 0

/-- At the end of a frame, each pair number without an owner gets one from its claimants, and an owner with one twin takes the other
(log entry 34). -/
def State.settleOwners (s : State) : State :=
  let one (k : Nat) (w : PairOwner) : PairOwner :=
    let a := if w.serialA = 0 then lowestClaim s.ring.claims (2 * k) else w.serialA
    let b := if w.serialB = 0 then lowestClaim s.ring.claims (2 * k + 1) else w.serialB
    if a = w.serialA ∧ b = w.serialB then w else { serialA := a, serialB := b, lastSeen := s.now }
  { s with ring := { s.ring with
    claims := [], owners := (List.range 32).map fun k => one k (nth {} s.ring.owners k) } }

/-! ### Frames -/

/-- What the previous frame showed: slots missing, nodes present, ring state, owners (R533, R537, Table 14-9). -/
def State.judgeFrame (s : State) : State :=
  let frame := s.nat 0x8100 2
  if frame = 0 then s
  else
    let here (k : Nat) : Bool := s.ring.seenNow.contains k
    let recent (k : Nat) : Bool := match nth none s.ring.slots k with
      | some (_, _, at', _) => decide (s.now - at' ≤ 1000000000)
      | none => false
    let missing := (List.range 66).any fun k => recent k && !here k && decide (k ≠ s.ownSlot)
    let wrapped := (List.range 66).any fun k => here k && match nth none s.ring.slots k with
      | some (q, _, _, _) => q.wrapE || q.wrapW
      | none => false
    let wrapped := wrapped || (s.ringPort 0).wrapped || (s.ringPort 1).wrapped
    let st : Nat := if missing then 3 else if wrapped then 2 else 1
    let s := (List.range 66).foldl (fun (s : State) k =>
      if here k then s
      else
        let s := if recent k ∨ s.obj (0x8120 + k) 1 ≠ 0 then s.count .control (0x8120 + k) 5 else s
        if recent k then s else s.setObj (0x8120 + k) 1 0) s
    let s := s.setObjs [(0x8100, 1, (st : Nat)), (0x8100, 5, (s.ring.seenNow.length + 1 : Nat))]
    let s := (s.setBit 0x8100 0x0E 1 wrapped).setBit 0x8100 0x0E 2 missing
    let s := { s with ring := { s.ring with seenNow := [] } }.settleOwners
    (s.alarmIf (wrapped || missing) .control 0x8100 1 1).recheckTests

/-- The command section of a frame of this originator (R517, R518). -/
def State.commandSection (s : State) (frame cycle : Nat) : CmdSection :=
  { rate := s.nat 0x5001 1, cycle := cycle, mode := s.nat 0x5000 1, twin := s.ident.twin, frame := frame, entries := s.ring.entries }

/-- The grants of a frame as its sync packet lists them: in order from the pointer, each container right behind the one before. -/
def grantList (g : List Nat) (p : Nat) : List (Nat × Nat × Nat) :=
  let order := ((List.range 66).map fun k => (p + k) % 66).filter fun k => decide (0 < g.getD k 0)
  (order.foldl (fun (acc : List (Nat × Nat × Nat) × Nat) k =>
    (acc.1 ++ [(k, g.getD k 0, acc.2)], acc.2 + 20 + 64 * g.getD k 0)) ([], 0)).1

/-- The sync packet of a frame that starts at `f`, copy of ring 1 or 2 (Table 14-4, R133, R527, R791). -/
def State.syncPacket (s : State) (ring2 : Bool) (frame : Nat) (f : Int) (g : List (Nat × Nat × Nat)) : SyncPacket :=
  let (amount, sec) : Int × Nat := match s.clock.step with
    | some { amountNs := a, atSec := some sec } => (a, sec)
    | _ => (0, 0)
  { ring2 := ring2, ringState := s.nat 0x8100 1, frame := frame, start := f.toNat * 65536, d1 := s.nat 0x8100 3, d2 := s.nat 0x8100 4
    stepNs := amount, stepSec := sec, timeState := s.clock.state.code, estErr := s.estErrObj.toNat
    owners := s.ring.owners.map fun w => (w.serialA, w.serialB), grants := g }

/-- A container of `units` that this node fills from its queue, or an empty one where it has nothing to send (R536). -/
def State.nextContainer (s : State) (slot units : Nat) : Container × State :=
  match s.ring.queue with
  | [] => ({ slot := slot, units := units, filled := false, dest := 0, kind := 0, seqNo := 0, payload := [] }, s)
  | (d, b) :: rest =>
    let left := b.drop (64 * units)
    ({ slot := slot, units := units, filled := true, dest := d, kind := 1, seqNo := s.ring.sourceSeq, payload := b.take (64 * units) },
      { s with ring := { s.ring with
        queue := if left = [] then rest else (d, left) :: rest, sourceSeq := (s.ring.sourceSeq + 1) % 65536 } })

/-- The containers of a frame as they leave the originator, its own filled (R535, R536). -/
def State.frameContainers (s : State) (g : List (Nat × Nat × Nat)) : List Container × State :=
  g.foldl (fun (acc : List Container × State) e =>
    if e.1 = acc.2.ownSlot then
      let (c, s') := acc.2.nextContainer e.1 e.2.1
      (acc.1 ++ [c], s')
    else (acc.1 ++ [{ slot := e.1, units := e.2.1, filled := false, dest := 0, kind := 0, seqNo := 0, payload := [] }], acc.2)) ([], s)

/-- RING_FRAME_START (R514 to R519, R527, R528, R530, R534 to R537): the next frame of the grid begins on both rings. -/
def execRingFrameStart (t : Nat) (s : State) : Host.Outcome State Fault Refusal :=
  s.live t fun s =>
    if ¬ (s.originates ∧ s.ctl.cycling) then s
    else
      let f := s.ring.nextStart.getD (s.ctl.t0 + s.phiNs)
      if (s.mt : Int) < f then s
      else
        let s := (s.judgeFrame).buildFrame f
        let first := decide (f = s.ctl.t0 + s.phiNs)
        let cyc := if first then (s.ring.cycleNo + 1) % 65536 else s.ring.cycleNo
        let next := f + 1000000
        let (next, re) := match s.ring.rephase with
          | some g => if g ≤ f then (next, none) else if next ≤ g - 600000 then (next, some g) else (g, some g)
          | none => (next, none)
        let demand := (List.range 66).map fun k =>
          if k = s.ownSlot then s.asyncDemand
          else if (nth none s.ring.slots k).any fun q => decide (q.2.2.2 = s.nat 0x8100 2) then s.nat (0x8120 + k) 6 else 0
        let g := grantsOf demand s.ring.pointer (grantBudget (next - f) 0)
        let list := grantList g s.ring.pointer
        let frame := (s.nat 0x8100 2 + 1) % 4294967296
        let s := { s with ring := { s.ring with
          start := f, nextStart := some next, rephase := re, cycleNo := cyc, pointer := (s.ring.pointer + 1) % 66, grants := g } }
        let s := (List.range 66).foldl (fun (s : State) k =>
          if g.getD k 0 = 0 then s
          else s.setObj (0x8120 + k) 7 ((s.obj (0x8120 + k) 7 + 64 * g.getD k 0) % 18446744073709551616)) s
        let s := s.setObjs [(0x8100, 2, frame), (0x8100, 6, s.ownSlot)]
        let (boxes, s) := s.frameContainers list
        let copies (ring2 : Bool) (port : Nat) (s : State) : State :=
          ((s.commandSection frame cyc).bytes :: (s.syncPacket ring2 frame f list).bytes :: blankFeedback frame
            :: boxes.map Container.bytes).foldl (fun (s : State) b => s.sendRing b port) s
        copies true 1 (copies false 0 s)

/-- The feedback record of a local thruster as the slot carries it (R489, Table 14-5). -/
def State.fbRecord (s : State) (j : Nat) : FbRecord :=
  if s.isManager then {}
  else
    let o := 0x6080 + j
    { state := s.nat o 1, flags := s.nat o 2, angle := s.obj o 5, y := s.obj o 9, thrust := s.obj o 0x0A }

/-- This node's slot as it fills it (R489, Table 14-5); `hop` is the counter it has read. -/
def State.ownFilled (s : State) (hop : Nat) : SlotIn :=
  { slot := s.ownSlot, hop := hop, role := s.role.code, wrapE := (s.ringPort 0).wrapped, wrapW := (s.ringPort 1).wrapped
    following := decide (s.clock.state = .following), serial := s.serial, demand := s.asyncDemand
    lastCycle := if s.isManager then 0 else s.nat 0x6001 2, rec0 := s.fbRecord 0, rec1 := s.fbRecord 1 }

/-- A slot of a feedback packet as it passes (R519, R520): this node's slot filled when it is blank or holds its own serial number. -/
def State.fillSlot (s : State) (b : List Byte) (hop : Nat) : List Byte :=
  let q := slotBytes b s.ownSlot
  let mayFill := decide (field q 0 1 = 0) || decide (field q 4 4 = s.serial)
  if mayFill ∧ s.ring.isOwner ≠ some false then
    put b (16 + 48 * s.ownSlot) (s.ownFilled hop).bytes
  else b

/-- A packet as this node passes it on: failed CRCs complemented (R539), the feedback packet's hop counter, duplicate bit and own slot
(R519, R520, R538); with it the failed and the complemented CRCs. -/
def State.passBytes (s : State) (b : List Byte) : List Byte × Nat × Nat :=
  let n (c : Bool) : Nat := if c then 1 else 0
  match field b 0 1 with
  | 0xA1 =>
    let (b', bad, was) := passCrc b 0 400
    (b', n bad, n was)
  | 0xA2 =>
    let (b', bad, was) := passCrc b 0 (b.length - 4)
    (b', n bad, n was)
  | 0xA3 =>
    let want := crc32c (feedbackCovered b)
    let bad := decide (field b 12 4 ≠ want) && decide (field b 12 4 ≠ 4294967295 - want)
    let was := decide (field b 12 4 = 4294967295 - want)
    let b' := if bad then put b 12 (leBytes 4 (4294967295 - want)) else b
    let (b', fails, wases) := (List.range 66).foldl (fun (acc : List Byte × Nat × Nat) k =>
      if field acc.1 (16 + 48 * k) 1 = 0 then acc
      else
        let (x, f, w) := passCrc acc.1 (16 + 48 * k) 44
        (x, acc.2.1 + n f, acc.2.2 + n w)) (b', n bad, n was)
    let hop := field b' 1 1
    let b' := put b' 1 [BitVec.ofNat 8 (hop + 1)]
    let b' := if s.ring.isOwner = some false then put b' 2 [BitVec.ofNat 8 (field b' 2 1 ||| 1)] else b'
    (if bad || was then b' else s.fillSlot b' hop, fails, wases)
  | _ =>
    let (b', bad, was) := passCrc b 0 (b.length - 4)
    (b', n bad, n was)

/-- Whether this node takes a packet off the ring: the originator forwards nothing, and a twin that has stopped originating removes what
carries its own code for 100 µs (R514, R579). -/
def State.removes (s : State) (b : List Byte) (twin : Twin) : Bool :=
  let code := if field b 0 1 = 0xA1 then Twin.ofCode (field b 5 1) else twin
  s.originates || (s.isManager && decide (code = s.ident.twin)
    && s.pair.stopOriginatedAt.any fun f => decide (s.now < f + 100000))

/-- A packet passes from one port to the other (R511, R514, R531, R539). -/
def State.passPacket (s : State) (port : Nat) (b : List Byte) (twin : Twin) : State :=
  let (b', failed, was) := s.passBytes b
  let s := s.heardPort port b.length failed was
  if s.removes b twin then s else (s.leaves port).foldl (fun (s : State) p => s.sendRing b' p) s

/-- RING_PACKET_FORWARD (R511, R514, R539): a packet passes from one port to the other; `twin` is the code of the frame it belongs to,
for a packet that names none itself. -/
def execRingPacketForward (t port : Nat) (pkt : List Byte) (twin : Twin) (s : State) : Host.Outcome State Fault Refusal :=
  s.ported t fun s => if 2 ≤ port ∨ s.underTest (2 + port) then s else s.passPacket port pkt twin

/-- Time of a command section on the line with its delimiters, in ns (the worked example of chapter 14). -/
def commandNs : Nat := 3256

/-- COMMAND_SECTION_RX (R36, R486, R522, R524, R532): a command section has arrived on a port, `subPs` before this command; an intact one
is taken and its start stamped, the first of its frame at that port. Bytes and CRC are counted as the packet passes. -/
def execCommandSectionRx (t port : Nat) (pkt : List Byte) (subPs : Nat) (s : State) : Host.Outcome State Fault Refusal :=
  s.ported t fun s =>
    match readCommand pkt with
    | none => s
    | some sec =>
      if 2 ≤ port ∨ s.originates ∨ s.underTest (2 + port) then s
      else
        let stamp : Int := s.mtPs - subPs - commandNs * 1000
        let s := s.modRingPort port fun q =>
          { q with
            lastPacket := some s.now
            intactRun := match q.lastFrame with
              | some f => if f = sec.frame then q.intactRun else if (f + 1) % 4294967296 = sec.frame then q.intactRun + 1 else 1
              | none => 1
            stamp := match q.stamp with
              | some (f, a) => if f = sec.frame then some (f, a) else some (sec.frame, stamp)
              | none => some (sec.frame, stamp)
            lastFrame := some sec.frame }
        let newFrame : Bool := match s.ring.command with
          | some c => decide (c.frame ≠ sec.frame)
          | none => true
        let advanced : Bool := match s.ring.command with
          | some c => decide (c.cycle ≠ sec.cycle)
          | none => true
        let s := s.setObj 0x8100 2 sec.frame
        { s with ring := { s.ring with
          command := some sec, commandAt := s.now
          start := if newFrame then stamp / 1000 else s.ring.start
          advancedAt := if advanced then s.now else s.ring.advancedAt
          partnerGap := if newFrame then s.ring.partnerGap + 1 else s.ring.partnerGap } }

/-- COMMAND_SECTION_RETURN (R523): the running frame's command section has returned on a ring, `subPs` before this command, and gives the
loop time; none, 500 µs after the frame start, when the copy has not returned. -/
def execCommandSectionReturn (t ringNo : Nat) (pkt : Option (List Byte)) (subPs : Nat) (s : State) :
    Host.Outcome State Fault Refusal :=
  s.ported t fun s =>
    let since : Int := s.mtPs - subPs - s.ring.start * 1000
    let loop : Option Int := match pkt with
      | some b => match readCommand b with
        | some c => if c.frame = s.nat 0x8100 2 ∧ c.twin = s.ident.twin ∧ since ≤ 500000000 then some (since - commandNs * 1000) else none
        | none => none
      | none => if 500000000 ≤ since then some 0xFFFFFFFF else none
    match loop with
    | none => s
    | some d =>
      if ¬ s.originates ∨ 2 ≤ ringNo then s
      else
        let s := s.setObj 0x8100 (3 + ringNo) (clampInt 0 (if pkt.isSome then 0xFFFFFFFE else 0xFFFFFFFF) d)
        let long (k : Nat) : Bool := decide (s.nat 0x8100 (3 + k) ≠ 0xFFFFFFFF) && decide (36700000 < s.nat 0x8100 (3 + k))
        (s.setBit 0x8100 0x0E 0 (long 0 || long 1)).alarmIf (long 0 || long 1) .control 0x8100 0x0E 1

/-! ### Time over the rings -/

/-- Module time moved by `ps` picoseconds. -/
def State.shiftPs (s : State) (ps : Int) : State :=
  let u : Int := (s.clock.units : Int) + ps * (unitsPerNs : Int) / 1000
  { s with clock := { s.clock with units := (u % (unitsModulus : Int)).toNat } }

/-- A follower takes its leader's time at an offset `eps` of its own (R122, R129, R157, R159, R526): while unset it is set; in holdover,
or where it is 500 ns or more off, it comes to the leader's time by one announced step at a pulse; a smaller offset is steered out
as it follows (the manual gives the replica channel no loop and no limit: log entry 12). -/
def State.follow (s : State) (eps : Int) : State :=
  let s := s.setObj 0x2100 0x11 (clampInt (-2147483648) 2147483647 eps)
  let plan (s : State) : State :=
    if s.clock.step.isSome then s
    else { s with clock := { s.clock with step := some { amountNs := - roundHalfEven ((eps : Rat) / 1000), atSec := none } } }
  match s.clock.state with
  | .holdover => plan s
  | .unset =>
    let s := s.stepGrids (-eps * (unitsPerNs : Int) / 1000)
    { s.beFollower with clock := { s.beFollower.clock with pulsesFrom := s.mt / 1000000000 + 1 } }
  | _ => if 500000 ≤ eps.natAbs then plan s.beFollower else (s.shiftPs (-eps)).beFollower

/-- Offset of this node from the frame start by R524 (closed ring) or R525 (wrapped), from the stamps of this frame's copies at the ports
where they arrive on a closed ring (R66), with the path delays it stores. -/
def State.ringOffset (s : State) (pkt : SyncPacket) : Option Int × Option (Int × Int) :=
  let at' (port : Nat) : Option Int := match (s.ringPort port).stamp with
    | some (f, a) => if f = pkt.frame then some a else none
    | none => none
  let start : Int := pkt.start * 1000 / 65536
  if pkt.ringState = 1 then
    match at' 1, at' 0 with
    | some x, some y =>
      if pkt.d1 = 0xFFFFFFFF ∨ pkt.d2 = 0xFFFFFFFF then (none, none)
      else
        let sum : Int := ((pkt.d1 : Int) + pkt.d2) / 2 - Config.passThroughPs
        let x1 := (sum + x - y) / 2
        (some ((x + y - sum) / 2 - start), some (x1, sum - x1))
    | _, _ => (none, none)
  else
    let stored (k : Nat) : Option Int := if s.obj 0x8100 (8 + k) = 0xFFFFFFFF then none else some (s.obj 0x8100 (8 + k))
    match at' 1, stored 0, at' 0, stored 1 with
    | some a, some d, _, _ => (some (a - start - d), none)
    | _, _, some a, some d => (some (a - start - d), none)
    | _, _, _, _ => (none, none)

/-- What the owner table says of this worker: owner, not owner, or a number nobody owns yet (R537, R538). -/
def State.ownership (s : State) (pkt : SyncPacket) : Option Bool :=
  let own := pkt.owners.getD s.ident.node (0, 0)
  let mine := if s.ident.twin = .a then own.1 else own.2
  if s.isManager then some true else if mine = 0 then none else some (decide (mine = s.serial))

/-- SYNC_PACKET_RX (R133, R524 to R527, R538, R791): a sync packet has arrived; an intact one is taken. -/
def execSyncPacketRx (t port : Nat) (pkt : List Byte) (s : State) : Host.Outcome State Fault Refusal :=
  s.ported t fun s =>
    match readSync pkt with
    | none => s
    | some pkt =>
      if 2 ≤ port ∨ s.originates ∨ s.underTest (2 + port) then s
      else
        let s := s.modRingPort port fun q => { q with lastPacket := some s.now, lastSync := some s.now }
        let entry := pkt.owners.getD s.ident.node (0, 0)
        let owner := s.ownership pkt
        let s := { s with ring := { s.ring with
            isOwner := owner, twinSerial := if s.ident.twin = Twin.a then entry.2 else entry.1 } }.setObjs
          [(0x8100, 1, (pkt.ringState : Nat)), (0x8100, 0x0A, match owner with | some true => 0 | some false => 1 | none => 2),
            (0x8100, 6, s.ownSlot)]
        let s := s.recheckTests
        let (eps, paths) := s.ringOffset pkt
        let s := match paths with
          | some (x1, x2) => s.setObjs [(0x8100, 8, clampInt 0 0xFFFFFFFE x1), (0x8100, 9, clampInt 0 0xFFFFFFFE x2)]
          | none => s
        if s.followsTwin ∨ (s.isManager ∧ s.linkUp) then s
        else
          let s := { s with clock := { s.clock with leaderErr := if pkt.estErr = 0xFFFFFFFF then none else some pkt.estErr } }
          let s := if pkt.stepNs = 0 then s
            else { s with clock := { s.clock with step := some { amountNs := pkt.stepNs, atSec := some pkt.stepSec } } }
          match eps with
          | some e => if pkt.timeState = 0 then s else s.follow e
          | none => s

/-- RING_TIME_LOSS (R159, R526): no intact sync packet on either port for 10 ms. -/
def execRingTimeLoss (t : Nat) (s : State) : Host.Outcome State Fault Refusal :=
  s.live t fun s =>
    let silent (p : Nat) : Bool := match (s.ringPort p).lastSync with
      | some l => decide (10000000 ≤ s.now - l)
      | none => true
    if s.clock.state = .following ∧ silent 0 ∧ silent 1 ∧ ¬ s.followsTwin ∧ ¬ (s.isManager ∧ s.linkUp) then s.enterHoldover else s

/-! ### Feedback -/

/-- FEEDBACK_PACKET_PASS (R489, R513, R519 to R521): the feedback packet passes; the slot of this node's twin in it shows whether that is
present on the rings. -/
def execFeedbackPacketPass (t port : Nat) (pkt : List Byte) (twin : Twin) (s : State) : Host.Outcome State Fault Refusal :=
  s.ported t fun s =>
    if 2 ≤ port ∨ s.originates ∨ s.underTest (2 + port) ∨ field pkt 0 1 ≠ 0xA3 then s
    else
      let mate := if s.ownSlot % 2 = 0 then s.ownSlot + 1 else s.ownSlot - 1
      let there : Bool := match readSlot pkt mate with
        | some q => feedbackIntact pkt && (s.isManager || decide (s.ring.twinSerial = 0) || decide (q.serial = s.ring.twinSerial))
        | none => false
      let s := if there then { s with ring := { s.ring with partnerGap := 0 } } else s
      s.passPacket port pkt twin

/-- One returned slot enters the node table, and a node of a number without an owner claims it (R513, R537, Table 14-9). `order` gives the
order number of a hop count on this copy's ring. -/
def State.takeSlot (ringNo : Nat) (order : Nat → Nat) (s : State) (q : SlotIn) : State :=
  if 66 ≤ q.slot then s
  else
    let k := q.slot
    let o := 0x8120 + k
    let s := { s with ring := { s.ring with
      slots := modifyNth (fun _ => some (q, (s.mt : Int), s.now, s.nat 0x8100 2)) s.ring.slots k
      seenNow := if s.ring.seenNow.contains k then s.ring.seenNow else k :: s.ring.seenNow } }
    let s := s.setObjs [(o, 2, q.serial), (o, 4, q.role), (o, 6, q.demand)]
    let s := if ringNo = 0 then s.setObj o 3 (order q.hop : Nat) else s
    if 64 ≤ k then s.setObj o 1 1
    else
      let own : PairOwner := nth {} s.ring.owners (k / 2)
      let entry := if k % 2 = 0 then own.serialA else own.serialB
      if entry = 0 then
        { s with ring := { s.ring with claims := (k, q.serial, order q.hop) :: s.ring.claims } }.setObj o 1 2
      else if entry = q.serial then
        { s with ring := { s.ring with
          owners := modifyNth (fun w => { w with lastSeen := s.now }) s.ring.owners (k / 2) } }.setObj o 1 1
      else s.setObj o 1 2

/-- FEEDBACK_PACKET_RETURN (R21, R513, R533, R537, R538): a copy of the feedback packet returns to the originator. -/
def execFeedbackPacketReturn (t ringNo : Nat) (pkt : List Byte) (s : State) : Host.Outcome State Fault Refusal :=
  s.ported t fun s =>
    if ¬ s.originates ∨ 2 ≤ ringNo ∨ field pkt 0 1 ≠ 0xA3 then s
    else
      let (_, failed, was) := s.passBytes pkt
      let s := s.heardPort (1 - ringNo) pkt.length failed was
      if ¬ feedbackIntact pkt then s
      else
        let slots := (List.range 66).filterMap (readSlot pkt)
        let nodes := field pkt 1 1 + 1
        let place (hop : Nat) : Nat := if ringNo = 0 then hop + 1 else nodes - 1 - hop
        let placeA := if s.ident.twin = .a then 0 else match slots.find? fun q => decide (q.slot = 64) with
          | some q => place q.hop
          | none => 0
        let order (hop : Nat) : Nat := (place hop + nodes - placeA) % nodes
        let s := slots.foldl (State.takeSlot ringNo order) s
        let own := (nodes - placeA) % nodes
        let s := if ringNo = 0 then s.setObjs [(0x8120 + s.ownSlot, 3, (own : Nat)), (0x8100, 7, (own : Nat))] else s
        let s := s.setObjs [(0x8120 + s.ownSlot, 1, 1), (0x8120 + s.ownSlot, 2, s.serial), (0x8120 + s.ownSlot, 4, s.role.code)]
        let duplicate := fieldBit pkt 2 0
        let s := if duplicate ∧ ¬ s.ring.duplicate then s.count .control 0x8100 0x0D else s
        let s := ({ s with ring := { s.ring with duplicate := duplicate } }.setBit 0x8100 0x0E 3 duplicate)
        s.alarmIf duplicate .control 0x8100 0x0D 1

/-- OWNER_EXPIRY (R537): neither owning twin's slot has returned intact for 1.0 s. -/
def execOwnerExpiry (t pair : Nat) (s : State) : Host.Outcome State Fault Refusal :=
  s.live t fun s =>
    if ¬ s.originates ∨ 32 ≤ pair then s
    else
      let w : PairOwner := nth {} s.ring.owners pair
      if (w.serialA ≠ 0 ∨ w.serialB ≠ 0) ∧ w.lastSeen + 1000000000 ≤ s.now then
        { s with ring := { s.ring with owners := modifyNth (fun _ => {}) s.ring.owners pair } }
      else s

/-- The snapshot's feedback of a pair (R521): the slot of the twin that reports ACTIVE; else the other twin's while the one
that was ACTIVE has no slot in the window. -/
def State.pairFeedback (s : State) (k : Nat) (t0 : Int) : Option (Nat × SlotIn) :=
  let fresh (tw : Nat) : Option SlotIn := match nth none s.ring.slots (2 * k + tw) with
    | some (q, at', _, _) => if at' < t0 ∧ t0 - at' ≤ 2000000 then some q else none
    | none => none
  let act (tw : Nat) : Option (Nat × SlotIn) := match fresh tw with
    | some q => if q.role = 3 then some (tw, q) else none
    | none => none
  match act 0, act 1 with
  | some a, _ => some a
  | none, some b => some b
  | none, none =>
    match nth none s.ring.lastActive k with
    | some tw =>
      if (fresh tw).isNone then (fresh (1 - tw)).map fun q => (1 - tw, q) else none
    | none => none

/-- Worker feedback taken into the snapshot of T0 (R43, R521). -/
def State.takeFeedback (s : State) (t0 : Int) : State :=
  let rows := (List.range 32).map fun k => s.pairFeedback k t0
  let fb := rows.flatMap fun r =>
    match r with
    | some (_, q) => [some q.rec0, some q.rec1]
    | none => [none, none]
  let lastActive := (rows.zip s.ring.lastActive).map fun (r, old) =>
    match r with
    | some (tw, q) => if q.role = 3 then some tw else old
    | none => old
  { s with ring := { s.ring with snapFb := fb, lastActive := lastActive } }

/-! ### Wraps and containers -/

/-- The link of a port goes down and the node wraps (R531). -/
def State.portFalls (s : State) (port : Nat) (los : Bool) : State :=
  let s := s.modRingPort port fun q => { q with down := true, wrapped := true, los := los, intactRun := 0, lastFrame := none }
  ((s.count .management (0x8110 + port) 5).count .management 0x8100 0x0B).showPort port

/-- RING_LINK_DOWN (R531): LOS has been high for 10 µs (`heldNs`), code-group synchronisation is lost, or no intact packet has come for
2.0 ms: the node wraps at the port. -/
def execRingLinkDown (t port : Nat) (cause : LinkCause) (heldNs : Nat) (s : State) : Host.Outcome State Fault Refusal :=
  s.ported t fun s =>
    if 2 ≤ port ∨ (s.ringPort port).down then s
    else
      let quiet : Bool := match (s.ringPort port).lastPacket with
        | some l => decide (2000000 ≤ s.now - l)
        | none => decide (s.power.origin + 37000000 ≤ s.now)
      if (cause = .silence ∧ ¬ quiet) ∨ (cause = .los ∧ heldNs < 10000) then s
      else
        (s.portFalls port (decide (cause = .los))).recheckTests

/-- Whether the ring frame in progress is in its guard, its last 8.0 µs (R532). -/
def State.inGuard (s : State) : Bool :=
  match s.originates, s.ring.nextStart with
  | true, some n => decide (n - 8000 ≤ (s.mt : Int)) && decide ((s.mt : Int) < n)
  | _, _ => decide (992000 ≤ ((s.mt : Int) - s.ring.start) % 1000000)

/-- RING_UNWRAP (R532): after an intact command section in each of 100 consecutive frames, in the guard of a frame. -/
def execRingUnwrap (t port : Nat) (s : State) : Host.Outcome State Fault Refusal :=
  s.ported t fun s =>
    let q := s.ringPort port
    if 2 ≤ port ∨ ¬ q.wrapped ∨ q.intactRun < 100 ∨ s.underTest (2 + port) ∨ ¬ s.inGuard then s
    else (s.modRingPort port fun q => { q with wrapped := false, down := false, los := false }).showPort port

/-- A container as this node passes it: its own grant filled, with the same content on every copy of a frame (R536). -/
def State.fillContainer (s : State) (c : Container) : Container × State :=
  match s.ring.filledNow with
  | some (f, d) =>
    if f = s.nat 0x8100 2 then (d, s)
    else
      let (d, s) := s.nextContainer c.slot c.units
      (d, { s with ring := { s.ring with filledNow := some (s.nat 0x8100 2, d) } })
  | none =>
    let (d, s) := s.nextContainer c.slot c.units
    (d, { s with ring := { s.ring with filledNow := some (s.nat 0x8100 2, d) } })

/-- A destination reads an intact container once per frame: an OD message, or a discard counted (R536). -/
def State.readOnce (s : State) (port : Nat) (c : Container) : State :=
  let seen := if s.ring.readNow.1 = s.nat 0x8100 2 then s.ring.readNow.2 else []
  if seen.contains c.slot then s
  else
    let s := { s with ring := { s.ring with readNow := (s.nat 0x8100 2, c.slot :: seen) } }
    if c.kind = 1 then s.tell (.containerRead c.slot c.payload) else s.count .management (0x8110 + port) 8

/-- CONTAINER_PASS (R536, R539): a node fills the container granted to it, and reads an intact one addressed to it. -/
def execContainerPass (t port : Nat) (pkt : List Byte) (twin : Twin) (s : State) : Host.Outcome State Fault Refusal :=
  s.ported t fun s =>
    if 2 ≤ port ∨ s.underTest (2 + port) ∨ field pkt 0 1 ≠ 0xA4 then s
    else match readContainer pkt with
      | none => s.passPacket port pkt twin
      | some c =>
        let mine := decide (c.filled = true) && (decide (c.dest = s.ownSlot) || decide (c.dest = 0xFF)) && decide (c.slot ≠ s.ownSlot)
        let s := if mine then s.readOnce port c else s
        if c.slot = s.ownSlot ∧ ¬ c.filled ∧ ¬ s.originates then
          let (d, s) := s.fillContainer c
          let s := s.heardPort port pkt.length 0 0
          (s.leaves port).foldl (fun (s : State) p => s.sendRing d.bytes p) s
        else s.passPacket port pkt twin

end Sys2Proof.Machine
end

