-- ==== Sys2Proof/Machine/Capstan.lean ====
section
/-! DEFINITION. Capstan thrust allocation (chapter 12): membership, the sets of one cycle, the fixed solve, power buses,
commands, and the geometry settings. -/

namespace Sys2Proof.Machine

open Sys2Proof

/-! ### Geometry -/

/-- Geometry slot of a thruster in force (R459, R460). -/
def State.geoSlot (s : State) (t : Nat) : Nat := if s.obj 0x5130 1 = 0 then 16 * s.nat 0x5038 1 + t else t

/-- Entry of a table of 256 16-bit entries; an unwritten table holds its default throughout. -/
def tableEntry (b : List Byte) (dflt k : Nat) : Rat :=
  match b with
  | [] => (dflt : Rat)
  | _ => (leNat ((b.drop (2 * (k % 256))).take 2) : Rat)

/-- A table at an azimuth in degrees (R438). -/
def tableAt (b : List Byte) (dflt : Nat) (az : Rat) : Rat :=
  let g := wrapPos 360 az * 256 / 360
  let k := g.floor.toNat
  let f := g - g.floor
  tableEntry b dflt k * (1 - f) + tableEntry b dflt (k + 1) * f

/-- Maximum thrust in kN at an azimuth. -/
def State.tmax (s : State) (slot : Nat) (az : Rat) : Rat := tableAt (s.blob (0x5200 + slot) 0) 0 az / 10

/-- Loss factor η at an azimuth. -/
def State.loss (s : State) (slot : Nat) (az : Rat) : Rat := tableAt (s.blob (0x5220 + slot) 0) 1000 az / 1000

/-- Largest value of a thruster's maximum-thrust table, and of η Tmax over its points, kN. -/
def State.tmaxMost (s : State) (slot : Nat) (withLoss : Bool) : Rat :=
  let b := s.blob (0x5200 + slot) 0
  let h := s.blob (0x5220 + slot) 0
  (List.range 256).foldl (fun m k =>
    maxRat m (tableEntry b 0 k / 10 * (if withLoss then tableEntry h 1000 k / 1000 else 1))) 0

/-- Forbidden sectors in use: start and end in degrees (R439). -/
def State.sectors (s : State) (slot : Nat) : List (Rat × Rat) :=
  (List.range 4).filterMap fun n =>
    let a := s.obj (0x5140 + slot) (0x11 + 2 * n)
    let b := s.obj (0x5140 + slot) (0x12 + 2 * n)
    if a = b then none else some ((a : Rat) / 100, (b : Rat) / 100)

/-- Strictly inside a sector. -/
def inSector (az : Rat) (q : Rat × Rat) : Bool :=
  decide (0 < wrapPos 360 (az - q.1)) && decide (wrapPos 360 (az - q.1) < wrapPos 360 (q.2 - q.1))

/-- How far a turn from `az` goes in a sense before it enters a sector, none past a full turn (R440). -/
def clearTurn (sectors : List (Rat × Rat)) (clockwise : Bool) (az : Rat) : Rat :=
  sectors.foldl (fun m q => minRat m (if clockwise then wrapPos 360 (q.1 - az) else wrapPos 360 (az - q.2))) 360

/-- Unit vector of an azimuth in degrees. -/
def unitAt (az : Rat) : Rat × Rat := (Config.cos (rad az), Config.sin (rad az))

/-! ### Units of the problem -/

/-- A thruster as the solve sees it: force variables (Fx, Fy), (delivered force along β) or (t, l). -/
structure ThrustUnit where
  num : Nat
  slot : Nat
  ty : Nat
  bus : Nat
  pos : Rat × Rat
  beta : Rat
  /-- Previous produced thrust in kN and azimuth or rudder angle in degrees (R437), and whether it entered this cycle. -/
  prevT : Rat
  prevA : Rat
  entered : Bool
  w : Rat
  /-- Body force (X, Y, N) of one unit of each variable. -/
  col1 : List Rat
  col2 : List Rat
  /-- Coefficients of the squares of the variables in J. -/
  cost1 : Rat
  cost2 : Rat
  pts : List (Rat × Rat) := []
  /-- P̂ as constant and coefficients of the variables' produced thrust. -/
  pow0 : Rat := 0
  powK : Rat := 0
  arcMid : Rat := 0
  arcHalf : Rat := 0
  rLo : Rat := 0
  rHi : Rat := 0
  lo : Rat := 0
  hi : Rat := 0
  etaP : Rat := 1
  etaN : Rat := 1
  flags : Nat := 0
  holdAz : Option Rat := none
  fmax : Rat := 0
  deriving DecidableEq, Repr

/-- Body force of a force at a position (R435). -/
def bodyOf (pos f : Rat × Rat) : List Rat := [f.1, f.2, pos.1 * f.2 - pos.2 * f.1]

/-- Whether thruster `t` is allocated in this cycle, and its state otherwise (R436, 5100h:02). -/
def State.membership (s : State) (t : Nat) : Nat :=
  let ty := if s.obj 0x5130 1 = 0 ∧ 16 ≤ t then 0 else s.nat (0x5140 + s.geoSlot t) 1
  if ty = 0 then 0
  else if s.obj (0x5100 + t) 1 ≠ 1 then 1
  else if s.mode = 1 ∨ s.mode = 7 then 2
  else match nth none s.ring.snapFb t with
    | some r => if r.flags % 2 = 1 then 3 else 2
    | none => 2

/-- An allocated thruster with its previous output and its cost, before its set is formed. -/
def State.unitOf (s : State) (t : Nat) : ThrustUnit :=
  let g := s.geoSlot t
  let o := 0x5140 + g
  let ty := s.nat o 1
  let kept := decide (s.alc.types.getD t 0 = ty)
  let fb : FbRecord := (nth none s.ring.snapFb t).getD {}
  let thrust := if kept then s.obj (0x5100 + t) 3 else fb.thrust
  let angle := if kept then s.obj (0x5100 + t) 4 else fb.angle
  let beta : Rat := (s.obj o 4 : Rat) / 100
  let pos : Rat × Rat := ((s.obj o 2 : Rat) / 1000, (s.obj o 3 : Rat) / 1000)
  let tr : Rat := (s.obj o 8 : Rat) / 10
  let w : Rat := qdiv (s.obj o 7 : Rat) (tr * tr)
  let pT : Rat := (thrust : Rat) / 10
  let pA : Rat := (angle : Rat) / 100
  let etaP := s.loss g beta
  let etaN := s.loss g (beta + 180)
  let eta := if ty = 1 then s.loss g pA else if ty = 2 then (if 0 ≤ pT then etaP else etaN) else 1
  let c := qdiv w (eta * eta)
  let e := unitAt beta
  { num := t, slot := g, ty := ty, bus := s.nat o 0x0A, pos := pos, beta := beta, prevT := pT, prevA := pA, entered := !kept
    w := w
    col1 := if ty = 1 then bodyOf pos (1, 0) else bodyOf pos e
    col2 := if ty = 1 then bodyOf pos (0, 1) else if ty = 3 then bodyOf pos (unitAt (beta + 90)) else [0, 0, 0]
    cost1 := if ty = 3 then w else c
    cost2 := if ty = 3 then w / 100 else if ty = 1 then c else w
    etaP := etaP, etaN := etaN
    fmax := if ty = 1 then s.tmaxMost g true
      else if ty = 2 then maxRat (etaP * (s.obj o 5 : Rat) / 10) (etaN * (s.obj o 6 : Rat) / 10)
      else maxRat (hypot ((s.obj o 5 : Rat) / 10)
          ((s.obj o 0x0F : Rat) / 1000 * ((s.obj o 0x10 : Rat) / 10) * ((s.obj o 5 : Rat) / 10))) ((s.obj o 6 : Rat) / 10) }

/-- Force variables as a force on the hull (Table 12-1). -/
def ThrustUnit.force (u : ThrustUnit) (z : Rat × Rat) : Rat × Rat :=
  if u.ty = 1 then z
  else
    let e := unitAt u.beta
    let f := unitAt (u.beta + 90)
    if u.ty = 3 then (z.1 * e.1 + z.2 * f.1, z.1 * e.2 + z.2 * f.2) else (z.1 * e.1, z.1 * e.2)

/-- Sum of the body forces of an allocation. -/
def totalForce (us : List ThrustUnit) (z : List (Rat × Rat)) : List Rat :=
  (us.zip z).foldl (fun acc (u, v) => vadd acc (vadd (vscale v.1 u.col1) (vscale v.2 u.col2))) [0, 0, 0]

/-! ### Closed form -/

/-- Determinant of a 3 × 3 matrix by rows. -/
def det3 (a b c : List Rat) : Rat :=
  vget a 0 * (vget b 1 * vget c 2 - vget b 2 * vget c 1) - vget a 1 * (vget b 0 * vget c 2 - vget b 2 * vget c 0)
    + vget a 2 * (vget b 0 * vget c 1 - vget b 1 * vget c 0)

/-- Solution of a 3 × 3 system by Cramer's rule. -/
def solve3 (m : List (List Rat)) (r : List Rat) : List Rat :=
  let row (i : Nat) : List Rat := m.getD i []
  let d := det3 (row 0) (row 1) (row 2)
  let with' (j : Nat) : Rat := qdiv (det3 (vset (row 0) j (vget r 0)) (vset (row 1) j (vget r 1)) (vset (row 2) j (vget r 2))) d
  [with' 0, with' 1, with' 2]

/-- The minimiser of J without limits plus (ρ/2) Σ |v - y|² (R440 with ρ = 0, R453): `qs` are q_j / L_j². -/
def closedForm (us : List ThrustUnit) (demand qs : List Rat) (rho : Rat) (y : List (Rat × Rat)) : List (Rat × Rat) :=
  let cols := (us.zip y).flatMap fun (u, v) =>
    [(u.col1, 2 * u.cost1 + rho, rho * v.1), (u.col2, 2 * u.cost2 + rho, rho * v.2)]
  let rhs := cols.foldl (fun acc (c, d, k) => vsub acc (vscale (qdiv k d) c)) demand
  let m := matOf 3 3 fun i j =>
    (cols.foldl (fun (acc : Rat) (c, d, _) => acc + qdiv (vget c i * vget c j) d) 0) * (2 * vget qs j) + (if i = j then 1 else 0)
  let sl := solve3 m rhs
  let qsl := (List.range 3).map fun j => 2 * vget qs j * vget sl j
  (us.zip y).map fun (u, v) =>
    b64Pair (qdiv (rho * v.1 + dot u.col1 qsl) (2 * u.cost1 + rho), qdiv (rho * v.2 + dot u.col2 qsl) (2 * u.cost2 + rho))

/-! ### Sets of one cycle -/

/-- Power at a produced thrust (R445). -/
def State.powerAt (s : State) (slot : Nat) (thrust : Rat) : Rat :=
  let o := 0x5140 + slot
  let r := qdiv (ratAbs thrust) ((s.obj o 8 : Rat) / 10)
  (s.obj o 9 : Rat) + (s.obj o 7 : Rat) * (r * Config.sqrt r)

/-- The unit with the secant of P over a range of produced thrust (R445). -/
def State.withPower (s : State) (u : ThrustUnit) (a b : Rat) : ThrustUnit :=
  let pa := s.powerAt u.slot a
  let k := if a = b then 0 else (s.powerAt u.slot b - pa) / (b - a)
  { u with pow0 := pa - k * a, powK := k }

/-- The arc of an azimuth unit for a turn limit in degrees: clear turn anticlockwise and clockwise of α_p (R440). -/
def arcOf (sectors : List (Rat × Rat)) (prev turn : Rat) (pref : Option Rat) : Rat × Rat :=
  let cw := clearTurn sectors true prev
  let ccw := clearTurn sectors false prev
  let both := (minRat turn ccw, minRat turn cw)
  match pref with
  | none => both
  | some a =>
    let d := wrapPos 360 (a - prev)
    let shorter := decide (d ≤ 180)
    let len (c : Bool) : Rat := if c then d else wrapPos 360 (prev - a)
    let crosses (c : Bool) : Bool := if c then decide (cw < len true) else decide (ccw < len false)
    let sense := if crosses shorter then !shorter else shorter
    if len sense ≤ turn ∧ ¬ crosses sense then both
    else if sense then (0, minRat turn cw) else (minRat turn ccw, 0)

/-- Corners of an azimuth unit's set (R441, R442). -/
def State.azimuthSet (s : State) (u : ThrustUnit) (turn up down : Rat) (pref : Option Rat) : ThrustUnit :=
  let sec := s.sectors u.slot
  if sec.any (inSector u.prevA) then
    let r := s.loss u.slot u.prevA * maxRat 0 (u.prevT - down)
    let e := unitAt u.prevA
    let near (q : Rat × Rat) : Rat :=
      let back := wrapPos 360 (u.prevA - q.1)
      let ahead := wrapPos 360 (q.2 - u.prevA)
      if ahead ≤ back then u.prevA + minRat turn ahead else u.prevA - minRat turn back
    let az := if r = 0 then match sec.find? (inSector u.prevA) with
      | some q => wrapPos 360 (near q)
      | none => u.prevA else u.prevA
    let T := maxRat 0 (u.prevT - down)
    { s.withPower u T T with
      pts := [(r * e.1, r * e.2)], flags := u.flags + 16, holdAz := some az, arcMid := u.prevA, rLo := r, rHi := r }
  else
    let (l, r) := arcOf sec u.prevA turn pref
    let a1 := u.prevA - l
    let a2 := u.prevA + r
    let mid := (a1 + a2) / 2
    let half := (a2 - a1) / 2
    let step : Rat := 360 / 256
    let k0 := (a1 / step).ceil
    let inside := (List.range ((a2 / step).floor - k0 + 1).toNat).map fun (j : Nat) => ((k0 + j : Int) : Rat) * step
    let limit (a : Rat) : Rat := s.loss u.slot a * minRat (s.tmax u.slot a) (u.prevT + up)
    let rHi := (a2 :: inside).foldl (fun m a => minRat m (limit a)) (limit a1)
    let wish := s.loss u.slot mid * maxRat 0 (u.prevT - down)
    let rLo := minRat rHi wish
    let e1 := unitAt a1
    let e2 := unitAt a2
    let eta := s.loss u.slot mid
    let at' (q : Rat) (e : Rat × Rat) : Rat × Rat := (q * e.1, q * e.2)
    let u := s.withPower u (qdiv rLo eta) (qdiv rHi eta)
    { u with
      pts := if rLo = 0 then [(0, 0), at' rHi e1, at' rHi e2] else [at' rLo e1, at' rHi e1, at' rHi e2, at' rLo e2]
      cost1 := qdiv u.w (eta * eta), cost2 := qdiv u.w (eta * eta)
      flags := u.flags + (if rHi < wish then 2 else 0), arcMid := mid, arcHalf := half, rLo := rLo, rHi := rHi, etaP := eta }

/-- Range of a signed thrust between limits, and whether it was forced to a limit (R443, R444). -/
def thrustRange (lowest highest prev up down : Rat) : Rat × Rat × Bool :=
  let lo := maxRat lowest (prev - down)
  let hi := minRat highest (prev + up)
  if hi < lo then
    let q := if ratAbs (highest - prev) ≤ ratAbs (lowest - prev) then highest else lowest
    (q, q, true)
  else (lo, hi, false)

/-- Delivered force of a tunnel unit at a signed produced thrust. -/
def ThrustUnit.deliver (u : ThrustUnit) (q : Rat) : Rat := if 0 ≤ q then u.etaP * q else u.etaN * q

/-- A unit whose corners are binary64 numbers (R433). -/
def ThrustUnit.rounded (u : ThrustUnit) : ThrustUnit := { u with pts := u.pts.map b64Pair }

/-- The set of a unit for this cycle (R440 to R444), the secant of its power, and its flags. -/
def State.setOf (s : State) (tc : Rat) (demand : List Rat) (u : ThrustUnit) (lsq : Rat × Rat) : ThrustUnit :=
  let o := 0x5140 + u.slot
  let back := s.alc.reduced.getD u.bus false || s.alc.past.getD u.bus false
  let u := { u with flags := (if back then 32 else 0) + (if u.entered then 128 else 0) }
  let up := (s.obj o 0x0C : Rat) / 10 * tc
  let down := (s.obj o (if back then 0x0E else 0x0D) : Rat) / 10 * tc
  let turn := (s.obj o 0x0B : Rat) / 100 * tc
  let pos : Rat := (s.obj o 5 : Rat) / 10
  let neg : Rat := (s.obj o 6 : Rat) / 10
  match u.ty with
  | 1 =>
    let f := hypot lsq.1 lsq.2
    let pref := if f = 0 ∨ f < s.tmaxMost u.slot false / 100 then none else some (deg (Config.atan2 lsq.2 lsq.1))
    s.azimuthSet u turn up down pref
  | 2 =>
    let (lo, hi, cut) := thrustRange (-neg) pos u.prevT up down
    let u := s.withPower u lo hi
    { u with pts := [(u.deliver lo, 0), (u.deliver hi, 0)], lo := lo, hi := hi, flags := u.flags + (if cut then 2 else 0) }
  | _ =>
    let e := unitAt u.beta
    let ahead := decide (0 < u.prevT) || (decide (u.prevT = 0) && decide (0 ≤ vget demand 0 * e.1 + vget demand 1 * e.2))
    let kl : Rat := (s.obj o 0x0F : Rat) / 1000
    let dmax : Rat := (s.obj o 0x10 : Rat) / 10
    let d1 := maxRat (-dmax) (u.prevA - turn)
    let d2 := minRat dmax (u.prevA + turn)
    let (lo, hi, cut) := if ahead then thrustRange 0 pos u.prevT up down else thrustRange (-neg) 0 u.prevT up down
    let u := s.withPower u lo hi
    { u with
      pts := if ahead then [(lo, kl * d1 * lo), (hi, kl * d1 * hi), (hi, kl * d2 * hi), (lo, kl * d2 * lo)] else [(lo, 0), (hi, 0)]
      lo := lo, hi := hi, flags := u.flags + (if cut then 2 else 0) + (if ahead then 0 else 64) }

/-! ### Projection, power, trim -/

/-- Nearest point of a segment. -/
def nearestOn (p a b : Rat × Rat) : Rat × Rat :=
  let dx := b.1 - a.1
  let dy := b.2 - a.2
  let n := dx * dx + dy * dy
  if n = 0 then a
  else
    let k := clampRat 0 1 (((p.1 - a.1) * dx + (p.2 - a.2) * dy) / n)
    (a.1 + k * dx, a.2 + k * dy)

/-- Squared distance. -/
def dist2 (p q : Rat × Rat) : Rat := (p.1 - q.1) * (p.1 - q.1) + (p.2 - q.2) * (p.2 - q.2)

/-- Edges of a closed chain of corners. -/
def edgesOf (pts : List (Rat × Rat)) : List ((Rat × Rat) × (Rat × Rat)) :=
  match pts with
  | [] => []
  | a :: rest => (a :: rest).zip (rest ++ [a])

/-- Projection onto the convex set with the given corners (R453). -/
def projectOn (pts : List (Rat × Rat)) (p : Rat × Rat) : Rat × Rat :=
  let es := edgesOf pts
  let side (e : (Rat × Rat) × (Rat × Rat)) : Rat :=
    (e.2.1 - e.1.1) * (p.2 - e.1.2) - (e.2.2 - e.1.2) * (p.1 - e.1.1)
  if 3 ≤ pts.length ∧ (es.all (fun e => decide (0 < side e)) ∨ es.all fun e => decide (side e < 0)) then p
  else
    match es with
    | [] => (0, 0)
    | e :: rest => rest.foldl (fun best f => if dist2 p (nearestOn p f.1 f.2) < dist2 p best then nearestOn p f.1 f.2 else best)
        (nearestOn p e.1 e.2)

/-- Thrust as the linear power estimate takes it (R445). -/
def ThrustUnit.estThrust (u : ThrustUnit) (z : Rat × Rat) : Rat :=
  match u.ty with
  | 1 =>
    if u.holdAz.isSome then 0
    else
      let e := unitAt u.arcMid
      qdiv (e.1 * z.1 + e.2 * z.2) (u.etaP * Config.cos (rad u.arcHalf))
  | 2 => if z.1 = 0 then 0 else if 0 < z.1 then qdiv z.1 u.etaP else qdiv z.1 u.etaN
  | _ => z.1

/-- P̂ of a unit. -/
def ThrustUnit.estPower (u : ThrustUnit) (z : Rat × Rat) : Rat := u.pow0 + u.powK * u.estThrust z

/-- Value of an interval nearest zero. -/
def nearestZero (lo hi : Rat) : Rat := if 0 < lo then lo else if hi < 0 then hi else 0

/-- Least-power point of a unit's set for an allocation (R452). -/
def ThrustUnit.leastPoint (u : ThrustUnit) (z : Rat × Rat) : Rat × Rat :=
  match u.ty with
  | 1 =>
    if u.holdAz.isSome then z
    else if u.rLo = 0 then (0, 0)
    else
      let e := unitAt u.arcMid
      let d := u.rLo * Config.cos (rad u.arcHalf)
      if z = (0, 0) then (d * e.1, d * e.2)
      else
        let k := qdiv d (e.1 * z.1 + e.2 * z.2)
        (k * z.1, k * z.2)
  | 2 => (u.deliver (nearestZero u.lo u.hi), 0)
  | _ =>
    let t := nearestZero u.lo u.hi
    (t, if z.1 = 0 then 0 else z.2 * t / z.1)

/-- Sum over the units of a bus. -/
def busSum (b : Nat) (us : List ThrustUnit) (z : List (Rat × Rat)) (f : ThrustUnit → Rat × Rat → Rat) : Rat :=
  (us.zip z).foldl (fun acc (u, v) => if u.bus = b then acc + f u v else acc) 0

/-- Trim of one bus to its limit (R452). -/
def trimBus (b : Nat) (limit : Rat) (us : List ThrustUnit) (z : List (Rat × Rat)) : List (Rat × Rat) :=
  let full := busSum b us z ThrustUnit.estPower
  if full ≤ limit then z
  else
    let least := busSum b us z fun u v => u.estPower (u.leastPoint v)
    let k := if limit ≤ least then 0 else (limit - least) / (full - least)
    (us.zip z).map fun (u, v) =>
      if u.bus ≠ b then v
      else
        let m := u.leastPoint v
        (m.1 + k * (v.1 - m.1), m.2 + k * (v.2 - m.2))

/-- Trim of every enabled bus. -/
def trimAll (limits : List (Nat × Rat)) (us : List ThrustUnit) (z : List (Rat × Rat)) : List (Rat × Rat) :=
  (limits.foldl (fun z (b, l) => trimBus b l us z) z).map b64Pair

/-- The buses that a trim of an allocation cuts: those whose estimate exceeds their limit (R452). -/
def bindingBuses (limits : List (Nat × Rat)) (us : List ThrustUnit) (z : List (Rat × Rat)) : List Nat :=
  (limits.filter fun (b, l) => decide (l < busSum b us z ThrustUnit.estPower)).map fun p => p.1

/-! ### The solve -/

/-- Produced thrust that J takes of a unit (R450). -/
def ThrustUnit.costAt (u : ThrustUnit) (z : Rat × Rat) : Rat :=
  if u.ty = 2 then u.w * (u.estThrust z * u.estThrust z) else u.cost1 * (z.1 * z.1) + u.cost2 * (z.2 * z.2)

/-- J of an allocation. -/
def objective (us : List ThrustUnit) (demand qs : List Rat) (z : List (Rat × Rat)) : Rat :=
  let sl := vsub demand (totalForce us z)
  b64 ((us.zip z).foldl (fun acc (u, v) => acc + u.costAt v) 0
    + sumRat ((List.range 3).map fun j => vget qs j * (vget sl j * vget sl j)))

/-- Where the iterations stand. -/
structure SolveRun where
  z : List (Rat × Rat)
  u : List (Rat × Rat)
  best : Rat
  bestK : Nat
  bestZ : List (Rat × Rat)
  /-- The buses that the trim of `z`, and of the best candidate, cut. -/
  cut : List Nat
  bestCut : List Nat
  conv : Option Nat := none
  primal : Rat := 0
  dual : Rat := 0
  deriving DecidableEq, Repr

/-- Largest relative distance of two allocations (R454). -/
def residual (us : List ThrustUnit) (a b : List (Rat × Rat)) : Rat :=
  (us.zip (a.zip b)).foldl (fun m (u, p, q) => maxRat m (b64 (qdiv (hypot (p.1 - q.1) (p.2 - q.2)) u.fmax))) 0

/-- Iterations k, k+1, … of Phase B; nothing changes once converged (R453, R454). -/
def iterate (us : List ThrustUnit) (demand qs : List Rat) (rho tol : Rat) (limits : List (Nat × Rat)) :
    Nat → Nat → SolveRun → SolveRun
  | 0, _, r => r
  | n + 1, k, r =>
    if r.conv.isSome then r
    else
      let y := (r.z.zip r.u).map fun (a, b) => b64Pair (a.1 - b.1, a.2 - b.2)
      let x := closedForm us demand qs rho y
      let xu := (x.zip r.u).map fun (a, b) => b64Pair (a.1 + b.1, a.2 + b.2)
      let onto := (us.zip xu).map fun (u, p) => b64Pair (projectOn u.pts p)
      let z := trimAll limits us onto
      let cut := bindingBuses limits us onto
      let u := (xu.zip z).map fun (a, b) => b64Pair (a.1 - b.1, a.2 - b.2)
      let p := residual us x z
      let d := residual us z r.z
      let j := objective us demand qs z
      let better := decide (j < r.best)
      iterate us demand qs rho tol limits n (k + 1)
        { z := z, u := u, best := if better then j else r.best, bestK := if better then k else r.bestK
          bestZ := if better then z else r.bestZ, cut := cut, bestCut := if better then cut else r.bestCut, primal := p, dual := d
          conv := if p ≤ tol ∧ d ≤ tol then some k else none }

/-- Axis of each rank (Table 12-2): X 0, Y 1, N 2. -/
def slackOrder (code : Nat) : List Nat :=
  match code with
  | 1 => [2, 0, 1]
  | 2 => [1, 2, 0]
  | 3 => [1, 0, 2]
  | 4 => [0, 2, 1]
  | 5 => [0, 1, 2]
  | _ => [2, 1, 0]

/-- q_j / L_j² of the axes (R450, R451). -/
def State.slackWeights (s : State) : List Rat :=
  let order := slackOrder (s.nat 0x5130 2)
  (List.range 3).map fun j =>
    let l : Rat := (s.obj s.bank (0x10 + j) : Rat)
    qdiv (s.real 0x5130 (3 + order.idxOf j)) (l * l)

/-- Effective limits of the enabled buses (R446). -/
def State.busLimits (s : State) : List (Nat × Rat) :=
  (List.range 8).filterMap fun b =>
    if s.obj (0x5120 + b) 1 = 1 then some (b, (s.obj (0x5120 + b) 4 : Rat)) else none

/-! ### Commands -/

/-- The command of a unit: produced thrust in kN, angle in degrees (R457). -/
def State.commandOf (s : State) (u : ThrustUnit) (z : Rat × Rat) : Rat × Rat :=
  match u.ty with
  | 1 =>
    let m := hypot z.1 z.2
    let az := match u.holdAz with
      | some a => a
      | none => if m < 1 / 10 then u.prevA else wrapPos 360 (deg (Config.atan2 z.2 z.1))
    (if m = 0 then 0 else qdiv m (s.loss u.slot az), az)
  | 2 => (u.estThrust z, 0)
  | _ => (z.1, if z.1 ≤ 0 then u.prevA else qdiv z.2 ((s.obj (0x5140 + u.slot) 0x0F : Rat) / 1000 * z.1))

/-- Live flags of an allocated thruster (5100h:08) from its rounded command (log entry 32). -/
def State.unitFlags (s : State) (tc : Rat) (u : ThrustUnit) (thrust angle : Int) : Nat :=
  let o := 0x5140 + u.slot
  let r10 (q : Rat) : Int := roundHalfEven (q * 10)
  let top : Rat := if u.ty = 1 then s.tmax u.slot ((angle : Rat) / 100) else if 0 ≤ thrust then (s.obj o 5 : Rat) / 10 else (s.obj o 6 : Rat) / 10
  let atMax := decide (r10 top ≤ thrust.natAbs)
  let back := u.flags / 32 % 2 = 1
  let up := (s.obj o 0x0C : Rat) / 10 * tc
  let down := (s.obj o (if back then 0x0E else 0x0D) : Rat) / 10 * tc
  let limited := u.flags / 2 % 2 = 1 || (!atMax && decide (thrust ≠ 0) &&
    (decide (r10 (u.prevT + up) ≤ thrust) || decide (thrust ≤ r10 (u.prevT - down))))
  let turn := roundHalfEven ((s.obj o 0x0B : Rat) * tc)
  let moved : Int := if u.ty = 1 then roundHalfEven (wrapTurn 360 ((angle : Rat) / 100 - u.prevA) * 100) else angle - roundHalfEven (u.prevA * 100)
  let turning := decide (u.ty ≠ 2) && decide (turn ≤ moved.natAbs)
  let edge := decide (u.ty = 1) && (s.sectors u.slot).any fun q => decide (roundHalfEven (q.1 * 100) = angle) || decide (roundHalfEven (q.2 * 100) = angle)
  (if atMax then 1 else 0) + (if limited then 2 else 0) + (if turning then 4 else 0) + (if edge then 8 else 0) + u.flags / 16 * 16

/-- One allocated thruster's objects (Table 12-5). -/
def State.reportUnit (s : State) (tc : Rat) (u : ThrustUnit) (z lsq : Rat × Rat) : State :=
  let o := 0x5100 + u.num
  let (thrust, ang) := s.commandOf u z
  let th := clampInt (-2147483648) 2147483647 (roundHalfEven (thrust * 10))
  let an := roundHalfEven (ang * 100)
  let an := if u.ty = 1 then an % 36000 else an
  let f := u.force z
  let kn (a : Rat) : Int := clampInt (-2147483648) 2147483647 (roundHalfEven (a * 10))
  let pref := if u.ty = 1 then roundHalfEven (wrapPos 360 (deg (Config.atan2 lsq.2 lsq.1)) * 100) % 36000 else 0
  s.setObjs [(o, 3, th), (o, 4, an), (o, 5, kn f.1), (o, 6, kn f.2),
    (o, 7, clampInt 0 0xFFFFFFFF (roundHalfEven (s.powerAt u.slot ((th : Rat) / 10)))),
    (o, 8, s.unitFlags tc u th an), (o, 9, pref)]

/-- Command entries as the frames carry them (R436, R518). -/
def State.commandEntries (s : State) : List CmdEntry :=
  (List.range 32).map fun t =>
    if s.obj (0x5100 + t) 2 = 3 then { allocated := true, thrust := s.obj (0x5100 + t) 3, angle := s.obj (0x5100 + t) 4 } else {}

/-- A bus's objects at the end of the solve (Table 12-8); `cut` are the buses that the trim of the output cut. -/
def State.reportBus (s : State) (us : List ThrustUnit) (z : List (Rat × Rat)) (cut : List Nat) (b : Nat) : State :=
  let o := 0x5120 + b
  let mine := us.filter fun u => decide (u.bus = b)
  let load := mine.foldl (fun (acc : Int) u => acc + s.obj (0x5100 + u.num) 7) 0
  let on := decide (s.obj o 1 = 1)
  let lim : Rat := (s.obj o 4 : Rat)
  let binding := cut.contains b
  let past := on && !mine.isEmpty && decide (lim < busSum b us z fun u v => u.estPower (u.leastPoint v))
  let s := s.setObjs [(o, 5, clampInt 0 0xFFFFFFFF load)]
  let s := (s.setBit o 6 2 binding).setBit o 6 3 past
  let s := { s with alc := { s.alc with past := modifyNth (fun _ => past) s.alc.past b } }
  if past then s.count .control o 8 else s

/-- Capstan's program for the demand of the engine (R432 to R458). -/
def State.allocate (s : State) : State :=
  let tc : Rat := (s.tcNs : Rat) / 1000000000
  let demand := s.ctl.demand
  let qs := s.slackWeights
  let s := (List.range 32).foldl (fun (s : State) t =>
    let m := s.membership t
    let s := s.setObj (0x5100 + t) 2 m
    if m = 3 then s
    else s.setObjs [(0x5100 + t, 5, 0), (0x5100 + t, 6, 0), (0x5100 + t, 7, 0), (0x5100 + t, 8, 0), (0x5100 + t, 9, 0)]) s
  let raw := ((List.range 32).filter fun t => decide (s.obj (0x5100 + t) 2 = 3)).map s.unitOf
  let lsq := closedForm raw demand qs 0 (raw.map fun _ => (0, 0))
  let us := (raw.zip lsq).map fun (u, l) => (s.setOf tc demand u l).rounded
  let limits := s.busLimits
  let prev := us.map fun u =>
    match u.ty with
    | 1 =>
      let e := unitAt u.prevA
      let m := s.loss u.slot u.prevA * u.prevT
      projectOn u.pts (m * e.1, m * e.2)
    | 2 => projectOn u.pts (u.deliver u.prevT, 0)
    | _ => projectOn u.pts (u.prevT, if u.prevT ≤ 0 then 0 else (s.obj (0x5140 + u.slot) 0x0F : Rat) / 1000 * u.prevA * u.prevT)
  let prev := prev.map b64Pair
  let z0 := trimAll limits us prev
  let cut0 := bindingBuses limits us prev
  let r := iterate us demand qs (s.real 0x5130 8) ((s.obj 0x5130 6 : Rat) / 1000000) limits 32 1
    { z := z0, u := us.map fun _ => (0, 0), best := objective us demand qs z0, bestK := 0, bestZ := z0, cut := cut0, bestCut := cut0 }
  let z := if r.conv.isSome then r.z else r.bestZ
  let cut := if r.conv.isSome then r.cut else r.bestCut
  let s := (us.zip (z.zip lsq)).foldl (fun (s : State) (u, v, l) => s.reportUnit tc u v l) s
  let s := (List.range 32).foldl (fun (s : State) t =>
    if s.obj (0x5100 + t) 2 = 3 then s else s.setObjs [(0x5100 + t, 3, 0), (0x5100 + t, 4, 0)]) s
  let s := (List.range 8).foldl (fun (s : State) b => s.reportBus us z cut b) s
  let sl := (vsub demand (totalForce us z)).map b64
  let beyond (j : Nat) : Bool := decide ((s.obj 0x5130 7 : Rat) / 10000 * (s.obj s.bank (0x10 + j) : Rat) < ratAbs (vget sl j))
  let bus (n : Nat) : Bool := (List.range 8).any fun b => s.bit (0x5120 + b) 6 n
  let b2n (b : Bool) (k : Nat) : Int := if b then (k : Nat) else 0
  let failed := r.conv.isNone
  let flags : Int := b2n failed 1 + b2n (beyond 0) 2 + b2n (beyond 1) 4 + b2n (beyond 2) 8 + b2n (bus 2) 16 + b2n (bus 3) 32
    + b2n (us.any fun u => decide (u.flags / 16 % 2 = 1)) 64 + b2n (us.any fun u => decide (u.flags / 32 % 2 = 1)) 128
  let ppm (q : Rat) : Int := clampInt 0 0xFFFFFFFF (roundHalfEven (q * 1000000))
  let i32 (q : Rat) : Int := clampInt (-2147483648) 2147483647 (roundHalfEven q)
  let s := s.setObjs [(0x5131, 1, if us.isEmpty then 2 else if failed then 1 else 0), (0x5131, 2, (r.conv.getD 32 : Nat)),
    (0x5131, 3, match r.conv with | some k => (k : Int) | none => (r.bestK : Int)), (0x5131, 4, ppm r.primal), (0x5131, 5, ppm r.dual),
    (0x5131, 6, i32 (vget sl 0 * 10)), (0x5131, 7, i32 (vget sl 1 * 10)), (0x5131, 8, i32 (vget sl 2)), (0x5131, 9, flags),
    (0x5131, 0x0A, toReal32 (objective us demand qs z)), (0x5131, 0x0D, (us.length : Nat))]
  let s := if failed then s.count .control 0x5131 0x0B else s
  let s := if beyond 0 || beyond 1 || beyond 2 then s.count .control 0x5131 0x0C else s
  { s with
    alc := { s.alc with types := (List.range 32).map fun t => if s.obj (0x5100 + t) 2 = 3 then s.nat (0x5140 + s.geoSlot t) 1 else 0 }
    ring := { s.ring with built := some (s.commandEntries, s.ctl.t0 + 710000) }
    ctl := { s.ctl with allocated := true } }

/-! ### Buses -/

/-- PBTRIP_CHANGE (R60, R61, R447): the filter accepts a level that has held for 1.0 ms. -/
def execPbtripChange (t bus : Nat) (energised : Bool) (heldNs : Nat) (s : State) : Host.Outcome State Fault Refusal :=
  s.live t fun s => if s.isManager ∧ 1000000 ≤ heldNs then { s with alc := { s.alc with level := modifyNth (fun _ => energised) s.alc.level bus } } else s

/-- One bus at a cycle boundary (R446 to R448). -/
def State.busAt (s : State) (b : Nat) : State :=
  let o := 0x5120 + b
  let now' := s.alc.level.getD b true
  let before := s.alc.snap.getD b true
  let still := s.alc.reduced.getD b false && !now' && !(s.alc.wrote.getD b false)
  let trips := decide (s.obj o 1 = 1) && !now' && before && !still
  let red := still || trips
  let s := { s with alc := { s.alc with
    reduced := modifyNth (fun _ => red) s.alc.reduced b, snap := modifyNth (fun _ => now') s.alc.snap b
    wrote := modifyNth (fun _ => false) s.alc.wrote b } }
  let s := s.setObj o 4 (max 0 (s.obj o 2 - if red then s.obj o 3 else 0))
  let s := ((s.setBit o 6 0 (!now')).setBit o 6 1 red)
  if trips then s.count .control o 7 else s

/-- The PBTRIP levels of the snapshot and the reductions they bring or end (R447, R448). -/
def State.busBoundary (s : State) : State := (List.range 8).foldl State.busAt s

/-! ### Settings -/

/-- Aborts of a write of this chapter beyond its range column (R439, R451, R460, R463 and Tables 12-9, 12-11); writes to a
bank of mode 00h are judged with the coefficient banks. -/
def State.capstanWriteAbort (s : State) (i sub : Nat) (v : Val) : Option Nat :=
  let geometry := (decide (0x5140 ≤ i) && decide (i ≤ 0x515F)) || (decide (0x5200 ≤ i) && decide (i ≤ 0x523F))
  let slot := if i ≤ 0x515F then i - 0x5140 else (i - 0x5200) % 32
  let consistency : Option Nat := match v with
    | .num n =>
      if 0x5140 ≤ i ∧ i ≤ 0x515F then
        if 0x11 ≤ sub ∧ sub ≤ 0x18 then
          let other := s.latest i (if sub % 2 = 1 then sub + 1 else sub - 1)
          let width := if sub % 2 = 1 then (other - n) % 36000 else (n - other) % 36000
          if 35000 < width then some 0x06090030 else none
        else if sub = 0x0E ∧ n < s.latest i 0x0D then some 0x06040043
        else if sub = 0x0D ∧ s.latest i 0x0E < n then some 0x06040043
        else none
      else if i = 0x5130 ∧ 3 ≤ sub ∧ sub ≤ 5 then
        let w (k : Nat) : Rat := real32 (if k = sub then n else s.latest 0x5130 k)
        if w 4 < w 3 ∧ w 5 < w 4 then none else some 0x06040043
      else if i = 0x5130 ∧ sub = 1 ∧ n = 0 ∧ s.latest 0x5130 1 = 1
          ∧ (List.range 16).any (fun k => decide (s.latest (0x5150 + k) 1 ≠ 0)) then some 0x06040043
      else none
    | .bytes b =>
      if 0x5220 ≤ i ∧ i ≤ 0x523F ∧ (List.range 256).any (fun k => decide (1000 < tableEntry b 0 k)) then some 0x06090030 else none
  match consistency with
  | some a => some a
  | none =>
    if geometry ∧ s.latest 0x5130 1 = 1 then
      if s.obj (0x5100 + slot) 2 = 0 ∨ s.obj (0x5100 + slot) 2 = 1 then none else some 0x08000022
    else if i = 0x5130 ∧ sub = 1 then
      if (s.mode = 1 ∨ s.mode = 7) ∧ ¬ s.swapPending then none else some 0x08000022
    else none

/-- A geometry slot at its defaults. -/
def State.clearSlot (s : State) (g : Nat) : State :=
  (((List.range 0x18).foldl (fun (s : State) k => s.setObj (0x5140 + g) (k + 1) (odDefault (0x5140 + g) (k + 1))) s).setBlob
    (0x5200 + g) 0 []).setBlob (0x5220 + g) 0 []

/-- What follows a write of this chapter at its boundary (R448, R463). -/
def State.capstanApplied (s : State) (i sub : Nat) (old new : Int) : State :=
  if 0x5120 ≤ i ∧ i ≤ 0x5127 ∧ sub = 2 then
    { s with alc := { s.alc with wrote := modifyNth (fun _ => true) s.alc.wrote (i - 0x5120) } }
  else if i = 0x5130 ∧ sub = 1 ∧ old ≠ new then
    if new = 1 then
      let s := if s.obj 0x5038 1 = 1 then (List.range 16).foldl (fun (s : State) t => s.copySlot (16 + t) t) s else s
      (List.range 16).foldl (fun (s : State) t => s.clearSlot (16 + t)) s
    else (List.range 16).foldl (fun (s : State) t => s.copySlot t (16 + t)) s
  else s

end Sys2Proof.Machine
end

