-- ==== Sys2Proof/Machine/Servo.lean ====
section
/-! DEFINITION. The worker role (chapter 13): encoders, feedback, the two thruster loops, thruster states, DAC frames, and the
settings of the servo. -/

namespace Sys2Proof.Machine

open Sys2Proof

/-! ### Fixed point (R472) -/

/-- A number with 16 fractional bits, rounded half to even. -/
def fx (q : Rat) : Int := roundHalfEven (q * 65536)

/-- The number it stands for. -/
def unfx (v : Int) : Rat := (v : Rat) / 65536

/-- Saturation at 32 bits. -/
def sat32 (v : Int) : Int := clampInt (-2147483648) 2147483647 v

/-- Whether a sum saturates. -/
def saturates (v : Int) : Bool := decide (sat32 v ≠ v)

/-- Product of two such numbers. -/
def mulFx (a b : Int) : Int := roundHalfEven ((a * b : Int) / 65536 : Rat)

/-- An angle in degrees as a fraction of a turn. -/
def turnOf (deg : Rat) : Nat := (roundHalfEven (deg * 4294967296 / 360) % 4294967296).toNat

/-- Signed distance of two angles, wrapped to half a turn. -/
def wrapDiff (a b : Nat) : Int := ((a : Int) - b + 2147483648) % 4294967296 - 2147483648

/-- An angle held from -180° to +180°. -/
def signedTurn (a : Nat) : Int := if a < 2147483648 then (a : Int) else (a : Int) - 4294967296

/-- Distance of two angles as a type takes it (R490): wrapped, or plain for a rudder. -/
def angleDiff (ty a b : Nat) : Int := if ty = 3 then signedTurn a - signedTurn b else wrapDiff a b

/-- An angle moved by a signed amount; a rudder's stays within its half turns. -/
def moveAngle (ty a : Nat) (d : Int) : Nat :=
  if ty = 3 then (clampInt (-2147483648) 2147483647 (signedTurn a + d) % 4294967296).toNat else (((a : Int) + d) % 4294967296).toNat

/-- Degrees with 16 fractional bits of a signed part of a turn. -/
def degFx (d : Int) : Int := roundHalfEven ((d : Rat) * 360 / 65536)

/-- A part of a turn of degrees with 16 fractional bits. -/
def turnFx (v : Int) : Int := roundHalfEven ((v : Rat) * 65536 / 360)

/-- Hundredths of a degree of an angle, signed for a rudder. -/
def centiOf (ty a : Nat) : Int :=
  if ty = 3 then roundHalfEven ((signedTurn a : Rat) * 36000 / 4294967296)
  else roundHalfEven ((a : Rat) * 36000 / 4294967296) % 36000

/-! ### Period, objects, banks -/

/-- A thruster. -/
def State.thr (s : State) (j : Nat) : Thruster := nth {} s.srv.thr j

/-- A thruster changed. -/
def State.modThr (s : State) (j : Nat) (f : Thruster → Thruster) : State :=
  { s with srv := { s.srv with thr := modifyNth f s.srv.thr j } }

/-- State of a thruster (6080h+j:01). -/
def State.thrState (s : State) (j : Nat) : Nat := s.nat (0x6080 + j) 1

/-- Index of the coefficient bank in force of a thruster. -/
def State.servoBank (s : State) (j : Nat) : Nat := 0x6040 + 2 * j + s.nat 0x6048 1

/-- A signed 16-bit entry of a table; an unwritten table has 0 throughout. -/
def tableInt (b : List Byte) (k : Nat) : Int := match b with
  | [] => 0
  | _ => leInt ((b.drop (2 * k)).take 2)

/-- Entry of a thrust map (R488): the default map where none is written. -/
def mapEntry (b : List Byte) (k : Nat) : Int := match b with
  | [] => roundHalfEven (((k : Rat) - 16) * 625 / 10)
  | _ => leInt ((b.drop (2 * k)).take 2)

/-- A table of 4,096 entries in 0.01 %FS at an angle, linear in between (R493). -/
def tableTurn (b : List Byte) (a : Nat) : Int :=
  let k := a / 1048576
  let f : Rat := ((a % 1048576 : Nat) : Rat) / 1048576
  fx (((tableInt b k : Rat) * (1 - f) + (tableInt b ((k + 1) % 4096) : Rat) * f) / 100)

/-- Units of a thrust map entry in one axis unit (6010h+j:09): 0.1 rpm or 0.01 %. -/
def State.axisScale (s : State) (j : Nat) : Rat := if s.obj (0x6010 + j) 9 = 0 then 10 else 100

/-- The thrust map of the active bank. -/
def State.thrustMap (s : State) (j : Nat) : List Byte := s.blob (0x6078 + 2 * j + s.nat 0x6048 1) 0

/-- Set-point for a thrust in 0.1 kN (R488). -/
def State.mapAt (s : State) (j : Nat) (thrust : Int) : Int :=
  let tm : Rat := (s.obj (0x6010 + j) 0x0A : Rat)
  let x := clampRat (-tm) tm (thrust : Rat)
  let p := qdiv (x * 16) tm + 16
  let k := min 31 p.floor.toNat
  let f := p - (k : Rat)
  let b := s.thrustMap j
  fx (((mapEntry b k : Rat) * (1 - f) + (mapEntry b (k + 1) : Rat) * f) / s.axisScale j)

/-- Thrust in 0.1 kN that the map inverted gives at a measured value (R489). -/
def State.mapInverse (s : State) (j : Nat) (y : Int) : Int :=
  let tm : Rat := (s.obj (0x6010 + j) 0x0A : Rat)
  let b := s.thrustMap j
  let v := unfx y * s.axisScale j
  if v ≤ (mapEntry b 0 : Rat) then roundHalfEven (-tm)
  else if (mapEntry b 32 : Rat) ≤ v then roundHalfEven tm
  else
    let k := ((List.range 32).find? fun k => decide (v < (mapEntry b (k + 1) : Rat))).getD 31
    let a : Rat := (mapEntry b k : Rat)
    let c : Rat := (mapEntry b (k + 1) : Rat)
    roundHalfEven (((k : Rat) + (v - a) / (c - a) - 16) / 16 * tm)

/-! ### Encoders (R474 to R477) -/

/-- Servo cycles of an encoder's lead (R474). -/
def leadCycles (n rateKHz : Nat) : Nat := ((n + 1) * 256000 + rateKHz - 1) / rateKHz

/-- Gray code to binary. -/
def grayToBinary : Nat → Nat → Nat
  | 0, v => v
  | k + 1, v => grayToBinary k v ^^^ (v / 2 ^ (k + 1))

/-- The angle a word carries (R475). -/
def State.ssiAngle (s : State) (e word : Nat) : Nat :=
  let o := 0x6020 + e
  let n := s.nat o 2
  let w := word % 2 ^ n
  let v := if s.obj o 4 = 1 then grayToBinary (n - 1) w else w
  let r := s.nat o 5
  (v / 2 ^ s.nat o 6) % 2 ^ r * 2 ^ (32 - r)

/-- An encoder changed. -/
def State.modEnc (s : State) (e : Nat) (f : Encoder → Encoder) : State :=
  { s with srv := { s.srv with enc := modifyNth f s.srv.enc e } }

/-- Whether a sample instant has come whose boundary is not yet worked (R469). -/
def State.sampleDue (s : State) : Bool :=
  let ts : Int := tsNs (s.obj 0x6000 1)
  !s.srv.sampling || decide (s.srv.gridAt < (s.mt : Int) / ts * ts)

/-- Whether an encoder's lead to the next sample instant has come (R469, R474). -/
def State.leadCome (s : State) (e : Nat) : Bool :=
  let ts : Int := tsNs (s.obj 0x6000 1)
  s.sampleDue || decide (((ts - (s.mt : Int) % ts) * 256) ≤ (leadCycles (s.nat (0x6020 + e) 2) (s.nat (0x6020 + e) 3) : Int) * 1000)

/-- One angle of an encoder judged against the one before (R476). -/
def State.encoderAngle (s : State) (e a : Nat) (low : Bool) : State :=
  let o := 0x6020 + e
  let q : Encoder := nth {} s.srv.enc e
  let jump : Bool := match q.last with
    | some l => decide ((s.nat o 7 : Rat) * 4294967296 / 36000 < ((wrapDiff a (((l : Int) + q.change) % 4294967296).toNat).natAbs : Rat))
    | none => false
  if low then (s.modEnc e fun k => { k with reading := none }).count .control o 9
  else if jump then (s.modEnc e fun k => { k with last := some a, change := 0, reading := none }).count .control o 9
  else s.modEnc e fun k =>
    { k with last := some a, reading := some a, change := match q.last with
        | some l => wrapDiff a l
        | none => 0 }

/-- SSI_BURST (R469, R474 to R477): from L_e before the sample instant the active twin reads one word of an enabled encoder, once in a
period. -/
def execSsiBurst (t encoder word : Nat) (lowAtStart : Bool) (s : State) : Host.Outcome State Fault Refusal :=
  s.live t fun s =>
    if s.isManager ∨ 4 ≤ encoder ∨ s.obj (0x6020 + encoder) 1 ≠ 1 ∨ s.role ≠ .active ∨ ¬ s.leadCome encoder
        ∨ (nth {} s.srv.enc encoder).done then s
    else
      let a := s.ssiAngle encoder word
      let s := (s.tell (.encClock encoder (s.nat (0x6020 + encoder) 2 + 1) (s.nat (0x6020 + encoder) 3))).modEnc encoder
        fun k => { k with done := true }
      (s.commitInput (40 + encoder) s.stamp32 (leBytes 4 a ++ [if lowAtStart then 1 else 0])).encoderAngle encoder a lowAtStart

/-! ### Feedback -/

/-- An encoder as the sample instant latched it (R471). -/
def State.latchedEnc (s : State) (e : Nat) : Encoder := nth {} s.srv.latch.enc e

/-- A chain as the sample instant latched it (R471). -/
def State.latchedChain (s : State) (c : Nat) : ChainIn := nth {} s.srv.latch.chains c

/-- Age in ns of a 32-bit stamp at the sample instant. -/
def State.stampAge (s : State) (stamp : Nat) : Int := (s.srv.sampleAt - stamp) % 4294967296

/-- Group delay of a chain in ns, 0 while its clock is not measured. -/
def State.chainDelay (s : State) (c : Nat) : Int := (s.chainView (0x4040 + c) 0x12).getD 0

/-- Whether two chains have the same filter settings (R481). -/
def State.chainsAlike (s : State) (a b : Nat) : Bool :=
  (List.range 6).all fun k => decide (s.obj (0x4040 + a) (3 + k) = s.obj (0x4040 + b) (3 + k))

/-- Whether an amplitude lies within 0.5 to 1.5 times the nominal one (R481). -/
def State.amplitudeOk (s : State) (j : Nat) (a b : Rat) : Bool :=
  let n : Rat := (s.obj (0x6010 + j) 0x0E : Rat)
  let m := hypot a b
  decide (n / 2 ≤ m) && decide (m ≤ 3 * n / 2)

/-- Sum over a period of a chain's outputs times the excitation reference (R478, R479). -/
def State.resolverSum (s : State) (r c : Nat) : Rat :=
  let f : Rat := (s.obj (0x6028 + r) 1 : Rat)
  let phase := rad ((s.obj (0x6028 + r) 3 : Rat) / 100)
  sumRat ((s.latchedChain c).recent.map fun (v, st) =>
    (v : Rat) * Config.sin (-(2 * Config.pi * f * (s.stampAge st + s.chainDelay c : Int) / 1000000000) + phase))

/-- atan2 of two sums in 2^-32 turn, by CORDIC with an error within 2^-22 turn (R472). -/
def cordic (y x : Int) : Nat :=
  ((turnOf (deg (Config.atan2 (y : Rat) (x : Rat))) : Int) + clampInt (-1024) 1024 (Config.cordicError y x)).toNat % 4294967296

/-- Angle sample of a thruster: the source's angle and its age in ns at the sample instant, none when invalid (R473 to R481). -/
def State.rawAngle (s : State) (j : Nat) : Option (Nat × Int) :=
  let o := 0x6010 + j
  let c := s.nat o 5
  match s.nat o 3 with
  | 1 =>
    let e := s.nat o 4
    (s.latchedEnc e).reading.map fun a => (a, roundHalfEven ((leadCycles (s.nat (0x6020 + e) 2) (s.nat (0x6020 + e) 3) : Rat) * 1000 / 256))
  | 2 =>
    let a := s.nat o 4
    if (s.latchedChain a).recent.isEmpty ∨ (s.latchedChain c).recent.isEmpty ∨ ¬ s.chainsAlike a c then none
    else
      let x := s.resolverSum (s.nat o 0x0D) a
      let y := s.resolverSum (s.nat o 0x0D) c
      if s.amplitudeOk j x y then
        some (cordic (roundHalfEven x) (roundHalfEven y), ((tsNs (s.obj 0x6000 1) / 2 : Nat) : Int))
      else none
  | 3 =>
    let a := s.nat o 4
    match (s.latchedChain a).recent, (s.latchedChain c).recent with
    | (x, st) :: _, (y, _) :: _ =>
      if s.chainsAlike a c ∧ s.amplitudeOk j x y then
        some (cordic x y, s.stampAge st + s.chainDelay a)
      else none
    | _, _ => none
  | _ => none

/-- Value of a chain's latest valid output against full scale, times a scale (R483, R484). -/
def State.chainValue (s : State) (c : Nat) (scale : Rat) : Option Int :=
  (s.latchedChain c).value.map fun v =>
    let full : Rat := ((s.chainView (0x4040 + c) 0x15).getD 0 : Rat)
    sat32 (fx (qdiv ((v : Rat) * scale) full))

/-- Speed or pitch sample (R483). -/
def State.rawSpeed (s : State) (j : Nat) : Option Int :=
  let o := 0x6010 + j
  let k := s.real o 8
  match s.nat o 6 with
  | 1 =>
    let q := s.latchedEnc (s.nat o 7)
    match q.reading with
    | some a =>
      if s.obj o 9 = 0 then
        some (sat32 (fx ((q.change : Rat) / 4294967296 * (servoRate (s.obj 0x6000 1) : Rat) * 60 * k)))
      else some (sat32 (fx ((a : Rat) / 4294967296 * k)))
    | none => none
  | 2 => s.chainValue (s.nat o 7) k
  | _ => none

/-! ### Command entries (R486 to R488, R538) -/

/-- Control period in ns of a rate code. -/
def rateNs (code : Nat) : Nat := (tcMicros code).toNat * 1000

/-- Whether the newest command section is fresh at this sample. -/
def State.entryFresh (s : State) : Bool :=
  match s.ring.command with
  | some c => decide (s.now ≤ s.ring.commandAt + 2000000) && decide (s.now ≤ s.ring.advancedAt + 2 * rateNs c.rate + 2000000)
      && decide (s.ring.isOwner = some true)
  | none => false

/-- Whether SF-A acts on a thruster (7000h:02, 7000h:03). -/
def State.sfaActs (s : State) (j : Nat) : Bool := s.bit 0x7000 2 j || s.bit 0x7000 3 j

/-- A state in which the drive is enabled (R498). -/
def driveState (st : Nat) : Bool := decide (2 ≤ st) && decide (st ≤ 6)

/-- Whether the state in force has lasted so many milliseconds at an instant. -/
def Thruster.lasted (q : Thruster) (now ms : Nat) : Bool := decide (q.stateFrom + ms * 1000000 ≤ now)

/-- Whether DRVFB has been de-energised for longer than so many milliseconds. -/
def Thruster.dropped (q : Thruster) (now ms : Nat) : Bool := match q.lowFrom with
  | some f => !q.drvfb && decide (f + ms * 1000000 < now)
  | none => false

/-- Whether y_s has been zero for so many milliseconds. -/
def Thruster.zeroed (q : Thruster) (now ms : Nat) : Bool := match q.zeroFrom with
  | some f => decide (f + ms * 1000000 ≤ now)
  | none => false

/-- The state that follows, with the cause of a fault (Table 13-3): the first row whose trigger holds, one row at a sample. -/
def State.nextThrState (s : State) (j : Nat) (angBad valid fresh alloc : Bool) : Nat × Nat :=
  let o := 0x6010 + j
  let q := s.thr j
  let st := s.thrState j
  let now := s.srv.latch.at'
  let lasted (n : Nat) : Bool := q.lasted now n
  let low (n : Nat) : Bool := q.dropped now n
  let zero (n : Nat) : Bool := q.zeroed now n
  if q.stepped then (st, 0)
  else if s.obj o 2 = 0 then (0, 0)
  else if st = 0 then (1, 0)
  else if nth false s.srv.latch.sfa j then (7, 0)
  else if st = 7 then (1, 0)
  else if st ≠ 8 ∧ s.nat o 0x11 ≤ q.invalidRun then (8, if angBad then 1 else 2)
  else if st = 2 ∧ lasted (s.nat o 0x12) then (8, 3)
  else if 3 ≤ st ∧ st ≤ 6 ∧ low (s.nat o 0x13) then (8, 4)
  else if st = 8 ∧ 100 ≤ q.validRun ∧ ¬ q.drvfb ∧ (¬ fresh ∨ ¬ alloc) then (1, 0)
  else if (st = 3 ∨ st = 4) ∧ ¬ fresh then (5, 0)
  else if st = 2 ∧ (¬ fresh ∨ ¬ alloc) then (1, 0)
  else if st = 5 ∧ lasted (s.nat 0x6000 2) then (6, 0)
  else if (st = 3 ∨ st = 5 ∨ st = 6) ∧ fresh ∧ ¬ alloc then (4, 0)
  else if 4 ≤ st ∧ st ≤ 6 ∧ fresh ∧ alloc then (3, 0)
  else if st = 1 ∧ fresh ∧ alloc ∧ s.obj o 1 = 1 ∧ valid then (2, 0)
  else if st = 2 ∧ q.drvfb then (3, 0)
  else if (st = 4 ∨ st = 6) ∧ zero (s.nat o 0x14) then (1, 0)
  else (st, 0)

/-- A thruster enters a state at an instant (Table 13-3): a fault is counted with its cause. -/
def State.enterThr (s : State) (now j st cause : Nat) : State :=
  if st = s.thrState j then s
  else
    let from' := s.thrState j
    let o := 0x6080 + j
    let s := (s.setObj o 1 st).modThr j fun q => { q with stateFrom := now, ramp := q.ys }
    let s := if st = 8 then
        ((s.count .control o 0x0D).setObj o 0x0E cause).event .control o 1 3 [BitVec.ofNat 8 st, BitVec.ofNat 8 cause]
      else s.event .control o 1 3 [BitVec.ofNat 8 st]
    if st = 5 ∧ from' ≠ 5 ∧ s.obj (0x7020 + j) 1 = 1 then s.count .control (0x7020 + j) 2 else s

/-! ### The loops (R490 to R493) -/

/-- Limit of 0.01 %FS as a fixed-point number. -/
def State.pctLimit (s : State) (bank sub : Nat) : Int := fx ((s.obj bank sub : Rat) / 100)

/-- Sign of an integer. -/
def intSign (v : Int) : Int := if v < 0 then -1 else if 0 < v then 1 else 0

/-- Angle loop of one sample: the thruster with its new generator, rate, integrator and output, flags [4], [6] and [7], and
the sums to be judged for saturation. -/
def State.angleLoop (s : State) (j : Nat) (closed frozen : Bool) (q : Thruster) (before : Nat) (target : Option Nat) :
    Thruster × Bool × Bool × Bool × List Int :=
  let b := s.servoBank j
  let ty := s.nat (0x6010 + j) 2
  let fs : Rat := (servoRate (s.obj 0x6000 1) : Rat)
  let step := roundHalfEven ((s.obj b 6 : Rat) * 4294967296 / 36000 / fs)
  let tau : Rat := (s.obj b 7 : Rat)
  let rate := sat32 (roundHalfEven ((angleDiff ty q.alphaHat before : Rat) * 360 / 65536 * fs))
  let omega1 := q.omega + roundHalfEven (((rate - q.omega : Int) : Rat) * 1000000 / (fs * tau))
  let omega := sat32 omega1
  if ¬ closed then
    ({ q with alphaS := q.alphaHat, omega := omega, ia := 0, ua := 0, signA := 0 }, false, false, false, [omega1])
  else
    let alphaS := match target with
      | some a => moveAngle ty q.alphaS (clampInt (-step) step (angleDiff ty a q.alphaS))
      | none => q.alphaS
    let ws := sat32 (roundHalfEven ((angleDiff ty alphaS q.alphaS : Rat) * 360 / 65536 * fs))
    let wr1 := mulFx (fx (s.real b 1)) (degFx (angleDiff ty alphaS q.alphaHat)) + ws
    let wr := sat32 wr1
    let e1 := wr - omega
    let e := sat32 e1
    let inc := roundHalfEven ((mulFx (fx (s.real b 3)) e : Rat) / fs)
    let lim : Int := fx ((s.obj b 0x10 : Rat) / 10)
    let acting := decide (s.obj b 0x10 ≠ 0) && decide (lim < (q.current.natAbs : Int))
    let held := frozen || (decide (intSign inc ≠ 0) && decide (intSign inc = q.signA))
    let il := s.pctLimit b 4
    let i1 := q.ia + inc
    let ia := if held || acting then q.ia else clampInt (-il) il (sat32 i1)
    let band := fx ((s.obj b 8 : Rat) / 100)
    let sat : Int := clampInt (-65536) 65536 (fx (qdiv (wr : Rat) (band : Rat)))
    let cog := tableTurn (s.blob (0x6070 + 2 * j + s.nat 0x6048 1) 0) q.alphaHat
    let fric := mulFx (tableTurn (s.blob (0x6074 + 2 * j + s.nat 0x6048 1) 0) q.alphaHat) sat
    let u1 := mulFx (fx (s.real b 2)) e + ia + cog + fric
    let ul := s.pctLimit b 5
    let u2 := clampInt (-ul) ul (sat32 u1)
    let u := if acting then clampInt (-(q.ua.natAbs : Int)) q.ua.natAbs u2 else u2
    let sign : Int := if ul < u1 then 1 else if u1 < -ul then -1 else 0
    ({ q with alphaS := alphaS, omega := omega, ia := ia, ua := u, signA := sign },
      decide (sign ≠ 0), held, acting, [omega1, wr1, e1, i1, u1])

/-- Speed or pitch loop of one sample: the thruster with its new integrator and output, flags [5] and [6], sums. -/
def State.speedLoop (s : State) (j : Nat) (closed frozen : Bool) (q : Thruster) (ys : Int) :
    Thruster × Bool × Bool × List Int :=
  let b := s.servoBank j
  let fs : Rat := (servoRate (s.obj 0x6000 1) : Rat)
  if ¬ closed then ({ q with ys := q.yHat, iy := 0, uy := 0, signY := 0 }, false, false, [])
  else
    let e1 := ys - q.yHat
    let e := sat32 e1
    let inc := roundHalfEven ((mulFx (fx (s.real b 0x0A)) e : Rat) / fs)
    let held := frozen || (decide (intSign inc ≠ 0) && decide (intSign inc = q.signY))
    let il := s.pctLimit b 0x0B
    let i1 := q.iy + inc
    let iy := if held then q.iy else clampInt (-il) il (sat32 i1)
    let u1 := mulFx (fx (s.real b 0x0D)) ys + mulFx (fx (s.real b 9)) e + iy
    let ul := s.pctLimit b 0x0C
    let sign : Int := if ul < u1 then 1 else if u1 < -ul then -1 else 0
    ({ q with ys := ys, iy := iy, uy := clampInt (-ul) ul (sat32 u1), signY := sign }, decide (sign ≠ 0), held, [e1, i1, u1])

/-- Speed or pitch set-point of a sample (R491, Table 13-4). -/
def State.nextYs (s : State) (j st : Nat) (q : Thruster) (yc : Int) : Int :=
  let b := s.servoBank j
  let fs : Rat := (servoRate (s.obj 0x6000 1) : Rat)
  let lim (sub : Nat) : Int := fx ((s.obj b sub : Rat) / 10 / fs)
  let toward (target step : Int) : Int := q.ys + clampInt (-step) step (target - q.ys)
  match st with
  | 3 => toward yc (lim 0x0E)
  | 4 => toward 0 (lim 0x0F)
  | 6 =>
    let total := s.nat 0x6000 3 * 1000000
    let gone := s.srv.latch.at' - q.stateFrom
    if total ≤ gone then 0 else roundHalfEven ((q.ramp : Rat) * ((total - gone : Nat) : Rat) / (total : Rat))
  | _ => q.ys

/-- One local thruster at a sample instant. -/
def State.thrusterSample (s : State) (fresh : Bool) (j : Nat) : State :=
  let o := 0x6010 + j
  let p := 0x6080 + j
  let ty := s.nat o 2
  let ts : Int := tsNs (s.obj 0x6000 1)
  let q := s.thr j
  -- feedback
  let hasAngle := decide (ty = 1) || decide (ty = 3)
  let ang := if hasAngle then s.rawAngle j else none
  let angBad := decide (ty ≠ 0) && hasAngle && ang.isNone
  let spdNone := decide (s.obj o 6 = 0)
  let spd := s.rawSpeed j
  let spdBad := decide (ty ≠ 0) && !spdNone && spd.isNone
  let bad := angBad || spdBad
  let before := q.alphaHat
  let along (ns : Int) : Int := roundHalfEven ((turnFx q.omega : Rat) * (ns : Rat) / 1000000000)
  let alphaHat := match ang with
    | some (a, age) =>
      let d : Int := if s.obj o 0x0B = 1 then -(a : Int) else a
      ((d + turnOf ((s.obj o 0x0C : Rat) / 100) + along age) % 4294967296).toNat
    | none => if hasAngle then (((before : Int) + along ts) % 4294967296).toNat else before
  let yHat := spd.getD q.yHat
  let current := if s.obj o 0x0F = 255 then 0 else (s.chainValue (s.nat o 0x0F) (s.real o 0x10)).getD q.current
  let q := { q with
    alphaHat := alphaHat, yHat := yHat, current := current
    drvfb := nth false s.srv.latch.drvfb j
    lowFrom := if nth false s.srv.latch.drvfb j then none else if q.drvfb then some s.srv.latch.at' else q.lowFrom
    invalidRun := if bad then q.invalidRun + 1 else 0, validRun := if bad then 0 else q.validRun + 1 }
  -- command entry
  let entry : CmdEntry := match s.srv.latch.command with
    | some c => c.entries.getD (2 * s.ident.node + j) {}
    | none => {}
  let cycle := s.srv.latch.command.map fun (c : CmdSection) => c.cycle
  let q := if fresh ∧ cycle ≠ q.entryCycle then { q with entry := entry, entryCycle := cycle } else q
  let alloc := fresh && q.entry.allocated
  let q := if alloc then { q with alphaC := turnOf ((q.entry.angle : Rat) / 100) } else q
  let s := s.modThr j fun _ => q
  let s := if bad then s.count .control p 0x0C else s
  -- state
  let (st, cause) := s.nextThrState j angBad (!bad && !spdNone) fresh q.entry.allocated
  let s := (s.enterThr s.srv.latch.at' j st cause).modThr j fun q => { q with stepped := false }
  let q := s.thr j
  -- loops
  let closed := decide (3 ≤ st) && decide (st ≤ 6)
  let yc := s.mapAt j q.entry.thrust
  let clampedT := decide (s.obj o 0x0A < (q.entry.thrust.natAbs : Int)) && q.entry.allocated
  let target := if st = 3 ∨ st = 4 then some q.alphaC else none
  let (q, f4, h1, f7, sums1) := if hasAngle then s.angleLoop j closed bad q before target
    else ({ q with ua := 0 }, false, false, false, [])
  let (q, f5, h2, sums2) := s.speedLoop j closed bad q (s.nextYs j st q yc)
  let q := { q with zeroFrom := if q.ys = 0 then some (q.zeroFrom.getD s.srv.latch.at') else none }
  let s := s.modThr j fun _ => q
  let s := s.countBy .control 0x6001 5 ((sums1 ++ sums2).filter saturates).length
  -- report
  let ready := decide (1 ≤ st) && decide (st ≤ 6) && decide (s.obj o 1 = 1) && !bad && !spdNone
  let flag (b : Bool) (n : Nat) : Int := if b then ((2 ^ n : Nat) : Int) else 0
  s.setObjs [(p, 2, flag ready 0 + flag angBad 1 + flag spdBad 2 + flag clampedT 3 + flag f4 4 + flag f5 5 + flag (h1 || h2) 6
      + flag f7 7 + flag q.drvfb 8 + flag q.drven 9 + flag fresh 10),
    (p, 3, centiOf ty q.alphaC), (p, 4, centiOf ty q.alphaS), (p, 5, centiOf ty q.alphaHat),
    (p, 6, roundHalfEven (unfx q.omega * 100)), (p, 7, q.entry.thrust),
    (p, 8, roundHalfEven (unfx q.ys * s.axisScale j)), (p, 9, roundHalfEven (unfx q.yHat * s.axisScale j)),
    (p, 0x0A, s.mapInverse j q.yHat), (p, 0x0B, roundHalfEven (unfx q.current * 10))]

/-- The sample instant latches this twin's pool of inputs (R471); encoders and chains then collect for the next. -/
def State.latchSample (s : State) : State :=
  let one (c : Nat) (q : Chain) : ChainIn :=
    { recent := q.recent, value := if q.valid then some (s.obj (0x4040 + c) 0x0F) else none }
  let l : SampleIn :=
    { at' := s.now, enc := s.srv.enc, chains := (List.range 24).map fun c => one c (s.chain c)
      drvfb := if s.ownIsActive then s.srv.ownFb else s.srv.farFb
      sfa := [s.sfaActs 0, s.sfaActs 1], command := s.ring.command, fresh := s.entryFresh, age := s.now - s.ring.commandAt }
  { s with
    srv := { s.srv with latch := l, enc := s.srv.enc.map fun e => { e with reading := none, done := false } }
    intake := { s.intake with chains := s.intake.chains.map fun c => { c with recent := [] } } }

/-- One servo period on the sample input set (R469 to R495). -/
def State.servoPeriod (s : State) : State :=
  let l := s.srv.latch
  let s := if s.srv.fresh ∧ ¬ l.fresh then s.count .control 0x6001 4 else s
  let s := s.setObjs [(0x6001, 3, if l.command.isSome then clampInt 0 0xFFFFFFFE ((l.age / 1000 : Nat) : Int) else 0xFFFFFFFF)]
  let s := match l.fresh, l.command with
    | true, some c => s.setObj 0x6001 2 c.cycle
    | _, _ => s
  let s := (s.thrusterSample l.fresh 0).thrusterSample l.fresh 1
  { s with srv := { s.srv with fresh := l.fresh, framesDue := true } }

/-! ### Timed transitions -/

/-- A timed row of Table 13-3, evaluated at the sample instant that has come and ahead of its boundary: the thruster leaves its state
when `due` holds there; one row at a sample (log entry 34). -/
def State.timedThr (s : State) (j : Nat) (due : Nat → Thruster → Bool) (to' cause : Nat) : State :=
  if s.isManager ∨ 2 ≤ j ∨ ¬ s.sampleDue ∨ (s.thr j).stepped ∨ s.obj (0x6010 + j) 2 = 0 ∨ s.sfaActs j
      ∨ ¬ due (s.thrState j) (s.thr j) then s
  else (s.enterThr s.now j to' cause).modThr j fun q => { q with stepped := true }

/-- Whether the newest command section has a thruster allocated. -/
def State.newestAllocated (s : State) (j : Nat) : Bool := match s.ring.command with
  | some c => (c.entries.getD (2 * s.ident.node + j) {}).allocated
  | none => false

/-- ENABLE_TIMEOUT (R494): ENABLING has lasted 6010h+j:12. -/
def execEnableTimeout (t thruster : Nat) (s : State) : Host.Outcome State Fault Refusal :=
  s.live t fun s => s.timedThr thruster
    (fun st q => decide (st = 2) && q.lasted s.now (s.nat (0x6010 + thruster) 0x12)) 8 3

/-- DRIVE_DROP_TIMEOUT (R494): DRVFB de-energised for longer than 6010h+j:13 in a running state. -/
def execDriveDropTimeout (t thruster : Nat) (s : State) : Host.Outcome State Fault Refusal :=
  s.live t fun s => s.timedThr thruster
    (fun st q => decide (3 ≤ st) && decide (st ≤ 6) && q.dropped s.now (s.nat (0x6010 + thruster) 0x13)) 8 4

/-- STALE_HOLD_TIMEOUT (R494): STALE-HOLD has lasted 6000h:02, and the drive has not dropped. -/
def execStaleHoldTimeout (t thruster : Nat) (s : State) : Host.Outcome State Fault Refusal :=
  s.live t fun s => s.timedThr thruster
    (fun st q => decide (st = 5) && q.lasted s.now (s.nat 0x6000 2) && !q.dropped s.now (s.nat (0x6010 + thruster) 0x13)) 6 0

/-- OFF_DELAY_EXPIRY (R494): y_s has been zero for 6010h+j:14 in OPENING or STALE-RAMP, and no earlier row holds. -/
def execOffDelayExpiry (t thruster : Nat) (s : State) : Host.Outcome State Fault Refusal :=
  s.live t fun s => s.timedThr thruster
    (fun st q => ((decide (st = 4) && s.entryFresh && !s.newestAllocated thruster) || (decide (st = 6) && !s.entryFresh))
      && q.zeroed s.now (s.nat (0x6010 + thruster) 0x14) && !q.dropped s.now (s.nat (0x6010 + thruster) 0x13)) 1 0

/-- A DRVFB level of a thruster, of this twin's pad or the partner's. -/
def State.driveLevel (s : State) (own : Bool) (j : Nat) (energised : Bool) : State :=
  let put (l : List Bool) : List Bool := modifyNth (fun _ => energised) l j
  { s with srv := if own then { s.srv with ownFb := put s.srv.ownFb } else { s.srv with farFb := put s.srv.farFb } }

/-- DRVFB_CHANGE (R499): the filter accepts a level that has held for 200 µs. -/
def execDrvfbChange (t thruster : Nat) (energised : Bool) (heldNs : Nat) (s : State) : Host.Outcome State Fault Refusal :=
  s.live t fun s =>
    if s.isManager ∨ 2 ≤ thruster ∨ heldNs < 200000 then s
    else (s.commitInput (44 + thruster) s.stamp32 [if energised then 1 else 0]).driveLevel true thruster energised

/-! ### Outputs -/

/-- Code of DAC word `w` of port `j` (R505, Table 13-5), prefix in front. -/
def State.dacWord (s : State) (j w : Nat) : Nat :=
  let o := 0x6050 + j
  let c := s.nat o (5 + 4 * w)
  let q := s.thr j
  let gain : Rat := (s.obj o (7 + 4 * w) : Rat)
  let off := s.obj o (8 + 4 * w)
  let u := match c % 4 with
    | 1 => unfx q.ua
    | 2 => unfx q.uy
    | _ => 0
  let v := if c % 4 = 3 then off else off + roundHalfEven (u / 100 * gain)
  let code := if c / 16 % 2 = 0 then clampInt 0 65535 v else clampInt (-32768) 32767 v % 65536
  s.nat o (6 + 4 * w) * 65536 + code.toNat

/-- The drive enable of a thruster follows its state and the role (R498); P5 may hold it off (R620). -/
def State.driveEnable (s : State) (j : Nat) : State :=
  let on := driveState (s.thrState j) && decide (s.role = .active) && !(s.thr j).forced
  if (s.thr j).drven = on then s
  else (((s.modThr j fun q => { q with drven := on }).setBit (0x6080 + j) 2 9 on)).tell (.drven j on)

/-- The frame of one DAC port (R504). -/
def State.dacPort (s : State) (j : Nat) : State :=
  let n := s.nat (0x6050 + j) 1
  if n = 0 then s else s.tell (.dac j (s.nat (0x6050 + j) 2) (s.nat (0x6050 + j) 3) ((List.range n).map (s.dacWord j)))

/-- DAC_FRAME (R498, R502, R504): Ts/8 after a sample instant, in the active twin. -/
def execDacFrame (t : Nat) (s : State) : Host.Outcome State Fault Refusal :=
  s.live t fun s =>
    if s.isManager ∨ ¬ s.srv.framesDue ∨ s.role ≠ .active ∨ (s.mt : Int) < s.srv.sampleAt + (tsNs (s.obj 0x6000 1) / 8 : Nat) then s
    else
      let s := ((s.driveEnable 0).driveEnable 1)
      let s := (s.dacPort 0).dacPort 1
      { s with srv := { s.srv with framesDue := false } }

/-! ### Settings -/

/-- Frame time of a DAC port in ps (R504). -/
def dacFramePs (words divider : Nat) : Nat := if words = 0 then 0 else (28 * words - 2) * divider * 15625 / 4

/-- Values that the settings give (6020h+e:08, 6050h+j:04). -/
def State.servoView (s : State) (i sub : Nat) : Option Int :=
  if 0x6020 ≤ i ∧ i ≤ 0x6023 ∧ sub = 8 then
    some (roundHalfEven ((leadCycles (s.nat i 2) (s.nat i 3) : Rat) * 1000 / 256))
  else if (i = 0x6050 ∨ i = 0x6051) ∧ sub = 4 then some (dacFramePs (s.nat i 1) (s.nat i 2) : Nat)
  else none

/-- Bank of the worker that an object lies in (R507). -/
def servoBankOf (i : Nat) : Option Nat :=
  if (0x6040 ≤ i ∧ i ≤ 0x6043) ∨ (0x6070 ≤ i ∧ i ≤ 0x607B) then some (i % 2) else none

/-- Whether a worker swap is pending, in force or held. -/
def State.servoSwapPending (s : State) : Bool :=
  decide (s.obj 0x6048 3 = 1) || decide (heldNum s.held (okey 0x6048 2) = some 1)

/-- Thrusters that use an object of R467. -/
def State.thrusterUses (s : State) (i j : Nat) : Bool :=
  let o := 0x6010 + j
  if 0x6020 ≤ i ∧ i ≤ 0x6023 then
    (decide (s.obj o 3 = 1) && decide (s.obj o 4 = (i : Int) - 0x6020)) || (decide (s.obj o 6 = 1) && decide (s.obj o 7 = (i : Int) - 0x6020))
  else if i = 0x6028 ∨ i = 0x6029 then decide (s.obj o 3 = 2) && decide (s.obj o 0x0D = (i : Int) - 0x6028)
  else decide (i = o) || decide (i = 0x6050 + j)

/-- Whether a thruster stands still: UNUSED, DISABLED or, where allowed, FAULT. -/
def State.thrIdle (s : State) (fault : Bool) (j : Nat) : Bool :=
  decide (s.thrState j = 0) || decide (s.thrState j = 1) || (fault && decide (s.thrState j = 8))

/-- Limits that depend on Ts (R475, R478, R504), for a code of 6000h:01 and a reading of each setting. -/
def timingOk (code : Int) (g : Nat → Nat → Nat) (i : Nat) : Bool :=
  let quarter := 64000000 / servoRate code
  if 0x6020 ≤ i ∧ i ≤ 0x6023 then decide (leadCycles (g i 2) (g i 3) ≤ quarter)
  else if i = 0x6028 ∨ i = 0x6029 then
    decide (g i 1 = 0) || (decide (g i 1 % servoRate code = 0) && decide (2000 ≤ g i 1) && decide (g i 1 ≤ 20000))
  else decide (dacFramePs (g i 1) (g i 2) ≤ 250000000000 / servoRate code)

/-- Objects with such limits. -/
def timedObjects : List Nat := [0x6020, 0x6021, 0x6022, 0x6023, 0x6028, 0x6029, 0x6050, 0x6051]

/-- Aborts of a write of this chapter beyond its range column (R465, R467, R468, R475, R478, R488, R504, R507, R789). -/
def State.servoWriteAbort (s : State) (i sub : Nat) (v : Val) : Option Nat :=
  if i < 0x6000 ∨ 0x60FF < i then none
  else if s.isManager then some 0x06090030
  else
    let num : Int := match v with
      | .num n => n
      | .bytes _ => 0
    let g (a b : Nat) : Nat := if a = i ∧ b = sub then num.toNat else s.latestNat a b
    let consistency : Option Nat :=
      if 0x6078 ≤ i ∧ i ≤ 0x607B then match v with
        | .bytes b =>
          if mapEntry b 16 = 0 ∧ (List.range 32).all (fun k => decide (mapEntry b k < mapEntry b (k + 1))) then none else some 0x06090030
        | .num _ => none
      else if i = 0x6010 ∨ i = 0x6011 then
        if 3 ≤ sub ∧ sub ≤ 7 ∧ ((g i 3 = 1 ∧ 3 < g i 4) ∨ (g i 6 = 1 ∧ 3 < g i 7)) then some 0x06040043 else none
      else if 0x6020 ≤ i ∧ i ≤ 0x6023 then
        if g i 2 < g i 5 + g i 6 ∨ ¬ timingOk (s.latest 0x6000 1) g i then some 0x06040043 else none
      else if i = 0x6028 ∨ i = 0x6029 ∨ i = 0x6050 ∨ i = 0x6051 then
        if timingOk (s.latest 0x6000 1) g i then none else some 0x06040043
      else if i = 0x6000 ∧ sub = 1 then
        if timedObjects.all (timingOk num g) then none else some 0x06040043
      else none
    match consistency with
    | some a => some a
    | none =>
      if i = 0x6000 ∧ sub = 1 then if s.thrIdle false 0 ∧ s.thrIdle false 1 then none else some 0x08000022
      else if 0x6010 ≤ i ∧ i ≤ 0x6029 ∨ i = 0x6050 ∨ i = 0x6051 then
        if [0, 1].all (fun j => !(s.thrusterUses i j) || s.thrIdle true j) then none else some 0x08000022
      else if i = 0x6048 ∧ sub = 2 then if s.servoSwapPending then some 0x08000022 else none
      else match servoBankOf i with
        | some b => if (b : Int) = s.obj 0x6048 1 ∨ s.servoSwapPending then some 0x08000022 else none
        | none => none

/-- The active worker bank copied into the inactive one (R507). -/
def State.copyServoBanks (s : State) : State :=
  let a := s.nat 0x6048 1
  let b := 1 - a
  [0, 1].foldl (fun (s : State) j =>
    let s := s.copyObject (0x6040 + 2 * j + a) (0x6040 + 2 * j + b) 0x10
    [0x6070, 0x6074, 0x6078].foldl (fun (s : State) base => s.setBlob (base + 2 * j + b) 0 (s.blob (base + 2 * j + a) 0)) s) s

/-- Coefficients of a bank that round to zero at conversion (R507). -/
def State.lostServo (s : State) (bank : Nat) : Nat :=
  ([1, 2, 3, 9, 0x0A, 0x0D].filter fun k => decide (s.real bank k ≠ 0) && decide (fx (s.real bank k) = 0)).length

/-- A pending worker swap takes place at a sample boundary (R507, R508). -/
def State.swapServo (s : State) : State :=
  if s.obj 0x6048 3 ≠ 1 then s
  else
    let s := (s.setObjs [(0x6048, 1, 1 - s.obj 0x6048 1), (0x6048, 3, 0)]).count .control 0x6048 4
    let s := s.countBy .control 0x6001 6 (s.lostServo (s.servoBank 0) + s.lostServo (s.servoBank 1))
    [0, 1].foldl (fun (s : State) j =>
      let b := s.servoBank j
      s.modThr j fun q =>
        { q with ia := clampInt (-(s.pctLimit b 4)) (s.pctLimit b 4) q.ia, iy := clampInt (-(s.pctLimit b 0x0B)) (s.pctLimit b 0x0B) q.iy }) s

/-- What follows a write of this chapter at its boundary (R507, R508). -/
def State.servoApplied (s : State) (i sub : Nat) (new : Int) : State :=
  if i = 0x6048 ∧ sub = 2 then
    let s := s.setObj 0x6048 2 0
    if new = 1 then s.setObj 0x6048 3 1 else if new = 2 then s.copyServoBanks else s
  else s

end Sys2Proof.Machine
end

