-- ==== Sys2Proof/Machine/SafeIo.lean ====
section
/-! DEFINITION. The safe inputs and outputs (chapter 16): test pulses, SF-A, SF-C and SF-E, and the outputs that follow the
demands. -/

namespace Sys2Proof.Machine

open Sys2Proof

/-! ### Safe inputs and sensor supplies -/

/-- One safe input changed. -/
def State.modIn (s : State) (i : Nat) (f : SafeIn → SafeIn) : State :=
  { s with saf := { s.saf with ins := modifyNth f s.saf.ins i } }

/-- One safe output changed. -/
def State.modSo (s : State) (n : Nat) (f : SafeOut → SafeOut) : State :=
  { s with saf := { s.saf with outs := modifyNth f s.saf.outs n } }

/-- SF-A of one local thruster changed. -/
def State.modStop (s : State) (j : Nat) (f : StopRun → StopRun) : State :=
  { s with saf := { s.saf with stops := modifyNth f s.saf.stops j } }

/-- Supply `k` is on: an input names it, the ports are enabled, and no overload holds it off (R602, R605). -/
def State.ssOn (s : State) (k : Nat) : Bool :=
  s.power.portsOn && (List.range 16).any (fun i => decide (s.obj (0x7040 + i) 1 = k)) && (nth none s.saf.ssOff k).isNone

/-- The supply that feeds an input (7040h+i:01), none for an untested one. -/
def State.feedOf (s : State) (i : Nat) : Option Nat :=
  if s.obj (0x7040 + i) 1 = 255 then none else some (s.nat (0x7040 + i) 1)

/-- An input as the functions see it: accepted energised, with no latched test fault (R604). -/
def State.siOn (s : State) (i : Nat) : Bool := s.bit (0x7040 + i) 3 0 && !s.bit (0x7040 + i) 3 2

/-- A level of an input is accepted; a change is counted, and the length of an energised stretch kept (R603, R610). -/
def State.acceptLevel (s : State) (i : Nat) (e : Bool) : State :=
  if s.bit (0x7040 + i) 3 0 = e then s
  else
    let s := (s.setBit (0x7040 + i) 3 0 e).count .control (0x7040 + i) 5
    s.modIn i fun q => if e then { q with roseAt := s.now, pulse := none } else { q with pulse := some (s.now - q.roseAt) }

/-- Reported supplies on (7050h:01). -/
def State.showSupplies (s : State) : State :=
  s.setObj 0x7050 1 (((List.range 16).foldl (fun (a : Nat) k => if s.ssOn k then a + 2 ^ k else a) 0 : Nat) : Int)

/-! ### SF-A -/

/-- Whether SF-A of local thruster `j` is configured in this role (7010h+j:01). -/
def State.sfaOn (s : State) (j : Nat) : Bool := !s.isManager && decide (s.obj (0x7010 + j) 1 = 1)

/-- The inputs SF-A of thruster `j` reads as channels. -/
def State.sfaChannels (s : State) (j : Nat) : List Nat :=
  s.nat (0x7010 + j) 2 :: (if s.obj (0x7010 + j) 3 = 255 then [] else [s.nat (0x7010 + j) 3])

/-- Inputs that an enabled function uses: the channels and the reset input of SF-A (R606). -/
def State.siUsed (s : State) (i : Nat) : Bool :=
  (List.range 2).any fun j => s.sfaOn j && ((s.sfaChannels j).contains i || decide (s.obj (0x7010 + j) 5 = i))

/-- The channels differ since when, and how far they have come back after a discrepancy (R610). -/
def State.sfaChannelsMoved (s : State) (j : Nat) : State :=
  match s.sfaChannels j with
  | [a, b] =>
    let x := s.siOn a
    let y := s.siOn b
    s.modStop j fun q =>
      let q := if x = y then { q with differFrom := none } else { q with differFrom := some (q.differFrom.getD s.now) }
      if ¬ q.discrepancy then q
      else if ¬ x ∧ ¬ y then { q with bothLow := true }
      else if x ∧ y ∧ q.bothLow then { q with discrepancy := false, bothLow := false }
      else q
  | _ => s.modStop j fun _ => {}

/-- The trigger of SF-A of thruster `j` is present: a channel reads de-energised or is faulty, or a discrepancy is latched. -/
def State.sfaTrigger (s : State) (j : Nat) : Bool :=
  (s.sfaChannels j).any (fun i => !s.siOn i) || (nth {} s.saf.stops j).discrepancy

/-! ### Demands -/

/-- The demand bits as the functions stand: SF-A latched, SF-B and SF-D as P5 latched them, SF-C while the entry is not fresh,
SF-E while an output holds a fault, SF-F from a supervision fault on (Tables 16-1 and 16-4). -/
def State.demandBits (s : State) : Nat :=
  let b (c : Bool) (n : Nat) : Nat := if c then 2 ^ n else 0
  let l := s.nat 0x7000 3
  b (l.testBit 0) 0 + b (l.testBit 1) 1 + b (l.testBit 2) 2 + b (nth false s.saf.stale 0) 3 + b (nth false s.saf.stale 1) 4
    + b (l.testBit 5) 5 + b ((List.range 8).any fun n => s.bit (0x7030 + n) 5 4) 6 + b s.saf.sff 7

/-- Whether a function that output `n` names holds it off: a demand in force, for SF-C only from the end of its ramp (R607,
R620). -/
def State.namedDemand (s : State) (n : Nat) : Bool :=
  let f := s.nat (0x7030 + n) 1
  let d := s.nat 0x7000 2
  (List.range 6).any fun k => f.testBit k &&
    (if k = 3 ∨ k = 4 then nth false s.saf.staleOff (k - 3) else d.testBit k)

/-- R600 applies: the twin is OFFLINE or SUSPECT, or the start-up self-test is not complete. -/
def State.outputsHeld (s : State) : Bool :=
  decide (s.role = .offline) || decide (s.role = .suspect) || !s.power.safetyTested || s.saf.failed

/-- Whether the mirror contacts of an output read energised, as its read-back mode asks. -/
def State.mirrorsIn (s : State) (n : Nat) : Bool :=
  let m := s.obj (0x7030 + n) 2
  (decide (m = 0) || s.bit (0x7030 + n) 5 2) && (decide (m ≠ 2) || s.bit (0x7030 + n) 5 3)

/-- An output that names no function is unconfigured: it stays off and its read-back is ignored (R79, Table 2-10). -/
def State.soUnused (s : State) (n : Nat) : Bool := decide (s.obj (0x7030 + n) 1 = 0)

/-- Whether output `n` may be energised (R607). -/
def State.mayEnergise (s : State) (n : Nat) : Bool :=
  !s.soUnused n && !s.namedDemand n && !s.bit (0x7030 + n) 5 4 && !s.saf.sff && !s.outputsHeld

/-- Output `n` follows R607: both channels on or both off; a switch-off is counted. -/
def State.safeOutput (s : State) (n : Nat) : State :=
  let i := 0x7030 + n
  let on := s.bit i 5 0 && s.bit i 5 1
  let part := s.bit i 5 0 || s.bit i 5 1
  if s.mayEnergise n ∧ (on ∨ s.mirrorsIn n) then
    if on then s
    else (((s.setBit i 5 0 true).setBit i 5 1 true).modSo n fun q => { q with onAt := s.now }).tell (.safeOut n true)
  else if part then
    ((((s.setBit i 5 0 false).setBit i 5 1 false).count .control i 7).modSo n fun q => { q with offAt := s.now }).tell
      (.safeOut n false)
  else s

/-- The demands as they now stand: new ones are counted, SF-A and SF-C changes go to the partner, and every output follows
(R601, R607). -/
def State.showDemands (s : State) : State :=
  let was := s.nat 0x7000 2
  let new := s.demandBits
  let s := s.setObj 0x7000 2 new
  let rises := (List.range 8).filter fun k => new.testBit k && !was.testBit k
  let s := s.countBy .control 0x7000 6 rises.length
  let s := rises.foldl (fun (s : State) k =>
    if k = 0 ∨ k = 1 then s.count .control (0x7010 + k) 8 else s) s
  let s := if was = new then s else s.event .control 0x7000 2 0 (leBytes 2 new)
  let part (x : Nat) : Nat := x % 4 + 8 * (x / 8 % 4)
  let s := if part was = part new then s else s.twSend .control [5, (part new : Nat)]
  let s := s.setObj 0x7000 1 (if s.saf.failed then 3 else if ¬ s.power.safetyTested then 0 else if s.outputsHeld then 2 else 1)
  (List.range 8).foldl State.safeOutput s

/-- SF-A of thruster `j` evaluates: its demand latches on its trigger (R610); a function that is off demands nothing. -/
def State.sfaEval (s : State) (j : Nat) : State :=
  let s := s.sfaChannelsMoved j
  if ¬ s.sfaOn j then (s.setBit 0x7000 3 j false).modStop j fun q => { q with discrepancy := false, bothLow := false }
  else if s.power.safetyTested ∧ s.sfaTrigger j then s.setBit 0x7000 3 j true
  else s

/-- The functions on the safe inputs evaluate, and the outputs follow. -/
def State.safetyEval (s : State) : State := ((s.sfaEval 0).sfaEval 1).showDemands

/-- Whether a reset of SF-A of thruster `j` is accepted: both channels energised, no input fault, no discrepancy (R610). -/
def State.sfaMayReset (s : State) (j : Nat) : Bool := s.sfaOn j && s.bit 0x7000 3 j && !s.sfaTrigger j

/-- SF-A of thruster `j` is reset: faults of its inputs that have passed two frames clear first (R606, R610). -/
def State.sfaReset (s : State) (j : Nat) : State :=
  let used := s.sfaChannels j ++ (if s.obj (0x7010 + j) 5 = 255 then [] else [s.nat (0x7010 + j) 5])
  let s := used.foldl (fun (s : State) i =>
    if s.bit (0x7040 + i) 3 2 ∧ 2 ≤ (nth {} s.saf.ins i).passRun then s.setObj (0x7040 + i) 3 (s.nat (0x7040 + i) 3 % 4 : Nat) else s) s
  let s := s.sfaChannelsMoved j
  if s.sfaMayReset j then (s.setBit 0x7000 3 j false).showDemands else s

/-! ### Events -/

/-- Whether the supply of an input is pulsed, or was up to 100 µs ago: the accepted level holds (R603). -/
def State.pulsing (s : State) (i : Nat) : Bool :=
  match (s.feedOf i).bind fun k => nth none s.saf.pulseAt k with
  | some f => decide (s.now < f + 600000)
  | none => false

/-- SAFE_INPUT_CHANGE (R603): a pad level, and how long the filter has counted it; the level is accepted after the filter time of
7040h+i:02. An input whose supply is off reads de-energised. -/
def execSafeInputChange (t input : Nat) (energised : Bool) (heldNs : Nat) (s : State) : Host.Outcome State Fault Refusal :=
  s.ported t fun s =>
    if 16 ≤ input then s
    else
      let s := s.setBit (0x7040 + input) 3 1 energised
      let dead := match s.feedOf input with
        | some k => !s.ssOn k
        | none => false
      if s.pulsing input ∨ heldNs < s.nat (0x7040 + input) 2 * 1000 then s
      else (s.acceptLevel input (energised && !dead)).safetyEval

/-- SF_A_DISCREPANCY (R610): the channels have differed for longer than 7010h+j:04. -/
def execSfADiscrepancy (t thruster : Nat) (s : State) : Host.Outcome State Fault Refusal :=
  s.ported t fun s =>
    if 2 ≤ thruster ∨ ¬ s.sfaOn thruster then s
    else match (nth {} s.saf.stops thruster).differFrom with
      | none => s
      | some f =>
        if f + s.nat (0x7010 + thruster) 4 * 1000000 < s.now then
          (s.modStop thruster fun q => { q with discrepancy := true, bothLow := false }).safetyEval
        else s

/-- SF_A_RESET_PULSE (R610): the reset input was energised for 100 ms to 2,000 ms and has fallen. -/
def execSfAResetPulse (t thruster : Nat) (s : State) : Host.Outcome State Fault Refusal :=
  s.ported t fun s =>
    let i := s.nat (0x7010 + thruster) 5
    if 2 ≤ thruster ∨ ¬ s.sfaOn thruster ∨ 16 ≤ i ∨ s.bit (0x7040 + i) 3 2 then s
    else match (nth {} s.saf.ins i).pulse with
      | none => s
      | some p =>
        let s := s.modIn i fun q => { q with pulse := none }
        if 100000000 ≤ p ∧ p ≤ 2000000000 then s.sfaReset thruster else s

/-- One input in a pulse of supply `k` (Table 16-2): whether it read energised before, and how many ns after the pulse's start it read
de-energised. The drop of an input's own pulse is suppressed by an injection (Table 22-2, 0Bh). -/
def State.pulseRead (s : State) (k i : Nat) (before : Bool) (drop : Option Nat) : State :=
  let inject := match s.diagn.drops with
    | some (j, _) => decide (j = i)
    | none => false
  match s.feedOf i with
  | none => s
  | some m =>
    if m = k then
      let low := match drop with
        | some d => decide (d ≤ 300000) && !inject
        | none => false
      s.modIn i fun q => { q with tested := true, noDrop := q.noDrop || ((before || inject) && !low) }
    else
      let low := match drop with
        | some d => decide (d < 500000)
        | none => false
      s.modIn i fun q => { q with cross := q.cross || (before && low) }

/-- TEST_PULSE (R602 to R604): in slot k of a frame supply k, if energised, is pulsed low for 500 µs, once; the inputs are read before
and during the pulse. -/
def execTestPulse (t supply : Nat) (before : List Bool) (drops : List (Option Nat)) (s : State) : Host.Outcome State Fault Refusal :=
  s.ported t fun s =>
    let slot := (s.now - s.saf.framesFrom) / 5000000
    let fresh : Bool := match nth none s.saf.pulseAt supply with
      | some f => decide ((f - s.saf.framesFrom) / 5000000 ≠ slot)
      | none => true
    if 16 ≤ supply ∨ ¬ s.ssOn supply ∨ slot % 16 ≠ supply ∨ ¬ fresh then s
    else
      let s := { s with saf := { s.saf with pulseAt := modifyNth (fun _ => some s.now) s.saf.pulseAt supply } }.tell (.ssPulse supply)
      (List.range 16).foldl (fun (s : State) i => s.pulseRead supply i (before.getD i false) (drops.getD i none)) s

/-- One input at the end of a frame: a check that fails in two consecutive frames latches its fault; a fault of an input no
function uses clears after two frames passed (R604, R606). -/
def State.frameCheck (s : State) (i : Nat) : State :=
  let q := nth {} s.saf.ins i
  let nd := q.noDrop
  let cr := q.cross
  let made := q.tested
  let s := s.modIn i fun q => { q with tested := false, noDrop := false, cross := false }
  match s.feedOf i with
  | none => s
  | some k =>
    if ¬ s.ssOn k ∨ ¬ made then s
    else
      let s := s.modIn i fun q => { q with
        noDropRun := if nd then q.noDropRun + 1 else 0
        crossRun := if cr then q.crossRun + 1 else 0
        passRun := if nd || cr then 0 else q.passRun + 1 }
      let q := nth {} s.saf.ins i
      let o := 0x7040 + i
      let was := s.nat o 3
      let now' := putBit (putBit was 3 (was.testBit 3 || decide (2 ≤ q.crossRun))) 4 (was.testBit 4 || decide (2 ≤ q.noDropRun))
      let now' := putBit now' 2 (now'.testBit 3 || now'.testBit 4)
      let s := if was = now' then s else ((s.setObj o 3 now').count .control o 4).declared 0x0B i
      if now'.testBit 2 ∧ 2 ≤ q.passRun ∧ ¬ s.siUsed i then s.setObj o 3 (now' % 4 : Nat) else s

/-- TEST_FRAME_CHECK (R602, R604): at the end of an 80 ms frame, once, its checks of Table 16-2 are judged. -/
def execTestFrameCheck (t : Nat) (s : State) : Host.Outcome State Fault Refusal :=
  s.ported t fun s =>
    let frame := (s.now - s.saf.framesFrom) / 80000000
    if frame ≤ s.saf.judged then s
    else
      let s := { s with saf := { s.saf with judged := frame }, diagn := { s.diagn with drops := match s.diagn.drops with
        | some (i, n) => if n ≤ 1 then none else some (i, n - 1)
        | none => none } }
      ((List.range 16).foldl State.frameCheck s).safetyEval

/-- The inputs of a supply that is off read de-energised (R605). -/
def State.dropInputs (s : State) (k : Nat) : State :=
  (List.range 16).foldl (fun (s : State) i => if s.feedOf i = some k then s.acceptLevel i false else s) s

/-- SS_OVERLOAD (R605): the current of a supply has exceeded 0.30 A for 100 µs. -/
def execSsOverload (t supply milliamps heldNs : Nat) (s : State) : Host.Outcome State Fault Refusal :=
  s.ported t fun s =>
    if 16 ≤ supply ∨ ¬ s.ssOn supply ∨ milliamps ≤ 300 ∨ heldNs < 100000 then s
    else
      let s := { s with saf := { s.saf with ssOff := modifyNth (fun _ => some s.now) s.saf.ssOff supply } }
      let s := ((s.setBit 0x7050 2 supply true).count .control 0x7050 3).showSupplies
      (s.dropInputs supply).safetyEval

/-- SS_RETRY (R605): 1.0 s after the overload. -/
def execSsRetry (t supply : Nat) (s : State) : Host.Outcome State Fault Refusal :=
  s.ported t fun s =>
    match nth none s.saf.ssOff supply with
    | none => s
    | some f =>
      if s.now < f + 1000000000 then s
      else { s with saf := { s.saf with ssOff := modifyNth (fun _ => none) s.saf.ssOff supply } }.showSupplies

/-! ### SF-E -/

/-- SF-E latches a fault on output `n` (R609). -/
def State.sfeLatch (s : State) (n cause : Nat) : State :=
  let i := 0x7030 + n
  let s := s.modSo n fun q => { q with present := true }
  if s.bit i 5 4 then s
  else
    let s := ((s.setBit i 5 4 true).setObj i 6 cause).setBit 0x7000 3 6 true
    (((s.count .control i 8).alarm .control i 6 1).event .control i 6 3 [BitVec.ofNat 8 cause]).showDemands

/-- The mirror contacts of an output as read. -/
def State.setMirrors (s : State) (n : Nat) (rb1 rb2 : Bool) : State :=
  (s.setBit (0x7030 + n) 5 2 rb1).setBit (0x7030 + n) 5 3 rb2

/-- Whether a channel of an energised output may be tested: once per second, SOn_2 500 ms after SOn_1 (R608). -/
def State.soTestDue (s : State) (n channel : Nat) : Bool :=
  let q : SafeOut := nth {} s.saf.outs n
  let since (c ns : Nat) : Bool := match nth none q.testAt c with
    | some f => decide (f + ns ≤ s.now)
    | none => true
  !s.bit (0x7030 + n) 5 0 || (since channel 1000000000 && (decide (channel = 0) || since 0 500000000))

/-- SO_CHANNEL_TEST (R608, R609): of an energised output, `first` is the read-back of channel `channel` before it is switched
off for 200 µs and `second` the one during it; of an output that is off, the read-backs of SOn_1 and SOn_2. -/
def execSoChannelTest (t output channel : Nat) (first second rb1 rb2 : Bool) (s : State) :
    Host.Outcome State Fault Refusal :=
  s.ported t fun s =>
    if 8 ≤ output ∨ 2 ≤ channel ∨ ¬ s.power.safetyTested ∨ s.soUnused output ∨ ¬ s.soTestDue output channel then s
    else
      let s := s.setMirrors output rb1 rb2
      if s.bit (0x7030 + output) 5 0 then
        let s := (s.modSo output fun q => { q with testAt := modifyNth (fun _ => some s.now) q.testAt channel }).tell
          (.soPulse output channel)
        if ¬ first then s.sfeLatch output 2 else if second then s.sfeLatch output 1 else s
      else if first || second then s.sfeLatch output 1
      else
        let welded := s.nat (0x7030 + output) 6 = 3 ∧ ¬ s.mirrorsIn output
        (s.modSo output fun q => { q with present := q.present && decide welded }).showDemands

/-- SO_READBACK_TIMEOUT (R609): the drop time after switch-off or the pull-in time after switch-on has passed. -/
def execSoReadbackTimeout (t output : Nat) (rb1 rb2 : Bool) (s : State) : Host.Outcome State Fault Refusal :=
  s.ported t fun s =>
    let i := 0x7030 + output
    if 8 ≤ output ∨ ¬ s.power.safetyTested ∨ s.soUnused output then s
    else
      let q := nth {} s.saf.outs output
      let mode := s.obj i 2
      let on := s.bit i 5 0
      let due := if on then q.onAt + s.nat i 4 * 1000000 else q.offAt + s.nat i 3 * 1000000
      if s.now < due then s
      else
        let s := s.setMirrors output rb1 rb2
        if mode = 0 then s
        else if on then
          if rb1 || (decide (mode = 2) && rb2) then s.sfeLatch output 4 else s
        else if s.mirrorsIn output then
          (if s.nat i 6 = 3 then s.modSo output fun q => { q with present := false } else s).showDemands
        else s.sfeLatch output 3

/-- Reset of SF-E: every latched output whose fault is no longer detected (R611). -/
def State.sfeReset (s : State) : State :=
  let s := (List.range 8).foldl (fun (s : State) n =>
    if s.bit (0x7030 + n) 5 4 ∧ ¬ (nth {} s.saf.outs n).present then
      (s.setBit (0x7030 + n) 5 4 false).unalarm .control (0x7030 + n) 6 1
    else s) s
  (s.setBit 0x7000 3 6 ((List.range 8).any fun n => s.bit (0x7030 + n) 5 4)).showDemands

/-! ### SF-C (R620) -/

/-- Thruster `j` in SF-C's eyes at a sample instant: the entry not fresh, the end of a ramp, a fresh allocated entry, and P5's
independent check of the age of the last intact command. -/
def State.sfcEval (s : State) (j : Nat) : State :=
  let st := s.thrState j
  let was := nth 0 s.saf.lastThr j
  let on := decide (s.obj (0x7020 + j) 1 = 1)
  let alloc := match s.srv.latch.command with
    | some c => (nth {} c.entries (2 * s.ident.node + j)).allocated
    | none => false
  let back := s.srv.fresh && alloc
  let s := { s with saf := { s.saf with
    lastThr := modifyNth (fun _ => st) s.saf.lastThr j
    stale := modifyNth (fun x => on && !s.srv.fresh && (x || decide (st = 5) || decide (st = 6))) s.saf.stale j
    staleOff := modifyNth (fun x => on && !back && (x || (decide (was = 6) && decide (st = 1)))) s.saf.staleOff j } }
  let s := if back ∨ ¬ on then s.modThr j fun q => { q with forced := false } else s
  if on ∧ 3000000 < s.srv.latch.age ∧ (st = 2 ∨ st = 3) ∧ ¬ (s.thr j).forced then
    let s := (s.modThr j fun q => { q with forced := true }).driveEnable j
    let s := { s with saf := { s.saf with
      stale := modifyNth (fun _ => true) s.saf.stale j, staleOff := modifyNth (fun _ => true) s.saf.staleOff j } }
    (s.count .control (0x7020 + j) 3).alarm .control (0x7020 + j) 3 1
  else if back then s.unalarm .control (0x7020 + j) 3 1
  else s

/-! ### Partner and settings -/

/-- A partner demand arrives (R601): where 7010h+j:07 reads 01h its rise is this twin's own SF-A demand. -/
def State.partnerDemand (s : State) (bits : Nat) : State :=
  let was := s.nat 0x7000 7
  let s := s.setObj 0x7000 7 (bits % 256 : Nat)
  let trip (s : State) (j : Nat) : State :=
    if s.sfaOn j ∧ s.obj (0x7010 + j) 7 = 1 ∧ bits.testBit j ∧ ¬ was.testBit j then s.setBit 0x7000 3 j true else s
  (trip (trip s 0) 1).showDemands

/-- Whether two channels may not stand together: the same input, or two inputs fed from the same supply (R610). -/
def channelsClash (a b feedA feedB : Int) : Bool :=
  decide (b ≠ 255) && (decide (a = b) || (decide (feedA ≠ 255) && decide (feedA = feedB)))

/-- Aborts of a write to the objects of this chapter beyond its range column (R607, R610, R611, R618, R624). -/
def State.safetyWriteAbort (s : State) (i sub : Nat) (v : Val) : Option Nat :=
  match v with
  | .bytes _ => none
  | .num n =>
    let clash (j : Nat) (g : Nat → Nat → Int) : Bool :=
      let a := g (0x7010 + j) 2
      let b := g (0x7010 + j) 3
      channelsClash a b (g (0x7040 + a.toNat) 1) (if b = 255 then 255 else g (0x7040 + b.toNat) 1)
    let g (a b : Nat) : Int := if a = i ∧ b = sub then n else s.latest a b
    if (i = 0x7010 ∨ i = 0x7011 ∨ i = 0x7020 ∨ i = 0x7021) ∧ s.isManager then some 0x06090030
    else if (i = 0x7018 ∨ i = 0x7028) ∧ ¬ s.isManager then some 0x06090030
    else if (i = 0x7010 ∨ i = 0x7011) ∧ (sub = 2 ∨ sub = 3) ∧ clash (i - 0x7010) g then some 0x06040043
    else if 0x7040 ≤ i ∧ i < 0x7050 ∧ sub = 1 ∧ ¬ s.isManager ∧ (clash 0 g || clash 1 g) then some 0x06040043
    else if 0x7030 ≤ i ∧ i < 0x7038 ∧ sub = 1 ∧ ((s.isManager ∧ n.toNat &&& 0x1B ≠ 0) ∨ (¬ s.isManager ∧ n.toNat &&& 0x24 ≠ 0))
      then some 0x06040043
    else if i = 0x7000 ∧ sub = 4 ∧ ((n.toNat.testBit 2 ∧ s.bit 0x7000 3 2 ∧ s.saf.presentB)
        ∨ (n.toNat.testBit 5 ∧ s.bit 0x7000 3 5 ∧ s.saf.presentD)
        ∨ (n.toNat.testBit 6 ∧ (List.range 8).any fun k => s.bit (0x7030 + k) 5 4 && (nth {} s.saf.outs k).present)) then
      some 0x08000022
    else if i = 0x7018 ∧ sub = 4 ∧ n < s.latest 0x5001 4 + 1000 then some 0x06040043
    else if i = 0x5001 ∧ sub = 4 ∧ s.isManager ∧ s.latest 0x7018 4 < n + 1000 then some 0x06040043
    else none

/-- A local setting, or 7000h:04's reset of SF-A and SF-E, has taken effect (R610, R611). -/
def State.safetyApplied (s : State) (i sub : Nat) (new : Int) : State :=
  if i = 0x7000 ∧ sub = 4 then
    let m := new.toNat
    let s := s.setObj 0x7000 4 0
    let one (s : State) (j : Nat) : State :=
      if m.testBit j ∧ s.obj (0x7010 + j) 6 = 1 then s.sfaReset j else s
    let s := one (one s 0) 1
    let s := if m.testBit 6 then s.sfeReset else s
    { s with saf := { s.saf with resetB := s.saf.resetB || m.testBit 2, resetD := s.saf.resetD || m.testBit 5 } }
  else if 0x7010 ≤ i ∧ i < 0x7050 then s.showSupplies.safetyEval
  else s

end Sys2Proof.Machine
end

