-- ==== Sys2Proof/Machine/Roles.lean ====
section
/-! DEFINITION. Roles of the twins (chapter 15): the discrete lines, lanes, role resolution, hard faults, SUSPECT, takeover. -/

namespace Sys2Proof.Machine

open Sys2Proof

/-! ### What a twin sees of its partner -/

/-- Whether this twin is the one named in 8000h:03. -/
def State.preferred (s : State) : Bool := decide (s.obj 0x8000 3 = if s.ident.twin = .a then 0 else 1)

/-- Ring frames since the one in which the partner's slot has passed, or returned, last; a frame that did not arrive counts by its
1 ms. -/
def State.ringGap (s : State) : Nat :=
  if s.originates then
    let k := if s.ownSlot % 2 = 0 then s.ownSlot + 1 else s.ownSlot - 1
    match nth none s.ring.slots k with
    | some (_, _, _, frame) => s.nat 0x8100 2 - frame
    | none => 4
  else s.ring.partnerGap + (s.now - s.ring.commandAt) / 1000000

/-- The partner is present on the rings (chapter 14): its slot has passed, or returned, in one of the last three frames. -/
def State.partnerOnRing (s : State) : Bool := decide (s.ringGap ≤ 2)

/-- The partner counts as present (R554). -/
def State.partnerPresent (s : State) : Bool := s.pair.aliveIn || s.partnerOnRing

/-- Twins in step: one ACTIVE, the other STANDBY. -/
def State.inStep (s : State) : Bool :=
  s.linkUp && ((decide (s.role = .active) && decide (s.pair.partnerRole = some .standby))
    || (decide (s.role = .standby) && decide (s.pair.partnerRole = some .active)))

/-- Live values of the pair objects (8000h:0B, :0C, 8030h:08). -/
def State.pairView (s : State) (i sub : Nat) : Option Int :=
  if i = 0x8000 ∧ sub = 0x0C then
    let b (c : Bool) (n : Nat) : Nat := if c then 2 ^ n else 0
    let up (n : Nat) : Bool := (nth {} s.pair.lanes n).up
    let kept := s.nat 0x8000 0x0C
    some (b s.linkUp 0 + b s.pair.aliveIn 1 + b s.pair.takeIn 2 + b s.partnerOnRing 3 + b s.inStep 4 + b (s.linkUp && !(up 0 && up 1)) 5
      + b (kept.testBit 6) 6 + b (kept.testBit 7) 7 : Nat)
  else if i = 0x8000 ∧ sub = 0x0B then
    some (min 3 (s.pair.faultTimes.filter fun f => decide (s.mt < f + 86400000000000)).length : Nat)
  else if i = 0x8030 ∧ sub = 8 then
    let n := s.nat 0x8030 1 * 3600
    if n = 0 then some 0
    else
      let at' : Int := (s.mt / 1000000000 : Nat) - s.obj 0x8030 2
      some ((n : Int) - at' % n)
  else none

/-- Lane status as reported (8010h:01); [3] is the pattern test's own. -/
def State.showLane (s : State) (n : Nat) : State :=
  let l : Lane := nth {} s.pair.lanes n
  ((s.setBit (0x8010 + n) 1 0 l.los).setBit (0x8010 + n) 1 1 l.blockLock).setBit (0x8010 + n) 1 2 l.up

/-- One lane changed. -/
def State.modLane (s : State) (n : Nat) (f : Lane → Lane) : State :=
  { s with pair := { s.pair with lanes := modifyNth f s.pair.lanes n } }

/-- The alarm on a single lane (R543). -/
def State.laneAlarm (s : State) : State :=
  let up (n : Nat) : Bool := (nth {} s.pair.lanes n).up
  s.alarmIf (s.linkUp && !(up 0 && up 1)) .control 0x8000 0x0C 1

/-- The pulse line TAKE_OVER_O (R552). -/
def State.takeOver (s : State) (on : Bool) : State :=
  if s.pair.takeOut = on then s else { s with pair := { s.pair with takeOut := on } }.tell (.takeOver on)

/-- Answers that wait for the other twin end: with `done` where the write is now applied alone (R591), with 08000020h where a
takeover keeps both twins from holding it (R593). -/
def State.endAcks (s : State) (takeover : Bool) : State :=
  let s := s.dict.acks.foldl (fun (s : State) (a : AckWait) =>
    s.answer a.client a.key (if takeover && a.seqNo.isNone then .abort 0x08000020 else .done)) s
  { s with dict := { s.dict with acks := [] } }

/-- The twin's drives and pads follow its role (R557, R577, R584). -/
def State.driveRole (s : State) : State :=
  if s.isManager then s
  else
    let s := (s.driveEnable 0).driveEnable 1
    if s.role = .active then s else s.tell .excOff

/-- What the test access port executes in ACTIVE and STANDBY: any instruction but IDCODE is BYPASS (R77). -/
def TapIr.secured : TapIr → TapIr
  | .idcode => .idcode
  | _ => .bypass

/-- The role itself changes: what it restarts in the state of the pair, and the test access port (R77). -/
def State.putRole (s : State) (r : PairRole) : State :=
  { s with
     held := if r = PairRole.slipway then [] else s.held
     tap := if r = PairRole.active ∨ r = PairRole.standby then s.tap.secured else s.tap
     pair := { s.pair with
      role := r
      misses := 0
      decided := none
      ownDigest := none
      formed := none
      activeSince := if r = PairRole.active then s.now else s.pair.activeSince
      stopOriginatedAt := if s.pair.role = PairRole.active ∧ s.isManager then some s.now else s.pair.stopOriginatedAt
      selfTest := if r = PairRole.suspect then .running else if s.pair.role = PairRole.suspect then .none else s.pair.selfTest
      selfTestAt := if r = PairRole.suspect then s.now else s.pair.selfTestAt
      slipFrom := if r = PairRole.slipway then s.now else s.pair.slipFrom
      slipFailedAt := none
      slipDiverged := false
      slipSend := 0
      joinMatches := 0
      drillPlaced := false, drillRequested := false, drillDueAt := none } }

/-- A role change of Table 15-5 with its cause (8000h:05): lines, drives, safe outputs, the test access port
(R77), counters and the event. -/
def State.roleTo (s : State) (r : PairRole) (cause : Nat) : State :=
  let old := s.role
  if old = r then s
  else
    let s := s.putRole r
    let s := if old = PairRole.suspect ∨ old = PairRole.offline then { s with saf := { s.saf with sff := false } } else s
    let s := s.setObjs [(0x8000, 1, (r.code : Nat)), (0x8000, 5, (cause : Nat)), (0x8040, 1, if r = PairRole.slipway then 1 else 0)]
    let s := s.count .control 0x8000 8
    let sev := if r = PairRole.suspect ∨ r = PairRole.offline then 0 else if cause = 2 ∨ cause = 3 ∨ cause = 4 ∨ cause = 8 then 2 else 3
    let s := s.event .control 0x8000 1 sev [BitVec.ofNat 8 r.code, BitVec.ofNat 8 cause]
    let s := if r = PairRole.active then s.leadTime else s
    let s := (s.endInjection.takeOver (decide (r = PairRole.active))).driveRole
    let s := if r = PairRole.slipway then (s.setObjs [(0x8040, 2, 0), (0x8040, 6, 0)]).twSend .control [1] else s
    s.showDemands

/-- OFFLINE to the next power-up or MRST_N release (Table 15-5). -/
def State.goOffline (s : State) (cause : Nat) : State :=
  let s := s.roleTo .offline cause
  { s with pair := { s.pair with offlineHeld := true, offlineRejoins := false } }

/-- A twin starts afresh: its stored configuration, a manager in DISENGAGED, a worker's thrusters in DISABLED (after Table
15-5, R95). -/
def State.startAfresh (s : State) : State :=
  let s := { s.reloadConfig with held := [] }
  if s.isManager then (s.stopMode 1).estStart
  else
    let one (s : State) (j : Nat) : State := if s.thrState j = 0 then s else s.enterThr s.now j 1 0
    (one (one s 0) 1).driveRole

/-- The twin becomes ACTIVE by resolution or claim (R558, R559): the pair as a whole was interrupted (R99). -/
def State.claimActive (s : State) : State :=
  let s := s.roleTo .active 1
  { s with power := { s.power with activeAlone := true }, pair := { s.pair with claiming := false } }

/-- Whether the twin's role can be resolved: OFFLINE and not held there, past 35 ms. -/
def State.resolvable (s : State) : Bool :=
  decide (s.role = .offline) && !s.pair.offlineHeld && !s.pair.offlineRejoins && !s.ident.held

/-! ### Lanes -/

/-- A strap mismatch between the modules of a link: OFFLINE, and one event (R20). -/
def State.strapMismatch (s : State) : State :=
  let s := s.goOffline 0x0C
  if s.ident.mismatch then s
  else { s with ident := { s.ident with held := true, mismatch := true } }.event .control 0x2000 4 3

/-- What a link that has come up makes of the roles (R558, Table 15-5); `partner` is the role the other twin reports, none
while it resolves its own; `partnerNs` how long it has held ACTIVE. -/
def State.resolveLink (s : State) (partner : Option PairRole) (partnerNs : Nat) : State :=
  match partner with
  | some .active =>
    match s.role with
    | .offline => if s.resolvable then s.roleTo .slipway 1 else s
    | .watch => s.roleTo .slipway 0x0F
    | .active =>
      let own := s.now - s.pair.activeSince
      if own < partnerNs ∨ (own = partnerNs ∧ ¬ s.preferred) then s.roleTo .slipway 0x0F else s
    | _ => s
  | other =>
    if ¬ (s.resolvable ∨ s.role = .watch) then s
    else if s.preferred ∨ other = some .offline ∨ other = some .suspect then s.claimActive
    else s.roleTo .slipway 1

/-- The role that a lane's headers report: the operand tells apart only an OFFLINE twin that resolves its role and one that is held. -/
def Lane.partnerRole (l : Lane) (partner : Option PairRole) : Option PairRole :=
  match l.heard with
  | some (_, .offline) => if partner.isNone then none else some .offline
  | some (_, r) => some r
  | none => partner

/-- LANE_UP (R20, R544, R558, R560): block lock and 100 consecutive intact messages. -/
def execLaneUp (t lane : Nat) (far : FarStraps) (partner : Option PairRole) (partnerActiveNs : Nat) (s : State) :
    Host.Outcome State Fault Refusal :=
  s.ported t fun s =>
    let l : Lane := nth {} s.pair.lanes lane
    if 2 ≤ lane ∨ l.up ∨ l.intactRun < 100 ∨ s.bit (0x8010 + lane) 1 3 then s
    else
      let was := s.linkUp
      let s := ((s.modLane lane fun q => { q with up := true, los := false, blockLock := true }).showLane lane).laneAlarm
      let partner := l.partnerRole partner
      let heard := (l.heard.map (·.1)).getD far.twin
      let fits := decide (far.duty = s.ident.duty) && decide (far.twin ≠ s.ident.twin) && decide (heard ≠ s.ident.twin)
        && (s.isManager || decide (far.node = s.ident.node))
      if ¬ fits then s.strapMismatch
      else if was then s
      else
        let s := { s with pair := { s.pair with partnerRole := some (partner.getD .offline) } }
        let s := s.setObj 0x8000 2 ((partner.getD .offline).code : Nat)
        s.resolveLink partner partnerActiveNs

/-- A failed transfer (R588): counted; the third consecutive one sends the twin to OFFLINE. -/
def State.slipFail (s : State) : State :=
  let s := (s.count .control 0x8040 5).setObjs [(0x8040, 1, 0)]
  let n := s.pair.slipFails + 1
  let s := { s with pair := { s.pair with slipFails := n, slipFailedAt := some s.now, slipDiverged := false, joinMatches := 0 } }
  if 3 ≤ n then s.goOffline 0x0D else s

/-- The link is lost: a partner that is present makes a STANDBY or SLIPWAY twin WATCH (Table 15-5, R589); a running transfer
fails (R588); answers that wait are given. -/
def State.linkLost (s : State) : State :=
  let s := { s with pair := { s.pair with
    partnerRole := none, recvKnown := false, recvAhead := [], waiting := [], lostAt := s.now, setAgreed := false } }
  let s := (s.setObj 0x8000 2 0xFF).endAcks false
  let s := if s.role = .slipway ∧ s.obj 0x8040 1 ≠ 0 then s.slipFail else s
  if (s.role = .standby ∨ s.role = .slipway) ∧ s.partnerPresent then s.roleTo .watch 7 else s

/-- LANE_DOWN (R544): TW_LOS high for 10 µs, lost block lock, or 30 µs without an intact message; `alive` is PAIR_ALIVE_I as read. -/
def execLaneDown (t lane : Nat) (cause : LinkCause) (heldNs : Nat) (alive : Bool) (s : State) : Host.Outcome State Fault Refusal :=
  s.ported t fun s =>
    let l : Lane := nth {} s.pair.lanes lane
    if 2 ≤ lane ∨ (cause = .silence ∧ s.now < l.lastHeard + 30000) ∨ (cause = .los ∧ heldNs < 10000) then s
    else
      let s := { s with pair := { s.pair with aliveIn := alive } }
      let s := s.modLane lane fun q => { q with
        up := false, intactRun := 0, heard := none, los := if cause = .los then true else q.los
        blockLock := if cause = .silence then q.blockLock else false }
      let s := s.showLane lane
      if ¬ l.up then s
      else
        let s := ((s.count .control (0x8010 + lane) 6).laneAlarm).recheckTests
        if s.linkUp then s else s.linkLost

/-! ### Waiting, claiming, the discrete lines -/

/-- Start-up wait in ns (8000h:04). -/
def State.startWaitNs (s : State) : Nat := s.nat 0x8000 4 * 1000000

/-- The claim rule: TAKE_OVER_I low for the wait, or twice the wait in the twin that is not preferred (R559). -/
def State.claim (s : State) : State :=
  let wait := if s.preferred then s.startWaitNs else 2 * s.startWaitNs
  if s.pair.takeIn ∨ s.now < s.pair.waitFrom + wait then s
  else if s.role = .watch ∨ (s.resolvable ∧ s.pair.claiming) then s.claimActive
  else s

/-- STARTUP_WAIT_EXPIRY (R558): the wait ends with the link still lost. -/
def execStartupWaitExpiry (t : Nat) (alive : Bool) (s : State) : Host.Outcome State Fault Refusal :=
  s.ported t fun s =>
    if ¬ s.resolvable ∨ s.linkUp ∨ s.sinceOrigin < 35000000 + s.startWaitNs then s
    else
      let s := { s with pair := { s.pair with aliveIn := alive } }
      if s.partnerPresent then s.roleTo .watch 1
      else { s with pair := { s.pair with claiming := true } }.claim

/-- CLAIM_WAIT_EXPIRY (R559). -/
def execClaimWaitExpiry (t : Nat) (s : State) : Host.Outcome State Fault Refusal := s.ported t State.claim

/-- TAKE_OVER_I_RISE (R559): in OFFLINE or WATCH the claim wait starts again. -/
def execTakeOverIRise (t : Nat) (s : State) : Host.Outcome State Fault Refusal :=
  s.ported t fun s => { s with pair := { s.pair with takeIn := true, takeSince := s.now, waitFrom := s.now } }

/-- A trigger of a takeover reaches a STANDBY twin: the first one decides it (R576). -/
def State.decide' (s : State) (cause : Nat) : State :=
  if s.role = .standby ∧ s.pair.decided.isNone then { s with pair := { s.pair with decided := some (s.now, cause) } } else s

/-- TAKE_OVER_I_FALL (R576): a filtered fall after at least 1.0 ms high. -/
def execTakeOverIFall (t : Nat) (s : State) : Host.Outcome State Fault Refusal :=
  s.ported t fun s =>
    let long := s.pair.takeIn && decide (s.pair.takeSince + 1000000 ≤ s.now)
    let s := { s with pair := { s.pair with takeIn := false, takeSince := s.now, waitFrom := s.now } }
    if long then s.decide' 2 else s

/-- RELEASE (R549, R576): two consecutive intact RELEASE blocks on a lane; `blocks` is how many came in a row. -/
def execRelease (t lane blocks : Nat) (s : State) : Host.Outcome State Fault Refusal :=
  s.ported t fun s => if lane < 2 ∧ 2 ≤ blocks ∧ (nth {} s.pair.lanes lane).blockLock then s.decide' 3 else s

/-- PARTNER_GONE (R554, R576, Table 15-5): link lost, PAIR_ALIVE_I low and no partner on the rings, for 1.0 ms; `lowNs` is how long
PAIR_ALIVE_I has been low. -/
def execPartnerGone (t lowNs : Nat) (s : State) : Host.Outcome State Fault Refusal :=
  s.ported t fun s =>
    if s.linkUp ∨ lowNs < 1000000 ∨ s.ringGap < 4 ∨ s.now < s.pair.lostAt + 1000000 then s
    else
      let s := { s with pair := { s.pair with aliveIn := false } }
      match s.role with
      | .standby => s.decide' 4
      | .slipway => (s.roleTo .active 4).startAfresh
      | .suspect => if s.pair.selfTest = .passed then (s.roleTo .active 4).startAfresh else s
      | _ => s

/-- BOTH_ACTIVE_CONFLICT (R560): ACTIVE, link lost, TAKE_OVER_I high for 1.0 ms. -/
def execBothActiveConflict (t : Nat) (s : State) : Host.Outcome State Fault Refusal :=
  s.ported t fun s =>
    if s.role ≠ .active ∨ s.linkUp ∨ ¬ s.pair.takeIn
        ∨ s.now < max s.pair.takeSince (max s.pair.lostAt s.pair.activeSince) + 1000000 then s
    else
      let s := (s.setBit 0x8000 0x0C 7 true).alarm .control 0x8000 5 1
      if s.preferred then s else s.roleTo .watch 0x0B

/-! ### Hard faults and SUSPECT -/

/-- A hard fault is declared (R561, R562, R575, and R753 for an injected one, which is not counted): outputs off, RELEASE sent, TAKE_OVER_O off, notice sent; the role follows
Table 15-5; the third within 24 h of module time holds the twin in OFFLINE. -/
def State.hardFaultOf (s : State) (injected : Option (Nat × Nat)) : State :=
  let old := s.pair.faultTimes.filter fun f => decide (s.mt < f + 86400000000000)
  let times := if injected.isSome then old else s.mt :: old
  let s := match injected with
    | some q => s.declared q.1 q.2
    | none => s
  let s := { s with pair := { s.pair with faultTimes := times, hardFaultNow := true } }
  let s := ((s.event .control 0x8000 0x0B 0).tell .twRelease).twSend .control [4]
  if 3 ≤ times.length then s.goOffline 5
  else match s.role with
    | .active =>
      if s.pair.partnerRole = some .standby then s.roleTo .suspect 5
      else
        let s := s.roleTo .offline 5
        { s with pair := { s.pair with offlineRejoins := true, selfTest := .running, selfTestAt := s.now } }
    | .standby => s.roleTo .suspect 5
    | _ => s

/-- The hard fault of a detector: an injected one where the detector's injection has not been declared. -/
def State.hardFault (s : State) (d : FaultDetector) : State := s.hardFaultOf (s.injectedFault d)

/-- HARD_FAULT (R561, R575): a detector of Table 15-6 declares; P6 and P7 belong to the user pairs and are contained. -/
def execHardFault (t : Nat) (d : FaultDetector) (s : State) : Host.Outcome State Fault Refusal :=
  s.live t fun s =>
    match d with
    | .lockstep p => if p ≤ 5 then s.hardFault d else s
    | .heartbeat =>
      let s := { s with pair := { s.pair with aliveOut := false } }
      s.hardFault d
    | _ => s.hardFault d

/-- Whether the rejoin rules of R563 apply. -/
def State.mayRejoin (s : State) : Bool :=
  decide (s.pair.selfTest = .passed) && (decide (s.role = .suspect) || (decide (s.role = .offline) && s.pair.offlineRejoins))

/-- SUSPECT_SELF_TEST_DONE (R563): a failed self-test holds the twin in OFFLINE. -/
def execSuspectSelfTestDone (t : Nat) (passed : Bool) (s : State) : Host.Outcome State Fault Refusal :=
  s.live t fun s =>
    if s.pair.selfTest ≠ .running then s
    else if passed then { s with pair := { s.pair with selfTest := .passed, selfTestAt := s.now } }
    else if s.role = .offline then { s with pair := { s.pair with offlineHeld := true, offlineRejoins := false, selfTest := .none } }
    else s.goOffline 5

/-- The twin rejoins (R563, Table 15-5): into SLIPWAY with a lane up and the partner ACTIVE; from OFFLINE its role is resolved
again. -/
def State.rejoin (s : State) : State :=
  if s.linkUp ∧ s.pair.partnerRole = some .active then
    let s := s.roleTo .slipway 0x0A
    { s with pair := { s.pair with offlineRejoins := false, selfTest := .none } }
  else if s.role = .offline then
    { s with pair := { s.pair with offlineRejoins := false, selfTest := .none, claiming := true } }
  else s

/-- AUTO_REJOIN (R563): 60 s after a passed self-test, fewer than 8000h:07 automatic rejoins in the last 24 h. -/
def execAutoRejoin (t : Nat) (s : State) : Host.Outcome State Fault Refusal :=
  s.ported t fun s =>
    let times := s.pair.rejoinTimes.filter fun f => decide (s.now < f + 86400000000000)
    if ¬ s.mayRejoin ∨ s.now < s.pair.selfTestAt + 60000000000 ∨ s.nat 0x8000 7 ≤ times.length then s
    else
      let was := s.role
      let s := s.rejoin
      if s.role = was ∧ s.mayRejoin then s else { s with pair := { s.pair with rejoinTimes := s.now :: times } }

/-! ### Takeover -/

/-- The new active manager takes up the frame grid; a takeover within 38 µs of a frame start repeats its command section
(R540, R578). -/
def State.takeFrames (s : State) : State :=
  let s := s.buildFrame s.mt
  let off : Int := ((s.mt : Int) - (s.ctl.t0 + s.phiNs)) % 1000000
  let start : Int := s.mt - off
  let frame := s.nat 0x8100 2
  -- the section this twin has received of the frame in progress, or the one that its originator sent (R33, R517)
  let got := s.ring.command.filter fun _ => decide ((s.now : Int) - s.ring.commandAt ≤ off)
  let cycle := (s.ring.command.map (·.cycle)).getD s.ring.cycleNo
  let first := decide (start = s.ctl.t0 + s.phiNs)
  let command : CmdSection := got.getD { s.commandSection ((frame + 1) % 4294967296) (if first then (cycle + 1) % 65536 else cycle) with twin := s.ident.twin.other }
  let s := { s with ring := { s.ring with start := start, nextStart := some (start + 1000000), cycleNo := command.cycle } }
  let s : State := s.setObj 0x8100 2 (command.frame : Nat)
  if decide (off ≤ 38000) && s.power.portsOn then
    ((s.count .control 0x8100 0x0C).sendRing command.bytes 0).sendRing command.bytes 1
  else s

end Sys2Proof.Machine
end

