-- ==== Sys2Proof/Machine/Pair.lean ====
section
/-! DEFINITION. Messages over Terward, Gander's comparison, swap drills and the slipway transfer (chapter 15). -/

namespace Sys2Proof.Machine

open Sys2Proof

/-- What comes about at 710 µs of a cycle, or 8 µs after a sample instant, by the first command from then on that could show it: the
command frame is built and the digests leave (Tables 1-9 and 13-1, R572; log entry 6). -/
def State.closeCycle (s : State) : State :=
  let s := s.buildFrame s.mt
  match s.pair.formed with
  | none => s
  | some d =>
    if (s.mt : Int) < d.at' then s
    else
      let s := { s with pair := { s.pair with formed := none, ownDigest := some d } }
      (s.setBlob 0x8020 8 d.output).twSend .digest ((d.count : Int) :: d.state :: d.output.map fun b => (b.toNat : Int))

/-! ### Receiving -/

/-- Type of a message by its code (Table 15-3); reserved codes have none. -/
def twKindOf : Nat → Option TwKind
  | 1 => some .input | 2 => some .set | 3 => some .setAck | 4 => some .digest | 5 => some .time
  | 6 => some .write | 7 => some .slipway | 8 => some .control | 9 => some .heartbeat | _ => none

/-- Message `n` is new: beyond what has been received in order and not among those received ahead (R543). -/
def Pair.isNew (p : Pair) (n : Nat) : Bool :=
  !p.recvKnown || (decide (0 < (n + 4294967296 - p.recvSeq) % 4294967296)
    && decide ((n + 4294967296 - p.recvSeq) % 4294967296 < 2147483648) && !p.recvAhead.contains n)

/-- The highest sequence number received in order, moved over those received ahead. -/
def advanceSeq : Nat → Nat → List Nat → Nat × List Nat
  | 0, seq, ahead => (seq, ahead)
  | n + 1, seq, ahead =>
    let next := (seq + 1) % 4294967296
    if ahead.contains next then advanceSeq n next (ahead.filter fun a => decide (a ≠ next)) else (seq, ahead)

/-- A new message is taken into the order of receipt. -/
def Pair.take (p : Pair) (n : Nat) : Pair :=
  if ¬ p.recvKnown then { p with recvKnown := true, recvSeq := n, recvAhead := [] }
  else
    let ahead := n :: p.recvAhead
    let (seq, ahead) := advanceSeq ahead.length p.recvSeq ahead
    { p with recvSeq := seq, recvAhead := ahead }

/-- Answers that waited for the partner to hold the write are given (R592, R593). -/
def State.releaseAcks (s : State) : State :=
  let reached (a : AckWait) : Bool := match a.seqNo with
    | some n => decide ((s.pair.ackedByPartner + 4294967296 - n) % 4294967296 < 2147483648)
    | none => false
  let s' := (s.dict.acks.filter reached).foldl (fun (s : State) (a : AckWait) => s.answer a.client a.key .done) s
  { s' with dict := { s'.dict with acks := s.dict.acks.filter fun a => !reached a } }

/-- What an intact header says of the partner: its role and what it has received (Table 15-2); a joining partner that has become
STANDBY ends writes applied alone (R591), and an ACTIVE partner takes a resolving twin into SLIPWAY (Table 15-5). -/
def State.takeHeader (s : State) (h : TwHeader) : State :=
  let role := PairRole.ofCode h.role
  let s := if s.pair.partnerRole = some .slipway ∧ role = .standby then s.setBit 0x8000 0x0C 6 false else s
  let left := decide (s.pair.partnerRole = some .active) && decide (role ≠ .active)
  let s := { s with pair := { s.pair with partnerRole := some role, ackedByPartner := h.highest, partnerLive := s.pair.partnerLive && decide (role = PairRole.slipway) } }.setObj 0x8000 2 (h.role : Nat)
  let s := s.releaseAcks
  let s := if left ∧ s.role = .slipway ∧ s.obj 0x8040 1 ≠ 0 then s.slipFail else s
  if s.linkUp ∧ role = .active ∧ s.resolvable then s.roleTo .slipway 1
  else if s.linkUp ∧ role = .standby ∧ s.role = .active then s
  else if s.role = .active ∧ role ≠ .standby ∧ role ≠ .slipway then s.endAcks false
  else s

/-- A message arrives on a lane as code words of 19 lanes (R543, R545, R546, R548, R20, R746). An intact one counts toward the lane,
speaks for the partner, and its content waits for the command that takes it. -/
def State.takeMessage (s : State) (lane : Nat) (words : List (List Byte)) : State :=
  if 2 ≤ lane ∨ s.bit (0x8010 + lane) 1 3 then s
  else
    let i := 0x8010 + lane
    let reads := words.map readWord
    let uncorrectable := (reads.filter fun r => decide (r = WordRead.bad)).length
    let data := (reads.map WordRead.data).dropLast.flatten
    let tail := (reads.map WordRead.data).getLastD []
    let (h, payload) := readTwHeader data
    let crcOk := decide (field tail 0 4 = crc32c data) && decide (words.length = payload + 2)
    let s := s.setObj i 7 ((s.obj i 7 + 16 * words.length) % 18446744073709551616)
    let s := s.countBy .control i 3 (reads.filter WordRead.wasCorrected).length
    if 0 < uncorrectable then (s.countBy .control i 4 uncorrectable).modLane lane fun q => { q with intactRun := 0 }
    else if ¬ crcOk then (s.count .control i 5).modLane lane fun q => { q with intactRun := 0 }
    else
      let s := s.modLane lane fun q =>
        { q with lastHeard := s.now, intactRun := q.intactRun + 1, heard := some (h.twin, PairRole.ofCode h.role) }
      if ¬ (nth {} s.pair.lanes lane).up then s
      else if h.twin = s.ident.twin then s.strapMismatch
      else match twKindOf h.kind with
        | none => s.count .control i 0x0A
        | some k =>
          if ¬ s.pair.isNew h.seqNo then s
          else
            let s := { s with pair := s.pair.take h.seqNo }
            let s := if k = .heartbeat then s
              else { s with pair := { s.pair with waiting := s.pair.waiting ++ [(k, h.seqNo, 16 * words.length)] } }
            s.takeHeader h

/-- The oldest waiting message of a type is taken; none waits: none. -/
def State.takeWaiting (s : State) (k : TwKind) : Option State :=
  match s.pair.waiting.find? fun w => decide (w.1 = k) with
  | none => none
  | some w => some { s with pair := { s.pair with waiting := s.pair.waiting.erase w } }

/-- A message's content has its effect when a message of its type waits. -/
def State.onMessage (s : State) (k : TwKind) (f : State → State) : State :=
  match s.takeWaiting k with
  | none => s
  | some s => f s

/-! ### Inputs of the partner (R565) -/

/-- An input of the partner joins the pool; it is the one being decoded. -/
def State.poolPartner (s : State) (source stamp : Nat) (data : List Byte) : State :=
  let last := (s.pair.pool.filter fun (p : PoolInput) => ¬ p.own ∧ p.source = source).map (·.seqNo)
  let n := last.foldl max 0 + 1
  { s with pair := { s.pair with
    inputNum := n
    pool := s.pair.pool ++ [{ source := source, seqNo := n, stamp := stamp, own := false, sentAs := 0, data := data }] } }

/-- What an input of the partner does at this twin, source by source (R240, R298, R471, R499, R565). -/
def State.partnerInput (s : State) : PairInput → State
  | .packet port words d =>
    if 12 ≤ port then s
    else ((s.poolPartner port (words.getD 1 0) (words.flatMap (leBytes 4))).decodePacket port (packetIn words { words := words.length, at' := s.mt }) false d).unmarkInput
  | .chain c value stamp =>
    if 24 ≤ c then s
    else
      let s := s.poolPartner (12 + c) stamp (leBytesInt 4 value)
      if s.isManager ∨ s.ownChain c then s else s.modChain c fun k => { k with recent := (value, stamp) :: k.recent }
  | .solution which r =>
    if 4 ≤ which then s
    else
      let s := s.poolPartner 36 r.instant [BitVec.ofNat 8 which]
      let s := s.keepProduct { own := false, num := 0, sent := 0, arrival := 0, instant := r.instant, which := which, solution := some r }
      (s.productSample s.ident.twin.other which r r.fix).unmarkInput
  | .attitude st r =>
    let s := s.poolPartner 37 r.instant [BitVec.ofNat 8 st]
    let s := s.keepProduct { own := false, num := 0, sent := 0, arrival := 0, instant := r.instant, which := 4
                             heading := if st = 3 then some r.heading else none }
    (s.attitudeProduct s.ident.twin.other st r).unmarkInput
  | .record b =>
    let at' := leNat (b.take 6) * 1000000000 + leNat ((b.drop 6).take 4)
    (s.poolPartner 38 at' b).keepProduct { own := false, num := 0, sent := 0, arrival := 0, instant := at', which := 5, record := b }
  | .encoder e angle low =>
    let s := s.poolPartner (40 + e) s.stamp32 (leBytes 4 angle)
    if s.isManager ∨ s.ownIsActive ∨ 4 ≤ e then s else s.encoderAngle e angle low
  | .drvfb j energised =>
    let s := s.poolPartner (44 + j) s.stamp32 [if energised then 1 else 0]
    if s.isManager ∨ 2 ≤ j then s else s.driveLevel false j energised

/-- INPUT_MESSAGE (R565). -/
def execInputMessage (t : Nat) (inp : PairInput) (s : State) : Host.Outcome State Fault Refusal :=
  s.ported t fun s => s.onMessage .input fun s =>
    if s.role = .offline ∨ s.role = .watch then s else (s.partnerInput inp).unmarkInput

/-! ### Time and heartbeats -/

/-- TIME_MESSAGE_SEND (R550, R791): every 1 ms the active twin sends TIME while a lane is up: its stamp, its estimated error, and the
step it announces. -/
def execTimeMessageSend (t : Nat) (s : State) : Host.Outcome State Fault Refusal :=
  s.ported t fun s =>
    if s.role ≠ .active ∨ ¬ s.linkUp ∨ s.now < s.pair.lastTime + 1000000 then s
    else { s with pair := { s.pair with lastTime := s.now } }.twSend .time ((s.mt : Int) :: s.estErrObj :: (match s.clock.step with
      | some { amountNs := a, atSec := some sec } => [a, (sec : Int)]
      | _ => []))

/-- TIME_MESSAGE_TW (R550, R791, R122): a TIME exchange on a lane: both one-way stamp differences in ps (reception less
sending), the sender's estimated error and the step it announces (R133). The lane's round trip is kept; a twin whose partner is ACTIVE takes its offset over
lane 0 when that is up, and follows. -/
def execTimeMessageTw (t lane : Nat) (there back : Int) (err : Option Nat) (step : Option (Int × Nat)) (s : State) : Host.Outcome State Fault Refusal :=
  s.ported t fun s =>
    if 2 ≤ lane ∨ ¬ (nth {} s.pair.lanes lane).up then s
    else s.onMessage .time fun s =>
      let s := s.setObj (0x8010 + lane) 9 (clampInt 0 0xFFFFFFFE (there + back))
      if s.pair.partnerRole ≠ some .active ∨ s.role = .active then s
      else
        let s := s.twSend .time [(s.mt : Int), s.estErrObj]
        let s := match step with
          | some (a, sec) => { s with clock := { s.clock with step := some { amountNs := a, atSec := some sec } } }
          | none => s
        if lane = 1 ∧ (nth {} s.pair.lanes 0).up then s
        else { s with clock := { s.clock with leaderErr := err } }.follow ((there - back) / 2)

/-- HEARTBEAT_SEND (R544): nothing sent on a lane for 10 µs. -/
def execHeartbeatSend (t lane : Nat) (s : State) : Host.Outcome State Fault Refusal :=
  s.ported t fun s =>
    let s := s.closeCycle
    if 2 ≤ lane ∨ s.now < (nth {} s.pair.lanes lane).lastSent + 10000 ∨ s.bit (0x8010 + lane) 1 3 then s
    else
      let n := (s.pair.sendSeq + 1) % 4294967296
      let s := s.modLane lane fun q => { q with lastSent := s.now }
      let s := s.setObj (0x8010 + lane) 8 ((s.obj (0x8010 + lane) 8 + 32) % 18446744073709551616)
      ({ s with pair := { s.pair with sendSeq := n } }.tell (.tw .heartbeat (s.twHeader .heartbeat n 0) [])).spoilCrc 6 lane

/-! ### Control messages -/

/-- HARD_FAULT_NOTICE (R575). -/
def execHardFaultNotice (t : Nat) (s : State) : Host.Outcome State Fault Refusal :=
  s.ported t fun s => s.onMessage .control fun s =>
    { s with pair := { s.pair with partnerFaultNow := true } }.event .control 0x8000 2 3

/-- PARTNER_DEMAND (R601). -/
def execPartnerDemand (t demands : Nat) (s : State) : Host.Outcome State Fault Refusal :=
  s.ported t fun s => s.onMessage .control fun s => s.partnerDemand demands

/-! ### The input set (R567) -/

/-- SET_ACK_MESSAGE (R567): the set is agreed when the digest of the set as built matches. -/
def execSetAckMessage (t count : Nat) (digest : List Byte) (s : State) : Host.Outcome State Fault Refusal :=
  s.ported t fun s => s.onMessage .setAck fun s =>
    if s.role = .active ∧ count = s.setCount ∧ digest = s.pair.setDigest then { s with pair := { s.pair with setAgreed := true } } else s

/-! ### Gander (R571 to R574) -/

/-- The twin executes the set of the running cycle or period and forms digests: ACTIVE, STANDBY, or SLIPWAY in phase 4. -/
def State.executesSet (s : State) : Bool :=
  decide (s.role = .active) || decide (s.role = .standby) || (decide (s.role = .slipway) && decide (s.obj 0x8040 1 = 4))

/-- A digest is due from the partner (R573). -/
def State.digestDue (s : State) : Bool :=
  s.executesSet && (decide (s.pair.partnerRole = some .active) || decide (s.pair.partnerRole = some .standby)
    || (decide (s.pair.partnerRole = some .slipway) && s.pair.partnerLive))

/-- The digests of this cycle or sample are formed over the output record and the values of the state record (R571), to leave at `from'`, one bit inverted by an injection (Table 22-2, 04h;
log entry 41). -/
def State.formDigest (s : State) (output : List Byte) (st : List Int) (from' deadline : Int) : State :=
  if ¬ s.executesSet then s
  else
    let d : DigestRec := { count := s.setCount
                           output := sha256 output, state := crc64 (Config.recordBytes st)
                           at' := from', deadline := deadline }
    let d := match s.diagn.flip with
      | some 0 => { d with output := modifyNth (fun b => b ^^^ 1) d.output 0 }
      | some _ => { d with state := d.state ^^^ 1 }
      | none => d
    { s with diagn := { s.diagn with flip := none }, pair := { s.pair with formed := some d } }

/-- The standby's list of a user pair against this twin's (R777); with the same count only. -/
def State.compareLists (s : State) (u count : Nat) (crc : Option Nat) : State :=
  match (nth {} s.user u).list, crc with
  | some (n, own), some c =>
    if n = count ∧ own ≠ c then (s.count .control (0xA000 + u) 0x0A).alarm .control (0xA000 + u) 0x0A 1 else s
  | _, _ => s

/-- DIGEST_MESSAGE (R572, R777): `lists` is the CRC of each user pair's committed list, none where none was committed. -/
def execDigestMessage (t count : Nat) (output : List Byte) (st : Nat) (lists : List (Option Nat)) (s : State) : Host.Outcome State Fault Refusal :=
  s.ported t fun s => s.closeCycle.onMessage .digest fun s =>
    let s := { s with pair := { s.pair with partnerDigest := some { count := count, output := output, state := st, at' := s.mt } } }
    if s.role ≠ .active then s else (s.compareLists 0 count (nth none lists 0)).compareLists 1 count (nth none lists 1)

/-- A divergence: counted, recorded, and resolved alike in both twins (R574). -/
def State.diverge (s : State) (own : DigestRec) (outputs states : Bool) : State :=
  let s := (if outputs then s.declared 4 0 else s)
  let s := (if states then s.declared 4 1 else s)
  let s := if outputs then (s.count .control 0x8020 3).event .control 0x8020 3 3 else s
  let s := if states then (s.count .control 0x8020 4).event .control 0x8020 4 3 else s
  let s := s.alarm .control 0x8020 7 1
  let activeFault := (decide (s.role = .active) && s.pair.hardFaultNow) || (decide (s.role ≠ .active) && s.pair.partnerFaultNow)
  let s := s.setObjs [(0x8020, 2, 0), (0x8020, 6, (own.count : Nat)), (0x8020, 7, if activeFault then 2 else 1)]
  if s.role = .slipway then { s with pair := { s.pair with slipDiverged := true } }
  else if s.role = .standby ∧ ¬ activeFault then s.roleTo .suspect 6
  else s

/-- The comparison at the deadline. -/
def State.compareDigests (s : State) (own : DigestRec) : State :=
  let missed (s : State) : State :=
    let s := s.count .control 0x8020 5
    let s := { s with pair := { s.pair with misses := s.pair.misses + 1 } }
    if 10 ≤ s.pair.misses ∧ s.linkUp ∧ s.role = .standby then s.roleTo .suspect 0x0E else s
  match s.pair.partnerDigest with
  | none => missed s
  | some p =>
    if p.count ≠ own.count ∨ own.deadline < p.at' then missed s
    else
      let s := s.count .control 0x8020 1
      let s := { s with pair := { s.pair with misses := 0 } }
      let o := decide (p.output ≠ own.output)
      let st := decide (p.state ≠ own.state)
      if o || st then s.diverge own o st
      else
        let s := s.count .control 0x8020 2
        { s with pair := { s.pair with joinMatches := s.pair.joinMatches + 1 } }.unalarm .control 0x8020 7 1

/-- GANDER_COMPARE (R572 to R574): once this twin's digests have left; a digest of the partner that came after the deadline is a
miss. -/
def execGanderCompare (t : Nat) (s : State) : Host.Outcome State Fault Refusal :=
  s.ported t fun s =>
    let s := s.closeCycle
    match s.pair.ownDigest with
    | none => s
    | some own =>
      let s := if s.digestDue then s.compareDigests own else s
      { s with pair := { s.pair with ownDigest := none, partnerDigest := none, hardFaultNow := false, partnerFaultNow := false } }

/-! ### Swap drills (R581 to R585) -/

/-- A drill is eligible (R582). -/
def State.drillEligible (s : State) : Bool := decide (s.pair.partnerRole = some .standby) && decide (100 ≤ s.obj 0x8020 2)

/-- DRILL_DUE (R581, R582): module time is in a second of the schedule, once each. -/
def execDrillDue (t : Nat) (s : State) : Host.Outcome State Fault Refusal :=
  s.live t fun s =>
    let n := s.nat 0x8030 1 * 3600
    let sec := s.mt / 1000000000
    if s.role ≠ .active ∨ n = 0 ∨ s.clock.state = .unset then s
    else
      let k : Int := ((sec : Int) - s.obj 0x8030 2) / n
      let mark := (k * n + s.obj 0x8030 2).toNat
      if mark ≤ s.pair.lastDrillMark ∨ sec ≠ mark then s
      else { s with pair := { s.pair with lastDrillMark := mark, drillDueAt := some (s.pair.drillDueAt.getD s.mt) } }

/-- At a boundary the active twin places a drill that is due in the set, defers it, or skips it after 10 min (R582, R585). -/
def State.placeDrill (s : State) : State :=
  match s.pair.drillDueAt with
  | none => s
  | some d =>
    if s.role ≠ .active ∨ s.pair.drillPlaced then s
    else if s.drillEligible then { s with pair := { s.pair with drillPlaced := true, drillDueAt := none, drillRequested := false } }
    else if d + 600000000000 ≤ s.mt then
      let s := (s.count .control 0x8030 6).alarm .control 0x8030 6 1
      { s with pair := { s.pair with drillDueAt := none, drillRequested := false } }
    else s.count .control 0x8030 5

/-- At the drill boundary the roles exchange (R583, R584). -/
def State.swapRoles (s : State) : State :=
  if ¬ s.pair.drillPlaced then s
  else
    let s := { s with pair := { s.pair with drillPlaced := false } }
    let done (s : State) (r p : PairRole) : State :=
      let s := s.roleTo r 8
      let s := { s with pair := { s.pair with partnerRole := some p } }.setObj 0x8000 2 (p.code : Nat)
      let s := (s.count .control 0x8030 4).setObj 0x8030 7 (s.mt / 1000000000 : Nat)
      (s.unalarm .control 0x8030 6 1).event .control 0x8030 4 2
    match s.role with
    | .active => if s.pair.partnerRole = some .standby then done s .standby .active else s
    | .standby =>
      let s := done s .active .standby
      if s.isManager then { s with ring := { s.ring with nextStart := some (s.ctl.t0 + s.phiNs % 1000000) } } else s
    | _ => s

/-! ### Slipway transfer (R586 to R588) -/

/-- Whether a joining twin takes an object of the configuration from its partner: not the rw ones, which each twin has of its
own, nor identity (R587; log entry 37). -/
def copiedObject (k : Nat) : Bool :=
  match odRow (k / 256) (k % 256) with
  | some r => (match r.acc with
      | .pairWide | .guarded | .rwMapped => true
      | _ => false) && !commandObject (k / 256) (k % 256)
  | none => false

/-- Values of a set of objects as a record carries them. -/
def storeInts (m : Store) : List Int := m.flatMap fun e => [(e.1 : Int), e.2]

/-- Byte strings as a record carries them. -/
def blobInts (m : Blobs) : List Int := m.flatMap fun e => (e.1 : Int) :: (e.2.length : Int) :: e.2.map fun b => (b.toNat : Int)

/-- An image as a record carries it. -/
def Image.ints (g : Image) : List Int := storeInts g.nums ++ blobInts g.blobs ++ [if g.valid then 1 else 0]

/-- The configuration of phase 1 (Table 15-9): objects, tables and banks, side stores, object store images. -/
def State.configInts (s : State) : List Int :=
  storeInts (s.od.filter fun e => copiedObject e.1) ++ blobInts (s.blobs.filter fun e => copiedObject e.1)
    ++ (s.mram.sides.flatMap fun (k : Option KeptVec) => match k with
      | some v => (v.writtenS : Int) :: (v.vals ++ v.vars).flatMap fun q => [q.num, (q.den : Int)]
      | none => [])
    ++ (s.mram.current.map Image.ints).getD [] ++ (s.mram.previous.map Image.ints).getD []

/-- JOIN_REQUEST (R586): the active twin starts the transfer with phase 1; the next boundaries send its later phases. -/
def execJoinRequest (t : Nat) (s : State) : Host.Outcome State Fault Refusal :=
  s.ported t fun s => s.onMessage .control fun s =>
    if s.role ≠ .active then s
    else
      let s := s.twSend .slipway (1 :: s.configInts)
      { s with pair := { s.pair with slipSend := 2, partnerLive := false } }

/-- An image of the partner, with this twin's own entries for rw objects. -/
def mergeImage (own other : Option Image) : Option Image :=
  other.map fun g =>
    let mine := match own with
      | some o => o.nums.filter fun e => !copiedObject e.1
      | none => []
    { g with nums := ((g.nums.filter fun e => copiedObject e.1) ++ mine).foldl (fun (m : Store) e => assocInsert m e.1 e.2) [] }

/-- Counters among the objects 4120h to 6FFFh: indexes and subindices (Tables 8-5 to 13-8). -/
def counterRows : List (Nat × Nat × List Nat) :=
  [(0x4120, 22, [0x0A, 0x0B, 0x0C, 0x0D, 0x0E, 0x0F, 0x10]), (0x4140, 1, [4]), (0x4150, 12, [7, 8]), (0x4160, 1, [6, 7]),
   (0x4201, 1, [7, 8, 9, 0x0A, 0x0B]), (0x4230, 1, [0x10]), (0x4240, 10, [6, 7]), (0x4300, 1, [7, 8, 9]),
   (0x4301, 1, [0x0B, 0x0C, 0x0D]), (0x5000, 1, [9, 0x0A, 0x0B]), (0x5038, 1, [4, 5]), (0x5040, 1, [2, 6]),
   (0x5131, 1, [0x0B, 0x0C]), (0x5120, 8, [7, 8]), (0x6001, 1, [4, 5, 6]), (0x6020, 4, [9]), (0x6048, 1, [4, 5]),
   (0x6080, 2, [0x0C, 0x0D])]

/-- Objects that come with the dynamic state: what the control plane holds in 4120h to 6FFFh but for counters and a twin's own
settings, the user pairs' objects, and the cycle count (R571, R587, R778). -/
def stateObject (k : Nat) : Bool :=
  let i := k / 256
  let sub := k % 256
  let own := match odRow i sub with
    | some r => (match r.acc with
      | .rw => true
      | _ => false)
    | none => true
  let counter := counterRows.any fun q => decide (q.1 ≤ i) && decide (i < q.1 + q.2.1) && q.2.2.contains sub
  (decide (0x4120 ≤ i) && decide (i < 0x7000) && !own && !counter)
    || (decide (0xA000 ≤ i) && decide (i < 0xA030) && !([7, 8, 0x0A].contains sub)) || decide (k = okey 0x8000 0x0D)

/-- The dynamic state of the active twin is adopted (Table 15-9, R587), with it both user pairs (R778); the joining twin's drives stay
off (R557). -/
def State.adopt (s : State) (r : DynState) : State :=
  let od := s.od.filter fun e => !stateObject e.1
  let user := r.user.map fun (p : UserPair) =>
    { p with call := none, tcm := p.tcm.foldl (fun (m : List (Nat × Byte)) e => assocSet 0 m e.1 e.2) [] }
  let srv := { r.srv with thr := r.srv.thr.map fun (q : Thruster) => { q with drven := false } }
  let s := { s with
    user := user, align := r.align, est := r.est, trk := r.trk, ctl := r.ctl, alc := r.alc, srv := srv
    od := putKeys od (r.objects.filter fun e => stateObject e.1) }
  (s.setBit 0x6080 2 9 false).setBit 0x6081 2 9 false

/-- SLIPWAY_COMPLETE (R586, Table 15-5): phase 4 and ten consecutive matching comparisons. -/
def execSlipwayComplete (t : Nat) (s : State) : Host.Outcome State Fault Refusal :=
  s.ported t fun s =>
    if s.role ≠ .slipway ∨ s.obj 0x8040 1 ≠ 4 ∨ s.pair.joinMatches < 10 then s
    else
      let ms := (s.now - s.pair.slipFrom) / 1000000
      let s := { s with pair := { s.pair with slipFails := 0 } }
      let s := s.roleTo .standby 9
      (((s.setObjs [(0x8040, 1, 0), (0x8040, 2, 100), (0x8040, 3, (ms : Nat))]).count .control 0x8040 4).setBit 0x8000 0x0C 6 false)

/-- SLIPWAY_FAIL (R588): the link is lost, the partner is not ACTIVE, or phase 4 has diverged. -/
def execSlipwayFail (t : Nat) (s : State) : Host.Outcome State Fault Refusal :=
  s.ported t fun s =>
    if s.role = .slipway ∧ s.obj 0x8040 1 ≠ 0
        ∧ (¬ s.linkUp ∨ s.pair.partnerRole ≠ some .active ∨ s.pair.slipDiverged) then s.slipFail else s

/-- SLIPWAY_RETRY (R588): 10 s after a failed transfer the twin asks again. -/
def execSlipwayRetry (t : Nat) (s : State) : Host.Outcome State Fault Refusal :=
  s.ported t fun s =>
    match s.pair.slipFailedAt with
    | none => s
    | some f =>
      if s.role ≠ .slipway ∨ s.now < f + 10000000000 ∨ ¬ s.linkUp ∨ s.pair.partnerRole ≠ some .active then s
      else
        let s := { s with pair := { s.pair with slipFailedAt := none, slipFrom := s.now } }
        (s.setObjs [(0x8040, 1, 1), (0x8040, 2, 0), (0x8040, 6, 0)]).twSend .control [1]

/-! ### Settings -/

/-- Aborts of a write to the objects of this chapter beyond its range column (R563, R585). -/
def State.pairWriteAbort (s : State) (i sub : Nat) (v : Val) : Option Nat :=
  match v with
  | .bytes _ => none
  | .num _ =>
    if i = 0x8000 ∧ sub = 6 ∧ ¬ s.mayRejoin then some 0x08000022
    else if i = 0x8030 ∧ sub = 3 ∧ ¬ s.drillEligible then some 0x08000022
    else none

/-- What follows a write of this chapter that has taken effect. -/
def State.pairApplied (s : State) (i sub : Nat) : State :=
  if i = 0x8000 ∧ sub = 6 then (s.setObj 0x8000 6 0).rejoin
  else if i = 0x8030 ∧ sub = 3 then
    let s := s.setObj 0x8030 3 0
    { s with pair := { s.pair with drillRequested := true, drillDueAt := some (s.pair.drillDueAt.getD s.mt) } }
  else s

end Sys2Proof.Machine
end

