-- ==== Sys2Proof/Machine/Safety.lean ====
section
/-! DEFINITION. P5's functions on the cycle input set (chapter 16): Fender (SF-B) and the heading-rate guard (SF-D), and the
supply and clock supervision of SF-F. -/

namespace Sys2Proof.Machine

open Sys2Proof

/-- The subset solution: the newest one of the twin and kind that 7018h:02 names, with a fix and within 7018h:06 of T0 (R615,
R617), of those the snapshot holds (R27). -/
def State.subsetSolution (s : State) : Option SolResult :=
  let code := s.nat 0x7018 2
  let which := code % 4
  let tw := match code / 4 % 4 with
    | 1 => Twin.a
    | 2 => Twin.b
    | _ => s.activeTwin
  let held := s.align.snap.products.filterMap fun p =>
    if p.own = decide (tw = s.ident.twin) ∧ p.which = which then p.solution else none
  ((held.filter fun r => decide (r.fix ≠ 0)).getLast?).filter fun r =>
    decide ((s.ctl.t0 - r.instant).natAbs ≤ s.nat 0x7018 6 * 1000000)

/-- Samples of the subset gyrocompass, newest first. -/
def State.subsetGyros (s : State) : List Sample :=
  (s.saf.gyros.filter fun a => decide (a.source = 0x0C + s.nat 0x7018 3)).reverse

/-- The newest gyrocompass sample of the subset, within 7018h:06 of T0. -/
def State.subsetGyro (s : State) : Option Sample :=
  match s.subsetGyros.head? with
  | none => none
  | some a => if (s.ctl.t0 - a.instant).natAbs ≤ s.nat 0x7018 6 * 1000000 then some a else none

/-- Lever arm of a solution in mm along the body axes: GA's of its twin (4210h), with the baseline of GB or GC (3328h). -/
def State.subsetArm (s : State) : Rat × Rat :=
  let code := s.nat 0x7018 2
  let tb : Bool := match code / 4 % 4 with
    | 1 => false
    | 2 => true
    | _ => decide (s.activeTwin = .b)
  let g (k : Nat) : Rat := s.obj 0x4210 (cond tb 4 1 + k)
  let l (k : Nat) : Rat := match code % 4 with
    | 1 => s.obj 0x3328 (1 + k)
    | 2 => s.obj 0x3328 (4 + k)
    | _ => 0
  (g 0 + l 0, g 1 + l 1)

/-- Position deviation in mm: the subset's body-frame origin at T0 against the reference of the previous cycle carried over Tc,
less the advisory offset (R615). -/
def State.fenderPosition (s : State) (r : SolResult) (gyro : Sample) : Nat :=
  let p := Config.tangent r.lat r.lon (s.obj 0x5010 0x0F) (s.obj 0x5010 0x10)
  let psi := rad ((gyro.vals.getD 0 0 : Rat) / 1000)
  let (lx, ly) := s.subsetArm
  let c := Config.cos psi
  let d := Config.sin psi
  let dt : Rat := ((s.ctl.t0 - r.instant : Int) : Rat) / 1000000000
  let n := p.1 * 1000 - (lx * c - ly * d) + r.vn * dt
  let e := p.2 * 1000 - (lx * d + ly * c) + r.ve * dt
  let tc : Rat := (s.tcNs : Rat) / 1000000000
  let (an, ae, _, _) := s.advisory
  let rn : Rat := s.obj 0x5000 0x0F + s.obj 0x5000 0x12 * tc - an
  let re : Rat := s.obj 0x5000 0x10 + s.obj 0x5000 0x13 * tc - ae
  (roundHalfEven (hypot (n - rn) (e - re))).toNat

/-- Velocity deviation in mm/s from a reference velocity. -/
def velocityDeviation (r : SolResult) (vn ve : Int) : Nat := (roundHalfEven (hypot (r.vn - vn : Int) (r.ve - ve : Int))).toNat

/-- A trip or a reset changed the BOLLARD demand (7000h:08). -/
def State.showBollard (s : State) : State :=
  (s.setObj 0x7000 8 (if s.bit 0x7000 3 2 || s.bit 0x7000 3 5 then 1 else 0)).showDemands

/-- Whether the trigger of SF-B counts as present: the subset's speed beyond the limit, or the unavailability action (R614). -/
def State.fenderPresent (s : State) : Bool :=
  match s.subsetSolution, s.subsetGyro with
  | some r, some _ => decide (s.nat 0x7018 5 < velocityDeviation r 0 0)
  | _, _ => decide (s.obj 0x7018 7 = 1)

/-- Fender trips with a cause (R616). -/
def State.fenderTrip (s : State) (cause : Nat) : State :=
  let s := { s with saf := { s.saf with presentB := s.fenderPresent } }
  (((s.setBit 0x7000 3 2 true).setObjs [(0x7018, 8, 2), (0x7018, 0x0D, (cause : Nat))]).count .control 0x7018 0x0B).showBollard

/-- Unavailability of a subset: each stretch is counted at its start, with an alarm while it lasts (R617, R619). -/
def State.fenderGapSet (s : State) (gap : Bool) : State :=
  let s := if gap ∧ ¬ s.saf.fenderGap then s.count .control 0x7018 0x0C else s
  { s with saf := { s.saf with fenderGap := gap } }.alarmIf gap .control 0x7018 8 1

/-- Fender at a boundary (R612, R614 to R617). -/
def State.fender (s : State) : State :=
  let sol := s.subsetSolution
  let gyro := s.subsetGyro
  let reset := s.saf.resetB
  let s := { s with saf := { s.saf with resetB := false } }
  if s.bit 0x7000 3 2 then
    let present := s.fenderPresent
    let s := { s with saf := { s.saf with presentB := present } }
    if ¬ reset then s
    else if present then s.count .control 0x7000 5
    else ((s.setBit 0x7000 3 2 false).setObj 0x7018 8 0).showBollard
  else if s.obj 0x7018 1 = 1 ∧ 4 ≤ s.mode ∧ s.mode ≤ 6 then
    match sol, gyro with
    | some r, some g =>
      let s := s.fenderGapSet false
      let dp := s.fenderPosition r g
      let dv := velocityDeviation r (s.obj 0x5000 0x12) (s.obj 0x5000 0x13)
      let s := s.setObjs [(0x7018, 8, 1), (0x7018, 9, (dp : Nat)), (0x7018, 0x0A, (dv : Nat))]
      if s.nat 0x7018 4 < dp then s.fenderTrip 1
      else if s.nat 0x7018 5 < dv then s.fenderTrip 2
      else s
    | _, _ =>
      let s := (s.setObj 0x7018 8 3).fenderGapSet true
      if s.obj 0x7018 7 = 1 then s.fenderTrip 3 else s
  else (s.setObj 0x7018 8 0).fenderGapSet false

/-- The gyro heading rate in 0.001 °/s: from the newest sample back to the newest one at least 7028h:02 older (R619). -/
def State.gyroRate (s : State) : Option Rat :=
  match s.subsetGyro with
  | none => none
  | some a =>
    match s.subsetGyros.find? fun b => decide (b.instant + s.obj 0x7028 2 * 1000000 ≤ a.instant) with
    | none => none
    | some b =>
      let d : Int := (a.vals.getD 0 0 - b.vals.getD 0 0 + 180000) % 360000 - 180000
      some ((d : Rat) * 1000000000 / ((a.instant - b.instant : Int) : Rat))

/-- Whether a rate departs from a reference beyond 7028h:03 (R619). -/
def State.tooFast (s : State) (ref : Int) (r : Rat) : Bool := decide ((s.nat 0x7028 3 : Rat) * 10 < ratAbs (r - ref))

/-- Whether the trigger of SF-D counts as present (R614). -/
def State.ratePresent (s : State) : Bool := match s.gyroRate with
  | some r => s.tooFast 0 r
  | none => decide (s.obj 0x7018 7 = 1)

/-- SF-D trips (R619). -/
def State.rateTrip (s : State) : State :=
  let s := { s with saf := { s.saf with presentD := s.ratePresent } }
  (((s.setBit 0x7000 3 5 true).setObj 0x7028 4 2).count .control 0x7028 6).showBollard

/-- Stretches in which SF-D is unavailable. -/
def State.rateGapSet (s : State) (gap : Bool) : State :=
  let s := if gap ∧ ¬ s.saf.rateGap then s.count .control 0x7028 7 else s
  { s with saf := { s.saf with rateGap := gap } }.alarmIf gap .control 0x7028 4 1

/-- SF-D at a boundary (R612, R614, R619). -/
def State.rateGuard (s : State) : State :=
  let rate := s.gyroRate
  let reset := s.saf.resetD
  let s := { s with saf := { s.saf with resetD := false } }
  if s.bit 0x7000 3 5 then
    let present := s.ratePresent
    let s := { s with saf := { s.saf with presentD := present } }
    if ¬ reset then s
    else if present then s.count .control 0x7000 5
    else ((s.setBit 0x7000 3 5 false).setObj 0x7028 4 0).showBollard
  else if s.obj 0x7028 1 = 1 ∧ 3 ≤ s.mode ∧ s.mode ≤ 6 then
    match rate with
    | some r =>
      let ref := s.obj 0x5000 0x14
      let s := (s.rateGapSet false).setObjs [(0x7028, 4, 1), (0x7028, 5, roundHalfEven (r - ref))]
      if s.tooFast ref r then s.rateTrip else s
    | none =>
      let s := (s.setObj 0x7028 4 3).rateGapSet true
      if s.obj 0x7018 7 = 1 then s.rateTrip else s
  else (s.setObj 0x7028 4 0).rateGapSet false

/-- P5's cycle: the snapshot's gyrocompass samples of the last 12 s, then both functions (R614 to R619). -/
def State.guardCycle (s : State) : State :=
  let all := s.saf.gyros ++ s.align.snap.samples.filter fun a => decide (0x0C ≤ a.source) && decide (a.source ≤ 0x0F)
  let kept := (all.filter fun a => decide (s.ctl.t0 - 12000000000 ≤ a.instant)).foldl (fun (l : List Sample) a => insertSample a l) []
  ({ s with saf := { s.saf with gyros := kept } }.fender).rateGuard

/-- Deviation in 0.1 % that a detector of SF-F sees, and the injection it sees where one is in force (Table 22-2): a rail's reading 6 %
above nominal, the SAFE clock masked, or 2 % off. -/
def State.seenDeviation (s : State) (what rail deviation : Nat) : Nat × Option (Nat × Nat) :=
  if what = 0 ∧ s.awaits 9 rail then (60, some (9, rail))
  else if what = 1 ∧ s.awaits 8 0 then (1000, some (8, 0))
  else if what = 1 ∧ s.awaits 0x0A 0 then (20, some (0x0A, 0))
  else (deviation, none)

/-- SUPERVISION_FAULT (R621): `what` 0 an internal rail with its deviation in 0.1 %, 1 the SAFE clock, 2 the TIME clock. Outside
±5 %, or ±1 % for a clock, every safe output goes off and a hard fault is declared. -/
def execSupervisionFault (t what rail deviation : Nat) (s : State) : Host.Outcome State Fault Refusal :=
  s.live t fun s =>
    if 3 ≤ what then s
    else
      let (deviation, injected) := s.seenDeviation what rail deviation
      let s := if what = 0 then s.setObj 0x7060 4 (max (s.obj 0x7060 4) (min 65535 deviation : Nat)) else s
      let limit := if what = 0 then 50 else 10
      if deviation ≤ limit then s
      else
        let s := { s with saf := { s.saf with sff := true } }
        let s := (s.setBit 0x7060 1 what true).count .control 0x7060 (if what = 0 then 2 else 3)
        (s.showDemands).hardFaultOf injected

end Sys2Proof.Machine
end

