-- ==== Sys2Proof/Machine/Operands.lean ====
section
/-! DEFINITION. What any write of an object meets first: existence, access, length and value (R661, steps 1, 2, 4 and 5), and the
place of a write in the bank-swap gate. -/

namespace Sys2Proof.Machine

open Sys2Proof

/-! ### Abort codes of Table 18-3 -/

def abortNoObject : Nat := 0x06020000
def abortNoSub : Nat := 0x06090011
def abortWriteOnly : Nat := 0x06010001
def abortReadOnly : Nat := 0x06010002
def abortNoMap : Nat := 0x06040041
def abortMapLength : Nat := 0x06040042
def abortConflict : Nat := 0x06040043
def abortLength : Nat := 0x06070010
def abortTooLong : Nat := 0x06070012
def abortTooShort : Nat := 0x06070013
def abortValue : Nat := 0x06090030
def abortTooLow : Nat := 0x06090032
def abortNotHeld : Nat := 0x08000020
def abortLocked : Nat := 0x08000021
def abortState : Nat := 0x08000022
def abortNoSession : Nat := 0x0F000001
def abortAuth : Nat := 0x0F000002
def abortLockout : Nat := 0x0F000003
def abortTag : Nat := 0x0F000004
def abortLimit : Nat := 0x0F000005
def abortToggle : Nat := 0x05030000
def abortTimeout : Nat := 0x05040000
def abortCommand : Nat := 0x05040001
def abortSegment : Nat := 0x05040003

/-! ### Existence and access -/

/-- Why object `i:sub` is not there, if it is not (R652). -/
def existsAbort (i sub : Nat) : Option Nat :=
  if (odRow i sub).isSome then none else if odIndexExists i then some abortNoSub else some abortNoObject

/-- Why a write of an existing object has no access (Table 18-2). -/
def accessAbort (r : OdRow) : Option Nat :=
  match r.acc with
  | .const | .ro => some abortReadOnly
  | _ => none

/-- Whether an access code asks for an engineering session (Table 18-2). -/
def isGuarded : OdAcc → Bool
  | .guarded | .guardedWo => true
  | _ => false

/-! ### Length and value -/

/-- Limits of a number type. -/
def tyLimits (ty : OdTy) : Int × Int :=
  if ty.signed then (-(2 ^ (8 * ty.size - 1) : Nat), (2 ^ (8 * ty.size - 1) : Nat) - 1) else (0, (2 ^ (8 * ty.size) : Nat) - 1)

/-- A value's length against its type (R661 step 4): a number must fit the type's size, bytes the object's limits. -/
def lengthAbort (r : OdRow) : Val → Option Nat
  | .num n =>
    if r.ty.isBlob then some abortLength
    else if (tyLimits r.ty).1 ≤ n ∧ n ≤ (tyLimits r.ty).2 then none else some abortLength
  | .bytes b =>
    if ¬ r.ty.isBlob then some abortLength
    else match r.rng with
      | .blob lo hi =>
        if b.length < lo then some (if lo = hi then abortLength else abortTooShort)
        else if hi < b.length then some (if lo = hi then abortLength else abortTooLong)
        else none
      | _ => none

/-- Whether a number is allowed by a "Range and unit" column in this module (R7, R8). -/
def State.inRange (s : State) (i sub : Nat) (rng : OdRng) (n : Int) : Bool :=
  match rng with
  | .any => true
  | .rng lo hi => decide (lo ≤ n) && decide (n ≤ hi)
  | .rngOr lo hi other => (decide (lo ≤ n) && decide (n ≤ hi)) || decide (n = other)
  | .zr lo hi => decide (n = 0) || (decide (lo ≤ n) && decide (n ≤ hi))
  | .vals l => l.contains n
  | .mask m => decide (0 ≤ n) && decide (n.toNat &&& m = n.toNat)
  | .cmd v => decide (n = v)
  | .real lo hi => realWithin n lo hi
  | .blob _ _ => true
  | .evenRng lo hi => decide (lo ≤ n) && decide (n ≤ hi) && decide (n % 2 = 0)
  | .portRate => decide (0 ≤ n) && decide (n < 64) && decide (n % 4 < 3)
  | .integTime => decide (0 ≤ n) && (integrationAllowed (i - 0x3040)).contains n.toNat
  | .charFormat => decide (0 ≤ n) && decide (n < 16) && decide (n % 4 ≠ 3) && !(decide (8 ≤ n) && decide (n % 4 = 0))
  | .outputPhase => decide (800 ≤ n) && decide (n ≤ 50000) && decide (n % 100 = 0)
  | .sourcePriority =>
    let a := n % 16
    let b := n / 16 % 16
    let c := n / 256
    s.isManager && decide (0 ≤ n) && decide (a < 4) && decide (b < 4) && decide (c < 4)
      && (decide (a = 0) || (decide (a ≠ b) && decide (a ≠ c))) && (decide (b = 0) || decide (b ≠ c))
  | .gnssSource => decide (0 ≤ n) && decide (n < 12)
  | .rpdoType => decide (0 ≤ n) && (decide (n ≤ 0xF0) || decide (n = 0xFE) || decide (n = 0xFF))
  | .tpdoType => decide (1 ≤ n) && (decide (n ≤ 0xF0) || decide (n = 0xFE) || decide (n = 0xFF))
  | .slotBudget => if s.isManager then decide (100 ≤ n) && decide (n ≤ 8000) else decide (50 ≤ n) && decide (n ≤ 500)
  | .readClearTarget => decide (n % 256 = 0)
  | .safePort => decide (1 ≤ n) && decide (n ≤ 65535) && decide (n ≠ 4721) && decide (sub = 1)

/-- Why a value is refused by its range column (R661 step 5); 3010h:01 names a code of its own. -/
def State.valueAbort (s : State) (i sub : Nat) (r : OdRow) : Val → Option Nat
  | .num n =>
    if s.inRange i sub r.rng n then none
    else if r.base = 0x3010 ∧ sub = 1 ∧ n < 1150000000 then some abortTooLow
    else some abortValue
  | .bytes _ => none

/-- Existence, access, length and value of a write at once, without the session (R661). -/
def State.plainAbort (s : State) (i sub : Nat) (v : Val) : Option Nat :=
  match odRow i sub with
  | none => existsAbort i sub
  | some r =>
    match accessAbort r with
    | some c => some c
    | none => match lengthAbort r v with
      | some c => some c
      | none => s.valueAbort i sub r v

/-! ### Holding a write for its boundary -/

/-- A write held for the next boundary, in order of receipt (R28, R593). -/
def State.holdWrite (s : State) (key : Nat) (v : Val) (stamp : Nat) : State :=
  { s with held := s.held ++ [{ key := key, val := v, stamp := stamp }] }

/-- A value as a WRITE message carries it. -/
def Val.ints : Val → List Int
  | .num n => [0, n]
  | .bytes b => 1 :: b.map fun x => (x.toNat : Int)

/-- Whether an active twin can be reached: this twin's link to an ACTIVE partner. -/
def State.reachesActive (s : State) : Bool := s.linkUp && decide (s.pair.partnerRole = some .active)

/-- Whether a write of a consumed message, by connection and sequence number, has been placed (R630). -/
def State.isPlaced (s : State) (src : Option (Nat × Nat)) (key : Nat) : Bool := match src with
  | some (k, n) => (nth {} s.net.conns k).placed.contains (n, key)
  | none => false

/-- A write of a consumed message is placed once, whichever twin accepted the message first (R630). -/
def State.markPlaced (s : State) (src : Option (Nat × Nat)) (key : Nat) : State := match src with
  | some (k, n) => { s with net := { s.net with
      conns := modifyNth (fun (q : SafeConn) => { q with placed := ((n, key) :: q.placed).take 32 }) s.net.conns k } }
  | none => s

/-- A write of an rw-mapped object, or of a consumed safe message, takes its way to the gate (R594, R630, Table 15-10): held in the
active twin, forwarded to it by its partner, held locally in OFFLINE; none where no active twin can be reached. -/
def State.mappedWrite (s : State) (key : Nat) (v : Val) (stamp : Nat) (src : Option (Nat × Nat)) : Option State :=
  match s.role with
  | .active | .offline => some (if s.isPlaced src key then s else (s.markPlaced src key).holdWrite key v stamp)
  | .watch => none
  | _ =>
    if s.linkUp then some (s.twSend .write ((key : Int) :: (stamp : Int) :: v.ints ++ match src with
      | some (k, n) => [(k : Int), (n : Int)]
      | none => []))
    else if s.role = .suspect then none
    else some s

end Sys2Proof.Machine
end

