-- ==== Sys2Proof/Machine/SafeNet.lean ====
section
/-! DEFINITION. Safe data on NET-A and NET-B (chapter 17): frames, producer and consumer rules, schemes, loss. -/

namespace Sys2Proof.Machine

open Sys2Proof

/-! ### Connections -/

/-- A connection. -/
def State.conn (s : State) (k : Nat) : SafeConn := nth {} s.net.conns k

/-- A connection changed. -/
def State.modConn (s : State) (k : Nat) (f : SafeConn → SafeConn) : State :=
  { s with net := { s.net with conns := modifyNth f s.net.conns k } }

/-- Direction of an enabled connection: 1 produced, 2 consumed, 0 off; identity 0 keeps it off (7100h+k:01, :02). -/
def State.connDir (s : State) (k : Nat) : Nat := if s.obj (0x7100 + k) 2 = 0 then 0 else s.nat (0x7100 + k) 1

/-- Period in ns (R634). -/
def State.connPeriod (s : State) (k : Nat) : Nat :=
  if s.obj (0x7100 + k) 6 = 0 then (if s.isManager then s.tcNs else 10000000) else s.nat (0x7100 + k) 6 * 1000000

/-- Time expectation in ns (R635). -/
def State.connExpect (s : State) (k : Nat) : Nat :=
  if s.obj (0x7100 + k) 7 = 0 then 5 * s.connPeriod k else s.nat (0x7100 + k) 7 * 1000000

/-- Link of NET-A (0) or NET-B (1) (7140h:05, :06). -/
def State.netUp (s : State) (n : Nat) : Bool := decide (s.obj 0x7140 (5 + n) = 1)

/-- Mapping entries in use, up to the first that reads 0: index, subindex, length in bits (R627). -/
def State.connEntries (s : State) (k : Nat) : List (Nat × Nat × Nat) :=
  (((List.range 8).map fun e => s.nat (0x7100 + k) (9 + e)).takeWhile (· ≠ 0)).map fun v => (v / 65536, v / 256 % 256, v % 256)

/-- Whether an item is an event: the mode request and the safety reset (Table 17-1). -/
def eventItem (i sub : Nat) : Bool := (decide (i = 0x5010) && decide (sub = 1)) || (decide (i = 0x7000) && decide (sub = 4))

/-- Whether a produced connection can map an object of this length (R627). -/
def producible (i sub bits : Nat) : Bool :=
  match odRow i sub with
  | some r => (match r.acc with
      | .ro | .const => true
      | _ => false) && !r.ty.isBlob && decide (r.ty ≠ .r32) && decide (8 * r.ty.size = bits)
      && (decide (bits = 8) || decide (bits = 16) || decide (bits = 32)) && decide (0x2000 ≤ i) && decide (i ≤ 0x9FFF)
  | none => false

/-- Whether a consumed connection can map an object of this length in this role (R628, Table 17-1). -/
def State.consumable (s : State) (i sub bits : Nat) : Bool :=
  (decide (i = 0x7000) && decide (sub = 4) && decide (bits = 16))
    || (s.isManager && ((decide (i = 0x5010) && decide (sub = 1) && decide (bits = 8))
      || (decide (i = 0x5010) && decide (0x0C ≤ sub) && decide (sub ≤ 0x0E) && decide (bits = 16))
      || (decide (0x5120 ≤ i) && decide (i < 0x5128) && decide (sub = 2) && decide (bits = 32))))

/-- Whether an enabled consumed connection maps an object while the command lock is on (R631). -/
def State.safeLocked (s : State) (i sub : Nat) : Bool :=
  decide (s.obj 0x7140 3 = 1) && (List.range 16).any fun k =>
    decide (s.connDir k = 2) && (s.connEntries k).any fun e => decide (e.1 = i) && decide (e.2.1 = sub)

/-! ### Frames (R636 to R638) -/

/-- Check value of a Birrath frame or a channel report under an identity (R638). -/
def birrathCheck (identity : Nat) (head body : List Byte) : Nat :=
  crc32c (leBytes 4 identity ++ (head.drop 4).take 2 ++ head.take 4 ++ body)

/-- Common header (Table 17-2). -/
def safeHeader (ty link n flags seqNo : Nat) : List Byte :=
  leBytes 1 ty ++ leBytes 1 link ++ leBytes 1 n ++ leBytes 1 flags ++ leBytes 2 seqNo ++ [0, 0]

/-- A frame with a check value. -/
def checkedFrame (ty link flags seqNo identity : Nat) (body : List Byte) : List Byte :=
  let h := safeHeader ty link body.length flags seqNo
  h ++ body ++ leBytes 4 (birrathCheck identity h body)

/-- Parts of a received frame: type, link number, flags, sequence number, payload; none when its length does not fit. -/
def splitFrame (f : List Byte) : Option (Nat × Nat × Nat × Nat × List Byte) :=
  let n := (f.getD 2 0).toNat
  let ty := (f.getD 0 0).toNat
  let extra := if ty = 0x51 then 0 else 4
  if n ≤ 64 ∧ f.length = 8 + n + extra then
    some (ty, (f.getD 1 0).toNat, (f.getD 3 0).toNat, leNat ((f.drop 4).take 2), (f.drop 8).take n)
  else none

/-- Whether a frame's check value matches an identity. -/
def checkOk (f : List Byte) (identity : Nat) : Bool :=
  let n := (f.getD 2 0).toNat
  decide (leNat ((f.drop (8 + n)).take 4) = birrathCheck identity (f.take 8) ((f.drop 8).take n))

/-- Identity of a channel report: bit [31] inverted (R638). -/
def reportIdentity (id : Nat) : Nat := if id < 2147483648 then id + 2147483648 else id - 2147483648

/-- A frame leaves on a network for a connection's peer. -/
def State.sendSafe (s : State) (k net : Nat) (frame trailer : List Byte) : State :=
  s.tell (.safeFrame net (s.nat (0x7100 + k) 4) (s.nat (0x7100 + k) 5) frame trailer)

/-- The PRP redundancy control trailer of IEC 62439-3 (R637): sequence number, LanId and LSDU size, suffix, most significant byte first. -/
def prpTrailer (seqNo lan size : Nat) : List Byte := beBytes 2 seqNo ++ beBytes 2 (lan * 4096 + size % 4096) ++ [0x88, 0xFB]

/-- Sequence number of a received trailer; none where the bytes are no trailer of that network. -/
def prpSeqOf (net : Nat) (b : List Byte) : Option Nat :=
  if b.length = 6 ∧ b.drop 4 = [0x88, 0xFB] ∧ leNat ((b.drop 2).take 2).reverse / 4096 = 10 + net then some (leNat (b.take 2).reverse)
  else none

/-- A scheme is shown; a change is counted (7120h+k:01, :0C). -/
def State.showScheme (s : State) (k sch : Nat) : State :=
  if s.nat (0x7120 + k) 1 = sch then s else (s.setObj (0x7120 + k) 1 sch).count .management (0x7120 + k) 0x0C

/-! ### Restart (R650) -/

/-- Requested scheme under which a connection begins (R641): Birrath on NET-A, or NET-B when NET-A's link is down. -/
def State.firstScheme (s : State) : Nat := if s.netUp 0 then 1 else 2

/-- A connection restarts under Birrath, a consumed one in LOST without its loss action (R650); an off one is OFF. -/
def State.restartConn (s : State) (k : Nat) : State :=
  let i := 0x7120 + k
  let s := (s.modConn k fun _ => { lost := decide (s.connDir k = 2), reportDue := decide (s.connDir k = 2), lastAt := s.now }).unalarm
    .management i 4 1
  if s.connDir k = 0 then (s.setObjs [(i, 2, 0), (i, 4, 0)]).showScheme k 0
  else
    let f := s.firstScheme
    (s.setObjs [(i, 2, (f : Nat)), (i, 4, if s.connDir k = 2 then 2 else 0), (i, 0x0D, 0)]).showScheme k (f + 1)

/-! ### Consumer: schemes and reports (R641, R645 to R647) -/

/-- The consumer requests a scheme; a report is due at once (R641). -/
def State.requestScheme (s : State) (k req : Nat) : State :=
  if s.nat (0x7120 + k) 2 = req then s
  else (s.setObj (0x7120 + k) 2 req).modConn k fun q => { q with reportDue := true, probeRun := 0, missA := 0, missB := 0 }

/-- A channel report goes out on every network whose link is up (R639, R641); its own sequence number field is a free value, for
none is stated (log entry 39). -/
def State.sendReport (s : State) (k : Nat) : State :=
  let q := s.conn k
  let up (n : Nat) : Bool := s.netUp n
  let current := decide (0 < q.probeRun) && decide (s.now ≤ q.probeAt + 1500000000)
  let b (c : Bool) (n : Nat) : Nat := if c then 2 ^ n else 0
  let body := leBytes 1 (s.nat (0x7120 + k) 2) ++ leBytes 1 (b (up 0) 0 + b (up 1) 1 + b current 2) ++ leBytes 2 (s.nat (0x7120 + k) 3)
  let (seqNo, s) := s.free 65536
  let f := checkedFrame 0x53 (s.nat (0x7100 + k) 3) 0 seqNo (reportIdentity (s.nat (0x7100 + k) 2)) body
  let s := s.modConn k fun q => { q with reportSent := s.now, reportDue := false }
  let s := if up 0 then s.sendSafe k 0 f [] else s
  if up 1 then s.sendSafe k 1 f [] else s

/-- CHANNEL_REPORT_SEND (R641): once a period, and at once on a change of the requested scheme. -/
def execChannelReportSend (t k : Nat) (s : State) : Host.Outcome State Fault Refusal :=
  s.ported t fun s =>
    if 16 ≤ k ∨ s.connDir k ≠ 2 then s
    else if (s.conn k).reportDue ∨ (s.conn k).reportSent + s.connPeriod k ≤ s.now then s.sendReport k
    else s

/-! ### Consumer: messages (R629, R642 to R649) -/

/-- One item written as a consumed message carries it (R629, R630): it meets the checks of any write of that object. -/
def State.safeItem (s : State) (i sub : Nat) (v : Int) (src : Option (Nat × Nat)) : State :=
  if (s.plainAbort i sub (.num v)).isSome then s
  else (s.mappedWrite (okey i sub) (.num v) s.mt src).getD s

/-- Values of a payload, entry by entry, each in its length. -/
def payloadValues : List (Nat × Nat × Nat) → List Byte → List Int
  | [], _ => []
  | (i, sub, bits) :: rest, b =>
    let part := b.take (bits / 8)
    let v : Int := match odRow i sub with
      | some r => if r.ty.signed then leInt part else leNat part
      | none => leNat part
    v :: payloadValues rest (b.drop (bits / 8))

/-- Total length of a connection's payload in bytes. -/
def entriesBytes (l : List (Nat × Nat × Nat)) : Nat := (l.map fun e => e.2.2 / 8).sum

/-- The values of accepted message `seqNo` are applied (R629): level items always, event items when not zero and changed; `fresh`:
every event item counts as changed (R649). -/
def State.applyMessage (s : State) (k seqNo : Nat) (payload : List Byte) (fresh : Bool) : State :=
  let es := s.connEntries k
  let vals := payloadValues es payload
  let prev := (s.conn k).events
  let one (s : State) (n : Nat) : State :=
    let (i, sub, _) := es.getD n (0, 0, 0)
    let v := vals.getD n 0
    if eventItem i sub ∧ (v = 0 ∨ (¬ fresh ∧ prev.getD n 0 = v)) then s else s.safeItem i sub v (some (k, seqNo))
  ((List.range es.length).foldl one s).modConn k fun q => { q with events := vals }

/-- A valid candidate of sequence number `n` under a scheme (R643, R649). -/
def State.candidateMsg (s : State) (k n sch : Nat) (payload : List Byte) : State :=
  let q := s.conn k
  let i := 0x7120 + k
  if payload.length ≠ entriesBytes (s.connEntries k) then s
  else
    let d := match q.lastSeq with
      | some l => (n + 65536 - l) % 65536
      | none => 65536
    let bound := (s.connExpect k + s.connPeriod k - 1) / s.connPeriod k
    let taken (s : State) : State :=
      ((s.setObj i 3 n).count .management i 5).modConn k fun q => { q with lastSeq := some n, lastAt := s.now }
    if d = 0 then s
    else if q.lost then
      let s := (taken s).showScheme k sch
      if d = 1 then
        let s := ((s.modConn k fun q => { q with lost := false }).setBit i 4 1 false).unalarm .management i 4 1
        s.applyMessage k n payload true
      else s
    else if d ≤ bound then ((taken s).showScheme k sch).applyMessage k n payload false
    else s.count .management i 9

/-- A probe arrives on the network that the requested scheme does not use (R646): enough of them without a gap prove it, and duplicate
service is requested. -/
def State.probeRx (s : State) (k net : Nat) : State :=
  let q := s.conn k
  let req := s.nat (0x7120 + k) 2
  let run := if s.now ≤ q.probeAt + 1500000000 then q.probeRun + 1 else 1
  if req = 0 ∨ net ≠ req % 2 then s
  else
    let s := s.modConn k fun q => { q with probeRun := run, probeAt := s.now }
    if (req = 1 ∨ req = 2) ∧ s.netUp 0 ∧ s.netUp 1 ∧ s.nat 0x7140 8 ≤ run then s.requestScheme k 0 else s

/-- A 52h frame at its connection. -/
def State.birrathRx (s : State) (k net : Nat) (frame : List Byte) (flags n : Nat) (payload : List Byte) : State :=
  if checkOk frame (s.nat (0x7100 + k) 2) then
    if flags.testBit 0 then s.probeRx k net
    else s.candidateMsg k n (if flags.testBit 1 then 4 + net else 2 + net) payload
  else (s.count .management (0x7120 + k) 0x0A).modConn k fun q => if flags.testBit 0 then { q with probeRun := 0 } else q

/-- A 51h copy at its connection: alone it waits; the other network's copy of the same PRP sequence number within the window
completes the pair (R642, R644). -/
def State.copyRx (s : State) (k net : Nat) (frame : List Byte) (prp n : Nat) (payload : List Byte) : State :=
  let q := s.conn k
  match q.copies.find? fun c => decide (c.prp = prp) && decide (c.net ≠ net) && decide (s.now ≤ c.at' + s.nat 0x7140 2 * 1000) with
  | none =>
    if q.copies.any (fun c => decide (c.prp = prp) && decide (c.net = net)) then s
    else s.modConn k fun q => { q with copies := q.copies ++ [{ net := net, prp := prp, frame := frame, at' := s.now }] }
  | some c =>
    let s := s.modConn k fun q => { q with copies := q.copies.erase c, missA := 0, missB := 0 }
    if c.frame = frame then s.candidateMsg k n 1 payload
    else
      let i := 0x7120 + k
      ((s.count .management i 6).alarm .management i 6 1).event .management i 6 3

/-- The consumed connection a frame belongs to: its peer and link number (7100h+k:03, :04). -/
def State.connOf (s : State) (dir peer link : Nat) : Option Nat :=
  (List.range 16).find? fun k => decide (s.connDir k = dir) && decide (s.nat (0x7100 + k) 4 = peer) && decide (s.nat (0x7100 + k) 3 = link)

/-- SAFE_FRAME_RX (R636 to R649): a frame arrives on NET-A (0) or NET-B (1) at the safe port with its PRP trailer, or a PRP supervision
frame. A 51h frame without a trailer of its network is no copy of a pair. -/
def execSafeFrameRx (t net peer : Nat) (supervision : Bool) (frame trailer : List Byte) (s : State) :
    Host.Outcome State Fault Refusal :=
  s.ported t fun s =>
    if 2 ≤ net then s
    else if supervision then s.count .management 0x7140 0x0B
    else if (frame.getD 0 0).toNat < 0x51 ∨ 0x53 < (frame.getD 0 0).toNat then s.count .management 0x7140 0x0A
    else match splitFrame frame with
      | none => s
      | some (ty, link, flags, n, payload) =>
        if ty = 0x53 then s
        else match s.connOf 2 peer link with
          | none => s
          | some k =>
            let s := s.modConn k fun q => if net = 0 then { q with heardA := some s.now } else { q with heardB := some s.now }
            if ty = 0x52 then s.birrathRx k net frame flags n payload
            else match prpSeqOf net trailer with
              | some prp => s.copyRx k net frame prp n payload
              | none => s

/-- One copy whose window has ended alone (R645). -/
def State.copyMissing (k : Nat) (s : State) (c : FrameCopy) : State :=
  let y := 1 - c.net
  let i := 0x7120 + k
  let s := s.count .management i (7 + y)
  let s := s.modConn k fun q =>
    if y = 0 then { q with missA := q.missA + 1, missB := 0 } else { q with missB := q.missB + 1, missA := 0 }
  let run := if y = 0 then (s.conn k).missA else (s.conn k).missB
  if 3 ≤ run ∧ s.nat i 2 = 0 then s.requestScheme k (1 + c.net) else s

/-- PAIRING_WINDOW_END (R645): under the duplicate scheme, copies that have waited the pairing window are alone. -/
def execPairingWindowEnd (t k : Nat) (s : State) : Host.Outcome State Fault Refusal :=
  s.ported t fun s =>
    if 16 ≤ k ∨ s.connDir k ≠ 2 then s
    else
      let due (c : FrameCopy) : Bool := decide (c.at' + s.nat 0x7140 2 * 1000 ≤ s.now)
      let old := (s.conn k).copies.filter due
      let dual := decide (s.nat (0x7120 + k) 2 = 0)
      let s := s.modConn k fun q => { q with copies := q.copies.filter fun c => !due c }
      if dual then old.foldl (State.copyMissing k) s else s

/-- The loss action of a connection (R648). -/
def State.lossAction (s : State) (k : Nat) : State :=
  let act := s.obj (0x7100 + k) 8
  let es := s.connEntries k
  let one (s : State) (n : Nat) : State :=
    let (i, sub, _) := es.getD n (0, 0, 0)
    let v := s.obj (0x7100 + k) (0x11 + n)
    if eventItem i sub ∧ v = 0 then s else s.safeItem i sub v none
  let s := if act = 0 then s else (List.range es.length).foldl one s
  if act = 2 ∧ s.isManager then s.safeItem 0x5010 1 7 none else s

/-- CONNECTION_LOST (R648): no accepted message for longer than the time expectation. -/
def execConnectionLost (t k : Nat) (s : State) : Host.Outcome State Fault Refusal :=
  s.ported t fun s =>
    if 16 ≤ k ∨ s.connDir k ≠ 2 ∨ (s.conn k).lost ∨ s.now ≤ (s.conn k).lastAt + s.connExpect k then s
    else
      let i := 0x7120 + k
      let s := (s.modConn k fun q => { q with lost := true }).setBit i 4 1 true
      ((s.alarm .management i 4 1).count .management i 0x0B).lossAction k

/-! ### Producer (R640, R641) -/

/-- The scheme a producer uses: the report's, unless none is current or its only network is down (R641). Codes as byte 0 of a
report. -/
def State.producerScheme (s : State) (k : Nat) : Nat :=
  let asked := match (s.conn k).report with
    | some (r, at') => if s.now ≤ at' + s.connExpect k then r else s.firstScheme
    | none => s.firstScheme
  if (asked = 1 ∨ asked = 3) ∧ ¬ s.netUp 0 then 2
  else if (asked = 2 ∨ asked = 4) ∧ ¬ s.netUp 1 then 1
  else asked

/-- CHANNEL_REPORT_RX (R638, R641): an intact report names the scheme of a produced connection. -/
def execChannelReportRx (t net peer : Nat) (frame : List Byte) (s : State) : Host.Outcome State Fault Refusal :=
  s.ported t fun s =>
    match splitFrame frame with
    | none => s
    | some (ty, link, _, _, body) =>
      match s.connOf 1 peer link with
      | none => s
      | some k =>
        if 2 ≤ net ∨ ty ≠ 0x53 then s
        else if ¬ checkOk frame (reportIdentity (s.nat (0x7100 + k) 2)) then s.count .management (0x7120 + k) 0x0A
        else
          let r := (body.getD 0 0).toNat
          if body.length ≠ 4 ∨ 4 < r then s
          else (s.modConn k fun q => { q with report := some (r, s.now) }).setObj (0x7120 + k) 2 r

/-- The newest production instant of a connection at module time `m`, ns: a whole multiple of its period plus 2.0 ms (R632). -/
def productionInstant (period m : Nat) : Option Nat :=
  if m < 2000000 ∨ period = 0 then none else some ((m - 2000000) / period * period + 2000000)

/-- Sequence number of an instant (R633). -/
def productionSeq (period inst : Nat) : Nat := (inst - 2000000) / period % 65536

/-- A message of a produced connection leaves under its scheme (R637, R640). -/
def State.produce (s : State) (k inst : Nat) (payload : List Byte) : State :=
  let sch := s.producerScheme k
  let n := productionSeq (s.connPeriod k) inst
  let link := s.nat (0x7100 + k) 3
  let id := s.nat (0x7100 + k) 2
  let s := (s.showScheme k (sch + 1)).modConn k fun q => { q with produced := some inst }
  let s := (s.setObj (0x7120 + k) 3 n).count .management (0x7120 + k) 5
  if sch = 0 then
    let f := safeHeader 0x51 link payload.length 0 n ++ payload
    let prp := (s.conn k).prp
    let size := max 46 (28 + f.length + 6)
    let s := s.modConn k fun q => { q with prp := (prp + 1) % 65536 }
    (s.sendSafe k 0 f (prpTrailer prp 10 size)).sendSafe k 1 f (prpTrailer prp 11 size)
  else
    let net := (sch - 1) % 2
    s.sendSafe k net (checkedFrame 0x52 link (if 3 ≤ sch then 2 else 0) n id payload) []

/-- PROBE_SEND (R640): once per second, on the other network while its link is up; its sequence number is a free value, for none is
stated (log entry 39). -/
def execProbeSend (t k : Nat) (s : State) : Host.Outcome State Fault Refusal :=
  s.ported t fun s =>
    let sch := s.producerScheme k
    let other := if (sch - 1) % 2 = 0 then 1 else 0
    if 16 ≤ k ∨ s.connDir k ≠ 1 ∨ sch = 0 ∨ ¬ s.netUp other ∨ s.now < (s.conn k).probeSent + 1000000000 then s
    else
      let s := s.modConn k fun q => { q with probeSent := s.now }
      let (seqNo, s) := s.free 65536
      s.sendSafe k other (checkedFrame 0x52 (s.nat (0x7100 + k) 3) 1 seqNo (s.nat (0x7100 + k) 2) []) []

/-- PRP_SUPERVISION_SEND (R639): every 7140h:04 on both networks. -/
def execPrpSupervisionSend (t : Nat) (s : State) : Host.Outcome State Fault Refusal :=
  s.ported t fun s =>
    if s.now < s.net.supervisionAt + s.nat 0x7140 4 * 1000000 then s
    else ({ s with net := { s.net with supervisionAt := s.now } }.tell (.prpSupervision 0)).tell (.prpSupervision 1)

/-- NET_LINK_CHANGE (R641, R645, 7140h:05, :06): a link goes down or comes up; consumers leave a network of their own that is
down. -/
def execNetLinkChange (t net : Nat) (up : Bool) (s : State) : Host.Outcome State Fault Refusal :=
  s.ported t fun s =>
    if 2 ≤ net then s
    else
      let s := s.setObj 0x7140 (5 + net) (if up then 1 else 0)
      let one (s : State) (k : Nat) : State :=
        let req := s.nat (0x7120 + k) 2
        if s.connDir k = 2 then
          if ¬ up ∧ (req = 0 ∨ req = 1 + net) then s.requestScheme k (2 - net) else s
        else s
      (List.range 16).foldl one s

/-! ### Live flags, settings -/

/-- Live flags of a connection (7120h+k:04). -/
def State.safeView (s : State) (i sub : Nat) : Option Int :=
  if 0x7120 ≤ i ∧ i < 0x7130 ∧ sub = 4 then
    let k := i - 0x7120
    let q := s.conn k
    let b (c : Bool) (n : Nat) : Nat := if c then 2 ^ n else 0
    let heard (o : Option Nat) : Bool := match o with
      | some at' => decide (s.now ≤ at' + s.connExpect k)
      | none => false
    if s.connDir k ≠ 2 then some 0
    else some (b (q.lastSeq.isSome && decide (s.now ≤ q.lastAt + s.connPeriod k)) 0 + b q.lost 1 + b (heard q.heardA) 2
      + b (heard q.heardB) 3 : Nat)
  else none

/-- Aborts of a write to the objects of this chapter beyond its range column (R627, R628, R635, R647, R648). -/
def State.safeNetWriteAbort (s : State) (i sub : Nat) (v : Val) : Option Nat :=
  match v with
  | .bytes _ => none
  | .num n =>
    if 0x7100 ≤ i ∧ i < 0x7110 then
      let g (b : Nat) : Nat := if b = sub then n.toNat else s.latestNat i b
      let fits (dir e : Nat) : Bool :=
        decide (e = 0) || (decide (dir ≠ 2) && producible (e / 65536) (e / 256 % 256) (e % 256))
          || (decide (dir ≠ 1) && s.consumable (e / 65536) (e / 256 % 256) (e % 256))
      let entries := (List.range 8).map fun e => g (9 + e)
      let used := entries.takeWhile (· ≠ 0)
      let period := if g 6 = 0 then (if s.isManager then s.tcNs / 1000000 else 10) else g 6
      let outside : Bool := match odRow (g (sub - 8) / 65536) (g (sub - 8) / 256 % 256) with
        | some r => decide (g (sub - 8) ≠ 0) && !s.inRange (g (sub - 8) / 65536) (g (sub - 8) / 256 % 256) r.rng n
        | none => false
      if sub = 8 ∧ n = 2 ∧ ¬ s.isManager then some abortValue
      else if decide (0x11 ≤ sub) && outside then some abortValue
      else if 9 ≤ sub ∧ sub ≤ 0x10 ∧ ¬ fits (g 1) n.toNat then some abortNoMap
      else if sub = 1 ∧ ¬ used.all (fits n.toNat) then some abortNoMap
      else if 9 ≤ sub ∧ sub ≤ 0x10 ∧ 512 < used.foldl (fun (a x : Nat) => a + x % 256) 0 then some abortMapLength
      else if (sub = 6 ∨ sub = 7) ∧ g 7 ≠ 0 ∧ g 7 < 4 * period + 20 then some abortConflict
      else none
    else if i = 0x5001 ∧ sub = 1 ∧ s.isManager ∧ (List.range 16).any (fun k =>
        decide (s.latest (0x7100 + k) 6 = 0) && decide (s.latest (0x7100 + k) 7 ≠ 0)
          && decide (s.latestNat (0x7100 + k) 7 * 1000 < 4 * (tcMicros n).toNat + 20000)) then some abortConflict
    else if 0x7120 ≤ i ∧ i < 0x7130 ∧ sub = 0x0D ∧ n ≠ 0 ∧ (s.connDir (i - 0x7120) ≠ 2 ∨ s.obj i 1 ≠ 1) then some abortState
    else none

/-- What follows a write of this chapter that has taken effect (R647, R650). -/
def State.safeNetApplied (s : State) (i sub : Nat) (old new : Int) : State :=
  if 0x7100 ≤ i ∧ i < 0x7110 ∧ 1 ≤ sub ∧ sub ≤ 0x10 then (if old = new then s else s.restartConn (i - 0x7100))
  else if 0x7120 ≤ i ∧ i < 0x7130 ∧ sub = 0x0D then
    let k := i - 0x7120
    if new = 0 then (if 3 ≤ s.nat i 2 then (s.requestScheme k 0).sendReport k else s)
    else (s.requestScheme k (2 + new.toNat)).sendReport k
  else s

end Sys2Proof.Machine
end

