-- ==== Sys2Proof/Machine/Recorder.lean ====
section
/-! DEFINITION. The event recorder (chapter 20): acceptance, areas, seal, records as bytes, the read window. -/

namespace Sys2Proof.Machine

open Sys2Proof

/-! ### Records as bytes (Table 20-1) -/

/-- Civil date of a day count since 1970-01-01 (year, month, day). -/
def civilOf (days : Nat) : Nat × Nat × Nat :=
  let z := days + 719468
  let era := z / 146097
  let doe := z % 146097
  let yoe := (doe - doe / 1460 + doe / 36524 - doe / 146096) / 365
  let doy := doe - (365 * yoe + yoe / 4 - yoe / 100)
  let mp := (5 * doy + 2) / 153
  let m := if mp < 10 then mp + 3 else mp - 9
  (yoe + era * 400 + (if m ≤ 2 then 1 else 0), m, doy - (153 * mp + 2) / 5 + 1)

/-- The time field: UTC of an instant in TAI ns, all zero while module time is unset; from an inserted leap second on UTC is one second
further behind, and its own second reads 60. -/
def timeField (time : Option Nat) (utcOff : Int) (leapAt : Option Nat) : List Byte :=
  match time with
  | none => List.replicate 10 0
  | some ns =>
    let tai := ns / 1000000000
    let late := leapAt.any fun l => decide (l ≤ tai)
    let sec : Nat := ((tai : Int) - utcOff - (if late then 1 else 0)).toNat
    let (y, m, d) := civilOf (sec / 86400)
    let r := sec % 86400
    leBytes 2 y ++ leBytes 1 m ++ leBytes 1 d ++ leBytes 1 (r / 3600) ++ leBytes 1 (r / 60 % 60)
      ++ leBytes 1 (if leapAt = some tai then 60 else r % 60) ++ leBytes 3 (ns % 1000000000 / 100)

/-- A stored record with its CRC and padding (R704). -/
def Rec.bytes (r : Rec) : List Byte :=
  let body := leBytes 2 (30 + r.payload.length) ++ leBytes 1 r.ty
    ++ leBytes 1 (r.sev % 8 + (if r.twinB then 8 else 0) + (if r.time.isNone then 16 else 0))
    ++ leBytes 2 r.source ++ leBytes 2 r.plane.code ++ leBytes 8 r.seqNo ++ timeField r.time r.utcOff r.leapAt ++ r.payload
  let whole := body ++ leBytes 4 (crc32c body)
  whole ++ List.replicate (r.size - whole.length) 0

/-! ### Acceptance (R706, R709, R710, R714, R716) -/

/-- Sizes of the areas. -/
def circLimit : Nat := 184549376
def permLimit : Nat := 16777216

/-- Bytes of an area. -/
def areaBytes (l : List Rec) : Nat := l.foldl (fun (a : Nat) (r : Rec) => a + r.size) 0

/-- Oldest records removed whole until `need` more bytes fit (R716). -/
def makeRoom (need : Nat) : List Rec → List Rec
  | [] => []
  | r :: rest => if areaBytes (r :: rest) + need ≤ circLimit then r :: rest else makeRoom need rest

/-- Whether the filter lets a record through (R714). -/
def State.recPasses (s : State) (r : Rec) : Bool := (decide (6 ≤ r.ty) && decide (r.ty ≤ 0x0A)) || decide (r.sev ≤ s.nat 0x9001 5)

/-- A record is numbered and written to the areas (R706, R716); the permanent area opens with its type 09h record (R717). -/
def State.storeRec (s : State) (r : Rec) : State :=
  let rc := s.recorder
  let r := { r with seqNo := rc.nextSeq }
  let fills := decide (rc.sealState = 1) && (decide (r.ty = 9) || !rc.perm.isEmpty)
  let fits := decide (areaBytes rc.perm + r.size ≤ permLimit)
  { s with recorder := { rc with
    nextSeq := (rc.nextSeq + 1) % 18446744073709551616
    circ := makeRoom r.size rc.circ ++ [r]
    perm := if fills && fits then rc.perm ++ [r] else rc.perm
    sealState := if fills && !fits then 2 else rc.sealState } }

/-- An item of the intake is accepted: its values serve reads (R30), and its record is stored where the profile and the filter let
it through; a record that is not stored takes no number (log entry 40). -/
def State.acceptItem (s : State) (it : IntakeItem) : State :=
  let s := match it.status with
    | some v => { s with recorder := { s.recorder with served := v } }
    | none => s
  if it.keep && s.recPasses it.item then s.storeRec it.item else s

/-- The queue whose front completed its transfer first; at one instant control, data, management (R709). -/
def Recorder.firstDone (r : Recorder) : Option Plane :=
  let key (p : Plane) : Option Nat := ((r.queue p).head?).map (·.doneAt)
  let best (acc : Option (Plane × Nat)) (p : Plane) : Option (Plane × Nat) :=
    match acc, key p with
    | none, some t => some (p, t)
    | some (q, a), some t => if t < a then some (p, t) else some (q, a)
    | a, none => a
  (([Plane.control, Plane.data, Plane.management].foldl best none)).map (·.1)

/-- The type 08h record of the drops since the last one (R710). -/
def State.lostRecord (s : State) : State :=
  let (a, b, c) := s.recorder.dropped
  if a = 0 ∧ b = 0 ∧ c = 0 then s
  else
    let it := s.mkRec 8 3 0x9000 .management (leBytes 4 a ++ leBytes 4 b ++ leBytes 4 c)
    { s with recorder := { s.recorder with dropped := (0, 0, 0) } }.storeRec it.item

/-- The next item of the intake is accepted. -/
def State.acceptNext (s : State) : State :=
  match s.recorder.firstDone with
  | none => s
  | some p =>
    match s.recorder.queue p with
    | [] => s
    | it :: rest => ({ s with recorder := s.recorder.setQueue p rest }.lostRecord).acceptItem it

/-- RECORD_ACCEPT (R709). -/
def execRecordAccept (t : Nat) (s : State) : Host.Outcome State Fault Refusal :=
  s.live t fun s => if s.recorder.ready ∧ ¬ s.recorder.stopped then s.acceptNext else s

/-- RECORD_DROP (R710, R31): a producer has a record of `payload` bytes that its plane's queue cannot hold. -/
def execRecordDrop (t : Nat) (plane : Plane) (payload : Nat) (s : State) : Host.Outcome State Fault Refusal :=
  s.live t fun s =>
    if s.recorder.stopped ∨ queueBytes (s.recorder.queue plane) + storedSize payload ≤ queueLimit plane then s
    else { s with recorder := s.recorder.noteDrop plane }.bump 0x9000 (6 + plane.code)

/-- The directory takes the write position (R720). -/
def State.writeDirectory (s : State) : State :=
  { s with recorder := { s.recorder with lastDirectory := s.now, dirSeq := s.recorder.nextSeq } }

/-- DIRECTORY_UPDATE (R720). -/
def execDirectoryUpdate (t : Nat) (s : State) : Host.Outcome State Fault Refusal :=
  s.live t fun s => if s.recorder.ready then s.writeDirectory else s

/-! ### Power loss (R719, R720) -/

/-- Items accepted in turn. -/
def State.acceptMany (s : State) : Nat → State
  | 0 => s
  | n + 1 => (s.acceptNext).acceptMany n

/-- Queued items in all. -/
def Recorder.queued (r : Recorder) : Nat := r.qControl.length + r.qData.length + r.qManagement.length

/-- The recorder closes: `written` queued records still go in, the rest is discarded and counted in the type 06h record
(R719). -/
def State.closeRecorder (s : State) (cause : Nat) (written : Nat) : State :=
  let s := if s.recorder.ready then s.acceptMany written else s
  let left := s.recorder.queued
  let s := s.countBy .management 0x9000 9 left
  let s := { s with recorder := { s.recorder with qControl := [], qData := [], qManagement := [], stopped := true } }
  if s.recorder.ready then s.storeRec (s.mkRec 6 3 0x2010 .management (leBytes 1 cause ++ leBytes 4 left)).item else s

/-- Whether the last record of an area can be torn: the shutdown was not clean, and it was written after the directory (R720). -/
def State.mayTear (s : State) (l : List Rec) : Bool :=
  !s.power.cleanFound && (l.getLast?).any fun r => decide (s.recorder.dirSeq ≤ r.seqNo)

/-- The scan at power-up: a torn record of an area is counted and the next one overwrites it; then the type 07h record is written before
any other (R720). -/
def State.openRecorder (s : State) (tornCirc tornPerm : Bool) : State :=
  let a := tornCirc && s.mayTear s.recorder.circ
  let b := tornPerm && s.mayTear s.recorder.perm
  let torn := (if a then 1 else 0) + (if b then 1 else 0)
  let s := s.countBy .management 0x9000 0x0A torn
  let s := { s with recorder := { s.recorder with
    circ := if a then s.recorder.circ.dropLast else s.recorder.circ
    perm := if b then s.recorder.perm.dropLast else s.recorder.perm
    ready := true } }
  s.writeDirectory.storeRec (s.mkRec 7 3 0x2010 .management (leBytes 1 (if s.power.cleanFound then 1 else 0) ++ leBytes 4 torn
    ++ leBytes 1 (s.nat 0x2010 5))).item

/-! ### Cycle status records (R711 to R713) -/

/-- Objects whose value the control plane produces (R30; log entry 40): the ro objects of estimator, control law, Capstan, servo,
reference slots and their summary, Gander, and the safety plane, whose functions count as part of the control plane. -/
def controlProduced (i sub : Nat) : Bool :=
  ((decide (0x4150 ≤ i) && decide (i ≤ 0x4160)) || (decide (0x4200 ≤ i) && decide (i < 0x4300))
    || (decide (0x5000 ≤ i) && decide (i < 0x7000)) 
    || (decide (0x7000 ≤ i) && decide (i ≤ 0x7060)) || decide (i = 0x8020))
    && (match odRow i sub with
      | some r => decide (r.acc = .ro)
      | none => false)

/-- Key under which a cycle status record tells that a resume is pending, which no object shows. -/
def resumeKey : Nat := 1

/-- The values a cycle status record carries: those the control plane produces, and what else the panel shows: harbour mode, role, a
pending resume (chapter 21). -/
def State.statusValues (s : State) : Store :=
  let held := s.od.filter fun e => controlProduced (e.1 / 256) (e.1 % 256) || decide (e.1 = okey 0x3340 1)
  let held := assocSet (odDefault 0x8000 1) held (okey 0x8000 1) (s.role.code : Nat)
  assocSet (keyDefault resumeKey) held resumeKey (if s.ctl.resume.isSome then 1 else 0)

/-- Bytes of an object by its type. -/
def State.objBytes (s : State) (i sub : Nat) : List Byte :=
  match odRow i sub with
  | some r => leBytesInt r.ty.size (s.obj i sub)
  | none => []

/-- Several subindices of one object. -/
def State.subBytes (s : State) (i : Nat) (subs : List Nat) : List Byte := subs.flatMap (s.objBytes i)

/-- Summary of a manager's cycle (Table 20-4). -/
def State.managerSummary (s : State) : List Byte :=
  let mask := (List.range 32).foldl (fun (a : Nat) t => if s.obj (0x5100 + t) 2 = 3 then a + 2 ^ t else a) 0
  let pairStatus := ((s.pairView 0x8000 0x0C).getD 0).toNat
  s.objBytes 0x8000 0x0D ++ s.subBytes 0x5000 [1, 3] ++ s.subBytes 0x4201 [1, 2] ++ s.subBytes 0x4250 [1, 2, 3, 4, 5, 6]
    ++ s.subBytes 0x5000 [0x0F, 0x10, 0x11] ++ s.subBytes 0x5000 [0x0C, 0x0D, 0x0E] ++ s.subBytes 0x5131 [1, 2, 9]
    ++ s.subBytes 0x5131 [6, 7, 8] ++ s.subBytes 0x4250 [0x0D, 0x0E, 0x12] ++ s.subBytes 0x4250 [0x0F, 0x10]
    ++ ((List.range 12).flatMap fun n => s.objBytes (0x4150 + n) 1) ++ ((List.range 12).flatMap fun n => s.objBytes (0x4150 + n) 3)
    ++ s.objBytes 0x7000 2 ++ s.objBytes 0x7018 8 ++ s.objBytes 0x7028 4
    ++ s.subBytes 0x8000 [1, 2] ++ leBytes 2 pairStatus ++ s.objBytes 0x8100 1 ++ leBytes 1 s.clock.state.code ++ [0, 0]
    ++ leBytes 4 mask ++ ((List.range 8).flatMap fun b => leBytes 2 (min 65535 (s.nat (0x5120 + b) 5)))
    ++ s.objBytes 0x4201 4 ++ List.replicate 32 0

/-- Summary of a worker's servo period (R712). -/
def State.workerSummary (s : State) : List Byte :=
  let one (j : Nat) : List Byte :=
    s.objBytes (0x6080 + j) 1 ++ [0] ++ s.objBytes (0x6080 + j) 2 ++ s.subBytes (0x6080 + j) [3, 4, 5, 6, 7, 8, 9, 0x0A, 0x0B]
  s.objBytes 0x6001 1 ++ s.objBytes 0x6001 2 ++ [0, 0] ++ one 0 ++ one 1 ++ s.subBytes 0x8000 [1, 2]
    ++ leBytes 2 ((s.pairView 0x8000 0x0C).getD 0).toNat ++ s.objBytes 0x7000 2 ++ List.replicate 98 0

/-- Interval of the profile in ns, 0 for every cycle or period (Table 20-5). -/
def State.profileNs (s : State) : Nat := match s.obj 0x9001 4 with
  | 0 => 1000000000
  | 1 => 10000000000
  | _ => 0

/-- The cycle status record of the cycle or period that opened at `start` goes to the intake (R711, R713). -/
def State.statusRecord (s : State) (start : Nat) : State :=
  let it := s.mkRec 1 5 0 .control (if s.isManager then s.managerSummary else s.workerSummary)
  let keep := decide (s.profileNs = 0) || decide (start % s.profileNs = 0)
  s.offer { it with item := { it.item with time := if s.clock.state = .unset then none else some start }
                    status := some s.statusValues, keep := keep }

/-! ### Seal (R716 to R718) -/

/-- Live values of the recorder objects (Tables 20-6, 20-7). -/
def State.recorderView (s : State) (i sub : Nat) : Option Int :=
  let rc := s.recorder
  let first (l : List Rec) : Nat := (l.head?.map (·.seqNo)).getD 0
  if i = 0x9000 then
    match sub with
    | 1 => some (rc.nextSeq - 1 : Nat)
    | 2 => some (first rc.circ : Nat)
    | 3 => some (areaBytes rc.circ : Nat)
    | 4 => some (areaBytes rc.perm : Nat)
    | 5 => some (if rc.sealState = 0 then 0 else first rc.perm : Nat)
    | 0x0B =>
      let times := rc.circ.filterMap (·.time)
      some (((times.foldl max 0) - (times.foldl min (times.headD 0))) / 1000000000 : Nat)
    | 0x0C => some (s.nat 0x9000 0x0C % 8 + (if s.power.cleanFound then 8 else 0) : Nat)
    | _ => none
  else if i = 0x9001 ∧ sub = 1 then some rc.sealState
  else if i = 0x9001 ∧ sub = 6 then some rc.sealSec
  else none

/-- Aborts of a seal or unseal beyond its value (R717, R718). -/
def State.recorderWriteAbort (s : State) (i sub : Nat) : Option Nat :=
  if i = 0x9001 ∧ sub = 2 ∧ s.recorder.sealState ≠ 0 then some abortState
  else if i = 0x9001 ∧ sub = 3 ∧ s.recorder.sealState = 0 then some abortState
  else none

/-- A seal or unseal at its boundary; one that comes too late for its state has no effect. -/
def State.recorderApplied (s : State) (i sub session : Nat) : State :=
  if i = 0x9001 ∧ sub = 2 then
    let s := s.setObj 0x9001 2 0
    if s.recorder.sealState ≠ 0 then s
    else { s with recorder := { s.recorder with sealState := 1, sealSec := s.mt / 1000000000, perm := [] } }.offer
      (s.mkRec 9 4 0x9001 .management (leBytes 4 session))
  else if i = 0x9001 ∧ sub = 3 then
    let s := s.setObj 0x9001 3 0
    if s.recorder.sealState = 0 then s
    else
      let held := areaBytes s.recorder.perm
      { s with recorder := { s.recorder with sealState := 0, sealSec := 0, perm := [] } }.offer
        (s.mkRec 0x0A 4 0x9001 .management (leBytes 4 session ++ leBytes 8 held))
  else s

/-! ### The read window (R721 to R723) -/

/-- A capture into a client's window: the next retained record at or after the cursor; a record that was overwritten or is not retained
counts as missed (R721, R722, Table 22-1). -/
def State.captureRec (s : State) (k : ClientRec) : ClientRec :=
  let area := if k.area = 0 then s.recorder.circ else s.recorder.perm
  let at' := area.find? fun r => decide (k.cursor ≤ r.seqNo)
  match at' with
  | some r =>
    let late := decide (k.cursor ≠ 0) && decide (r.seqNo ≠ k.cursor)
    { k with window := r.bytes, windowSeq := some r.seqNo, outcome := if late then 2 else 0
             skipped := if late then r.seqNo - k.cursor else 0 }
  | none => { k with window := [], windowSeq := none, outcome := 1, skipped := 0 }

/-- A read that has returned the last byte of the window moves the cursor on (R721). -/
def ClientRec.windowRead (k : ClientRec) : ClientRec :=
  match k.windowSeq with
  | some n => { k with cursor := (n + 1) % 18446744073709551616 }
  | none => k

end Sys2Proof.Machine
end

