-- ==== Sys2Proof/Machine/Panel.lean ====
section
/-! DEFINITION. The status panel driver (chapter 21): image, rows, frames, half-cycles, power loss. -/

namespace Sys2Proof.Machine

open Sys2Proof

/-! ### What the panel shows (R729) -/

/-- A value as the latest cycle status record gives it (R30, chapter 21); its table's default before the first one. -/
def State.shown (s : State) (i sub : Nat) : Int := assocGet (odDefault i sub) s.recorder.served (okey i sub)

/-- The role that it gives. -/
def State.shownRole (s : State) (r : PairRole) : Bool := decide (s.shown 0x8000 1 = (r.code : Nat))

/-- Glyph of a hexadecimal digit (Table 21-4). -/
def glyph (d : Nat) : Nat :=
  [0x3F, 0x06, 0x5B, 0x4F, 0x66, 0x6D, 0x7D, 0x07, 0x7F, 0x6F, 0x77, 0x7C, 0x39, 0x5E, 0x79, 0x71].getD d 0

/-- Cells of a list of conditions from a segment on. -/
def cells (base : Nat) (l : List Bool) : Nat := (l.foldr (fun (b : Bool) (a : Nat) => 2 * a + (if b then 1 else 0)) 0) * 2 ^ base

/-- Digits from base 0, seven cells each. -/
def digitCells (bases : List Nat) (glyphs : List Nat) : Nat :=
  (bases.zip glyphs).foldl (fun (a : Nat) q => a + q.2 * 2 ^ q.1) 0

/-- The fault code: the source of the active alarm of lowest severity number, the latest one on a tie (R729). -/
def State.faultCode (s : State) : Option Nat :=
  let best (acc : Option (Nat × Nat)) (a : Nat × Nat) : Option (Nat × Nat) := match acc with
    | none => some a
    | some b => if a.2 ≤ b.2 then some a else some b
  (s.alarms.foldl best none).map fun a => a.1 / 256

/-- The four rows (Table 21-3). -/
def State.panelImage (s : State) : List Nat :=
  let row0 := cells 0 ([s.isManager, !s.isManager, decide (s.ident.twin = .a), decide (s.ident.twin = .b)]
      ++ [PairRole.active, .standby, .slipway, .suspect, .watch, .offline].map s.shownRole)
    + (if s.isManager then 0 else digitCells [10, 17] [glyph (s.ident.node / 10), glyph (s.ident.node % 10)])
  let m := s.shown 0x5000 1
  let flags := (s.shown 0x4201 2).toNat
  let thr (j : Nat) : Nat :=
    let st := s.shown (0x6080 + j) 1
    let f := (s.shown (0x6080 + j) 2).toNat
    cells (16 + 8 * j) [f.testBit 9, decide (st = 3), decide (st = 4), decide (st = 5) || decide (st = 6), decide (st = 7),
      decide (st = 8), f.testBit 0]
  let row1 := if s.isManager then
      cells 0 ((List.range 7).map fun k => decide (m = (k : Int) + 1))
        + cells 7 [decide (s.shown 0x5000 3 = 1), flags.testBit 0, flags.testBit 1, decide (s.shown 0x4201 1 = 4),
          decide (s.shown 0x7018 8 = 1), decide (s.shown 0x7018 8 = 2), decide (s.shown 0x7028 4 = 2),
          decide (s.shown 0x3340 1 = 1), decide (assocGet 0 s.recorder.served resumeKey = 1)]
    else thr 0 + thr 1
  let code := s.faultCode
  let row2 := (match code with
      | some c => digitCells [0, 7, 14, 21] [glyph (c / 4096 % 16), glyph (c / 256 % 16), glyph (c / 16 % 16), glyph (c % 16)]
      | none => 0) + cells 28 [code.isSome, decide (s.shown 0x7000 2 ≠ 0)]
  [row0, row1, row2, s.nat 0x9100 5 % 281474976710656]

/-! ### Frames (R726, R727, R731, R733) -/

/-- Length factor in 0.01, linear in between (Table 21-2); the temperature in 0.1 °C. -/
def pulseFactor (t10 : Int) : Rat :=
  let pts : List (Int × Rat) := [(-400, 4), (-200, 5/2), (0, 8/5), (250, 1), (500, 4/5), (700, 7/10), (950, 7/10)]
  let seg := (pts.zip (pts.drop 1)).find? fun q => decide (t10 ≤ q.2.1)
  match seg with
  | some (a, b) => a.2 + (b.2 - a.2) * ((t10 - a.1 : Int) : Rat) / ((b.1 - a.1 : Int) : Rat)
  | none => 7/10

/-- Half-cycles and amplitudes of a frame (R727): erase and write counts, levels in mV. -/
def State.pulses (s : State) : Nat × Nat × Nat × Nat :=
  let t := clampInt (-400) 950 (s.obj 0x2020 5 + s.obj 0x9100 4)
  let k := pulseFactor t
  let n (n25 : Rat) : Nat := (2 * roundHalfUp (k * n25 / 2)).toNat
  let v (v25 : Int) : Nat :=
    (clampInt 20000 72000 (roundHalfUp ((v25 : Rat) * 100 * (1 - 3 / 1000 * ((t : Rat) / 10 - 25))))).toNat
  (n 20, n 24, v (s.obj 0x9100 2), v (s.obj 0x9100 3))

/-- Rows requested become the running frame; the dirty mark and its target rows go to MRAM first (R731, R733). -/
def State.startFrame (s : State) (rows : List (Nat × Nat)) : State :=
  if rows.isEmpty then s
  else
    let (e, w, ve, vw) := s.pulses
    let target := (List.range 4).map fun r => match rows.find? (fun q => q.1 = r) with
      | some q => q.2
      | none => nth 0 s.panel.target r
    { s with
      panel := { s.panel with
        target := target
        frame := some { rows := rows, erase := e, write := w, eraseLevel := ve, writeLevel := vw, done := 0, startAt := s.now } }
      mram := { s.mram with panelDirty := some (rows.map (·.2)) } }

/-- Requests for rows: a frame at once when none runs, else latched, the later one for its row (R731); discarded while the panel
is disabled (R732). -/
def State.requestRows (s : State) (rows : List (Nat × Nat)) : State :=
  if s.obj 0x9100 1 = 0 then s
  else match s.panel.frame with
    | none => s.startFrame rows
    | some _ =>
      let l := (List.range 4).map fun r => match rows.find? (fun q => q.1 = r) with
        | some q => some q.2
        | none => nth none s.panel.latched r
      { s with panel := { s.panel with latched := l } }

/-- Rows of the image that differ from what was last driven (R730). -/
def State.changedRows (s : State) : List (Nat × Nat) :=
  let img := s.panelImage
  (List.range 4).filterMap fun r => if nth 0 img r = nth 0 s.panel.target r then none else some (r, nth 0 img r)

/-- All rows of an image. -/
def allRows (img : List Nat) : List (Nat × Nat) := (List.range 4).map fun r => (r, nth 0 img r)

/-- Whether the panel is driven at all: from HOLD-READY on (R735). -/
def State.panelOn (s : State) : Bool := decide (s.power.stage = .ready)

/-- PANEL_UPDATE_REQUEST (R730, R731): the image is recomposed; a latched row keeps its request with its latest content. -/
def execPanelUpdateRequest (t : Nat) (s : State) : Host.Outcome State Fault Refusal :=
  s.live t fun s =>
    if ¬ s.panelOn then s
    else
      let latest := (List.range 4).map fun r => (nth none s.panel.latched r).map fun _ => nth 0 s.panelImage r
      { s with panel := { s.panel with latched := latest } }.requestRows s.changedRows

/-- Half-cycles of a frame in all (R726). -/
def PanelFrame.total (f : PanelFrame) : Nat := f.rows.length * (f.erase + f.write + 2)

/-- Pad levels of a half-cycle in sixths of V (Table 21-1): `phase` 0 erase, 1 write, 2 guard with every line at 0 V; the next half-cycle
has the sign reversed. -/
def padSixths (row phase cellsOn : Nat) (reversed : Bool) : List Int × List Int :=
  let sign : Int := if phase = 2 then 0 else if reversed then -1 else 1
  ((List.range 4).map fun c => sign * (if c = row then 3 else -1),
   (List.range 48).map fun n => sign * (if phase = 0 ∨ cellsOn.testBit n then -3 else 1))

/-- PANEL_HALF_CYCLE (R725, R726): each 32 PANEL cycles (0.9765625 ms) the waveform advances one half-cycle. -/
def execPanelHalfCycle (t : Nat) (s : State) : Host.Outcome State Fault Refusal :=
  s.live t fun s =>
    match s.panel.frame with
    | none => s
    | some f =>
      if f.total ≤ f.done ∨ 2 * (s.now - f.startAt) < 1953125 * f.done then s
      else
        let per := f.erase + f.write + 2
        let (row, cellsOn) := f.rows.getD (f.done / per) (0, 0)
        let k := f.done % per
        let phase := if k < f.erase then 0 else if k < f.erase + f.write then 1 else 2
        let level := if phase = 0 then f.eraseLevel else if phase = 1 then f.writeLevel else 0
        let (commons, segments) := padSixths row phase cellsOn (decide (f.done % 2 = 1))
        { s with panel := { s.panel with frame := some { f with done := f.done + 1 } } }.tell (.panelHalf level commons segments)

/-- PANEL_FRAME_END (R731, R733, R735): after the last guard half-cycle the image is complete, and latched rows follow; after a
re-drive, the rows of the current image that differ. -/
def execPanelFrameEnd (t : Nat) (s : State) : Host.Outcome State Fault Refusal :=
  s.live t fun s =>
    match s.panel.frame with
    | none => s
    | some f =>
      if f.done < f.total ∨ 2 * (s.now - f.startAt) < 1953125 * f.total then s
      else
        let img := (List.range 4).map fun r => match f.rows.find? (fun q => q.1 = r) with
          | some q => q.2
          | none => nth 0 s.mram.panelImage r
        let s := { s with mram := { s.mram with panelImage := img, panelOk := true, panelDirty := none } }
        let s := (s.count .management 0x9100 9).setBlob 0x9100 7 (img.flatMap (leBytes 6))
        let was := s.panel.redrive
        let waiting := (List.range 4).filterMap fun r => (nth none s.panel.latched r).map fun v => (r, v)
        let s := { s with panel := { s.panel with frame := none, redrive := false, latched := [none, none, none, none] } }
        if s.obj 0x9100 1 = 0 then s else s.startFrame (if was then s.changedRows else waiting)

/-- At HOLD-READY: a set dirty mark re-drives the last complete image first; a stored image that fails its check is driven over in
full; else only the rows that differ (R735). -/
def State.panelStart (s : State) : State :=
  let s := { s with panel := { s.panel with target := s.mram.panelImage } }
  let s := s.setBlob 0x9100 7 (s.mram.panelImage.flatMap (leBytes 6))
  if s.obj 0x9100 1 = 0 then s
  else if ¬ s.mram.panelOk then s.startFrame (allRows s.panelImage)
  else if s.mram.panelDirty.isSome then
    { s with panel := { s.panel with redrive := true } }.startFrame (allRows s.mram.panelImage)
  else s.startFrame s.changedRows

/-- The panel is parked at total supply loss or MRST_N action: every line at 0 V, then high impedance; a frame that is cut, after its
current half-cycle, is counted and its mark stays (R734). -/
def State.panelPark (s : State) : State :=
  match s.panel.frame with
  | none => s.tell .panelParked
  | some _ =>
    { s.tell .panelParked with panel := { s.panel with frame := none, redrive := false } }.count .management 0x9100 0x0A

/-- Live values of the panel object. -/
def State.panelView (s : State) (i sub : Nat) : Option Int :=
  if i = 0x9100 ∧ sub = 6 then
    some (if s.panel.frame.isSome then (if s.panel.redrive then 2 else 1) else if s.obj 0x9100 1 = 0 then 3 else 0)
  else if i = 0x9100 ∧ sub = 8 then
    some ((List.range 4).foldl (fun (a : Nat) r => if (nth none s.panel.latched r).isSome then a + 2 ^ r else a) 0 : Nat)
  else none

/-- A write of 9100h:01 that has taken effect (R732): 00h drops what is latched, 01h requests every row. -/
def State.panelApplied (s : State) (i sub : Nat) (new : Int) : State :=
  if i ≠ 0x9100 ∨ sub ≠ 1 then s
  else if new = 0 then { s with panel := { s.panel with latched := [none, none, none, none] } }
  else if s.panelOn then s.requestRows (allRows s.panelImage) else s

end Sys2Proof.Machine
end

