-- ==== Sys2Proof/Machine/View.lean ====
section
/-! DEFINITION. What a read of an object returns (R30, R652, R653, R659, R686, R702, R741): rows of the tables and of declared
mailbox objects, live values, latched values, and the clearing of bits and counters by a read. -/

namespace Sys2Proof.Machine

open Sys2Proof

/-! ### Mailbox objects (R702, R772, R776) -/

/-- Declaration of a mailbox object by a running image. -/
def State.mailDecl (s : State) (i : Nat) : Option MailDecl :=
  if 0xA100 ≤ i ∧ i < 0xA800 then (nth {} s.user 0).decls.find? fun d => decide (d.index = i)
  else if 0xA800 ≤ i ∧ i < 0xB000 then (nth {} s.user 1).decls.find? fun d => decide (d.index = i)
  else none

/-- Type of a declared object; REAL64 is held by its bits. -/
def mailTy : Nat → Option OdTy
  | 1 => some .u8 | 2 => some .i8 | 3 => some .i16 | 4 => some .i32 | 0x15 => some .i64 | 5 => some .u8 | 6 => some .u16
  | 7 => some .u32 | 0x19 => some .u48 | 0x1B => some .u64 | 8 => some .r32 | 0x11 => some .u64 | 0x0A => some .oct
  | _ => none

/-- The row of a declared object. -/
def MailDecl.row (d : MailDecl) : Option OdRow :=
  (mailTy d.ty).map fun ty =>
    { base := d.index, count := 1, sub0 := 0, subN := 0, ty := ty, acc := if d.isOut then .ro else .pairWide
      dflt := if ty.isBlob then 0 else if ty.signed then leInt d.dflt else leNat (d.dflt.take d.size)
      rng := if d.ty = 1 then .rng 0 1 else if ty.isBlob then .blob d.size d.size else .any }

/-- The row that holds object `i:sub`, declared objects included. -/
def State.row (s : State) (i sub : Nat) : Option OdRow :=
  match s.mailDecl i with
  | some d => if sub = 0 then d.row else none
  | none => odRow i sub

/-- Why object `i:sub` does not exist, if it does not (R652, R702). -/
def State.missing (s : State) (i sub : Nat) : Option Nat :=
  if (s.row i sub).isSome then none
  else if (s.mailDecl i).isSome || odIndexExists i then some abortNoSub else some abortNoObject

/-- Bytes of a declared object's value. -/
def State.mailBytes (s : State) (d : MailDecl) : List Byte :=
  let u := nth {} s.user (if d.index < 0xA800 then 0 else 1)
  match u.mail.find? fun q => decide (q.1 = d.index) with
  | some q => q.2
  | none => if d.ty = 0x0A then List.replicate d.size 0 else d.dflt.take d.size

/-! ### Live values -/

/-- The error register (Table 19-2, R691). -/
def State.errorRegister (s : State) : Nat :=
  let b (c : Bool) (n : Nat) : Nat := if c then 2 ^ n else 0
  let current := s.saf.ssOff.any Option.isSome
  let supply := s.nat 0x2020 3
  let voltage := !(supply.testBit 0 && supply.testBit 1) || (List.range 4).any fun k => supply.testBit (2 + k)
  let hot := decide (950 < s.obj 0x2020 5) || decide (1200 < s.obj 0x2020 6)
  let comm := s.pair.lanes.any (fun (l : Lane) => !l.up) || s.ring.ports.any (fun (q : RingPort) => q.down)
    || !(s.bit 0x1E00 4 0 && s.bit 0x1E01 4 0)
    || (List.range 16).any fun k => decide (s.connDir k = 2) && (s.conn k).lost
  let safety := decide (s.obj 0x7000 2 ≠ 0) || decide (s.role = .suspect) || decide (s.role = .watch) || decide (s.role = .offline)
  let v := b current 1 + b voltage 2 + b hot 3 + b comm 4 + b safety 7
  if v = 0 then 0 else v + 1

/-- Objects of the dictionary that are live: device type, error register, clients, sessions, lockout. -/
def State.dictView (s : State) (i sub : Nat) : Option Int :=
  if i = 0x1000 then some (if s.isManager then 0x00010000 else 0x00020000)
  else if i = 0x1001 then some (s.errorRegister : Nat)
  else if i = 0x1E10 ∧ sub = 7 then
    some ((s.dict.clients.filter fun (k : ClientRec) => match k.client with
      | .net _ | .ring _ => true
      | _ => false).length : Nat)
  else if i = 0x1E20 ∧ sub = 5 then
    let b (c : Bool) (n : Nat) : Nat := if c then 2 ^ n else 0
    let can (p : Nat) : Bool := s.dict.sessions.any fun (x : Session) => x.isOpen && decide (x.client = .can p)
    let nets := (s.dict.sessions.filter fun (x : Session) => x.isOpen && (match x.client with
      | .can _ => false
      | _ => true)).length
    some (b (can 0) 0 + b (can 1) 1 + (2 ^ min 4 nets - 1) * 4 : Nat)
  else if i = 0x1E20 ∧ sub = 0x0A then some (if s.mram.pairKey.isEmpty then 0 else 1)
  else if i = 0x1E20 ∧ sub = 0x0B then
    some (match s.dict.lockUntil with
      | some u => ((u - s.now + 999999999) / 1000000000 : Nat)
      | none => 0)
  else none

/-- The live value of an object whose value is formed when it is read. -/
def State.live? (s : State) (i sub : Nat) : Option Int :=
  if i < 0x2000 then s.dictView i sub
  else if i = 0x2010 then (if sub = 1 then some (s.phase : Nat) else none)
  else if i = 0x2020 then (if sub = 1 ∨ sub = 2 then some (Config.sensorReading sub s.now % 4001 : Nat)
    else if sub = 4 then some (Config.sensorReading 4 s.now % 65536 : Nat)
    else if sub = 5 then some s.caseTemp
    else if sub = 6 then some s.junctionTemp
    else if sub = 0x0A then some s.mram.lifeTemp
    else none)
  else if i = 0x2100 then s.timeView sub
  else if i = 0x2110 ∨ i = 0x2111 then (if sub = 8 then some (s.ptpState (i - 0x2110) : Nat) else none)
  else if 0x3100 ≤ i ∧ i < 0x3280 then
    (if sub = 9 then (s.chan (i - 0x3100)).map fun c => (lockTimeMs s.now c : Nat) else none)
  else if i = 0x3330 then s.keptView sub
  else if i = 0x3340 then (if sub = 5 then some (s.nextWakeS : Nat) else none)
  else if i < 0x5000 then s.chainView i sub
  else if i < 0x7000 then s.servoView i sub
  else if i < 0x8000 then s.safeView i sub
  else if i < 0x9000 then s.pairView i sub
  else if i < 0x9100 then s.recorderView i sub
  else if i = 0x9100 then s.panelView i sub
  else s.diagView i sub

/-- Objects that only carry a command and read their default (R679). -/
def selfClearing (i sub : Nat) (rng : OdRng) : Bool :=
  (commandObject i sub && decide (i ≠ 0x5010)) || (match rng with
    | .cmd _ => true
    | _ => false)

/-- The number a client's read of an object returns (R659): what is live; the latest value held of a pair-wide, guarded or rw
object; the value of the cycle status record of what the control plane produces; else the value in force. -/
def State.view (s : State) (i sub : Nat) (r : OdRow) : Int :=
  match s.live? i sub with
  | some v => v
  | none =>
    if selfClearing i sub r.rng then s.obj i sub
    else match r.acc with
      | .pairWide | .guarded | .rw => s.latest i sub
      | .ro => s.shown i sub
      | _ => s.obj i sub

/-! ### Bytes -/

/-- Contents of an object of bytes that nothing has written. -/
def blobDefault (i sub : Nat) : List Byte :=
  let zeros (n : Nat) : List Byte := List.replicate n 0
  if i = 0x1008 then ascii "CLV-9612"
  else if i = 0x1009 then ascii "CLV-9612 B0"
  else if i = 0x100A then ascii "1.4" ++ Config.buildSuffix
  else if i = 0x1E20 then zeros (if sub = 2 then 24 else 32)
  else if 0x5200 ≤ i ∧ i < 0x5220 then zeros 512
  else if 0x5220 ≤ i ∧ i < 0x5240 then (List.range 256).flatMap fun _ => leBytes 2 1000
  else if 0x6070 ≤ i ∧ i < 0x6078 then zeros 8192
  else if 0x6078 ≤ i ∧ i < 0x607C then (List.range 33).flatMap fun k => leBytesInt 2 (mapEntry [] k)
  else if i = 0x8020 then zeros 32
  else if i = 0x9100 then zeros 24
  else if i = 0xA000 ∨ i = 0xA001 then zeros (if sub = 4 then 64 else 32)
  else []

/-- What a client's read of an object returns, least significant byte first (R4, R659), the recorder window apart. -/
def State.readBytes (s : State) (i sub : Nat) (r : OdRow) : List Byte :=
  match s.mailDecl i with
  | some d =>
    if d.isOut then s.mailBytes d
    else match (s.held.filter fun (w : HeldWrite) => decide (w.key = okey i 0)).getLast? with
      | some w => (match w.val with
        | .num v => leBytesInt d.size v
        | .bytes b => b)
      | none => s.mailBytes d
  | none =>
    if r.ty.isBlob then
      let image := if i = 0xA010 ∨ i = 0xA011 then (nth {} s.user (i - 0xA010)).held else none
      match heldBytes s.held (okey i sub) <|> image, s.blob i sub with
      | some b, _ => b
      | none, [] => blobDefault i sub
      | none, b => b
    else leBytesInt r.ty.size (s.view i sub r)

/-! ### Clients (R670, R720 to R723, R743) -/

/-- What the module keeps of a client; a client it does not know has the default. -/
def State.clientRec (s : State) (c : Client) : ClientRec :=
  (s.dict.clients.find? fun (k : ClientRec) => decide (k.client = c)).getD { client := c, lastHeard := s.now }

/-- A client's record put. -/
def State.putClient (s : State) (k : ClientRec) : State :=
  { s with dict := { s.dict with clients := (s.dict.clients.filter fun (q : ClientRec) => decide (q.client ≠ k.client)) ++ [k] } }

/-- A request of a client is heard: any but the read of the armed object within 1.0 s ends its read-clear (R743). -/
def State.hear (s : State) (c : Client) (reads : Option Nat) : State :=
  match c with
  | .inner => s
  | _ =>
    let k := s.clientRec c
    let keep := k.armKey.isSome && decide (k.armKey = reads) && decide (s.now ≤ k.armAt + 1000000000)
    s.putClient { k with lastHeard := s.now, armKey := if keep then k.armKey else none }

/-! ### Read-clear (R742 to R744) -/

/-- What a read-clear clears: a counter, or the bits of a field (tables of every chapter). -/
inductive ClearKind where
  | counter | bits (mask : Nat)
  deriving DecidableEq, Repr

/-- Objects with a read-clear counter or read-clear or sticky bits. -/
def clearable (i sub : Nat) : Option ClearKind :=
  if i = 0x2020 ∧ sub = 7 then some (.bits 3)
  else if 0x3000 ≤ i ∧ i < 0x3003 ∧ sub = 0x0C then some (.bits 0xFF)
  else if 0x3010 ≤ i ∧ i < 0x301C ∧ sub = 4 then some (.bits 3)
  else if 0x3100 ≤ i ∧ i < 0x3280 ∧ sub = 8 then some (.bits 0x80)
  else if 0x4000 ≤ i ∧ i < 0x400C ∧ sub = 0x0D then some (.bits 4)
  else if 0x4000 ≤ i ∧ i < 0x400C ∧ sub = 0x10 then some .counter
  else if 0x4040 ≤ i ∧ i < 0x4058 ∧ sub = 0x10 then some (.bits 0x1C0)
  else if 0x4040 ≤ i ∧ i < 0x4058 ∧ (sub = 0x18 ∨ sub = 0x19) then some .counter
  else if i = 0x7050 ∧ sub = 2 then some (.bits 0xFFFF)
  else if i = 0x8000 ∧ sub = 0x0C then some (.bits 0x80)
  else if i = 0x9000 ∧ sub = 0x0C then some (.bits 7)
  else if i = 0x9300 ∧ sub = 0x0A then some (.bits 5)
  else none

/-- The counter or the bits are cleared in this twin (R743). -/
def State.clearObject (s : State) (i sub : Nat) : State :=
  match clearable i sub with
  | none => s
  | some .counter => { (s.setObj i sub 0) with saturated := s.saturated.filter fun k => decide (k ≠ okey i sub) }
  | some (.bits m) => s.setObj i sub ((s.nat i sub - (s.nat i sub &&& m) : Nat))

/-! ### One read by a client -/

/-- What a read answers: an abort code, or the whole value; with it what the read leaves (R120, R721, R741 to R743). -/
def State.readObject (s : State) (c : Client) (i sub : Nat) : Except Nat (List Byte) × State :=
  let key := okey i sub
  match s.missing i sub, s.row i sub with
  | some a, _ => (.error a, s.hear c none)
  | none, none => (.error abortNoObject, s.hear c none)
  | none, some r =>
    match r.acc with
    | .wo | .guardedWo => (.error abortWriteOnly, s.hear c none)
    | _ =>
      let s := s.hear c (some key)
      let k := s.clientRec c
      if i = 0x2100 ∧ sub = 1 then
        let s := s.latchTime c
        (.ok (leBytes 6 (s.mt / 1000000000)), s)
      else if i = 0x2100 ∧ sub = 2 ∧ k.latched then (.ok (leBytes 4 k.latchNs), s)
      else if i = 0x2100 ∧ sub = 3 ∧ k.latched then (.ok (leBytes 4 k.latchStamp), s)
      else if i = 0x9002 then
        match sub with
        | 1 => (.ok (leBytes 1 k.area), s)
        | 2 => (.ok (leBytes 8 k.cursor), s)
        | 3 =>
          let k := s.captureRec k
          (.ok k.window, s.putClient k)
        | 4 => (.ok (leBytes 1 k.outcome), s)
        | 5 => (.ok (leBytes 8 k.skipped), s)
        | _ => (.ok (s.readBytes i sub r), s)
      else
        let b := s.readBytes i sub r
        let s := if 0x4000 ≤ i ∧ i < 0x400C ∧ sub = 0x0D then s.setBit i 0x0D 1 false else s
        let s := if k.armKey = some key then (s.clearObject i sub).putClient { k with armKey := none } else s
        (.ok b, s)

end Sys2Proof.Machine
end

