-- ==== Sys2Proof/Machine/UserPairs.lean ====
section
/-! DEFINITION. Integrator application pairs P6 and P7 (chapter 23): signed images, slots, environment calls, faults. -/

namespace Sys2Proof.Machine

open Sys2Proof

/-! ### The pair and its memory -/

/-- A user pair: P6 is 0, P7 is 1. -/
def State.userPair (s : State) (u : Nat) : UserPair := nth {} s.user u

/-- A user pair changed. -/
def State.modUser (s : State) (u : Nat) (f : UserPair → UserPair) : State := { s with user := modifyNth f s.user u }

/-- Size of the tightly coupled memory. -/
def tcmSize : Nat := 4194304

/-- A byte of the memory; what nothing has written reads 0 (R774). -/
def UserPair.byteAt (p : UserPair) (a : Nat) : Byte := assocGet 0 p.tcm a

/-- Bytes stored from an address on. -/
def storeBytes (m : List (Nat × Byte)) (a : Nat) : List Byte → List (Nat × Byte)
  | [] => m
  | b :: rest => storeBytes (assocSet 0 m a b) (a + 1) rest

/-- A proposal ends: zero and not valid (R768). -/
def State.endProposal (s : State) (u : Nat) : State :=
  s.setObjs [(0xA020 + u, 1, 0), (0xA020 + u, 2, 0), (0xA020 + u, 3, 0), (0xA020 + u, 4, 0)]

/-- A fault stops the pair at once: its call is discarded, the fault reported and counted (R770). -/
def State.userFault (s : State) (u cause : Nat) : State :=
  let s := s.modUser u fun p => { p with runs := false, call := none, overrunRun := 0 }
  let s := (s.setObjs [(0xA000 + u, 3, 4), (0xA000 + u, 9, (cause : Nat))]).count .control (0xA000 + u) 8
  let s := if cause = 1 then s.declared 3 (6 + u) else s
  (s.alarm .control (0xA000 + u) 3 1).event .control (0xA000 + u) 9 3 [BitVec.ofNat 8 cause]

/-- USER_PAIR_FAULT (R769, R770): 1 lockstep, 2 access outside the TCM, 3 illegal instruction or call, 5 uncorrectable word; a
third overrun is SLOT_OVERRUN's. -/
def execUserPairFault (t u cause : Nat) (s : State) : Host.Outcome State Fault Refusal :=
  s.live t fun s =>
    if u < 2 ∧ (s.userPair u).runs ∧ [1, 2, 3, 5].contains cause then s.userFault u cause else s

/-! ### Signed images (R772 to R775) -/

/-- Size that a declared type requires, none where it is free (OCTET_STRING). -/
def declSize (ty : Nat) : Option Nat :=
  if ty = 0x11 then some 8 else if ty = 0x0A then none else (mailTy ty).map OdTy.size

/-- A declaration of an image (Table 23-2). -/
def readDecl (b : List Byte) : MailDecl :=
  { index := leNat (b.take 2), ty := leNat ((b.drop 2).take 2), isOut := decide (b.getD 4 0 = 0)
    size := (b.getD 5 0).toNat, dflt := (b.drop 8).take 8 }

/-- Whether a declaration stands in its ranges (R773); a reserved byte set is refused as any reserved bit (R7). -/
def declOk (u : Nat) (b : List Byte) : Bool :=
  let d := readDecl b
  let inPair := if u = 0 then decide (0xA100 ≤ d.index) && decide (d.index ≤ 0xA7FF) else decide (0xA800 ≤ d.index) && decide (d.index ≤ 0xAFFF)
  inPair && (mailTy d.ty).isSome && decide ((b.getD 4 0).toNat ≤ 1) && decide (1 ≤ d.size) && decide (d.size ≤ 64)
    && decide ((declSize d.ty).getD d.size = d.size) && decide (b.getD 6 0 = 0) && decide (b.getD 7 0 = 0)

/-- Declarations of an image, 16 bytes each from byte 32. -/
def declBytes (b : List Byte) : Nat → List (List Byte)
  | 0 => []
  | n + 1 => declBytes b n ++ [(b.drop (32 + 16 * n)).take 16]

/-- Load length L, entry offset, working memory W, declarations m of an image. -/
def imageField (b : List Byte) (off w : Nat) : Nat := leNat ((b.drop off).take w)

/-- No two declarations of one index. -/
def distinctDecls : List MailDecl → Bool
  | [] => true
  | d :: rest => rest.all (fun e => decide (e.index ≠ d.index)) && distinctDecls rest

/-- Why a written image is refused (R773). -/
def State.imageAbort (s : State) (u : Nat) (b : List Byte) : Option Nat :=
  let len := imageField b 12 4
  let m := imageField b 24 2
  let role := imageField b 26 1
  if b.length ≠ 96 + 16 * m + len ∨ b.length < 96 then some abortLength
  else if imageField b 0 4 ≠ 0x55564C43 ∨ imageField b 4 4 ≠ 1 ∨ len ≤ imageField b 16 4 ∨ imageField b 16 4 % 2 = 1
      ∨ imageField b 20 4 ≤ len ∨ tcmSize < len + imageField b 20 4 ∨ 2048 < m ∨ role = 0 ∨ 3 < role
      ∨ imageField b 27 5 ≠ 0 then some abortValue
  else if ¬ (role.testBit (if s.isManager then 0 else 1)) then some abortValue
  else
    let ds := declBytes b m
    if ds.all (declOk u) && distinctDecls (ds.map readDecl) then none else some abortValue

/-- Whether an image's signature holds against the stored key. -/
def State.imageVerified (s : State) (u : Nat) (b : List Byte) : Bool :=
  ecdsaOk (s.blob (0xA000 + u) 4 ++ List.replicate (64 - (s.blob (0xA000 + u) 4).length) 0) (b.take (b.length - 64)) (b.drop (b.length - 64))

/-- Load content of an image. -/
def loadContent (b : List Byte) : List Byte := (b.drop (32 + 16 * imageField b 24 2)).take (imageField b 12 4)

/-- A verified image is loaded at its boundary (R774), and runs when the pair is enabled (A000h+u:01). -/
def State.loadUser (s : State) (u : Nat) (b : List Byte) : State :=
  let on := decide (s.obj (0xA000 + u) 1 = 1)
  let s := s.modUser u fun _ =>
    { image := b, decls := (declBytes b (imageField b 24 2)).map readDecl, tcm := storeBytes [] 0 (loadContent b), runs := on }
  let s := ((s.setBlob (0xA010 + u) 0 b).setBlob (0xA000 + u) 5 (sha256 b)).endProposal u
  (s.setObjs [(0xA000 + u, 3, if on then 3 else 2), (0xA000 + u, 6, (imageField b 8 4 : Nat))]).unalarm .control (0xA000 + u) 3 1

/-- Start-up with the image of the configuration (R775). -/
def State.startUser (s : State) (u : Nat) : State :=
  match s.blob (0xA010 + u) 0 with
  | [] => s
  | b => if s.imageVerified u b then s.loadUser u b else s.setObj (0xA000 + u) 3 5

/-- A written image is held for verification (R773, R774). -/
def State.holdImage (s : State) (u : Nat) (b : List Byte) : State :=
  (s.modUser u fun p => { p with held := some b, loadDue := false }).setObj (0xA000 + u) 3 1

/-- IMAGE_VERIFIED (R774): both twins' checks are done; `partner` is the partner's result, or this twin's own where it has no
partner in the set. -/
def execImageVerified (t u : Nat) (partner : Bool) (s : State) : Host.Outcome State Fault Refusal :=
  s.live t fun s =>
    match (s.userPair u).held with
    | none => s
    | some b =>
      if 2 ≤ u ∨ (s.userPair u).loadDue then s
      else if partner && s.imageVerified u b then s.modUser u fun p => { p with loadDue := true }
      else
        ((s.modUser u fun p => { p with held := none }).setObj (0xA000 + u) 3 5).event .control (0xA000 + u) 3 3 [5]

/-- Loads that are due at a boundary (R774); a load governs over a fault of the same cycle (R771). -/
def State.loadDueUser (s : State) (u : Nat) : State :=
  let p := s.userPair u
  match p.held with
  | some b => if p.loadDue then s.loadUser u b else s
  | none => s

/-- What follows a write of A000h+u:01 that its boundary applies (R771): 00h stops the pair; 01h starts one that does not run, with
its memory reloaded and a0 = 1. -/
def State.userApplied (s : State) (i sub : Nat) (new : Int) : State :=
  if ¬ (i = 0xA000 ∨ i = 0xA001) ∨ sub ≠ 1 then s
  else
    let u := i - 0xA000
    let p := s.userPair u
    if p.image.isEmpty then s
    else if new = 0 then
      ((s.modUser u fun p => { p with runs := false, call := none, overrunRun := 0 }).setObj i 3 2).endProposal u
    else if p.runs then s
    else
      let s := s.modUser u fun p => { p with
        runs := true, call := none, fresh := true, overrunRun := 0, tcm := storeBytes [] 0 (loadContent p.image) }
      ((s.setObj i 3 3).endProposal u).unalarm .control i 3 1

/-- What a pair has committed. -/
def State.userOut (s : State) (u : Nat) : UserOut :=
  let p := s.userPair u
  let o := 0xA020 + u
  { proposal := if p.runs ∧ s.obj o 4 = 1 then some (s.obj o 1, s.obj o 2, s.obj o 3) else none, mail := p.mail, at' := p.committedAt }

/-- As a set's digest covers it. -/
def UserOut.ints (o : UserOut) : List Int :=
  (o.at' : Int) :: (match o.proposal with
    | some (n, e, h) => [n, e, h]
    | none => []) ++ o.mail.flatMap fun q => (q.1 : Int) :: q.2.map fun b => (b.toNat : Int)

/-- Only what the active twin's pairs have committed enters the set (R777): a twin that executes the set takes it. -/
def State.takeUser (s : State) (outs : List UserOut) : State :=
  (outs.zip [0, 1]).foldl (fun (s : State) q =>
    let s := s.modUser q.2 fun p => { p with mail := q.1.mail, committedAt := q.1.at' }
    match q.1.proposal with
    | some (n, e, h) => s.setObjs [(0xA020 + q.2, 1, n), (0xA020 + q.2, 2, e), (0xA020 + q.2, 3, h), (0xA020 + q.2, 4, 1)]
    | none => s.endProposal q.2) s

/-- At a boundary the advisory offset is the sum of the valid proposals of pairs that run (R768). -/
def State.advise (s : State) : State :=
  let s := [0, 1].foldl (fun (s : State) u => if (s.userPair u).runs then s else s.endProposal u) s
  let sum (k : Nat) : Int := ([0, 1].map fun u => if s.obj (0xA020 + u) 4 = 1 then s.obj (0xA020 + u) k else 0).foldl (· + ·) 0
  let put (v : Int) : Int := clampInt (-2147483648) 2147483647 v
  if ¬ s.isManager then s
  else s.setObjs [(0x5010, 0x11, put (sum 1)), (0x5010, 0x12, put (sum 2)), (0x5010, 0x13, put (sum 3))]

/-! ### Slots and calls (R760 to R768) -/

/-- Slot budget in ns. -/
def State.slotNs (s : State) (u : Nat) : Nat := s.nat (0xA000 + u) 2 * 1000

/-- The call in progress while its slot lasts. -/
def State.callOf (s : State) (u : Nat) : Option UserCall :=
  match (s.userPair u).call with
  | some c => if u < 2 ∧ s.now ≤ c.openedAt + s.slotNs u then some c else none
  | none => none

/-- The value of an object in the cycle view: of the running cycle where R765 says so, else as a client reads it. -/
def State.viewBytes (s : State) (i sub : Nat) (r : OdRow) : List Byte :=
  if (s.isManager && (decide (i = 0x4201) || decide (i = 0x4250))) || (!s.isManager && (decide (i = 0x6080) || decide (i = 0x6081))) then
    leBytesInt r.ty.size (s.obj i sub)
  else s.readBytes i sub r

/-- Bytes of an object that holds its default. -/
def defaultBytes (i sub : Nat) (r : OdRow) : List Byte :=
  if r.ty.isBlob then blobDefault i sub else leBytesInt r.ty.size (odDefault i sub)

/-- Values of one line of the tables that differ from their defaults. -/
def State.rowView (s : State) (r : OdRow) : List (Nat × List Byte) :=
  (List.range r.count).flatMap fun n => (List.range (r.subN + 1 - r.sub0)).filterMap fun k =>
    let i := r.base + n
    let sub := r.sub0 + k
    let b := s.viewBytes i sub r
    if b = defaultBytes i sub r then none else some (okey i sub, b)

/-- The cycle view (R765). -/
def State.cycleView (s : State) : List (Nat × List Byte) :=
  (odPages.flatMap fun p => p.2.2.flatMap s.rowView)
    ++ (s.user.flatMap fun (p : UserPair) => p.decls.filterMap fun d => d.row.map fun r => (okey d.index 0, s.readBytes d.index 0 r))

/-- When the slot of the running cycle or sample opens, and the instant it belongs to (R760); none outside of one. -/
def State.slotInstant (s : State) : Option (Int × Int) :=
  if s.isManager then (if s.ctl.cycling then some (s.ctl.t0 + 500000, s.ctl.t0) else none)
  else if s.srv.sampling ∧ s.srv.sampleAt % 1000000 = 0 then some (s.srv.sampleAt + 10000, s.srv.sampleAt)
  else none

/-- USER_SLOT_OPEN (R760, R762, R765): the slot opens and the entry point is called. -/
def execUserSlotOpen (t u : Nat) (s : State) : Host.Outcome State Fault Refusal :=
  s.ported t fun s =>
    let p := s.userPair u
    match s.slotInstant with
    | none => s
    | some (opens, at') =>
      if 2 ≤ u ∨ ¬ p.runs ∨ (s.mt : Int) < opens ∨ p.call.isSome ∨ p.lastOpen = some at'.toNat then s
      else
        let count := if s.isManager then s.nat 0x8000 0x0D else s.nat 0x6001 1
        let stamp := (at' % 4294967296).toNat
        let c : UserCall := { openedAt := s.now - ((s.mt : Int) - opens).toNat, first := p.fresh, count := count, stamp := stamp, view := s.cycleView }
        (s.modUser u fun p => { p with call := some c, fresh := false, lastOpen := some at'.toNat }).tell
          (.userCall u (if p.fresh then 1 else 0) count stamp)

/-- What OD_READ answers from the cycle view: an abort code or the value (R661, R765). -/
def State.viewRead (s : State) (c : UserCall) (i sub : Nat) : Except Nat (List Byte) :=
  match s.missing i sub, s.row i sub with
  | some a, _ => .error a
  | none, none => .error abortNoObject
  | none, some r =>
    match r.acc with
    | .wo | .guardedWo => .error abortWriteOnly
    | _ => match c.view.find? fun q => decide (q.1 = okey i sub) with
      | some q => .ok q.2
      | none => .ok (defaultBytes i sub r)

/-- OD_READ_CALL (R765, Table 23-1): the value goes to the buffer, cut to its length; a buffer outside the TCM is a fault. -/
def execOdReadCall (t u index sub buffer length : Nat) (s : State) : Host.Outcome State Fault Refusal :=
  s.live t fun s =>
    match s.callOf u with
    | none => s
    | some c =>
      match s.viewRead c index sub with
      | .error a => s.tell (.envResult u a)
      | .ok b =>
        let b := b.take length
        if tcmSize < buffer + b.length ∧ ¬ b.isEmpty then s.userFault u 2
        else (s.modUser u fun p => { p with tcm := storeBytes p.tcm buffer b }).tell (.envResult u b.length)

/-- A call changed while it lasts. -/
def State.modCall (s : State) (u : Nat) (f : UserCall → UserCall) : State :=
  s.modUser u fun p => { p with call := p.call.map f }

/-- MB_WRITE (R766, R767): `value` is what stands in the pair's memory at `buffer`, as the image has stored it there. -/
def execMbWrite (t u index sub buffer : Nat) (value : List Byte) (s : State) : Host.Outcome State Fault Refusal :=
  s.live t fun s =>
    match s.callOf u with
    | none => s
    | some _ =>
      let s := if buffer + value.length ≤ tcmSize then s.modUser u fun p => { p with tcm := storeBytes p.tcm buffer value } else s
      match (s.userPair u).decls.find? fun d => decide (d.index = index) && d.isOut && decide (sub = 0) with
      | none => s.tell (.envResult u abortNoObject)
      | some d =>
        if tcmSize < buffer + value.length then s.userFault u 2
        else if value.length ≠ d.size then s.tell (.envResult u abortLength)
        else if d.ty = 1 ∧ 1 < leNat value then s.tell (.envResult u abortValue)
        else
          (s.modCall u fun c => { c with mail := (c.mail.filter fun q => decide (q.1 ≠ index)) ++ [(index, value)] }).tell (.envResult u 0)

/-- PROPOSE (R766, R768); a worker's is refused. -/
def execPropose (t u : Nat) (north east heading : Int) (s : State) : Host.Outcome State Fault Refusal :=
  s.live t fun s =>
    match s.callOf u with
    | none => s
    | some _ =>
      if ¬ s.isManager then s.tell (.envResult u abortValue)
      else (s.modCall u fun c => { c with offset := some (north, east, heading) }).tell (.envResult u 0)

/-- The list of a call is committed, stamped with the return instant (R766, R768, R777). -/
def State.commitCall (s : State) (u : Nat) (c : UserCall) : State :=
  let flat := (c.mail.flatMap fun q => (q.1 : Int) :: q.2.map fun b => (b.toNat : Int)) ++ (match c.offset with
    | some (n, e, h) => [n, e, h]
    | none => [])
  let s := s.modUser u fun p => { p with
    call := none, overrunRun := 0, list := some (c.count, crc32c (Config.recordBytes flat)), committedAt := s.mt
    mail := c.mail.foldl (fun m q => (m.filter fun x => decide (x.1 ≠ q.1)) ++ [q]) p.mail }
  match c.offset with
  | some (n, e, h) => s.setObjs [(0xA020 + u, 1, n), (0xA020 + u, 2, e), (0xA020 + u, 3, h), (0xA020 + u, 4, 1)]
  | none => s

/-- RETURN (R762, R766). -/
def execReturnCall (t u : Nat) (s : State) : Host.Outcome State Fault Refusal :=
  s.live t fun s =>
    match s.callOf u with
    | none => s
    | some c => s.commitCall u c

/-- SLOT_OVERRUN (R763, R769): the call has not returned by the end of its slot. -/
def execSlotOverrun (t u : Nat) (s : State) : Host.Outcome State Fault Refusal :=
  s.live t fun s =>
    match (s.userPair u).call with
    | none => s
    | some c =>
      if 2 ≤ u ∨ s.now < c.openedAt + s.slotNs u then s
      else
        let n := (s.userPair u).overrunRun + 1
        let s := (s.modUser u fun p => { p with call := none, overrunRun := n }).count .control (0xA000 + u) 7
        if 3 ≤ n then s.userFault u 4 else s

/-! ### Settings -/

/-- Aborts of a write of this chapter beyond its range column (R761, R773); the budget against Tc of 5001h:01 too. -/
def State.userWriteAbort (s : State) (i sub : Nat) (v : Val) : Option Nat :=
  match v with
  | .bytes b => if i = 0xA010 ∨ i = 0xA011 then s.imageAbort (i - 0xA010) b else none
  | .num n =>
    if (i = 0xA000 ∨ i = 0xA001) ∧ sub = 2 ∧ s.isManager ∧ ((tcOfCode (s.latest 0x5001 1) / 1000 : Nat) : Int) - 1000 < n then
      some abortConflict
    else if i = 0x5001 ∧ sub = 1 ∧ s.isManager
        ∧ [0, 1].any (fun u => decide (((tcOfCode n / 1000 : Nat) : Int) - 1000 < s.latest (0xA000 + u) 2)) then some abortConflict
    else none

end Sys2Proof.Machine
end

