-- ==== Sys2Proof/Machine/Diag.lean ====
section
/-! DEFINITION. Scrubbing and uncorrectable words, injections and link tests (chapter 22). -/

namespace Sys2Proof.Machine

open Sys2Proof

/-! ### The symbol code (R747, R748) -/

/-- SCRUB_PASS (R747, R748): a pass over SRAM, DRAM and MRAM; `corrected` is the words it corrected in each. -/
def execScrubPass (t : Nat) (corrected : List Nat) (s : State) : Host.Outcome State Fault Refusal :=
  s.live t fun s =>
    let s := (s.count .management 0x9300 8).countBy .management 0x9300 9 ((corrected.take 3).foldl (· + ·) 0)
    (List.range 3).foldl (fun (s : State) m => s.countBy .management 0x9300 (1 + m) (nth 0 corrected m)) s

/-- What holds the word is discarded and counted as its chapter counts a discard (Table 22-1). -/
def State.discardItem (s : State) : SharedItem → State
  | .packet n =>
    if 12 ≤ n then s
    else match s.takePacket n with
      | some (_, _, s) => s.count .data (0x4000 + n) 0x15
      | none => if (s.rx n).inPacket then s.discardPacket n else s
  | .record p =>
    match s.recorder.queue p with
    | [] => s
    | _ :: rest => { s with recorder := (s.recorder.setQueue p rest).noteDrop p }.bump 0x9000 (6 + p.code)
  | .sample k =>
    if 22 ≤ k ∨ (s.src k).buffer.isEmpty then s
    else (s.modSrc k fun q => { q with buffer := q.buffer.drop 1 }).count .data (0x4120 + k) 0x0C
  | .message => s.count .management 0x1E10 6

/-- Memory of a word as 9300h names it: 0 SRAM, 1 DRAM, 2 MRAM; none for a user pair's own. -/
def WordPlace.memory : WordPlace → Option Nat
  | .control m | .shared m _ => some (min m 2)
  | .tcm _ => none
  | _ => some 2

/-- Effect of an uncorrectable word where it lies (Table 22-1). -/
def State.wordEffect (s : State) : WordPlace → State
  | .control m => s.hardFaultOf (if s.awaits 2 (min m 1) then some (2, min m 1) else none)
  | .shared _ item => (s.discardItem item).event .management 0x9300 7 3
  | .objectStore c via write k =>
    let s := s.declared 2 2
    let m := OdMsg.sent (if write then 2 else 1) via (k / 256) (k % 256) 0 []
    let known := s.dict.clients.any fun (q : ClientRec) => decide (q.client = c)
    (if known then s.putClient { s.clientRec c with request := some m } else s).answer c k (.abort 0x06060000)
  | .currentImage => { s with mram := { s.mram with current := s.mram.current.map fun g => { g with valid := false } } }
  | .previousImage => { s with mram := { s.mram with previous := s.mram.previous.map fun g => { g with valid := false } } }
  | .recorder n =>
    let lost (l : List Rec) : List Rec := l.filter fun r => decide (r.seqNo ≠ n)
    { s with recorder := { s.recorder with circ := lost s.recorder.circ, perm := lost s.recorder.perm } }
  | .kept n => { s with mram := { s.mram with kept := modifyNth (fun p => (p.1, (p.2 + 1) % 4294967296)) s.mram.kept n } }
  | .warm n => { s with mram := { s.mram with warm := s.mram.warm.eraseIdx n } }
  | .side n => { s with mram := { s.mram with sides := modifyNth (fun _ => none) s.mram.sides n } }
  | .tcm u => if u < 2 ∧ (s.userPair u).runs then s.userFault u 5 else s

/-- Lanes in which a word differs from the one that was written. -/
def lanesWrong (data : List Byte) (read : List Byte) : Nat :=
  (List.range 19).foldl (fun (a : Nat) n => if nth 0 (codeWord data) n = nth 0 read n then a else a + 2 ^ n) 0

/-- UNCORRECTABLE_WORD (R746, R747, Table 22-1): a word written with 16 data bytes is read as 19 lanes. One that the decoder corrects is
counted as corrected; one it cannot correct is counted in its memory, sets the summary flag and 9300h:07, and has the effect of its
place; a word of a user pair's memory has its own effect and no other (R769). -/
def execUncorrectableWord (t : Nat) (place : WordPlace) (data read : List Byte) (address : Nat) (s : State) :
    Host.Outcome State Fault Refusal :=
  s.live t fun s =>
    match readWord read, place.memory with
    | .clean _, _ => s
    | .corrected _, none => s
    | .corrected _, some m => s.count .management 0x9300 (1 + m)
    | .bad, none => s.wordEffect place
    | .bad, some m =>
      (((s.count .management 0x9300 (4 + m)).setBit 0x9300 0x0A 2 true).setObj 0x9300 7
        (lanesWrong data read + m * 16777216 + address % 4294967296 * 4294967296 : Nat)).wordEffect place

/-! ### Injections (R749 to R754) -/

/-- Class of a detector and instance (Table 22-2). -/
def injectionClass (code inst : Nat) : Nat :=
  if [1, 5, 6].contains code ∨ (code = 3 ∧ 6 ≤ inst) then 1 else if [2, 3, 4, 7].contains code then 2 else 3

/-- Instances of a detector; codes that may be injected more than once (Table 22-2). -/
def injectionInstances (code : Nat) : Nat :=
  match code with
  | 1 | 2 => 3
  | 3 | 9 => 8
  | 4 | 5 | 6 => 2
  | 7 | 8 | 0x0A => 1
  | 0x0B => 16
  | 0x0C => 48
  | 0x0D => 12
  | _ => 0

/-- Codes whose injection may be repeated. -/
def injectionRepeats (code : Nat) : Bool := [1, 5, 6, 0x0C, 0x0D].contains code

/-- Whether the condition of a class holds (R751). -/
def State.classHolds (s : State) (cls : Nat) : Bool :=
  if cls = 1 then true
  else if cls = 2 then
    (decide (s.role = .standby) && decide (s.pair.partnerRole = some .active))
      || (decide (s.role = .active) && decide (s.pair.partnerRole = some .standby) && s.inStep && decide (100 ≤ s.nat 0x8020 2))
  else if s.isManager then decide (s.mode = 1) || decide (s.mode = 7)
  else [0, 1].all fun j => [0, 1, 7, 8].contains (s.thrState j)

/-- Why an arm write is refused beyond its value (R750, R751, R754). -/
def State.armAbort (s : State) : Option Nat :=
  let code := s.nat 0x9200 1
  let inst := s.nat 0x9200 2
  if injectionInstances code ≤ inst ∨ (s.obj 0x9200 3 ≠ 1 ∧ ¬ injectionRepeats code) then some abortConflict
  else if s.obj 0x9200 5 = 1 ∨ s.obj 0x9200 5 = 2 ∨ ¬ s.classHolds (injectionClass code inst) then some abortState
  else none

/-- An injection is armed (R749, R752); the consumer of 0Dh is held once, for its count. -/
def State.armInjection (s : State) : State :=
  { (s.setObj 0x9200 5 1) with diagn := { s.diagn with
    armedAt := s.now, lastBoundary := none, left := if s.obj 0x9200 1 = 0x0D then 1 else s.nat 0x9200 3 } }

/-- One injection at its point (Table 22-2). -/
def State.inject (s : State) (code inst : Nat) : State :=
  let s := { s with diagn := { s.diagn with awaiting := some (code, inst, s.now) } }
  let on (l : List Bool) : List Bool := modifyNth (fun _ => true) l inst
  match code with
  | 1 => (s.count .management 0x9300 (1 + inst)).declaredFree 1 inst
  | 4 => { s with diagn := { s.diagn with flip := some inst } }
  | 5 => { s with diagn := { s.diagn with wyCrc := on s.diagn.wyCrc } }
  | 6 => { s with diagn := { s.diagn with laneCrc := on s.diagn.laneCrc } }
  | 0x0B => { s with diagn := { s.diagn with drops := some (inst, 2) } }
  | 0x0C =>
    s.modChain (inst / 2) fun k => if inst % 2 = 0 then { k with force0 := k.force0 + 1 } else { k with force1 := k.force1 + 1 }
  | 0x0D => s.modRx inst fun p => { p with heldUntil := s.now + 100000000 * s.nat 0x9200 3 }
  | _ => s

/-- INJECTION (R751 to R753): at the first boundary 10 ms or more after the arm write, then at each next one. -/
def execInjection (t : Nat) (s : State) : Host.Outcome State Fault Refusal :=
  s.live t fun s =>
    let d := s.diagn
    if ¬ (s.obj 0x9200 5 = 1 ∨ s.obj 0x9200 5 = 2) ∨ d.left = 0 ∨ d.boundaryAt < d.armedAt + 10000000
        ∨ d.lastBoundary = some d.boundaryAt then s
    else
      let code := s.nat 0x9200 1
      let inst := s.nat 0x9200 2
      let note (s : State) : State := s.event .management 0x9200 5 7 [BitVec.ofNat 8 code, BitVec.ofNat 8 inst]
      if ¬ s.classHolds (injectionClass code inst) then
        note { (s.setObj 0x9200 5 4) with diagn := { d with left := 0 } }
      else
        let s := { s with diagn := { d with left := d.left - 1, lastBoundary := some d.boundaryAt } }
        let s := (s.setObj 0x9200 5 (if d.left = 1 then 3 else 2)).count .management 0x9200 6
        (note s).inject code inst

/-- DETECTION_TIMEOUT (R752). -/
def execDetectionTimeout (t : Nat) (s : State) : Host.Outcome State Fault Refusal :=
  s.live t fun s =>
    match s.diagn.awaiting with
    | none => s
    | some (_, _, at') =>
      if s.now < at' + 1000000000 then s
      else ({ s with diagn := { s.diagn with awaiting := none } }.setObj 0x9200 7 0xFFFFFFFF).alarm .management 0x9200 7 1

/-! ### Link tests (R755 to R758) -/

/-- Whether a link's row of Table 22-3 lists a mode. -/
def testMode (l : Nat) (mode : Int) : Bool :=
  decide (mode = 0) || (decide (l < 4) && (decide (mode = 1) || decide (mode = 2))) || (decide (4 ≤ l) && decide (mode = 3))

/-- A test starts (R755, R758): its counts are cleared and the link leaves service. The register of the PRBS7 starts at a free
value (log entry 41). -/
def State.startTest (s : State) (l : Nat) (mode : Int) : State :=
  let (seed, s) := s.free 127
  let s := s.setObjs [(0x9210 + l, 1, mode), (0x9210 + l, 3, 1), (0x9210 + l, 4, 0), (0x9210 + l, 5, 0), (0x9210 + l, 6, 0), (0x9210 + l, 7, 0)]
  let s := s.modTest l fun _ => { startAt := s.now, prbs := seed + 1 }
  let s := s.event .management (0x9210 + l) 1 7 [BitVec.ofInt 8 mode]
  if l < 2 then
    let up := (nth {} s.pair.lanes l).up
    let s := ((s.modLane l fun q => { q with up := false, intactRun := 0, blockLock := false }).showLane l).setBit (0x8010 + l) 1 3 true
    if up then (s.count .control (0x8010 + l) 6).laneAlarm else s
  else if l < 4 then (if (s.ringPort (l - 2)).down then s else s.portFalls (l - 2) false)
  else s

/-- LINK_TEST_TIME_LIMIT (R758). -/
def execLinkTestTimeLimit (t l : Nat) (s : State) : Host.Outcome State Fault Refusal :=
  s.live t fun s =>
    let limit := s.nat (0x9210 + l) 2
    if 18 ≤ l ∨ limit = 0 ∨ s.now < (s.linkTest l).startAt + limit * 1000000000 then s else s.finishTest l 0

/-- Bits of a line through the PRBS31 checker (R756): the checker after them, the bits checked while locked, the bit errors, the losses
of lock. -/
def LaneCheck.tally (c : LaneCheck) : List Bool → LaneCheck × Nat × Nat × Nat
  | [] => (c, 0, 0, 0)
  | b :: rest =>
    let (d, e) := c.take 31 28 64 true b
    let (f, checked, errors, losses) := d.tally rest
    (f, checked + (if c.locked then 1 else 0), errors + e, losses + (if c.locked && !d.locked then 1 else 0))

/-- PRBS_CHECKER_LOCK (R756): the bits that arrived on a line under test since the last such command, no more than its rate allows, go
through the checker. -/
def execPrbsCheckerLock (t l : Nat) (bits : List Bool) (s : State) : Host.Outcome State Fault Refusal :=
  s.live t fun s =>
    let q := s.linkTest l
    if 4 ≤ l ∨ ¬ s.underTest l ∨ lineBits l (s.now - q.startAt) < q.bits + bits.length then s
    else
      let (c, checked, errors, losses) := q.check.tally bits
      let s := s.modTest l fun q => { q with check := c, bits := q.bits + bits.length }
      let s := s.setObjs [(0x9210 + l, 3, if c.locked then 2 else 1),
        (0x9210 + l, 4, (s.obj (0x9210 + l) 4 + checked) % 18446744073709551616)]
      (s.countBy .management (0x9210 + l) 5 errors).countBy .management (0x9210 + l) 6 losses

/-- One bit of PRBS7, x^7 + x^6 + 1: the register shifted, and the bit. -/
def prbs7Step (r : Nat) : Nat × Nat :=
  let b := (r / 64 + r / 32) % 2
  ((2 * r + b) % 128, b)

/-- A byte of PRBS7 from its low bit up, `n` bits. -/
def prbs7Bits : Nat → Nat → Nat × Nat
  | 0, r => (r, 0)
  | n + 1, r =>
    let (r, b) := prbs7Step r
    let (r, v) := prbs7Bits n r
    (r, b + 2 * v)

/-- `n` bytes of PRBS7. -/
def prbs7Bytes : Nat → Nat → Nat × List Byte
  | 0, r => (r, [])
  | n + 1, r =>
    let (r, v) := prbs7Bits 8 r
    let (r, rest) := prbs7Bytes n r
    (r, BitVec.ofNat 8 v :: rest)

/-- Pattern bytes of a loopback frame (R757). -/
def State.patternLength (s : State) (l : Nat) : Nat :=
  if l < 16 then 24 else if nth 0 s.dict.dataRates (l - 16) = 0 then 6 else 62

/-- The next loopback frame leaves (R757). -/
def State.sendLoopback (s : State) (l : Nat) : State :=
  let q := s.linkTest l
  let (r, pattern) := prbs7Bytes (s.patternLength l) q.prbs
  let head := leBytes 2 q.seqNo ++ pattern
  let frame := if l < 16 then
      let body := [0x7E, 0x81] ++ head
      body ++ leBytes 4 (crc32c body)
    else head
  let s := s.modTest l fun q => { q with prbs := r, seqNo := (q.seqNo + 1) % 65536, frame := some frame, sentAt := s.now }
  s.tell (if l < 16 then .serial (l - 4) frame else .can (l - 16) (0x780 + nth 0 s.dict.nodeIds (l - 16)) frame)

/-- Time of the 32 bytes of a serial frame at the port's rate and format, ns. -/
def State.serialFrameNs (s : State) (n : Nat) : Nat :=
  let f := s.nat (0x4000 + n) 3
  let bits := 1 + (if f.testBit 3 then 7 else 8) + (if f % 4 = 0 then 0 else 1) + (if f.testBit 2 then 2 else 1)
  32 * bits * 1000000000 / max 1 (s.nat (0x4000 + n) 2)

/-- LOOPBACK_FRAME (R757): the previous frame as received, none when it has not come; then the next one leaves. -/
def execLoopbackFrame (t l : Nat) (received : Option (List Byte)) (s : State) : Host.Outcome State Fault Refusal :=
  s.ported t fun s =>
    if l < 4 ∨ 18 ≤ l ∨ ¬ s.underTest l then s
    else
      let q := s.linkTest l
      match q.frame with
      | none => s.sendLoopback l
      | some f =>
        let wait : Nat := if 16 ≤ l then 10000000 else if received.isSome then 0 else s.serialFrameNs (l - 4) + 200000000
        if s.now < q.sentAt + wait then s
        else
          let n := s.patternLength l
          let s := if received = some f then
              s.setObjs [(0x9210 + l, 4, (s.obj (0x9210 + l) 4 + n) % 18446744073709551616), (0x9210 + l, 3, 2)]
            else s.count .management (0x9210 + l) 5
          s.sendLoopback l

/-! ### Settings -/

/-- Aborts of a write of this chapter beyond its range column (R743, R750, R751, R754, R755). -/
def State.diagWriteAbort (s : State) (i sub : Nat) (v : Val) : Option Nat :=
  match v with
  | .bytes _ => none
  | .num n =>
    if i = 0x9200 ∧ sub = 4 ∧ n = 1 then s.armAbort
    else if i = 0x9200 ∧ sub = 8 then
      if n % 256 = 0 ∧ (clearable (n.toNat / 65536) (n.toNat / 256 % 256)).isSome then none else some abortValue
    else if 0x9210 ≤ i ∧ i < 0x9222 ∧ sub = 1 then
      if ¬ testMode (i - 0x9210) n then some abortValue
      else if n ≠ 0 ∧ s.testRefused (i - 0x9210) then some abortState
      else none
    else none

/-- What a write of this chapter does in the twin that receives it (R743, R749, R754, R755, R758). -/
def State.diagApplied (s : State) (c : Client) (i sub : Nat) (n : Int) : State :=
  if i = 0x9200 ∧ sub = 4 then
    let s := s.setObj 0x9200 4 0
    if n = 1 then s.armInjection
    else { (s.setObj 0x9200 5 0) with diagn := { s.diagn with left := 0 } }
  else if i = 0x9200 ∧ sub = 8 then
    (s.setObj 0x9200 8 0).putClient { s.clientRec c with armKey := some (n.toNat / 256), armAt := s.now }
  else if 0x9210 ≤ i ∧ i < 0x9222 ∧ sub = 1 then
    let l := i - 0x9210
    if n = 0 then (s.setObj i 1 (if s.underTest l then s.obj i 1 else 0)).finishTest l 0 else s.startTest l n
  else s

end Sys2Proof.Machine
end

