-- ==== Sys2Proof/Machine/Dictionary.lean ====
section
/-! DEFINITION. Writes of objects: sessions, every check of R661 in its order, and the way of an accepted write to its effect
(R592 to R594, R658 to R661, R673 to R686, R700). -/

namespace Sys2Proof.Machine

open Sys2Proof

/-! ### Engineering sessions (R673 to R678) -/

/-- The session of a client that was opened. -/
def State.openedSession (s : State) (c : Client) : Option Session :=
  s.dict.sessions.find? fun (x : Session) => x.isOpen && decide (x.client = c)

/-- Whether a session has had no guarded request for 1E20h:07 (R676). -/
def State.sessionIdle (s : State) (x : Session) : Bool := decide (x.lastUsed + s.nat 0x1E20 7 * 1000000000 ≤ s.now)

/-- The open session of a client: one that has been idle too long has ended (R676). -/
def State.openSession (s : State) (c : Client) : Option Session :=
  (s.openedSession c).filter fun x => !s.sessionIdle x

/-- The first client's record with the sessions of a client gone. -/
def State.dropSession (s : State) (c : Client) : State :=
  { s with dict := { s.dict with sessions := s.dict.sessions.filter fun (x : Session) => decide (x.client ≠ c) } }

/-- A session ends, with its event (R676). -/
def State.endSession (s : State) (c : Client) : State :=
  match s.openedSession c with
  | none => s.dropSession c
  | some x => (s.dropSession c).event .management 0x1E20 5 4 (leBytes 4 x.id)

/-- Every session ends (R676: a change of K). -/
def State.endSessions (s : State) : State :=
  s.dict.sessions.foldl (fun (s : State) (x : Session) => s.endSession x.client) s

/-- Whether a tagged request is right for a session: its session, a counter beyond the last, its tag (R674). -/
def State.tagOk (s : State) (x : Session) (g : OdTag) : Bool :=
  decide (g.session = x.id) && (match x.counter with
    | some n => decide (n < g.counter)
    | none => true) && decide (g.tag = (hmacSha256 (s.sessionKey x) g.covered).take 16)

/-- Why a guarded write is refused for its session, or the session it is written in (R661 step 3, R674, R675, R677). -/
def State.sessionFor (s : State) (c : Client) (tag : Option OdTag) (i sub : Nat) : Except Nat Session :=
  match s.openSession c with
  | none => .error abortNoSession
  | some x =>
    match c with
    | .can _ => if s.mram.pairKey.isEmpty ∧ ¬ (i = 0x1E20 ∧ sub = 9) then .error abortNoSession else .ok x
    | _ => match tag with
      | none => .error abortNoSession
      | some g => if s.tagOk x g then .ok x else .error abortTag

/-- A guarded request is accepted in its session: the counter and the idle time follow. -/
def State.useSession (s : State) (c : Client) (tag : Option OdTag) : State :=
  { s with dict := { s.dict with sessions := s.dict.sessions.map fun (x : Session) =>
      if x.client = c ∧ x.isOpen then { x with lastUsed := s.now, counter := match tag with
        | some g => some g.counter
        | none => x.counter } else x } }

/-! ### Checks of the objects of chapters 18, 19 and of those without a chapter's own function -/

/-- Bits a mapping entry names, and whether it may stand in an RPDO or a TPDO (R666, R698). -/
def State.mapEntryOk (s : State) (rpdo : Bool) (e : Nat) : Bool :=
  match s.row (e / 65536) (e / 256 % 256) with
  | none => false
  | some r => !r.ty.isBlob && decide (e % 256 = 8 * r.ty.size)
      && (if rpdo then decide (r.acc = .rwMapped) else decide (r.acc ≠ .wo) && decide (r.acc ≠ .guardedWo))

/-- Aborts of a PDO mapping write (R666, R698). -/
def State.mappingAbort (s : State) (i sub : Nat) (n : Int) : Option Nat :=
  let rpdo := decide (i < 0x1800)
  let cob := s.nat (i - 0x200) 1
  let used := (List.range n.toNat).map fun k => s.nat i (k + 1)
  if sub = 0 ∧ ¬ used.all (s.mapEntryOk rpdo) then some abortNoMap
  else if sub = 0 ∧ 512 < used.foldl (fun (a e : Nat) => a + e % 256) 0 then some abortMapLength
  else if ¬ cob.testBit 31 ∨ (s.obj i 0 ≠ 0 ∧ ¬ (sub = 0 ∧ n = 0)) then some abortState
  else none

/-- Aborts of a PDO communication write (R695, R696). -/
def State.pdoAbort (s : State) (i sub : Nat) (n : Int) : Option Nat :=
  let base := if i < 0x1800 then 0x1400 else 0x1800
  if sub = 1 then
    let v := n.toNat
    let id := v % 2048
    let held := s.nat i 1
    if v / 2048 % 1048576 ≠ 0 ∨ id = 0 ∨ id = s.nat 0x1005 0 ∨ (0x580 ≤ id ∧ id ≤ 0x5FF) ∨ (0x600 ≤ id ∧ id ≤ 0x67F)
        ∨ (0x700 ≤ id ∧ id ≤ 0x77F) then some abortValue
    else if ¬ v.testBit 31 ∧ (List.range 8).any (fun p => decide (base + p ≠ i) && !(s.nat (base + p) 1).testBit 31
        && decide (s.nat (base + p) 1 % 2048 = id)) then some abortConflict
    else if id ≠ held % 2048 ∧ ¬ held.testBit 31 then some abortState
    else none
  else if base = 0x1800 ∧ (sub = 3 ∨ sub = 5) then
    let inhibit := if sub = 3 then n.toNat else s.nat i 3
    let timer := if sub = 5 then n.toNat else s.nat i 5
    if inhibit ≠ 0 ∧ timer ≠ 0 ∧ 10 * timer < inhibit then some abortConflict else none
  else none

/-- A store or restore is running, or a command for one waits for its boundary (R680). -/
def State.storing (s : State) : Bool :=
  s.dict.storeJob.isSome || s.held.any fun (w : HeldWrite) => decide (w.key / 256 = 0x1010) || decide (w.key / 256 = 0x1011)

/-- Aborts of a write to the objects of chapters 18 and 19, of 2010h:02 and of 2110h:01, beyond their range columns. -/
def State.dictWriteAbort (s : State) (i sub : Nat) (v : Val) : Option Nat :=
  match v with
  | .bytes _ => none
  | .num n =>
    if i = 0x1010 then (if n ≠ 0x65766173 then some abortNotHeld else if s.storing then some abortState else none)
    else if i = 0x1011 then (if n ≠ 0x64616F6C then some abortNotHeld else if s.storing then some abortState else none)
    else if (0x1400 ≤ i ∧ i < 0x1408) ∨ (0x1800 ≤ i ∧ i < 0x1808) then s.pdoAbort i sub n
    else if (0x1600 ≤ i ∧ i < 0x1608) ∨ (0x1A00 ≤ i ∧ i < 0x1A08) then s.mappingAbort i sub n
    else if i = 0x2010 ∧ sub = 2 ∧ ¬ s.isManager then some abortValue
    else if (i = 0x2110 ∨ i = 0x2111) ∧ sub = 1 ∧ n = 1 ∧ ¬ s.isManager then some abortValue
    else none

/-! ### All checks in order (R661) -/

/-- What every chapter objects to, beyond range columns. -/
def State.objections (s : State) (i sub : Nat) (v : Val) : List Nat :=
  [s.dictWriteAbort i sub v, s.gnssWriteAbort i sub v, s.solWriteAbort i sub v, s.intakeWriteAbort i sub v,
   s.alignWriteAbort i sub v, s.estWriteAbort i sub v, s.modesWriteAbort i sub v, s.capstanWriteAbort i sub v,
   s.servoWriteAbort i sub v, s.safetyWriteAbort i sub v, s.pairWriteAbort i sub v, s.safeNetWriteAbort i sub v,
   s.recorderWriteAbort i sub, s.userWriteAbort i sub v, s.diagWriteAbort i sub v].filterMap id

/-- Step of R661 at which a code is reported. -/
def abortStep (a : Nat) : Nat :=
  if a = abortLength ∨ a = abortTooLong ∨ a = abortTooShort then 4
  else if a = abortValue ∨ a = abortTooLow ∨ a = 0x06090031 then 5
  else if a = abortNoMap ∨ a = abortMapLength ∨ a = abortConflict then 6
  else 7

/-- The objection reported first: by its step, and at the last step a command lock before a device state (R661, R631). -/
def State.firstObjection (s : State) (locked : Bool) (i sub : Nat) (v : Val) : Option Nat :=
  let l := s.objections i sub v
  let first (k : Nat) : Option Nat := l.find? fun a => decide (abortStep a = k)
  match first 4, first 5, first 6 with
  | some a, _, _ => some a
  | none, some a, _ => some a
  | none, none, some a => some a
  | none, none, none => if locked && s.safeLocked i sub then some abortLocked else first 7

/-- Why a value is refused once existence, access and session are right (R661 steps 4 to 7). -/
def State.valueObjection (s : State) (locked : Bool) (i sub : Nat) (r : OdRow) (v : Val) : Option Nat :=
  match lengthAbort r v with
  | some a => some a
  | none => match s.valueAbort i sub r v with
    | some a => some a
    | none => s.firstObjection locked i sub v

/-- Refused bank writes and resets are counted (R427, R460, R507, R611). -/
def State.countRefusal (s : State) (i sub a : Nat) : State :=
  if a ≠ abortState then s
  else if i = 0x7000 ∧ sub = 4 then s.count .control 0x7000 5
  else if (s.bankOf i).isSome ∨ (i = 0x5038 ∧ sub = 2) ∨ (0x5140 ≤ i ∧ i ≤ 0x523F) then s.count .control 0x5038 5
  else if (servoBankOf i).isSome ∨ (i = 0x6048 ∧ sub = 2) then s.count .control 0x6048 5
  else s

/-! ### Effects in the receiving twin alone (R658, R675, R700, R720 to R723, R749) -/

/-- Whether an accepted write acts at once in the twin that receives it: rw and wo objects, the injection and link test objects, and
the erasure of kept data (R233). -/
def actsHere (i sub : Nat) (r : OdRow) : Bool :=
  decide (r.acc = .rw) || decide (r.acc = .wo) || (decide (0x9200 ≤ i) && decide (i < 0x9222)) || (decide (i = 0x3330) && decide (sub = 8))

/-- A challenge is drawn for a client's nonce (R673, R675): any session of the client ends. -/
def State.challenge (s : State) (c : Client) (nonce : List Byte) : State :=
  let n := s.dict.sessionSeq
  let nm := (List.range 16).map fun k => Config.randomByte n k
  let id := leNat ((List.range 4).map fun k => Config.randomByte n (16 + k))
  let s := s.endSession c
  let x : Session := { client := c, id := id, nm := nm, nc := nonce, isOpen := false, counter := none, lastUsed := s.now }
  { s with dict := { s.dict with sessionSeq := n + 1, sessions := s.dict.sessions ++ [x] } }

/-- The challenge of a client. -/
def State.challengeOf (s : State) (c : Client) : Option Session :=
  s.dict.sessions.find? fun (x : Session) => !x.isOpen && decide (x.client = c)

/-- Serial number as it enters a tag. -/
def State.serialBytes (s : State) : List Byte := leBytes 4 (s.nat 0x1018 4)

/-- Tags of a challenge: the client's (R673 step 3) and the module's (step 4). -/
def State.clientTag (s : State) (x : Session) : List Byte :=
  hmacSha256 s.mram.pairKey (ascii "CLV-ENG" ++ x.nm ++ x.nc ++ leBytes 4 x.id ++ s.serialBytes)

/-- The module's tag. -/
def State.moduleTag (s : State) (x : Session) : List Byte :=
  hmacSha256 s.mram.pairKey (ascii "CLV-MOD" ++ x.nc ++ x.nm ++ leBytes 4 x.id ++ s.serialBytes)

/-- Session opening is locked out (R678). -/
def State.lockedOut (s : State) : Bool := match s.dict.lockUntil with
  | some u => decide (s.now < u)
  | none => false

/-- A failed authentication: counted, the challenge discarded, and the fifth within 600 s locks opening for 600 s (R673, R678). -/
def State.authFails (s : State) (c : Client) : State :=
  let s := ((s.dropSession c).count .management 0x1E20 8).event .management 0x1E20 8 4
  let times := s.now :: s.dict.failTimes.filter fun f => decide (s.now < f + 600000000000)
  { s with dict := { s.dict with
    failTimes := times
    lockUntil := if 5 ≤ times.length then some (s.now + 600000000000) else s.dict.lockUntil } }

/-- A challenge that is met opens the session (R673 step 4). -/
def State.authPasses (s : State) (x : Session) : State :=
  let s := { s with dict := { s.dict with sessions := s.dict.sessions.map fun (y : Session) =>
    if y.client = x.client then { y with isOpen := true, lastUsed := s.now } else y } }
  s.event .management 0x1E20 5 4 (leBytes 4 x.id)

/-- A write of 1E20h over CAN (R675, R676): nonce, tag, close; the refusal where there is one. -/
def State.canSession (s : State) (c : Client) (sub : Nat) (b : List Byte) : Option Nat × State :=
  match c with
  | .can _ =>
    if sub = 1 then
      if s.lockedOut then (some abortLockout, s)
      else
        let s := s.challenge c b
        match s.challengeOf c with
        | some x => (none, s.setBlob 0x1E20 2 (x.nm ++ leBytes 4 x.id ++ s.serialBytes))
        | none => (none, s)
    else if sub = 3 then
      if s.lockedOut then (some abortLockout, s)
      else match s.challengeOf c with
        | none => (some abortAuth, s)
        | some x =>
          if b = s.clientTag x then (none, (s.setBlob 0x1E20 4 (s.moduleTag x)).authPasses x)
          else (some abortAuth, s.authFails c)
    else (none, s.endSession c)
  | _ => (some 0x06010000, s)

/-- Effect of a write that acts at once. -/
def State.writeHere (s : State) (c : Client) (i sub : Nat) (v : Val) : Option Nat × State :=
  if i = 0x1E20 then s.canSession c sub (match v with
    | .bytes b => b
    | .num _ => [])
  else match v with
    | .bytes b => (none, s.setBlob i sub b)
    | .num n =>
      if i = 0x9002 then
        let k := s.clientRec c
        (none, s.putClient (if sub = 1 then { k with area := n.toNat, cursor := 0, window := [], windowSeq := none }
          else { k with cursor := n.toNat, window := [], windowSeq := none }))
      else if i = 0x3330 then (none, s.eraseKept)
      else
        let s := if i = 0x9200 ∧ (sub = 4 ∨ sub = 8) ∨ 0x9210 ≤ i ∧ i < 0x9222 ∧ sub = 1 then s else s.setObj i sub n
        (none, (s.diagApplied c i sub n).pairApplied i sub)

/-! ### Pair-wide writes (Table 15-10) -/

/-- A bank copy acts at once: writes to the inactive bank that wait for their boundary are overwritten by it (R428, R507). -/
def State.copyNow (s : State) (key : Nat) : State :=
  if key = okey 0x5038 2 then
    { s with held := s.held.filter fun w => s.bankOf (w.key / 256) ≠ some (1 - s.nat 0x5038 1) }.copyBanks
  else { s with held := s.held.filter fun w => servoBankOf (w.key / 256) ≠ some (1 - s.nat 0x6048 1) }.copyServoBanks

/-- A write is held for its boundary; a signed image is held for verification, a bank copy acts at once (R428, R507, R593, R774). -/
def State.hold (s : State) (key : Nat) (v : Val) (stamp session : Nat) : State :=
  if (key = okey 0x5038 2 ∨ key = okey 0x6048 2) ∧ v = .num 2 then s.copyNow key
  else match v with
  | .bytes b =>
    if key = okey 0xA010 0 ∨ key = okey 0xA011 0 then s.holdImage (key / 256 - 0xA010) b
    else { s with held := s.held ++ [{ key := key, val := v, stamp := stamp, session := session }] }
  | .num _ => { s with held := s.held ++ [{ key := key, val := v, stamp := stamp, session := session }] }

/-- The WRITE message of a held write (Table 15-3). -/
def State.sendWrite (s : State) (key : Nat) (v : Val) (stamp : Nat) : State :=
  s.twSend .write ((key : Int) :: (stamp : Int) :: v.ints)

/-- A request waits until both twins hold its write (R592, R593). -/
def State.awaitAck (s : State) (c : Client) (key : Nat) (v : Val) (seqNo : Option Nat) : State :=
  { s with dict := { s.dict with acks := s.dict.acks ++ [{ client := c, key := key, val := v, seqNo := seqNo, since := s.now }] } }

/-- An accepted pair-wide or guarded write takes its way by the role of the twin that received it (Table 15-10, R591). -/
def State.gateWrite (s : State) (c : Client) (key : Nat) (v : Val) (session : Nat) : State :=
  match s.role with
  | .active =>
    let s := s.hold key v s.mt session
    if s.linkUp ∧ s.pair.partnerRole = some .standby then
      let s := s.sendWrite key v s.mt
      s.awaitAck c key v (some s.pair.sendSeq)
    else if s.linkUp ∧ s.pair.partnerRole = some .slipway then (s.sendWrite key v s.mt).answer c key .done
    else (s.setBit 0x8000 0x0C 6 true).answer c key .done
  | .offline => (s.hold key v s.mt session).answer c key .done
  | .watch => s.answer c key (.abort abortState)
  | _ =>
    if s.linkUp then (s.sendWrite key v s.mt).awaitAck c key v none
    else s.answer c key (.abort (if s.role = .suspect then abortState else abortNotHeld))

/-- A write of an rw-mapped object by a client (R594): answered when it is on its way to the gate. -/
def State.mappedRequest (s : State) (c : Client) (key : Nat) (v : Val) : State :=
  match s.mappedWrite key v s.mt none with
  | some s => s.answer c key .done
  | none => s.answer c key (.abort abortState)

/-! ### One write by a client -/

/-- The type 0Bh record of an accepted guarded write (R708). -/
def State.guardedRecord (s : State) (i sub session : Nat) (b : List Byte) : State :=
  let head := leBytes 2 i ++ leBytes 1 sub ++ [0] ++ leBytes 4 session
  s.offer (s.mkRec 0x0B 4 i .management (if i = 0x1E20 ∧ sub = 9 then head else head ++ b.take 64))

/-- Bytes of a value as written. -/
def valBytes (r : OdRow) : Val → List Byte
  | .num n => leBytesInt r.ty.size n
  | .bytes b => b

/-- An accepted write goes on: at once in this twin, to the gate as rw-mapped, or pair-wide. -/
def State.accept (s : State) (c : Client) (i sub : Nat) (r : OdRow) (v : Val) (session : Nat) : State :=
  let key := okey i sub
  if actsHere i sub r then
    match s.writeHere c i sub v with
    | (none, s) => s.answer c key .done
    | (some a, s) => s.answer c key (.abort a)
  else if r.acc = .rwMapped then s.mappedRequest c key v
  else s.gateWrite c key v session

/-- A client writes an object (R661, R592): existence, access, session, then the value; a refusal is answered with its code. -/
def State.writeObject (s : State) (c : Client) (tag : Option OdTag) (i sub : Nat) (v : Val) : State :=
  let s := s.hear c none
  let key := okey i sub
  match s.missing i sub, s.row i sub with
  | some a, _ => s.answer c key (.abort a)
  | none, none => s.answer c key (.abort abortNoObject)
  | none, some r =>
    match accessAbort r with
    | some a => s.answer c key (.abort a)
    | none =>
      if isGuarded r.acc then
        match s.sessionFor c tag i sub with
        | .error a => s.answer c key (.abort a)
        | .ok x =>
          let s := s.useSession c tag
          match s.valueObjection true i sub r v with
          | some a => (s.countRefusal i sub a).answer c key (.abort a)
          | none => (s.guardedRecord i sub x.id (valBytes r v)).accept c i sub r v x.id
      else
        match s.valueObjection true i sub r v with
        | some a => (s.countRefusal i sub a).answer c key (.abort a)
        | none => s.accept c i sub r v 0

/-- A request of a client for one object by number. -/
def State.writeNum (s : State) (c : Client) (tag : Option OdTag) (i sub : Nat) (n : Int) : State := s.writeObject c tag i sub (.num n)

/-! ### WRITE messages (R592 to R594, R684) -/

/-- Answers of requests that waited for this key to come back from the active twin. -/
def State.answerForwarded (s : State) (key : Nat) (r : Reply) : State :=
  match s.dict.acks.find? fun (a : AckWait) => decide (a.key = key) && a.seqNo.isNone with
  | none => s
  | some a => { s with dict := { s.dict with acks := s.dict.acks.erase a } }.answer a.client key r

/-- A write forwarded by the partner reaches the active twin: checked again against the device state, then held and sent back, or
refused (R684). -/
def State.forwardedWrite (s : State) (key : Nat) (v : Val) (stamp : Nat) (src : Option (Nat × Nat)) : State :=
  let i := key / 256
  let sub := key % 256
  match s.row i sub with
  | none => s
  | some r =>
    match s.valueObjection false i sub r v with
    | some a => (s.countRefusal i sub a).twSend .write ((key : Int) :: (a : Int) :: [2])
    | none =>
      let s := if s.isPlaced src key then s else (s.markPlaced src key).hold key v stamp 0
      if r.acc = .rwMapped ∨ src.isSome then s
      else if s.linkUp ∧ (s.pair.partnerRole = some .standby ∨ s.pair.partnerRole = some .slipway) then s.sendWrite key v stamp
      else (s.sendWrite key v stamp).setBit 0x8000 0x0C 6 true

/-- What a WRITE message does (R592 to R594, R630): in the active twin a forwarded write, `src` the connection and sequence number of
the safe message it came in; elsewhere a write the active twin holds, or with `verdict` the abort code of one it refused. -/
def State.takeWrite (s : State) (key : Nat) (v : Val) (stamp : Nat) (verdict : Option Nat) (src : Option (Nat × Nat)) : State :=
  s.onMessage .write fun s =>
    match s.role, verdict with
    | .active, _ => s.forwardedWrite key v stamp src
    | .offline, _ => s
    | .watch, _ => s
    | _, some a => s.answerForwarded key (.abort a)
    | .suspect, none => s.answerForwarded key .done
    | _, none => (s.hold key v stamp 0).answerForwarded key .done

end Sys2Proof.Machine
end

