-- ==== Sys2Proof/Machine/Nets.lean ====
section
/-! DEFINITION. The dictionary's paths: SDO servers, PDOs, NMT and heartbeat on CAN; OD messages, their clients and sessions; the
read window; store and restore (chapters 18 to 20). -/

namespace Sys2Proof.Machine

open Sys2Proof

/-! ### Values, transfers, reads at an offset (R654, R669, R683, R741) -/

/-- A value as its bytes spell it for object `i:sub`. -/
def State.toVal (s : State) (i sub : Nat) (b : List Byte) : Val :=
  match s.row i sub with
  | some r => if ¬ r.ty.isBlob ∧ b.length = r.ty.size then .num (if r.ty.signed then leInt b else leNat b) else .bytes b
  | none => .bytes b

/-- The transfer in progress of a client. -/
def State.transfer (s : State) (c : Client) : Option Transfer := s.dict.transfers.find? fun (x : Transfer) => decide (x.client = c)

/-- A client's transfer is gone. -/
def State.endTransfer (s : State) (c : Client) : State :=
  { s with dict := { s.dict with transfers := s.dict.transfers.filter fun (x : Transfer) => decide (x.client ≠ c) } }

/-- A client's transfer put. -/
def State.putTransfer (s : State) (x : Transfer) : State :=
  let s := s.endTransfer x.client
  { s with dict := { s.dict with transfers := s.dict.transfers ++ [x] } }

/-- A transfer aborts: nothing of it is held (R683). -/
def State.abortTransfer (s : State) (c : Client) (key a : Nat) : State := (s.endTransfer c).answer c key (.abort a)

/-- The read that returns the last byte of the window moves the cursor on (R721). -/
def State.windowDone (s : State) (c : Client) (key : Nat) : State :=
  if key = okey 0x9002 3 then s.putClient (s.clientRec c).windowRead else s

/-- A value is answered from an offset in units of at most `unit` bytes, every unit from one capture (R669, R741). -/
def State.answerFrom (s : State) (c : Client) (key off unit : Nat) (b : List Byte) : State :=
  let part := (b.drop off).take unit
  let final := decide (b.length ≤ off + unit)
  let s := if final then (s.endTransfer c).windowDone c key
    else s.putTransfer { client := c, key := key, write := false, data := b, nextOff := off + part.length, lastAt := s.now }
  s.answer c key (.value part final)

/-- A request for a guarded object is looked at for its session (R674): a read of one by a client in an open session must be tagged over
a network, and keeps the session from its idle timeout; outside a session it is like any read. -/
def State.guardRead (s : State) (c : Client) (tag : Option OdTag) (i sub : Nat) : Except Nat State :=
  match s.missing i sub, s.row i sub with
  | none, some r =>
    if isGuarded r.acc ∧ r.acc ≠ .guardedWo ∧ (s.openSession c).isSome then
      (match c with
        | .can _ => .ok (s.useSession c none)
        | _ => match s.sessionFor c tag i sub with
          | .error a => .error a
          | .ok _ => .ok (s.useSession c tag))
    else .ok s
  | _, _ => .ok s

/-- A client reads an object whole. -/
def State.fetch (s : State) (c : Client) (tag : Option OdTag) (i sub : Nat) : Except Nat (List Byte) × State :=
  match s.guardRead c tag i sub with
  | .error a => (.error a, s.hear c none)
  | .ok s => s.readObject c i sub

/-- A read at an offset: at 0, or with no capture of the object, it captures the value (R721, R741). -/
def State.readAt (s : State) (c : Client) (tag : Option OdTag) (i sub off unit : Nat) : State :=
  let key := okey i sub
  let capture : Option (List Byte) := match s.transfer c with
    | some x => if x.key = key ∧ ¬ x.write ∧ 0 < off then some x.data else none
    | none => none
  match capture with
  | some b => match s.guardRead c tag i sub with
    | .error a => s.answer c key (.abort a)
    | .ok s => (s.hear c (some key)).answerFrom c key off unit b
  | none =>
    if 0 < off ∧ key = okey 0x9002 3 then s.answerFrom c key off unit (s.clientRec c).window
    else match s.fetch c tag i sub with
      | (.error a, s) => s.answer c key (.abort a)
      | (.ok b, s) => s.answerFrom c key off unit b

/-- A transfer whose segments are 1.0 s apart has aborted (R683). -/
def State.expireTransfer (s : State) (c : Client) : State :=
  match s.transfer c with
  | none => s
  | some x => if s.now < x.lastAt + 1000000000 then s else s.abortTransfer c x.key abortTimeout

/-- TRANSFER_TIMEOUT (R683). -/
def execTransferTimeout (t : Nat) (c : Client) (s : State) : Host.Outcome State Fault Refusal :=
  s.ported t fun s => s.expireTransfer c

/-! ### SDO (R663, R664) -/

/-- A frame received on a port is counted. -/
def State.canFrame (s : State) (p : Nat) : State := s.count .management (0x1E00 + p) 6

/-- CRC of an SDO block transfer (CiA 301; log entry 43). -/
def sdoCrc (b : List Byte) : Nat := b.foldl (fun c x => crcSteps16 8 (c ^^^ (256 * x.toNat))) 0

/-- An SDO request at the server of port `p` (Table 18-4, Table 18-3). -/
def State.sdo (s : State) (p : Nat) (req : SdoReq) : State :=
  let c := Client.can p
  let s := s.expireTransfer c
  let open' (i sub : Nat) (write : Bool) (b : List Byte) : State :=
    s.putTransfer { client := c, key := okey i sub, write := write, data := b, nextOff := 0, lastAt := s.now }
  let withRead (i sub : Nat) (f : State → List Byte → State) : State := match s.fetch c none i sub with
    | (.error a, s) => s.answer c (okey i sub) (.abort a)
    | (.ok b, s) => f s b
  let during (write : Bool) (f : Transfer → State) : State := match s.transfer c with
    | none => s.answer c 0 (.abort abortCommand)
    | some x => if x.write = write then f x else s.abortTransfer c x.key abortCommand
  let put (x : Transfer) (b : List Byte) (n : Nat) : State := s.putTransfer { x with data := b, nextOff := n, lastAt := s.now }
  let finish (x : Transfer) (b : List Byte) : State :=
    (s.endTransfer c).writeObject c none (x.key / 256) (x.key % 256) (s.toVal (x.key / 256) (x.key % 256) b)
  match req with
  | .upload i sub => withRead i sub fun s b =>
      if b.length ≤ 4 then (s.endTransfer c).answer c (okey i sub) (.value b true)
      else (s.putTransfer { client := c, key := okey i sub, write := false, data := b, nextOff := 0, lastAt := s.now }).answer c
        (okey i sub) (.value [] false)
  | .uploadSegment toggle => during false fun x =>
      if toggle ≠ decide (x.nextOff / 7 % 2 = 1) then s.abortTransfer c x.key abortToggle
      else s.answerFrom c x.key x.nextOff 7 x.data
  | .download i sub b => (s.endTransfer c).writeObject c none i sub (s.toVal i sub b)
  | .downloadStart i sub => (open' i sub true []).answer c (okey i sub) .done
  | .downloadSegment toggle b final => during true fun x =>
      if toggle ≠ decide (x.nextOff % 2 = 1) then s.abortTransfer c x.key abortToggle
      else if final then finish x (x.data ++ b)
      else (put x (x.data ++ b) (x.nextOff + 1)).answer c x.key .done
  | .blockDownload i sub => (open' i sub true []).answer c (okey i sub) .done
  | .blockSegment n b => during true fun x =>
      if n ≠ x.nextOff % 127 + 1 then s.abortTransfer c x.key abortSegment
      else if n = 127 then (put x (x.data ++ b) (x.nextOff + 1)).answer c x.key .done
      else put x (x.data ++ b) (x.nextOff + 1)
  | .blockEnd crc => during true fun x =>
      if crc.isSome ∧ crc ≠ some (sdoCrc x.data) then s.abortTransfer c x.key 0x05040004 else finish x x.data
  | .blockUpload i sub n =>
      if n = 0 ∨ 127 < n then s.answer c (okey i sub) (.abort 0x05040002)
      else withRead i sub fun s b =>
        (s.putTransfer { client := c, key := okey i sub, write := false, data := b, nextOff := 0, lastAt := s.now }).answer c
          (okey i sub) (.value [] false)
  | .blockUploadNext acked n => during false fun x =>
      if n = 0 ∨ 127 < n then s.abortTransfer c x.key 0x05040002
      else if 127 < acked then s.abortTransfer c x.key abortSegment
      else
        let off := x.nextOff + 7 * acked
        if x.data.length ≤ off then ((s.endTransfer c).windowDone c x.key).answer c x.key (.value [] true)
        else (put x x.data off).answer c x.key (.value ((x.data.drop off).take (7 * n)) (decide (x.data.length ≤ off + 7 * n)))
  | .abort => s.endTransfer c
  | .other => match s.transfer c with
    | some x => s.abortTransfer c x.key abortCommand
    | none => s.answer c 0 (.abort abortCommand)

/-- SDO_REQUEST (R664, R692: in every NMT state): a frame on another COB-ID than 600h + node ID is for another node. -/
def execSdoRequest (t port cobId : Nat) (req : SdoReq) (s : State) : Host.Outcome State Fault Refusal :=
  s.ported t fun s =>
    if 2 ≤ port ∨ nth false s.dict.busOff port then s
    else if cobId ≠ 0x600 + nth 0 s.dict.nodeIds port then s.canFrame port
    else (s.canFrame port).sdo port req

/-! ### PDOs, SYNC (R665 to R667, R693 to R699) -/

/-- Mapping entries in use of a mapping record. -/
def State.mapping (s : State) (i : Nat) : List Nat := (List.range (s.nat i 0)).map fun k => s.nat i (k + 1)

/-- One mapped value of an RPDO: the command lock, the range, the way to the gate (R594, R631). -/
def State.rpdoValue (s : State) (port i sub : Nat) (b : List Byte) : State :=
  match odRow i sub with
  | none => s
  | some r =>
    if s.safeLocked i sub then s.count .control 0x7140 9
    else
      let v := s.toVal i sub b
      match s.valueObjection false i sub r v with
      | some _ => s
      | none => match s.mappedWrite (okey i sub) v s.mt none with
        | some s => s
        | none => s.count .management (0x1E00 + port) 5

/-- Values of a frame by its mapping. -/
def State.rpdoValues (s : State) (port : Nat) : List Nat → List Byte → State
  | [], _ => s
  | e :: rest, b =>
    (s.rpdoValue port (e / 65536) (e / 256 % 256) (b.take (e % 256 / 8))).rpdoValues port rest (b.drop (e % 256 / 8))

/-- RPDO_RX (R666, R667, R693): applied in the operational state only. -/
def execRpdoRx (t port cobId : Nat) (data : List Byte) (s : State) : Host.Outcome State Fault Refusal :=
  s.ported t fun s =>
    if 2 ≤ port ∨ nth false s.dict.busOff port then s
    else
      let s := s.canFrame port
      let hit (p : Nat) : Bool := !(s.nat (0x1400 + p) 1).testBit 31 && decide (s.nat (0x1400 + p) 1 % 2048 = cobId)
      if s.dict.nmt ≠ .operational then s
      else match (List.range 8).find? hit with
        | none => s
        | some p =>
          let m := s.mapping (0x1600 + p)
          if data.length < (m.foldl (fun (a e : Nat) => a + e % 256) 0) / 8 then s.count .management (0x1E00 + port) 5
          else s.rpdoValues port m data

/-- A TPDO's run changed. -/
def State.modTpdo (s : State) (p : Nat) (f : TpdoRun → TpdoRun) : State :=
  { s with dict := { s.dict with tpdo := modifyNth f s.dict.tpdo p } }

/-- A counted SYNC at one TPDO: with a start value and a counter byte the first transmission falls at that counter (R696, R697). -/
def State.syncTpdo (counter : Option Nat) (s : State) (p : Nat) : State :=
  let ty := s.nat (0x1800 + p) 2
  let start := s.nat (0x1800 + p) 6
  let q : TpdoRun := nth {} s.dict.tpdo p
  if ty = 0 ∨ 0xF0 < ty then s
  else match q.started, counter with
    | false, some n =>
      if start ≠ 0 then (if n = start then s.modTpdo p fun q => { q with started := true, syncs := 0, due := true } else s)
      else s.modTpdo p fun q => { q with started := true, syncs := 1 % ty, due := q.due || decide (ty = 1) }
    | _, _ =>
      let n := q.syncs + 1
      s.modTpdo p fun q => { q with started := true, syncs := n % ty, due := q.due || decide (n % ty = 0) }

/-- SYNC_RX (R697): one SYNC on both ports within 100 µs is counted once. -/
def execSyncRx (t port cobId : Nat) (counter : Option Nat) (s : State) : Host.Outcome State Fault Refusal :=
  s.ported t fun s =>
    if 2 ≤ port ∨ nth false s.dict.busOff port then s
    else
      let s := s.canFrame port
      let same : Bool := match s.dict.lastSync with
        | some (p, at') => decide (p ≠ port) && decide (s.now ≤ at' + 100000)
        | none => false
      if cobId ≠ s.nat 0x1005 0 % 2048 ∨ same ∨ s.dict.nmt ≠ .operational then s
      else
        let s := { s with dict := { s.dict with lastSync := some (port, s.now) } }
        (List.range 8).foldl (State.syncTpdo counter) s

/-- Data of a TPDO at the instant it is sent (R665). -/
def State.tpdoData (s : State) (p : Nat) : List Byte :=
  (s.mapping (0x1A00 + p)).flatMap fun e => match s.row (e / 65536) (e / 256 % 256) with
    | some r => (s.readBytes (e / 65536) (e / 256 % 256) r).take (e % 256 / 8)
    | none => List.replicate (e % 256 / 8) 0

/-- TPDO_SEND (R665, R696, R699): on each port that can carry it. -/
def execTpdoSend (t p : Nat) (s : State) : Host.Outcome State Fault Refusal :=
  s.ported t fun s =>
    let i := 0x1800 + p
    let q : TpdoRun := nth {} s.dict.tpdo p
    let ty := s.nat i 2
    let timer := s.nat i 5 * 1000000
    let expired := decide (0xFE ≤ ty) && decide (timer ≠ 0) && decide (q.timerFrom + timer ≤ s.now)
    let free : Bool := match q.lastSent with
      | some l => decide (l + s.nat i 3 * 100000 ≤ s.now)
      | none => true
    if 8 ≤ p ∨ s.dict.nmt ≠ .operational ∨ (s.nat i 1).testBit 31 ∨ ¬ (q.due || expired) ∨ ¬ free then s
    else
      let data := s.tpdoData p
      let s := s.modTpdo p fun q => { q with
        due := false, lastSent := some s.now, timerFrom := if expired then q.timerFrom + timer else q.timerFrom }
      [0, 1].foldl (fun (s : State) n =>
        if nth false s.dict.busOff n ∨ (8 < data.length ∧ nth 0 s.dict.dataRates n = 0) then s
        else s.tell (.can n (s.nat i 1 % 2048) data)) s

/-! ### NMT, heartbeat, error states (R692, R693) -/

/-- Code of an NMT state in a heartbeat. -/
def Nmt.code : Nmt → Nat
  | .stopped => 4 | .operational => 5 | .preOp => 0x7F

/-- NMT_COMMAND (R693): of two in one IO-island cycle the one on CAN1 stands; resets are acknowledged and ignored. -/
def execNmtCommand (t port : Nat) (cmd : NmtCmd) (node : Nat) (s : State) : Host.Outcome State Fault Refusal :=
  s.ported t fun s =>
    if 2 ≤ port ∨ nth false s.dict.busOff port then s
    else
      let s := s.canFrame port
      let behind : Bool := match s.dict.lastNmt with
        | some (at', p) => decide (at' = s.now / 5) && decide (p = 1) && decide (port = 0)
        | none => false
      if ¬ (node = 0 ∨ node = nth 0 s.dict.nodeIds port) ∨ behind then s
      else
        let s := { s with dict := { s.dict with lastNmt := some (s.now / 5, port) } }
        match cmd with
        | .start =>
          if s.dict.nmt = .operational then s
          else { s with dict := { s.dict with
            nmt := .operational, tpdo := List.replicate 8 { timerFrom := s.now } } }
        | .stop => { s with dict := { s.dict with nmt := .stopped } }
        | .preOp => { s with dict := { s.dict with nmt := .preOp } }
        | _ => s

/-- A message of one byte on COB-ID 700h plus the node ID, from every port that is not bus off. -/
def State.nodeMessage (s : State) (b : Nat) : State :=
  [0, 1].foldl (fun (s : State) p =>
    if nth false s.dict.busOff p then s else s.tell (.can p (0x700 + nth 0 s.dict.nodeIds p) [BitVec.ofNat 8 b])) s

/-- CAN_HEARTBEAT (R692). -/
def execCanHeartbeat (t : Nat) (s : State) : Host.Outcome State Fault Refusal :=
  s.ported t fun s =>
    let interval := s.nat 0x1017 0 * 1000000
    if interval = 0 ∨ s.now < s.dict.lastHeartbeat + interval then s
    else ({ s with dict := { s.dict with lastHeartbeat := s.now } }).nodeMessage s.dict.nmt.code

/-- CAN_ERROR_STATE_CHANGE (Table 18-9, R758): bus-off is counted; a link test ends when the port is no longer error active. -/
def execCanErrorStateChange (t port : Nat) (st : CanState) (s : State) : Host.Outcome State Fault Refusal :=
  s.ported t fun s =>
    if 2 ≤ port then s
    else
      let off := decide (st = .busOff)
      let was := nth false s.dict.busOff port
      let s := s.setObj (0x1E00 + port) 4 (match st with
        | .active => 1
        | .passive => 2
        | .busOff => 4)
      let s := { s with dict := { s.dict with busOff := modifyNth (fun _ => off) s.dict.busOff port } }
      (if off ∧ ¬ was then s.count .management (0x1E00 + port) 7 else s).recheckTests

/-! ### OD messages (R668 to R672) -/

/-- Whether a client is one of the sixteen (R670). -/
def isNetClient : Client → Bool
  | .net _ | .ring _ => true
  | _ => false

/-- Whether a client sends over the Ethernet network, which 1E10h:01 enables. -/
def isEthernet : Client → Bool
  | .net _ => true
  | _ => false

/-- A write message: whole, or a segment that must follow the one before (R654, R669, R674). -/
def State.odWrite (s : State) (c : Client) (tag : Option OdTag) (i sub offset : Nat) (final : Bool) (b : List Byte) : State :=
  let key := okey i sub
  let guarded : Bool := match s.row i sub with
    | some r => isGuarded r.acc
    | none => false
  let before : Option (List Byte) := if offset = 0 then some [] else match s.transfer c with
    | some x => if x.key = key ∧ x.write ∧ x.nextOff = offset then some x.data else none
    | none => none
  match before with
  | none => s.abortTransfer c key abortSegment
  | some d =>
    if final then (s.endTransfer c).writeObject c tag i sub (s.toVal i sub (d ++ b))
    else
      let bad : Option Nat := if guarded then (match s.sessionFor c tag i sub with
          | .error a => some a
          | .ok _ => none) else none
      match bad with
      | some a => s.abortTransfer c key a
      | none =>
        let s := if guarded then s.useSession c tag else s
        (s.putTransfer { client := c, key := key, write := true, data := d ++ b, nextOff := offset + b.length, lastAt := s.now }).answer c key .done

/-- A session is asked for over a network (R673, R676 to R678). -/
def State.openOver (s : State) (c : Client) (nonce : List Byte) : State :=
  let others := (s.dict.sessions.filter fun (x : Session) => decide (x.client ≠ c) && isNetClient x.client).length
  if nonce.length ≠ 16 then s.answer c 0 (.abort abortLength)
  else if s.lockedOut then s.answer c 0 (.abort abortLockout)
  else if s.mram.pairKey.isEmpty then s.answer c 0 (.abort abortAuth)
  else if 4 ≤ others then s.answer c 0 (.abort abortLimit)
  else
    let s := s.challenge c nonce
    match s.challengeOf c with
    | some x => s.answer c 0 (.value (x.nm ++ leBytes 4 x.id ++ s.serialBytes) true)
    | none => s.answer c 0 (.abort abortAuth)

/-- The client's tag is checked (R673, R678). -/
def State.authenticateOver (s : State) (c : Client) (clientTag : List Byte) : State :=
  if s.lockedOut then s.answer c 0 (.abort abortLockout)
  else match s.challengeOf c with
    | none => s.answer c 0 (.abort abortAuth)
    | some x =>
      if clientTag = s.clientTag x then (s.authPasses x).answer c 0 (.value (s.moduleTag x) true)
      else (s.authFails c).answer c 0 (.abort abortAuth)

/-- Object a message names, as its answer names it: none for the opcodes of a session. -/
def OdMsg.key (m : OdMsg) : Nat := if m.opcode ≤ 2 then okey m.index m.sub else 0

/-- A message of a client is served (R669 to R671, R673, R676): from the responses of the last 2.0 s where it repeats a request, a tagged
one its counter too; else by its opcode. -/
def State.odServe (s : State) (c : Client) (m : OdMsg) : State :=
  let k := s.clientRec c
  let same (a : Answered) : Bool := decide (a.reqId = m.reqId) && decide (s.now ≤ a.at' + 2000000000)
    && (match m.tag with
      | none => true
      | some g => decide (a.counter = some g.counter))
  match k.answered.find? same with
  | some a => ((s.count .management 0x1E10 8).tell (.reply c a.key a.reply)).sendOd c a.bytes
  | none =>
    let s := s.expireTransfer c
    let s := s.putClient { s.clientRec c with request := some m }
    match m.opcode with
    | 1 => s.readAt c m.tag m.index m.sub m.offset 1400
    | 2 => s.odWrite c m.tag m.index m.sub m.offset m.final m.data
    | 3 => s.openOver c m.data
    | 4 => s.authenticateOver c m.data
    | _ => (s.answer c 0 .done).endSession c

/-- The first client that is not being served and has a request waiting is served (R670). -/
def State.serveNext (s : State) : State :=
  match s.dict.clients.find? fun (k : ClientRec) => k.request.isNone && !k.waiting.isEmpty with
  | none => s
  | some k => match k.waiting with
    | [] => s
    | m :: rest => (s.putClient { k with waiting := rest }).odServe k.client m

/-- Requests that waited for the one before them are served, in order of arrival (R670). -/
def State.serveWaiting (s : State) : State :=
  let n := s.dict.clients.foldl (fun (n : Nat) (k : ClientRec) => n + k.waiting.length) 0
  (List.range n).foldl (fun (s : State) _ => s.serveNext) s

/-- Clients silent for 60 s are forgotten (R670). -/
def State.forgetSilent (s : State) : State :=
  let gone := s.dict.clients.filter fun (k : ClientRec) => isNetClient k.client && decide (k.lastHeard + 60000000000 ≤ s.now)
  let left := s.dict.clients.filter fun (k : ClientRec) => !(isNetClient k.client && decide (k.lastHeard + 60000000000 ≤ s.now))
  gone.foldl (fun (s : State) k => s.endTransfer k.client) { s with dict := { s.dict with clients := left } }

/-- Whether an opcode is one of the requests of Table 18-6. -/
def isRequest (op : Nat) : Bool := decide (1 ≤ op) && decide (op ≤ 5)

/-- An OD message arrives (R668, R670 to R672): what is not served is counted; a 17th client is refused; a request waits while the one
before it is being served. -/
def State.odArrive (s : State) (c : Client) (broadcast : Bool) (msg : Option OdMsg) : State :=
  if ¬ isNetClient c ∨ (s.obj 0x1E10 1 = 0 ∧ isEthernet c) then s
  else match msg with
    | none => s.count .management 0x1E10 6
    | some m =>
      if m.version ≠ 1 ∨ ¬ isRequest m.opcode ∨ broadcast then s.count .management 0x1E10 6
      else
        let s := s.forgetSilent
        let known := s.dict.clients.any fun (q : ClientRec) => decide (q.client = c)
        let others := (s.dict.clients.filter fun (q : ClientRec) => isNetClient q.client).length
        if ¬ known ∧ 16 ≤ others then
          (s.tell (.reply c m.key (.abort abortLimit))).sendOd c (m.response m.key (.abort abortLimit) false)
        else
          let k : ClientRec := { s.clientRec c with lastHeard := s.now }
          if k.request.isSome ∨ ¬ k.waiting.isEmpty then s.putClient { k with waiting := k.waiting ++ [m] }
          else (s.putClient k).odServe c m

/-- A message stands for its row when its opcode is the row's, or is none of Table 18-6's. -/
def State.odRow (s : State) (c : Client) (broadcast : Bool) (msg : List Byte) (op : Nat) : State :=
  let m := OdMsg.ofBytes msg
  match m with
  | some q => if q.opcode ≠ op ∧ isRequest q.opcode then s else s.odArrive c broadcast m
  | none => s.odArrive c broadcast m

/-- OD_READ (R668, R669, R741): an OD message as its bytes, from a client or, `broadcast`, addressed to FFh over the rings. -/
def execOdRead (t : Nat) (c : Client) (broadcast : Bool) (msg : List Byte) (s : State) : Host.Outcome State Fault Refusal :=
  s.ported t fun s => s.odRow c broadcast msg 1

/-- OD_WRITE (R668, R669). -/
def execOdWrite (t : Nat) (c : Client) (broadcast : Bool) (msg : List Byte) (s : State) : Host.Outcome State Fault Refusal :=
  s.ported t fun s => s.odRow c broadcast msg 2

/-- SESSION_OPEN (R673, R676 to R678): the data is the client's nonce. -/
def execSessionOpen (t : Nat) (c : Client) (broadcast : Bool) (msg : List Byte) (s : State) : Host.Outcome State Fault Refusal :=
  s.ported t fun s => s.odRow c broadcast msg 3

/-- SESSION_AUTHENTICATE (R673, R678): the data is the client's tag. -/
def execSessionAuthenticate (t : Nat) (c : Client) (broadcast : Bool) (msg : List Byte) (s : State) : Host.Outcome State Fault Refusal :=
  s.ported t fun s => s.odRow c broadcast msg 4

/-- SESSION_CLOSE (R676). -/
def execSessionClose (t : Nat) (c : Client) (broadcast : Bool) (msg : List Byte) (s : State) : Host.Outcome State Fault Refusal :=
  s.ported t fun s => s.odRow c broadcast msg 5

/-! ### A request for one object by the path of its client -/

/-- Bytes a client sends for a value of object `i:sub`; a number that its type cannot hold is sent in eight bytes. -/
def State.sentBytes (s : State) (i sub : Nat) : Val → List Byte
  | .bytes b => b
  | .num n => match s.row i sub with
    | some r => leBytesInt (if ¬ r.ty.isBlob ∧ (tyLimits r.ty).1 ≤ n ∧ n ≤ (tyLimits r.ty).2 then r.ty.size else 8) n
    | none => leBytesInt 4 n

/-- A write of one object by a client: a network client's OD message, or as the SDO server of a port takes it. -/
def State.clientWrite (s : State) (c : Client) (via : OdVia) (i sub : Nat) (v : Val) : State :=
  if isNetClient c then s.odArrive c false (some (OdMsg.ofWrite via i sub (s.sentBytes i sub v)))
  else s.writeObject c none i sub v

/-- A write of a number. -/
def State.clientNum (s : State) (c : Client) (via : OdVia) (i sub : Nat) (n : Int) : State := s.clientWrite c via i sub (.num n)

/-- A read of one object by a client. -/
def State.clientRead (s : State) (c : Client) (via : OdVia) (i sub : Nat) : State :=
  if isNetClient c then s.odArrive c false (some (OdMsg.sent 1 via i sub 0 []))
  else s.readAt c none i sub 0 4096

/-- TIME_SECONDS_READ (R120): the read of 2100h:01 latches the other two readings for its client. -/
def execTimeSecondsRead (t : Nat) (c : Client) (via : OdVia) (s : State) : Host.Outcome State Fault Refusal :=
  s.ported t fun s => s.clientRead c via 0x2100 1

/-- WINDOW_CAPTURE (R721, R722). -/
def execWindowCapture (t : Nat) (c : Client) (via : OdVia) (s : State) : Host.Outcome State Fault Refusal :=
  s.ported t fun s => s.clientRead c via 0x9002 3

/-- READ_CLEAR (R743): the armed object is read and cleared. -/
def execReadClear (t : Nat) (c : Client) (via : OdVia) (index sub : Nat) (s : State) : Host.Outcome State Fault Refusal :=
  s.ported t fun s => s.clientRead c via index sub

/-! ### Messages from the partner that release what waits -/

/-- TW_MESSAGE_RX (R543, R545, R546, R548, R20, R746): a message arrives on a lane; what it acknowledges is answered, and what waited for
that is served. -/
def execTwMessageRx (t lane : Nat) (words : List (List Byte)) (s : State) : Host.Outcome State Fault Refusal :=
  s.ported t fun s => (s.closeCycle.takeMessage lane words).serveWaiting

/-- WRITE_MESSAGE (R592 to R594, R630). -/
def execWriteMessage (t key : Nat) (v : Val) (stamp : Nat) (verdict : Option Nat) (src : Option (Nat × Nat)) (s : State) : Host.Outcome State Fault Refusal :=
  s.ported t fun s => (s.takeWrite key v stamp verdict src).serveWaiting

/-! ### Sessions over time (R676, R678) -/

/-- SESSION_IDLE_TIMEOUT (R676): 1E20h:07 with no guarded request. -/
def execSessionIdleTimeout (t : Nat) (c : Client) (s : State) : Host.Outcome State Fault Refusal :=
  s.live t fun s =>
    match s.openedSession c with
    | none => s
    | some x => if s.sessionIdle x then s.endSession c else s

/-- LOCKOUT_EXPIRY (R678). -/
def execLockoutExpiry (t : Nat) (s : State) : Host.Outcome State Fault Refusal :=
  s.live t fun s =>
    match s.dict.lockUntil with
    | none => s
    | some u => if s.now < u then s else { s with dict := { s.dict with lockUntil := none, failTimes := [] } }

/-- CLIENT_FORGET (R670): silent for 60 s. -/
def execClientForget (t : Nat) (c : Client) (s : State) : Host.Outcome State Fault Refusal :=
  s.live t fun s =>
    if isNetClient c ∧ s.dict.clients.any (fun (k : ClientRec) => decide (k.client = c) && decide (k.lastHeard + 60000000000 ≤ s.now)) then
      { s with dict := { s.dict with clients := s.dict.clients.filter fun (k : ClientRec) => decide (k.client ≠ c) } }.endTransfer c
    else s

/-! ### Store and restore (R680 to R682) -/

/-- A store or restore starts at the boundary that carries its command. -/
def State.startStore (s : State) (part : Nat) (factory : Bool) : State :=
  if s.dict.storeJob.isSome then s
  else { s with dict := { s.dict with storeJob := some { started := s.now, factory := factory, image := s.buildImage part factory } } }.setObj 0x1E30 1 3

/-- STORE_COMPLETE (R680 to R682). -/
def execStoreComplete (t : Nat) (ok : Bool) (s : State) : Host.Outcome State Fault Refusal :=
  s.live t fun s =>
    match s.dict.storeJob with
    | none => s
    | some j =>
      let s := { s with dict := { s.dict with storeJob := none } }
      if ok then
        let s := { s with mram := { s.mram with current := some j.image, previous := s.mram.current } }
        let s := { s with power := { s.power with engageBarred := s.power.engageBarred && j.factory } }
        let s := (s.setObjs [(0x1E30, 1, 1), (0x1E30, 3, ((s.now - j.started) / 1000000 : Nat))]).count .management 0x1E30 2
        s.unalarm .management 0x1E30 1 1
      else ((s.setObj 0x1E30 1 2).count .management 0x1E30 4).alarm .management 0x1E30 1 1

end Sys2Proof.Machine
end

