-- ==== Sys2Proof/Machine/Boundary.lean ====
section
/-! DEFINITION. Cycle and sample boundaries (chapters 1, 11, 13, 15): the bank-swap gate, the input set, the work of a cycle or servo
period, the digests, SET, takeover, and the production of safe messages. -/

namespace Sys2Proof.Machine

open Sys2Proof

/-! ### The bank-swap gate (R28, R593, R594) -/

/-- A declared mailbox object takes a value (R702). -/
def State.putMail (s : State) (i : Nat) (b : List Byte) : State :=
  s.modUser (if i < 0xA800 then 0 else 1) fun p => { p with mail := (p.mail.filter fun q => decide (q.1 ≠ i)) ++ [(i, b)] }

/-- What follows a number that a boundary has put into object `i:sub`, chapter by chapter. -/
def State.numApplied (s : State) (i sub stamp session : Nat) (old new : Int) : State :=
  let s := (s.timeApplied i sub stamp new).gnssApplied i sub old new
  let s := (s.solApplied i sub old new).intakeApplied i sub old new
  let s := (s.alignApplied i sub old new).estApplied i sub old new
  let s := (s.tracksApplied i sub old new).modesApplied i sub stamp new
  let s := if i = 0x5001 ∧ sub = 2 ∧ old ≠ new ∧ s.ring.nextStart.isSome then
      { s with ring := { s.ring with rephase := some (s.ctl.t0 + s.phiNs) } }
    else s
  let s := (s.capstanApplied i sub old new).servoApplied i sub new
  let s := (s.safetyApplied i sub new).pairApplied i sub
  let s := (s.safeNetApplied i sub old new).recorderApplied i sub session
  (s.panelApplied i sub new).userApplied i sub new

/-- A held write takes effect (R28): a store or restore starts, the pair key is installed, a mailbox object or any other object takes
its value. -/
def State.applyWrite (s : State) (w : HeldWrite) : State :=
  let i := w.key / 256
  let sub := w.key % 256
  match s.mailDecl i, w.val with
  | some _, .bytes b => s.putMail i b
  | some d, .num n => s.putMail i (leBytesInt d.size n)
  | none, .bytes b =>
    if w.key = okey 0x1E20 9 then { s with mram := { s.mram with pairKey := b } }.endSessions
    else (((s.setBlob i sub b).gnssApplied i sub 0 (if s.blob i sub = b then 0 else 1)).intakeApplied i sub 0 1).estApplied i sub 0 1
  | none, .num n =>
    if i = 0x1010 then s.startStore sub false
    else if i = 0x1011 then s.startStore sub true
    else (s.setObj i sub n).numApplied i sub w.stamp w.session (s.obj i sub) n

/-- Whether a key is rw-mapped. -/
def mappedKey (k : Nat) : Bool := match odRow (k / 256) (k % 256) with
  | some r => decide (r.acc = .rwMapped)
  | none => false

/-- Of an rw-mapped object the write with the latest receipt stamp stands (R594). -/
def latestMapped (l : List HeldWrite) : List HeldWrite :=
  l.filter fun w => !(mappedKey w.key && l.any fun x => decide (x.key = w.key) && decide (w.stamp < x.stamp))

/-- The writes a boundary at `at'` applies, and a rate change that waits for a whole multiple of its period (R420, R468). -/
def splitGate (rateKey : Nat) (period : Int → Nat) (at' : Int) (l : List HeldWrite) : List HeldWrite × List HeldWrite :=
  let waits (w : HeldWrite) : Bool := match w.val with
    | .num n => decide (at' % (period n : Int) ≠ 0)
    | .bytes _ => false
  match (l.filter fun w => decide (w.key = rateKey)).getLast? with
  | some w => if waits w then (l.filter fun x => decide (x.key ≠ rateKey), [w]) else (l, [])
  | none => (l, [])

/-- What a boundary at `at'` takes of this twin's held writes. -/
def State.gateAt (s : State) (at' : Int) : List HeldWrite × List HeldWrite :=
  let (now', later) := if s.isManager then splitGate (okey 0x5001 1) tcOfCode at' s.held
    else splitGate (okey 0x6000 1) tsNs at' s.held
  (latestMapped now', later)

/-- The gate opens: writes take effect in order of receipt, with what the boundary joins to them (R28, R348, R392, R429, R507,
R768, R774). -/
def State.openGate (s : State) (l : List HeldWrite) : State :=
  let s := l.foldl State.applyWrite s
  let s := (s.loadDueUser 0).loadDueUser 1
  if s.isManager then ((s.commitCalibration).reorigin).swapBanks else s.swapServo

/-! ### Digests (R571) -/

/-- A rational in a record. -/
def ratInts (q : Rat) : List Int := [q.num, (q.den : Int)]

/-- The command section of this cycle as the active twin will send it Φ after T0 (R517, R571). -/
def State.leavingSection (s : State) : CmdSection :=
  let frames := (s.phiNs - 710000).toNat / 1000000 + 1
  let cycle := if s.originates then s.ring.cycleNo else (s.ring.command.map (·.cycle)).getD s.ring.cycleNo
  { s.commandSection ((s.nat 0x8100 2 + frames) % 4294967296) ((cycle + 1) % 65536) with twin := s.activeTwin, entries := s.latestEntries }

/-- Output record of a manager (R571): bytes 0 to 399 of the command section, then the values of the cycle, the Fender verdict and the
safe-output demands. -/
def State.managerOutput (s : State) : List Byte :=
  s.leavingSection.bytes.take 400 ++ Config.recordBytes (storeInts s.statusValues ++ [s.obj 0x7018 8, s.obj 0x7000 2])

/-- State record of a manager: estimator, reference model, integrators and blend, mode, Capstan's outputs, tracks, and the states of
slots, sensors and sources. -/
def State.managerState (s : State) : List Int :=
  let c := s.ctl
  let axis (r : RefAxis) : List Int := ratInts r.x ++ ratInts r.v ++ ratInts r.a
  s.est.x.flatMap ratInts ++ s.est.p.flatten.flatMap ratInts
    ++ (s.est.horizons.flatMap fun (h : Horizon) => h.instant :: h.x.flatMap ratInts)
    ++ axis c.north ++ axis c.east ++ axis c.heading ++ (c.integ ++ c.oldInteg).flatMap ratInts
    ++ [(c.blendN : Int), (c.blendK : Int), (s.mode : Int)]
    ++ (List.range 32).flatMap (fun t => [s.obj (0x5100 + t) 3, s.obj (0x5100 + t) 4])
    ++ (s.trk.tracks.flatMap fun (k : Track) => k.x.flatMap ratInts)
    ++ (List.range 22).flatMap (fun k => [s.obj (0x4120 + k) 6, s.obj (0x4120 + k) 7])
    ++ (List.range 12).map (fun n => s.obj (0x4150 + n) 1) ++ (List.range 10).map (fun n => s.obj (0x4160 + n) 1)

/-- Output record of a worker: DAC words, DRVEN demands, feedback records, SF-A and SF-C demands. -/
def State.workerOutput (s : State) : List Byte :=
  let one (j : Nat) : List Int :=
    let r := s.fbRecord j
    ((List.range (s.nat (0x6050 + j) 1)).map fun w => (s.dacWord j w : Int))
      ++ [if driveState (s.thrState j) then 1 else 0, (r.state : Int), (r.flags : Int), r.angle, r.y, r.thrust]
  Config.recordBytes (one 0 ++ one 1 ++ [s.obj 0x7000 2])

/-- State record of a worker: set-points, integrators, rate estimates, extrapolation and thruster states. -/
def State.workerState (s : State) : List Int :=
  let one (j : Nat) : List Int :=
    let q := s.thr j
    [(q.alphaS : Int), (q.alphaHat : Int), q.omega, q.ia, q.iy, q.ys, q.yHat, (s.thrState j : Int)]
  one 0 ++ one 1

/-! ### The input set (R564 to R570) -/

/-- A flag as a value of a record. -/
def boolInt (b : Bool) : Int := if b then 1 else 0

/-- A GNSS product as a set carries it (Table 15-7). -/
def Product.ints (p : Product) : List Int :=
  (p.num : Int) :: (p.which : Int) :: (p.instant : Int) :: (match p.solution with
    | some r => [(r.fix : Int), (r.sats : Int), r.lat, r.lon, r.height, r.vn, r.ve, r.vd, (r.hStd : Int), (r.vStd : Int), r.clockPs,
        (r.clockStdPs : Int), (r.exclude : Int)]
    | none => []) ++ (p.heading.map fun h => (h : Int)).toList ++ p.record.map fun b => (b.toNat : Int)

/-- A target packet as a set carries it. -/
def TargetPacket.ints (p : TargetPacket) : List Int :=
  (p.input : Int) :: p.instant :: p.entries.flatMap fun e => [e.1, e.2.1, (e.2.2 : Int)]

/-- What a sample instant latched, as a set carries it (Table 15-7). -/
def SampleIn.ints (l : SampleIn) : List Int :=
  (l.enc.flatMap fun e => [((e.reading.getD 0 : Nat) : Int), boolInt e.reading.isSome, e.change])
    ++ (l.chains.flatMap fun c => (c.recent.flatMap fun p => [p.1, (p.2 : Int)]) ++ c.value.toList)
    ++ l.drvfb.map boolInt ++ l.sfa.map boolInt
    ++ (match l.command with
      | some c => (c.cycle : Int) :: (c.frame : Int) :: (c.mode : Int) :: (c.rate : Int)
          :: c.entries.flatMap fun (e : CmdEntry) => [boolInt e.allocated, e.thrust, e.angle]
      | none => [])
    ++ [boolInt l.fresh, (l.age : Int)]

/-- The values of an assembled set, as its digest covers them (log entry 6). -/
def State.setInts (s : State) (c : SetCut) : List Int :=
  let sample (a : Sample) : List Int := (a.source : Int) :: a.instant :: (if a.late then 1 else 0) :: a.vals
  let fb (r : Option FbRecord) : List Int := match r with
    | some r => [(r.state : Int), (r.flags : Int), r.angle, r.y, r.thrust]
    | none => []
  (c.count : Int) :: c.horizon :: (if c.drill then 1 else 0) :: c.stepNs.getD 0 :: (c.mark : Int)
    :: (c.inputs.flatMap fun q => [(q.1 : Int), (q.2 : Int)])
    ++ (if s.isManager then s.align.snap.samples.flatMap sample ++ s.align.snap.products.flatMap Product.ints
        ++ s.align.snap.targets.flatMap TargetPacket.ints else [])
    ++ c.feedback.flatMap fb ++ c.levels.map boolInt ++ c.sample.ints
    ++ (c.writes.flatMap fun (w : HeldWrite) => (w.key : Int) :: (w.stamp : Int) :: w.val.ints)
    ++ (match c.resume with
      | some k => (k.mode : Int) :: (k.track : Int) :: k.setPoints
      | none => []) ++ c.user.flatMap UserOut.ints

/-- A cut of this twin's own, but for its inputs and digest. -/
def State.baseCut (s : State) (writes : List HeldWrite) (horizon : Int) (inputs : List (Nat × Nat)) : SetCut :=
  { count := s.setCount
    inputs := inputs
    horizon := horizon
    feedback := if s.isManager then s.ring.snapFb else []
    levels := if s.isManager then s.alc.snap else []
    sample := if s.isManager then {} else s.srv.latch
    writes := writes
    drill := s.pair.drillPlaced
    stepNs := s.clock.step.bind fun p => p.atSec.map fun _ => p.amountNs
    mark := s.pair.slipSend
    resume := s.ctl.resume
    user := [s.userOut 0, s.userOut 1]
    digest := [] }

/-- The last input of each source among samples, products and target packets (R567). -/
def State.lastInputs (s : State) (samples : List Sample) (products : List Product) (targets : List TargetPacket) : List (Nat × Nat) :=
  let named := samples.map (fun a => (a.source, a.num)) ++ (products.map fun p => (s.productSource p, p.num))
    ++ targets.map fun p => (24 + p.input, p.num)
  let sources := (List.range 80).filter fun k => named.any fun q => decide (q.1 = k)
  sources.map fun k => (k, (named.filter fun q => decide (q.1 = k)).foldl (fun n q => max n q.2) 0)

/-- The cut of the set just assembled from this twin's own pool and gate. -/
def State.ownCut (s : State) (writes : List HeldWrite) : SetCut :=
  let n := s.align.snap
  let c := s.baseCut writes n.horizon (if s.isManager then s.lastInputs n.samples n.products n.targets else [])
  { c with digest := sha256 (Config.recordBytes (s.setInts c)) }

/-- The candidate of a twin that waits for SET, formed at the freeze from its own pool under the same rules (R568). -/
def State.candidateCut (s : State) (at' : Int) : SetCut :=
  let (writes, _) := s.gateAt at'
  if ¬ s.isManager then s.baseCut writes 0 []
  else
    let here (a : Sample) : Bool := decide (a.arrival < at')
    let samples := (s.align.sources.flatMap fun q => q.buffer ++ q.lateOnes) ++ s.align.attitude
    let s' := (s.takeFeedback at').busBoundary
    s'.baseCut writes (s.horizonAt at').1 (s.lastInputs (samples.filter here)
      (s.gsol.products.filter fun p => decide (p.arrival < at')) (s.align.targets.filter fun p => decide (p.arrival < at')))

/-- The active twin sends SET; with no partner that executes it the set is agreed as it stands (R567, R591). -/
def State.sendSet (s : State) (writes : List HeldWrite) : State :=
  let c := s.ownCut writes
  let partner := decide (s.pair.partnerRole = some .standby) || decide (s.pair.partnerRole = some .slipway)
  let s := { s with pair := { s.pair with setDigest := c.digest, setAgreed := !(s.linkUp && partner) } }
  if s.linkUp then s.twSend .set (s.setInts c ++ c.digest.map fun b => (b.toNat : Int)) else s

/-- What a phase of a transfer carries (Table 15-9): the state record at Bs, the set of this boundary to catch up with, nothing once in
step. -/
def State.phaseInts (s : State) (n : Nat) (writes : List HeldWrite) : List Int :=
  if n = 2 then (if s.isManager then s.managerState else s.workerState)
  else if n = 3 then s.setInts (s.ownCut writes)
  else []

/-- At a boundary the active twin sends the next phase of a running transfer (Table 15-9). -/
def State.sendPhase (s : State) (writes : List HeldWrite) : State :=
  let n := s.pair.slipSend
  if s.role ≠ .active ∨ n = 0 then s
  else
    let s := s.twSend .slipway ((n : Int) :: s.phaseInts n writes)
    { s with pair := { s.pair with slipSend := if n = 4 then 0 else n + 1, partnerLive := s.pair.partnerLive || decide (n = 4) } }

/-! ### The work of a manager's cycle -/

/-- Body force of the thrust a thruster reports as achieved, through the geometry and loss factors Capstan uses (R321). -/
def State.thrustForce (s : State) (t : Nat) (r : FbRecord) : List Rat :=
  let thrust : Rat := (r.thrust : Rat) / 10
  let angle : Rat := (r.angle : Rat) / 100
  let u := s.unitOf t
  match u.ty with
  | 0 => [0, 0, 0]
  | 1 =>
    let e := unitAt angle
    let m := s.loss u.slot angle * thrust
    bodyOf u.pos (m * e.1, m * e.2)
  | 2 => vscale (u.deliver thrust) u.col1
  | _ =>
    let l : Rat := if thrust ≤ 0 then 0 else (s.obj (0x5140 + u.slot) 0x0F : Rat) / 1000 * angle * thrust
    vadd (vscale thrust u.col1) (vscale l u.col2)

/-- Thrust as reported in the snapshot, and as last reported where it holds none (R321). -/
def State.takeThrust (s : State) : State :=
  let one (t : Nat) : List Rat := match nth none s.ring.snapFb t with
    | some r => s.thrustForce t r
    | none => nth [0, 0, 0] s.est.thrust t
  { s with est := { s.est with thrust := (List.range 32).map one } }

/-- Feedback and PBTRIP levels of the snapshot: the active twin's, or as SET carries them (R447, R521, R567). -/
def State.takeLevels (s : State) (cut : Option SetCut) : State :=
  match cut with
  | none => (s.takeFeedback s.ctl.t0).busBoundary
  | some c =>
    let own := s.alc.level
    let s := { s with ring := { s.ring with snapFb := c.feedback }, alc := { s.alc with level := c.levels } }.busBoundary
    { s with alc := { s.alc with level := own } }

/-- Horizontal offset in m of a twin's commissioned GA point from the body-frame origin at the estimated attitude. -/
def State.gaOffset (s : State) (tw : Twin) : Rat × Rat :=
  let w := turned s.est.x0 (s.arm 0x4210 (if tw = .a then 1 else 4))
  (w.1.v, w.2.1.v)

/-- Horizontal difference in mm of this twin's and the partner's solution of one epoch, both moved to the body-frame origin (R242; log
entry 22). -/
def State.movedMm (s : State) (a b : SolResult) : Nat :=
  let p := Config.tangent a.lat a.lon b.lat b.lon
  let u := s.gaOffset s.ident.twin
  let v := s.gaOffset s.ident.twin.other
  (roundHalfEven (hypot (p.1 - (u.1 - v.1)) (p.2 - (u.2 - v.2)) * 1000)).toNat

/-- A manager's cycle on its set: the gate, the snapshot, P0's and P5's work (R28, R29, R38, R242, R297, R323, R390, R615). -/
def State.cycleWork (s : State) (writes : List HeldWrite) (cut : Option SetCut) : State :=
  let s := { s with ctl := { s.ctl with worked := true } }
  let s := match cut with
    | some c => if c.resume = s.ctl.resume then s else match c.resume with
      | some k => s.adoptResume k
      | none => { s with ctl := { s.ctl with resume := none } }
    | none => s
  let s := s.takeUser ((cut.map SetCut.user).getD [])
  let s := ((s.openGate writes).saveMode).advise
  let s := ((s.takeLevels cut).freeze s.ctl.t0 cut).takeThrust
  let s := (s.twinCompare s.movedMm).guardCycle
  ((s.estimate).joystick).prunePool

/-- A worker's period on its set: the gate, the servo datapath, the safety of its thrusters, the digests (R469 to R495, R571, R620). -/
def State.periodWork (s : State) (writes : List HeldWrite) (cut : Option SetCut) : State :=
  let s := { s with srv := { s.srv with worked := true } }
  let s := s.openGate writes
  let s := match cut with
    | some c => { s.takeUser c.user with srv := { s.srv with latch := c.sample } }
    | none => s
  let s := s.servoPeriod
  let s := ((s.sfcEval 0).sfcEval 1).showDemands
  let ts : Int := tsNs (s.obj 0x6000 1)
  (s.formDigest s.workerOutput s.workerState (s.srv.sampleAt + 8000) (s.srv.sampleAt + ts / 8 - 1000)).prunePool

/-- Work on the set this twin holds, its own writes included; a rate change that waits stays held. -/
def State.ownWork (s : State) : State :=
  let at' := if s.isManager then s.ctl.t0 else s.srv.sampleAt
  let (now', later) := s.gateAt at'
  let s := { s with held := later }
  if s.isManager then s.cycleWork now' none else s.periodWork now' none

/-- Whether the open cycle or period waits for the work on its set. -/
def State.workDue (s : State) : Bool :=
  s.executesSet && (if s.isManager then s.ctl.cycling && !s.ctl.worked else s.srv.sampling && !s.srv.worked)

/-- A twin that waited executes a set: SET, or its candidate (R568, R569); the writes it carries leave the queue. -/
def State.setWork (s : State) (c : SetCut) : State :=
  let gone (w : HeldWrite) : Bool := c.writes.any fun x => decide (x.key = w.key) && decide (x.val = w.val) && decide (x.stamp = w.stamp)
  let s := { s with held := s.held.filter fun w => !gone w, pair := { s.pair with candidate := none } }
  if s.isManager then s.cycleWork c.writes (some c) else s.periodWork c.writes (some c)

/-- A set still not executed is executed as the candidate (R568, R569). -/
def State.catchWork (s : State) : State :=
  if ¬ s.workDue then s
  else match s.pair.candidate with
    | some c => s.setWork c
    | none => s.ownWork

/-- What a boundary does by the role of the twin (Table 15-4, R567, R568, R590): the active twin works and sends SET; a twin that
executes the agreed set waits for SET; a WATCH twin works on its own inputs with no gate; any other only opens the gate. -/
def State.boundaryByRole (s : State) : State :=
  let at' := if s.isManager then s.ctl.t0 else s.srv.sampleAt
  match s.role with
  | .active =>
    let (now', _) := s.gateAt at'
    let s := s.ownWork
    ((s.placeDrill).sendPhase now').sendSet now'
  | .watch =>
    let s := if s.isManager then s.cycleWork [] none else s.periodWork [] none
    { s with pair := { s.pair with setAgreed := true } }
  | .standby => { s with pair := { s.pair with candidate := some (s.candidateCut at') } }
  | .slipway =>
    if s.obj 0x8040 1 = 4 then { s with pair := { s.pair with candidate := some (s.candidateCut at') } }
    else
      let (now', later) := s.gateAt at'
      ({ s with held := later }).openGate now'
  | _ =>
    let (now', later) := s.gateAt at'
    ({ s with held := later }).openGate now'

/-! ### Boundaries -/

/-- What opens with any boundary: the set is not yet held or agreed, injections see the boundary. -/
def State.opens (s : State) : State :=
  { s with
    pair := { s.pair with setHeld := false, setAgreed := false, candidate := none }
    diagn := { s.diagn with boundaryAt := s.now } }

/-- A manager's boundary at `t0` (R38, R100, R101, R583, R711). -/
def State.cycleOpens (s : State) (t0 : Int) : State :=
  let s := s.catchWork
  let s := if s.ctl.cycling then s.statusRecord s.ctl.t0.toNat else s
  let s := s.setObj 0x8000 0x0D ((s.nat 0x8000 0x0D + 1) % 4294967296 : Nat)
  let s := { s.opens with
    ctl := { s.ctl with
      t0 := t0, gridAt := t0, cycling := true, worked := false, supervised := false, demanded := false, allocated := false }
    ring := { s.ring with nextStart := s.ring.nextStart.filter fun n => decide (t0 < n + 2000000) } }
  (((s.swapRoles).judgeResume).boundaryByRole).saveMode

/-- CYCLE_BOUNDARY (R38, R419): T0, a whole multiple of Tc in module time, once each. -/
def execCycleBoundary (t : Nat) (s : State) : Host.Outcome State Fault Refusal :=
  s.live t fun s =>
    let tc : Int := s.tcNs
    let t0 := (s.mt : Int) / tc * tc
    if ¬ s.isManager ∨ s.power.stage ≠ .ready ∨ (s.ctl.cycling ∧ t0 ≤ s.ctl.gridAt) then s else (s.cycleOpens t0).serveWaiting

/-- A worker's boundary at `at'`; the servo datapath counts the sample when it runs (R469, R584, R711). -/
def State.periodOpens (s : State) (at' : Int) : State :=
  let s := s.catchWork
  let s := if s.srv.sampling then s.statusRecord s.srv.sampleAt.toNat else s
  let s := s.setObj 0x6001 1 ((s.nat 0x6001 1 + 1) % 4294967296 : Nat)
  let s := { s.opens with srv := { s.srv with sampleAt := at', gridAt := at', sampling := true, worked := false } }
  ((s.latchSample).swapRoles).boundaryByRole

/-- SAMPLE_BOUNDARY (R41, R469): a sample instant, a whole multiple of Ts in module time, once each. -/
def execSampleBoundary (t : Nat) (s : State) : Host.Outcome State Fault Refusal :=
  s.live t fun s =>
    let ts : Int := tsNs (s.obj 0x6000 1)
    let at' := (s.mt : Int) / ts * ts
    if s.isManager ∨ s.power.stage ≠ .ready ∨ (s.srv.sampling ∧ at' ≤ s.srv.gridAt) then s else (s.periodOpens at').serveWaiting

/-- One set of catch-up at a joining twin (Table 15-9, phase 3): the whole cycle or period that it opens is executed. -/
def State.catchUpOne (s : State) (c : SetCut) : State :=
  if s.isManager then
    let t0 : Int := s.ctl.t0 + s.tcNs
    let s := { s with ctl := { s.ctl with
      t0 := t0, gridAt := t0, cycling := true, worked := false, supervised := false, demanded := false, allocated := false } }
    ((((s.setObj 0x8000 0x0D (c.count : Nat)).setWork c).supervise).engine).allocate
  else
    let at' : Int := s.srv.sampleAt + tsNs (s.obj 0x6000 1)
    let s := { s with srv := { s.srv with sampleAt := at', gridAt := at', sampling := true, worked := false } }
    (s.setObj 0x6001 1 (c.count : Nat)).setWork c

/-- One block of the transfer at the joining twin (Table 15-9). -/
def State.slipBlock (s : State) : SlipBlock → State
  | .config objects blobs sides current previous =>
    let od := s.od.filter fun e => !copiedObject e.1
    let od := putKeys od (objects.filter fun e => copiedObject e.1)
    let bl := s.blobs.filter fun e => !copiedObject e.1
    let bl := (blobs.filter fun e => copiedObject e.1).foldl (fun (m : Blobs) e => assocSet [] m e.1 e.2) bl
    { s with od := od, blobs := bl, mram := { s.mram with
      sides := sides, current := mergeImage s.mram.current current, previous := mergeImage s.mram.previous previous } }.settle.setObj 0x8040 1 1
  | .dynamic r => (s.adopt r).setObj 0x8040 1 2
  | .catchUp cuts => ((cuts.take (if s.isManager then 4 else 8)).foldl State.catchUpOne s).setObj 0x8040 1 3
  | .inStep => { (s.setObj 0x8040 1 4) with pair := { (s.setObj 0x8040 1 4).pair with joinMatches := 0, slipDiverged := false } }

/-- SLIPWAY_MESSAGE (R586): one block, with the progress in percent; the bytes of its messages are added up. -/
def execSlipwayMessage (t : Nat) (b : SlipBlock) (progress : Nat) (s : State) : Host.Outcome State Fault Refusal :=
  s.ported t fun s =>
    let size := ((s.pair.waiting.find? fun w => decide (w.1 = TwKind.slipway)).map fun w => w.2.2).getD 0
    s.onMessage .slipway fun s =>
      if s.role ≠ .slipway ∨ s.obj 0x8040 1 = 0 then s
      else
        (s.slipBlock b).setObjs [(0x8040, 2, (min 100 progress : Nat)), (0x8040, 6, (s.obj 0x8040 6 + size) % 18446744073709551616)]

/-- SET_MESSAGE (R567, R568, R570, R583, R593): the standby builds the set, executes it, and answers with the digest of what it built; a
digest that differs makes it SUSPECT. -/
def execSetMessage (t : Nat) (cut : SetCut) (s : State) : Host.Outcome State Fault Refusal :=
  s.ported t fun s => s.onMessage .set fun s =>
    if s.role = .active ∨ ¬ s.workDue then s
    else
      let s := s.setWork cut
      let s := { s with pair := { s.pair with setHeld := true, setAgreed := true, drillPlaced := cut.drill } }
      let built : List Byte := sha256 (Config.recordBytes (s.setInts cut))
      let s := s.twSend .setAck ((s.setCount : Int) :: built.map fun b => (b.toNat : Int))
      if built ≠ cut.digest ∧ s.role = PairRole.standby then s.roleTo .suspect 6 else s

/-- TAKEOVER (R569, R577, R578, R501): 2.0 µs after the decision the standby drives, on the SET it holds or on its candidate. -/
def execTakeover (t : Nat) (s : State) : Host.Outcome State Fault Refusal :=
  s.ported t fun s =>
    match s.pair.decided with
    | none => s
    | some (at', cause) =>
      if s.role ≠ .standby ∨ s.now < at' + 2000 then s
      else
        let held := s.pair.setHeld
        let s := (s.catchWork).roleTo .active cause
        let s := (s.count .control 0x8000 9).setObj 0x8000 0x0A ((s.now - at' : Nat) : Int)
        let s := if held then s else s.count .control 0x8000 0x0E
        let s := s.endAcks true
        let s := { s with pair := { s.pair with setAgreed := true } }
        if s.isManager then s.takeFrames else s

/-! ### The rest of a manager's cycle -/

/-- MODE_SUPERVISION (R383). -/
def execModeSupervision (t : Nat) (s : State) : Host.Outcome State Fault Refusal :=
  s.live t fun s => if s.mayDoSupervision then s.catchWork.supervise else s

/-- MODE_REQUEST (R384, R385, R387, R389, R399, R409): supervision of a cycle whose set carries a request of 02h to 06h. -/
def execModeRequest (t : Nat) (s : State) : Host.Outcome State Fault Refusal :=
  s.live t fun s => if s.mayDoSupervision ∧ 2 ≤ s.obj 0x5010 1 ∧ s.obj 0x5010 1 ≤ 6 then s.catchWork.supervise else s

/-- DISENGAGE_REQUEST (R381, R386): supervision of a cycle whose set carries a request of 01h. -/
def execDisengageRequest (t : Nat) (s : State) : Host.Outcome State Fault Refusal :=
  s.live t fun s => if s.mayDoSupervision ∧ s.obj 0x5010 1 = 1 then s.catchWork.supervise else s

/-- BOLLARD_REQUEST (R381, R386): supervision of a cycle whose set carries a request of 07h. -/
def execBollardRequest (t : Nat) (s : State) : Host.Outcome State Fault Refusal :=
  s.live t fun s => if s.mayDoSupervision ∧ s.obj 0x5010 1 = 7 then s.catchWork.supervise else s

/-- CAPSTAN_START (R39, R432, R458, R571): once in a cycle, from 600 µs after T0; a demand that is not ready is the previous one and
the cycle counts as a control overrun; the digests of the cycle are formed from what it allocates, to leave from 710 µs. A set not executed yet is executed first. -/
def execCapstanStart (t : Nat) (s : State) : Host.Outcome State Fault Refusal :=
  s.live t fun s =>
    if ¬ (s.isManager ∧ s.ctl.cycling) ∨ s.ctl.allocated ∨ (s.mt : Int) < s.ctl.t0 + 600000 then s
    else
      let s := s.catchWork
      let ready := s.ctl.demanded && decide (s.ctl.demandAt ≤ s.ctl.t0 + 600000)
      let s := if ready then s.allocate
        else
          let late := s.ctl.demand
          let s := (s.count .control 0x5000 9).event .control 0x5000 9 3
          let s := { s with ctl := { s.ctl with demand := if s.ctl.demanded then s.ctl.demandBefore else s.ctl.demand } }.allocate
          { s with ctl := { s.ctl with demand := late } }
      s.formDigest s.managerOutput s.managerState (s.ctl.t0 + 710000) (s.ctl.t0 + 800000)

/-! ### Production of safe messages (R632, R633, R637) -/

/-- A mapped value as a produced message carries it: from the latest cycle status record, or live (R632). -/
def State.producedBytes (s : State) (e : Nat × Nat × Nat) : List Byte :=
  let v : Int := match s.live? e.1 e.2.1 with
    | some v => v
    | none => s.shown e.1 e.2.1
  leBytesInt (e.2.2 / 8) v

/-- SAFE_PRODUCE (R632, R633): a production instant of connection `k`, once each. -/
def execSafeProduce (t k : Nat) (s : State) : Host.Outcome State Fault Refusal :=
  s.ported t fun s =>
    if 16 ≤ k ∨ s.connDir k ≠ 1 ∨ s.clock.state = .unset then s
    else match productionInstant (s.connPeriod k) s.mt with
      | none => s
      | some inst =>
        if (s.conn k).produced.any fun l => decide (inst ≤ l) then s
        else s.produce k inst ((s.connEntries k).flatMap s.producedBytes)

end Sys2Proof.Machine
end

