-- ==== Sys2Proof/Machine/Power.lean ====
section
/-! DEFINITION. Supplies, start-up and shutdown, straps, maintenance reset, thermal state (chapters 2 and 3). -/

namespace Sys2Proof.Machine

open Sys2Proof

/-! ### The internal reset and the origin of a start-up timeline -/

/-- The internal reset: all but the supplies, MRAM, the recorder's areas and the maintenance pad at the values of `State.reset`
(R89, R90, R100, R716). -/
def State.internalReset (s : State) : State :=
  let p := s.power
  { State.reset with
    now := s.now, freeCount := s.freeCount, pending := s.pending, out := s.out, mram := s.mram
    power := { inA := p.inA, inB := p.inB, judgedA := p.judgedA, judgedB := p.judgedB, lossAt := p.lossAt, lossCause := p.lossCause
               mrstLow := p.mrstLow, cleanMark := p.cleanMark, lostAt := p.lostAt, gauge := p.gauge }
    recorder := { circ := s.recorder.circ, perm := s.recorder.perm, nextSeq := s.recorder.nextSeq
                  sealState := s.recorder.sealState, sealSec := s.recorder.sealSec } }

/-- A number by its bits, bit 0 first. -/
def ofBits (l : List Bool) : Nat := l.foldr (fun (b : Bool) (a : Nat) => 2 * a + (if b then 1 else 0)) 0

/-- The pads of the STRAP_NODE pairs, five of them. -/
def StrapPads.nodes (p : StrapPads) : List (Bool × Bool) := (List.range 5).map fun k => p.node.getD k (false, true)

/-- 2000h:04 from the true-polarity pads (R17, R67). -/
def StrapPads.word (p : StrapPads) : Nat := ofBits (p.role.1 :: p.twin.1 :: p.nodes.map (·.1))

/-- 2001h:01: the pairs whose pads read the same level (R68 to R70). -/
def StrapPads.faults (p : StrapPads) : Nat :=
  ofBits (decide (p.role.1 = p.role.2) :: decide (p.twin.1 = p.twin.2) :: p.nodes.map fun q => decide (q.1 = q.2))

/-- Whether a strap fault holds the module in OFFLINE: role and twin pairs, and in a worker the node pairs (R68 to R70). -/
def StrapPads.blocks (p : StrapPads) : Bool := decide (p.faults % 4 ≠ 0) || (p.role.1 && decide (p.faults ≠ 0))

/-- The straps are sampled (R17 to R20, R67 to R70). -/
def State.sampleStraps (s : State) (p : StrapPads) : State :=
  let node := ofBits (p.nodes.map (·.1))
  let bad := p.blocks
  let s := { s with
    ident := { duty := if p.role.1 then .worker else .manager, twin := if p.twin.1 then .b else .a, node := node, held := bad }
    pair := { s.pair with offlineHeld := bad } }
  let s := s.setObjs [(0x2000, 1, if p.role.1 then 1 else 0), (0x2000, 2, if p.twin.1 then 1 else 0),
    (0x2000, 3, if p.role.1 then (node : Int) else 255), (0x2000, 4, (p.word : Nat)), (0x2001, 1, (p.faults : Nat))]
  if bad then (s.setObj 0x8000 5 0x0C).event .control 0x2001 1 3 else s

/-- Presence of the inputs in 2020h:03 (R80). -/
def State.showInputs (s : State) : State := (s.setBit 0x2020 3 0 s.power.inA).setBit 0x2020 3 1 s.power.inB

/-- The start-up timeline begins (R81, R90, R93): the straps are sampled, the power-up is counted, the last interruption, where both
supplies were lost since the last start-up, is reported where the clean-close mark stands (R91, R92), whatever began the
shutdown; the mode in force at the loss is what MRAM holds (R99). -/
def State.startUp (s : State) (straps : StrapPads) : State :=
  let old := s.power
  let counted := s.mram.powerUps
  let s := s.internalReset
  let supply := decide (old.lossCause = some LossCause.supply)
  let s := { s with
    power := { s.power with
      stage := .starting, origin := s.now, cleanFound := old.cleanMark, cleanMark := false, fromSupplyLoss := supply, gauge := none
      keptMode := s.mram.mode, lifeFrom := s.now }
    recorder := { s.recorder with stopped := false }
    mram := { s.mram with powerUps := min 0xFFFFFFFF (s.mram.powerUps + 1) } }
  let ms : Nat := match old.gauge with
    | some g => if old.cleanMark then g else 0xFFFFFFFF
    | none => 0xFFFFFFFF
  let s := s.setObjs [(0x2010, 8, (counted : Nat)), (0x2010, 3, (ms : Nat))]
  ((s.count .management 0x2010 8).showInputs).sampleStraps straps

/-- The start-up timeline begins where nothing holds it: internal reset asserted, MRST_N high, an input present (R76, R90). -/
def State.tryStart (s : State) (straps : StrapPads) : State :=
  if s.power.stage = .down ∧ ¬ s.power.mrstLow ∧ (s.power.inA ∨ s.power.inB) then s.startUp straps else s

/-! ### Inputs -/

/-- One input becomes present or absent. -/
def State.putInput (s : State) (input : Nat) (on : Bool) : State :=
  let p := s.power
  { s with power := if input = 0 then { p with inA := on, judgedA := some s.now } else { p with inB := on, judgedB := some s.now } }

/-- Whether an input can have stood on one side of its threshold for `stableNs` since it was last judged. -/
def State.steadyFor (s : State) (input stableNs : Nat) : Bool :=
  match if input = 0 then s.power.judgedA else s.power.judgedB with
  | some a => decide (a + stableNs ≤ s.now)
  | none => true

/-- An input whose lowest voltage over the last `stableNs` was `v10mV` may be judged present: above the present threshold, 17.6 V
to 18.0 V, for the filter's 2.0 ms (Table 3-1; where in its band the threshold lies is the sender's: log entry 45). -/
def State.judgedPresent (s : State) (input v10mV stableNs : Nat) : Bool :=
  decide (1760 < v10mV) && decide (2000000 ≤ stableNs) && s.steadyFor input stableNs

/-- An input whose highest voltage over the last `stableNs` was `v10mV` may be judged absent: below the absent threshold, 15.6 V to
16.4 V, for the filter's 45 µs or more (Table 3-1). A shorter dip has no effect (R84). -/
def State.judgedAbsent (s : State) (input v10mV stableNs : Nat) : Bool :=
  decide (v10mV < 1640) && decide (45000 ≤ stableNs) && s.steadyFor input stableNs

/-- Whether an input is present. -/
def State.hasInput (s : State) (input : Nat) : Bool := if input = 0 then s.power.inA else s.power.inB

/-- The gauge's reading in ms of an interruption in ns: from 0.1 s to 10 s within 3 %, below 0.1 s within 3 ms and never below 0,
beyond 10 s none; `g` is what it read, held to those limits (R91, R92). -/
def gaugeReading (ns g : Nat) : Option Nat :=
  if 10000000000 < ns then none
  else
    let lo := if 100000000 ≤ ns then (97 * ns + 99999999) / 100000000 else (ns - 3000000 + 999999) / 1000000
    let hi := if 100000000 ≤ ns then 103 * ns / 100000000 else (ns + 3000000) / 1000000
    some (min (max g lo) (min hi 10000))

/-- SUPPLIES_VALID (R80, R81, R90 to R92): an input becomes present while both were absent. -/
def execSuppliesValid (t input : Nat) (straps : StrapPads) (v10mV stableNs gaugeMs : Nat) (s : State) :
    Host.Outcome State Fault Refusal :=
  s.run t fun s =>
    if 2 ≤ input ∨ s.power.inA ∨ s.power.inB ∨ ¬ s.judgedPresent input v10mV stableNs then s
    else
      let s := s.putInput input true
      let g : Option Nat := match s.power.lostAt with
        | some l => gaugeReading (s.now - l) gaugeMs
        | none => none
      let s := { s with power := { s.power with gauge := g } }
      if s.running then s.showInputs else s.tryStart straps

/-- STRAP_LEVEL_CHANGE (R19, R72). -/
def execStrapLevelChange (t : Nat) (pad : StrapName) (s : State) : Host.Outcome State Fault Refusal :=
  s.live t fun s => s.setBit 0x2000 5 (match pad with
    | .role => 0
    | .twin => 1
    | .node => 2) true

/-- INPUT_PRESENT (R80): the second input becomes present. -/
def execInputPresent (t input v10mV stableNs : Nat) (s : State) : Host.Outcome State Fault Refusal :=
  s.run t fun s =>
    if 2 ≤ input ∨ s.hasInput input ∨ ¬ s.hasInput (1 - input) ∨ ¬ s.judgedPresent input v10mV stableNs then s
    else
      let s := s.putInput input true
      if s.running then s.showInputs else s

/-- INPUT_ABSENT (R83): one input becomes absent while the other is present; the module keeps running. -/
def execInputAbsent (t input v10mV stableNs : Nat) (s : State) : Host.Outcome State Fault Refusal :=
  s.run t fun s =>
    if 2 ≤ input ∨ ¬ s.hasInput input ∨ ¬ s.hasInput (1 - input) ∨ ¬ s.judgedAbsent input v10mV stableNs then s
    else
      let s := s.putInput input false
      if s.running then ((s.showInputs).count .management 0x2020 (8 + input)).event .management 0x2020 3 3 [BitVec.ofNat 8 input]
      else s

/-- SUPPLY_WARNING_CHANGE (R85, Table 3-1): `v10mV` is the input's voltage, which must be one at which the flag may change. -/
def execSupplyWarningChange (t input : Nat) (high set : Bool) (v10mV : Nat) (s : State) : Host.Outcome State Fault Refusal :=
  s.live t fun s =>
    let fits : Bool := match high, set with
      | false, true => decide (v10mV ≤ 1760)
      | false, false => decide (1760 ≤ v10mV)
      | true, true => decide (3250 ≤ v10mV)
      | true, false => decide (v10mV ≤ 3200)
    if 2 ≤ input ∨ ¬ fits then s
    else s.setBit 0x2020 3 (input + (if high then 4 else 2)) set

/-! ### Shutdown -/

/-- The case temperature is weighed into the average kept in MRAM for the time it stood since the last weighing (R105; the manual
gives no instants: log entry 45). -/
def State.weighLife (s : State) (case10 : Int) : State :=
  { s with
    mram := { s.mram with lifeTemp := clampInt (-32768) 32767 (Config.lifeWeighted s.mram.lifeTemp case10 (s.now - s.power.lifeFrom)) }
    power := { s.power with lifeFrom := s.now } }

/-- The shutdown sequence (R89, Table 3-2): the intake stops, a hard fault of supply supervision is declared (Table 15-6), every
output goes off, transmission stops, the panel is parked, and once the hold-up store was charged the recorder closes after
`written` more queued records. -/
def State.shutdown (s : State) (cause : LossCause) (written : Nat) : State :=
  let s := s.weighLife s.caseTemp
  let s := { s with
    power := { s.power with stage := .closing, lossAt := some s.now, lossCause := some cause }
    recorder := { s.recorder with stopped := true } }
  let s := s.hardFaultOf none
  let s := { s with power := { s.power with portsOn := false, safetyTested := false }, pair := { s.pair with aliveOut := false } }
  let s := ((s.showSupplies.showDemands).takeOver false).panelPark
  if s.bit 0x2020 3 6 then s.closeRecorder (match cause with
    | .supply => 0
    | .mrst => 1) written
  else s

/-- TOTAL_SUPPLY_LOSS (R82, R89): the last input becomes absent. -/
def execTotalSupplyLoss (t v10mV stableNs written : Nat) (s : State) : Host.Outcome State Fault Refusal :=
  s.run t fun s =>
    let input := if s.power.inA then 0 else 1
    if s.power.inA = s.power.inB ∨ ¬ s.judgedAbsent input v10mV stableNs then s
    else
      let s := s.putInput input false
      let s := { s with power := { s.power with lostAt := some s.now, gauge := none } }
      let s := if s.running then s.showInputs else s
      if s.running ∧ s.power.stage ≠ .closing then s.shutdown .supply written else s

/-- SHUTDOWN_END (R90): at the earliest 5.0 ms after its start; the clean-close mark stands where the hold-up store was charged. -/
def execShutdownEnd (t : Nat) (straps : StrapPads) (s : State) : Host.Outcome State Fault Refusal :=
  s.run t fun s =>
    let from' := s.power.lossAt.getD s.now
    if s.power.stage ≠ .closing ∨ s.now < from' + 5000000 then s
    else
      let s := { s with power := { s.power with cleanMark := s.bit 0x2020 3 6 } }
      let s := if s.bit 0x2020 3 6 then s.writeDirectory else s
      s.internalReset.tryStart straps

/-- MRST_N_ACT (R74, R89): 1.000 ms of low samples. While the module is down, or a shutdown sequence already runs, the manual says
nothing of it: the pad is remembered as low, so that the next start-up waits for its release, and nothing else happens
(DESIGN CHOICE, log entry 14). -/
def execMrstNAct (t written : Nat) (s : State) : Host.Outcome State Fault Refusal :=
  s.run t fun s =>
    let s := { s with power := { s.power with mrstLow := true } }
    if s.running ∧ s.power.stage ≠ .closing then s.shutdown .mrst written else s

/-- MRST_N_RELEASE (R76, R90): before the sequence has ended it has no effect until then. -/
def execMrstNRelease (t : Nat) (straps : StrapPads) (s : State) : Host.Outcome State Fault Refusal :=
  s.run t fun s => { s with power := { s.power with mrstLow := false } }.tryStart straps

/-- TAP_INSTRUCTION (R77): in ACTIVE and STANDBY any instruction but IDCODE is BYPASS. -/
def execTapInstruction (t : Nat) (ir : TapIr) (s : State) : Host.Outcome State Fault Refusal :=
  s.live t fun s =>
    let ir' := if s.role = .active ∨ s.role = .standby then ir.secured else ir
    { s with tap := ir' }.tell (.tapShift ir')

/-! ### The start-up timeline (Table 3-3) -/

/-- Whether the timeline has come to `ns` after its origin and has not reached HOLD-READY. -/
def State.startingAt (s : State) (ns : Nat) : Bool := decide (s.power.stage = .starting) && decide (ns ≤ s.sinceOrigin)

/-- HOLDUP_STORE_CHARGED (R86, R87, R720): from 8 ms; the recorder scans, finds whether the last record of each area is torn, and opens. -/
def execHoldupStoreCharged (t : Nat) (tornCirc tornPerm : Bool) (s : State) : Host.Outcome State Fault Refusal :=
  s.run t fun s =>
    if ¬ s.startingAt 8000000 ∨ s.bit 0x2020 3 6 then s else (s.setBit 0x2020 3 6 true).openRecorder tornCirc tornPerm

/-- An image marked as its check found it. -/
def markImage (ok : Bool) (g : Option Image) : Option Image := g.map fun g => { g with valid := g.valid && ok }

/-- Which image start-up uses: 0 current, 1 previous, 2 factory defaults (2010h:05). -/
def State.imageCode (s : State) : Nat :=
  let ok (g : Option Image) : Bool := match g with
    | some g => g.valid
    | none => false
  if ok s.mram.current then 0 else if ok s.mram.previous then 1 else 2

/-- CONFIGURATION_IMAGE_READ (R95, R96, R232, R239): from 6 ms, once; whether each image passes its check. -/
def execConfigurationImageRead (t : Nat) (currentReads previousReads : Bool) (s : State) : Host.Outcome State Fault Refusal :=
  s.run t fun s =>
    if ¬ s.startingAt 6000000 ∨ s.power.configured then s
    else
      let s := { s with mram := { s.mram with
        current := markImage currentReads s.mram.current, previous := markImage previousReads s.mram.previous } }
      let c := s.imageCode
      let s := s.reloadConfig
      let s := { s with power := { s.power with configured := true, engageBarred := decide (c = 2) } }
      let s := (s.setObj 0x2010 5 (c : Nat)).checkKept
      let s := s.setObjs [(0x3330, 1, (s.startCategory none : Nat)), (0x3340, 1, 0)]
      if c = 1 then s.alarm .management 0x2010 5 1 else s

/-- TIME_FIRST_SET (R121, R123, R124): module time is set by a step while it is unset: free-running from coarse time (Table 3-4), locked
from the source that qualified first, which 2100h:06 must name. The GNSS start category is chosen again with the time now known
(R96). -/
def execTimeFirstSet (t : Nat) (src : TimeOrigin) (taiNs : Nat) (taiUtc : Int) (s : State) :
    Host.Outcome State Fault Refusal :=
  s.live t fun s =>
    let may : Bool := match src with
      | .coarse => true
      | .source n => s.isManager && (s.sourceRank n).isSome && (nth false s.clock.qualified n || s.mayQualify n)
    if s.clock.state ≠ .unset ∨ ¬ may then s
    else
      let s := (s.stepGrids ((taiNs * unitsPerNs : Nat) - (s.clock.units : Int))).putUtc taiUtc 0
      let s := if s.power.configured then s.setObj 0x3330 1 (s.startCategory (some (s.mt / 1000000000)) : Nat) else s
      let set := { s.clock with resid := 0, pulsesFrom := s.mt / 1000000000 + 1 }
      match src with
      | .coarse => { s with clock := { set with state := .freeRunning, coarseOnly := true } }
      | .source n =>
        let s := s.setObjs [(0x2100, 0x05, (n : Int) + 1), (0x2100, 0x07, nth 0 s.clock.uncertainty n)]
        { s with clock := { set with
            state := .locked, lockedFrom := some s.now, gnssSet := decide (n = 0)
            qualified := modifyNth (fun _ => true) s.clock.qualified n } }

/-- RESETS_RELEASED: Gx_RST_N, NA_RST_N and NB_RST_N, at 30 ms. -/
def execResetsReleased (t : Nat) (s : State) : Host.Outcome State Fault Refusal :=
  s.run t fun s => if s.startingAt 30000000 then { s with power := { s.power with resetsReleased := true } } else s

/-- The bit timing of a port follows from its bit rates alone (R782): from 2 Mbit/s on, code 02h, with delay compensation. -/
def State.tellTiming (s : State) (p : Nat) : State :=
  let d := s.nat (0x1E00 + p) 3
  s.tell (.canTiming p (s.nat (0x1E00 + p) 2) d (80, 20) (75, 25) (decide (2 ≤ d)))

/-- Each CAN port starts error active, with the node ID and bit rates of the configuration (after Table 18-9). -/
def State.startCan (s : State) : State :=
  let s := ((s.setObjs [(0x1E00, 4, 1), (0x1E01, 4, 1)]).tellTiming 0).tellTiming 1
  { s with dict := { s.dict with
    nodeIds := [s.nat 0x1E00 1, s.nat 0x1E01 1], dataRates := [s.nat 0x1E00 3, s.nat 0x1E01 3], lastHeartbeat := s.now } }

/-- PORTS_ENABLED (R93, R693): at 35 ms, with the configuration applied. -/
def execPortsEnabled (t : Nat) (s : State) : Host.Outcome State Fault Refusal :=
  s.run t fun s =>
    if ¬ s.startingAt 35000000 ∨ ¬ s.power.configured ∨ s.power.portsOn then s
    else
      let s := s.setObj 0x2010 6 (s.sinceOrigin / 1000 : Nat)
      let s := { s with
        power := { s.power with portsOn := true }
        pair := { s.pair with aliveOut := true, waitFrom := s.now, takeSince := s.now }
        saf := { s.saf with framesFrom := s.now, pulseAt := List.replicate 16 none, judged := 0 } }
      let s := (List.range 16).foldl State.restartConn (s.showSupplies.startCan)
      s.nodeMessage 0

/-- SAFETY_SELF_TEST_DONE (R54, R600): from 40 ms; `mirrors` are the read-backs of each output's mirror contacts. -/
def execSafetySelfTestDone (t : Nat) (passed : Bool) (mirrors : List (Bool × Bool)) (s : State) :
    Host.Outcome State Fault Refusal :=
  s.run t fun s =>
    if ¬ s.startingAt 40000000 ∨ s.power.safetyTested ∨ s.saf.failed then s
    else
      let s := (List.range 8).foldl (fun (s : State) n =>
        let m := mirrors.getD n (false, false)
        s.setMirrors n m.1 m.2) s
      let s := if passed then { s with power := { s.power with safetyTested := true } } else { s with saf := { s.saf with failed := true } }
      s.safetyEval

/-- HOLD_READY (R94, R352, R735, R775): from 45 ms, with ports enabled and the safety plane's self-test passed; `panelReads` says whether
the stored panel image passes its check. -/
def execHoldReady (t : Nat) (panelReads : Bool) (s : State) : Host.Outcome State Fault Refusal :=
  s.run t fun s =>
    if ¬ s.startingAt 45000000 ∨ ¬ s.power.portsOn ∨ ¬ s.power.safetyTested then s
    else
      let s := s.setObj 0x2010 7 (s.sinceOrigin / 1000 : Nat)
      let s := { s with power := { s.power with stage := .ready }, ctl := { s.ctl with readyAt := s.mt } }
      let s := if s.isManager then s.estStart else s
      let s := { s with mram := { s.mram with panelOk := s.mram.panelOk && panelReads } }
      ((s.startUser 0).startUser 1).panelStart

/-- OCXO_WARM (R790): its oven has been within 0.1 K for `stableNs`, 10 s or more, or 4 min have passed. -/
def execOcxoWarm (t stableNs : Nat) (s : State) : Host.Outcome State Fault Refusal :=
  s.live t fun s =>
    let stable := min stableNs s.sinceOrigin
    if 10000000000 ≤ stable ∨ 240000000000 ≤ s.sinceOrigin then s.setBit 0x2020 3 7 true else s

/-- RESUME_ABANDON (R102): 10 s after the origin without a boundary that meets R101. -/
def execResumeAbandon (t : Nat) (s : State) : Host.Outcome State Fault Refusal :=
  s.live t fun s => if s.resumePending ∧ 10000000000 ≤ s.sinceOrigin then s.abandonResume else s

/-- THERMAL_WARNING (R105, R106): case and hottest junction temperature, 0.1 °C; above 95 °C and 120 °C the sticky bits are set. -/
def execThermalWarning (t : Nat) (case10 junction10 : Int) (s : State) : Host.Outcome State Fault Refusal :=
  s.live t fun s =>
    let a := clampInt (-550) 1500 case10
    let b := clampInt (-550) 1500 junction10
    let s := s.weighLife s.caseTemp
    let s := { s.setObjs [(0x2020, 5, a), (0x2020, 6, b)] with power := { s.power with thermalAt := some s.now } }
    let s := if 950 < a then s.setBit 0x2020 7 0 true else s
    let s := if 1200 < b then s.setBit 0x2020 7 1 true else s
    s.alarmIf (decide (950 < a) || decide (1200 < b)) .management 0x2020 7 1

end Sys2Proof.Machine
end

