-- ==== Sys2Proof/Machine/Writes.lean ====
section
/-! DEFINITION. The commands that are writes of one object by a client: each names its object and value and goes the one way of
every write (chapters 3 to 23; R658 to R661). -/

namespace Sys2Proof.Machine

open Sys2Proof

/-- PPS_SETTING_WRITE (R149): the setting waits from its boundary for the first pulse at least 0.5 s after the write. -/
def execPpsSettingWrite (t : Nat) (c : Client) (via : OdVia) (output : Nat) (compensation : Bool) (value : Int) (s : State) : Host.Outcome State Fault Refusal :=
  s.ported t fun s => if output < 2 then s.clientNum c via (0x2120 + output) (if compensation then 4 else 3) value else s

/-- KEPT_DATA_ERASE (R233). -/
def execKeptDataErase (t : Nat) (c : Client) (via : OdVia) (s : State) : Host.Outcome State Fault Refusal :=
  s.ported t fun s => s.clientNum c via 0x3330 8 1

/-- HARBOUR_MODE_ON (R235). -/
def execHarbourModeOn (t : Nat) (c : Client) (via : OdVia) (s : State) : Host.Outcome State Fault Refusal :=
  s.ported t fun s => s.clientNum c via 0x3340 1 1

/-- HARBOUR_MODE_OFF (R239). -/
def execHarbourModeOff (t : Nat) (c : Client) (via : OdVia) (s : State) : Host.Outcome State Fault Refusal :=
  s.ported t fun s => s.clientNum c via 0x3340 1 0

/-- SOURCE_READMIT (R294). -/
def execSourceReadmit (t : Nat) (c : Client) (via : OdVia) (source : Nat) (s : State) : Host.Outcome State Fault Refusal :=
  s.ported t fun s => if source < 22 then s.clientNum c via (0x4120 + source) 9 1 else s

/-- CALIBRATION_COMMIT (R348). -/
def execCalibrationCommit (t : Nat) (c : Client) (via : OdVia) (s : State) : Host.Outcome State Fault Refusal :=
  s.ported t fun s => s.clientNum c via 0x4230 5 1

/-- TRACK_DELETE (R368). -/
def execTrackDelete (t : Nat) (c : Client) (via : OdVia) (track : Nat) (s : State) : Host.Outcome State Fault Refusal :=
  s.ported t fun s => if track < 64 then s.clientNum c via (0x4310 + track) 0x0D 1 else s

/-- JOYSTICK_WRITE (R390, R594): an rw-mapped write with its receipt stamp. -/
def execJoystickWrite (t : Nat) (c : Client) (via : OdVia) (axis : Nat) (value : Int) (s : State) : Host.Outcome State Fault Refusal :=
  s.ported t fun s => if axis < 3 then s.clientNum c via 0x5010 (0x0C + axis) value else s

/-- CONTROL_RATE_WRITE (R420, R761). -/
def execControlRateWrite (t : Nat) (c : Client) (via : OdVia) (value : Int) (s : State) : Host.Outcome State Fault Refusal :=
  s.ported t fun s => s.clientNum c via 0x5001 1 value

/-- OUTPUT_PHASE_WRITE (R422). -/
def execOutputPhaseWrite (t : Nat) (c : Client) (via : OdVia) (value : Int) (s : State) : Host.Outcome State Fault Refusal :=
  s.ported t fun s => s.clientNum c via 0x5001 2 value

/-- BANK_SWAP (R426, R429). -/
def execBankSwap (t : Nat) (c : Client) (via : OdVia) (s : State) : Host.Outcome State Fault Refusal :=
  s.ported t fun s => s.clientNum c via 0x5038 2 1

/-- BANK_COPY (R426, R428). -/
def execBankCopy (t : Nat) (c : Client) (via : OdVia) (s : State) : Host.Outcome State Fault Refusal :=
  s.ported t fun s => s.clientNum c via 0x5038 2 2

/-- BUS_LIMIT_WRITE (R448, R594). -/
def execBusLimitWrite (t : Nat) (c : Client) (via : OdVia) (bus : Nat) (value : Int) (s : State) : Host.Outcome State Fault Refusal :=
  s.ported t fun s => if bus < 8 then s.clientNum c via (0x5120 + bus) 2 value else s

/-- ALLOCATION_WRITE (R461). -/
def execAllocationWrite (t : Nat) (c : Client) (via : OdVia) (thruster : Nat) (value : Int) (s : State) : Host.Outcome State Fault Refusal :=
  s.ported t fun s => if thruster < 32 then s.clientNum c via (0x5100 + thruster) 1 value else s

/-- GEOMETRY_WRITE (R459, R460): a record 5140h + g or a table 5200h + g, 5220h + g. -/
def execGeometryWrite (t : Nat) (c : Client) (via : OdVia) (index sub : Nat) (v : Val) (s : State) : Host.Outcome State Fault Refusal :=
  s.ported t fun s => if (0x5140 ≤ index ∧ index ≤ 0x515F) ∨ (0x5200 ≤ index ∧ index ≤ 0x523F) then s.clientWrite c via index sub v else s

/-- GEOMETRY_MODE_WRITE (R463). -/
def execGeometryModeWrite (t : Nat) (c : Client) (via : OdVia) (value : Int) (s : State) : Host.Outcome State Fault Refusal :=
  s.ported t fun s => s.clientNum c via 0x5130 1 value

/-- SERVO_RATE_WRITE (R468). -/
def execServoRateWrite (t : Nat) (c : Client) (via : OdVia) (value : Int) (s : State) : Host.Outcome State Fault Refusal :=
  s.ported t fun s => s.clientNum c via 0x6000 1 value

/-- SERVO_BANK_SWAP (R507). -/
def execServoBankSwap (t : Nat) (c : Client) (via : OdVia) (s : State) : Host.Outcome State Fault Refusal :=
  s.ported t fun s => s.clientNum c via 0x6048 2 1

/-- SERVO_BANK_COPY (R507). -/
def execServoBankCopy (t : Nat) (c : Client) (via : OdVia) (s : State) : Host.Outcome State Fault Refusal :=
  s.ported t fun s => s.clientNum c via 0x6048 2 2

/-- SF_A_REMOTE_RESET (R610). -/
def execSfARemoteReset (t : Nat) (c : Client) (via : OdVia) (value : Int) (s : State) : Host.Outcome State Fault Refusal :=
  s.ported t fun s => s.clientNum c via 0x7000 4 value

/-- SAFETY_RESET (R611). -/
def execSafetyReset (t : Nat) (c : Client) (via : OdVia) (value : Int) (s : State) : Host.Outcome State Fault Refusal :=
  s.ported t fun s => s.clientNum c via 0x7000 4 value

/-- REJOIN_WRITE (R563). -/
def execRejoinWrite (t : Nat) (c : Client) (via : OdVia) (value : Int) (s : State) : Host.Outcome State Fault Refusal :=
  s.ported t fun s => s.clientNum c via 0x8000 6 value

/-- DRILL_NOW (R585). -/
def execDrillNow (t : Nat) (c : Client) (via : OdVia) (value : Int) (s : State) : Host.Outcome State Fault Refusal :=
  s.ported t fun s => s.clientNum c via 0x8030 3 value

/-- SAFE_TEST_COMMAND (R647). -/
def execSafeTestCommand (t : Nat) (c : Client) (via : OdVia) (k : Nat) (value : Int) (s : State) : Host.Outcome State Fault Refusal :=
  s.ported t fun s => if k < 16 then s.clientNum c via (0x7120 + k) 0x0D value else s

/-- PANEL_ENABLE_WRITE (R732). -/
def execPanelEnableWrite (t : Nat) (c : Client) (via : OdVia) (value : Int) (s : State) : Host.Outcome State Fault Refusal :=
  s.ported t fun s => s.clientNum c via 0x9100 1 value

/-- READ_CLEAR_ARM (R743). -/
def execReadClearArm (t : Nat) (c : Client) (via : OdVia) (value : Int) (s : State) : Host.Outcome State Fault Refusal :=
  s.ported t fun s => s.clientNum c via 0x9200 8 value

/-- INJECTION_ARM (R749 to R751, R754). -/
def execInjectionArm (t : Nat) (c : Client) (via : OdVia) (s : State) : Host.Outcome State Fault Refusal :=
  s.ported t fun s => s.clientNum c via 0x9200 4 1

/-- INJECTION_CANCEL (R754). -/
def execInjectionCancel (t : Nat) (c : Client) (via : OdVia) (s : State) : Host.Outcome State Fault Refusal :=
  s.ported t fun s => s.clientNum c via 0x9200 4 0

/-- LINK_TEST_GENERATE (R755). -/
def execLinkTestGenerate (t : Nat) (c : Client) (via : OdVia) (l : Nat) (s : State) : Host.Outcome State Fault Refusal :=
  s.ported t fun s => if l < 18 then s.clientNum c via (0x9210 + l) 1 1 else s

/-- LINK_TEST_CHECK (R755, R756). -/
def execLinkTestCheck (t : Nat) (c : Client) (via : OdVia) (l : Nat) (s : State) : Host.Outcome State Fault Refusal :=
  s.ported t fun s => if l < 18 then s.clientNum c via (0x9210 + l) 1 2 else s

/-- LINK_TEST_LOOPBACK (R755, R757). -/
def execLinkTestLoopback (t : Nat) (c : Client) (via : OdVia) (l : Nat) (s : State) : Host.Outcome State Fault Refusal :=
  s.ported t fun s => if l < 18 then s.clientNum c via (0x9210 + l) 1 3 else s

/-- LINK_TEST_STOP (R758). -/
def execLinkTestStop (t : Nat) (c : Client) (via : OdVia) (l : Nat) (s : State) : Host.Outcome State Fault Refusal :=
  s.ported t fun s => if l < 18 then s.clientNum c via (0x9210 + l) 1 0 else s

/-- USER_PAIR_RUN (R771). -/
def execUserPairRun (t : Nat) (c : Client) (via : OdVia) (u : Nat) (s : State) : Host.Outcome State Fault Refusal :=
  s.ported t fun s => if u < 2 then s.clientNum c via (0xA000 + u) 1 1 else s

/-- USER_PAIR_STOP (R771). -/
def execUserPairStop (t : Nat) (c : Client) (via : OdVia) (u : Nat) (s : State) : Host.Outcome State Fault Refusal :=
  s.ported t fun s => if u < 2 then s.clientNum c via (0xA000 + u) 1 0 else s

/-- IMAGE_WRITE (R773). -/
def execImageWrite (t : Nat) (c : Client) (via : OdVia) (u : Nat) (image : List Byte) (s : State) : Host.Outcome State Fault Refusal :=
  s.ported t fun s => if u < 2 then s.clientWrite c via (0xA010 + u) 0 (.bytes image) else s

/-- CLIENT_NONCE (R675, R678). -/
def execClientNonce (t : Nat) (c : Client) (via : OdVia) (nonce : List Byte) (s : State) : Host.Outcome State Fault Refusal :=
  s.ported t fun s => s.clientWrite c via 0x1E20 1 (.bytes nonce)

/-- CLIENT_TAG (R675, R678). -/
def execClientTag (t : Nat) (c : Client) (via : OdVia) (clientTag : List Byte) (s : State) : Host.Outcome State Fault Refusal :=
  s.ported t fun s => s.clientWrite c via 0x1E20 3 (.bytes clientTag)

/-- SESSION_CLOSE_WRITE (R676). -/
def execSessionCloseWrite (t : Nat) (c : Client) (via : OdVia) (value : Int) (s : State) : Host.Outcome State Fault Refusal :=
  s.ported t fun s => s.clientNum c via 0x1E20 6 value

/-- PAIR_KEY_WRITE (R677). -/
def execPairKeyWrite (t : Nat) (c : Client) (via : OdVia) (key : List Byte) (s : State) : Host.Outcome State Fault Refusal :=
  s.ported t fun s => s.clientWrite c via 0x1E20 9 (.bytes key)

/-- STORE_PARAMETERS (R680): 1 everything, 2 communication, 3 application. -/
def execStoreParameters (t : Nat) (c : Client) (via : OdVia) (part : Nat) (value : Int) (s : State) : Host.Outcome State Fault Refusal :=
  s.ported t fun s => s.clientNum c via 0x1010 part value

/-- RESTORE_DEFAULTS (R681). -/
def execRestoreDefaults (t : Nat) (c : Client) (via : OdVia) (part : Nat) (value : Int) (s : State) : Host.Outcome State Fault Refusal :=
  s.ported t fun s => s.clientNum c via 0x1011 part value

/-- AREA_WRITE (R723). -/
def execAreaWrite (t : Nat) (c : Client) (via : OdVia) (value : Int) (s : State) : Host.Outcome State Fault Refusal :=
  s.ported t fun s => s.clientNum c via 0x9002 1 value

/-- CURSOR_WRITE (R723). -/
def execCursorWrite (t : Nat) (c : Client) (via : OdVia) (value : Int) (s : State) : Host.Outcome State Fault Refusal :=
  s.ported t fun s => s.clientNum c via 0x9002 2 value

/-- RECORDER_SEAL (R717). -/
def execRecorderSeal (t : Nat) (c : Client) (via : OdVia) (s : State) : Host.Outcome State Fault Refusal :=
  s.ported t fun s => s.clientNum c via 0x9001 2 0x6C616573

/-- RECORDER_UNSEAL (R718). -/
def execRecorderUnseal (t : Nat) (c : Client) (via : OdVia) (s : State) : Host.Outcome State Fault Refusal :=
  s.ported t fun s => s.clientNum c via 0x9001 3 0x6E65706F

/-- OBJECT_WRITE (R658, R661): any object. -/
def execObjectWrite (t : Nat) (c : Client) (via : OdVia) (index sub : Nat) (v : Val) (s : State) : Host.Outcome State Fault Refusal :=
  s.ported t fun s => s.clientWrite c via index sub v

end Sys2Proof.Machine
end

