-- ==== Sys2Proof/Machine/Dispatch.lean ====
section
/-! DEFINITION. One arm for each command: a direct call of its meaning. -/

namespace Sys2Proof.Machine

open Sys2Proof

def exec (i : Instr) (s : State) : Host.Outcome State Fault Refusal :=
  match i with
  | .suppliesValid t input straps v10mV stableNs gaugeMs => Sys2Proof.Machine.execSuppliesValid t input straps v10mV stableNs gaugeMs s
  | .strapLevelChange t pad => Sys2Proof.Machine.execStrapLevelChange t pad s
  | .inputPresent t input v10mV stableNs => Sys2Proof.Machine.execInputPresent t input v10mV stableNs s
  | .inputAbsent t input v10mV stableNs => Sys2Proof.Machine.execInputAbsent t input v10mV stableNs s
  | .supplyWarningChange t input high set v10mV => Sys2Proof.Machine.execSupplyWarningChange t input high set v10mV s
  | .totalSupplyLoss t v10mV stableNs written => Sys2Proof.Machine.execTotalSupplyLoss t v10mV stableNs written s
  | .shutdownEnd t straps => Sys2Proof.Machine.execShutdownEnd t straps s
  | .mrstNAct t written => Sys2Proof.Machine.execMrstNAct t written s
  | .mrstNRelease t straps => Sys2Proof.Machine.execMrstNRelease t straps s
  | .tapInstruction t ir => Sys2Proof.Machine.execTapInstruction t ir s
  | .holdupStoreCharged t tornCirc tornPerm => Sys2Proof.Machine.execHoldupStoreCharged t tornCirc tornPerm s
  | .configurationImageRead t currentReads previousReads => Sys2Proof.Machine.execConfigurationImageRead t currentReads previousReads s
  | .resetsReleased t => Sys2Proof.Machine.execResetsReleased t s
  | .portsEnabled t => Sys2Proof.Machine.execPortsEnabled t s
  | .safetySelfTestDone t passed mirrors => Sys2Proof.Machine.execSafetySelfTestDone t passed mirrors s
  | .holdReady t panelReads => Sys2Proof.Machine.execHoldReady t panelReads s
  | .ocxoWarm t stableNs => Sys2Proof.Machine.execOcxoWarm t stableNs s
  | .resumeAbandon t => Sys2Proof.Machine.execResumeAbandon t s
  | .thermalWarning t case10 junction10 => Sys2Proof.Machine.execThermalWarning t case10 junction10 s
  | .cycleBoundary t => Sys2Proof.Machine.execCycleBoundary t s
  | .modeSupervision t => Sys2Proof.Machine.execModeSupervision t s
  | .engineStart t => Sys2Proof.Machine.execEngineStart t s
  | .capstanStart t => Sys2Proof.Machine.execCapstanStart t s
  | .ganderCompare t => Sys2Proof.Machine.execGanderCompare t s
  | .ringFrameStart t => Sys2Proof.Machine.execRingFrameStart t s
  | .ringPacketForward t port pkt twin => Sys2Proof.Machine.execRingPacketForward t port pkt twin s
  | .commandSectionRx t port pkt subPs => Sys2Proof.Machine.execCommandSectionRx t port pkt subPs s
  | .commandSectionReturn t ringNo pkt subPs => Sys2Proof.Machine.execCommandSectionReturn t ringNo pkt subPs s
  | .syncPacketRx t port pkt => Sys2Proof.Machine.execSyncPacketRx t port pkt s
  | .feedbackPacketPass t port pkt twin => Sys2Proof.Machine.execFeedbackPacketPass t port pkt twin s
  | .feedbackPacketReturn t ringNo pkt => Sys2Proof.Machine.execFeedbackPacketReturn t ringNo pkt s
  | .ownerExpiry t pair => Sys2Proof.Machine.execOwnerExpiry t pair s
  | .containerPass t port pkt twin => Sys2Proof.Machine.execContainerPass t port pkt twin s
  | .ringLinkDown t port cause heldNs => Sys2Proof.Machine.execRingLinkDown t port cause heldNs s
  | .ringUnwrap t port => Sys2Proof.Machine.execRingUnwrap t port s
  | .ringTimeLoss t => Sys2Proof.Machine.execRingTimeLoss t s
  | .sampleBoundary t => Sys2Proof.Machine.execSampleBoundary t s
  | .ssiBurst t encoder word lowAtStart => Sys2Proof.Machine.execSsiBurst t encoder word lowAtStart s
  | .dacFrame t => Sys2Proof.Machine.execDacFrame t s
  | .drvfbChange t thruster energised heldNs => Sys2Proof.Machine.execDrvfbChange t thruster energised heldNs s
  | .enableTimeout t thruster => Sys2Proof.Machine.execEnableTimeout t thruster s
  | .driveDropTimeout t thruster => Sys2Proof.Machine.execDriveDropTimeout t thruster s
  | .staleHoldTimeout t thruster => Sys2Proof.Machine.execStaleHoldTimeout t thruster s
  | .offDelayExpiry t thruster => Sys2Proof.Machine.execOffDelayExpiry t thruster s
  | .servoRateWrite t c via value => Sys2Proof.Machine.execServoRateWrite t c via value s
  | .servoBankSwap t c via => Sys2Proof.Machine.execServoBankSwap t c via s
  | .servoBankCopy t c via => Sys2Proof.Machine.execServoBankCopy t c via s
  | .timeSecondsRead t c via => Sys2Proof.Machine.execTimeSecondsRead t c via s
  | .timeFirstSet t src taiNs taiUtc => Sys2Proof.Machine.execTimeFirstSet t src taiNs taiUtc s
  | .timeSourceQualify t source offsetPs uncertaintyNs => Sys2Proof.Machine.execTimeSourceQualify t source offsetPs uncertaintyNs s
  | .timeSourceChange t offsetPs uncertaintyNs => Sys2Proof.Machine.execTimeSourceChange t offsetPs uncertaintyNs s
  | .timeSourceLoss t source grandmaster => Sys2Proof.Machine.execTimeSourceLoss t source grandmaster s
  | .slewDone t => Sys2Proof.Machine.execSlewDone t s
  | .timeStep t => Sys2Proof.Machine.execTimeStep t s
  | .ppsPulse t output sec => Sys2Proof.Machine.execPpsPulse t output sec s
  | .ppsSettingWrite t c via output compensation value => Sys2Proof.Machine.execPpsSettingWrite t c via output compensation value s
  | .timeMessage t => Sys2Proof.Machine.execTimeMessage t s
  | .ptpEventRx t inst port head msg => Sys2Proof.Machine.execPtpEventRx t inst port head msg s
  | .ptpTransparentForward t inst fromPort1 kind ingressPs egressPs correctionPs => Sys2Proof.Machine.execPtpTransparentForward t inst fromPort1 kind ingressPs egressPs correctionPs s
  | .framingLock t port frm => Sys2Proof.Machine.execFramingLock t port frm s
  | .framingError t port sampleNo frm => Sys2Proof.Machine.execFramingError t port sampleNo frm s
  | .ifClockCheck t port milliHz sampleNo => Sys2Proof.Machine.execIfClockCheck t port milliHz sampleNo s
  | .portFault t port cause => Sys2Proof.Machine.execPortFault t port cause s
  | .portRetry t port => Sys2Proof.Machine.execPortRetry t port s
  | .frontendInit t port => Sys2Proof.Machine.execFrontendInit t port s
  | .streamLevelCheck t port stream counts => Sys2Proof.Machine.execStreamLevelCheck t port stream counts s
  | .channelAssign t port sky => Sys2Proof.Machine.execChannelAssign t port sky s
  | .channelRelease t port c elevation10 unhealthy => Sys2Proof.Machine.execChannelRelease t port c elevation10 unhealthy s
  | .acqJobStart t => Sys2Proof.Machine.execAcqJobStart t s
  | .acqJobEnd t capture first last => Sys2Proof.Machine.execAcqJobEnd t capture first last s
  | .integrationDump t port c samples nav => Sys2Proof.Machine.execIntegrationDump t port c samples nav s
  | .detectorWindow t port c => Sys2Proof.Machine.execDetectorWindow t port c s
  | .pullinTimeout t port c => Sys2Proof.Machine.execPullinTimeout t port c s
  | .reacqTimeout t port c => Sys2Proof.Machine.execReacqTimeout t port c s
  | .measurementInstant t => Sys2Proof.Machine.execMeasurementInstant t s
  | .measurementRecordReady t => Sys2Proof.Machine.execMeasurementRecordReady t s
  | .solutionReady t which => Sys2Proof.Machine.execSolutionReady t which s
  | .attitudeReady t => Sys2Proof.Machine.execAttitudeReady t s
  | .keptDataWrite t w => Sys2Proof.Machine.execKeptDataWrite t w s
  | .keptDataErase t c via => Sys2Proof.Machine.execKeptDataErase t c via s
  | .harbourModeOn t c via => Sys2Proof.Machine.execHarbourModeOn t c via s
  | .harbourModeOff t c via => Sys2Proof.Machine.execHarbourModeOff t c via s
  | .harbourWake t => Sys2Proof.Machine.execHarbourWake t s
  | .harbourWakeEnd t lacking => Sys2Proof.Machine.execHarbourWakeEnd t lacking s
  | .packetCommit t port => Sys2Proof.Machine.execPacketCommit t port s
  | .packetDiscard t port => Sys2Proof.Machine.execPacketDiscard t port s
  | .packetGapTimeout t port => Sys2Proof.Machine.execPacketGapTimeout t port s
  | .queueRead t port => Sys2Proof.Machine.execQueueRead t port s
  | .packetConsume t port d => Sys2Proof.Machine.execPacketConsume t port d s
  | .chainOutput t chain input edges => Sys2Proof.Machine.execChainOutput t chain input edges s
  | .chainClockWindow t chain edges => Sys2Proof.Machine.execChainClockWindow t chain edges s
  | .chainClockLoss t chain silentNs => Sys2Proof.Machine.execChainClockLoss t chain silentNs s
  | .sourceExclusion t source => Sys2Proof.Machine.execSourceExclusion t source s
  | .sourceReadmit t c via source => Sys2Proof.Machine.execSourceReadmit t c via source s
  | .warmStateWrite t => Sys2Proof.Machine.execWarmStateWrite t s
  | .calibrationCommit t c via => Sys2Proof.Machine.execCalibrationCommit t c via s
  | .trackProcessing t => Sys2Proof.Machine.execTrackProcessing t s
  | .trackDelete t c via track => Sys2Proof.Machine.execTrackDelete t c via track s
  | .trackTimeout t track => Sys2Proof.Machine.execTrackTimeout t track s
  | .modeRequest t => Sys2Proof.Machine.execModeRequest t s
  | .disengageRequest t => Sys2Proof.Machine.execDisengageRequest t s
  | .bollardRequest t => Sys2Proof.Machine.execBollardRequest t s
  | .joystickWrite t c via axis value => Sys2Proof.Machine.execJoystickWrite t c via axis value s
  | .controlRateWrite t c via value => Sys2Proof.Machine.execControlRateWrite t c via value s
  | .outputPhaseWrite t c via value => Sys2Proof.Machine.execOutputPhaseWrite t c via value s
  | .bankSwap t c via => Sys2Proof.Machine.execBankSwap t c via s
  | .bankCopy t c via => Sys2Proof.Machine.execBankCopy t c via s
  | .pbtripChange t bus energised heldNs => Sys2Proof.Machine.execPbtripChange t bus energised heldNs s
  | .busLimitWrite t c via bus value => Sys2Proof.Machine.execBusLimitWrite t c via bus value s
  | .allocationWrite t c via thruster value => Sys2Proof.Machine.execAllocationWrite t c via thruster value s
  | .geometryWrite t c via index sub v => Sys2Proof.Machine.execGeometryWrite t c via index sub v s
  | .geometryModeWrite t c via value => Sys2Proof.Machine.execGeometryModeWrite t c via value s
  | .twMessageRx t lane words => Sys2Proof.Machine.execTwMessageRx t lane words s
  | .inputMessage t inp => Sys2Proof.Machine.execInputMessage t inp s
  | .setMessage t cut => Sys2Proof.Machine.execSetMessage t cut s
  | .setAckMessage t count digest => Sys2Proof.Machine.execSetAckMessage t count digest s
  | .digestMessage t count output st lists => Sys2Proof.Machine.execDigestMessage t count output st lists s
  | .timeMessageTw t lane there back err step => Sys2Proof.Machine.execTimeMessageTw t lane there back err step s
  | .timeMessageSend t => Sys2Proof.Machine.execTimeMessageSend t s
  | .writeMessage t key v stamp verdict src => Sys2Proof.Machine.execWriteMessage t key v stamp verdict src s
  | .slipwayMessage t b progress => Sys2Proof.Machine.execSlipwayMessage t b progress s
  | .joinRequest t => Sys2Proof.Machine.execJoinRequest t s
  | .hardFaultNotice t => Sys2Proof.Machine.execHardFaultNotice t s
  | .partnerDemand t demands => Sys2Proof.Machine.execPartnerDemand t demands s
  | .heartbeatSend t lane => Sys2Proof.Machine.execHeartbeatSend t lane s
  | .release t lane blocks => Sys2Proof.Machine.execRelease t lane blocks s
  | .laneDown t lane cause heldNs alive => Sys2Proof.Machine.execLaneDown t lane cause heldNs alive s
  | .laneUp t lane far partner partnerActiveNs => Sys2Proof.Machine.execLaneUp t lane far partner partnerActiveNs s
  | .partnerGone t lowNs => Sys2Proof.Machine.execPartnerGone t lowNs s
  | .startupWaitExpiry t alive => Sys2Proof.Machine.execStartupWaitExpiry t alive s
  | .claimWaitExpiry t => Sys2Proof.Machine.execClaimWaitExpiry t s
  | .bothActiveConflict t => Sys2Proof.Machine.execBothActiveConflict t s
  | .takeOverIFall t => Sys2Proof.Machine.execTakeOverIFall t s
  | .takeover t => Sys2Proof.Machine.execTakeover t s
  | .hardFault t d => Sys2Proof.Machine.execHardFault t d s
  | .suspectSelfTestDone t passed => Sys2Proof.Machine.execSuspectSelfTestDone t passed s
  | .rejoinWrite t c via value => Sys2Proof.Machine.execRejoinWrite t c via value s
  | .autoRejoin t => Sys2Proof.Machine.execAutoRejoin t s
  | .slipwayComplete t => Sys2Proof.Machine.execSlipwayComplete t s
  | .slipwayFail t => Sys2Proof.Machine.execSlipwayFail t s
  | .slipwayRetry t => Sys2Proof.Machine.execSlipwayRetry t s
  | .drillDue t => Sys2Proof.Machine.execDrillDue t s
  | .drillNow t c via value => Sys2Proof.Machine.execDrillNow t c via value s
  | .safeInputChange t input energised heldNs => Sys2Proof.Machine.execSafeInputChange t input energised heldNs s
  | .sfADiscrepancy t thruster => Sys2Proof.Machine.execSfADiscrepancy t thruster s
  | .sfAResetPulse t thruster => Sys2Proof.Machine.execSfAResetPulse t thruster s
  | .testPulse t supply before drops => Sys2Proof.Machine.execTestPulse t supply before drops s
  | .testFrameCheck t => Sys2Proof.Machine.execTestFrameCheck t s
  | .ssOverload t supply milliamps heldNs => Sys2Proof.Machine.execSsOverload t supply milliamps heldNs s
  | .ssRetry t supply => Sys2Proof.Machine.execSsRetry t supply s
  | .soChannelTest t output channel first second rb1 rb2 => Sys2Proof.Machine.execSoChannelTest t output channel first second rb1 rb2 s
  | .soReadbackTimeout t output rb1 rb2 => Sys2Proof.Machine.execSoReadbackTimeout t output rb1 rb2 s
  | .sfARemoteReset t c via value => Sys2Proof.Machine.execSfARemoteReset t c via value s
  | .safetyReset t c via value => Sys2Proof.Machine.execSafetyReset t c via value s
  | .supervisionFault t what rail deviation => Sys2Proof.Machine.execSupervisionFault t what rail deviation s
  | .safeProduce t k => Sys2Proof.Machine.execSafeProduce t k s
  | .safeFrameRx t net peer supervision frame trailer => Sys2Proof.Machine.execSafeFrameRx t net peer supervision frame trailer s
  | .pairingWindowEnd t k => Sys2Proof.Machine.execPairingWindowEnd t k s
  | .channelReportRx t net peer frame => Sys2Proof.Machine.execChannelReportRx t net peer frame s
  | .channelReportSend t k => Sys2Proof.Machine.execChannelReportSend t k s
  | .probeSend t k => Sys2Proof.Machine.execProbeSend t k s
  | .connectionLost t k => Sys2Proof.Machine.execConnectionLost t k s
  | .prpSupervisionSend t => Sys2Proof.Machine.execPrpSupervisionSend t s
  | .safeTestCommand t c via k value => Sys2Proof.Machine.execSafeTestCommand t c via k value s
  | .sdoRequest t port cobId req => Sys2Proof.Machine.execSdoRequest t port cobId req s
  | .transferTimeout t c => Sys2Proof.Machine.execTransferTimeout t c s
  | .rpdoRx t port cobId data => Sys2Proof.Machine.execRpdoRx t port cobId data s
  | .syncRx t port cobId counter => Sys2Proof.Machine.execSyncRx t port cobId counter s
  | .tpdoSend t p => Sys2Proof.Machine.execTpdoSend t p s
  | .nmtCommand t port cmd node => Sys2Proof.Machine.execNmtCommand t port cmd node s
  | .canHeartbeat t => Sys2Proof.Machine.execCanHeartbeat t s
  | .odRead t c broadcast msg => Sys2Proof.Machine.execOdRead t c broadcast msg s
  | .odWrite t c broadcast msg => Sys2Proof.Machine.execOdWrite t c broadcast msg s
  | .sessionOpen t c broadcast msg => Sys2Proof.Machine.execSessionOpen t c broadcast msg s
  | .sessionAuthenticate t c broadcast msg => Sys2Proof.Machine.execSessionAuthenticate t c broadcast msg s
  | .sessionClose t c broadcast msg => Sys2Proof.Machine.execSessionClose t c broadcast msg s
  | .clientNonce t c via nonce => Sys2Proof.Machine.execClientNonce t c via nonce s
  | .clientTag t c via tg => Sys2Proof.Machine.execClientTag t c via tg s
  | .sessionCloseWrite t c via value => Sys2Proof.Machine.execSessionCloseWrite t c via value s
  | .sessionIdleTimeout t c => Sys2Proof.Machine.execSessionIdleTimeout t c s
  | .pairKeyWrite t c via key => Sys2Proof.Machine.execPairKeyWrite t c via key s
  | .lockoutExpiry t => Sys2Proof.Machine.execLockoutExpiry t s
  | .clientForget t c => Sys2Proof.Machine.execClientForget t c s
  | .storeParameters t c via part value => Sys2Proof.Machine.execStoreParameters t c via part value s
  | .restoreDefaults t c via part value => Sys2Proof.Machine.execRestoreDefaults t c via part value s
  | .objectWrite t c via index sub v => Sys2Proof.Machine.execObjectWrite t c via index sub v s
  | .recordAccept t => Sys2Proof.Machine.execRecordAccept t s
  | .recordDrop t plane payload => Sys2Proof.Machine.execRecordDrop t plane payload s
  | .directoryUpdate t => Sys2Proof.Machine.execDirectoryUpdate t s
  | .recorderSeal t c via => Sys2Proof.Machine.execRecorderSeal t c via s
  | .recorderUnseal t c via => Sys2Proof.Machine.execRecorderUnseal t c via s
  | .windowCapture t c via => Sys2Proof.Machine.execWindowCapture t c via s
  | .areaWrite t c via value => Sys2Proof.Machine.execAreaWrite t c via value s
  | .cursorWrite t c via value => Sys2Proof.Machine.execCursorWrite t c via value s
  | .panelHalfCycle t => Sys2Proof.Machine.execPanelHalfCycle t s
  | .panelFrameEnd t => Sys2Proof.Machine.execPanelFrameEnd t s
  | .panelUpdateRequest t => Sys2Proof.Machine.execPanelUpdateRequest t s
  | .panelEnableWrite t c via value => Sys2Proof.Machine.execPanelEnableWrite t c via value s
  | .readClearArm t c via value => Sys2Proof.Machine.execReadClearArm t c via value s
  | .readClear t c via index sub => Sys2Proof.Machine.execReadClear t c via index sub s
  | .scrubPass t corrected => Sys2Proof.Machine.execScrubPass t corrected s
  | .uncorrectableWord t place data read address => Sys2Proof.Machine.execUncorrectableWord t place data read address s
  | .injectionArm t c via => Sys2Proof.Machine.execInjectionArm t c via s
  | .injectionCancel t c via => Sys2Proof.Machine.execInjectionCancel t c via s
  | .injection t => Sys2Proof.Machine.execInjection t s
  | .detectionTimeout t => Sys2Proof.Machine.execDetectionTimeout t s
  | .linkTestGenerate t c via l => Sys2Proof.Machine.execLinkTestGenerate t c via l s
  | .linkTestCheck t c via l => Sys2Proof.Machine.execLinkTestCheck t c via l s
  | .linkTestLoopback t c via l => Sys2Proof.Machine.execLinkTestLoopback t c via l s
  | .linkTestStop t c via l => Sys2Proof.Machine.execLinkTestStop t c via l s
  | .linkTestTimeLimit t l => Sys2Proof.Machine.execLinkTestTimeLimit t l s
  | .loopbackFrame t l received => Sys2Proof.Machine.execLoopbackFrame t l received s
  | .userSlotOpen t u => Sys2Proof.Machine.execUserSlotOpen t u s
  | .odReadCall t u index sub buffer length => Sys2Proof.Machine.execOdReadCall t u index sub buffer length s
  | .mbWrite t u index sub buffer value => Sys2Proof.Machine.execMbWrite t u index sub buffer value s
  | .propose t u north east heading => Sys2Proof.Machine.execPropose t u north east heading s
  | .returnCall t u => Sys2Proof.Machine.execReturnCall t u s
  | .slotOverrun t u => Sys2Proof.Machine.execSlotOverrun t u s
  | .userPairFault t u cause => Sys2Proof.Machine.execUserPairFault t u cause s
  | .userPairRun t c via u => Sys2Proof.Machine.execUserPairRun t c via u s
  | .userPairStop t c via u => Sys2Proof.Machine.execUserPairStop t c via u s
  | .imageWrite t c via u image => Sys2Proof.Machine.execImageWrite t c via u image s
  | .imageVerified t u partner => Sys2Proof.Machine.execImageVerified t u partner s
  | .takeOverIRise t => Sys2Proof.Machine.execTakeOverIRise t s
  | .ifLaneCheckerLock t port lane bits => Sys2Proof.Machine.execIfLaneCheckerLock t port lane bits s
  | .prbsCheckerLock t l bits => Sys2Proof.Machine.execPrbsCheckerLock t l bits s
  | .storeComplete t ok => Sys2Proof.Machine.execStoreComplete t ok s
  | .netLinkChange t net up => Sys2Proof.Machine.execNetLinkChange t net up s
  | .canErrorStateChange t port st => Sys2Proof.Machine.execCanErrorStateChange t port st s
  | .serialCharacterRx t port b charError startLateNs endLateNs => Sys2Proof.Machine.execSerialCharacterRx t port b charError startLateNs endLateNs s

end Sys2Proof.Machine
end

