-- ==== Sys2Proof/Machine/Step.lean ====
section
/-! DEFINITION. One step: the command at the front of the queue, or the passing of time where none waits. -/

namespace Sys2Proof.Machine

open Sys2Proof

/-- One step. With a command in front: its effect, on the module with the rest of the queue. On an empty queue one cycle of the
TIME island, 4 ns, passes (log entry 9). -/
def step (s : State) : Host.Outcome State Fault Refusal :=
  match s.pending with
  | [] => .next (s.at (s.now + 4))
  | c :: rest => exec c { s with pending := rest }

/-- The command that a word spells put in front of the queue; no word spells one (R81 and the table's other rows have no bits). -/
def State.withFetchWord (s : State) (nbits w : Nat) : State :=
  match decodeTableWord nbits w with
  | none => s
  | some c => { s with pending := c :: s.pending }

end Sys2Proof.Machine
end

