-- ==== Sys2Proof/Machine/Pads.lean ====
section
/-! DEFINITION. What the module's output pads do, group by group, as a function of the state (Table 2-7, R53, R54, R57 to R59, R89,
R236, R267, R477). -/

namespace Sys2Proof.Machine

open Sys2Proof

/-- What an output pad does: nothing because the module is unpowered or the group is off, high impedance, a level, an idle bus, a
running clock or an active driver. -/
inductive PadState where
  | off | highZ | low | high | idle | recessive | running | active
  deriving DecidableEq, Repr

/-- Groups of output pads of Table 2-7, with their instance. -/
inductive PadGroup where
  /-- Gx_REF; Gx_RST_N; Gx_CS_N; Gx_SCK and Gx_MOSI of port GA, GB, GC. -/
  | ref (port : Nat) | frontReset (port : Nat) | chipSelect (port : Nat) | spiBus (port : Nat)
  /-- Terward and Wymal transmit lanes, and their TXDIS pads (low enables the transmitter; high impedance is released). -/
  | terward (lane : Nat) | wymal (port : Nat) | terwardDisable (lane : Nat) | wymalDisable (port : Nat)
  | pairAlive | takeOver
  /-- SGMII lanes, MDIO pads and PHY reset of NET-A and NET-B. -/
  | sgmii (net : Nat) | mdio (net : Nat) | phyReset (net : Nat)
  | serialTx (port : Nat) | can (port : Nat) | sigmaClock (n : Nat)
  | encoderClock (n : Nat) | excitation (n : Nat) | dacPort (n : Nat) | driveEnable (n : Nat)
  | sensorSupply (n : Nat) | safeOutput (n channel : Nat) | ppsOut (n : Nat) | ppsQual | panel | tdo
  deriving DecidableEq, Repr

/-- Whether the module drives its outputs: it runs, and no shutdown sequence is under way (Table 3-2). -/
def State.drives (s : State) : Bool := decide (s.power.stage = .starting) || decide (s.power.stage = .ready)

/-- Whether the worker-only outputs are driven: by a worker in the ACTIVE role alone (R57 to R59, R477, R557). -/
def State.workerDrives (s : State) : Bool := s.drives && !s.isManager && decide (s.role = .active)

/-- Levels of an on/off pad. -/
def onOff (b : Bool) : PadState := if b then .high else .off

/-- A pad group that is off (or another resting state) until the ports are enabled at 35 ms. -/
def State.fromPorts (s : State) (rest on : PadState) : PadState := if s.drives && s.power.portsOn then on else rest

/-- What an output pad does. Times of Table 2-7 run from the origin of the start-up timeline; an unpowered module's pads rest. Gx_REF
runs 5 ms after it at the latest: the model has it run from then on (log entry 46). A pulse whose falling edge is on time has gone
when its command comes. -/
def State.pad (s : State) : PadGroup → PadState
  | .ref _ => if s.drives && decide (5000000 ≤ s.sinceOrigin) then .running else .off
  | .frontReset p =>
    if ¬ s.drives then .highZ
    else if ¬ s.power.resetsReleased ∨ (s.obj 0x3340 4 = 1 ∧ s.obj (0x3000 + p) 1 ≠ 0) then .low
    else .high
  | .chipSelect _ => if s.drives then .high else .highZ
  | .spiBus _ => if s.drives then .idle else .highZ
  | .terward _ => s.fromPorts .off .active
  | .wymal _ => s.fromPorts .off .active
  | .terwardDisable _ => s.fromPorts .highZ .low
  | .wymalDisable _ => s.fromPorts .highZ .low
  | .pairAlive => onOff (s.drives && s.pair.aliveOut)
  | .takeOver => onOff (s.drives && s.pair.takeOut)
  | .sgmii _ => s.fromPorts .off .active
  | .mdio _ => s.fromPorts .highZ .active
  | .phyReset _ => if s.drives && s.power.resetsReleased then .high else .low
  | .serialTx _ => s.fromPorts .highZ .active
  | .can _ => s.fromPorts .recessive .active
  | .sigmaClock n => if s.drives && decide (s.obj 0x4058 (1 + n) ≠ 0) then .running else .low
  | .encoderClock _ => if s.workerDrives then .active else .highZ
  | .excitation r => if s.workerDrives && decide (s.obj (0x6028 + r) 1 ≠ 0) then .running else .off
  | .dacPort _ => if s.workerDrives then .active else .highZ
  | .driveEnable j => onOff (s.workerDrives && (nth {} s.srv.thr j).drven)
  | .sensorSupply k => onOff (s.drives && s.ssOn k)
  | .safeOutput n c => onOff (s.drives && s.power.safetyTested && s.bit (0x7030 + n) 5 c)
  | .ppsOut n =>
    match nth none s.clock.pulseInfo n with
    | some q => if s.drives && decide (s.obj (0x2120 + n) 2 = 0) && decide (q.edgeAt ≤ s.now)
        && decide (s.now < q.edgeAt + 1000 * (nth (10000, 0) s.clock.ppsForce n).1) then .high else .low
    | none => .low
  | .ppsQual => if s.drives && s.clock.ppsQual then .high else .low
  | .panel => if s.drives && s.panel.frame.isSome then .active else .highZ
  | .tdo => .highZ

end Sys2Proof.Machine
end

