-- ==== Sys2Proof/Safety.lean ====
section
/-! DEFINITION. What the statements call a sound state: the stores in canonical form, the test access port as R77 asks, and the
strapped identity a powered period works with (R17). -/

namespace Sys2Proof.Machine

open Sys2Proof

/-- The object values and the memories of the user pairs are in canonical form: keys strictly rising, no entry at its default. -/
def State.storesOk (s : State) : Bool :=
  storeWf keyDefault s.od && storeWf (fun _ => ([] : List Byte)) s.blobs && s.user.all fun p => Memory.wf p.tcm

/-- In ACTIVE and STANDBY the test access port executes IDCODE or BYPASS (R77). -/
def tapFits (role : PairRole) (tap : TapIr) : Bool :=
  match role, tap with
  | .active, .other _ => false
  | .standby, .other _ => false
  | _, _ => true

/-- The invariant that every step keeps. -/
def State.Inv (s : State) : Prop := s.storesOk = true ∧ tapFits s.pair.role s.tap = true

/-- The strapped identity of a powered period: role, twin, node (R17). -/
def State.strapped (s : State) : Duty × Twin × Nat := (s.ident.duty, s.ident.twin, s.ident.node)

/-- The commands at which the straps may be sampled, because a start-up timeline may begin (R17, R76, R90). -/
def maySample : Instr → Bool
  | .suppliesValid .. | .shutdownEnd .. | .mrstNRelease .. => true
  | _ => false

/-- Every safe output has both channels off. -/
def State.everyOutputOff (s : State) : Bool :=
  (List.range 8).all fun n => !s.bit (0x7030 + n) 5 0 && !s.bit (0x7030 + n) 5 1

/-- Keys of the objects that offering a record to the recorder may write: the lost-record counters, the sticky level bits, the
saturation bit (R31, R737, R745). -/
def recorderKeys : List Nat := [okey 0x9000 6, okey 0x9000 7, okey 0x9000 8, okey 0x9000 0x0C, okey 0x9300 0x0A]

/-- The parts of the machine: the fields of State but for the clock of the outside world, the queue, and with the alarms the
saturation marks. -/
inductive Part where
  | power | ident | clock | objects | blobs | held | dict | recorder | pair | alarms | mram | tap | gnss | gsol | intake | align | est | trk | ctl | ring | alc | srv | saf | net | panel | diag | user | wires | free
  deriving DecidableEq, Repr

/-- Two states agree on a part. -/
def State.agree (a b : State) : Part → Prop
  | .power => b.power = a.power
  | .ident => b.ident = a.ident
  | .clock => b.clock = a.clock
  | .objects => b.od = a.od
  | .blobs => b.blobs = a.blobs
  | .held => b.held = a.held
  | .dict => b.dict = a.dict
  | .recorder => b.recorder = a.recorder
  | .pair => b.pair = a.pair
  | .alarms => b.alarms = a.alarms ∧ b.saturated = a.saturated
  | .mram => b.mram = a.mram
  | .tap => b.tap = a.tap
  | .gnss => b.gnss = a.gnss
  | .gsol => b.gsol = a.gsol
  | .intake => b.intake = a.intake
  | .align => b.align = a.align
  | .est => b.est = a.est
  | .trk => b.trk = a.trk
  | .ctl => b.ctl = a.ctl
  | .ring => b.ring = a.ring
  | .alc => b.alc = a.alc
  | .srv => b.srv = a.srv
  | .saf => b.saf = a.saf
  | .net => b.net = a.net
  | .panel => b.panel = a.panel
  | .diag => b.diagn = a.diagn
  | .user => b.user = a.user
  | .wires => b.out = a.out
  | .free => b.freeCount = a.freeCount

/-- The parts of the machine that a command can change at all: what its rules name, and what those in turn lead to (the recorder,
the alarms, the messages of the pair). -/
def effects : Instr → List Part
  | .suppliesValid .. | .shutdownEnd .. | .mrstNRelease .. =>
    [.power, .ident, .clock, .objects, .blobs, .held, .dict, .recorder, .pair, .alarms, .mram, .tap, .gnss, .gsol,
      .intake, .align, .est, .trk, .ctl, .ring, .alc, .srv, .saf, .net, .panel, .diag, .user, .wires, .free]
  | .strapLevelChange .. =>
    [.objects, .recorder, .pair, .alarms, .est, .ctl, .srv, .saf, .wires]
  | .inputPresent .. =>
    [.power, .objects]
  | .inputAbsent .. =>
    [.power, .objects, .recorder, .alarms]
  | .supplyWarningChange .. | .ocxoWarm .. | .streamLevelCheck .. =>
    [.objects]
  | .totalSupplyLoss .. | .mrstNAct .. =>
    [.power, .clock, .objects, .held, .recorder, .pair, .alarms, .mram, .tap, .ctl, .srv, .saf, .panel, .diag,
      .wires, .free]
  | .tapInstruction .. =>
    [.tap, .wires]
  | .holdupStoreCharged .. | .commandSectionReturn .. | .scrubPass .. =>
    [.objects, .recorder, .alarms]
  | .configurationImageRead .. =>
    [.power, .clock, .objects, .blobs, .recorder, .alarms, .mram, .gsol, .ctl]
  | .resetsReleased .. =>
    [.power]
  | .portsEnabled .. =>
    [.power, .objects, .dict, .recorder, .pair, .alarms, .saf, .net, .wires]
  | .safetySelfTestDone .. =>
    [.power, .objects, .recorder, .pair, .alarms, .saf, .diag, .wires, .free]
  | .holdReady .. =>
    [.power, .objects, .blobs, .recorder, .alarms, .mram, .est, .ctl, .panel, .user]
  | .resumeAbandon .. =>
    [.power, .objects, .recorder, .alarms, .ctl]
  | .thermalWarning .. =>
    [.power, .objects, .recorder, .alarms, .mram]
  | .cycleBoundary .. | .modeSupervision .. | .capstanStart .. | .sampleBoundary .. | .modeRequest .. |
    .disengageRequest .. | .bollardRequest .. | .setMessage .. | .slipwayMessage .. | .takeover .. =>
    [.power, .clock, .objects, .blobs, .held, .dict, .recorder, .pair, .alarms, .mram, .tap, .gnss, .gsol, .intake,
      .align, .est, .trk, .ctl, .ring, .alc, .srv, .saf, .net, .panel, .diag, .user, .wires, .free]
  | .engineStart .. =>
    [.objects, .recorder, .alarms, .est, .ctl]
  | .ganderCompare .. =>
    [.clock, .objects, .blobs, .held, .recorder, .pair, .alarms, .tap, .ctl, .ring, .srv, .saf, .diag, .wires,
      .free]
  | .ringFrameStart .. | .ringPacketForward .. | .feedbackPacketPass .. | .containerPass .. =>
    [.objects, .recorder, .alarms, .ring, .diag, .wires, .free]
  | .commandSectionRx .. | .ringUnwrap .. =>
    [.objects, .ring]
  | .syncPacketRx .. =>
    [.clock, .objects, .held, .recorder, .pair, .alarms, .gnss, .gsol, .intake, .align, .est, .trk, .ctl, .ring,
      .srv, .saf, .net, .diag, .user]
  | .feedbackPacketReturn .. =>
    [.objects, .recorder, .alarms, .ring]
  | .ownerExpiry .. =>
    [.ring]
  | .ringLinkDown .. =>
    [.objects, .recorder, .alarms, .ring, .diag]
  | .ringTimeLoss .. | .timeSourceChange .. | .slewDone .. =>
    [.clock, .objects]
  | .ssiBurst .. =>
    [.objects, .recorder, .pair, .alarms, .srv, .diag, .wires, .free]
  | .dacFrame .. =>
    [.objects, .recorder, .alarms, .ctl, .srv, .wires]
  | .drvfbChange .. =>
    [.objects, .pair, .srv, .diag, .wires, .free]
  | .enableTimeout .. | .driveDropTimeout .. | .staleHoldTimeout .. | .offDelayExpiry .. =>
    [.objects, .recorder, .alarms, .srv]
  | .servoRateWrite .. | .servoBankSwap .. | .servoBankCopy .. | .timeSecondsRead .. | .ppsSettingWrite .. |
    .keptDataErase .. | .harbourModeOn .. | .harbourModeOff .. | .sourceReadmit .. | .calibrationCommit .. |
    .trackDelete .. | .joystickWrite .. | .controlRateWrite .. | .outputPhaseWrite .. | .bankSwap .. | .bankCopy .. |
    .busLimitWrite .. | .allocationWrite .. | .geometryWrite .. | .geometryModeWrite .. | .writeMessage .. | .laneDown ..
    | .rejoinWrite .. | .drillNow .. | .sfARemoteReset .. | .safetyReset .. | .safeTestCommand .. | .sdoRequest .. |
    .transferTimeout .. | .rpdoRx .. | .odRead .. | .odWrite .. | .sessionOpen .. | .sessionAuthenticate .. |
    .sessionClose .. | .clientNonce .. | .clientTag .. | .sessionCloseWrite .. | .pairKeyWrite .. | .storeParameters .. |
    .restoreDefaults .. | .objectWrite .. | .recorderSeal .. | .recorderUnseal .. | .windowCapture .. | .areaWrite .. |
    .cursorWrite .. | .panelEnableWrite .. | .readClearArm .. | .readClear .. | .injectionArm .. | .injectionCancel .. |
    .linkTestGenerate .. | .linkTestCheck .. | .linkTestLoopback .. | .linkTestStop .. | .userPairRun .. |
    .userPairStop .. | .imageWrite .. =>
    [.power, .clock, .objects, .blobs, .held, .dict, .recorder, .pair, .alarms, .mram, .tap, .ctl, .ring, .srv,
      .saf, .net, .diag, .user, .wires, .free]
  | .timeFirstSet .. | .timeStep .. =>
    [.clock, .objects, .held, .recorder, .pair, .alarms, .gnss, .gsol, .intake, .align, .est, .trk, .ctl, .ring,
      .srv, .saf, .net, .user]
  | .timeSourceQualify .. =>
    [.clock]
  | .timeSourceLoss .. =>
    [.clock, .objects, .recorder, .alarms]
  | .ppsPulse .. | .timeMessage .. =>
    [.clock, .objects, .wires]
  | .ptpEventRx .. =>
    [.clock, .objects, .recorder, .alarms, .wires]
  | .ptpTransparentForward .. =>
    [.clock, .wires]
  | .framingLock .. | .channelAssign .. | .channelRelease .. | .integrationDump .. | .detectorWindow .. | .reacqTimeout .. =>
    [.objects, .gnss]
  | .framingError .. | .ifClockCheck .. | .portFault .. =>
    [.objects, .recorder, .alarms, .gnss, .gsol]
  | .portRetry .. | .acqJobEnd .. | .pullinTimeout .. | .harbourWakeEnd .. | .ifLaneCheckerLock .. =>
    [.objects, .recorder, .alarms, .gnss]
  | .frontendInit .. =>
    [.objects, .gnss, .wires]
  | .acqJobStart .. =>
    [.gnss]
  | .measurementInstant .. =>
    [.gsol]
  | .measurementRecordReady .. =>
    [.objects, .blobs, .pair, .gnss, .gsol, .diag, .wires, .free]
  | .solutionReady .. =>
    [.clock, .objects, .recorder, .pair, .alarms, .gsol, .align, .diag, .wires, .free]
  | .attitudeReady .. =>
    [.objects, .recorder, .pair, .alarms, .gsol, .align, .diag, .wires, .free]
  | .keptDataWrite .. =>
    [.clock, .objects, .mram, .gsol]
  | .harbourWake .. =>
    [.objects, .gsol]
  | .packetCommit .. | .packetDiscard .. | .packetGapTimeout .. | .chainOutput .. | .serialCharacterRx .. =>
    [.objects, .recorder, .pair, .alarms, .intake, .diag, .wires, .free]
  | .queueRead .. =>
    [.objects, .recorder, .alarms, .intake, .wires]
  | .packetConsume .. =>
    [.objects, .recorder, .pair, .alarms, .intake, .align]
  | .chainClockWindow .. =>
    [.objects, .recorder, .alarms, .intake]
  | .chainClockLoss .. =>
    [.objects, .intake]
  | .sourceExclusion .. =>
    [.objects, .recorder, .alarms, .align]
  | .warmStateWrite .. =>
    [.mram, .est]
  | .trackProcessing .. =>
    [.objects, .recorder, .alarms, .align, .trk, .free]
  | .trackTimeout .. =>
    [.objects, .recorder, .alarms, .trk, .free]
  | .pbtripChange .. =>
    [.alc]
  | .twMessageRx .. =>
    [.power, .ident, .clock, .objects, .blobs, .held, .dict, .recorder, .pair, .alarms, .mram, .tap, .ctl, .ring,
      .srv, .saf, .net, .diag, .user, .wires, .free]
  | .inputMessage .. =>
    [.objects, .recorder, .pair, .alarms, .gsol, .intake, .align, .srv]
  | .setAckMessage .. =>
    [.objects, .recorder, .pair, .alarms]
  | .digestMessage .. | .heartbeatSend .. =>
    [.objects, .blobs, .recorder, .pair, .alarms, .ring, .diag, .wires, .free]
  | .timeMessageTw .. =>
    [.clock, .objects, .held, .recorder, .pair, .alarms, .gnss, .gsol, .intake, .align, .est, .trk, .ctl, .ring,
      .srv, .saf, .net, .diag, .user, .wires, .free]
  | .timeMessageSend .. | .joinRequest .. | .slipwayRetry .. =>
    [.objects, .pair, .diag, .wires, .free]
  | .hardFaultNotice .. =>
    [.objects, .recorder, .pair]
  | .partnerDemand .. | .safeInputChange .. | .sfADiscrepancy .. | .sfAResetPulse .. | .testFrameCheck .. | .ssOverload ..
    | .soChannelTest .. | .soReadbackTimeout .. =>
    [.objects, .recorder, .pair, .alarms, .saf, .diag, .wires, .free]
  | .release .. | .takeOverIFall .. | .drillDue .. | .takeOverIRise .. =>
    [.pair]
  | .laneUp .. =>
    [.power, .ident, .clock, .objects, .held, .recorder, .pair, .alarms, .tap, .ctl, .srv, .saf, .diag, .wires,
      .free]
  | .partnerGone .. =>
    [.clock, .objects, .blobs, .held, .recorder, .pair, .alarms, .tap, .gsol, .est, .ctl, .srv, .saf, .diag, .wires,
      .free]
  | .startupWaitExpiry .. | .claimWaitExpiry .. =>
    [.power, .clock, .objects, .held, .recorder, .pair, .alarms, .tap, .ctl, .srv, .saf, .diag, .wires, .free]
  | .bothActiveConflict .. | .hardFault .. | .suspectSelfTestDone .. | .autoRejoin .. | .slipwayComplete .. |
    .slipwayFail .. | .supervisionFault .. =>
    [.clock, .objects, .held, .recorder, .pair, .alarms, .tap, .ctl, .srv, .saf, .diag, .wires, .free]
  | .testPulse .. =>
    [.objects, .recorder, .alarms, .intake, .saf, .diag, .wires, .free]
  | .ssRetry .. =>
    [.objects, .saf]
  | .safeProduce .. =>
    [.objects, .recorder, .alarms, .net, .wires]
  | .safeFrameRx .. | .connectionLost .. =>
    [.objects, .held, .recorder, .pair, .alarms, .net, .diag, .wires, .free]
  | .pairingWindowEnd .. | .channelReportRx .. =>
    [.objects, .recorder, .alarms, .net]
  | .channelReportSend .. | .probeSend .. =>
    [.net, .wires, .free]
  | .prpSupervisionSend .. =>
    [.net, .wires]
  | .syncRx .. | .nmtCommand .. =>
    [.objects, .dict, .recorder, .alarms]
  | .tpdoSend .. =>
    [.dict, .wires, .free]
  | .canHeartbeat .. =>
    [.dict, .wires]
  | .sessionIdleTimeout .. =>
    [.objects, .dict, .recorder]
  | .lockoutExpiry .. | .clientForget .. =>
    [.dict]
  | .recordAccept .. | .directoryUpdate .. =>
    [.recorder]
  | .recordDrop .. =>
    [.objects, .recorder]
  | .panelHalfCycle .. =>
    [.panel, .wires]
  | .panelFrameEnd .. =>
    [.objects, .blobs, .recorder, .alarms, .mram, .panel]
  | .panelUpdateRequest .. =>
    [.mram, .panel]
  | .uncorrectableWord .. =>
    [.power, .clock, .objects, .blobs, .held, .dict, .recorder, .pair, .alarms, .mram, .tap, .intake, .align, .ctl,
      .ring, .srv, .saf, .net, .diag, .user, .wires, .free]
  | .injection .. =>
    [.objects, .recorder, .alarms, .intake, .diag, .free]
  | .detectionTimeout .. | .prbsCheckerLock .. =>
    [.objects, .recorder, .alarms, .diag]
  | .linkTestTimeLimit .. =>
    [.objects, .recorder, .diag]
  | .loopbackFrame .. =>
    [.objects, .recorder, .alarms, .diag, .wires]
  | .userSlotOpen .. =>
    [.objects, .recorder, .pair, .alarms, .ctl, .diag, .user, .wires]
  | .odReadCall .. | .mbWrite .. =>
    [.objects, .recorder, .alarms, .diag, .user, .wires]
  | .propose .. =>
    [.user, .wires]
  | .returnCall .. =>
    [.objects, .recorder, .alarms, .user]
  | .slotOverrun .. | .userPairFault .. =>
    [.objects, .recorder, .alarms, .diag, .user]
  | .imageVerified .. =>
    [.objects, .recorder, .user]
  | .storeComplete .. =>
    [.power, .objects, .dict, .recorder, .alarms, .mram]
  | .netLinkChange .. =>
    [.objects, .net]
  | .canErrorStateChange .. =>
    [.objects, .dict, .recorder, .alarms, .diag]

/-- One index as a range. -/
def oneIndex (i : Nat) : Nat × Nat := (i, i)

/-- Objects of the link and of an injection, which any message to the partner may count in. -/
def linkObjects : List (Nat × Nat) := [(0x8010, 0x8011), (0x9200, 0x9200)]

/-- Objects of the safety demands and outputs, which a demand that moves may change. -/
def demandObjects : List (Nat × Nat) := (0x7000, 0x7000) :: (0x7010, 0x7011) :: (0x7030, 0x7037) :: linkObjects

/-- Objects that a change of role may change: a new leader's clock among them. -/
def roleObjects : List (Nat × Nat) := oneIndex 0x2100 :: (0x6080, 0x6081) :: (0x8000, 0x8000) :: (0x8040, 0x8040) :: demandObjects

/-- For a command whose objects are few: the ranges of object indices in which it can change anything, the objects that offering a
record writes apart (`recorderKeys`); none for a command whose objects are those of a write or of the work of a cycle. -/
def indices : Instr → Option (List (Nat × Nat))
  | .strapLevelChange .. => some [oneIndex 0x2000]
  | .inputPresent .. | .inputAbsent .. | .supplyWarningChange .. | .ocxoWarm .. | .thermalWarning .. => some [oneIndex 0x2020]
  | .holdupStoreCharged .. => some [oneIndex 0x2020, oneIndex 0x9000]
  | .portsEnabled .. => some [(0x1E00, 0x1E01), oneIndex 0x2010, oneIndex 0x7050, (0x7120, 0x712F)]
  | .safetySelfTestDone .. => some demandObjects
  | .holdReady .. => some [oneIndex 0x2010, oneIndex 0x4201, (0xA000, 0xA001), (0xA020, 0xA021)]
  | .resumeAbandon .. => some [oneIndex 0x2010]
  | .timeFirstSet .. => some [oneIndex 0x2100, oneIndex 0x3330]
  | .timeSourceChange .. | .slewDone .. | .timeStep .. | .ringTimeLoss .. => some [oneIndex 0x2100]
  | .timeSourceLoss _ n .. => some [oneIndex 0x2100, oneIndex (0x210F + n)]
  | .ppsPulse _ n .. => some [oneIndex 0x2100, oneIndex (0x2120 + n)]
  | .timeMessage .. => some [oneIndex 0x2130]
  | .ptpEventRx _ n .. => some [oneIndex 0x2100, oneIndex (0x2110 + n)]
  | .framingLock _ p _ | .portRetry _ p | .frontendInit _ p | .ifLaneCheckerLock _ p .. => some [oneIndex (0x3000 + p)]
  | .streamLevelCheck _ p k .. => some [oneIndex (0x3010 + 4 * p + k)]
  | .integrationDump _ p c .. | .detectorWindow _ p c => some [oneIndex (0x3100 + (128 * p + c))]
  | .reacqTimeout _ p c => some [oneIndex (0x3000 + p), oneIndex (0x3100 + (128 * p + c))]
  | .pullinTimeout _ p c => some [oneIndex (0x3000 + p), oneIndex 0x3020, oneIndex (0x3100 + (128 * p + c))]
  | .measurementRecordReady .. => some (oneIndex 0x3300 :: linkObjects)
  | .attitudeReady .. => some (oneIndex 0x3320 :: linkObjects)
  | .harbourWake .. => some [oneIndex 0x3340]
  | .serialCharacterRx _ p .. | .packetCommit _ p | .packetDiscard _ p | .packetGapTimeout _ p | .queueRead _ p =>
    some (oneIndex (0x4000 + p) :: linkObjects)
  | .chainOutput _ c .. => some (oneIndex (0x4040 + c) :: linkObjects)
  | .chainClockWindow _ c .. | .chainClockLoss _ c _ => some [oneIndex (0x4040 + c)]
  | .trackTimeout _ n => some [oneIndex 0x4300, oneIndex (trackObj n)]
  | .engineStart .. => some [oneIndex 0x5000, oneIndex 0x5040]
  | .ringFrameStart .. =>
    some [(0x8010, 0x8011), oneIndex 0x8100, (0x8110, 0x8111), (0x8120, 0x8161), oneIndex 0x9200, (0x9210, 0x9221)]
  | .commandSectionReturn .. => some [oneIndex 0x8100]
  | .ringPacketForward .. | .feedbackPacketPass .. | .containerPass .. => some [(0x8110, 0x8111), oneIndex 0x9200]
  | .commandSectionRx .. => some [oneIndex 0x8100]
  | .ringUnwrap _ p => some [oneIndex (0x8110 + p)]
  | .syncPacketRx .. => some [oneIndex 0x2100, (0x8010, 0x8011), oneIndex 0x8100, (0x9210, 0x9221)]
  | .ringLinkDown .. => some [(0x8010, 0x8011), oneIndex 0x8100, (0x8110, 0x8111), (0x9210, 0x9221)]
  | .ssiBurst _ e .. => some (oneIndex (0x6020 + e) :: linkObjects)
  | .dacFrame .. => some [(0x6080, 0x6081)]
  | .drvfbChange .. | .timeMessageSend .. | .joinRequest .. => some linkObjects
  | .enableTimeout _ j | .driveDropTimeout _ j | .staleHoldTimeout _ j | .offDelayExpiry _ j =>
    some [oneIndex (0x6080 + j), oneIndex (0x7020 + j)]
  | .ganderCompare .. => some (oneIndex 0x8020 :: roleObjects)
  | .hardFault .. | .suspectSelfTestDone .. | .autoRejoin .. | .slipwayComplete .. | .slipwayFail .. | .startupWaitExpiry .. |
    .claimWaitExpiry .. | .bothActiveConflict .. => some roleObjects
  | .supervisionFault .. => some (oneIndex 0x7060 :: roleObjects)
  | .laneUp _ l .. => some (oneIndex (0x8010 + l) :: roleObjects)
  | .laneDown _ l .. => some (oneIndex (0x8010 + l) :: (0x9210, 0x9221) :: roleObjects)
  | .totalSupplyLoss .. | .mrstNAct .. =>
    some (oneIndex 0x2020 :: oneIndex 0x7050 :: oneIndex 0x9000 :: oneIndex 0x9100 :: roleObjects)
  | .digestMessage .. => some ((0xA000, 0xA001) :: linkObjects)
  | .timeMessageTw _ l .. => some (oneIndex 0x2100 :: oneIndex (0x8010 + l) :: linkObjects)
  | .heartbeatSend _ l => some (oneIndex (0x8010 + l) :: linkObjects)
  | .slipwayRetry .. => some (oneIndex 0x8040 :: linkObjects)
  | .partnerDemand .. | .sfADiscrepancy .. => some demandObjects
  | .safeInputChange _ i .. => some (oneIndex (0x7040 + i) :: demandObjects)
  | .testFrameCheck .. => some ((0x7040, 0x704F) :: demandObjects)
  | .ssOverload .. => some ((0x7040, 0x704F) :: oneIndex 0x7050 :: demandObjects)
  | .ssRetry .. => some [oneIndex 0x7050]
  | .soChannelTest _ n .. | .soReadbackTimeout _ n .. => some (oneIndex (0x7030 + n) :: demandObjects)
  | .safeProduce _ k | .pairingWindowEnd _ k => some [oneIndex (0x7120 + k)]
  | .safeFrameRx .. => some ((0x7120, 0x712F) :: oneIndex 0x7140 :: linkObjects)
  | .channelReportRx .. => some [(0x7120, 0x712F)]
  | .connectionLost _ k => some (oneIndex (0x7120 + k) :: linkObjects)
  | .netLinkChange .. => some [(0x7120, 0x712F), oneIndex 0x7140]
  | .rpdoRx _ p .. => some (oneIndex (0x1E00 + p) :: oneIndex 0x7140 :: linkObjects)
  | .syncRx _ p .. | .nmtCommand _ p .. => some [oneIndex (0x1E00 + p)]
  | .canErrorStateChange _ p .. => some [oneIndex (0x1E00 + p), (0x8010, 0x8011), (0x9210, 0x9221)]
  | .recordDrop .. => some [oneIndex 0x9000]
  | .panelFrameEnd .. => some [oneIndex 0x9100]
  | .scrubPass .. => some [oneIndex 0x9300]
  | .injection .. => some [oneIndex 0x9200, oneIndex 0x9300]
  | .detectionTimeout .. => some [oneIndex 0x9200]
  | .linkTestTimeLimit _ l => some [oneIndex (0x8010 + l), oneIndex (0x9210 + l)]
  | .loopbackFrame _ l .. | .prbsCheckerLock _ l .. => some [oneIndex (0x9210 + l)]
  | .odReadCall _ u .. | .mbWrite _ u .. | .slotOverrun _ u | .userPairFault _ u .. =>
    some [oneIndex 0x9200, oneIndex (0xA000 + u)]
  | .returnCall _ u => some [oneIndex (0xA020 + u)]
  | .imageVerified _ u .. => some [oneIndex (0xA000 + u)]
  | .storeComplete .. => some [oneIndex 0x1E30]
  | _ => none

/-- Every object outside some ranges of indices reads as before, but for those that offering a record may write. -/
def State.onlyIn (s s' : State) (l : List (Nat × Nat)) : Prop :=
  ∀ k, k ∉ recorderKeys → (∀ r ∈ l, ¬ (r.1 ≤ k / 256 ∧ k / 256 ≤ r.2)) → s'.objK k = s.objK k

/-- Every object reads as before, but for those listed and those that offering a record may write. -/
def State.sameObjects (s s' : State) (keys : List Nat) : Prop :=
  ∀ k, k ∉ recorderKeys → k ∉ keys → s'.objK k = s.objK k

/-- `a`, with the objects, the recorder's intake, the alarms and the wires of `b`: what a command that has no other effect
changes. -/
def State.booksOf (a b : State) : State :=
  { a with od := b.od, recorder := b.recorder, alarms := b.alarms, saturated := b.saturated, out := b.out }

/-- A command is executed: it answers a next state, and of that state `P` holds. -/
def Answers (c : Instr) (s : State) (P : State → Prop) : Prop := ∃ s', exec c s = .next s' ∧ P s'

end Sys2Proof.Machine
end

