-- ==== Sys2Proof/Certificates/Slice0/Obligations.lean ====
section
/-! DEFINITION. The statements for the provers: the claims, one per command or per rule of the whole machine, and the obligations, each
the conjunction of the claims of one family. -/

namespace Sys2Proof.Claims

open Sys2Proof Machine

/-- A command in front of the queue is executed on the module with the rest of the queue. -/
def FrontIsExecuted : Prop := ∀ (c : Instr) (rest : List Instr) (s : State), s.pending = c :: rest → step s = exec c { s with pending := rest }

/-- With no command waiting one cycle of the TIME island passes, and nothing but module time moves (log entry 9). -/
def IdlePasses : Prop := ∀ s : State, s.pending = [] → ∃ s', step s = .next s' ∧ s'.now = s.now + 4 ∧ s'.pending = [] ∧ s'.out = [] ∧
  ∀ p : Part, p ≠ .clock → p ≠ .wires → s.agree s' p

/-- Every command answers a next state; it leaves the queue as it was and knows nothing of it, and time does not fall. -/
def CommandsAnswer : Prop := ∀ (c : Instr) (s : State), ∃ s', exec c s = .next s' ∧ s'.pending = s.pending ∧ s.now ≤ s'.now ∧
  ∀ q : List Instr, exec c { s with pending := q } = .next { s' with pending := q }

/-- The module after reset: without power, no command waiting, OFFLINE, every object at its default, nothing recorded, nothing stored. -/
def AfterReset : Prop := State.reset.Inv ∧ State.reset.running = false ∧ State.reset.pending = [] ∧ State.reset.role = .offline ∧
  State.reset.alarms = [] ∧ State.reset.held = [] ∧ State.reset.dict.sessions = [] ∧ State.reset.clock.state = .unset ∧
  State.reset.recorder.circ = [] ∧ State.reset.everyOutputOff = true ∧ (∀ p ∈ State.reset.user, p.runs = false) ∧
  ∀ k, State.reset.objK k = keyDefault k

/-- Canonical stores and the test access port's rule are kept by every step. -/
def InvKept : Prop := ∀ s s' : State, s.Inv → step s = .next s' → s'.Inv

/-- A command changes no part of the machine that is not among its effects, the passage of time apart. -/
def FrameOfParts : Prop := ∀ (c : Instr) (s s' : State), s.Inv → exec c s = .next s' → ∀ p ∉ effects c, (s.at s'.now).agree s' p

/-- A command whose objects are few changes no object but those, and those that offering a record writes. -/
def FrameOfObjects : Prop := ∀ (c : Instr) (l : List (Nat × Nat)) (s s' : State), indices c = some l → s.Inv → exec c s = .next s' → s.onlyIn s' l

/-- An input whose voltage stood on one side of a threshold for a time can be judged: its last judgement lies that time back. -/
def Steady (s : State) (t input stableNs : Nat) : Prop :=
  ∀ a : Nat, (if input = 0 then s.power.judgedA else s.power.judgedB) = some a → a + stableNs ≤ max s.now t

/-- The straps are sampled when the supplies become valid, and for the rest of the powered period the module works with what was sampled. -/
def StrapsHold : Prop :=
  (∀ (s : State) (t input v10mV stableNs gauge : Nat) (p : StrapPads), s.power.stage = .down → s.power.mrstLow = false →
    s.power.inA = false → s.power.inB = false → input < 2 → 1760 < v10mV → 2000000 ≤ stableNs → Steady s t input stableNs →
    Answers (.suppliesValid t input p v10mV stableNs gauge) s fun s' =>
      s'.strapped = (if p.role.1 then .worker else .manager, if p.twin.1 then .b else .a, ofBits (p.nodes.map (·.1)))) ∧
  ∀ (c : Instr) (s s' : State), s.Inv → maySample c = false → exec c s = .next s' → s'.strapped = s.strapped

/-- In ACTIVE and STANDBY the test access port executes IDCODE and BYPASS alone, and any other instruction is BYPASS. -/
def TapRule : Prop :=
  (∀ (s : State) (t : Nat) (ir : TapIr), s.running = true → Answers (.tapInstruction t ir) s fun s' =>
    s'.tap = (if (s.role = .active ∨ s.role = .standby) ∧ ir ≠ .idcode then .bypass else ir) ∧ s'.out = [.tapShift s'.tap]) ∧
  ∀ (c : Instr) (s s' : State), s.Inv → exec c s = .next s' → s'.role = .active ∨ s'.role = .standby → s'.tap = .idcode ∨ s'.tap = .bypass

/-- Module time advanced cycle by cycle or at once is the same, and the residual of its rounding stays within half a unit (R118, R119). -/
def ClockCarries : Prop := ∀ (c : Clock) (rho : Int) (m n : Nat), (c.advance rho n).advance rho m = c.advance rho (n + m) ∧
  -500000000000 ≤ (c.advance rho n).resid ∧ (c.advance rho n).resid < 500000000000

/-- A saturating counter counts up by one to FFFFFFFFh and stays there; the count that would take it past sets 9300h:0A [0] and records one
event that names it, and later counts are lost. -/
def CounterSaturates : Prop := ∀ (s : State) (p : Plane) (i sub : Nat), s.Inv → okey i sub ∉ recorderKeys →
  (s.obj i sub < 0xFFFFFFFF → (s.count p i sub).obj i sub = s.obj i sub + 1 ∧ ∀ k, k ≠ okey i sub → (s.count p i sub).objK k = s.objK k) ∧
  (s.obj i sub = 0xFFFFFFFF → (s.count p i sub).obj i sub = 0xFFFFFFFF ∧
    (s.saturated.contains (okey i sub) = true → s.count p i sub = s) ∧
    (s.saturated.contains (okey i sub) = false → (s.count p i sub).bit 0x9300 0x0A 0 = true ∧
      (s.count p i sub).saturated.contains (okey i sub) = true ∧
      (s.recorder.stopped = false →
        queueBytes (s.recorder.queue p) + storedSize (eventPayload i sub []).length ≤ queueLimit p →
        (s.count p i sub).recorder.queue p = s.recorder.queue p ++ [s.mkRec 2 3 i p (eventPayload i sub [])])))

/-- Grants of a ring frame: no slot more than it asks or 512, all together no more than the budget; all that is asked where the budget holds
it, and one unit to every slot that asks where the budget holds that. -/
def GrantsFit : Prop := ∀ (demand : List Nat) (p u : Nat), demand.length = 66 →
  let req := demand.map fun d => min d 512
  let g := grantsOf demand p u
  g.length = 66 ∧ (∀ k < 66, g.getD k 0 ≤ req.getD k 0) ∧ g.sum ≤ u ∧ (req.sum ≤ u → g = req) ∧
    ((req.filter fun d => decide (0 < d)).length ≤ u → ∀ k < 66, 0 < demand.getD k 0 → 0 < g.getD k 0)

/-- A start-up timeline begins (R17, R81, R90): the straps become the identity of the powered period and 2000h, the power-up is counted,
the module is OFFLINE with every output off, and MRAM keeps its image. -/
def TimelineBegins (s s' : State) (t : Nat) (straps : StrapPads) : Prop :=
  s'.power.stage = .starting ∧ s'.power.origin = max s.now t ∧ s'.running = true ∧
  s'.ident.duty = (if straps.role.1 then .worker else .manager) ∧ s'.ident.twin = (if straps.twin.1 then .b else .a) ∧
  s'.ident.node = ofBits (straps.nodes.map (·.1)) ∧ s'.obj 0x2000 4 = straps.word ∧ s'.obj 0x2001 1 = straps.faults ∧
  s'.role = .offline ∧ s'.everyOutputOff = true ∧ s'.clock.state = .unset ∧
  s'.mram.powerUps = min 0xFFFFFFFF (s.mram.powerUps + 1) ∧ s'.mram.current = s.mram.current

/-- SUPPLIES_VALID (R81, R91, R92): the timeline begins, and 2010h:03 reads the gauge of the last interruption where the clean-close mark
stands. -/
def SuppliesValid : Prop := ∀ (s : State) (t input v10mV stableNs gauge : Nat) (straps : StrapPads), s.power.stage = .down →
  s.power.mrstLow = false → s.power.inA = false → s.power.inB = false → input < 2 → 1760 < v10mV → 2000000 ≤ stableNs →
  Steady s t input stableNs →
  Answers (.suppliesValid t input straps v10mV stableNs gauge) s fun s' =>
    TimelineBegins s s' t straps ∧ s'.hasInput input = true ∧ s'.hasInput (1 - input) = false ∧
    (∀ l, s.power.lostAt = some l → s.power.cleanMark = true →
      s'.obj 0x2010 3 = (((gaugeReading (max s.now t - l) gauge).getD 0xFFFFFFFF : Nat) : Int)) ∧
    (s.power.lostAt = none ∨ s.power.cleanMark = false → s'.obj 0x2010 3 = 0xFFFFFFFF)

/-- SHUTDOWN_END (R90, Table 3-2): with MRST_N low the module stays down, everything but MRAM, the recorder's areas and the supplies as
after reset; otherwise, with an input present, the next timeline begins. -/
def ShutdownEnd : Prop := ∀ (s : State) (t : Nat) (straps : StrapPads) (from' : Nat), s.power.stage = .closing →
  s.power.lossAt = some from' → from' + 5000000 ≤ max s.now t →
  Answers (.shutdownEnd t straps) s fun s' =>
    (s.power.mrstLow = true ∨ (s.power.inA = false ∧ s.power.inB = false) → s'.power.stage = .down ∧ s'.od = [] ∧ s'.blobs = [] ∧
      s'.role = .offline ∧ s'.running = false ∧ s'.power.cleanMark = s.bit 0x2020 3 6 ∧ s'.mram = s.mram ∧
      s'.recorder.circ = s.recorder.circ ∧ s'.recorder.perm = s.recorder.perm) ∧
    (s.power.mrstLow = false → s.power.inA = true ∨ s.power.inB = true → TimelineBegins s s' t straps)

/-- MRST_N_RELEASE (R76, R90): with an input present a module that is down starts up; during the shutdown sequence the release alone is
noted. -/
def MrstRelease : Prop := ∀ (s : State) (t : Nat) (straps : StrapPads),
  Answers (.mrstNRelease t straps) s fun s' => s'.power.mrstLow = false ∧
    (s.power.stage = .down → s.power.inA = true ∨ s.power.inB = true → TimelineBegins s s' t straps) ∧
    (s.power.stage ≠ .down ∨ (s.power.inA = false ∧ s.power.inB = false) →
      s'.power = { s.power with mrstLow := false } ∧ s'.od = s.od ∧ s'.pair = s.pair ∧ s'.mram = s.mram)

/-- STRAP_LEVEL_CHANGE (R19, R72): the sticky bit of the pad, and nothing else of 2000h. -/
def StrapLevelChange : Prop := ∀ (s : State) (t : Nat) (pad : StrapName), s.Inv → s.running = true →
  Answers (.strapLevelChange t pad) s fun s' => s.sameObjects s' [okey 0x2000 5] ∧
    ∀ n, s'.bit 0x2000 5 n = (s.bit 0x2000 5 n || decide (n = match pad with | .role => 0 | .twin => 1 | .node => 2))

/-- INPUT_PRESENT (R80, Table 3-1): the second input, above the threshold for the filter's time. -/
def InputPresent : Prop := ∀ (s : State) (t input v10mV stableNs : Nat), s.Inv → s.running = true → input < 2 →
  s.hasInput input = false → s.hasInput (1 - input) = true → 1760 < v10mV → 2000000 ≤ stableNs → Steady s t input stableNs →
  Answers (.inputPresent t input v10mV stableNs) s fun s' => s'.hasInput input = true ∧ s'.hasInput (1 - input) = true ∧
    s'.power.stage = s.power.stage ∧ s'.bit 0x2020 3 input = true ∧ s'.bit 0x2020 3 (1 - input) = true ∧ s.sameObjects s' [okey 0x2020 3]

/-- INPUT_ABSENT (R83): below the threshold for the filter's time; the module keeps running, and the loss is counted. -/
def InputAbsent : Prop := ∀ (s : State) (t input v10mV stableNs : Nat), s.Inv → s.running = true → input < 2 →
  s.hasInput input = true → s.hasInput (1 - input) = true → v10mV < 1640 → 45000 ≤ stableNs → Steady s t input stableNs →
  s.obj 0x2020 (8 + input) < 0xFFFFFFFF →
  Answers (.inputAbsent t input v10mV stableNs) s fun s' => s'.hasInput input = false ∧ s'.power.stage = s.power.stage ∧
    s'.bit 0x2020 3 input = false ∧ s'.obj 0x2020 (8 + input) = s.obj 0x2020 (8 + input) + 1 ∧
    s.sameObjects s' [okey 0x2020 3, okey 0x2020 (8 + input)]

/-- SUPPLY_WARNING_CHANGE (R85): a low flag at 17.6 V, a high one from 32.5 V or at 32.0 V and below. -/
def SupplyWarning : Prop := ∀ (s : State) (t input v : Nat) (high set : Bool), s.Inv → s.running = true → input < 2 →
  (match high, set with
    | false, true => v ≤ 1760 | false, false => 1760 ≤ v | true, true => 3250 ≤ v | true, false => v ≤ 3200) →
  Answers (.supplyWarningChange t input high set v) s fun s' => s.sameObjects s' [okey 0x2020 3] ∧
    ∀ n, s'.bit 0x2020 3 n = if n = input + (if high then 4 else 2) then set else s.bit 0x2020 3 n

/-- What every shutdown does at once (R89, Table 3-2): the stage, its cause and instant; every output pad off or released: the lines to the
partner, supplies, safe outputs, drives, encoders and links; the recorder's intake stopped. -/
def ShutsDown (s s' : State) (t : Nat) (cause : LossCause) : Prop :=
  s'.power.stage = .closing ∧ s'.power.lossAt = some (max s.now t) ∧ s'.power.lossCause = some cause ∧
  s'.power.portsOn = false ∧ s'.pair.takeOut = false ∧ s'.recorder.stopped = true ∧
  s'.pad .pairAlive = .off ∧ s'.pad .takeOver = .off ∧
  ∀ n c : Nat, s'.pad (.sensorSupply n) = .off ∧ s'.pad (.safeOutput n c) = .off ∧ s'.pad (.driveEnable n) = .off ∧
    s'.pad (.encoderClock n) = .highZ ∧ s'.pad (.dacPort n) = .highZ ∧ s'.pad (.terward n) = .off ∧ s'.pad (.wymal n) = .off

/-- TOTAL_SUPPLY_LOSS (R82, R89): the last input, below the threshold for the filter's time, becomes absent and the module shuts down. -/
def TotalSupplyLoss : Prop := ∀ (s : State) (t v10mV stableNs written : Nat), s.Inv → s.running = true → s.power.stage ≠ .closing →
  s.power.inA ≠ s.power.inB → v10mV < 1640 → 45000 ≤ stableNs → Steady s t (if s.power.inA then 0 else 1) stableNs →
  Answers (.totalSupplyLoss t v10mV stableNs written) s fun s' => ShutsDown s s' t .supply ∧ s'.power.inA = false ∧ s'.power.inB = false ∧
    s'.power.lostAt = some (max s.now t)

/-- MRST_N_ACT (R74, R89): the module shuts down and stays so while MRST_N is low; the supplies are as they were. -/
def MrstAct : Prop := ∀ (s : State) (t written : Nat), s.Inv → s.running = true → s.power.stage ≠ .closing →
  Answers (.mrstNAct t written) s fun s' => ShutsDown s s' t .mrst ∧ s'.power.mrstLow = true ∧ s'.power.inA = s.power.inA ∧
    s'.power.inB = s.power.inB ∧ s'.power.lostAt = s.power.lostAt

/-- TAP_INSTRUCTION (R77): in ACTIVE and STANDBY any instruction but IDCODE acts as BYPASS. -/
def TapInstruction : Prop := ∀ (s : State) (t : Nat) (ir : TapIr), s.running = true →
  Answers (.tapInstruction t ir) s fun s' =>
    s'.tap = (if (s.role = .active ∨ s.role = .standby) ∧ ir ≠ .idcode then .bypass else ir) ∧ s'.out = [.tapShift s'.tap]

/-- HOLDUP_STORE_CHARGED (R86, R720): from 8 ms after the origin; 2020h:03 [6] is set and the recorder opens, its first record of type
07h. -/
def HoldupCharged : Prop := ∀ (s : State) (t : Nat) (tornCirc tornPerm : Bool), s.Inv → s.power.stage = .starting →
  s.bit 0x2020 3 6 = false → s.power.origin + 8000000 ≤ max s.now t →
  Answers (.holdupStoreCharged t tornCirc tornPerm) s fun s' => s'.bit 0x2020 3 6 = true ∧ s'.recorder.ready = true ∧
    s'.power = s.power ∧ s.sameObjects s' [okey 0x2020 3, okey 0x9000 0x0A]

/-- CONFIGURATION_IMAGE_READ (R95): 2010h:05 says which image start-up uses; engaging is barred while it is none. -/
def ImageRead : Prop := ∀ (s : State) (t : Nat) (c p : Bool), s.Inv → s.power.stage = .starting → s.power.configured = false →
  s.power.origin + 6000000 ≤ max s.now t →
  Answers (.configurationImageRead t c p) s fun s' =>
    let reads (g : Option Image) (ok : Bool) : Bool := match g with | some g => g.valid && ok | none => false
    let code : Nat := if reads s.mram.current c then 0 else if reads s.mram.previous p then 1 else 2
    s'.power.configured = true ∧ s'.obj 0x2010 5 = code ∧ s'.power.engageBarred = decide (code = 2) ∧ s'.obj 0x3340 1 = 0 ∧
    (code = 1 → s'.alarms.any (fun a => a.1 = okey 0x2010 5) = true)

/-- RESETS_RELEASED (Table 3-3): at 30 ms Gx_RST_N and the PHY resets go high. -/
def ResetsReleased : Prop := ∀ (s : State) (t : Nat), s.power.stage = .starting → s.power.origin + 30000000 ≤ max s.now t →
  Answers (.resetsReleased t) s fun s' => s'.power = { s.power with resetsReleased := true } ∧ s'.od = s.od ∧
    (∀ n, s'.pad (.phyReset n) = .high) ∧ (s.obj 0x3340 4 ≠ 1 → ∀ p, s'.pad (.frontReset p) = .high)

/-- PORTS_ENABLED (R93, Table 3-3, R692): at 35 ms, once the configuration stands: the ports, PAIR_ALIVE, and each CAN port's boot-up
message. -/
def PortsEnabled : Prop := ∀ (s : State) (t : Nat), s.Inv → s.power.stage = .starting → s.power.configured = true →
  s.power.portsOn = false → s.power.origin + 35000000 ≤ max s.now t →
  Answers (.portsEnabled t) s fun s' => s'.power.portsOn = true ∧ s'.pair.aliveOut = true ∧ s'.pair.waitFrom = max s.now t ∧
    s'.obj 0x2010 6 = ((max s.now t - s.power.origin) / 1000 : Nat) ∧ s'.pad .pairAlive = .high ∧
    (∀ n, s'.pad (.terward n) = .active ∧ s'.pad (.wymal n) = .active ∧ s'.pad (.sgmii n) = .active ∧ s'.pad (.can n) = .active) ∧
    ∀ p, p < 2 → nth false s.dict.busOff p = false → Out.can p (0x700 + s.nat (0x1E00 + p) 1) [0] ∈ s'.out

/-- SAFETY_SELF_TEST_DONE (R54, R600): a pass lets HOLD-READY come and the safe outputs switch, a failure holds. -/
def SafetySelfTest : Prop := ∀ (s : State) (t : Nat) (passed : Bool) (mirrors : List (Bool × Bool)), s.Inv →
  s.power.stage = .starting → s.power.safetyTested = false → s.saf.failed = false → s.power.origin + 40000000 ≤ max s.now t →
  Answers (.safetySelfTestDone t passed mirrors) s fun s' => s'.power = { s.power with safetyTested := passed } ∧ s'.saf.failed = !passed ∧
    (passed = false → ∀ n c, s'.pad (.safeOutput n c) = .off)

/-- HOLD_READY (R93, R94): from 45 ms; 2010h:07 holds the time it took, in µs. -/
def HoldReady : Prop := ∀ (s : State) (t : Nat) (panelReads : Bool), s.Inv → s.power.stage = .starting → s.power.portsOn = true →
  s.power.safetyTested = true → s.power.origin + 45000000 ≤ max s.now t →
  Answers (.holdReady t panelReads) s fun s' => s'.power = { s.power with stage := .ready } ∧ s'.running = true ∧
    s'.obj 0x2010 7 = ((max s.now t - s.power.origin) / 1000 : Nat) ∧ s'.pair = s.pair

/-- OCXO_WARM (R790). -/
def OcxoWarm : Prop := ∀ (s : State) (t stable : Nat), s.Inv → s.running = true →
  10000000000 ≤ stable ∧ s.power.origin + 10000000000 ≤ max s.now t ∨ s.power.origin + 240000000000 ≤ max s.now t →
  Answers (.ocxoWarm t stable) s fun s' => s.sameObjects s' [okey 0x2020 3] ∧
    ∀ n, s'.bit 0x2020 3 n = (s.bit 0x2020 3 n || decide (n = 7))

/-- RESUME_ABANDON (R102): 10 s after the origin. -/
def ResumeAbandon : Prop := ∀ (s : State) (t : Nat) (k : KeptMode), s.Inv → s.running = true → s.ctl.resume = some k →
  s.power.origin + 10000000000 ≤ max s.now t →
  Answers (.resumeAbandon t) s fun s' => s'.ctl = { s.ctl with resume := none } ∧ s'.resumePending = false ∧ s'.obj 0x2010 4 = 2 ∧ s.sameObjects s' [okey 0x2010 4] ∧
    s'.alarms.any (fun a => a.1 = okey 0x2010 4) = true

/-- THERMAL_WARNING (R105, R106): the readings within -55.0 to 150.0 °C, the sticky bits above 95 °C and 120 °C, the alarm. -/
def ThermalWarning : Prop := ∀ (s : State) (t : Nat) (c j : Int), s.Inv → s.running = true → -550 ≤ c → c ≤ 1500 → -550 ≤ j → j ≤ 1500 →
  Answers (.thermalWarning t c j) s fun s' => s'.obj 0x2020 5 = c ∧ s'.obj 0x2020 6 = j ∧
    (950 < c → s'.bit 0x2020 7 0 = true) ∧ (1200 < j → s'.bit 0x2020 7 1 = true) ∧
    s'.alarms.any (fun a => a.1 = okey 0x2020 7) = (decide (950 < c) || decide (1200 < j)) ∧
    s.sameObjects s' [okey 0x2020 5, okey 0x2020 6, okey 0x2020 7]

/-- A worker drives the DAC port pads only in the ACTIVE role; in every other role they are high impedance (R57). -/
def DacPads : Prop := ∀ (s : State) (n : Nat), s.isManager = false →
  (s.pad (.dacPort n) ≠ .highZ → s.role = .active) ∧ (s.role ≠ .active → s.pad (.dacPort n) = .highZ)

/-- In the manager role ENCn_CLK, RES_EXC and the DAC port pads are high impedance or off, DRVEN0 and DRVEN1 are off, and what comes on
ENCn_DAT, DRVFB0 and DRVFB1 changes nothing (R59). -/
def ManagerPads : Prop := ∀ s : State, s.isManager = true →
  (∀ n, s.pad (.encoderClock n) = .highZ ∧ s.pad (.excitation n) = .off ∧ s.pad (.dacPort n) = .highZ ∧ s.pad (.driveEnable n) = .off) ∧
  (∀ (t encoder word : Nat) (low : Bool), Answers (.ssiBurst t encoder word low) s fun s' => s' = s.at t) ∧
  ∀ (t thruster held : Nat) (e : Bool), Answers (.drvfbChange t thruster e held) s fun s' => s' = s.at t

/-- A module that runs its start-up or is ready holds Gx_RST_N of a port low until 30 ms, and while the baseband sleeps on every enabled
port; Gx_REF keeps running (R53, R236). -/
def FrontPads : Prop := ∀ (s : State) (p : Nat), s.power.stage = .starting ∨ s.power.stage = .ready →
  (s.power.resetsReleased = false → s.pad (.frontReset p) = .low) ∧
  (s.obj 0x3340 4 = 1 → s.obj (0x3000 + p) 1 ≠ 0 → s.pad (.frontReset p) = .low) ∧
  (s.power.resetsReleased = true → s.obj 0x3340 4 ≠ 1 → s.pad (.frontReset p) = .high) ∧
  (5000000 ≤ s.sinceOrigin → s.pad (.ref p) = .running)

/-- The module as a command finds it: time has passed to its instant. -/
def Seen (s : State) (t : Nat) : State := { s.at t with pending := [] }

/-- TIME_FIRST_SET (R121): module time is set while it is unset; free-running from coarse time, in a manager locked from a qualified
source that 2100h:06 names. -/
def TimeFirstSet : Prop := ∀ (s : State) (t : Nat) (src : TimeOrigin) (tai : Nat) (taiUtc : Int), s.Inv → s.running = true →
  s.clock.state = .unset → tai < 2 ^ 48 * 1000000000 → -32768 ≤ taiUtc → taiUtc ≤ 32767 →
  (∀ n, src = .source n → s.isManager = true ∧ s.sourceRank n ≠ none ∧ (nth false s.clock.qualified n = true ∨ s.mayQualify n = true)) →
  Answers (.timeFirstSet t src tai taiUtc) s fun s' => s'.mt = tai ∧ s'.obj 0x2100 0x0F = taiUtc ∧ s'.obj 0x2100 0x10 = 0 ∧
    match src with
    | .coarse => s'.clock.state = .freeRunning
    | .source n => s'.clock.state = .locked ∧ s'.clock.lockedFrom = some (max s.now t) ∧ s'.obj 0x2100 5 = (n : Int) + 1

/-- TIME_SOURCE_QUALIFY (R124, R125): ten solutions in a row, or 16 Syncs and 4 delay measurements; in a module that steers its own time
the best qualified source waits for the next second boundary where no source is selected or the selected one stands lower. -/
def TimeSourceQualify : Prop := ∀ (s : State) (t source unc : Nat) (off : Int), s.running = true → s.isManager = true → source < 3 →
  s.clock.qualified.length = 3 → s.clock.offsets.length = 3 → s.mayQualify source = true →
  Answers (.timeSourceQualify t source off unc) s fun s' => nth false s'.clock.qualified source = true ∧
    nth 0 s'.clock.offsets source = off ∧ s'.od = s.od ∧
    (s.clock.state ≠ .following → s.clock.state ≠ .unset →
      (s.selectedSource = none → s.sourceRank source ≠ none → s'.clock.change ≠ none ∧ s'.clock.change = s'.bestSource) ∧
      ∀ cur b r rc, s.selectedSource = some cur → s'.bestSource = some b → s.sourceRank b = some r → s.sourceRank cur = some rc →
        s'.clock.change = if r < rc then some b else s.clock.change)

/-- TIME_SOURCE_CHANGE (R125, R143 to R145): at a second boundary; below 500 ns of return error the offset is slewed out, else one step
is planned. -/
def TimeSourceChange : Prop := ∀ (s : State) (t src unc : Nat) (off : Int), s.Inv → s.running = true → s.isManager = true →
  s.clock.state ≠ .following → s.clock.change = some src → (s.at t).atSecond = true →
  s.clock.changeAt / 1000000000 < (s.at t).mt / 1000000000 → (∀ p, s.clock.step = some p → p.atSec = none) →
  Answers (.timeSourceChange t off unc) s fun s' => s'.clock.change = none ∧ s'.obj 0x2100 5 = (src : Int) + 1 ∧
    s'.obj 0x2100 8 = clampInt (-2147483648) 2147483647 off ∧
    let err : Int := (off.natAbs : Int) + 1000 * (if src = 0 then nth 0 s.clock.uncertainty 0 else unc : Nat)
    (err < 500000 → s'.clock.state = .slewing ∧ s'.clock.slewLeft = off ∧ s'.clock.step = none ∧ s'.obj 0x2100 7 = err / 1000) ∧
    (500000 ≤ err → s'.clock.state = s.clock.state ∧ s'.clock.step = some { amountNs := - roundHalfEven (off / 1000), atSec := none })

/-- TIME_SOURCE_LOSS (R126, R140): the selected source is lost, or a PTP instance has another grandmaster: holdover, and the best source
that is left waits for the next second boundary. -/
def TimeSourceLoss : Prop := ∀ (s : State) (t source : Nat) (g : Option Nat), s.Inv → s.running = true → s.isManager = true →
  s.clock.state ≠ .following → source < 3 → s.obj 0x2100 5 = (source : Int) + 1 →
  (∀ m, g = some m → 1 ≤ source ∧ s.obj (0x2110 + (source - 1)) 9 ≠ m ∧ s.obj (0x2110 + (source - 1)) 0x10 < 0xFFFFFFFF) →
  Answers (.timeSourceLoss t source g) s fun s' => s'.clock.state = .holdover ∧ s'.clock.holdFrom = some (max s.now t) ∧
    s'.obj 0x2100 5 = 0 ∧ nth false s'.clock.qualified source = false ∧ s'.clock.change = s'.bestSource ∧
    ∀ m, g = some m → s'.obj (0x2110 + (source - 1)) 9 = m ∧
      s'.obj (0x2110 + (source - 1)) 0x10 = s.obj (0x2110 + (source - 1)) 0x10 + 1

/-- SLEW_DONE (R144): once the slewed offset is below 10 ns. -/
def SlewDone : Prop := ∀ (s : State) (t : Nat), s.Inv → s.running = true → s.clock.state = .slewing → s.clock.slewLeft.natAbs < 10000 →
  Answers (.slewDone t) s fun s' => s'.clock.state = .locked ∧ s'.clock.slewLeft = 0 ∧
    s'.clock.lockedFrom = some (s.clock.lockedFrom.getD (max s.now t)) ∧ s.sameObjects s' [okey 0x2100 7] ∧
    ∀ n, s.selectedSource = some n → s'.obj 0x2100 7 = nth 0 s.clock.uncertainty n

/-- TIME_STEP (R129, R132): an announced step is applied once its pulse has come, counted in 2100h:0D, and nothing is left of it; a
module that hears a leader follows, one with a source slews out the residual, any other goes on as it was. -/
def TimeStep : Prop := ∀ (s : State) (t sec : Nat) (a : Int), s.Inv → s.running = true →
  s.clock.step = some { amountNs := a, atSec := some sec } → s.boundaryNs sec ≤ (s.at t).mt →
  s.obj 0x2100 0x0D < 0xFFFFFFFF → 0 ≤ ((s.at t).mt : Int) + a → ((s.at t).mt : Int) + a < 2 ^ 48 * 1000000000 →
  Answers (.timeStep t) s fun s' => s'.clock.step = none ∧ s'.obj 0x2100 0x0D = s.obj 0x2100 0x0D + 1 ∧
    (s'.mt : Int) = (s.at t).mt + a ∧ s'.obj 0x2100 0x0E = clampInt (-9223372036854775808) 9223372036854775807 a ∧
    ((s.at t).hasLeader = true → s'.clock.state = .following) ∧
    ((s.at t).hasLeader = false → (∀ n, s.selectedSource = some n → s'.clock.state = .slewing ∧
        s'.clock.slewLeft = s.obj 0x2100 8 + 1000 * a) ∧
      (s.selectedSource = none → s'.clock.state = s.clock.state))

/-- PPS_PULSE (R147 to R149): the next pulse of an output, within 4 ns of its boundary less the compensation in force, sent where the
output is enabled with the width and polarity in force. -/
def PpsPulse : Prop := ∀ (s : State) (t output sec : Nat), s.Inv → s.running = true → s.clock.state ≠ .unset → output < 2 →
  s.clock.lastPulse.length = 2 → s.clock.pulseInfo.length = 2 → s.nextPulse output sec = true →
  let force := nth (10000, 0) ((Seen s t).takePps output sec).clock.ppsForce output
  (((s.at t).mt : Int) - (s.boundaryNs sec - force.2)).natAbs ≤ 4 →
  Answers (.ppsPulse t output sec) s fun s' => nth none s'.clock.lastPulse output = some sec ∧
    (∃ p, nth none s'.clock.pulseInfo output = some p ∧ p.sec = sec ∧ p.edgeAt = max s.now t) ∧
    (s.obj (0x2120 + output) 1 = 1 →
      .pps output sec (decide (s.obj (0x2120 + output) 2 = 0)) (force.1 * 1000) (s'.obj (0x2120 + output) 5) ∈ s'.out) ∧
    (s.obj (0x2120 + output) 1 ≠ 1 → ∀ x ∈ s'.out, ∃ high, x = .ppsQual high)

/-- TIME_MESSAGE (R152, R154): once for each pulse, from 10 ms to 100 ms after its edge: 2130h carries its second, quality and error and
a sequence number that wraps, PSDUT leaves on the selected ports, and a decided step is announced for the next pulse. -/
def TimeMessage : Prop := ∀ (s : State) (t : Nat) (p : PulseInfo), s.Inv → s.running = true → s.power.portsOn = true →
  s.lastPulseInfo = some p → s.clock.described ≠ some p.sec → p.edgeAt + 10000000 ≤ max s.now t → max s.now t ≤ p.edgeAt + 100000000 →
  Answers (.timeMessage t) s fun s' =>
    let told : Option Int := s'.clock.step.bind fun q => if q.atSec = some (p.sec + 1) then some q.amountNs else none
    s'.clock.described = some p.sec ∧ s'.obj 0x2130 1 = p.sec ∧ s'.obj 0x2130 2 = p.quality ∧
    s'.obj 0x2130 6 = told.getD 0 ∧ s'.obj 0x2130 7 = (s.obj 0x2130 7 + 1) % 65536 ∧
    (∀ q, s.clock.step = some q → q.atSec = none → s'.clock.step = some { q with atSec := some (p.sec + 1) } ∧
      .stepAnnounced q.amountNs (p.sec + 1) ∈ s'.out) ∧
    ∀ port < 12, s.bit 0x2130 8 port = true →
      .sentence port (s.psdut p (if s.obj 0x2130 9 = 0 then s.obj 0x2120 5 else s.obj 0x2121 5) told) ∈ s'.out

/-- PTP_EVENT_RX (R134, R135): a Sync, its Follow_Up where it is two-step, gives the offset from master, a Delay_Resp the path delay; a
master answers a Delay_Req and sends Sync and Follow_Up, a slave sends Delay_Req; an Announce is heard; messages of another domain or
transport change nothing. -/
def PtpEventRx : Prop := ∀ (s : State) (t inst port : Nat) (head : PtpHead), s.Inv → s.running = true → s.power.portsOn = true →
  s.isManager = true → inst < 2 → s.clock.ptp.length = 2 → s.obj (0x2110 + inst) 1 = 1 →
  let o := 0x2110 + inst
  let p := s.ptpInst inst
  let rx := halfNs (s.at t).mtPs - s.phyPs inst port false
  let tx := halfNs (s.at t).mtPs + s.phyPs inst port true
  let own := (head.domain : Int) = s.obj o 2 ∧ head.ethernet = decide (s.obj o 3 = 1) ∧ head.unicast = false
  let offset (t1 t2 : Int) := clampInt (-9223372036854775808) 9223372036854775807 (t2 - t1 - s.obj o 0x0B)
  (own → ∀ n x corr, Answers (.ptpEventRx t inst port head (.sync n false x corr)) s fun s' => s'.obj o 0x0A = offset (x + corr) rx) ∧
  (own → ∀ n x corr, Answers (.ptpEventRx t inst port head (.sync n true x corr)) s fun s' => s'.od = s.od ∧
    (s'.ptpInst inst).syncSeq = some n ∧ (s'.ptpInst inst).syncRx = rx ∧ (s'.ptpInst inst).syncCorr = corr) ∧
  (own → ∀ n x corr, p.syncSeq = some n → Answers (.ptpEventRx t inst port head (.followUp n x corr)) s fun s' =>
    s'.obj o 0x0A = offset (x + p.syncCorr + corr) p.syncRx) ∧
  (own → ∀ n x corr, p.delaySeq = some n → Answers (.ptpEventRx t inst port head (.delayResp n x corr)) s fun s' =>
    s'.obj o 0x0B = clampInt 0 0xFFFFFFFF ((p.t2 - p.t1 + (x - corr - p.t3)) / 2) ∧ (s'.ptpInst inst).delaySeq = none) ∧
  (own → ∀ a b c d e ident utc leap, Answers (.ptpEventRx t inst port head (.announce a b c d e ident utc leap)) s fun s' =>
    ([a, b, c, d, e, ident], max s.now t) ∈ (s'.ptpInst inst).foreign) ∧
  (own → ∀ n corr, (Seen s t).ptpState inst = 6 → Answers (.ptpEventRx t inst port head (.delayReq n corr)) s fun s' =>
    s'.out = [.ptpDelayResp inst n rx corr]) ∧
  ((Seen s t).ptpState inst = 6 → (Seen s t).ptpMaySend inst 1 (intervalNs (s.obj o 6)) = true →
    Answers (.ptpEventRx t inst port head .sendSync) s fun s' =>
      s'.out = [.ptpSync inst ((nth 0 p.sentNo 1 + 1) % 65536), .ptpFollowUp inst ((nth 0 p.sentNo 1 + 1) % 65536) tx]) ∧
  ((Seen s t).ptpState inst = 9 → (Seen s t).ptpMaySend inst 2 (intervalNs (s.obj o 7)) = true →
    Answers (.ptpEventRx t inst port head .sendDelayReq) s fun s' => s'.out = [.ptpDelayReq inst ((nth 0 p.sentNo 2 + 1) % 65536)] ∧
      (s'.ptpInst inst).delaySeq = some ((nth 0 p.sentNo 2 + 1) % 65536) ∧ (s'.ptpInst inst).t3 = tx) ∧
  (¬ own → ∀ n two x corr, Answers (.ptpEventRx t inst port head (.sync n two x corr)) s fun s' => s'.od = s.od ∧ s'.out = [])

/-- PTP_TRANSPARENT_FORWARD (R136, R137): the residence time, PHY latencies included, is added to the correction of a one-step Sync or
Delay_Req, and of a two-step Sync to that of its Follow_Up; other messages, and those of the internal clock, pass as they are. -/
def PtpForward : Prop := ∀ (s : State) (t inst n : Nat) (one : Bool) (kind : PtpFwd) (ingress egress corr : Int), s.running = true →
  s.power.portsOn = true → inst < 2 → s.clock.ptp.length = 2 → s.obj (0x2110 + inst) 1 ≠ 0 →
  let residence := halfNs egress + s.phyPs inst (if one then 2 else 1) true - (halfNs ingress - s.phyPs inst (if one then 1 else 2) false)
  Answers (.ptpTransparentForward t inst one kind ingress egress corr) s fun s' => s'.od = s.od ∧
    (kind = .sync n false ∨ kind = .delayReq → s'.out = [.ptpForward inst one (corr + residence)]) ∧
    (kind = .sync n true → s'.out = [.ptpForward inst one corr] ∧ (s'.ptpInst inst).residence.getLast? = some (one, n, residence)) ∧
    (kind = .followUp n → ∀ r, (s.ptpInst inst).residence = [(one, n, r)] → s'.out = [.ptpForward inst one (corr + r)] ∧
      (s'.ptpInst inst).residence = []) ∧
    (kind = .general ∨ kind = .internal → s'.out = [.ptpForward inst one corr])

/-- FRAMING_LOCK (R165): 64 samples in a row whose Gx_FRM pattern is 1000b, on a port that searches. -/
def FramingLock : Prop := ∀ (s : State) (t port : Nat) (frm : List Bool), s.Inv → s.running = true → port < 3 →
  s.gnss.ports.length = 3 → s.obj (0x3000 + port) 1 ≠ 0 → s.bit (0x3000 + port) 8 4 = true → (s.ifPort port).searching = true →
  frm.length = 256 → (fours frm).all framedOk = true →
  Answers (.framingLock t port frm) s fun s' => s'.bit (0x3000 + port) 8 2 = true ∧ (s'.ifPort port).searching = false ∧
    s.sameObjects s' [okey (0x3000 + port) 8]

/-- FRAMING_ERROR (R165, R167): counted in 3000h+p:09; the third in a row faults the port. -/
def FramingError : Prop := ∀ (s : State) (t port n : Nat) (frm : List Bool), s.Inv → s.running = true → port < 3 →
  s.gnss.ports.length = 3 → s.bit (0x3000 + port) 8 2 = true → framedOk frm = false →
  (∀ m, (s.ifPort port).lastErr = some m → m < n) → s.obj (0x3000 + port) 9 < 0xFFFFFFFF →
  Answers (.framingError t port n frm) s fun s' => s'.obj (0x3000 + port) 9 = s.obj (0x3000 + port) 9 + 1 ∧
    (∀ m, (s.ifPort port).lastErr = some m → m + 1 = n → 2 ≤ (s.ifPort port).errRun → s'.bit (0x3000 + port) 8 3 = true) ∧
    ((s.ifPort port).lastErr = none → s'.bit (0x3000 + port) 8 3 = s.bit (0x3000 + port) 8 3)

/-- IF_CLOCK_CHECK (R166, R167): within 20 × 10^-6 of twice the sample rate, or a fault of a port that is on. -/
def IfClockCheck : Prop := ∀ (s : State) (t port f n : Nat), s.Inv → s.running = true → port < 3 → s.gnss.ports.length = 3 →
  let want := ifClockHz (s.nat (0x3000 + port) 2 % 4) * 1000
  let near := ((f : Int) - want).natAbs * 1000000 ≤ 20 * want
  Answers (.ifClockCheck t port f n) s fun s' => s'.bit (0x3000 + port) 8 0 = decide (0 < f) ∧ s'.bit (0x3000 + port) 8 1 = decide near ∧
    (near ∨ s.obj (0x3000 + port) 1 = 0 → s.sameObjects s' [okey (0x3000 + port) 8] ∧ s'.gnss.chans = s.gnss.chans) ∧
    (¬ near → s.obj (0x3000 + port) 1 ≠ 0 → s.bit (0x3000 + port) 8 3 = false →
      s'.bit (0x3000 + port) 8 3 = true ∧ (s'.ifPort port).faultAt = some (max s.now t))

/-- PORT_FAULT (R167): the port is faulted, framing is lost, and its channels are OFF. -/
def PortFault : Prop := ∀ (s : State) (t port : Nat) (cause : PortFaultCause), s.Inv → s.running = true → port < 3 →
  s.gnss.ports.length = 3 → s.obj (0x3000 + port) 1 ≠ 0 → s.bit (0x3000 + port) 8 3 = false →
  Answers (.portFault t port cause) s fun s' => s'.bit (0x3000 + port) 8 3 = true ∧ s'.bit (0x3000 + port) 8 2 = false ∧
    (s'.ifPort port).faultAt = some (max s.now t) ∧ s'.gnss.chans.all (fun k => k.idx / 128 ≠ port) = true

/-- PORT_RETRY (R167): 1 s after the fault the port searches again. That the fault's mark ends here is the model's choice (log entry
15). -/
def PortRetry : Prop := ∀ (s : State) (t port f : Nat), s.Inv → s.running = true → s.gnss.ports.length = 3 → port < 3 →
  (s.ifPort port).faultAt = some f → f + 1000000000 ≤ max s.now t →
  Answers (.portRetry t port) s fun s' => (s'.ifPort port).faultAt = none ∧ (s'.ifPort port).searching = true ∧
    s'.bit (0x3000 + port) 8 3 = false ∧ s.sameObjects s' [okey (0x3000 + port) 8]

/-- FRONTEND_INIT (R169, R170). -/
def FrontendInit : Prop := ∀ (s : State) (t port : Nat), s.Inv → s.running = true → port < 3 → s.gnss.ports.length = 3 →
  s.power.resetsReleased = true → s.obj 0x3340 4 ≠ 1 → (s.ifPort port).initPending = true →
  Answers (.frontendInit t port) s fun s' => s'.bit (0x3000 + port) 8 4 = true ∧ (s'.ifPort port).initPending = false ∧
    (s'.ifPort port).searching = (s.ifPort port).faultAt.isNone ∧
    s'.out = [.spi port (initEntries (s.blob (0x3000 + port) 7).length (s.blob (0x3000 + port) 7))] ∧
    s.sameObjects s' [okey (0x3000 + port) 8]

/-- STREAM_LEVEL_CHECK (R163, R172): from how often each code stood in the components, the RMS level in 1/100, and the sticky alarms below
2.00 and above 2 % of clipped components. -/
def StreamLevel : Prop := ∀ (s : State) (t port stream : Nat) (counts : List Nat), s.Inv → s.running = true → port < 3 → stream < 4 →
  s.portTracks port = true → s.bit (0x3000 + port) 3 stream = true → s.bit (0x3000 + port) 8 2 = true →
  counts.foldl (· + ·) 0 ≠ 0 →
  let format := s.nat (0x3000 + port) 4
  let level (c : Nat) : Int := decodeSample format c
  let total := counts.foldl (· + ·) 0
  let square := (List.range 16).foldl (fun a c => a + nth 0 counts c * (level c * level c).toNat) 0
  let clips (c : Nat) : Bool := if format = 0 then decide ((level c).natAbs = 15) else decide (level c = -8) || decide (level c = 7)
  let clipped := (List.range 16).foldl (fun a c => a + (if clips c then nth 0 counts c else 0)) 0
  Answers (.streamLevelCheck t port stream counts) s fun s' =>
    s'.obj (0x3010 + 4 * port + stream) 3 = (min (rootHundredths square total) 1500 : Nat) ∧
    s'.bit (0x3010 + 4 * port + stream) 4 0 = (s.bit (0x3010 + 4 * port + stream) 4 0 || decide (square < 4 * total)) ∧
    s'.bit (0x3010 + 4 * port + stream) 4 1 = (s.bit (0x3010 + 4 * port + stream) 4 1 || decide (2 * total < 100 * clipped))

/-- IF_LANE_CHECKER_LOCK (R171): the bits of a lane through its checker; 3000h+p:0B counts their errors, 3000h+p:0C marks the lane,
3000h+p:08 [5] shows all eight checkers locked. -/
def LaneCheckerLock : Prop := ∀ (s : State) (t port lane : Nat) (bits : List Bool), s.Inv → s.running = true → port < 3 → lane < 8 →
  s.gnss.ports.length = 3 → (s.ifPort port).lanes.length = 8 → s.obj (0x3000 + port) 1 = 2 →
  Answers (.ifLaneCheckerLock t port lane bits) s fun s' =>
    let after := (nth {} (s.ifPort port).lanes lane).run' bits
    nth {} (s'.ifPort port).lanes lane = after.1 ∧ s'.bit (0x3000 + port) 8 5 = (s'.ifPort port).lanes.all (·.locked) ∧
    (s.obj (0x3000 + port) 0x0B + after.2 ≤ 0xFFFFFFFF → s'.obj (0x3000 + port) 0x0B = s.obj (0x3000 + port) 0x0B + after.2) ∧
    s'.bit (0x3000 + port) 0x0C lane = (s.bit (0x3000 + port) 0x0C lane || decide (0 < after.2))

/-- CHANNEL_ASSIGN (R175, R176, Table 5-6): every channel in use stays; while a channel of the port is still free, with position and
time every enabled signal that fits a satellite above the mask and a stream has one, and without them every satellite or frequency
number of every such signal has one. -/
def ChannelAssign : Prop := ∀ (s : State) (t port : Nat) (sky : List SatPrediction), s.Inv → s.running = true → port < 3 →
  s.portTracks port = true → s.bit (0x3000 + port) 8 2 = true → s.obj 0x3340 4 ≠ 1 →
  Answers (.channelAssign t port sky) s fun s' => (∀ i k, s.chan i = some k → s'.chan i = some k) ∧
    (∀ i k, s.chan i = none → s'.chan i = some k → i / 128 = port ∧ s.bit (0x3000 + port) 5 k.signal = true ∧
      s.placeSignal port k.signal k.sat.freqK = some k.stream ∧ (k.state = .search ∨ k.state = .pullin)) ∧
    ((s'.freeChan port).isSome = true →
      (s.placeTime = true → ∀ pr ∈ sky, 10 * s.obj (0x3000 + port) 6 ≤ pr.elevation10 → ∀ sig < 0x14, pr.sat.fits sig = true →
        isAidedOnly sig = false → s.bit (0x3000 + port) 5 sig = true → (s.placeSignal port sig pr.sat.freqK).isSome = true →
        s'.alreadyOn port sig pr.sat = true) ∧
      (s.placeTime = false → ∀ x ∈ s.blindList port, (s.placeSignal port x.1 x.2.freqK).isSome = true →
        s'.alreadyOn port x.1 x.2 = true))

/-- CHANNEL_RELEASE (R177). -/
def ChannelRelease : Prop := ∀ (s : State) (t port c : Nat) (el : Int) (bad : Bool), s.running = true → port < 3 → c < 128 →
  bad = true ∨ el ≤ 10 * s.obj (0x3000 + port) 6 - 20 →
  Answers (.channelRelease t port c el bad) s fun s' => s'.chan (128 * port + c) = none ∧
    ∀ i, i ≠ 128 * port + c → s'.chan i = s.chan i

/-- ACQ_JOB_START (R178, R183): with requests queued for channels in use, a job of the first class that has one runs. -/
def AcqJobStart : Prop := ∀ (s : State) (t : Nat), s.running = true → s.gnss.run = none → s.gnss.queue ≠ [] →
  (∀ q ∈ s.gnss.queue, (s.chan q.channel).isSome = true) →
  Answers (.acqJobStart t) s fun s' => s'.gnss.queue.length < s.gnss.queue.length ∧ s'.od = s.od ∧ s'.gnss.chans = s.gnss.chans ∧
    ∃ r, s'.gnss.run = some r ∧ r.blocks = s.nat 0x3020 3 ∧ r.startAt = max s.now t ∧
      (r.cls ≠ .reacq → ∀ q ∈ s.gnss.queue, q.cls ≠ .reacq) ∧ (r.cls = .blind → ∀ q ∈ s.gnss.queue, q.cls = .blind)

/-- ACQ_JOB_END (R178, R181): with all its blocks captured the job is over, counted in 3020h:06, and the buffer holds the blocks. -/
def AcqJobEnd : Prop := ∀ (s : State) (t first last : Nat) (r : AcqRun) (capture : List (List IfSample)), s.Inv → s.running = true →
  s.gnss.run = some r → capture.length = r.blocks →
  let size := s.sampleHz r.port * r.tcohMs / 1000
  (∀ b ∈ capture, b.length = size) → first + r.blocks * size ≤ last → r.startAt + r.blocks * r.tcohMs * 1000000 ≤ max s.now t →
  s.obj 0x3020 6 < 0xFFFFFFFF →
  Answers (.acqJobEnd t capture first last) s fun s' => s'.gnss.run = none ∧ s'.obj 0x3020 6 = s.obj 0x3020 6 + 1 ∧
    s'.gnss.buffer = capture.map fun b => capturePoints (b.map (s.sample r.port r.stream))

/-- INTEGRATION_DUMP (R186, R187, R196): the samples up to the end of an integration; the prompt tap is what the next dump is compared
with, and the next integration begins where this one ends. -/
def IntegrationDump : Prop := ∀ (s : State) (t port c : Nat) (samples : List IfSample) (nav : Option NavEvent) (k : Chan),
  s.running = true → s.chan (128 * port + c) = some k → (k.state = .pullin ∨ k.state = .fll ∨ k.state = .pll) →
  k.endsAt samples.length (s.integrationPeriods k) = true →
  Answers (.integrationDump t port c samples nav) s fun s' => ∃ k', s'.chan (128 * port + c) = some k' ∧ k'.havePrev = true ∧
    (k'.prevI, k'.prevQ) = nth (0, 0) ((tapOffsets (isBoc k.signal) (s.obj (0x3040 + k.signal) 7)).map fun off =>
      k.tapSum false off ((Seen s t).mixed k 0 samples)) 2 ∧
    k'.next = k.next + samples.length ∧ k'.period = k.period + s.integrationPeriods k ∧ k'.state = k.state

/-- DETECTOR_WINDOW (R198 to R200): after 20 integrations the phase lock indicator stands in 3100h+i:07, in 1/1000, and the multipath
indicator in 3100h+i:0B. -/
def DetectorWindow : Prop := ∀ (s : State) (t port c : Nat) (k : Chan) (w : WinSums), s.Inv → s.running = true → port < 3 → c < 128 →
  s.chan (128 * port + c) = some k → k.full = some w →
  Answers (.detectorWindow t port c) s fun s' => ∃ k', s'.chan (128 * port + c) = some k' ∧ k'.full = none ∧
    s'.obj (0x3100 + (128 * port + c)) 7 = clampInt (-1000) 1000 (roundHalfEven (qdiv (w.diff : Rat) w.p2 * 1000)) ∧
    s'.obj (0x3100 + (128 * port + c)) 0x0B = clampInt 0 65535 (roundHalfEven (1000 * Config.sqrt
      (multipathSquare (isBoc k.signal) ((s.obj (0x3040 + k.signal) 7 : Rat) / 100) w.taps)))

/-- What a channel that failed to lock becomes (R182, Table 5-6): it searches again with its job queued; one of a signal marked "Aided
only" is OFF. -/
def SearchesAgain (s' : State) (i : Nat) (k : Chan) : Prop :=
  if isAidedOnly k.signal then s'.chan i = none
  else (∃ k', s'.chan i = some k' ∧ k'.state = .search ∧ k'.signal = k.signal ∧ k'.sat = k.sat) ∧
    { cls := if k.blind then .blind else .aided, channel := i } ∈ s'.gnss.queue

/-- PULLIN_TIMEOUT (Table 5-6): after 200 ms without lock, counted in 3020h:07. -/
def PullinTimeout : Prop := ∀ (s : State) (t port c : Nat) (k : Chan), s.Inv → s.running = true →
  s.chan (128 * port + c) = some k → k.state = .pullin → k.stateFrom + 200000000 ≤ max s.now t → s.obj 0x3020 7 < 0xFFFFFFFF →
  Answers (.pullinTimeout t port c) s fun s' => SearchesAgain s' (128 * port + c) k ∧ s'.obj 0x3020 7 = s.obj 0x3020 7 + 1

/-- REACQ_TIMEOUT (Table 5-6): after the window of 3040h+n:0C, ms. -/
def ReacqTimeout : Prop := ∀ (s : State) (t port c : Nat) (k : Chan), s.running = true → s.chan (128 * port + c) = some k →
  k.state = .reacq → k.stateFrom + 1000000 * s.nat (0x3040 + k.signal) 0x0C ≤ max s.now t →
  Answers (.reacqTimeout t port c) s fun s' => SearchesAgain s' (128 * port + c) k

/-- MEASUREMENT_INSTANT (R203, R209 to R211): on the grid of the rate every channel is latched at one instant of module time. -/
def MeasurementInstant : Prop := ∀ (s : State) (t : Nat), s.running = true → s.gsol.ratePending = none → (s.at t).onGrid = true →
  Answers (.measurementInstant t) s fun s' => s'.gsol.latchAt = (s.at t).mt ∧ s'.gsol.latched = true ∧ s'.od = s.od ∧
    s'.gsol.latches = s.gnss.chans.map ((Seen s t).latchChan (1000 * ((s.at t).mt : Int)))

/-- MEASUREMENT_RECORD_READY (R211 to R213): from 2 ms after the instant its record stands in 3300h and is an input of the pair; the flag of
a step is spent, and the channels stay as many. -/
def RecordReady : Prop := ∀ (s : State) (t : Nat), s.Inv → s.running = true → s.gsol.latched = true → s.p1Works = true →
  s.gsol.latchAt + 2000000 ≤ (s.at t).mt →
  Answers (.measurementRecordReady t) s fun s' => s'.gsol.stepped = false ∧ s'.gsol.latched = false ∧
    s'.gsol.entriesAt = s.gsol.latchAt ∧ s'.obj 0x3300 2 = ((s.nat 0x3300 2 + 1) % 65536 : Nat) ∧
    s'.obj 0x3300 3 = s'.gsol.entries.length ∧ s'.gnss.chans.length = s.gnss.chans.length ∧
    s'.pair.pool.length = s.pair.pool.length + 1 ∧
    ∀ p ∈ s'.pair.pool.getLast?, p.source = 38 ∧ p.own = true ∧ p.stamp = s.gsol.latchAt ∧ p.data = s'.blob 0x3300 4

/-- SOLUTION_READY (R218, R565): a manager's P1 forms, once for each record and from the least offset of Table 6-3, the solution of GA,
GB, GC or combined, an input of the pair under its number. -/
def SolutionReady : Prop := ∀ (s : State) (t which : Nat), s.Inv → s.running = true → which < 4 → s.isManager = true →
  s.gsol.latched = false → s.gsol.entriesAt ≠ 0 → s.gsol.entriesAt + solutionDelay which ≤ (s.at t).mt →
  s.gsol.formed.length = 6 → nth none s.gsol.formed which ≠ some s.gsol.entriesAt →
  Answers (.solutionReady t which) s fun s' => nth none s'.gsol.formed which = some s.gsol.entriesAt ∧
    s'.obj (0x3310 + which) 0x0D = (s.gsol.entriesAt % 4294967296 : Nat) ∧
    s'.pair.pool.length = s.pair.pool.length + 1 ∧
    ∀ p ∈ s'.pair.pool.getLast?, p.source = 36 ∧ p.own = true ∧ p.stamp = s.gsol.entriesAt ∧ p.data = [BitVec.ofNat 8 which]

/-- ATTITUDE_READY (R224, R228, R565): likewise the attitude, with the state that the fixed baselines give. -/
def AttitudeReady : Prop := ∀ (s : State) (t : Nat), s.Inv → s.running = true → s.obj 0x3328 9 = 1 → s.gsol.latched = false →
  s.gsol.entriesAt ≠ 0 → s.gsol.entriesAt + 8000000 ≤ (s.at t).mt → s.gsol.formed.length = 6 →
  nth none s.gsol.formed 4 ≠ some s.gsol.entriesAt →
  Answers (.attitudeReady t) s fun s' =>
    let st : Nat := (if s'.gsol.gb.state = .fixed then 1 else 0) + (if s'.gsol.gc.state = .fixed then 2 else 0)
    nth none s'.gsol.formed 4 = some s.gsol.entriesAt ∧ s'.obj 0x3320 1 = st ∧ s'.pair.pool.length = s.pair.pool.length + 1 ∧
    ∀ p ∈ s'.pair.pool.getLast?, p.source = 37 ∧ p.own = true ∧ p.stamp = s.gsol.entriesAt ∧ p.data = [BitVec.ofNat 8 st]

/-- KEPT_DATA_WRITE (R231): an item decoded identically twice, or the combined position at most every 60 s, stands in MRAM under its
CRC-32C in place of an older one; two decodes that differ write nothing. -/
def KeptDataWrite : Prop := ∀ (s : State) (t : Nat), s.Inv → s.running = true →
  (∀ x : KeptItem, (∀ a b c d, x ≠ .position a b c d) → Answers (.keptDataWrite t (.decoded x x)) s fun s' =>
    s'.mram.kept.getLast? = some (x, crc32c x.bytes) ∧ ∀ p ∈ s'.mram.kept, p ∈ s.mram.kept ∨ p = (x, crc32c x.bytes)) ∧
  (∀ x y : KeptItem, x ≠ y → Answers (.keptDataWrite t (.decoded x y)) s fun s' => s'.mram = s.mram ∧ s'.od = s.od) ∧
  (s.obj 0x3313 1 ≠ 0 → (∀ a, s.gsol.lastFixWrite = some a → a + 60000000000 ≤ max s.now t) →
    Answers (.keptDataWrite t .position) s fun s' => s'.gsol.lastFixWrite = some (max s.now t) ∧
      ∃ at', s'.mram.kept.getLast? = some (.position at' (s.obj 0x3313 3) (s.obj 0x3313 4) (s.obj 0x3313 5),
        crc32c (KeptItem.position at' (s.obj 0x3313 3) (s.obj 0x3313 4) (s.obj 0x3313 5)).bytes))

/-- HARBOUR_WAKE (R237). -/
def HarbourWake : Prop := ∀ (s : State) (t : Nat), s.Inv → s.running = true → s.obj 0x3340 4 = 1 →
  s.gsol.wakeFrom + 60000000000 * s.nat 0x3340 2 ≤ max s.now t →
  Answers (.harbourWake t) s fun s' => s'.obj 0x3340 4 = 2 ∧ s'.gsol.wakeFrom = max s.now t ∧ s.sameObjects s' [okey 0x3340 4]

/-- HARBOUR_WAKE_END (R236, R237): the baseband sleeps again, with every channel OFF. -/
def HarbourWakeEnd : Prop := ∀ (s : State) (t : Nat) (lacking : Bool), s.Inv → s.running = true → s.obj 0x3340 4 = 2 →
  s.gsol.wakeFrom + 1000000000 * s.nat 0x3340 3 + (if lacking then 60000000000 else 0) ≤ max s.now t →
  Answers (.harbourWakeEnd t lacking) s fun s' => s'.obj 0x3340 4 = 1 ∧ s'.gnss.chans = []

/-- SERIAL_CHARACTER_RX (R249, R250): every character of a port that is on counts in 4000h+p:11; a start character opens a sentence. -/
def SerialCharacter : Prop := ∀ (s : State) (t port a b : Nat) (x : Byte) (err : Bool), s.Inv → s.running = true → s.power.portsOn = true →
  port < 12 → s.obj (0x4000 + port) 1 ≠ 0 → s.obj (0x9214 + port) 1 ≠ 3 →
  a ≤ 8 + 1000000000 / (16 * s.nat (0x4000 + port) 2) → b ≤ 8 + 1000000000 / (16 * s.nat (0x4000 + port) 2) →
  Answers (.serialCharacterRx t port x err a b) s fun s' =>
    s'.obj (0x4000 + port) 0x11 = (s.obj (0x4000 + port) 0x11 + 1) % 18446744073709551616 ∧
    (s.intake.serial.length = 12 → s.obj (0x4000 + port) 1 = 1 → (s.rx port).verdict = none → (s.rx port).inPacket = false → x = 36#8 →
      (s'.rx port).inPacket = true ∧ (s'.rx port).chars.map (·.b) = [x] ∧
      (s'.rx port).chars.map (·.endStamp) = [((s.at t).mt + b) % 4294967296])

/-- PACKET_COMMIT (R256 to R258): the packet stands whole in the queue, with exactly one notice, and is an input of the pair. -/
def PacketCommit : Prop := ∀ (s : State) (t port flags : Nat), s.Inv → s.running = true → s.power.portsOn = true → port < 12 →
  s.intake.serial.length = 12 → (s.rx port).verdict = some true → (s.rx port).ignoring = false →
  s.packetFlags port (s.rx port) = some flags →
  Answers (.packetCommit t port) s fun s' =>
    let image := packetImage (decide (s.obj (0x4000 + port) 1 = 1)) flags (s.rx port).lastStamp (s.rx port).chars
    (s'.rx port).words = (s.rx port).words ++ image ∧
    (s'.rx port).packets.map (·.words) = (s.rx port).packets.map (·.words) ++ [image.length] ∧
    (s'.rx port).verdict = none ∧ Out.notice port ∈ s'.out ∧ (s'.rx port).notices = (s.rx port).notices + 1 ∧
    ∀ p ∈ s'.pair.pool.getLast?, p.source = port ∧ p.own = true ∧ p.data = (s.rx port).chars.map (·.b)

/-- PACKET_DISCARD (R250): a malformed sentence leaves nothing and counts. -/
def PacketDiscard : Prop := ∀ (s : State) (t port : Nat), s.Inv → s.running = true → s.power.portsOn = true → port < 12 →
  s.intake.serial.length = 12 → (s.rx port).verdict = some false → (s.rx port).ignoring = false → s.obj (0x4000 + port) 1 = 1 →
  s.obj (0x4000 + port) 0x15 < 0xFFFFFFFF →
  Answers (.packetDiscard t port) s fun s' => (s'.rx port).inPacket = false ∧ (s'.rx port).verdict = none ∧
    (s'.rx port).words = (s.rx port).words ∧ s'.obj (0x4000 + port) 0x15 = s.obj (0x4000 + port) 0x15 + 1

/-- PACKET_GAP_TIMEOUT (R253): after the gap of 4000h+p:0A, or 1.0 s after its first character, a packet in progress is malformed. -/
def PacketGap : Prop := ∀ (s : State) (t port : Nat), s.Inv → s.running = true → s.power.portsOn = true → port < 12 →
  s.intake.serial.length = 12 → (s.rx port).verdict = none → (s.rx port).inPacket = true →
  s.nat (0x4000 + port) 0x0A * 1000000000 < (max s.now t - (s.rx port).lastAt) * s.nat (0x4000 + port) 2 ∨
    (∃ f, (s.rx port).chars.head? = some f ∧ 1000000000 < max s.now t - f.at') → s.obj (0x4000 + port) 1 = 1 →
  Answers (.packetGapTimeout t port) s fun s' => (s'.rx port).inPacket = false ∧ (s'.rx port).chars = [] ∧
    (s'.rx port).words = (s.rx port).words

/-- QUEUE_READ (R259, R260): the next committed word, or FFFFFFFEh. -/
def QueueRead : Prop := ∀ (s : State) (t port : Nat), s.running = true → s.power.portsOn = true → port < 12 → s.intake.serial.length = 12 →
  Answers (.queueRead t port) s fun s' => (s'.rx port).words = (s.rx port).words.drop 1 ∧
    s'.out = [.queueWord port ((s.rx port).words.headD 0xFFFFFFFE)]

/-- CHAIN_OUTPUT (R269 to R282, R565): the edges that complete one settled output put it, held to 24 bits, into 4040h+c:0F, and it is an
input of the pair with the stamp of its last edge. -/
def ChainOutput : Prop := ∀ (s : State) (t chain input : Nat) (edges : List SdEdge) (k' : Chain) (o : ChainOut), s.Inv →
  s.running = true → chain < 24 → s.intake.chains.length = 24 → s.obj (0x4040 + chain) 1 ≠ 0 → s.nat (0x4040 + chain) 2 = input →
  (s.chain chain).inRange = true →
  Chain.feed (s.nat (0x4040 + chain) 4) (s.nat (0x4040 + chain) 5) (s.nat (0x4040 + chain) 6) (s.nat (0x4040 + chain) 7)
    (s.nat (0x4040 + chain) 8) (s.chain chain) (edges.filter fun e => e.rising = decide (s.obj (0x4040 + chain) 3 = 0)) = (k', [o]) →
  o.ago ≤ 400 → settleCic (s.nat (0x4040 + chain) 4) (s.nat (0x4040 + chain) 7) ≤ o.cic →
  Answers (.chainOutput t chain input edges) s fun s' => s'.obj (0x4040 + chain) 0x0F = clampInt (-8388608) 8388607 o.y ∧
    (s'.chain chain).valid = true ∧ ∀ p ∈ s'.pair.pool.getLast?, p.source = 12 + chain ∧ p.own = true ∧
      p.stamp = ((((s.at t).mt : Int) - o.ago) % 4294967296).toNat ∧ p.data = leBytesInt 4 (clampInt (-8388608) 8388607 o.y)

/-- CHAIN_CLOCK_WINDOW (R268, R276): once in a window, the frequency, and whether it lies within 4.9 and 20.5 MHz with no loss of the
clock in it. -/
def ChainClockWindow : Prop := ∀ (s : State) (t chain edges : Nat), s.Inv → s.running = true → chain < 24 → s.intake.chains.length = 24 →
  (s.chain chain).window ≠ some ((s.at t).mt / 100000) →
  Answers (.chainClockWindow t chain edges) s fun s' => s'.obj (0x4040 + chain) 0x1A = (10 * edges : Nat) ∧
    (s'.chain chain).inRange = (decide (490 ≤ edges) && decide (edges ≤ 2050) && !(s.chain chain).lost) ∧
    s'.bit (0x4040 + chain) 0x10 3 = (decide (490 ≤ edges) && decide (edges ≤ 2050) && !(s.chain chain).lost) ∧
    (s'.chain chain).window = some ((s.at t).mt / 100000) ∧ (s'.chain chain).lost = false

/-- CHAIN_CLOCK_LOSS (R277): no edge for 1 µs. -/
def ChainClockLoss : Prop := ∀ (s : State) (t chain silent : Nat), s.Inv → s.running = true → chain < 24 → s.intake.chains.length = 24 →
  1000 ≤ silent → 1000 ≤ max s.now t - (s.chain chain).lastEdge →
  Answers (.chainClockLoss t chain silent) s fun s' => (s'.chain chain).inRange = false ∧ (s'.chain chain).valid = false ∧
    s'.bit (0x4040 + chain) 0x10 0 = false ∧ s'.bit (0x4040 + chain) 0x10 2 = false ∧ s'.bit (0x4040 + chain) 0x10 3 = false ∧
    s.sameObjects s' [okey (0x4040 + chain) 0x10]

/-- PACKET_CONSUME (R263): the oldest packet leaves the queue whole, and with it its notice. -/
def PacketConsume : Prop := ∀ (s : State) (t port : Nat) (k : PacketMark) (rest : List PacketMark) (d : Option Decoded), s.Inv →
  s.running = true → s.power.portsOn = true → port < 12 → s.intake.serial.length = 12 → (s.rx port).heldUntil ≤ max s.now t →
  (s.rx port).packets = k :: rest →
  Answers (.packetConsume t port d) s fun s' => (s'.rx port).packets = rest ∧ (s'.rx port).words = (s.rx port).words.drop k.words ∧
    (s'.rx port).notices = (s.rx port).notices - 1

/-- SOURCE_EXCLUSION (R294, R306): after 30 s of doubt a source's samples are dropped and it is excluded. -/
def SourceExclusion : Prop := ∀ (s : State) (t source f : Nat), s.Inv → s.running = true → source < 22 → s.align.sources.length = 22 →
  s.obj (0x4120 + source) 6 = 4 → (s.src source).suspectFrom = some f → f + 30000000000 ≤ max s.now t →
  Answers (.sourceExclusion t source) s fun s' => s'.obj (0x4120 + source) 6 = 5 ∧ (s'.src source).buffer = [] ∧
    (s'.src source).suspectFrom = none

/-- WARM_STATE_WRITE (R351): every 10 s, states 19 to 57 with their variances; the copy before is kept. -/
def WarmStateWrite : Prop := ∀ (s : State) (t : Nat), s.running = true → s.isManager = true → s.power.stage = .ready →
  s.est.x.length = estStates → s.est.lastWarm + 10000000000 ≤ (s.at t).mt →
  Answers (.warmStateWrite t) s fun s' => s'.mram.warm.tail = s.mram.warm.take 1 ∧ s'.od = s.od ∧
    ∀ k ∈ s'.mram.warm.head?, k.writtenS = (s.at t).mt / 1000000000 ∧ k.vals.length = 39 ∧ k.vars.length = 39 ∧
      ∀ j < 39, k.vals[j]? = some (s.est.get (19 + j))

/-- TRACK_PROCESSING (R358): once for each agreed snapshot its packets are taken; the track table lists the confirmed tracks. -/
def TrackProcessing : Prop := ∀ (s : State) (t : Nat), s.Inv → s.running = true → s.isManager = true → s.pair.setAgreed = true →
  s.align.frozen = true → s.trk.doneFor < s.align.snap.t0 →
  Answers (.trackProcessing t) s fun s' => s'.trk.doneFor = s.align.snap.t0 ∧ s'.align.snap.targets = [] ∧
    ∀ l ∈ s'.trk.table, s'.obj (trackObj l.number) 1 = 3 ∧ l.generation = s'.nat (trackObj l.number) 2

/-- TRACK_TIMEOUT (R368): 10 s without a hit, judged at T0. -/
def TrackTimeout : Prop := ∀ (s : State) (t track : Nat), s.Inv → s.running = true → track < 64 → 2 ≤ s.obj (trackObj track) 1 →
  10000000000 ≤ s.align.snap.t0 - (s.track track).lastHit →
  Answers (.trackTimeout t track) s fun s' => s'.obj (trackObj track) 1 = 0 ∧ s'.trk.free = s.trk.free ++ [track]

/-- ENGINE_START (R413, R386): once in a cycle, its demand stands 30 µs later; in DISENGAGED and BOLLARD it is zero. -/
def EngineStart : Prop := ∀ (s : State) (t : Nat), s.Inv → s.running = true → s.isManager = true → s.ctl.cycling = true →
  s.ctl.supervised = true → s.ctl.demanded = false →
  Answers (.engineStart t) s fun s' => s'.ctl.demanded = true ∧ s'.ctl.demandAt = ((s.at t).mt : Int) + 30000 ∧
    s'.ctl.demandBefore = s.ctl.demand ∧ (s.mode = 1 ∨ s.mode = 7 → s'.ctl.demand = [0, 0, 0] ∧ s'.ctl.integ = [0, 0, 0])

/-- PBTRIP_CHANGE (R60, R447): a level that has held for 1.0 ms. -/
def PbtripChange : Prop := ∀ (s : State) (t bus held : Nat) (on : Bool), s.running = true → s.isManager = true → bus < 8 →
  s.alc.level.length = 8 → 1000000 ≤ held →
  Answers (.pbtripChange t bus on held) s fun s' => nth true s'.alc.level bus = on ∧ s'.od = s.od ∧
    ∀ b, b ≠ bus → nth true s'.alc.level b = nth true s.alc.level b

/-- CAPSTAN_START (R432, R458): once in a cycle, from 600 µs after T0; it leaves new command entries for the rings. -/
def CapstanStart : Prop := ∀ (s : State) (t : Nat), s.Inv → s.running = true → s.isManager = true → s.ctl.cycling = true →
  s.ctl.allocated = false → s.ctl.t0 + 600000 ≤ (s.at t).mt →
  Answers (.capstanStart t) s fun s' => s'.ctl.allocated = true ∧ ∃ e, s'.ring.built = some (e, s.ctl.t0 + 710000) ∧ e.length = 32

/-- CYCLE_BOUNDARY (R38): T0 is the last whole multiple of Tc, and the cycle's programs are all to be run. -/
def CycleBoundary : Prop := ∀ (s : State) (t : Nat), s.running = true → s.isManager = true → s.power.stage = .ready →
  (s.ctl.cycling = true → s.ctl.gridAt < ((s.at t).mt : Int) / s.tcNs * s.tcNs) →
  Answers (.cycleBoundary t) s fun s' => s'.ctl.t0 = ((s.at t).mt : Int) / s.tcNs * s.tcNs ∧ s'.ctl.cycling = true ∧
    s'.ctl.supervised = false ∧ s'.ctl.demanded = false ∧ s'.ctl.allocated = false

/-- The bank-swap gate of a manager in OFFLINE, which its boundary only opens (R28, R590): one held write, of each kind, takes effect at the
boundary and is held no more. -/
def GateOpens : Prop := ∀ (s : State) (t stamp n : Nat), s.Inv → s.running = true → s.isManager = true → s.power.stage = .ready →
  s.role = .offline → s.ctl.cycling = false → s.pair.drillPlaced = false →
  (∀ k ∈ s.dict.clients, k.waiting = []) →
  (∀ v : Int, s.held = [{ key := okey 0x5130 1, val := .num v, stamp := stamp, session := n }] →
    Answers (.cycleBoundary t) s fun s' => s'.held = [] ∧ s'.obj 0x5130 1 = v) ∧
  (s.held = [{ key := okey 0x5038 2, val := .num 1, stamp := stamp, session := n }] →
    Answers (.cycleBoundary t) s fun s' => s'.held = [] ∧ s'.obj 0x5038 1 = 1 - s.obj 0x5038 1 ∧ s'.obj 0x5038 2 = 0 ∧ s'.obj 0x5038 3 = 0) ∧
  (∀ p : Nat, p < 4 → s.dict.storeJob = none → s.held = [{ key := okey 0x1010 p, val := .num 0x65766173, stamp := stamp, session := n }] →
    Answers (.cycleBoundary t) s fun s' => s'.held = [] ∧ s'.obj 0x1E30 1 = 3 ∧ ∃ j, s'.dict.storeJob = some j ∧ j.factory = false) ∧
  (∀ b : List Byte, s.held = [{ key := okey 0x1E20 9, val := .bytes b, stamp := stamp, session := n }] →
    Answers (.cycleBoundary t) s fun s' => s'.held = [] ∧ s'.mram.pairKey = b ∧ s'.dict.sessions = []) ∧
  (s.recorder.sealState = 0 → s.held = [{ key := okey 0x9001 2, val := .num 0x6C616573, stamp := stamp, session := n }] →
    Answers (.cycleBoundary t) s fun s' => s'.held = [] ∧ s'.recorder.sealState = 1 ∧ s'.obj 0x9001 2 = 0)

/-- SAMPLE_BOUNDARY (R41, R469): likewise for the servo period of a worker. -/
def SampleBoundary : Prop := ∀ (s : State) (t : Nat), s.running = true → s.isManager = false → s.power.stage = .ready →
  (s.srv.sampling = true → s.srv.gridAt < ((s.at t).mt : Int) / tsNs (s.obj 0x6000 1) * tsNs (s.obj 0x6000 1)) →
  Answers (.sampleBoundary t) s fun s' => s'.srv.sampling = true ∧
    s'.srv.sampleAt = ((s.at t).mt : Int) / tsNs (s.obj 0x6000 1) * tsNs (s.obj 0x6000 1)

/-- TAKEOVER (R577): 2.0 µs after the decision the standby is ACTIVE; 8000h:0A reads the time it took, and answers wait no longer. -/
def Takeover : Prop := ∀ (s : State) (t at' cause : Nat), s.Inv → s.running = true → s.power.portsOn = true →
  s.pair.decided = some (at', cause) → s.role = .standby → at' + 2000 ≤ max s.now t →
  Answers (.takeover t) s fun s' => s'.pair.role = .active ∧ s'.dict.acks = [] ∧ s'.obj 0x8000 0x0A = ((max s.now t - at' : Nat) : Int) ∧
    s'.pair.setAgreed = true

/-- The state in which supervision judges (R383): the set has been executed, this cycle is being supervised. -/
def supervising (s : State) (t : Nat) : State :=
  { s.at t with pending := [], ctl := { s.ctl with supervised := true, cyclesInMode := s.ctl.cyclesInMode + 1 } }

/-- Nothing of R381 and R382 overtakes a request in the mode in force: no demand of BOLLARD, the flags of the mode valid, the track held,
no resume waiting. -/
def Undisturbed (s : State) : Prop :=
  s.bollardDemand = false ∧ s.ctl.resume = none ∧ s.mode ≠ 7 ∧ (3 ≤ s.mode → s.valid 0 = true) ∧
  (s.mode = 4 ∨ s.mode = 5 → s.valid 1 = true) ∧
  (s.mode = 6 → s.trackHolds s.ctl.tgtTrack s.ctl.tgtGeneration = true ∧ s.valid 2 = true)

/-- MODE_SUPERVISION (R381, R383): without a valid position HDG, POS, TRK and TGT give way to JOY, with cause 01h. -/
def ModeSupervision : Prop := ∀ (s : State) (t : Nat), s.Inv → s.running = true → (s.at t).mayDoSupervision = true → s.workDue = false →
  s.bollardDemand = false → s.obj 0x5010 1 ≠ 7 → 3 ≤ s.mode → s.mode ≤ 6 → s.valid 0 = false →
  Answers (.modeSupervision t) s fun s' => s'.mode = 2 ∧ s'.nat 0x5000 2 = s.mode ∧ s'.obj 0x5000 7 = 1

/-- MODE_REQUEST (R384, R387, R409): a request that no condition of R384 refuses, within the transfer tolerance, is taken with
outcome 01h. -/
def ModeRequest : Prop := ∀ (s : State) (t m : Nat), s.Inv → s.running = true → (s.at t).mayDoSupervision = true → s.workDue = false →
  Undisturbed s → s.obj 0x5010 1 = m → 2 ≤ m → m ≤ 6 → (supervising s t).refusal m = none →
  (m ≠ s.mode → ((supervising s t).candidate m).withinTolerance s.ctl.demand = true) →
  Answers (.modeRequest t) s fun s' => s'.mode = m ∧ s'.obj 0x5000 5 = 1 ∧ s'.obj 0x5010 1 = 0

/-- DISENGAGE_REQUEST (R386): DISENGAGED, with no demand left. -/
def DisengageRequest : Prop := ∀ (s : State) (t : Nat), s.Inv → s.running = true → (s.at t).mayDoSupervision = true → s.workDue = false →
  Undisturbed s → s.mode ≠ 1 → s.obj 0x5010 1 = 1 →
  Answers (.disengageRequest t) s fun s' => s'.mode = 1 ∧ s'.nat 0x5000 2 = s.mode ∧ s'.obj 0x5000 5 = 1 ∧ s'.obj 0x5010 1 = 0 ∧
    s'.ctl.demand = [0, 0, 0]

/-- BOLLARD_REQUEST (R381, R386): BOLLARD with cause 07h, from any other mode. -/
def BollardRequest : Prop := ∀ (s : State) (t : Nat), s.Inv → s.running = true → (s.at t).mayDoSupervision = true → s.workDue = false →
  s.bollardDemand = false → s.mode ≠ 7 → s.obj 0x5010 1 = 7 →
  Answers (.bollardRequest t) s fun s' => s'.mode = 7 ∧ s'.obj 0x5000 7 = 7 ∧ s'.obj 0x5000 5 = 1 ∧ s'.ctl.demand = [0, 0, 0]

/-- The frame that the grid of module time begins next (R515, R518). -/
def nextFrame (s : State) : Int := s.ring.nextStart.getD (s.ctl.t0 + s.phiNs)

/-- RING_FRAME_START (R514 to R519): the next frame leaves on both rings under the next number: its command section with the entries that
Capstan produced last, its sync packet, and the feedback packet with every slot blank. -/
def RingFrameStart : Prop := ∀ (s : State) (t : Nat), s.Inv → s.running = true → s.originates = true → s.ctl.cycling = true →
  nextFrame s ≤ (s.at t).mt → (∀ q, nth false s.diagn.wyCrc q = false) →
  Answers (.ringFrameStart t) s fun s' => s'.ring.start = nextFrame s ∧ s'.nat 0x8100 2 = (s.nat 0x8100 2 + 1) % 4294967296 ∧
    s'.ring.entries = (s.buildFrame (nextFrame s)).ring.entries ∧
    (∃ sec : CmdSection, sec.frame = s'.nat 0x8100 2 ∧ sec.entries = s'.ring.entries ∧ ∀ p < 2, .ringForward p sec.bytes ∈ s'.out) ∧
    (∃ q : SyncPacket, q.frame = s'.nat 0x8100 2 ∧ q.start = (nextFrame s).toNat * 65536 ∧
      ∀ p < 2, .ringForward p ({ q with ring2 := decide (p = 1) } : SyncPacket).bytes ∈ s'.out) ∧
    ∀ p < 2, .ringForward p (blankFeedback (s'.nat 0x8100 2)) ∈ s'.out

/-- What a packet becomes as this node passes it on, and the failed and complemented CRCs it had. -/
def passed (s : State) (t : Nat) (pkt : List Byte) : List Byte × Nat × Nat := (Seen s t).passBytes pkt

/-- RING_PACKET_FORWARD (R511, R514, R539): a packet that this node does not take off the ring leaves by the other port, or by both where
the node has wrapped there, with failed CRCs complemented; bytes and CRC failures are counted. -/
def RingPacketForward : Prop := ∀ (s : State) (t port : Nat) (pkt : List Byte) (twin : Twin), s.Inv → s.running = true →
  s.power.portsOn = true → port < 2 → s.underTest (2 + port) = false → (Seen s t).removes pkt twin = false →
  (∀ q, nth false s.diagn.wyCrc q = false) →
  Answers (.ringPacketForward t port pkt twin) s fun s' => (∀ q ∈ s.leaves port, .ringForward q (passed s t pkt).1 ∈ s'.out) ∧
    s'.obj (0x8110 + port) 6 = (s.obj (0x8110 + port) 6 + pkt.length) % 18446744073709551616 ∧
    (s.obj (0x8110 + port) 3 + (passed s t pkt).2.1 ≤ 0xFFFFFFFF →
      s'.obj (0x8110 + port) 3 = s.obj (0x8110 + port) 3 + (passed s t pkt).2.1)

/-- COMMAND_SECTION_RX (R486, R524): an intact command section is taken as the one in force, and the arrival of a frame's first one at a
port is stamped. -/
def CommandSectionRx : Prop := ∀ (s : State) (t port sub : Nat) (pkt : List Byte) (sec : CmdSection), s.Inv → s.running = true →
  s.power.portsOn = true → port < 2 → s.underTest (2 + port) = false → s.originates = false → s.ring.ports.length = 2 →
  readCommand pkt = some sec →
  Answers (.commandSectionRx t port pkt sub) s fun s' => s'.ring.command = some sec ∧ s'.ring.commandAt = max s.now t ∧
    s'.obj 0x8100 2 = sec.frame ∧ s.sameObjects s' [okey 0x8100 2] ∧
    ((∀ f a, (s.ringPort port).stamp = some (f, a) → f ≠ sec.frame) →
      (s'.ringPort port).stamp = some (sec.frame, (s.at t).mtPs - sub - 3256000))

/-- COMMAND_SECTION_RETURN (R523): the loop time of the ring, from the frame's start to the section's, and FFFFFFFFh when the copy has not
returned after 500 µs. -/
def CommandSectionReturn : Prop := ∀ (s : State) (t ringNo sub : Nat), s.Inv → s.running = true → s.originates = true → ringNo < 2 →
  let since : Int := (s.at t).mtPs - sub - s.ring.start * 1000
  (∀ (b : List Byte) (c : CmdSection), readCommand b = some c → c.frame = s.nat 0x8100 2 → c.twin = s.ident.twin → since ≤ 500000000 →
    Answers (.commandSectionReturn t ringNo (some b) sub) s fun s' =>
      s'.obj 0x8100 (3 + ringNo) = clampInt 0 0xFFFFFFFE (since - 3256000) ∧
      s'.obj 0x8100 (4 - ringNo) = s.obj 0x8100 (4 - ringNo)) ∧
  (500000000 ≤ since → Answers (.commandSectionReturn t ringNo none sub) s fun s' =>
    s'.obj 0x8100 (3 + ringNo) = 0xFFFFFFFF ∧ s'.obj 0x8100 (4 - ringNo) = s.obj 0x8100 (4 - ringNo))

/-- SYNC_PACKET_RX (R524, R526, R538): an intact sync packet gives ring state and ownership; on a closed ring, with both stamps of its
frame, the path delays and the offset that the follower takes out. -/
def SyncPacketRx : Prop := ∀ (s : State) (t port : Nat) (b : List Byte) (pkt : SyncPacket) (x y : Int), s.Inv → s.running = true →
  s.power.portsOn = true → port < 2 → s.ring.ports.length = 2 → s.underTest (2 + port) = false → s.originates = false →
  readSync b = some pkt → pkt.ringState = 1 → pkt.d1 ≠ 0xFFFFFFFF → pkt.d2 ≠ 0xFFFFFFFF →
  (s.ringPort 1).stamp = some (pkt.frame, x) → (s.ringPort 0).stamp = some (pkt.frame, y) →
  pkt.timeState ≠ 0 → pkt.stepNs = 0 → s.clock.state ≠ .holdover → s.clock.state ≠ .unset → s.followsTwin = false →
  s.isManager = false ∨ s.linkUp = false →
  let sum : Int := ((pkt.d1 : Int) + pkt.d2) / 2 - Config.passThroughPs
  let eps := (x + y - sum) / 2 - ((pkt.start * 1000 / 65536 : Nat) : Int)
  Answers (.syncPacketRx t port b) s fun s' =>
    let mine := pkt.owners.getD s.ident.node (0, 0)
    let serial := if s.ident.twin = .a then mine.1 else mine.2
    s'.obj 0x8100 1 = 1 ∧ s'.clock.state = .following ∧ s'.obj 0x2100 0x11 = clampInt (-2147483648) 2147483647 eps ∧
    s'.obj 0x8100 8 = clampInt 0 0xFFFFFFFE ((sum + x - y) / 2) ∧ s'.obj 0x8100 9 = clampInt 0 0xFFFFFFFE (sum - (sum + x - y) / 2) ∧
    s'.obj 0x8100 0x0A = (if s.isManager = true ∨ serial ≠ 0 ∧ serial = s.serial then 0 else if serial = 0 then 2 else 1) ∧
    s'.clock.leaderErr = (if pkt.estErr = 0xFFFFFFFF then none else some pkt.estErr)

/-- RING_TIME_LOSS (R159, R526): 10 ms without an intact sync packet put a follower of the rings into holdover. -/
def RingTimeLoss : Prop := ∀ (s : State) (t : Nat), s.Inv → s.running = true → s.clock.state = .following → s.followsTwin = false →
  (∀ p < 2, ∀ l ∈ (s.ringPort p).lastSync, 10000000 ≤ max s.now t - l) → (s.isManager = false ∨ s.linkUp = false) →
  Answers (.ringTimeLoss t) s fun s' => s'.clock.state = .holdover ∧ s'.clock.holdFrom = some (max s.now t) ∧ s'.obj 0x2100 5 = 0

/-- FEEDBACK_PACKET_PASS (R489, R513, R519, R520): as the packet passes the hop counter is incremented; a slot that is blank or holds this
node's serial number is filled with its own, any other keeps its 44 bytes. -/
def FeedbackPacketPass : Prop := ∀ (s : State) (t port : Nat) (pkt : List Byte) (twin : Twin), s.Inv → s.running = true →
  s.power.portsOn = true → port < 2 → s.underTest (2 + port) = false → s.originates = false → feedbackIntact pkt = true →
  (Seen s t).removes pkt twin = false → s.ownSlot < 66 → (∀ q, nth false s.diagn.wyCrc q = false) →
  Answers (.feedbackPacketPass t port pkt twin) s fun s' =>
    let own := slotBytes pkt s.ownSlot
    let mine := (field own 0 1 = 0 ∨ field own 4 4 = s.serial) ∧ s.ring.isOwner ≠ some false
    (∀ q ∈ s.leaves port, .ringForward q (passed s t pkt).1 ∈ s'.out) ∧
    field (passed s t pkt).1 1 1 = (field pkt 1 1 + 1) % 256 ∧
    (mine → slotBytes (passed s t pkt).1 s.ownSlot = ((Seen s t).ownFilled (field pkt 1 1)).bytes) ∧
    (¬ mine → part (passed s t pkt).1 (16 + 48 * s.ownSlot) 44 = part pkt (16 + 48 * s.ownSlot) 44)

/-- FEEDBACK_PACKET_RETURN (R513, R537, Table 14-9): every intact slot that came back stands in the node table; a duplicate is shown. -/
def FeedbackPacketReturn : Prop := ∀ (s : State) (t ringNo : Nat) (pkt : List Byte), s.Inv → s.running = true →
  s.originates = true → ringNo < 2 → feedbackIntact pkt = true → s.ring.slots.length = 66 →
  Answers (.feedbackPacketReturn t ringNo pkt) s fun s' => s'.bit 0x8100 0x0E 3 = fieldBit pkt 2 0 ∧
    s'.obj (0x8120 + s.ownSlot) 2 = s.serial ∧
    ∀ k < 66, ∀ q, readSlot pkt k = some q →
      nth none s'.ring.slots k = some (q, ((s.at t).mt : Int), max s.now t, s.nat 0x8100 2) ∧
      (k ≠ s.ownSlot → s'.obj (0x8120 + k) 2 = q.serial ∧ s'.obj (0x8120 + k) 4 = q.role ∧ (64 ≤ k → s'.obj (0x8120 + k) 1 = 1)) ∧
      s'.obj (0x8120 + k) 6 = q.demand

/-- OWNER_EXPIRY (R537): after 1.0 s without a slot of its owners a pair number is free. -/
def OwnerExpiry : Prop := ∀ (s : State) (t pair : Nat), s.running = true → s.originates = true → pair < 32 →
  s.ring.owners.length = 32 → (nth {} s.ring.owners pair).lastSeen + 1000000000 ≤ max s.now t →
  Answers (.ownerExpiry t pair) s fun s' => (nth {} s'.ring.owners pair).serialA = 0 ∧ (nth {} s'.ring.owners pair).serialB = 0 ∧
    ∀ k, k ≠ pair → nth {} s'.ring.owners k = nth {} s.ring.owners k

/-- RING_LINK_DOWN (R531): after 10 µs of LOS, a loss of synchronisation, or 2.0 ms without an intact packet the node wraps at the port and
says so. -/
def RingLinkDown : Prop := ∀ (s : State) (t port held : Nat) (cause : LinkCause), s.Inv → s.running = true → s.power.portsOn = true →
  port < 2 → s.ring.ports.length = 2 → (s.ringPort port).down = false → (cause = .los → 10000 ≤ held) →
  (cause = .silence → (∀ l, (s.ringPort port).lastPacket = some l → 2000000 ≤ max s.now t - l) ∧
    ((s.ringPort port).lastPacket = none → s.power.origin + 37000000 ≤ max s.now t)) →
  s.obj (0x8110 + port) 5 < 0xFFFFFFFF →
  Answers (.ringLinkDown t port cause held) s fun s' => (s'.ringPort port).down = true ∧ (s'.ringPort port).wrapped = true ∧
    s'.bit (0x8110 + port) 1 0 = decide (cause = .los) ∧ s'.bit (0x8110 + port) 1 1 = false ∧ s'.bit (0x8110 + port) 1 3 = true ∧
    s'.obj (0x8110 + port) 5 = s.obj (0x8110 + port) 5 + 1 ∧ s'.ringPort (1 - port) = s.ringPort (1 - port)

/-- RING_UNWRAP (R532): in the guard of a frame, after 100 consecutive frames with an intact command section. -/
def RingUnwrap : Prop := ∀ (s : State) (t port : Nat), s.Inv → s.running = true → s.power.portsOn = true →
  port < 2 → s.ring.ports.length = 2 → (s.ringPort port).wrapped = true → 100 ≤ (s.ringPort port).intactRun →
  s.underTest (2 + port) = false → (Seen s t).inGuard = true →
  Answers (.ringUnwrap t port) s fun s' => (s'.ringPort port).wrapped = false ∧ (s'.ringPort port).down = false ∧
    s'.bit (0x8110 + port) 1 1 = true ∧ s'.bit (0x8110 + port) 1 3 = false

/-- CONTAINER_PASS (R536): an empty container granted to this node leaves with the oldest waiting payload up to its size; one addressed
here is read, once in a frame; any other passes. -/
def ContainerPass : Prop := ∀ (s : State) (t port : Nat) (pkt : List Byte) (twin : Twin) (c : Container), s.Inv → s.running = true →
  s.power.portsOn = true → port < 2 → s.underTest (2 + port) = false → field pkt 0 1 = 0xA4 → readContainer pkt = some c →
  (∀ d b rest, c.slot = s.ownSlot → c.filled = false → s.originates = false → s.ring.queue = (d, b) :: rest →
    (∀ f x, s.ring.filledNow = some (f, x) → f ≠ s.nat 0x8100 2) →
    Answers (.containerPass t port pkt twin) s fun s' =>
      (∀ q ∈ s.leaves port, .ringForward q (Container.mk c.slot c.units true d 1 s.ring.sourceSeq
        (b.take (64 * c.units))).bytes ∈ s'.out) ∧
      s'.ring.queue = (if b.drop (64 * c.units) = [] then rest else (d, b.drop (64 * c.units)) :: rest)) ∧
  (c.filled = true → c.dest = s.ownSlot ∨ c.dest = 0xFF → c.slot ≠ s.ownSlot → c.kind = 1 →
    (s.ring.readNow.1 = s.nat 0x8100 2 → c.slot ∉ s.ring.readNow.2) →
    Answers (.containerPass t port pkt twin) s fun s' => .containerRead c.slot c.payload ∈ s'.out) ∧
  (c.slot ≠ s.ownSlot → c.dest ≠ s.ownSlot → c.dest ≠ 0xFF → (Seen s t).removes pkt twin = false →
    Answers (.containerPass t port pkt twin) s fun s' => ∀ q ∈ s.leaves port, .ringForward q (passed s t pkt).1 ∈ s'.out)

/-- SSI_BURST (R474 to R477): from the encoder's lead before the sample, once in a period, the active twin clocks one word out of it; the
angle is valid unless the line was low or the angle jumped, and is an input of the pair. -/
def SsiBurst : Prop := ∀ (s : State) (t e word : Nat) (low : Bool), s.Inv → s.running = true → s.isManager = false → e < 4 →
  s.srv.enc.length = 4 → s.obj (0x6020 + e) 1 = 1 → s.role = .active → s.obj (0x6020 + e) 9 < 0xFFFFFFFF →
  (Seen s t).leadCome e = true → (nth {} s.srv.enc e).done = false →
  Answers (.ssiBurst t e word low) s fun s' =>
    let a := s.ssiAngle e word
    let q : Encoder := nth {} s.srv.enc e
    let jumps : Bool := q.last.any fun l => decide ((s.nat (0x6020 + e) 7 : Rat) * 4294967296 / 36000 <
      ((wrapDiff a (((l : Int) + q.change) % 4294967296).toNat).natAbs : Rat))
    (nth {} s'.srv.enc e).reading = (if low || jumps then none else some a) ∧ (nth {} s'.srv.enc e).done = true ∧
    s'.obj (0x6020 + e) 9 = s.obj (0x6020 + e) 9 + (if low || jumps then 1 else 0) ∧
    .encClock e (s.nat (0x6020 + e) 2 + 1) (s.nat (0x6020 + e) 3) ∈ s'.out ∧
    ∃ p, s'.pair.pool = s.pair.pool ++ [p] ∧ p.source = 40 + e ∧ p.own = true ∧ p.stamp = (s.at t).stamp32 ∧
      p.data = leBytes 4 a ++ [if low then 1 else 0]

/-- ENABLE_TIMEOUT, DRIVE_DROP_TIMEOUT, STALE_HOLD_TIMEOUT, OFF_DELAY_EXPIRY (R494, Table 13-3): at a sample, of a thruster in use whose
state has not been stepped in it and which no row above takes. -/
def ThrusterTimeouts : Prop := ∀ (s : State) (t j : Nat), s.Inv → s.running = true → s.isManager = false → j < 2 →
  s.srv.thr.length = 2 → (Seen s t).sampleDue = true → (s.thr j).stepped = false → s.obj (0x6010 + j) 2 ≠ 0 →
  (Seen s t).sfaActs j = false →
  let now := max s.now t
  let dropped := (s.thr j).dropped now (s.nat (0x6010 + j) 0x13)
  (s.thrState j = 2 → (s.thr j).lasted now (s.nat (0x6010 + j) 0x12) = true →
    Answers (.enableTimeout t j) s fun s' => s'.thrState j = 8 ∧ s'.obj (0x6080 + j) 0x0E = 3) ∧
  (3 ≤ s.thrState j → s.thrState j ≤ 6 → dropped = true →
    Answers (.driveDropTimeout t j) s fun s' => s'.thrState j = 8 ∧ s'.obj (0x6080 + j) 0x0E = 4) ∧
  (s.thrState j = 5 → (s.thr j).lasted now (s.nat 0x6000 2) = true → dropped = false →
    Answers (.staleHoldTimeout t j) s fun s' => s'.thrState j = 6 ∧ (s'.thr j).ramp = (s.thr j).ys) ∧
  (s.thrState j = 4 ∧ (Seen s t).entryFresh = true ∧ s.newestAllocated j = false ∨ s.thrState j = 6 ∧ (Seen s t).entryFresh = false →
    (s.thr j).zeroed now (s.nat (0x6010 + j) 0x14) = true → dropped = false →
    Answers (.offDelayExpiry t j) s fun s' => s'.thrState j = 1)

/-- DRVFB_CHANGE (R499): a level that has held for 200 µs is accepted, and is an input of the pair. -/
def DrvfbChange : Prop := ∀ (s : State) (t j held : Nat) (e : Bool), s.running = true → s.isManager = false → j < 2 →
  s.srv.ownFb.length = 2 → 200000 ≤ held →
  Answers (.drvfbChange t j e held) s fun s' => nth false s'.srv.ownFb j = e ∧
    nth false s'.srv.ownFb (1 - j) = nth false s.srv.ownFb (1 - j) ∧
    s.sameObjects s' [okey 0x8010 8, okey 0x8011 8, okey 0x9200 7] ∧
    ∃ p, s'.pair.pool = s.pair.pool ++ [p] ∧ p.source = 44 + j ∧ p.own = true ∧ p.data = [if e then 1 else 0]

/-- DAC_FRAME (R498, R504): the drive enables follow the thruster states, and every port in use sends its words at its rate and mode. -/
def DacFrame : Prop := ∀ (s : State) (t : Nat), s.Inv → s.running = true → s.isManager = false → s.srv.thr.length = 2 →
  s.srv.framesDue = true → s.role = .active → s.srv.sampleAt + (tsNs (s.obj 0x6000 1) / 8 : Nat) ≤ (s.at t).mt →
  Answers (.dacFrame t) s fun s' => s'.srv.framesDue = false ∧
    ∀ j < 2, (s'.thr j).drven = (driveState (s.thrState j) && !(s.thr j).forced) ∧
      (s.nat (0x6050 + j) 1 ≠ 0 → .dac j (s.nat (0x6050 + j) 2) (s.nat (0x6050 + j) 3)
        ((List.range (s.nat (0x6050 + j) 1)).map (s.dacWord j)) ∈ s'.out)

/-- Every safe output has both channels on or both off, and is on only where R607 lets it. -/
def OutputsFollow (s : State) : Prop :=
  ∀ n < 8, s.bit (0x7030 + n) 5 0 = s.bit (0x7030 + n) 5 1 ∧ (s.bit (0x7030 + n) 5 0 = true → s.mayEnergise n = true)

/-- SAFE_INPUT_CHANGE (R603, R607, R610): a level that has held for the filter time, with no test pulse on its supply, is accepted; an
input whose supply is off reads de-energised; a channel of SF-A that goes off trips it; the outputs follow. -/
def SafeInputChange : Prop := ∀ (s : State) (t i held : Nat) (e : Bool), s.Inv → s.running = true → s.power.portsOn = true → i < 16 →
  (Seen s t).pulsing i = false → s.nat (0x7040 + i) 2 * 1000 ≤ held →
  Answers (.safeInputChange t i e held) s fun s' =>
    s'.bit (0x7040 + i) 3 0 = (e && !(match s.feedOf i with | some k => !s.ssOn k | none => false)) ∧ OutputsFollow s' ∧
    (∀ k, k ≠ i → k < 16 → s'.obj (0x7040 + k) 3 = s.obj (0x7040 + k) 3) ∧
    ∀ j < 2, s.sfaOn j = true → i ∈ s.sfaChannels j → e = false → s.power.safetyTested = true → s'.bit 0x7000 3 j = true

/-- SF_A_DISCREPANCY (R610): channels that differ for longer than 7010h+j:04 trip SF-A. -/
def SfaDiscrepancy : Prop := ∀ (s : State) (t j f : Nat), s.Inv → s.running = true → s.power.portsOn = true → j < 2 →
  s.saf.stops.length = 2 → s.sfaOn j = true → s.obj (0x7010 + j) 3 ≠ 255 → s.power.safetyTested = true →
  (nth {} s.saf.stops j).differFrom = some f → f + s.nat (0x7010 + j) 4 * 1000000 < max s.now t →
  Answers (.sfADiscrepancy t j) s fun s' => s'.bit 0x7000 3 j = true ∧ (nth {} s'.saf.stops j).discrepancy = true ∧ OutputsFollow s'

/-- SF_A_RESET_PULSE (R610): a reset pulse of 100 ms to 2,000 ms resets SF-A once its trigger is gone, and no other pulse does. -/
def SfaResetPulse : Prop := ∀ (s : State) (t j p : Nat), s.Inv → s.running = true → s.power.portsOn = true → j < 2 →
  s.sfaOn j = true → s.nat (0x7010 + j) 5 < 16 → s.bit (0x7040 + s.nat (0x7010 + j) 5) 3 2 = false →
  (nth {} s.saf.ins (s.nat (0x7010 + j) 5)).pulse = some p →
  (∀ c ∈ s.sfaChannels j, s.siOn c = true) → (nth {} s.saf.stops j).discrepancy = false → s.bit 0x7000 3 j = true →
  Answers (.sfAResetPulse t j) s fun s' => s'.bit 0x7000 3 j = !(decide (100000000 ≤ p) && decide (p ≤ 2000000000))

/-- TEST_PULSE (R602): in its slot of the frame, once, an energised supply is pulsed. -/
def TestPulse : Prop := ∀ (s : State) (t k : Nat) (before : List Bool) (drops : List (Option Nat)), s.running = true →
  s.power.portsOn = true → k < 16 → s.ssOn k = true → s.saf.pulseAt.length = 16 →
  let slot := (max s.now t - s.saf.framesFrom) / 5000000
  slot % 16 = k → (∀ f, nth none s.saf.pulseAt k = some f → (f - s.saf.framesFrom) / 5000000 ≠ slot) →
  Answers (.testPulse t k before drops) s fun s' => s'.out = [.ssPulse k] ∧ nth none s'.saf.pulseAt k = some (max s.now t) ∧ s'.od = s.od

/-- TEST_FRAME_CHECK (R604): once at the end of a frame; the second consecutive frame that fails a check latches the fault of the
input. -/
def TestFrameCheck : Prop := ∀ (s : State) (t i : Nat), s.Inv → s.running = true → s.power.portsOn = true → i < 16 →
  s.saf.ins.length = 16 → (∃ k, s.feedOf i = some k ∧ s.ssOn k = true) → (nth {} s.saf.ins i).tested = true →
  s.saf.judged < (max s.now t - s.saf.framesFrom) / 80000000 →
  Answers (.testFrameCheck t) s fun s' => s'.saf.judged = (max s.now t - s.saf.framesFrom) / 80000000 ∧
    ((nth {} s.saf.ins i).noDrop = true → 1 ≤ (nth {} s.saf.ins i).noDropRun →
      s'.bit (0x7040 + i) 3 4 = true ∧ s'.bit (0x7040 + i) 3 2 = true) ∧
    ((nth {} s.saf.ins i).cross = true → 1 ≤ (nth {} s.saf.ins i).crossRun →
      s'.bit (0x7040 + i) 3 3 = true ∧ s'.bit (0x7040 + i) 3 2 = true)

/-- SS_OVERLOAD (R605): above 0.30 A for 100 µs the supply goes off, and its inputs read de-energised. -/
def SsOverload : Prop := ∀ (s : State) (t k milliamps held : Nat), s.Inv → s.running = true → s.power.portsOn = true → k < 16 →
  s.saf.ssOff.length = 16 → s.ssOn k = true → 300 < milliamps → 100000 ≤ held →
  Answers (.ssOverload t k milliamps held) s fun s' => s'.ssOn k = false ∧ s'.bit 0x7050 2 k = true ∧
    nth none s'.saf.ssOff k = some (max s.now t) ∧ ∀ i < 16, s.feedOf i = some k → s'.bit (0x7040 + i) 3 0 = false

/-- SS_RETRY (R605): after 1.0 s it may be on again. -/
def SsRetry : Prop := ∀ (s : State) (t k f : Nat), s.running = true → s.power.portsOn = true → k < 16 →
  nth none s.saf.ssOff k = some f → f + 1000000000 ≤ max s.now t →
  Answers (.ssRetry t k) s fun s' => nth none s'.saf.ssOff k = none ∧ s'.ssOn k = (List.range 16).any fun i => decide (s.obj (0x7040 + i) 1 = k)

/-- Output `n` latched a fault: its cause, both channels off. -/
def SfeLatched (s' : State) (n cause : Nat) : Prop :=
  s'.bit (0x7030 + n) 5 4 = true ∧ s'.obj (0x7030 + n) 6 = cause ∧ s'.bit (0x7030 + n) 5 0 = false ∧
  s'.bit (0x7030 + n) 5 1 = false ∧ s'.alarms.any (fun a => a.1 = okey (0x7030 + n) 6) = true

/-- SO_CHANNEL_TEST (R608, R609): a channel that reads off before its pulse (02h), or on while off (01h), latches SF-E; an output in order
stays as it is. -/
def SoChannelTest : Prop := ∀ (s : State) (t n c : Nat) (first second rb1 rb2 : Bool), s.Inv → s.running = true →
  s.power.portsOn = true → n < 8 → c < 2 → s.power.safetyTested = true → s.obj (0x7030 + n) 1 ≠ 0 → s.bit (0x7030 + n) 5 4 = false →
  (Seen s t).soTestDue n c = true →
  let on := s.bit (0x7030 + n) 5 0
  let fails := if on then !first || second else first || second
  Answers (.soChannelTest t n c first second rb1 rb2) s fun s' =>
    (fails = true → SfeLatched s' n (if on = true ∧ first = false then 2 else 1) ∧ OutputsFollow s') ∧
    (on = true → .soPulse n c ∈ s'.out) ∧
    (on = true → fails = false → s'.bit (0x7030 + n) 5 0 = true ∧ s'.bit (0x7030 + n) 5 4 = false)

/-- SO_READBACK_TIMEOUT (R609): mirror contacts that have not dropped (04h) or closed (03h) in time latch SF-E. -/
def SoReadback : Prop := ∀ (s : State) (t n : Nat) (rb1 rb2 : Bool), s.Inv → s.running = true → s.power.portsOn = true → n < 8 →
  s.power.safetyTested = true → s.obj (0x7030 + n) 1 ≠ 0 → s.bit (0x7030 + n) 5 4 = false → s.obj (0x7030 + n) 2 ≠ 0 →
  let q := nth {} s.saf.outs n
  (if s.bit (0x7030 + n) 5 0 = true then
      q.onAt + s.nat (0x7030 + n) 4 * 1000000 ≤ max s.now t ∧ (rb1 = true ∨ s.obj (0x7030 + n) 2 = 2 ∧ rb2 = true)
    else q.offAt + s.nat (0x7030 + n) 3 * 1000000 ≤ max s.now t ∧ (rb1 = false ∨ s.obj (0x7030 + n) 2 = 2 ∧ rb2 = false)) →
  Answers (.soReadbackTimeout t n rb1 rb2) s fun s' =>
    SfeLatched s' n (if s.bit (0x7030 + n) 5 0 = true then 4 else 3) ∧ OutputsFollow s'

/-- SUPERVISION_FAULT (R621): a deviation, read or injected, beyond 5 %, or 1 % for a clock: every safe output goes off and the twin
declares a hard fault. -/
def SupervisionFault : Prop := ∀ (s : State) (t what rail dev : Nat), s.Inv → s.running = true → what < 3 →
  (if what = 0 then 50 else 10) < ((Seen s t).seenDeviation what rail dev).1 →
  Answers (.supervisionFault t what rail dev) s fun s' => s'.bit 0x7060 1 what = true ∧ s'.everyOutputOff = true ∧ s'.saf.sff = true ∧
    Out.twRelease ∈ s'.out ∧ (s.role = .active ∨ s.role = .standby → s'.role = .suspect ∨ s'.role = .offline)

/-- A message of type `k` has been received intact and waits to be taken. -/
def Waits (s : State) (k : TwKind) : Prop := ∃ n size, (k, n, size) ∈ s.pair.waiting

/-- No request of a client waits for the one before it. -/
def Unqueued (s : State) : Prop := ∀ k ∈ s.dict.clients, k.waiting = []

/-- The digests of the running cycle are not due to leave. -/
def DigestStays (s : State) (t : Nat) : Prop := ∀ d, s.pair.formed = some d → ((s.at t).mt : Int) < d.at'

/-- Code words that the decoder reads as a header and payload, lanes corrected or not. -/
def Spells (words : List (List Byte)) (header payload : List Byte) : Prop :=
  (∀ w ∈ words, readWord w ≠ .bad) ∧ words.map (fun w => (readWord w).data) = (messageWords header payload).map (·.take 16)

/-- TW_MESSAGE_RX (R543, R545, R546, R746): an intact new message speaks for the partner and waits to be taken, a heartbeat speaks and does
not wait; one with an uncorrectable word, or a CRC that does not fit, is counted and does neither. -/
def TwMessageRx : Prop := ∀ (s : State) (t lane : Nat) (words : List (List Byte)), s.Inv → s.running = true →
  s.power.portsOn = true → lane < 2 → s.pair.lanes.length = 2 → s.bit (0x8010 + lane) 1 3 = false → Unqueued s →
  (∀ (h : TwHeader) (payload : List Byte) (k : TwKind), h.kind < 256 → h.role < 8 → h.seqNo < 2 ^ 32 → h.count < 2 ^ 32 →
    h.highest < 2 ^ 32 → payload.length % 16 = 0 → payload.length / 16 < 65536 → Spells words (h.bytes (payload.length / 16)) payload →
    (nth {} s.pair.lanes lane).up = true → h.twin ≠ s.ident.twin → twKindOf h.kind = some k → s.pair.isNew h.seqNo = true →
    Answers (.twMessageRx t lane words) s fun s' => s'.pair.partnerRole = some (PairRole.ofCode h.role) ∧
      s'.pair.ackedByPartner = h.highest ∧ (nth {} s'.pair.lanes lane).lastHeard = max s.now t ∧
      s'.pair.waiting = (if k = .heartbeat then s.pair.waiting else s.pair.waiting ++ [(k, h.seqNo, 16 * words.length)])) ∧
  ((∃ w ∈ words, readWord w = .bad) →
    Answers (.twMessageRx t lane words) s fun s' => (nth {} s'.pair.lanes lane).intactRun = 0 ∧
      s'.pair.waiting = s.pair.waiting ∧ s'.pair.partnerRole = s.pair.partnerRole ∧ s'.role = s.role ∧
      s'.obj (0x8010 + lane) 7 = (s.obj (0x8010 + lane) 7 + 16 * words.length) % 18446744073709551616 ∧
      ((s.obj (0x8010 + lane) 4 + (words.filter fun w => decide (readWord w = .bad)).length ≤ 0xFFFFFFFF →
        s'.obj (0x8010 + lane) 4 = s.obj (0x8010 + lane) 4 + (words.filter fun w => decide (readWord w = .bad)).length))) ∧
  ((∀ w ∈ words, readWord w ≠ .bad) →
    field ((words.map fun w => (readWord w).data).getLastD []) 0 4 ≠ crc32c ((words.map fun w => (readWord w).data).dropLast.flatten) →
    Answers (.twMessageRx t lane words) s fun s' => (nth {} s'.pair.lanes lane).intactRun = 0 ∧
      s'.pair.waiting = s.pair.waiting ∧ s'.pair.partnerRole = s.pair.partnerRole ∧ s'.role = s.role ∧
      (s.obj (0x8010 + lane) 5 < 0xFFFFFFFF → s'.obj (0x8010 + lane) 5 = s.obj (0x8010 + lane) 5 + 1))

/-- Products of the partner's that are kept come from inputs no later than those of its pool. -/
def Pooled (s : State) (source which : Nat) : Prop := ∀ q ∈ s.gsol.products, q.own = false → q.which = which →
  ∃ p ∈ s.pair.pool, p.own = false ∧ p.source = source ∧ q.num ≤ p.seqNo

/-- INPUT_MESSAGE (R240, R471, R499, R565): an input of the partner joins the pool; a GNSS product of the partner is kept, and a worker
takes chain outputs, encoder angles and drive feedback from the twin whose copy the set takes. -/
def InputMessage : Prop := ∀ (s : State) (t : Nat), s.Inv → s.running = true → s.power.portsOn = true → Waits s .input →
  s.role ≠ .offline → s.role ≠ .watch →
  (∀ inp, Answers (.inputMessage t inp) s fun s' => s'.pair.waiting.length + 1 = s.pair.waiting.length) ∧
  (∀ port words d, port < 12 → Answers (.inputMessage t (.packet port words d)) s fun s' =>
    ∃ p ∈ s'.pair.pool, p.own = false ∧ p.source = port ∧ p.data = words.flatMap (leBytes 4)) ∧
  (∀ b, Pooled s 38 5 → Answers (.inputMessage t (.record b)) s fun s' =>
    ∃ p ∈ s'.gsol.products, p.own = false ∧ p.which = 5 ∧ p.record = b) ∧
  (∀ which r, which < 4 → Pooled s 36 which → Answers (.inputMessage t (.solution which r)) s fun s' =>
    ∃ p ∈ s'.gsol.products, p.own = false ∧ p.which = which ∧ p.instant = r.instant ∧ p.solution = some r) ∧
  (∀ st r, Pooled s 37 4 → Answers (.inputMessage t (.attitude st r)) s fun s' =>
    ∃ p ∈ s'.gsol.products, p.own = false ∧ p.which = 4 ∧ p.instant = r.instant ∧ p.heading = if st = 3 then some r.heading else none) ∧
  (∀ c v stamp, c < 24 → s.intake.chains.length = 24 → s.isManager = false → s.ownChain c = false →
    Answers (.inputMessage t (.chain c v stamp)) s fun s' => (s'.chain c).recent = (v, stamp) :: (s.chain c).recent) ∧
  (∀ e a low, e < 4 → s.srv.enc.length = 4 → s.isManager = false → s.ownIsActive = false →
    Answers (.inputMessage t (.encoder e a low)) s fun s' =>
      if low = true then (nth {} s'.srv.enc e).reading = none else (nth {} s'.srv.enc e).last = some a) ∧
  (∀ j e, j < 2 → s.srv.farFb.length = 2 → s.isManager = false →
    Answers (.inputMessage t (.drvfb j e)) s fun s' => nth false s'.srv.farFb j = e)

/-- SET_MESSAGE (R567, R568, R570): the standby builds and executes the set, answers with the digest of what it built, and stays in step only
where that is the digest of the set sent. -/
def SetMessage : Prop := ∀ (s u : State) (t : Nat) (cut : SetCut), s.Inv → s.running = true → s.power.portsOn = true →
  (Seen s t).takeWaiting .set = some u → s.role ≠ .active → s.workDue = true →
  let w := u.setWork cut
  let built : List Byte := sha256 (Config.recordBytes (w.setInts cut))
  Answers (.setMessage t cut) s fun s' => s'.pair.setHeld = true ∧ s'.pair.setAgreed = true ∧
    (∃ h, Out.tw .setAck h ((w.setCount : Int) :: built.map fun b => (b.toNat : Int)) ∈ s'.out) ∧
    (w.role = .standby → s'.role = if built = cut.digest then .standby else .suspect)

/-- SET_ACK_MESSAGE (R567): a digest equal to the one sent, for the running count, agrees the set, and no other does. -/
def SetAckMessage : Prop := ∀ (s : State) (t count : Nat) (digest : List Byte), s.running = true → s.power.portsOn = true →
  Waits s .setAck → s.role = .active →
  Answers (.setAckMessage t count digest) s fun s' =>
    s'.pair.setAgreed = (s.pair.setAgreed || (decide (count = s.setCount) && decide (digest = s.pair.setDigest))) ∧
    s'.pair.waiting.length + 1 = s.pair.waiting.length

/-- DIGEST_MESSAGE (R572): the partner's digests are held with the instant they came at; this twin's own leave at their instant. -/
def DigestMessage : Prop := ∀ (s : State) (t count st : Nat) (output : List Byte) (lists : List (Option Nat)), s.running = true →
  s.power.portsOn = true → Waits s .digest →
  Answers (.digestMessage t count output st lists) s fun s' =>
    s'.pair.partnerDigest = some { count := count, output := output, state := st, at' := (s.at t).mt } ∧
    s'.pair.waiting.length + 1 = s.pair.waiting.length ∧
    ∀ d, s.pair.formed = some d → d.at' ≤ ((s.at t).mt : Int) → s'.pair.ownDigest = some d ∧ s'.pair.formed = none

/-- GANDER_COMPARE (R572 to R574): equal digests count a match; different ones a divergence, which ends the STANDBY role; a digest that has
not come by the deadline counts a miss, and the tenth in a row on a link that is up ends it too. -/
def GanderCompare : Prop := ∀ (s : State) (t : Nat) (own : DigestRec), s.Inv → s.running = true → s.power.portsOn = true →
  s.digestDue = true → (Seen s t).closeCycle.pair.ownDigest = some own →
  (∀ p, s.pair.partnerDigest = some p → p.count = own.count → p.at' ≤ own.deadline →
    Answers (.ganderCompare t) s fun s' => s'.pair.ownDigest = none ∧ s'.pair.partnerDigest = none ∧
      (p.output = own.output → p.state = own.state → s'.role = s.role ∧ s'.pair.joinMatches = s.pair.joinMatches + 1 ∧
        (s.obj 0x8020 2 < 0xFFFFFFFF → s'.obj 0x8020 2 = s.obj 0x8020 2 + 1)) ∧
      (p.output ≠ own.output ∨ p.state ≠ own.state → s'.obj 0x8020 2 = 0 ∧ s'.obj 0x8020 6 = own.count ∧
        (s.role = .standby → s.pair.partnerFaultNow = false → s'.role = .suspect))) ∧
  ((∀ p, s.pair.partnerDigest = some p → p.count ≠ own.count ∨ own.deadline < p.at') →
    Answers (.ganderCompare t) s fun s' => s'.pair.ownDigest = none ∧ s'.pair.partnerDigest = none ∧
      (s.obj 0x8020 5 < 0xFFFFFFFF → s'.obj 0x8020 5 = s.obj 0x8020 5 + 1) ∧
      s'.role = if 9 ≤ s.pair.misses ∧ s.linkUp = true ∧ s.role = .standby then .suspect else s.role)

/-- TIME_MESSAGE_TW (R122, R157, R550, R791): the round trip of the lane; a twin whose partner is ACTIVE follows it, over lane 0 where that is
up: 2100h:11 shows the offset and 2100h:05 the active twin; one in holdover plans a step to its time. -/
def TimeMessageTw : Prop := ∀ (s : State) (t lane : Nat) (there back : Int) (err : Option Nat), s.Inv → s.running = true →
  s.power.portsOn = true → lane < 2 → (nth {} s.pair.lanes lane).up = true → Waits s .time →
  Answers (.timeMessageTw t lane there back err none) s fun s' =>
    s'.obj (0x8010 + lane) 9 = clampInt 0 0xFFFFFFFE (there + back) ∧
    (s.pair.partnerRole = some .active → s.role ≠ .active → lane = 0 ∨ (nth {} s.pair.lanes 0).up = false →
      s'.clock.leaderErr = err ∧ s'.obj 0x2100 0x11 = clampInt (-2147483648) 2147483647 ((there - back) / 2) ∧
      if s.clock.state = .holdover then s'.clock.state = .holdover ∧ s'.clock.step.isSome = true
      else s'.clock.state = .following ∧ s'.obj 0x2100 5 = 4)

/-- TIME_MESSAGE_SEND (R133, R550, R791): the active twin's stamp, its estimated error, and the step it announces. -/
def TimeMessageSend : Prop := ∀ (s : State) (t : Nat), s.running = true → s.power.portsOn = true → s.role = .active →
  s.linkUp = true → s.pair.lastTime + 1000000 ≤ max s.now t →
  Answers (.timeMessageSend t) s fun s' => s'.pair.lastTime = max s.now t ∧
    ∃ h tail, Out.tw .time h (((Seen s t).mt : Int) :: (Seen s t).estErrObj :: tail) ∈ s'.out ∧
      ∀ a sec, s.clock.step = some { amountNs := a, atSec := some sec } → tail = [a, (sec : Int)]

/-- HARD_FAULT_NOTICE and PARTNER_DEMAND (R575, R601). -/
def ControlMessages : Prop := ∀ (s : State) (t demands : Nat), s.Inv → s.running = true → s.power.portsOn = true → Waits s .control →
  (Answers (.hardFaultNotice t) s fun s' => s'.pair.partnerFaultNow = true) ∧
  (Answers (.partnerDemand t demands) s fun s' => s'.obj 0x7000 7 = (demands % 256 : Nat) ∧ OutputsFollow s' ∧
    ∀ j < 2, s.sfaOn j = true → s.obj (0x7010 + j) 7 = 1 → demands.testBit j = true → s.bit 0x7000 7 j = false → s'.bit 0x7000 3 j = true)

/-- HEARTBEAT_SEND (R544): on a lane that has sent nothing for 10 µs. -/
def HeartbeatSend : Prop := ∀ (s : State) (t lane : Nat), s.Inv → s.running = true → s.power.portsOn = true → lane < 2 →
  s.pair.lanes.length = 2 → (nth {} s.pair.lanes lane).lastSent + 10000 ≤ max s.now t → s.bit (0x8010 + lane) 1 3 = false → DigestStays s t →
  let n := (s.pair.sendSeq + 1) % 4294967296
  Answers (.heartbeatSend t lane) s fun s' => Out.tw .heartbeat (s.twHeader .heartbeat n 0) [] ∈ s'.out ∧ s'.pair.sendSeq = n ∧
    (nth {} s'.pair.lanes lane).lastSent = max s.now t ∧
    s'.obj (0x8010 + lane) 8 = (s.obj (0x8010 + lane) 8 + 32) % 18446744073709551616

/-- RELEASE and TAKE_OVER_I_FALL (R549, R552, R576): two RELEASE blocks in a row, and a fall of the line that had been high for 1.0 ms, each
decide a takeover in STANDBY; one block, or a shorter pulse, does not. -/
def TakeoverTriggers : Prop := ∀ (s : State) (t : Nat), s.running = true → s.power.portsOn = true → s.role = .standby →
  s.pair.decided = none →
  (∀ lane blocks, lane < 2 → (nth {} s.pair.lanes lane).blockLock = true →
    Answers (.release t lane blocks) s fun s' => s'.pair.decided = if 2 ≤ blocks then some (max s.now t, 3) else none) ∧
  (Answers (.takeOverIFall t) s fun s' => s'.pair.takeIn = false ∧ s'.pair.decided =
    if s.pair.takeIn = true ∧ s.pair.takeSince + 1000000 ≤ max s.now t then some (max s.now t, 2) else none)

/-- TAKE_OVER_I_RISE (R559): the claim wait starts again. -/
def TakeOverIRise : Prop := ∀ (s : State) (t : Nat), s.running = true → s.power.portsOn = true →
  Answers (.takeOverIRise t) s fun s' => s'.pair.takeIn = true ∧ s'.pair.waitFrom = max s.now t ∧ s'.role = s.role

/-- LANE_DOWN (R544, R554, R589): the lane and its counter; with the last lane the partner is unknown, and a STANDBY twin whose partner is
present by its line or on the rings becomes WATCH. -/
def LaneDown : Prop := ∀ (s : State) (t lane held : Nat) (cause : LinkCause) (alive : Bool), s.Inv → s.running = true →
  s.power.portsOn = true → lane < 2 → s.pair.lanes.length = 2 → (nth {} s.pair.lanes lane).up = true →
  (cause = .silence → (nth {} s.pair.lanes lane).lastHeard + 30000 ≤ max s.now t) → (cause = .los → 10000 ≤ held) →
  s.obj (0x8010 + lane) 6 < 0xFFFFFFFF →
  Answers (.laneDown t lane cause held alive) s fun s' => (nth {} s'.pair.lanes lane).up = false ∧ s'.bit (0x8010 + lane) 1 2 = false ∧
    s'.obj (0x8010 + lane) 6 = s.obj (0x8010 + lane) 6 + 1 ∧ s'.pair.aliveIn = alive ∧
    ((nth {} s.pair.lanes (1 - lane)).up = false → s'.pair.partnerRole = none ∧ s'.obj 0x8000 2 = 0xFF ∧ s'.dict.acks = [] ∧
      (s.role = .standby → s'.role = if alive = true ∨ (Seen s t).partnerOnRing = true then .watch else .standby)) ∧
    ((nth {} s.pair.lanes (1 - lane)).up = true → s'.role = s.role)

/-- LANE_UP (R20, R558, R560): the lane is up; a module whose straps do not fit goes OFFLINE; the first lane resolves the roles by the role
that the partner's headers report. -/
def LaneUp : Prop := ∀ (s : State) (t lane ns : Nat) (far : FarStraps) (partner : Option PairRole), s.Inv → s.running = true →
  s.power.portsOn = true → lane < 2 → s.pair.lanes.length = 2 → (nth {} s.pair.lanes lane).up = false →
  100 ≤ (nth {} s.pair.lanes lane).intactRun → s.bit (0x8010 + lane) 1 3 = false →
  let l : Lane := nth {} s.pair.lanes lane
  let p := l.partnerRole partner
  let fits := far.duty = s.ident.duty ∧ far.twin ≠ s.ident.twin ∧ (∀ h, l.heard = some h → h.1 ≠ s.ident.twin) ∧
    (s.isManager = true ∨ far.node = s.ident.node)
  Answers (.laneUp t lane far partner ns) s fun s' => (nth {} s'.pair.lanes lane).up = true ∧
    (¬ fits → s'.role = .offline ∧ s'.pair.offlineHeld = true ∧ s'.ident.held = (s.ident.held || !s.ident.mismatch)) ∧
    (fits → s.linkUp = false → s.resolvable = true → p = some .active → s'.role = .slipway ∧ s'.obj 0x8000 5 = 1) ∧
    (fits → s.linkUp = false → s.resolvable = true → p = none ∨ p = some .offline ∨ p = some .suspect →
      s'.role = (if s.preferred = true ∨ p ≠ none then .active else .slipway) ∧ s'.obj 0x8000 5 = 1) ∧
    (fits → s.linkUp = false → s.role = .active → p = some .active →
      s'.role = if max s.now t - s.pair.activeSince < ns ∨ (max s.now t - s.pair.activeSince = ns ∧ s.preferred = false)
        then .slipway else .active)

/-- PARTNER_GONE (R554, R576, Table 15-5): 1.0 ms without link, line and ring: a takeover is decided in STANDBY; a joining twin, and a SUSPECT
one that has passed its self-test, becomes ACTIVE. -/
def PartnerGone : Prop := ∀ (s : State) (t low : Nat), s.Inv → s.running = true → s.power.portsOn = true → s.linkUp = false →
  1000000 ≤ low → 4 ≤ (Seen s t).ringGap → s.pair.lostAt + 1000000 ≤ max s.now t →
  Answers (.partnerGone t low) s fun s' => s'.pair.aliveIn = false ∧
    (s.role = .standby → s.pair.decided = none → s'.pair.decided = some (max s.now t, 4)) ∧
    (s.role = .slipway ∨ (s.role = .suspect ∧ s.pair.selfTest = .passed) → s'.role = .active ∧ s'.obj 0x8000 5 = 4 ∧ s'.held = [])

/-- STARTUP_WAIT_EXPIRY (R558): a partner that is present leads to WATCH, else the twin may claim. -/
def StartupWait : Prop := ∀ (s : State) (t : Nat) (alive : Bool), s.Inv → s.running = true → s.power.portsOn = true →
  s.resolvable = true → s.linkUp = false → 35000000 + s.startWaitNs + s.power.origin ≤ max s.now t →
  Answers (.startupWaitExpiry t alive) s fun s' =>
    (alive = true ∨ (Seen s t).partnerOnRing = true → s'.role = .watch ∧ s'.obj 0x8000 5 = 1) ∧
    (alive = false → (Seen s t).partnerOnRing = false →
      if s.pair.takeIn = false ∧ s.pair.waitFrom + (if s.preferred = true then 1 else 2) * s.startWaitNs ≤ max s.now t
      then s'.role = .active else s'.role = .offline ∧ s'.pair.claiming = true)

/-- CLAIM_WAIT_EXPIRY (R559): the wait over with TAKE_OVER_I low, the twin is ACTIVE and says so on its line. -/
def ClaimWait : Prop := ∀ (s : State) (t : Nat), s.Inv → s.running = true → s.power.portsOn = true →
  s.role = .watch ∨ (s.resolvable = true ∧ s.pair.claiming = true) → s.pair.takeIn = false →
  s.pair.waitFrom + (if s.preferred = true then 1 else 2) * s.startWaitNs ≤ max s.now t →
  Answers (.claimWaitExpiry t) s fun s' => s'.role = .active ∧ s'.pair.takeOut = true ∧ s'.obj 0x8000 1 = 3 ∧ s'.obj 0x8000 5 = 1

/-- BOTH_ACTIVE_CONFLICT (R560): the twin that 8000h:03 does not name gives way to WATCH. -/
def BothActive : Prop := ∀ (s : State) (t : Nat), s.Inv → s.running = true → s.power.portsOn = true → s.role = .active →
  s.linkUp = false → s.pair.takeIn = true →
  max s.pair.takeSince (max s.pair.lostAt s.pair.activeSince) + 1000000 ≤ max s.now t →
  Answers (.bothActiveConflict t) s fun s' => s'.bit 0x8000 0x0C 7 = true ∧
    s'.role = (if s.preferred = true then .active else .watch) ∧ (s.preferred = false → s'.obj 0x8000 5 = 0x0B)

/-- HARD_FAULT (R561, R562, R575): every safe output off, RELEASE sent, TAKE_OVER_O low; the role of Table 15-5, and OFFLINE for the
third fault within 24 h. -/
def HardFault : Prop := ∀ (s : State) (t : Nat) (d : FaultDetector), s.Inv → s.running = true →
  (∀ p, d = .lockstep p → p ≤ 5) → s.role = .active ∨ s.role = .standby →
  Answers (.hardFault t d) s fun s' => Out.twRelease ∈ s'.out ∧ s'.everyOutputOff = true ∧ s'.pair.takeOut = false ∧
    s'.pair.hardFaultNow = true ∧ (s'.role = .suspect ∨ s'.role = .offline) ∧
    (3 ≤ s'.pair.faultTimes.length → s'.role = .offline ∧ s'.pair.offlineHeld = true) ∧
    (s'.pair.faultTimes.length < 3 → s'.role = if s.role = .active ∧ s.pair.partnerRole ≠ some .standby then .offline else .suspect)

/-- SUSPECT_SELF_TEST_DONE (R563). -/
def SelfTestDone : Prop := ∀ (s : State) (t : Nat) (ok : Bool), s.Inv → s.running = true → s.pair.selfTest = .running →
  Answers (.suspectSelfTestDone t ok) s fun s' => if ok then s'.pair.selfTest = .passed ∧ s'.pair.selfTestAt = max s.now t ∧ s'.role = s.role
    else s'.role = .offline ∧ s'.pair.offlineHeld = true

/-- AUTO_REJOIN (R563): 60 s after a passed self-test, with rejoins left, an ACTIVE partner on the link takes the twin into SLIPWAY. -/
def AutoRejoin : Prop := ∀ (s : State) (t : Nat), s.Inv → s.running = true → s.power.portsOn = true → s.mayRejoin = true →
  s.pair.selfTestAt + 60000000000 ≤ max s.now t → s.linkUp = true → s.pair.partnerRole = some .active →
  (s.pair.rejoinTimes.filter fun f => decide (max s.now t < f + 86400000000000)).length < s.nat 0x8000 7 →
  Answers (.autoRejoin t) s fun s' => s'.role = .slipway ∧ s'.obj 0x8000 5 = 0x0A ∧ s'.pair.rejoinTimes.head? = some (max s.now t)

/-- JOIN_REQUEST (R586): the transfer starts with phase 1 and the configuration. -/
def JoinRequest : Prop := ∀ (s : State) (t : Nat), s.running = true → s.power.portsOn = true → Waits s .control → s.role = .active →
  Answers (.joinRequest t) s fun s' => s'.pair.slipSend = 2 ∧ s'.pair.partnerLive = false ∧ ∃ h, Out.tw .slipway h (1 :: s.configInts) ∈ s'.out

/-- Phase of a block (Table 15-9). -/
def phaseOf : SlipBlock → Nat
  | .config .. => 1 | .dynamic .. => 2 | .catchUp .. => 3 | .inStep => 4

/-- SLIPWAY_MESSAGE (R586, R587, Table 15-9): the phase, the progress and the bytes; the configuration brings the side stores, the dynamic
state is adopted with the drives off, and phase 4 begins with no comparison counted. -/
def SlipwayMessage : Prop := ∀ (s : State) (t p n size : Nat) (b : SlipBlock), s.Inv → s.running = true → s.power.portsOn = true →
  (s.pair.waiting.find? fun w => decide (w.1 = TwKind.slipway)) = some (.slipway, n, size) → s.role = .slipway → s.obj 0x8040 1 ≠ 0 →
  Answers (.slipwayMessage t b p) s fun s' => s'.obj 0x8040 1 = phaseOf b ∧ s'.obj 0x8040 2 = (min 100 p : Nat) ∧
    s'.obj 0x8040 6 = (s.obj 0x8040 6 + size) % 18446744073709551616 ∧
    (∀ objects blobs sides cur prev, b = .config objects blobs sides cur prev → s'.mram.sides = sides) ∧
    (∀ r, b = .dynamic r → s'.est = r.est ∧ s'.ctl = r.ctl ∧ s'.trk = r.trk ∧ s'.align = r.align ∧ s'.alc = r.alc ∧
      ∀ q ∈ s'.srv.thr, q.drven = false) ∧
    (b = .inStep → s'.pair.joinMatches = 0)

/-- SLIPWAY_COMPLETE (R586): ten matching comparisons in phase 4 make a STANDBY twin. -/
def SlipwayComplete : Prop := ∀ (s : State) (t : Nat), s.Inv → s.running = true → s.power.portsOn = true → s.role = .slipway →
  s.obj 0x8040 1 = 4 → 10 ≤ s.pair.joinMatches → s.obj 0x8040 4 < 0xFFFFFFFF →
  Answers (.slipwayComplete t) s fun s' => s'.role = .standby ∧ s'.obj 0x8000 5 = 9 ∧ s'.obj 0x8040 1 = 0 ∧ s'.obj 0x8040 2 = 100 ∧
    s'.obj 0x8040 4 = s.obj 0x8040 4 + 1

/-- SLIPWAY_FAIL (R588): counted; the third consecutive failure ends in OFFLINE. -/
def SlipwayFail : Prop := ∀ (s : State) (t : Nat), s.Inv → s.running = true → s.power.portsOn = true → s.role = .slipway →
  s.obj 0x8040 1 ≠ 0 → s.linkUp = false ∨ s.pair.partnerRole ≠ some .active ∨ s.pair.slipDiverged = true →
  s.obj 0x8040 5 < 0xFFFFFFFF →
  Answers (.slipwayFail t) s fun s' => s'.obj 0x8040 1 = 0 ∧ s'.obj 0x8040 5 = s.obj 0x8040 5 + 1 ∧
    s'.pair.slipFails = s.pair.slipFails + 1 ∧ s'.role = (if 3 ≤ s.pair.slipFails + 1 then .offline else .slipway)

/-- SLIPWAY_RETRY (R588): 10 s later the twin asks again. -/
def SlipwayRetry : Prop := ∀ (s : State) (t f : Nat), s.Inv → s.running = true → s.power.portsOn = true → s.role = .slipway →
  s.pair.slipFailedAt = some f → f + 10000000000 ≤ max s.now t → s.linkUp = true → s.pair.partnerRole = some .active →
  Answers (.slipwayRetry t) s fun s' => s'.obj 0x8040 1 = 1 ∧ s'.obj 0x8040 2 = 0 ∧ s'.pair.slipFailedAt = none ∧
    ∃ h, Out.tw .control h [1] ∈ s'.out

/-- DRILL_DUE (R581, R582): in a second of the schedule, once, a drill is due. -/
def DrillDue : Prop := ∀ (s : State) (t : Nat), s.running = true → s.role = .active → s.nat 0x8030 1 ≠ 0 → s.clock.state ≠ .unset →
  let sec : Nat := (s.at t).mt / 1000000000
  ((sec : Int) - s.obj 0x8030 2) % (s.nat 0x8030 1 * 3600 : Nat) = 0 → s.pair.lastDrillMark < sec →
  Answers (.drillDue t) s fun s' => s'.pair.drillDueAt = some (s.pair.drillDueAt.getD (s.at t).mt) ∧ s'.pair.lastDrillMark = sec

/-- The frames of a produced message (R637, R640): under the duplicate scheme the same one on both networks with the trailer of each, else
one under its scheme. -/
def Produced (s' : State) (s : State) (k n : Nat) (payload : List Byte) : Prop :=
  let link := s.nat (0x7100 + k) 3
  let peer := s.nat (0x7100 + k) 4
  let port := s.nat (0x7100 + k) 5
  match s.producerScheme k with
  | 0 =>
    let f := safeHeader 0x51 link payload.length 0 n ++ payload
    let size := max 46 (28 + f.length + 6)
    ∀ net < 2, Out.safeFrame net peer port f (prpTrailer (s.conn k).prp (10 + net) size) ∈ s'.out
  | sch + 1 => Out.safeFrame (sch % 2) peer port
      (checkedFrame 0x52 link (if 2 ≤ sch then 2 else 0) n (s.nat (0x7100 + k) 2) payload) [] ∈ s'.out

/-- SAFE_PRODUCE (R632, R633): at each production instant one message, with the sequence number of the instant. -/
def SafeProduce : Prop := ∀ (s : State) (t k inst : Nat), s.Inv → s.running = true → s.power.portsOn = true → k < 16 →
  s.net.conns.length = 16 → s.connDir k = 1 → s.clock.state ≠ .unset → productionInstant (s.connPeriod k) (s.at t).mt = some inst →
  (∀ l ∈ (s.conn k).produced, l < inst) →
  Answers (.safeProduce t k) s fun s' => (s'.conn k).produced = some inst ∧
    s'.nat (0x7120 + k) 3 = productionSeq (s.connPeriod k) inst ∧
    Produced s' (s.at t) k (productionSeq (s.connPeriod k) inst) (((s.at t).connEntries k).flatMap (s.at t).producedBytes)

/-- SAFE_FRAME_RX (R638, R643): a Birrath message with the right check value and the next sequence numbers within bound is accepted;
one with a wrong check value is counted and is not. -/
def SafeFrameRx : Prop := ∀ (s : State) (t net peer k link n l : Nat) (frame payload trailer : List Byte), s.Inv → s.running = true →
  s.power.portsOn = true → net < 2 → s.net.conns.length = 16 → splitFrame frame = some (0x52, link, 0, n, payload) →
  s.connOf 2 peer link = some k →
  Answers (.safeFrameRx t net peer false frame trailer) s fun s' =>
    (checkOk frame (s.nat (0x7100 + k) 2) = false → (s'.conn k).lastSeq = (s.conn k).lastSeq ∧ (s'.conn k).lastAt = (s.conn k).lastAt ∧
      (s.obj (0x7120 + k) 0x0A < 0xFFFFFFFF → s'.obj (0x7120 + k) 0x0A = s.obj (0x7120 + k) 0x0A + 1)) ∧
    (checkOk frame (s.nat (0x7100 + k) 2) = true → payload.length = entriesBytes (s.connEntries k) → (s.conn k).lost = false →
      (s.conn k).lastSeq = some l → 0 < (n + 65536 - l) % 65536 →
      (n + 65536 - l) % 65536 ≤ (s.connExpect k + s.connPeriod k - 1) / s.connPeriod k →
      (s'.conn k).lastSeq = some n ∧ (s'.conn k).lastAt = max s.now t ∧ s'.obj (0x7120 + k) 1 = (2 + net : Nat) ∧ s'.obj (0x7120 + k) 3 = n)

/-- SAFE_FRAME_RX of a duplicate pair (R637, R642, R644): a copy with the trailer of its network waits alone; with the other network's copy
of the same number in the window, equal byte for byte, it is one message, accepted; one that differs is counted and neither is taken;
a copy without a trailer is none. -/
def SafeCopyRx : Prop := ∀ (s : State) (t net peer k link n : Nat) (frame payload trailer : List Byte), s.Inv → s.running = true →
  s.power.portsOn = true → net < 2 → s.net.conns.length = 16 → splitFrame frame = some (0x51, link, 0, n, payload) →
  s.connOf 2 peer link = some k →
  Answers (.safeFrameRx t net peer false frame trailer) s fun s' =>
    (prpSeqOf net trailer = none → (s'.conn k).copies = (s.conn k).copies ∧ (s'.conn k).lastSeq = (s.conn k).lastSeq) ∧
    (∀ prp, prpSeqOf net trailer = some prp → (∀ c ∈ (s.conn k).copies, c.prp ≠ prp) →
      (s'.conn k).copies = (s.conn k).copies ++ [{ net := net, prp := prp, frame := frame, at' := max s.now t }] ∧
      (s'.conn k).lastSeq = (s.conn k).lastSeq) ∧
    (∀ prp c, prpSeqOf net trailer = some prp → (s.conn k).copies = [c] → c.prp = prp → c.net ≠ net →
      max s.now t ≤ c.at' + s.nat 0x7140 2 * 1000 → (s'.conn k).copies = [] ∧
      (c.frame ≠ frame → (s'.conn k).lastSeq = (s.conn k).lastSeq ∧
        (s.obj (0x7120 + k) 6 < 0xFFFFFFFF → s'.obj (0x7120 + k) 6 = s.obj (0x7120 + k) 6 + 1)) ∧
      (∀ l, c.frame = frame → payload.length = entriesBytes (s.connEntries k) → (s.conn k).lost = false → (s.conn k).lastSeq = some l →
        0 < (n + 65536 - l) % 65536 → (n + 65536 - l) % 65536 ≤ (s.connExpect k + s.connPeriod k - 1) / s.connPeriod k →
        (s'.conn k).lastSeq = some n ∧ (s'.conn k).lastAt = max s.now t ∧ s'.obj (0x7120 + k) 1 = 1 ∧ s'.obj (0x7120 + k) 3 = n))

/-- PAIRING_WINDOW_END (R645): copies whose window has ended wait no longer. -/
def PairingWindowEnd : Prop := ∀ (s : State) (t k : Nat), s.Inv → s.running = true → s.power.portsOn = true → k < 16 →
  s.net.conns.length = 16 → s.connDir k = 2 →
  Answers (.pairingWindowEnd t k) s fun s' =>
    (s'.conn k).copies = (s.conn k).copies.filter (fun c => !decide (c.at' + s.nat 0x7140 2 * 1000 ≤ max s.now t)) ∧
    ∀ c, (s.conn k).copies = [c] → c.net < 2 → c.at' + s.nat 0x7140 2 * 1000 ≤ max s.now t → s.obj (0x7120 + k) 2 = 0 →
      s.obj (0x7120 + k) (8 - c.net) < 0xFFFFFFFF → s'.obj (0x7120 + k) (8 - c.net) = s.obj (0x7120 + k) (8 - c.net) + 1

/-- CHANNEL_REPORT_RX (R638, R641): an intact report names the scheme. -/
def ChannelReportRx : Prop := ∀ (s : State) (t net peer k link flags n : Nat) (frame body : List Byte), s.Inv → s.running = true →
  s.power.portsOn = true → net < 2 → s.net.conns.length = 16 → splitFrame frame = some (0x53, link, flags, n, body) →
  s.connOf 1 peer link = some k → checkOk frame (reportIdentity (s.nat (0x7100 + k) 2)) = true → body.length = 4 →
  (body.getD 0 0).toNat ≤ 4 →
  Answers (.channelReportRx t net peer frame) s fun s' => (s'.conn k).report = some ((body.getD 0 0).toNat, max s.now t) ∧
    s'.obj (0x7120 + k) 2 = (body.getD 0 0).toNat

/-- CHANNEL_REPORT_SEND (R639, R641): a report that is due goes out on every network that is up. -/
def ChannelReportSend : Prop := ∀ (s : State) (t k : Nat), s.Inv → s.running = true → s.power.portsOn = true → k < 16 →
  s.net.conns.length = 16 → s.connDir k = 2 → ((s.conn k).reportDue = true ∨ (s.conn k).reportSent + s.connPeriod k ≤ max s.now t) →
  Answers (.channelReportSend t k) s fun s' => (s'.conn k).reportSent = max s.now t ∧ (s'.conn k).reportDue = false ∧
    ∃ n body, body.length = 4 ∧ (body.getD 0 0).toNat = s.nat (0x7120 + k) 2 % 256 ∧
      ∀ net < 2, s.netUp net = true → Out.safeFrame net (s.nat (0x7100 + k) 4) (s.nat (0x7100 + k) 5)
        (checkedFrame 0x53 (s.nat (0x7100 + k) 3) 0 n (reportIdentity (s.nat (0x7100 + k) 2)) body) [] ∈ s'.out

/-- PROBE_SEND (R640): an empty frame with flag 0 on the other network; its sequence number is a free value. -/
def ProbeSend : Prop := ∀ (s : State) (t k : Nat), s.running = true → s.power.portsOn = true → k < 16 →
  s.net.conns.length = 16 → s.connDir k = 1 → (s.at t).producerScheme k ≠ 0 →
  s.netUp (if ((s.at t).producerScheme k - 1) % 2 = 0 then 1 else 0) = true → (s.conn k).probeSent + 1000000000 ≤ max s.now t →
  Answers (.probeSend t k) s fun s' => (s'.conn k).probeSent = max s.now t ∧
    ∃ n, s'.out = [.safeFrame (if ((s.at t).producerScheme k - 1) % 2 = 0 then 1 else 0) (s.nat (0x7100 + k) 4) (s.nat (0x7100 + k) 5)
      (checkedFrame 0x52 (s.nat (0x7100 + k) 3) 1 n (s.nat (0x7100 + k) 2) []) []]

/-- CONNECTION_LOST (R648). -/
def ConnectionLost : Prop := ∀ (s : State) (t k : Nat), s.Inv → s.running = true → s.power.portsOn = true → k < 16 →
  s.net.conns.length = 16 → s.connDir k = 2 → (s.conn k).lost = false → (s.conn k).lastAt + s.connExpect k < max s.now t →
  s.obj (0x7120 + k) 0x0B < 0xFFFFFFFF →
  Answers (.connectionLost t k) s fun s' => (s'.conn k).lost = true ∧ s'.bit (0x7120 + k) 4 1 = true ∧
    s'.obj (0x7120 + k) 0x0B = s.obj (0x7120 + k) 0x0B + 1

/-- PRP_SUPERVISION_SEND (R639): both networks. -/
def PrpSupervision : Prop := ∀ (s : State) (t : Nat), s.running = true → s.power.portsOn = true →
  s.net.supervisionAt + s.nat 0x7140 4 * 1000000 ≤ max s.now t →
  Answers (.prpSupervisionSend t) s fun s' => s'.out = [.prpSupervision 0, .prpSupervision 1] ∧ s'.net.supervisionAt = max s.now t

/-- NET_LINK_CHANGE (R641, R645): the status; a consumer leaves a network that went down for the other. -/
def NetLinkChange : Prop := ∀ (s : State) (t net : Nat) (up : Bool), s.Inv → s.running = true → s.power.portsOn = true → net < 2 →
  Answers (.netLinkChange t net up) s fun s' => s'.netUp net = up ∧ s'.netUp (1 - net) = s.netUp (1 - net) ∧
    ∀ k < 16, s.connDir k = 2 → up = false → s.nat (0x7120 + k) 2 = 0 ∨ s.nat (0x7120 + k) 2 = 1 + net →
      s'.nat (0x7120 + k) 2 = 2 - net

/-- RECORD_ACCEPT (R706, R709, R714): the item whose transfer completed first leaves its queue; it is numbered and stored where it is kept
and the filter lets it through. -/
def RecordAccept : Prop := ∀ (s : State) (t : Nat) (p : Plane) (it : IntakeItem) (rest : List IntakeItem), s.running = true →
  s.recorder.ready = true → s.recorder.stopped = false → s.recorder.dropped = (0, 0, 0) → s.recorder.firstDone = some p →
  s.recorder.queue p = it :: rest →
  Answers (.recordAccept t) s fun s' => s'.recorder.queue p = rest ∧
    if it.keep = true ∧ s.recPasses it.item = true then
      s'.recorder.circ.getLast? = some { it.item with seqNo := s.recorder.nextSeq } ∧
        s'.recorder.nextSeq = (s.recorder.nextSeq + 1) % 18446744073709551616
    else s'.recorder.circ = s.recorder.circ ∧ s'.recorder.nextSeq = s.recorder.nextSeq

/-- RECORD_DROP (R31, R710): counted, the queue as it was. -/
def RecordDrop : Prop := ∀ (s : State) (t n : Nat) (p : Plane), s.Inv → s.running = true → s.recorder.stopped = false →
  queueLimit p < queueBytes (s.recorder.queue p) + storedSize n → s.obj 0x9000 (6 + p.code) < 0xFFFFFFFF →
  Answers (.recordDrop t p n) s fun s' => s'.obj 0x9000 (6 + p.code) = s.obj 0x9000 (6 + p.code) + 1 ∧
    s'.recorder.dropped ≠ (0, 0, 0) ∧ ∀ q, s'.recorder.queue q = s.recorder.queue q

/-- DIRECTORY_UPDATE (R720): the directory takes the write position. -/
def DirectoryUpdate : Prop := ∀ (s : State) (t : Nat), s.running = true → s.recorder.ready = true →
  Answers (.directoryUpdate t) s fun s' =>
    s'.recorder = { s.recorder with lastDirectory := max s.now t, dirSeq := s.recorder.nextSeq } ∧ s'.od = s.od

/-- PANEL_HALF_CYCLE (R725 to R727, Table 21-1): the waveform advances one half-cycle of its row, at the amplitude of its phase, with the
sign reversed in every second one. -/
def PanelHalfCycle : Prop := ∀ (s : State) (t : Nat) (f : PanelFrame), s.running = true → s.panel.frame = some f → f.done < f.total →
  1953125 * f.done ≤ 2 * (max s.now t - f.startAt) →
  Answers (.panelHalfCycle t) s fun s' => s'.panel.frame = some { f with done := f.done + 1 } ∧
    ∃ row cells phase, f.rows[f.done / (f.erase + f.write + 2)]? = some (row, cells) ∧
      (phase = 0 ↔ f.done % (f.erase + f.write + 2) < f.erase) ∧ (phase = 2 ↔ f.erase + f.write ≤ f.done % (f.erase + f.write + 2)) ∧
      phase ≤ 2 ∧
      s'.out = [.panelHalf (if phase = 0 then f.eraseLevel else if phase = 1 then f.writeLevel else 0)
        (padSixths row phase cells (decide (f.done % 2 = 1))).1 (padSixths row phase cells (decide (f.done % 2 = 1))).2]

/-- PANEL_FRAME_END (R731, R733): the image is complete, its mark gone; nothing latched, the panel rests. -/
def PanelFrameEnd : Prop := ∀ (s : State) (t : Nat) (f : PanelFrame), s.Inv → s.running = true → s.panel.frame = some f → f.total ≤ f.done →
  1953125 * f.total ≤ 2 * (max s.now t - f.startAt) → s.panel.redrive = false → (∀ r < 4, nth none s.panel.latched r = none) →
  s.obj 0x9100 9 < 0xFFFFFFFF →
  Answers (.panelFrameEnd t) s fun s' => s'.panel.frame = none ∧ s'.mram.panelDirty = none ∧ s'.mram.panelOk = true ∧
    s'.obj 0x9100 9 = s.obj 0x9100 9 + 1 ∧
    ∀ r < 4, nth 0 s'.mram.panelImage r = (match f.rows.find? (fun q => decide (q.1 = r)) with
      | some q => q.2 | none => nth 0 s.mram.panelImage r)

/-- PANEL_UPDATE_REQUEST (R730, R731, R733): rows that differ from what was last driven become the running frame, marked first; while a
frame runs they are latched. -/
def PanelUpdate : Prop := ∀ (s : State) (t : Nat), s.running = true → s.power.stage = .ready → s.obj 0x9100 1 ≠ 0 →
  (s.panel.frame = none → (∀ r < 4, nth none s.panel.latched r = none) → s.changedRows ≠ [] →
    Answers (.panelUpdateRequest t) s fun s' => s'.mram.panelDirty = some (s.changedRows.map (·.2)) ∧
      ∃ f, s'.panel.frame = some f ∧ f.rows = s.changedRows ∧ f.done = 0 ∧ f.startAt = max s.now t) ∧
  (∀ f, s.panel.frame = some f →
    Answers (.panelUpdateRequest t) s fun s' => s'.panel.frame = some f ∧ s'.mram = s.mram ∧
      ∀ q ∈ s.changedRows, nth none s'.panel.latched q.1 = some q.2)

/-- SCRUB_PASS (R747, R748): the pass and the corrected words of each memory are counted. -/
def ScrubPass : Prop := ∀ (s : State) (t a b c : Nat), s.Inv → s.running = true → s.obj 0x9300 8 < 0xFFFFFFFF →
  s.obj 0x9300 1 + a ≤ 0xFFFFFFFF → s.obj 0x9300 2 + b ≤ 0xFFFFFFFF → s.obj 0x9300 3 + c ≤ 0xFFFFFFFF →
  s.obj 0x9300 9 + (a + b + c : Nat) ≤ 0xFFFFFFFF →
  Answers (.scrubPass t [a, b, c]) s fun s' => s'.obj 0x9300 8 = s.obj 0x9300 8 + 1 ∧ s'.obj 0x9300 1 = s.obj 0x9300 1 + a ∧
    s'.obj 0x9300 2 = s.obj 0x9300 2 + b ∧ s'.obj 0x9300 3 = s.obj 0x9300 3 + c ∧
    s'.obj 0x9300 9 = s.obj 0x9300 9 + (a + b + c : Nat)

/-- UNCORRECTABLE_WORD (R746, R747, Table 22-1): a word that no change of one lane makes a word of the code is counted in its memory and
located; a control-plane word is a hard fault, a user pair's stops it, an access to the object store is answered with 06060000h, a
configuration image is valid no more. A word with one lane wrong is corrected and counted. -/
def UncorrectableWord : Prop := ∀ (s : State) (t addr : Nat) (place : WordPlace) (data read : List Byte), s.Inv → s.running = true →
  (readWord read = .bad → Answers (.uncorrectableWord t place data read addr) s fun s' =>
    (∀ m, place.memory = some m → s.obj 0x9300 (4 + m) < 0xFFFFFFFF → s'.obj 0x9300 (4 + m) = s.obj 0x9300 (4 + m) + 1 ∧
      s'.bit 0x9300 0x0A 2 = true ∧ s'.obj 0x9300 7 = (lanesWrong data read + m * 16777216 + addr % 4294967296 * 4294967296 : Nat)) ∧
    (∀ m, place = .control m → s.role = .active ∨ s.role = .standby → s'.role = .suspect ∨ s'.role = .offline) ∧
    (∀ c via w k, place = .objectStore c via w k → c ≠ .inner → Out.reply c k (.abort 0x06060000) ∈ s'.out) ∧
    (place = .currentImage → ∀ g, s'.mram.current = some g → g.valid = false) ∧
    (place = .previousImage → ∀ g, s'.mram.previous = some g → g.valid = false) ∧
    (∀ u, place = .tcm u → u < 2 → s.user.length = 2 → (s.userPair u).runs = true →
      (s'.userPair u).runs = false ∧ s'.obj (0xA000 + u) 3 = 4 ∧ s'.obj (0xA000 + u) 9 = 5 ∧ s'.role = s.role)) ∧
  (∀ d m, readWord read = .corrected d → place.memory = some m → s.obj 0x9300 (1 + m) < 0xFFFFFFFF →
    Answers (.uncorrectableWord t place data read addr) s fun s' => s'.obj 0x9300 (1 + m) = s.obj 0x9300 (1 + m) + 1 ∧
      s.sameObjects s' [okey 0x9300 (1 + m)] ∧ s'.role = s.role)

/-- INJECTION (R751 to R753): at a boundary at least 10 ms after the arm write; where the condition of its class fails, it is refused. -/
def Injection : Prop := ∀ (s : State) (t : Nat), s.Inv → s.running = true → s.obj 0x9200 5 = 1 ∨ s.obj 0x9200 5 = 2 →
  0 < s.diagn.left → s.diagn.armedAt + 10000000 ≤ s.diagn.boundaryAt → s.diagn.lastBoundary ≠ some s.diagn.boundaryAt →
  s.obj 0x9200 6 < 0xFFFFFFFF →
  Answers (.injection t) s fun s' =>
    if s.classHolds (injectionClass (s.nat 0x9200 1) (s.nat 0x9200 2)) = true then
      s'.obj 0x9200 5 = (if s.diagn.left = 1 then 3 else 2) ∧ s'.diagn.left = s.diagn.left - 1 ∧ s'.obj 0x9200 6 = s.obj 0x9200 6 + 1
    else s'.obj 0x9200 5 = 4 ∧ s'.diagn.left = 0 ∧ s'.obj 0x9200 6 = s.obj 0x9200 6

/-- DETECTION_TIMEOUT (R752). -/
def DetectionTimeout : Prop := ∀ (s : State) (t c i a : Nat), s.Inv → s.running = true → s.diagn.awaiting = some (c, i, a) →
  a + 1000000000 ≤ max s.now t →
  Answers (.detectionTimeout t) s fun s' => s'.obj 0x9200 7 = 0xFFFFFFFF ∧ s'.diagn.awaiting = none ∧
    s'.alarms.any (fun a => a.1 = okey 0x9200 7) = true

/-- LINK_TEST_TIME_LIMIT (R758). -/
def LinkTestTimeLimit : Prop := ∀ (s : State) (t l : Nat), s.Inv → s.running = true → l < 18 → s.underTest l = true →
  s.nat (0x9210 + l) 2 ≠ 0 → (s.linkTest l).startAt + s.nat (0x9210 + l) 2 * 1000000000 ≤ max s.now t →
  Answers (.linkTestTimeLimit t l) s fun s' => s'.underTest l = false ∧ s'.obj (0x9210 + l) 1 = 0 ∧ s'.obj (0x9210 + l) 3 = 0

/-- LOOPBACK_FRAME (R757): the frame as received is judged, and the next one leaves. -/
def LoopbackFrame : Prop := ∀ (s : State) (t l : Nat) (received : Option (List Byte)), s.Inv → s.running = true → s.power.portsOn = true →
  4 ≤ l → l < 18 → s.underTest l = true → s.diagn.tests.length = 18 →
  ((s.linkTest l).frame ≠ none → (s.linkTest l).sentAt + (if 16 ≤ l then 10000000 else if received.isSome then 0 else
    s.serialFrameNs (l - 4) + 200000000) ≤ max s.now t) →
  Answers (.loopbackFrame t l received) s fun s' => (s'.linkTest l).sentAt = max s.now t ∧
    (∃ f, (s'.linkTest l).frame = some f ∧
      (if l < 16 then Out.serial (l - 4) f else Out.can (l - 16) (0x780 + nth 0 s.dict.nodeIds (l - 16)) f) ∈ s'.out) ∧
    (∀ f, (s.linkTest l).frame = some f → received = some f →
      s'.obj (0x9210 + l) 4 = (s.obj (0x9210 + l) 4 + s.patternLength l) % 18446744073709551616 ∧ s'.obj (0x9210 + l) 3 = 2) ∧
    (∀ f, (s.linkTest l).frame = some f → received ≠ some f → s.obj (0x9210 + l) 5 < 0xFFFFFFFF →
      s'.obj (0x9210 + l) 5 = s.obj (0x9210 + l) 5 + 1)

/-- PRBS_CHECKER_LOCK (R756): the bits of a line under test go through its checker: those checked while locked, the bit errors and the
losses of lock are counted, and the state tells whether it is locked; 64 bits of the pattern without error lock a checker. -/
def PrbsLock : Prop := (∀ (s : State) (t l : Nat) (bits : List Bool), s.Inv → s.running = true → l < 4 → s.diagn.tests.length = 18 →
  s.underTest l = true → (s.linkTest l).bits + bits.length ≤ lineBits l (max s.now t - (s.linkTest l).startAt) →
  Answers (.prbsCheckerLock t l bits) s fun s' =>
    let (c, checked, errors, losses) := (s.linkTest l).check.tally bits
    (s'.linkTest l).check = c ∧ (s'.linkTest l).bits = (s.linkTest l).bits + bits.length ∧
    s'.obj (0x9210 + l) 3 = (if c.locked = true then 2 else 1) ∧
    s'.obj (0x9210 + l) 4 = (s.obj (0x9210 + l) 4 + checked) % 18446744073709551616 ∧
    (s.obj (0x9210 + l) 5 + errors ≤ 0xFFFFFFFF → s'.obj (0x9210 + l) 5 = s.obj (0x9210 + l) 5 + errors) ∧
    (s.obj (0x9210 + l) 6 + losses ≤ 0xFFFFFFFF → s'.obj (0x9210 + l) 6 = s.obj (0x9210 + l) 6 + losses)) ∧
  ∀ bits : List Bool, bits.length = 64 → (∃ n < 31, bits.getD n false = true) →
    (∀ n, 31 ≤ n → n < 64 → bits.getD n false = (bits.getD (n - 31) false != bits.getD (n - 28) false)) →
    (({} : LaneCheck).tally bits).1.locked = true ∧ (({} : LaneCheck).tally bits).2 = (0, 0, 0)

/-- USER_SLOT_OPEN (R760, R762, R763): the call, with a0 = 1 the first time after a load; its slot counts from the instant it opened at. -/
def UserSlotOpen : Prop := ∀ (s : State) (t u : Nat) (opens at' : Int), s.running = true → s.power.portsOn = true → u < 2 →
  s.user.length = 2 → (s.userPair u).runs = true → s.slotInstant = some (opens, at') → opens ≤ (s.at t).mt →
  (s.userPair u).call = none → (s.userPair u).lastOpen ≠ some at'.toNat →
  Answers (.userSlotOpen t u) s fun s' => ∃ c, (s'.userPair u).call = some c ∧
    c.openedAt = max s.now t - (((s.at t).mt : Int) - opens).toNat ∧ c.mail = [] ∧ c.offset = none ∧
    s'.out = [.userCall u (if (s.userPair u).fresh then 1 else 0) c.count c.stamp] ∧ (s'.userPair u).fresh = false ∧
    (s'.userPair u).lastOpen = some at'.toNat ∧ c.stamp = (at' % 4294967296).toNat

/-- The call of a pair lasts at the instant `t` (R763). -/
def Calls (s : State) (t u : Nat) (c : UserCall) : Prop :=
  (s.userPair u).call = some c ∧ u < 2 ∧ s.user.length = 2 ∧ max s.now t ≤ c.openedAt + s.slotNs u

/-- OD_READ_CALL (R765): the value, cut to the buffer's length, byte by byte; every other byte of the memory as before. -/
def OdReadCall : Prop := ∀ (s : State) (t u i sub buffer length : Nat) (c : UserCall), s.Inv → s.running = true → Calls s t u c →
  (∀ a, s.viewRead c i sub = .error a → Answers (.odReadCall t u i sub buffer length) s fun s' =>
    s'.out = [.envResult u a] ∧ s'.user = s.user) ∧
  (∀ b, s.viewRead c i sub = .ok b → buffer + (b.take length).length ≤ tcmSize → Answers (.odReadCall t u i sub buffer length) s fun s' =>
    s'.out = [.envResult u (b.take length).length] ∧ (s'.userPair u).call = some c ∧
    ∀ a, (s'.userPair u).byteAt a =
      if buffer ≤ a ∧ a < buffer + (b.take length).length then (b.take length).getD (a - buffer) 0 else (s.userPair u).byteAt a)

/-- MB_WRITE (R766, R767): an own output takes the value in the call's list, in place of an earlier one, and nothing else does. -/
def MbWrite : Prop := ∀ (s : State) (t u i sub buffer : Nat) (v : List Byte) (c : UserCall), s.running = true → Calls s t u c →
  ((s.userPair u).decls.find? (fun d => decide (d.index = i) && d.isOut && decide (sub = 0)) = none →
    Answers (.mbWrite t u i sub buffer v) s fun s' => s'.out = [.envResult u abortNoObject] ∧ (s'.userPair u).call = some c ∧
      (s'.userPair u).mail = (s.userPair u).mail) ∧
  (∀ d, (s.userPair u).decls.find? (fun d => decide (d.index = i) && d.isOut && decide (sub = 0)) = some d →
    buffer + v.length ≤ tcmSize →
    (v.length ≠ d.size → Answers (.mbWrite t u i sub buffer v) s fun s' => s'.out = [.envResult u abortLength] ∧ (s'.userPair u).call = some c) ∧
    (v.length = d.size → (d.ty = 1 → leNat v ≤ 1) → Answers (.mbWrite t u i sub buffer v) s fun s' => s'.out = [.envResult u 0] ∧
      ∃ c', (s'.userPair u).call = some c' ∧ (i, v) ∈ c'.mail ∧ (∀ w, (i, w) ∈ c'.mail → w = v) ∧ c'.offset = c.offset ∧
        (s'.userPair u).mail = (s.userPair u).mail))

/-- PROPOSE (R766, R768): a manager's offset is kept with the call; a worker's is refused. -/
def Propose : Prop := ∀ (s : State) (t u : Nat) (n e h : Int) (c : UserCall), s.running = true → Calls s t u c →
  Answers (.propose t u n e h) s fun s' => if s.isManager = true then s'.out = [.envResult u 0] ∧
      (s'.userPair u).call = some { c with offset := some (n, e, h) }
    else s'.out = [.envResult u abortValue] ∧ s'.user = s.user

/-- RETURN (R762, R766, R768, R777): the list is committed and stamped, the proposal valid. -/
def Return : Prop := ∀ (s : State) (t u : Nat) (c : UserCall), s.Inv → s.running = true → Calls s t u c →
  Answers (.returnCall t u) s fun s' => (s'.userPair u).call = none ∧ (s'.userPair u).overrunRun = 0 ∧
    (s'.userPair u).committedAt = (s.at t).mt ∧ (∀ q, c.mail.getLast? = some q → q ∈ (s'.userPair u).mail) ∧
    ∀ n e h, c.offset = some (n, e, h) → s'.obj (0xA020 + u) 1 = n ∧ s'.obj (0xA020 + u) 2 = e ∧ s'.obj (0xA020 + u) 3 = h ∧
      s'.obj (0xA020 + u) 4 = 1

/-- SLOT_OVERRUN (R763, R769): the call is discarded; the third overrun in a row is fault 04h. -/
def SlotOverrun : Prop := ∀ (s : State) (t u : Nat) (c : UserCall), s.Inv → s.running = true → u < 2 → s.user.length = 2 →
  (s.userPair u).call = some c → c.openedAt + s.slotNs u ≤ max s.now t →
  Answers (.slotOverrun t u) s fun s' => (s'.userPair u).call = none ∧
    (s.obj (0xA000 + u) 7 < 0xFFFFFFFF → s'.obj (0xA000 + u) 7 = s.obj (0xA000 + u) 7 + 1) ∧
    (2 ≤ (s.userPair u).overrunRun → (s'.userPair u).runs = false ∧ s'.obj (0xA000 + u) 3 = 4 ∧ s'.obj (0xA000 + u) 9 = 4) ∧
    ((s.userPair u).overrunRun < 2 → (s'.userPair u).runs = (s.userPair u).runs)

/-- USER_PAIR_FAULT (R769, R770): the pair stops at once, with its cause. -/
def UserPairFault : Prop := ∀ (s : State) (t u cause : Nat), s.Inv → s.running = true → u < 2 → s.user.length = 2 →
  (s.userPair u).runs = true → cause = 1 ∨ cause = 2 ∨ cause = 3 ∨ cause = 5 →
  Answers (.userPairFault t u cause) s fun s' => (s'.userPair u).runs = false ∧ (s'.userPair u).call = none ∧
    s'.obj (0xA000 + u) 3 = 4 ∧ s'.obj (0xA000 + u) 9 = cause ∧ s'.role = s.role ∧
    s'.alarms.any (fun a => a.1 = okey (0xA000 + u) 3) = true

/-- IMAGE_VERIFIED (R774): two passed checks make the load due at the boundary; a failed one rejects the image. -/
def ImageVerified : Prop := ∀ (s : State) (t u : Nat) (partner : Bool) (b : List Byte), s.Inv → s.running = true → u < 2 →
  s.user.length = 2 → (s.userPair u).held = some b → (s.userPair u).loadDue = false →
  Answers (.imageVerified t u partner) s fun s' =>
    if partner = true ∧ s.imageVerified u b = true then (s'.userPair u).loadDue = true ∧ (s'.userPair u).held = some b
    else (s'.userPair u).held = none ∧ s'.obj (0xA000 + u) 3 = 5 ∧ (s'.userPair u).runs = (s.userPair u).runs

/-- A client is answered. -/
def Replied (s : State) (c : Client) (i sub : Nat) (r : Reply) : Prop := Out.reply c (okey i sub) r ∈ s.out

/-- A frame arrived on a CAN port, counted (1E00h:06). -/
def framed (s : State) (t p : Nat) : State := ({ s.at t with pending := [] }).canFrame p

/-- A message of a client over the network or the rings is served at once: its network is enabled, its head is a request's, its client is or
can be known, none of its requests is being served, and it repeats none that the module keeps the response of (R668, R670, R671). -/
def Served (x : State) (c : Client) (m : OdMsg) : Prop :=
  isNetClient c = true ∧ (x.obj 0x1E10 1 = 0 → isEthernet c = false) ∧ m.version = 1 ∧ isRequest m.opcode = true ∧
  ((x.forgetSilent.dict.clients.any fun (q : ClientRec) => decide (q.client = c)) = true ∨
    (x.forgetSilent.dict.clients.filter fun (q : ClientRec) => isNetClient q.client).length < 16) ∧
  (x.forgetSilent.clientRec c).request = none ∧ (x.forgetSilent.clientRec c).waiting = [] ∧
  ∀ a ∈ (x.forgetSilent.clientRec c).answered, ¬ (a.reqId = m.reqId ∧ x.now ≤ a.at' + 2000000000 ∧
    ∀ g, m.tag = some g → a.counter = some g.counter)

/-- The state in which a served message is judged: silent clients are forgotten, the client is heard, a transfer of its that stood for a
second has aborted, and the message is the one being served. -/
def served (x : State) (c : Client) (m : OdMsg) : State :=
  let s := x.forgetSilent
  let s := (s.putClient { s.clientRec c with lastHeard := s.now }).expireTransfer c
  s.putClient { s.clientRec c with request := some m }

/-- What a message carries, with the segments before it, is these bytes (R654, R669). -/
def Carried (u : State) (c : Client) (m : OdMsg) (bytes : List Byte) : Prop :=
  m.offset = 0 ∨ ∃ x, u.transfer c = some x ∧ x.key = okey m.index m.sub ∧ x.write = true ∧ x.nextOff = m.offset ∧
    x.data = bytes.take m.offset

/-- A write by a client is met in state `u` with trailer `tag` and value `w`: over CAN as it is, over a network as its message spells it. -/
def WriteMet (s : State) (t : Nat) (c : Client) (via : OdVia) (i sub : Nat) (v : Val) (u : State) (tag : Option OdTag) (w : Val) : Prop :=
  match c with
  | .inner => False
  | .can _ => u = Seen s t ∧ tag = none ∧ w = v
  | _ =>
    let b := (Seen s t).sentBytes i sub v
    let m := OdMsg.ofWrite via i sub b
    Served (Seen s t) c m ∧ Carried (served (Seen s t) c m) c m b ∧ u = (served (Seen s t) c m).endTransfer c ∧ tag = m.tag ∧
      w = (Seen s t).toVal i sub b

/-- A read by a client is met: over CAN always, over a network when its message is served. -/
def ReadMet (s : State) (t : Nat) (c : Client) (via : OdVia) (i sub : Nat) : Prop :=
  match c with
  | .inner => False
  | .can _ => True
  | _ => Served (Seen s t) c (OdMsg.sent 1 via i sub 0 [])

/-- The state in which it is met. -/
def readStart (s : State) (t : Nat) (c : Client) (via : OdVia) (i sub : Nat) : State :=
  if isNetClient c then served (Seen s t) c (OdMsg.sent 1 via i sub 0 []) else Seen s t

/-- Nothing that a write checks stands against it (R661): access, session, length, value, and every chapter's own condition. -/
def Allowed (s : State) (c : Client) (tag : Option OdTag) (i sub : Nat) (r : OdRow) (v : Val) : Prop :=
  s.row i sub = some r ∧ accessAbort r = none ∧ (isGuarded r.acc = true → ∃ x, s.sessionFor c tag i sub = .ok x) ∧
  s.valueObjection true i sub r v = none

/-- A pair-wide or guarded write that waits for its boundary as a held write (R593): of an object that acts nowhere at once, other than a
signed image, which is held for its verification, and a bank copy, which the twin makes at once. -/
def PairWide (i sub : Nat) (r : OdRow) (v : Val) : Prop :=
  actsHere i sub r = false ∧ r.acc ≠ .rwMapped ∧ okey i sub ≠ okey 0xA010 0 ∧ okey i sub ≠ okey 0xA011 0 ∧
  (okey i sub = okey 0x5038 2 ∨ okey i sub = okey 0x6048 2 → v ≠ .num 2)

/-- A twin that carries its writes alone: ACTIVE without its link, or OFFLINE (Table 15-10). -/
def Alone (s : State) : Prop := (s.role = .active ∧ s.linkUp = false) ∨ s.role = .offline

/-- A write is held last for its boundary, as received at `stamp`. -/
def HeldLast (s s' : State) (i sub : Nat) (v : Val) (stamp : Nat) : Prop :=
  ∃ n, s'.held = s.held ++ [{ key := okey i sub, val := v, stamp := stamp, session := n }]

/-- TIME_SECONDS_READ (R120): the seconds are answered, and the other two readings of the instant are latched for this client. -/
def TimeSecondsRead : Prop := ∀ (s : State) (t : Nat) (c : Client) (via : OdVia), s.running = true → s.power.portsOn = true →
  ReadMet s t c via 0x2100 1 →
  Answers (.timeSecondsRead t c via) s fun s' =>
    Replied s' c 0x2100 1 (.value (leBytes 6 ((s.at t).mt / 1000000000)) true) ∧ (s'.clientRec c).latched = true ∧
    (s'.clientRec c).latchNs = (s.at t).mt % 1000000000 ∧ (s'.clientRec c).latchStamp = (s.at t).stamp32

/-- WINDOW_CAPTURE (R721, R722): the first record at or beyond the cursor is captured whole, with what lies between counted as skipped; with
its last byte read the cursor moves on. -/
def WindowCapture : Prop := ∀ (s : State) (t : Nat) (c : Client) (via : OdVia), s.running = true → s.power.portsOn = true →
  ReadMet s t c via 0x9002 3 →
  Answers (.windowCapture t c via) s fun s' =>
    let k := (readStart s t c via 0x9002 3).clientRec c
    let area := if k.area = 0 then s.recorder.circ else s.recorder.perm
    let unit := if isNetClient c then 1400 else 4096
    (area.find? (fun r => decide (k.cursor ≤ r.seqNo)) = none → Replied s' c 0x9002 3 (.value [] true) ∧
      (s'.clientRec c).outcome = 1 ∧ (s'.clientRec c).cursor = k.cursor) ∧
    ∀ r, area.find? (fun r => decide (k.cursor ≤ r.seqNo)) = some r →
      Replied s' c 0x9002 3 (.value (r.bytes.take unit) (decide (r.bytes.length ≤ unit))) ∧ (s'.clientRec c).window = r.bytes ∧
      (s'.clientRec c).outcome = (if k.cursor ≠ 0 ∧ r.seqNo ≠ k.cursor then 2 else 0) ∧
      (s'.clientRec c).skipped = (if k.cursor ≠ 0 then r.seqNo - k.cursor else 0) ∧
      (s'.clientRec c).cursor = if r.bytes.length ≤ unit then (r.seqNo + 1) % 18446744073709551616 else k.cursor

/-- READ_CLEAR (R743): the armed object is answered and cleared; a read by a client that has not armed it clears nothing. -/
def ReadClear : Prop := ∀ (s : State) (t i sub : Nat) (c : Client) (via : OdVia) (kind : ClearKind), s.Inv → s.running = true →
  s.power.portsOn = true → ReadMet s t c via i sub → clearable i sub = some kind →
  Answers (.readClear t c via i sub) s fun s' =>
    let k := (readStart s t c via i sub).clientRec c
    (∃ b, Replied s' c i sub (.value b true)) ∧ (s'.clientRec c).armKey ≠ some (okey i sub) ∧
    (k.armKey = some (okey i sub) → max s.now t ≤ k.armAt + 1000000000 →
      match kind with
      | .counter => s'.obj i sub = 0
      | .bits m => ∀ n, m.testBit n = true → s'.bit i sub n = false) ∧
    (k.armKey ≠ some (okey i sub) → kind = .counter → s'.obj i sub = s.obj i sub)

/-- WRITE_MESSAGE (R592 to R594, R630, R684): the standby holds the write the active twin sent; the active twin checks one that was
forwarded, and holds it once, or sends its refusal back; in a twin that is OFFLINE or in WATCH it does nothing. -/
def WriteMessage : Prop := ∀ (s : State) (t i sub stamp : Nat) (v : Val) (r : OdRow), s.running = true → s.power.portsOn = true →
  Unqueued s → Waits s .write → sub < 256 → s.row i sub = some r → PairWide i sub r v →
  (s.role = .standby ∨ s.role = .slipway → Answers (.writeMessage t (okey i sub) v stamp none none) s fun s' => HeldLast s s' i sub v stamp) ∧
  (s.role = .offline ∨ s.role = .watch → ∀ verdict src, Answers (.writeMessage t (okey i sub) v stamp verdict src) s fun s' =>
    s'.held = s.held ∧ s'.od = s.od ∧ s'.out = []) ∧
  (s.role = .active → s.linkUp = true → s.pair.partnerRole = some .standby → ∀ x, (Seen s t).takeWaiting .write = some x →
    (x.valueObjection false i sub r v = none →
      Answers (.writeMessage t (okey i sub) v stamp none none) s (fun s' => HeldLast s s' i sub v stamp ∧
        ∃ h, Out.tw .write h ((okey i sub : Int) :: (stamp : Int) :: v.ints) ∈ s'.out) ∧
      ∀ k n, (k < s.net.conns.length → s.isPlaced (some (k, n)) (okey i sub) = false →
          Answers (.writeMessage t (okey i sub) v stamp none (some (k, n))) s fun s' =>
            HeldLast s s' i sub v stamp ∧ s'.isPlaced (some (k, n)) (okey i sub) = true ∧ s'.out = []) ∧
        (s.isPlaced (some (k, n)) (okey i sub) = true →
          Answers (.writeMessage t (okey i sub) v stamp none (some (k, n))) s fun s' => s'.held = s.held ∧ s'.out = [])) ∧
    ∀ a, x.valueObjection false i sub r v = some a → Answers (.writeMessage t (okey i sub) v stamp none none) s fun s' => s'.held = s.held ∧
      ∃ h, Out.tw .write h [(okey i sub : Int), (a : Int), 2] ∈ s'.out)

/-- SDO_REQUEST (R663, R664, R692): to the server of a port, on COB-ID 600h plus its node ID. An upload answers the value, up to four
bytes at once, else by segments of seven bytes whose toggle bit alternates; an expedited download is a write; an abort ends the transfer
and holds nothing. A frame on another COB-ID is counted, and nothing else of the module follows from it. -/
def SdoRequests : Prop := ∀ (s : State) (t p : Nat), s.Inv → s.running = true → s.power.portsOn = true → p < 2 → nth false s.dict.busOff p = false →
  ∀ cob, cob = 0x600 + nth 0 s.dict.nodeIds p →
  (∀ i sub x y, ((framed s t p).expireTransfer (.can p)).fetch (.can p) none i sub = (x, y) →
    Answers (.sdoRequest t p cob (.upload i sub)) s fun s' => Out.sdo p (0x580 + nth 0 s.dict.nodeIds p) ∈ s'.out ∧ match x with
    | .error a => Replied s' (.can p) i sub (.abort a)
    | .ok b => if b.length ≤ 4 then Replied s' (.can p) i sub (.value b true) else
      Replied s' (.can p) i sub (.value [] false) ∧ ∃ q, s'.transfer (.can p) = some q ∧ q.data = b ∧ q.nextOff = 0 ∧ q.write = false) ∧
  (∀ q, s.transfer (.can p) = some q → q.write = false → max s.now t < q.lastAt + 1000000000 → ∀ g,
    Answers (.sdoRequest t p cob (.uploadSegment g)) s fun s' =>
    if g = decide (q.nextOff / 7 % 2 = 1) then
      Out.reply (.can p) q.key (.value ((q.data.drop q.nextOff).take 7) (decide (q.data.length ≤ q.nextOff + 7))) ∈ s'.out
    else Out.reply (.can p) q.key (.abort 0x05030000) ∈ s'.out ∧ s'.transfer (.can p) = none) ∧
  (∀ i sub r b, Alone s → sub < 256 → PairWide i sub r (s.toVal i sub b) →
    Allowed ((((framed s t p).expireTransfer (.can p)).endTransfer (.can p)).hear (.can p) none) (.can p) none i sub r (s.toVal i sub b) →
    Answers (.sdoRequest t p cob (.download i sub b)) s fun s' => HeldLast s s' i sub (s.toVal i sub b) (s.at t).mt ∧
      Replied s' (.can p) i sub .done) ∧
  Answers (.sdoRequest t p cob .abort) s (fun s' => s'.transfer (.can p) = none ∧ s'.held = s.held) ∧
  ∀ other req, other ≠ cob → Answers (.sdoRequest t p other req) s fun s' => s'.dict = s.dict ∧ s'.held = s.held ∧ s'.out = [] ∧
    s.sameObjects s' [okey (0x1E00 + p) 6]

/-- TRANSFER_TIMEOUT (R683): the transfer aborts and nothing of it is held. -/
def TransferTimeout : Prop := ∀ (s : State) (t : Nat) (c : Client) (x : Transfer), s.running = true → s.power.portsOn = true → c ≠ .inner →
  s.transfer c = some x → x.lastAt + 1000000000 ≤ max s.now t →
  Answers (.transferTimeout t c) s fun s' => s'.transfer c = none ∧ Out.reply c x.key (.abort 0x05040000) ∈ s'.out ∧ s'.held = s.held

/-- RPDO_RX (R594, R666, R667, R693): in the operational state a mapped value within its range goes to the gate; a frame shorter than its
mapping is counted and none of it applied; in any other state nothing is applied. -/
def RpdoRx : Prop := ∀ (s : State) (t p cob q e : Nat) (data : List Byte) (r : OdRow), s.Inv → s.running = true → s.power.portsOn = true →
  p < 2 → nth false s.dict.busOff p = false → q < 8 →
  (List.range 8).find? (fun n => !(s.nat (0x1400 + n) 1).testBit 31 && decide (s.nat (0x1400 + n) 1 % 2048 = cob)) = some q →
  s.mapping (0x1600 + q) = [e] → odRow (e / 65536) (e / 256 % 256) = some r →
  (s.dict.nmt ≠ .operational → Answers (.rpdoRx t p cob data) s fun s' => s'.held = s.held) ∧
  (s.dict.nmt = .operational → data.length < e % 256 / 8 → Answers (.rpdoRx t p cob data) s fun s' => s'.held = s.held ∧
    (s.obj (0x1E00 + p) 5 < 0xFFFFFFFF → s'.obj (0x1E00 + p) 5 = s.obj (0x1E00 + p) 5 + 1)) ∧
  (s.dict.nmt = .operational → e % 256 / 8 ≤ data.length → s.role = .active ∨ s.role = .offline →
    (framed s t p).safeLocked (e / 65536) (e / 256 % 256) = false → ∀ v, v = s.toVal (e / 65536) (e / 256 % 256) (data.take (e % 256 / 8)) →
    (framed s t p).valueObjection false (e / 65536) (e / 256 % 256) r v = none →
    Answers (.rpdoRx t p cob data) s fun s' => HeldLast s s' (e / 65536) (e / 256 % 256) v (s.at t).mt)

/-- SYNC_RX (R697): the SYNC is counted once, and a TPDO of type n is due at every n-th; the same SYNC on the other port within 100 µs is
not counted again. -/
def SyncRx : Prop := ∀ (s : State) (t p : Nat) (counter : Option Nat), s.running = true → s.power.portsOn = true → p < 2 →
  nth false s.dict.busOff p = false → s.dict.nmt = .operational → s.dict.tpdo.length = 8 →
  Answers (.syncRx t p (s.nat 0x1005 0 % 2048) counter) s fun s' =>
    (∀ q at', s.dict.lastSync = some (q, at') → q ≠ p → max s.now t ≤ at' + 100000 → s'.dict = s.dict) ∧
    ((∀ q at', s.dict.lastSync = some (q, at') → q = p ∨ at' + 100000 < max s.now t) → s'.dict.lastSync = some (p, max s.now t) ∧
      ∀ k < 8, (nth {} s.dict.tpdo k).started = true → 0 < s.nat (0x1800 + k) 2 → s.nat (0x1800 + k) 2 ≤ 0xF0 →
        (nth {} s'.dict.tpdo k).syncs = ((nth {} s.dict.tpdo k).syncs + 1) % s.nat (0x1800 + k) 2 ∧
        (nth {} s'.dict.tpdo k).due = ((nth {} s.dict.tpdo k).due || decide (((nth {} s.dict.tpdo k).syncs + 1) % s.nat (0x1800 + k) 2 = 0)))

/-- TPDO_SEND (R665, R696, R699): a TPDO that is due, beyond its inhibit time, leaves with the values of that instant on every port that can
carry it. -/
def TpdoSend : Prop := ∀ (s : State) (t p : Nat), s.running = true → s.power.portsOn = true → p < 8 → s.dict.tpdo.length = 8 →
  s.dict.nmt = .operational → (s.nat (0x1800 + p) 1).testBit 31 = false → (nth {} s.dict.tpdo p).due = true →
  (∀ l, (nth {} s.dict.tpdo p).lastSent = some l → l + s.nat (0x1800 + p) 3 * 100000 ≤ max s.now t) →
  Answers (.tpdoSend t p) s fun s' => (nth {} s'.dict.tpdo p).due = false ∧ (nth {} s'.dict.tpdo p).lastSent = some (max s.now t) ∧
    ∀ n < 2, nth false s.dict.busOff n = false → (((s.at t).tpdoData p).length ≤ 8 ∨ nth 0 s.dict.dataRates n ≠ 0) →
      Out.can n (s.nat (0x1800 + p) 1 % 2048) ((s.at t).tpdoData p) ∈ s'.out

/-- NMT_COMMAND (R692, R693): the state follows the command; a reset changes nothing; of two in one cycle the one on CAN1 stands. -/
def NmtCommand : Prop := ∀ (s : State) (t p node : Nat) (cmd : NmtCmd), s.running = true → s.power.portsOn = true → p < 2 →
  nth false s.dict.busOff p = false → node = 0 ∨ node = nth 0 s.dict.nodeIds p →
  Answers (.nmtCommand t p cmd node) s fun s' =>
    if s.dict.lastNmt = some (max s.now t / 5, 1) ∧ p = 0 then s'.dict.nmt = s.dict.nmt
    else s'.dict.nmt = (match cmd with
      | .start => .operational
      | .stop => .stopped
      | .preOp => .preOp
      | .resetNode | .resetComm => s.dict.nmt)

/-- CAN_HEARTBEAT (R692): the state's code from every port that is not bus off. -/
def CanHeartbeat : Prop := ∀ (s : State) (t : Nat), s.running = true → s.power.portsOn = true → s.nat 0x1017 0 ≠ 0 →
  s.dict.lastHeartbeat + s.nat 0x1017 0 * 1000000 ≤ max s.now t →
  Answers (.canHeartbeat t) s fun s' => s'.dict.lastHeartbeat = max s.now t ∧
    ∀ p < 2, nth false s.dict.busOff p = false →
      Out.can p (0x700 + nth 0 s.dict.nodeIds p) [BitVec.ofNat 8 (match s.dict.nmt with
        | .stopped => 4
        | .operational => 5
        | .preOp => 0x7F)] ∈ s'.out

/-- CAN_ERROR_STATE_CHANGE (Table 18-9, R758): the state is shown, bus-off counted, and a test of a port that is not error active ends. -/
def CanErrorState : Prop := ∀ (s : State) (t p : Nat) (st : CanState), s.Inv → s.running = true → s.power.portsOn = true → p < 2 →
  s.dict.busOff.length = 2 →
  Answers (.canErrorStateChange t p st) s fun s' =>
    s'.obj (0x1E00 + p) 4 = (match st with
      | .active => 1
      | .passive => 2
      | .busOff => 4) ∧
    nth false s'.dict.busOff p = decide (st = .busOff) ∧
    (st = .busOff → nth false s.dict.busOff p = false → s.obj (0x1E00 + p) 7 < 0xFFFFFFFF →
      s'.obj (0x1E00 + p) 7 = s.obj (0x1E00 + p) 7 + 1) ∧
    (st ≠ .active → s'.underTest (16 + p) = false)

/-- OD_READ (R668, R669, R670, R671, R741): a served message is answered with the value in units of 1400 bytes, or with the code; one that
repeats a request within 2 s has the response it had; one that arrives while a request of its client is being served waits; what is no
message, or is addressed to all, is counted and not answered. -/
def OdRead : Prop := ∀ (s : State) (t : Nat) (c : Client) (msg : List Byte), s.Inv → s.running = true → s.power.portsOn = true →
  isNetClient c = true → (s.obj 0x1E10 1 = 0 → isEthernet c = false) →
  (∀ m, OdMsg.ofBytes msg = some m → m.opcode = 1 → m.offset = 0 → Served (Seen s t) c m →
    ∀ x y, (served (Seen s t) c m).fetch c m.tag m.index m.sub = (x, y) → Answers (.odRead t c false msg) s fun s' =>
      let r := match x with
        | .error a => Reply.abort a
        | .ok b => Reply.value (b.take 1400) (decide (b.length ≤ 1400))
      Replied s' c m.index m.sub r ∧
      ∀ id, c = .net id → m.tag = none → Out.datagram id (m.response (okey m.index m.sub) r false) ∈ s'.out) ∧
  (∀ m a, OdMsg.ofBytes msg = some m → m.opcode = 1 → m.version = 1 →
    ((Seen s t).forgetSilent.dict.clients.any fun (q : ClientRec) => decide (q.client = c)) = true →
    ((Seen s t).forgetSilent.clientRec c).request = none → ((Seen s t).forgetSilent.clientRec c).waiting = [] →
    ((Seen s t).forgetSilent.clientRec c).answered = [a] → a.reqId = m.reqId → max s.now t ≤ a.at' + 2000000000 →
    (∀ g, m.tag = some g → a.counter = some g.counter) →
    Answers (.odRead t c false msg) s fun s' => Out.reply c a.key a.reply ∈ s'.out ∧
      (∀ id, c = .net id → Out.datagram id a.bytes ∈ s'.out) ∧
      (s.obj 0x1E10 8 < 0xFFFFFFFF → s'.obj 0x1E10 8 = s.obj 0x1E10 8 + 1)) ∧
  (∀ m q, OdMsg.ofBytes msg = some m → m.opcode = 1 → m.version = 1 →
    ((Seen s t).forgetSilent.dict.clients.any fun (q : ClientRec) => decide (q.client = c)) = true →
    ((Seen s t).forgetSilent.clientRec c).request = some q →
    Answers (.odRead t c false msg) s fun s' => s'.out = [] ∧
      (s'.clientRec c).waiting = ((Seen s t).forgetSilent.clientRec c).waiting ++ [m] ∧ (s'.clientRec c).request = some q) ∧
  ∀ broadcast, (OdMsg.ofBytes msg = none ∨ (∃ m, OdMsg.ofBytes msg = some m ∧ m.opcode = 1 ∧ (m.version ≠ 1 ∨ broadcast = true))) →
    Answers (.odRead t c broadcast msg) s fun s' => s'.out = [] ∧ s'.dict = s.dict ∧
      (s.obj 0x1E10 6 < 0xFFFFFFFF → s'.obj 0x1E10 6 = s.obj 0x1E10 6 + 1)

/-- OD_WRITE (R654, R669): a write in one message goes the way of every write; a segment is kept with those before it, and one out of place
aborts. -/
def OdWriteC : Prop := ∀ (s : State) (t : Nat) (c : Client) (msg : List Byte) (m : OdMsg) (r : OdRow), s.running = true →
  s.power.portsOn = true → OdMsg.ofBytes msg = some m → m.opcode = 2 → Served (Seen s t) c m → s.row m.index m.sub = some r →
  (m.offset = 0 → m.final = true → Alone s → PairWide m.index m.sub r (s.toVal m.index m.sub m.data) →
    Allowed (((served (Seen s t) c m).endTransfer c).hear c none) c m.tag m.index m.sub r (s.toVal m.index m.sub m.data) →
    Answers (.odWrite t c false msg) s fun s' => HeldLast s s' m.index m.sub (s.toVal m.index m.sub m.data) (s.at t).mt ∧
      Replied s' c m.index m.sub .done) ∧
  (m.offset = 0 → m.final = false → isGuarded r.acc = false → Answers (.odWrite t c false msg) s fun s' =>
    Replied s' c m.index m.sub .done ∧ s'.held = s.held ∧
    ∃ q, s'.transfer c = some q ∧ q.key = okey m.index m.sub ∧ q.write = true ∧ q.data = m.data ∧ q.nextOff = m.data.length) ∧
  (0 < m.offset → (∀ q, s.transfer c = some q → q.nextOff ≠ m.offset) → Answers (.odWrite t c false msg) s fun s' =>
    Replied s' c m.index m.sub (.abort 0x05040003) ∧ s'.transfer c = none ∧ s'.held = s.held)

/-- SESSION_OPEN (R673, R676 to R678): a challenge for the nonce, with a random number, an identity and the serial number; none during
lockout, without a pair key, or beside four sessions of other network clients. -/
def SessionOpen : Prop := ∀ (s : State) (t : Nat) (c : Client) (msg : List Byte) (m : OdMsg), s.running = true →
  s.power.portsOn = true → OdMsg.ofBytes msg = some m → m.opcode = 3 → Served (Seen s t) c m → m.data.length = 16 →
  let others := (s.dict.sessions.filter fun (x : Session) => decide (x.client ≠ c) && isNetClient x.client).length
  ((s.at t).lockedOut = true → Answers (.sessionOpen t c false msg) s fun s' => Replied s' c 0 0 (.abort 0x0F000003) ∧ s'.dict.sessions = s.dict.sessions) ∧
  ((s.at t).lockedOut = false → s.mram.pairKey ≠ [] → 4 ≤ others → Answers (.sessionOpen t c false msg) s fun s' =>
    Replied s' c 0 0 (.abort 0x0F000005) ∧ s'.dict.sessions = s.dict.sessions) ∧
  ((s.at t).lockedOut = false → s.mram.pairKey ≠ [] → others < 4 →
    Answers (.sessionOpen t c false msg) s fun s' => s'.openedSession c = none ∧ ∃ x, s'.challengeOf c = some x ∧ x.nc = m.data ∧
      Replied s' c 0 0 (.value (x.nm ++ leBytes 4 x.id ++ s'.serialBytes) true))

/-- SESSION_AUTHENTICATE (R673, R678): the right tag opens the session and is answered with the module's; a wrong one is counted and the
challenge is gone. -/
def SessionAuthenticate : Prop := ∀ (s : State) (t : Nat) (c : Client) (msg : List Byte) (m : OdMsg) (x : Session), s.Inv →
  s.running = true → s.power.portsOn = true → OdMsg.ofBytes msg = some m → m.opcode = 4 → Served (Seen s t) c m →
  (s.at t).lockedOut = false → s.challengeOf c = some x → (∀ y ∈ s.dict.sessions, y.client = c → y = x) →
  Answers (.sessionAuthenticate t c false msg) s fun s' =>
    (m.data = s.clientTag x → Replied s' c 0 0 (.value (s.moduleTag x) true) ∧ ∃ y, s'.openedSession c = some y ∧ y.id = x.id) ∧
    (m.data ≠ s.clientTag x → Replied s' c 0 0 (.abort 0x0F000002) ∧ s'.challengeOf c = none ∧ s'.openedSession c = none ∧
      (s.obj 0x1E20 8 < 0xFFFFFFFF → s'.obj 0x1E20 8 = s.obj 0x1E20 8 + 1))

/-- SESSION_CLOSE (R676). -/
def SessionClose : Prop := ∀ (s : State) (t : Nat) (c : Client) (msg : List Byte) (m : OdMsg), s.running = true → s.power.portsOn = true →
  OdMsg.ofBytes msg = some m → m.opcode = 5 → Served (Seen s t) c m →
  Answers (.sessionClose t c false msg) s fun s' => s'.openedSession c = none ∧ Replied s' c 0 0 .done ∧
    ∀ d ≠ c, s'.openedSession d = s.openedSession d

/-- SESSION_IDLE_TIMEOUT (R676): no guarded request for 1E20h:07 ends the session, and no other. -/
def SessionIdle : Prop := ∀ (s : State) (t : Nat) (c : Client) (x : Session), s.running = true → s.openedSession c = some x →
  x.lastUsed + s.nat 0x1E20 7 * 1000000000 ≤ max s.now t →
  Answers (.sessionIdleTimeout t c) s fun s' => s'.openedSession c = none ∧ ∀ d ≠ c, s'.openedSession d = s.openedSession d

/-- LOCKOUT_EXPIRY (R678). -/
def LockoutExpiry : Prop := ∀ (s : State) (t u : Nat), s.running = true → s.dict.lockUntil = some u → u ≤ max s.now t →
  Answers (.lockoutExpiry t) s fun s' => s'.dict = { s.dict with lockUntil := none, failTimes := [] }

/-- CLIENT_FORGET (R670): 60 s of silence, and nothing of the client remains but its session. -/
def ClientForget : Prop := ∀ (s : State) (t : Nat) (c : Client) (k : ClientRec), s.running = true → isNetClient c = true →
  k ∈ s.dict.clients → k.client = c → k.lastHeard + 60000000000 ≤ max s.now t →
  Answers (.clientForget t c) s fun s' => s'.dict.clients = s.dict.clients.filter (fun q => decide (q.client ≠ c)) ∧
    s'.transfer c = none ∧ s'.dict.sessions = s.dict.sessions

/-- STORE_COMPLETE (R680 to R682): the image becomes the current one and the one before it is kept; a failed store leaves both. -/
def StoreComplete : Prop := ∀ (s : State) (t : Nat) (j : StoreJob), s.Inv → s.running = true → s.dict.storeJob = some j →
  Answers (.storeComplete t true) s (fun s' => s'.dict.storeJob = none ∧ s'.mram.current = some j.image ∧
    s'.mram.previous = s.mram.current ∧ s'.obj 0x1E30 1 = 1 ∧ s'.obj 0x1E30 3 = ((max s.now t - j.started) / 1000000 : Nat) ∧
    (s.obj 0x1E30 2 < 0xFFFFFFFF → s'.obj 0x1E30 2 = s.obj 0x1E30 2 + 1)) ∧
  Answers (.storeComplete t false) s (fun s' => s'.dict.storeJob = none ∧ s'.mram = s.mram ∧ s'.obj 0x1E30 1 = 2 ∧
    (s.obj 0x1E30 4 < 0xFFFFFFFF → s'.obj 0x1E30 4 = s.obj 0x1E30 4 + 1))

/-- The write that a command is: when, by whom, in which message, of which object, and what (R658). -/
def namedWrite : Instr → Option (Nat × Client × OdVia × Nat × Nat × Val)
  | .ppsSettingWrite t c via o comp v => if o < 2 then some (t, c, via, 0x2120 + o, if comp then 4 else 3, .num v) else none
  | .keptDataErase t c via => some (t, c, via, 0x3330, 8, .num 1)
  | .harbourModeOn t c via => some (t, c, via, 0x3340, 1, .num 1)
  | .harbourModeOff t c via => some (t, c, via, 0x3340, 1, .num 0)
  | .sourceReadmit t c via k => if k < 22 then some (t, c, via, 0x4120 + k, 9, .num 1) else none
  | .calibrationCommit t c via => some (t, c, via, 0x4230, 5, .num 1)
  | .trackDelete t c via k => if k < 64 then some (t, c, via, 0x4310 + k, 0x0D, .num 1) else none
  | .joystickWrite t c via a v => if a < 3 then some (t, c, via, 0x5010, 0x0C + a, .num v) else none
  | .controlRateWrite t c via v => some (t, c, via, 0x5001, 1, .num v)
  | .outputPhaseWrite t c via v => some (t, c, via, 0x5001, 2, .num v)
  | .bankSwap t c via => some (t, c, via, 0x5038, 2, .num 1)
  | .bankCopy t c via => some (t, c, via, 0x5038, 2, .num 2)
  | .busLimitWrite t c via b v => if b < 8 then some (t, c, via, 0x5120 + b, 2, .num v) else none
  | .allocationWrite t c via g v => if g < 32 then some (t, c, via, 0x5100 + g, 1, .num v) else none
  | .geometryWrite t c via i sub v =>
    if (0x5140 ≤ i ∧ i ≤ 0x515F) ∨ (0x5200 ≤ i ∧ i ≤ 0x523F) then some (t, c, via, i, sub, v) else none
  | .geometryModeWrite t c via v => some (t, c, via, 0x5130, 1, .num v)
  | .servoRateWrite t c via v => some (t, c, via, 0x6000, 1, .num v)
  | .servoBankSwap t c via => some (t, c, via, 0x6048, 2, .num 1)
  | .servoBankCopy t c via => some (t, c, via, 0x6048, 2, .num 2)
  | .sfARemoteReset t c via v => some (t, c, via, 0x7000, 4, .num v)
  | .safetyReset t c via v => some (t, c, via, 0x7000, 4, .num v)
  | .rejoinWrite t c via v => some (t, c, via, 0x8000, 6, .num v)
  | .drillNow t c via v => some (t, c, via, 0x8030, 3, .num v)
  | .safeTestCommand t c via k v => if k < 16 then some (t, c, via, 0x7120 + k, 0x0D, .num v) else none
  | .panelEnableWrite t c via v => some (t, c, via, 0x9100, 1, .num v)
  | .readClearArm t c via v => some (t, c, via, 0x9200, 8, .num v)
  | .injectionArm t c via => some (t, c, via, 0x9200, 4, .num 1)
  | .injectionCancel t c via => some (t, c, via, 0x9200, 4, .num 0)
  | .linkTestGenerate t c via l => if l < 18 then some (t, c, via, 0x9210 + l, 1, .num 1) else none
  | .linkTestCheck t c via l => if l < 18 then some (t, c, via, 0x9210 + l, 1, .num 2) else none
  | .linkTestLoopback t c via l => if l < 18 then some (t, c, via, 0x9210 + l, 1, .num 3) else none
  | .linkTestStop t c via l => if l < 18 then some (t, c, via, 0x9210 + l, 1, .num 0) else none
  | .userPairRun t c via u => if u < 2 then some (t, c, via, 0xA000 + u, 1, .num 1) else none
  | .userPairStop t c via u => if u < 2 then some (t, c, via, 0xA000 + u, 1, .num 0) else none
  | .imageWrite t c via u b => if u < 2 then some (t, c, via, 0xA010 + u, 0, .bytes b) else none
  | .clientNonce t c via b => some (t, c, via, 0x1E20, 1, .bytes b)
  | .clientTag t c via b => some (t, c, via, 0x1E20, 3, .bytes b)
  | .sessionCloseWrite t c via v => some (t, c, via, 0x1E20, 6, .num v)
  | .pairKeyWrite t c via b => some (t, c, via, 0x1E20, 9, .bytes b)
  | .storeParameters t c via p v => some (t, c, via, 0x1010, p, .num v)
  | .restoreDefaults t c via p v => some (t, c, via, 0x1011, p, .num v)
  | .areaWrite t c via v => some (t, c, via, 0x9002, 1, .num v)
  | .cursorWrite t c via v => some (t, c, via, 0x9002, 2, .num v)
  | .recorderSeal t c via => some (t, c, via, 0x9001, 2, .num 0x6C616573)
  | .recorderUnseal t c via => some (t, c, via, 0x9001, 3, .num 0x6E65706F)
  | .objectWrite t c via i sub v => some (t, c, via, i, sub, v)
  | _ => none

/-- A write command that goes its way: the module runs, its ports are on, the write is met in state `u` with value `w`, and nothing stands
against it. -/
def Goes (w : Instr) (s : State) (t : Nat) (c : Client) (i sub : Nat) (v : Val) (r : OdRow) : Prop :=
  s.Inv ∧ s.running = true ∧ s.power.portsOn = true ∧ ∃ via x u tag, namedWrite w = some (t, c, via, i, sub, x) ∧
    WriteMet s t c via i sub x u tag v ∧ Allowed (u.hear c none) c tag i sub r v

/-- Each command that is named for one object is the write of that object (R658). -/
def NamedWrites : Prop := ∀ (w : Instr) (s : State) (t : Nat) (c : Client) (via : OdVia) (i sub : Nat) (v : Val),
  namedWrite w = some (t, c, via, i, sub, v) → exec w s = exec (.objectWrite t c via i sub v) s

/-- A pair-wide or guarded write of a twin that is alone (Table 15-10): held for its boundary and answered; no object changes before. -/
def WritesAlone : Prop := ∀ (w : Instr) (s : State) (t : Nat) (c : Client) (i sub : Nat) (v : Val) (r : OdRow), Goes w s t c i sub v r →
  PairWide i sub r v → Alone s →
  Answers w s fun s' => HeldLast s s' i sub v (s.at t).mt ∧ Replied s' c i sub .done ∧ s.sameObjects s' [okey 0x8000 0x0C] ∧ s'.blobs = s.blobs

/-- A pair-wide or guarded write of the active twin beside its STANDBY (R592, R593): held, sent, and answered only when it is acknowledged. -/
def WritesPaired : Prop := ∀ (w : Instr) (s : State) (t : Nat) (c : Client) (i sub : Nat) (v : Val) (r : OdRow), Goes w s t c i sub v r →
  PairWide i sub r v → s.role = .active → s.linkUp = true → s.pair.partnerRole = some .standby → (∀ x, s.transfer c = some x → max s.now t < x.lastAt + 1000000000) →
  Answers w s fun s' => HeldLast s s' i sub v (s.at t).mt ∧
    (∃ h, Out.tw .write h ((okey i sub : Int) :: ((s.at t).mt : Int) :: v.ints) ∈ s'.out) ∧
    s'.dict.acks = s.dict.acks ++ [{ client := c, key := okey i sub, val := v, seqNo := some s'.pair.sendSeq, since := max s.now t }] ∧
    ∀ q, ¬ Replied s' c i sub q

/-- BANK_COPY and SERVO_BANK_COPY in a twin that is alone (R428, R507): at once every coefficient of the inactive bank is that of the active
one, the geometry tables of a slot with it where the geometry is banked, and no write to the inactive bank waits any more. -/
def BankCopies : Prop := ∀ (s : State) (t : Nat) (c : Client) (via : OdVia) (r : OdRow), Alone s →
  (s.nat 0x5038 1 ≤ 1 → Goes (.bankCopy t c via) s t c 0x5038 2 (.num 2) r → Answers (.bankCopy t c via) s fun s' =>
    let a := s.nat 0x5038 1
    Replied s' c 0x5038 2 .done ∧ (∀ k, 1 ≤ k → k ≤ 0x8D → s'.obj (0x5030 + (1 - a)) k = s.obj (0x5030 + a) k) ∧
    (s.obj 0x5130 1 = 0 → ∀ g < 16, (∀ k, 1 ≤ k → k ≤ 0x18 → s'.obj (0x5140 + (16 * (1 - a) + g)) k = s.obj (0x5140 + (16 * a + g)) k) ∧
      s'.blob (0x5200 + (16 * (1 - a) + g)) 0 = s.blob (0x5200 + (16 * a + g)) 0 ∧
      s'.blob (0x5220 + (16 * (1 - a) + g)) 0 = s.blob (0x5220 + (16 * a + g)) 0) ∧
    s'.held = s.held.filter (fun w => decide (s.bankOf (w.key / 256) ≠ some (1 - a)))) ∧
  (s.nat 0x6048 1 ≤ 1 → Goes (.servoBankCopy t c via) s t c 0x6048 2 (.num 2) r → Answers (.servoBankCopy t c via) s fun s' =>
    let a := s.nat 0x6048 1
    Replied s' c 0x6048 2 .done ∧ (∀ j < 2, (∀ k, 1 ≤ k → k ≤ 0x10 → s'.obj (0x6040 + 2 * j + (1 - a)) k = s.obj (0x6040 + 2 * j + a) k) ∧
      ∀ base ∈ [0x6070, 0x6074, 0x6078], s'.blob (base + 2 * j + (1 - a)) 0 = s.blob (base + 2 * j + a) 0) ∧
    s'.held = s.held.filter (fun w => decide (servoBankOf (w.key / 256) ≠ some (1 - a))))

/-- A write of a set-point or a bus limit (R594, Table 15-10): held in the active twin and answered at once. -/
def WritesMapped : Prop := ∀ (w : Instr) (s : State) (t : Nat) (c : Client) (i sub : Nat) (v : Val) (r : OdRow), Goes w s t c i sub v r →
  r.acc = .rwMapped → s.role = .active ∨ s.role = .offline →
  Answers w s fun s' => HeldLast s s' i sub v (s.at t).mt ∧ Replied s' c i sub .done ∧ s'.od = s.od

/-- A write that is refused, in the order of the checks (R661): no object, no access, no session, or a value that a check stands against;
nothing of it is kept. -/
def WritesRefused : Prop := ∀ (w : Instr) (s : State) (t : Nat) (c : Client) (via : OdVia) (i sub a : Nat) (x v : Val) (u : State)
  (tag : Option OdTag), s.Inv → s.running = true → s.power.portsOn = true → namedWrite w = some (t, c, via, i, sub, x) →
  WriteMet s t c via i sub x u tag v →
  ((s.missing i sub = some a) ∨
    ∃ r, s.row i sub = some r ∧ (accessAbort r = some a ∨ (accessAbort r = none ∧
      ((isGuarded r.acc = true ∧ (u.hear c none).sessionFor c tag i sub = .error a) ∨
        ((isGuarded r.acc = true → ∃ y, (u.hear c none).sessionFor c tag i sub = .ok y) ∧
          (u.hear c none).valueObjection true i sub r v = some a))))) →
  Answers w s fun s' => Replied s' c i sub (.abort a) ∧ s'.held = s.held ∧ s'.blobs = s.blobs ∧ s'.mram = s.mram ∧
    s.sameObjects s' [okey 0x7000 5, okey 0x5038 5, okey 0x6048 5]

/-- IMAGE_WRITE (R773, R774): the image is held for its verification. -/
def ImageWrite : Prop := ∀ (s : State) (t u : Nat) (c : Client) (via : OdVia) (b : List Byte) (r : OdRow), u < 2 →
  s.user.length = 2 → Goes (.imageWrite t c via u b) s t c (0xA010 + u) 0 (.bytes b) r → Alone s →
  Answers (.imageWrite t c via u b) s fun s' => (s'.userPair u).held = some b ∧ (s'.userPair u).loadDue = false ∧
    (s'.userPair u).runs = (s.userPair u).runs ∧ s'.obj (0xA000 + u) 3 = 1 ∧ s'.held = s.held ∧ Replied s' c (0xA010 + u) 0 .done

/-- KEPT_DATA_ERASE (R233): in this twin, at once. -/
def KeptErase : Prop := ∀ (s : State) (t : Nat) (c : Client) (via : OdVia) (r : OdRow),
  Goes (.keptDataErase t c via) s t c 0x3330 8 (.num 1) r →
  Answers (.keptDataErase t c via) s fun s' => s'.mram.kept = [] ∧ s'.held = s.held ∧ Replied s' c 0x3330 8 .done

/-- REJOIN_WRITE (R563): into SLIPWAY beside an ACTIVE partner; from OFFLINE without one the role is resolved again. -/
def RejoinWrite : Prop := ∀ (s : State) (t : Nat) (c : Client) (via : OdVia) (n : Int) (r : OdRow),
  Goes (.rejoinWrite t c via n) s t c 0x8000 6 (.num n) r →
  Answers (.rejoinWrite t c via n) s fun s' => Replied s' c 0x8000 6 .done ∧ s'.obj 0x8000 6 = 0 ∧
    (s.linkUp = true → s.pair.partnerRole = some .active → s'.role = .slipway) ∧
    (s.role = .offline → s.pair.partnerRole ≠ some .active → s'.role = .offline ∧ s'.pair.claiming = true)

/-- READ_CLEAR_ARM (R743): the named object is armed for this client, and for no other. -/
def ReadClearArm : Prop := ∀ (s : State) (t : Nat) (c : Client) (via : OdVia) (n : Int) (r : OdRow),
  Goes (.readClearArm t c via n) s t c 0x9200 8 (.num n) r →
  Answers (.readClearArm t c via n) s fun s' => Replied s' c 0x9200 8 .done ∧ (s'.clientRec c).armKey = some (n.toNat / 256) ∧
    (s'.clientRec c).armAt = max s.now t ∧
    ∀ d ≠ c, (s'.clientRec d).armKey = (s.clientRec d).armKey ∨ (s'.clientRec d).armKey = none

/-- INJECTION_ARM and INJECTION_CANCEL (R749, R752, R754). -/
def InjectionArms : Prop := ∀ (s : State) (t : Nat) (c : Client) (via : OdVia) (r : OdRow),
  (Goes (.injectionArm t c via) s t c 0x9200 4 (.num 1) r → Answers (.injectionArm t c via) s fun s' => Replied s' c 0x9200 4 .done ∧
    s'.obj 0x9200 5 = 1 ∧ s'.diagn.armedAt = max s.now t ∧ s'.diagn.left = if s.obj 0x9200 1 = 0x0D then 1 else s.nat 0x9200 3) ∧
  (Goes (.injectionCancel t c via) s t c 0x9200 4 (.num 0) r → Answers (.injectionCancel t c via) s fun s' => Replied s' c 0x9200 4 .done ∧
    s'.obj 0x9200 5 = 0 ∧ s'.diagn.left = 0)

/-- LINK_TEST_GENERATE, LINK_TEST_CHECK and LINK_TEST_LOOPBACK (R755, R758): the test runs with its counts cleared, and its link is out of
service. -/
def LinkTestStarts : Prop := ∀ (w : Instr) (s : State) (t l : Nat) (c : Client) (via : OdVia) (n : Int) (r : OdRow), l < 18 → n ≠ 0 →
  s.diagn.tests.length = 18 → s.pair.lanes.length = 2 → s.ring.ports.length = 2 →
  w = .linkTestGenerate t c via l ∨ w = .linkTestCheck t c via l ∨ w = .linkTestLoopback t c via l →
  Goes w s t c (0x9210 + l) 1 (.num n) r →
  Answers w s fun s' => Replied s' c (0x9210 + l) 1 .done ∧ s'.obj (0x9210 + l) 1 = n ∧ s'.underTest l = true ∧
    (∀ k, 4 ≤ k → k ≤ 7 → s'.obj (0x9210 + l) k = 0) ∧ (s'.linkTest l).startAt = max s.now t ∧
    (l < 2 → (nth {} s'.pair.lanes l).up = false) ∧ (2 ≤ l → l < 4 → (s'.ringPort (l - 2)).down = true)

/-- LINK_TEST_STOP (R758): the test ends, its counts stay. -/
def LinkTestStops : Prop := ∀ (s : State) (t l : Nat) (c : Client) (via : OdVia) (r : OdRow), l < 18 →
  Goes (.linkTestStop t c via l) s t c (0x9210 + l) 1 (.num 0) r →
  Answers (.linkTestStop t c via l) s fun s' => Replied s' c (0x9210 + l) 1 .done ∧ s'.obj (0x9210 + l) 1 = 0 ∧ s'.underTest l = false ∧
    (s.underTest l = true → s'.obj (0x9210 + l) 3 = 0) ∧ s'.obj (0x9210 + l) 5 = s.obj (0x9210 + l) 5 ∧
    s'.obj (0x9210 + l) 6 = s.obj (0x9210 + l) 6

/-- AREA_WRITE and CURSOR_WRITE (R723): of this client alone; the window is empty. -/
def RecorderCursor : Prop := ∀ (s : State) (t : Nat) (c : Client) (via : OdVia) (n : Int) (r : OdRow),
  (Goes (.areaWrite t c via n) s t c 0x9002 1 (.num n) r → Answers (.areaWrite t c via n) s fun s' => Replied s' c 0x9002 1 .done ∧
    (s'.clientRec c).area = n.toNat ∧ (s'.clientRec c).cursor = 0 ∧ (s'.clientRec c).window = [] ∧ s'.od = s.od) ∧
  (Goes (.cursorWrite t c via n) s t c 0x9002 2 (.num n) r → Answers (.cursorWrite t c via n) s fun s' => Replied s' c 0x9002 2 .done ∧
    (s'.clientRec c).cursor = n.toNat ∧ (s'.clientRec c).area = ((Seen s t).forgetSilent.clientRec c).area ∧ (s'.clientRec c).window = [] ∧ s'.od = s.od)

/-- CLIENT_NONCE, CLIENT_TAG and SESSION_CLOSE_WRITE over CAN (R675, R676, R678). -/
def CanSessions : Prop := ∀ (s : State) (t p : Nat) (via : OdVia) (b : List Byte) (r : OdRow),
  (Goes (.clientNonce t (.can p) via b) s t (.can p) 0x1E20 1 (.bytes b) r → Answers (.clientNonce t (.can p) via b) s fun s' =>
    ((s.at t).lockedOut = true → Replied s' (.can p) 0x1E20 1 (.abort 0x0F000003) ∧ s'.dict.sessions = s.dict.sessions) ∧
    ((s.at t).lockedOut = false → Replied s' (.can p) 0x1E20 1 .done ∧ s'.openedSession (.can p) = none ∧
      ∃ x, s'.challengeOf (.can p) = some x ∧ x.nc = b ∧ s'.blob 0x1E20 2 = x.nm ++ leBytes 4 x.id ++ s'.serialBytes)) ∧
  (∀ x, Goes (.clientTag t (.can p) via b) s t (.can p) 0x1E20 3 (.bytes b) r → (s.at t).lockedOut = false → s.challengeOf (.can p) = some x →
    (∀ y ∈ s.dict.sessions, y.client = .can p → y = x) → Answers (.clientTag t (.can p) via b) s fun s' =>
      (b = s.clientTag x → Replied s' (.can p) 0x1E20 3 .done ∧ (∃ y, s'.openedSession (.can p) = some y ∧ y.id = x.id) ∧
        s'.blob 0x1E20 4 = s.moduleTag x) ∧
      (b ≠ s.clientTag x → Replied s' (.can p) 0x1E20 3 (.abort 0x0F000002) ∧ s'.challengeOf (.can p) = none ∧
        s'.openedSession (.can p) = none)) ∧
  (∀ n, Goes (.sessionCloseWrite t (.can p) via n) s t (.can p) 0x1E20 6 (.num n) r → Answers (.sessionCloseWrite t (.can p) via n) s fun s' =>
    Replied s' (.can p) 0x1E20 6 .done ∧ s'.openedSession (.can p) = none)

/-- OBJECT_WRITE of an rw number (R658, Table 18-2): in force at once in this twin. -/
def ObjectWriteHere : Prop := ∀ (s : State) (t i sub : Nat) (c : Client) (via : OdVia) (n : Int) (r : OdRow), r.acc = .rw →
  i < 0x2000 → i ≠ 0x1E20 → Goes (.objectWrite t c via i sub (.num n)) s t c i sub (.num n) r →
  Answers (.objectWrite t c via i sub (.num n)) s fun s' => Replied s' c i sub .done ∧ s'.obj i sub = n ∧ s.sameObjects s' [okey i sub] ∧
    s'.held = s.held

end Sys2Proof.Claims

/-- O1. A step executes the command in front of the queue; on an empty queue one cycle of module time passes. What a step does on an
empty queue is the model's choice (DESIGN CHOICE, assumption log entry 9). -/
def Obligations.FrontCommandIsExecuted : Prop :=
  Sys2Proof.Claims.FrontIsExecuted ∧ Sys2Proof.Claims.IdlePasses

/-- O2. Every command answers a next state, leaves the queue alone and does not turn time back. -/
def Obligations.CommandsAnswer : Prop :=
  Sys2Proof.Claims.CommandsAnswer

/-- O3. The state after reset: without power, OFFLINE, every object at its default, outputs off. The values of registers that the spec
gives no reset value are the model's (assumption log entries 3 and 5); none of them is stated here but those the object tables
give. -/
def Obligations.AfterReset : Prop :=
  Sys2Proof.Claims.AfterReset

/-- O4. Every step keeps the stores canonical and the test access port within R77. -/
def Obligations.StepKeepsInv : Prop :=
  Sys2Proof.Claims.InvKept

/-- O5. Frame: a command changes no part of the machine that is not among its effects. -/
def Obligations.FrameOfParts : Prop :=
  Sys2Proof.Claims.FrameOfParts

/-- O6. Frame: a command changes no object outside the index ranges named for it. -/
def Obligations.FrameOfObjects : Prop :=
  Sys2Proof.Claims.FrameOfObjects

/-- O7. The straps are sampled when the supplies become valid and hold for the powered period. Completes: suppliesValid. -/
def Obligations.StrapsHold : Prop :=
  Sys2Proof.Claims.StrapsHold

/-- O8. In ACTIVE and STANDBY the test access port executes IDCODE and BYPASS alone. Completes: tapInstruction. -/
def Obligations.TapRule : Prop :=
  Sys2Proof.Claims.TapRule ∧ Sys2Proof.Claims.TapInstruction

/-- O9. Module time advances exactly by the rate: its rounding residual is carried, however the cycles are grouped. -/
def Obligations.ClockCarries : Prop :=
  Sys2Proof.Claims.ClockCarries

/-- O10. A saturating counter counts to FFFFFFFFh, stays there, and marks and records its saturation once. The record of the
saturation is stated for a recorder that takes records and whose queue holds one more. -/
def Obligations.CounterSaturates : Prop :=
  Sys2Proof.Claims.CounterSaturates

/-- O11. Grants of a ring frame stay within demand, slot limit and budget, and serve every slot that asks. -/
def Obligations.GrantsFit : Prop :=
  Sys2Proof.Claims.GrantsFit

/-- O12. STRAP_LEVEL_CHANGE: a strap that moves after sampling sets its sticky bit and no other. Completes: strapLevelChange. -/
def Obligations.StrapLevelChange : Prop :=
  Sys2Proof.Claims.StrapLevelChange

/-- O13. Pads of a role: a worker drives the DAC ports only while ACTIVE; a manager drives no servo pad and ignores what comes on one.
Completes: ssiBurst, drvfbChange. -/
def Obligations.PadsByRole : Prop :=
  Sys2Proof.Claims.DacPads ∧ Sys2Proof.Claims.ManagerPads

/-- O14. TRANSFER_TIMEOUT: a segmented transfer aborts after 1.0 s and leaves nothing held. Completes: transferTimeout. -/
def Obligations.TransferTimeout : Prop :=
  Sys2Proof.Claims.TransferTimeout

/-- O15. AREA_WRITE and CURSOR_WRITE: the read cursor and window of this client alone. Completes: areaWrite, cursorWrite. -/
def Obligations.RecorderCursor : Prop :=
  Sys2Proof.Claims.RecorderCursor

/-- O16. Supplies and MRST_N: timelines begin, the shutdown runs its course. Completes: suppliesValid, shutdownEnd, mrstNRelease,
totalSupplyLoss, mrstNAct. -/
def Obligations.PowerTimelines : Prop :=
  Sys2Proof.Claims.SuppliesValid ∧ Sys2Proof.Claims.ShutdownEnd ∧ Sys2Proof.Claims.MrstRelease ∧ Sys2Proof.Claims.TotalSupplyLoss ∧
  Sys2Proof.Claims.MrstAct

/-- O17. Supply inputs, supply warnings, oven and thermal readings. Completes: inputPresent, inputAbsent, supplyWarningChange,
ocxoWarm, thermalWarning. -/
def Obligations.SupplyAndThermal : Prop :=
  Sys2Proof.Claims.InputPresent ∧ Sys2Proof.Claims.InputAbsent ∧ Sys2Proof.Claims.SupplyWarning ∧ Sys2Proof.Claims.OcxoWarm ∧
  Sys2Proof.Claims.ThermalWarning

/-- O18. The steps of the start-up timeline, from the hold-up store to HOLD-READY. Completes: holdupStoreCharged,
configurationImageRead, resetsReleased, portsEnabled, safetySelfTestDone, holdReady, resumeAbandon. -/
def Obligations.StartupSteps : Prop :=
  Sys2Proof.Claims.HoldupCharged ∧ Sys2Proof.Claims.ImageRead ∧ Sys2Proof.Claims.ResetsReleased ∧ Sys2Proof.Claims.PortsEnabled ∧
  Sys2Proof.Claims.SafetySelfTest ∧ Sys2Proof.Claims.HoldReady ∧ Sys2Proof.Claims.ResumeAbandon ∧ Sys2Proof.Claims.FrontPads

/-- O19. Module time: first set, sources qualified, selected, changed and lost, slews and steps. Completes: timeFirstSet,
timeSourceQualify, timeSourceChange, timeSourceLoss, slewDone, timeStep. -/
def Obligations.TimeSources : Prop :=
  Sys2Proof.Claims.TimeFirstSet ∧ Sys2Proof.Claims.TimeSourceQualify ∧ Sys2Proof.Claims.TimeSourceChange ∧
  Sys2Proof.Claims.TimeSourceLoss ∧ Sys2Proof.Claims.SlewDone ∧ Sys2Proof.Claims.TimeStep

/-- O20. Pulses, time message, PTP events and forwarding, and the seconds read. Completes: ppsPulse, timeMessage, ptpEventRx,
ptpTransparentForward, timeSecondsRead. -/
def Obligations.TimeOutputs : Prop :=
  Sys2Proof.Claims.PpsPulse ∧ Sys2Proof.Claims.TimeMessage ∧ Sys2Proof.Claims.PtpEventRx ∧ Sys2Proof.Claims.PtpForward ∧
  Sys2Proof.Claims.TimeSecondsRead

/-- O21. Intermediate-frequency ports: framing, clock check, fault and retry. Completes: framingLock, framingError, ifClockCheck,
portFault, portRetry. -/
def Obligations.IfPorts : Prop :=
  Sys2Proof.Claims.FramingLock ∧ Sys2Proof.Claims.FramingError ∧ Sys2Proof.Claims.IfClockCheck ∧ Sys2Proof.Claims.PortFault ∧
  Sys2Proof.Claims.PortRetry

/-- O22. Front-end initialisation, stream levels and lane checkers. Completes: frontendInit, streamLevelCheck, ifLaneCheckerLock. -/
def Obligations.FrontEnds : Prop :=
  Sys2Proof.Claims.FrontendInit ∧ Sys2Proof.Claims.StreamLevel ∧ Sys2Proof.Claims.LaneCheckerLock

/-- O23. Tracking channels: assignment, release, acquisition jobs and their time limits. Completes: channelAssign, channelRelease,
acqJobStart, acqJobEnd, pullinTimeout, reacqTimeout. -/
def Obligations.ChannelLife : Prop :=
  Sys2Proof.Claims.ChannelAssign ∧ Sys2Proof.Claims.ChannelRelease ∧ Sys2Proof.Claims.AcqJobStart ∧ Sys2Proof.Claims.AcqJobEnd ∧
  Sys2Proof.Claims.PullinTimeout ∧ Sys2Proof.Claims.ReacqTimeout

/-- O24. Integration dumps and the detector window of a channel. Completes: integrationDump, detectorWindow. -/
def Obligations.ChannelTracking : Prop :=
  Sys2Proof.Claims.IntegrationDump ∧ Sys2Proof.Claims.DetectorWindow

/-- O25. Measurement instant and record, solutions and attitude. Completes: measurementInstant, measurementRecordReady, solutionReady,
attitudeReady. -/
def Obligations.GnssResults : Prop :=
  Sys2Proof.Claims.MeasurementInstant ∧ Sys2Proof.Claims.RecordReady ∧ Sys2Proof.Claims.SolutionReady ∧ Sys2Proof.Claims.AttitudeReady

/-- O26. Kept data written and erased; the harbour mode's waking and sleeping. Completes: keptDataWrite, keptDataErase, harbourWake,
harbourWakeEnd. -/
def Obligations.KeptDataAndHarbour : Prop :=
  Sys2Proof.Claims.KeptDataWrite ∧ Sys2Proof.Claims.KeptErase ∧ Sys2Proof.Claims.HarbourWake ∧ Sys2Proof.Claims.HarbourWakeEnd

/-- O27. Serial characters, packets and their queues. Completes: serialCharacterRx, packetCommit, packetDiscard, packetGapTimeout,
queueRead, packetConsume. -/
def Obligations.SerialIntake : Prop :=
  Sys2Proof.Claims.SerialCharacter ∧ Sys2Proof.Claims.PacketCommit ∧ Sys2Proof.Claims.PacketDiscard ∧ Sys2Proof.Claims.PacketGap ∧
  Sys2Proof.Claims.QueueRead ∧ Sys2Proof.Claims.PacketConsume

/-- O28. Decimation chains: output, clock window, clock loss. Completes: chainOutput, chainClockWindow, chainClockLoss. -/
def Obligations.Chains : Prop :=
  Sys2Proof.Claims.ChainOutput ∧ Sys2Proof.Claims.ChainClockWindow ∧ Sys2Proof.Claims.ChainClockLoss

/-- O29. Source exclusion, warm state, track processing and track time limit. Completes: sourceExclusion, warmStateWrite,
trackProcessing, trackTimeout. -/
def Obligations.AlignmentAndTracks : Prop :=
  Sys2Proof.Claims.SourceExclusion ∧ Sys2Proof.Claims.WarmStateWrite ∧ Sys2Proof.Claims.TrackProcessing ∧ Sys2Proof.Claims.TrackTimeout

/-- O30. Cycle and sample boundaries, the engine, Capstan and the pitch-back lines. Completes: cycleBoundary, sampleBoundary,
engineStart, capstanStart, pbtripChange. -/
def Obligations.CycleGrid : Prop :=
  Sys2Proof.Claims.CycleBoundary ∧ Sys2Proof.Claims.SampleBoundary ∧ Sys2Proof.Claims.EngineStart ∧ Sys2Proof.Claims.CapstanStart ∧
  Sys2Proof.Claims.PbtripChange

/-- O31. At a boundary the bank-swap gate puts held writes of every kind into effect. Stated for a manager in OFFLINE whose boundary
only opens the gate. That a boundary of the cycle is where the gate of an OFFLINE twin opens is the model's choice (assumption log
entry 44). Completes: cycleBoundary. -/
def Obligations.GateOpens : Prop :=
  Sys2Proof.Claims.GateOpens

/-- O32. Mode supervision and the mode, DISENGAGED and BOLLARD requests. Completes: modeSupervision, modeRequest, disengageRequest,
bollardRequest. -/
def Obligations.ControlModes : Prop :=
  Sys2Proof.Claims.ModeSupervision ∧ Sys2Proof.Claims.ModeRequest ∧ Sys2Proof.Claims.DisengageRequest ∧ Sys2Proof.Claims.BollardRequest

/-- O33. Wymal frames: start, forwarding, the command section and the feedback packets. Completes: ringFrameStart, ringPacketForward,
commandSectionRx, commandSectionReturn, feedbackPacketPass, feedbackPacketReturn. -/
def Obligations.RingFrames : Prop :=
  Sys2Proof.Claims.RingFrameStart ∧ Sys2Proof.Claims.RingPacketForward ∧ Sys2Proof.Claims.CommandSectionRx ∧
  Sys2Proof.Claims.CommandSectionReturn ∧ Sys2Proof.Claims.FeedbackPacketPass ∧ Sys2Proof.Claims.FeedbackPacketReturn

/-- O34. Wymal state: sync packets, time loss, owners, wrapping and unwrapping, containers. Completes: syncPacketRx, ringTimeLoss,
ownerExpiry, ringLinkDown, ringUnwrap, containerPass. -/
def Obligations.RingState : Prop :=
  Sys2Proof.Claims.SyncPacketRx ∧ Sys2Proof.Claims.RingTimeLoss ∧ Sys2Proof.Claims.OwnerExpiry ∧ Sys2Proof.Claims.RingLinkDown ∧
  Sys2Proof.Claims.RingUnwrap ∧ Sys2Proof.Claims.ContainerPass

/-- O35. Encoder bursts, thruster time limits, drive feedback and DAC frames. Completes: ssiBurst, enableTimeout, driveDropTimeout,
staleHoldTimeout, offDelayExpiry, drvfbChange, dacFrame. -/
def Obligations.WorkerServo : Prop :=
  Sys2Proof.Claims.SsiBurst ∧ Sys2Proof.Claims.ThrusterTimeouts ∧ Sys2Proof.Claims.DrvfbChange ∧ Sys2Proof.Claims.DacFrame

/-- O36. Safe inputs and SF-A: changes, discrepancy, reset, test pulses and frames, sensor supplies and their retry. Completes:
safeInputChange, sfADiscrepancy, sfAResetPulse, testPulse, testFrameCheck, ssOverload, ssRetry. -/
def Obligations.SafeInputs : Prop :=
  Sys2Proof.Claims.SafeInputChange ∧ Sys2Proof.Claims.SfaDiscrepancy ∧ Sys2Proof.Claims.SfaResetPulse ∧ Sys2Proof.Claims.TestPulse ∧
  Sys2Proof.Claims.TestFrameCheck ∧ Sys2Proof.Claims.SsOverload ∧ Sys2Proof.Claims.SsRetry

/-- O37. Safe-output channel tests and readbacks latch SF-E; a supervision fault drops every output. Completes: soChannelTest,
soReadbackTimeout, supervisionFault. -/
def Obligations.SafeOutputTests : Prop :=
  Sys2Proof.Claims.SoChannelTest ∧ Sys2Proof.Claims.SoReadback ∧ Sys2Proof.Claims.SupervisionFault

/-- O38. Twin-link messages, inputs, the agreed set and the digests. Completes: twMessageRx, inputMessage, setMessage, setAckMessage,
digestMessage, ganderCompare, writeMessage. -/
def Obligations.TwinMessages : Prop :=
  Sys2Proof.Claims.TwMessageRx ∧ Sys2Proof.Claims.InputMessage ∧ Sys2Proof.Claims.SetMessage ∧ Sys2Proof.Claims.SetAckMessage ∧
  Sys2Proof.Claims.DigestMessage ∧ Sys2Proof.Claims.GanderCompare ∧ Sys2Proof.Claims.WriteMessage

/-- O39. Twin-link time, heartbeats, fault notices and demands. Completes: timeMessageTw, timeMessageSend, heartbeatSend,
hardFaultNotice, partnerDemand. -/
def Obligations.TwinTimeAndControl : Prop :=
  Sys2Proof.Claims.TimeMessageTw ∧ Sys2Proof.Claims.TimeMessageSend ∧ Sys2Proof.Claims.HeartbeatSend ∧ Sys2Proof.Claims.ControlMessages

/-- O40. Takeover: its triggers, the lanes, the partner gone, and the takeover itself. Completes: takeover, release, takeOverIFall,
takeOverIRise, laneDown, laneUp, partnerGone. -/
def Obligations.Takeovers : Prop :=
  Sys2Proof.Claims.Takeover ∧ Sys2Proof.Claims.TakeoverTriggers ∧ Sys2Proof.Claims.TakeOverIRise ∧ Sys2Proof.Claims.LaneDown ∧
  Sys2Proof.Claims.LaneUp ∧ Sys2Proof.Claims.PartnerGone

/-- O41. Roles at start-up, claims, conflicts, and the write that asks to rejoin. Completes: startupWaitExpiry, claimWaitExpiry,
bothActiveConflict, rejoinWrite. -/
def Obligations.RolesResolved : Prop :=
  Sys2Proof.Claims.StartupWait ∧ Sys2Proof.Claims.ClaimWait ∧ Sys2Proof.Claims.BothActive ∧ Sys2Proof.Claims.RejoinWrite

/-- O42. Hard faults, the self-test after one, and the automatic rejoin. Completes: hardFault, suspectSelfTestDone, autoRejoin. -/
def Obligations.FaultsAndRejoin : Prop :=
  Sys2Proof.Claims.HardFault ∧ Sys2Proof.Claims.SelfTestDone ∧ Sys2Proof.Claims.AutoRejoin

/-- O43. Joining: request, SLIPWAY blocks, completion, failure, retry; and the drill due. Completes: joinRequest, slipwayMessage,
slipwayComplete, slipwayFail, slipwayRetry, drillDue. -/
def Obligations.Slipway : Prop :=
  Sys2Proof.Claims.JoinRequest ∧ Sys2Proof.Claims.SlipwayMessage ∧ Sys2Proof.Claims.SlipwayComplete ∧ Sys2Proof.Claims.SlipwayFail ∧
  Sys2Proof.Claims.SlipwayRetry ∧ Sys2Proof.Claims.DrillDue

/-- O44. Safe connections: production, reception, pairing windows and channel reports. Completes: safeProduce, safeFrameRx,
pairingWindowEnd, channelReportRx, channelReportSend. -/
def Obligations.SafeNetMessages : Prop :=
  Sys2Proof.Claims.SafeProduce ∧ Sys2Proof.Claims.SafeFrameRx ∧ Sys2Proof.Claims.PairingWindowEnd ∧ Sys2Proof.Claims.ChannelReportRx ∧
  Sys2Proof.Claims.ChannelReportSend

/-- O45. The second copy of a safe frame, probes, lost connections, supervision frames and network links. Completes: safeFrameRx,
probeSend, connectionLost, prpSupervisionSend, netLinkChange. -/
def Obligations.SafeNetSupervision : Prop :=
  Sys2Proof.Claims.SafeCopyRx ∧ Sys2Proof.Claims.ProbeSend ∧ Sys2Proof.Claims.ConnectionLost ∧ Sys2Proof.Claims.PrpSupervision ∧
  Sys2Proof.Claims.NetLinkChange

/-- O46. Records accepted and dropped, the directory, and the capture of a record. Completes: recordAccept, recordDrop,
directoryUpdate, windowCapture. -/
def Obligations.Recorder : Prop :=
  Sys2Proof.Claims.RecordAccept ∧ Sys2Proof.Claims.RecordDrop ∧ Sys2Proof.Claims.DirectoryUpdate ∧ Sys2Proof.Claims.WindowCapture

/-- O47. The panel's waveform, frames and update requests. Completes: panelHalfCycle, panelFrameEnd, panelUpdateRequest. -/
def Obligations.Panel : Prop :=
  Sys2Proof.Claims.PanelHalfCycle ∧ Sys2Proof.Claims.PanelFrameEnd ∧ Sys2Proof.Claims.PanelUpdate

/-- O48. Scrubbing, uncorrectable words, read-clears and their arming. Completes: scrubPass, uncorrectableWord, readClear,
readClearArm. -/
def Obligations.MemoryAndClears : Prop :=
  Sys2Proof.Claims.ScrubPass ∧ Sys2Proof.Claims.UncorrectableWord ∧ Sys2Proof.Claims.ReadClear ∧ Sys2Proof.Claims.ReadClearArm

/-- O49. Fault injection: arming, cancelling, the injection and its detection time limit. How 0Dh counts as one injection is a DESIGN
CHOICE (assumption log entry 41). Completes: injectionArm, injectionCancel, injection, detectionTimeout. -/
def Obligations.Injections : Prop :=
  Sys2Proof.Claims.InjectionArms ∧ Sys2Proof.Claims.Injection ∧ Sys2Proof.Claims.DetectionTimeout

/-- O50. Link tests: start, stop, time limit, loopback frames and pattern checkers. What a loopback counts, and when it is locked, is
a DESIGN CHOICE (assumption log entry 41). Completes: linkTestGenerate, linkTestCheck, linkTestLoopback, linkTestStop,
linkTestTimeLimit, loopbackFrame, prbsCheckerLock. -/
def Obligations.LinkTests : Prop :=
  Sys2Proof.Claims.LinkTestStarts ∧ Sys2Proof.Claims.LinkTestStops ∧ Sys2Proof.Claims.LinkTestTimeLimit ∧
  Sys2Proof.Claims.LoopbackFrame ∧ Sys2Proof.Claims.PrbsLock

/-- O51. User pairs: the slot, environment calls and the return. That a read is cut to the buffer and that a mailbox write of anything
but an own output answers 06020000h are DESIGN CHOICES (assumption log entry 42). Completes: userSlotOpen, odReadCall, mbWrite,
propose, returnCall. -/
def Obligations.UserCalls : Prop :=
  Sys2Proof.Claims.UserSlotOpen ∧ Sys2Proof.Claims.OdReadCall ∧ Sys2Proof.Claims.MbWrite ∧ Sys2Proof.Claims.Propose ∧
  Sys2Proof.Claims.Return

/-- O52. User pairs: overruns, faults, images written and verified. Completes: slotOverrun, userPairFault, imageWrite, imageVerified. -/
def Obligations.UserPairLife : Prop :=
  Sys2Proof.Claims.SlotOverrun ∧ Sys2Proof.Claims.UserPairFault ∧ Sys2Proof.Claims.ImageWrite ∧ Sys2Proof.Claims.ImageVerified

/-- O53. SDO requests: uploads, segments, downloads and aborts. The SDO protocol is abstract (assumption log entry 43). Completes:
sdoRequest. -/
def Obligations.SdoTransfers : Prop :=
  Sys2Proof.Claims.SdoRequests

/-- O54. CAN: process data, SYNC, NMT, heartbeats and error states. Completes: rpdoRx, syncRx, tpdoSend, nmtCommand, canHeartbeat,
canErrorStateChange. -/
def Obligations.CanServices : Prop :=
  Sys2Proof.Claims.RpdoRx ∧ Sys2Proof.Claims.SyncRx ∧ Sys2Proof.Claims.TpdoSend ∧ Sys2Proof.Claims.NmtCommand ∧
  Sys2Proof.Claims.CanHeartbeat ∧ Sys2Proof.Claims.CanErrorState

/-- O55. OD network: reads, writes in one message and in segments, clients forgotten. Completes: odRead, odWrite, clientForget. -/
def Obligations.OdNetwork : Prop :=
  Sys2Proof.Claims.OdRead ∧ Sys2Proof.Claims.OdWriteC ∧ Sys2Proof.Claims.ClientForget

/-- O56. Sessions over the network and over CAN, their idle end and the lockout. Completes: sessionOpen, sessionAuthenticate,
sessionClose, sessionIdleTimeout, lockoutExpiry, clientNonce, clientTag, sessionCloseWrite. -/
def Obligations.Sessions : Prop :=
  Sys2Proof.Claims.SessionOpen ∧ Sys2Proof.Claims.SessionAuthenticate ∧ Sys2Proof.Claims.SessionClose ∧ Sys2Proof.Claims.SessionIdle ∧
  Sys2Proof.Claims.LockoutExpiry ∧ Sys2Proof.Claims.CanSessions

/-- O57. The store of the configuration, and a plain rw write in force at once. Completes: storeComplete, objectWrite. -/
def Obligations.StoreAndPlainWrites : Prop :=
  Sys2Proof.Claims.StoreComplete ∧ Sys2Proof.Claims.ObjectWriteHere

/-- O58. Each named write is the write of its object; alone, a guarded write is held and answered, a bank copied at once. The commands
named for one object are those that namedWrite lists: ppsSettingWrite, keptDataErase, harbourModeOn, harbourModeOff,
sourceReadmit, calibrationCommit, trackDelete, joystickWrite, controlRateWrite, outputPhaseWrite, bankSwap, bankCopy,
busLimitWrite, allocationWrite, geometryWrite, geometryModeWrite, servoRateWrite, servoBankSwap, servoBankCopy, sfARemoteReset,
safetyReset, rejoinWrite, drillNow, safeTestCommand, panelEnableWrite, readClearArm, injectionArm, injectionCancel,
linkTestGenerate, linkTestCheck, linkTestLoopback, linkTestStop, userPairRun, userPairStop, imageWrite, clientNonce, clientTag,
sessionCloseWrite, pairKeyWrite, storeParameters, restoreDefaults, areaWrite, cursorWrite, recorderSeal, recorderUnseal,
objectWrite. Completes: bankCopy, servoBankCopy. -/
def Obligations.NamedWritesAlone : Prop :=
  Sys2Proof.Claims.NamedWrites ∧ Sys2Proof.Claims.WritesAlone ∧ Sys2Proof.Claims.BankCopies

/-- O59. Beside a STANDBY a guarded write is held, sent and answered later; a mapped one is held and answered at once. -/
def Obligations.WritesBesideStandby : Prop :=
  Sys2Proof.Claims.WritesPaired ∧ Sys2Proof.Claims.WritesMapped

/-- O60. A refused write answers its abort code and nothing of it is kept. -/
def Obligations.WritesRefused : Prop :=
  Sys2Proof.Claims.WritesRefused
end

