-- ==== Sys2Proof/Laws/Store.lean ====
section
/-! SUPPORT. The sparse stores: what their canonical form means, that every operation keeps it, and the two read-after-write
laws. -/

namespace Sys2Proof.Machine

open Sys2Proof

variable {β : Type} [DecidableEq β]

/-- Canonical form in words: keys strictly rise, and no entry equals its default. -/
theorem assocOk_iff (dflt : Nat → β) (m : List (Nat × β)) (lo : Option Nat) :
    assocOk dflt lo m = true ↔
      (∀ e ∈ m, (∀ l, lo = some l → l < e.1) ∧ e.2 ≠ dflt e.1) ∧ m.Pairwise fun a b => a.1 < b.1 := by
  induction m generalizing lo with
  | nil => simp [assocOk]
  | cons e rest ih =>
    obtain ⟨k, v⟩ := e
    have step : (∀ e ∈ rest, (∀ l, some k = some l → l < e.1) ∧ e.2 ≠ dflt e.1) ↔
        (∀ e ∈ rest, k < e.1) ∧ ∀ e ∈ rest, e.2 ≠ dflt e.1 := by
      simp only [Option.some.injEq, forall_eq']
      exact ⟨fun h => ⟨fun e he => (h e he).1, fun e he => (h e he).2⟩, fun h e he => ⟨h.1 e he, h.2 e he⟩⟩
    cases lo with
    | none =>
      simp only [assocOk, Bool.true_and, Bool.and_eq_true, ih, step, decide_eq_true_eq, List.pairwise_cons, List.forall_mem_cons]
      simp
      tauto
    | some l =>
      simp only [assocOk, Bool.and_eq_true, ih, step, decide_eq_true_eq, List.pairwise_cons, List.forall_mem_cons]
      simp only [Option.some.injEq, forall_eq']
      constructor
      · rintro ⟨⟨h1, h2⟩, ⟨h3, h4⟩, h5⟩
        exact ⟨⟨⟨h1, h2⟩, fun e he => ⟨lt_trans h1 (h3 e he), h4 e he⟩⟩, h3, h5⟩
      · rintro ⟨⟨⟨h1, h2⟩, h4⟩, h3, h5⟩
        exact ⟨⟨h1, h2⟩, ⟨h3, fun e he => (h4 e he).2⟩, h5⟩

/-- The same for a whole store. -/
theorem storeWf_iff (dflt : Nat → β) (m : List (Nat × β)) :
    storeWf dflt m = true ↔ (∀ e ∈ m, e.2 ≠ dflt e.1) ∧ m.Pairwise fun a b => a.1 < b.1 := by
  simp [storeWf, assocOk_iff]

/-- Part of a store is a store. -/
theorem storeWf_filter (dflt : Nat → β) (m : List (Nat × β)) (p : Nat × β → Bool) (h : storeWf dflt m = true) :
    storeWf dflt (m.filter p) = true := by
  rw [storeWf_iff] at *
  exact ⟨fun e he => h.1 e (List.mem_of_mem_filter he), h.2.filter p⟩

omit [DecidableEq β] in
/-- What an erased store holds. -/
theorem mem_assocErase (m : List (Nat × β)) (k : Nat) (e : Nat × β) (h : e ∈ assocErase m k) : e ∈ m := by
  induction m with
  | nil => exact h
  | cons a rest ih =>
    obtain ⟨j, w⟩ := a
    simp only [assocErase] at h
    split at h
    · exact List.mem_cons_of_mem _ h
    · split at h
      · exact h
      · rcases List.mem_cons.1 h with rfl | h
        · exact List.mem_cons_self
        · exact List.mem_cons_of_mem _ (ih h)

omit [DecidableEq β] in
/-- Erasing keeps the order of keys. -/
theorem assocErase_sorted (m : List (Nat × β)) (k : Nat) (h : m.Pairwise fun a b => a.1 < b.1) :
    (assocErase m k).Pairwise fun a b => a.1 < b.1 := by
  induction m with
  | nil => exact h
  | cons a rest ih =>
    obtain ⟨j, w⟩ := a
    rw [List.pairwise_cons] at h
    simp only [assocErase]
    split
    · exact h.2
    · split
      · exact List.pairwise_cons.2 h
      · exact List.pairwise_cons.2 ⟨fun e he => h.1 e (mem_assocErase _ _ _ he), ih h.2⟩

omit [DecidableEq β] in
/-- What an insertion leaves. -/
theorem mem_assocInsert (m : List (Nat × β)) (k : Nat) (v : β) (e : Nat × β) (h : e ∈ assocInsert m k v) :
    e = (k, v) ∨ e ∈ m := by
  induction m with
  | nil => simpa [assocInsert] using h
  | cons a rest ih =>
    obtain ⟨j, w⟩ := a
    simp only [assocInsert] at h
    split at h
    · rcases List.mem_cons.1 h with rfl | h
      · exact .inl rfl
      · exact .inr (List.mem_cons_of_mem _ h)
    · split at h
      · simpa using h
      · rcases List.mem_cons.1 h with rfl | h
        · exact .inr List.mem_cons_self
        · exact (ih h).imp id (List.mem_cons_of_mem _)

omit [DecidableEq β] in
/-- An insertion keeps the order of keys. -/
theorem assocInsert_sorted (m : List (Nat × β)) (k : Nat) (v : β) (h : m.Pairwise fun a b => a.1 < b.1) :
    (assocInsert m k v).Pairwise fun a b => a.1 < b.1 := by
  induction m with
  | nil => simp [assocInsert]
  | cons a rest ih =>
    obtain ⟨j, w⟩ := a
    rw [List.pairwise_cons] at h
    simp only [assocInsert]
    split
    · next hj => exact List.pairwise_cons.2 ⟨fun e he => hj ▸ h.1 e he, h.2⟩
    · split
      · next hj hk =>
        refine List.pairwise_cons.2 ⟨fun e he => ?_, List.pairwise_cons.2 h⟩
        rcases List.mem_cons.1 he with rfl | he
        · exact hk
        · exact lt_trans hk (h.1 e he)
      · next hj hk =>
        refine List.pairwise_cons.2 ⟨fun e he => ?_, ih h.2⟩
        rcases mem_assocInsert _ _ _ _ he with rfl | he
        · exact lt_of_le_of_ne (not_lt.1 hk) hj
        · exact h.1 e he

/-- A write keeps the canonical form. -/
theorem storeWf_assocSet (dflt : Nat → β) (m : List (Nat × β)) (k : Nat) (v : β) (h : storeWf dflt m = true) :
    storeWf dflt (assocSet (dflt k) m k v) = true := by
  rw [storeWf_iff] at *
  unfold assocSet
  split
  · exact ⟨fun e he => h.1 e (mem_assocErase _ _ _ he), assocErase_sorted _ _ h.2⟩
  · next hv =>
    refine ⟨fun e he => ?_, assocInsert_sorted _ _ _ h.2⟩
    rcases mem_assocInsert _ _ _ _ he with rfl | he
    · exact hv
    · exact h.1 e he

omit [DecidableEq β] in
/-- In a sorted store whose keys all lie above `k`, nothing is listed at `k`. -/
theorem assocGet_below (d : β) (m : List (Nat × β)) (k : Nat) (h : ∀ e ∈ m, k < e.1) : assocGet d m k = d := by
  cases m with
  | nil => rfl
  | cons a rest =>
    obtain ⟨j, w⟩ := a
    have hj : k < j := h (j, w) List.mem_cons_self
    simp [assocGet, hj, Nat.ne_of_gt hj]

omit [DecidableEq β] in
/-- After an erasure the key reads as its default, and every other key as before. -/
theorem assocGet_assocErase (d : β) (m : List (Nat × β)) (k l : Nat) (h : m.Pairwise fun a b => a.1 < b.1) :
    assocGet d (assocErase m k) l = if l = k then d else assocGet d m l := by
  induction m with
  | nil => simp [assocErase, assocGet]
  | cons a rest ih =>
    obtain ⟨j, w⟩ := a
    rw [List.pairwise_cons] at h
    have below := fun (n : Nat) (hn : n ≤ j) => assocGet_below d rest n fun e he => lt_of_le_of_lt hn (h.1 e he)
    by_cases hjk : j = k
    · subst hjk
      by_cases hl : l = j
      · simp [assocErase, hl, below j le_rfl]
      · by_cases hlj : l < j
        · simp [assocErase, assocGet, hl, hlj, Ne.symm hl, below l hlj.le]
        · simp [assocErase, assocGet, hl, hlj, Ne.symm hl]
    · by_cases hkj : k < j
      · by_cases hl : l = k
        · subst hl
          simp [assocErase, assocGet, hjk, hkj]
        · simp [assocErase, hjk, hkj, hl]
      · by_cases hl : l = k
        · subst hl
          simp [assocErase, assocGet, hjk, hkj, ih h.2]
        · simp [assocErase, assocGet, hjk, hkj, ih h.2, hl]

omit [DecidableEq β] in
/-- After an insertion the key reads as written, and every other key as before. -/
theorem assocGet_assocInsert (d : β) (m : List (Nat × β)) (k l : Nat) (v : β) (h : m.Pairwise fun a b => a.1 < b.1) :
    assocGet d (assocInsert m k v) l = if l = k then v else assocGet d m l := by
  induction m with
  | nil =>
    by_cases hl : l = k
    · simp [assocInsert, assocGet, hl]
    · simp [assocInsert, assocGet, hl, Ne.symm hl]
  | cons a rest ih =>
    obtain ⟨j, w⟩ := a
    rw [List.pairwise_cons] at h
    by_cases hjk : j = k
    · subst hjk
      by_cases hl : l = j
      · simp [assocInsert, assocGet, hl]
      · simp [assocInsert, assocGet, hl, Ne.symm hl]
    · by_cases hkj : k < j
      · by_cases hl : l = k
        · simp [assocInsert, assocGet, hjk, hkj, hl]
        · by_cases hlk : l < k
          · have : l < j := lt_trans hlk hkj
            simp [assocInsert, assocGet, hjk, hkj, hl, hlk, Ne.symm hl, this, Nat.ne_of_gt this]
          · simp [assocInsert, assocGet, hjk, hkj, hl, hlk, Ne.symm hl]
      · by_cases hl : l = k
        · subst hl
          simp [assocInsert, assocGet, hjk, hkj, ih h.2]
        · simp [assocInsert, assocGet, hjk, hkj, ih h.2, hl]

/-- Read after write: the key written reads as written, every other key as before. -/
theorem assocGet_assocSet (d : β) (m : List (Nat × β)) (k l : Nat) (v : β) (h : m.Pairwise fun a b => a.1 < b.1) :
    assocGet d (assocSet d m k v) l = if l = k then v else assocGet d m l := by
  unfold assocSet
  split
  · next hv => rw [assocGet_assocErase d m k l h, hv]
  · exact assocGet_assocInsert d m k l v h

end Sys2Proof.Machine
end

