-- ==== Sys2Proof/Laws/State.lean ====
section
/-! SUPPORT. What each named update leaves alone, field by field; what it makes a later read of an object give; and the frame
that every command runs in. No proof over commands need unfold an update again. -/

namespace Sys2Proof.Machine

open Sys2Proof

/-! ### The basic updates -/

@[simp] theorem State.setObjK_now (s : State) (k : Nat) (v : Int) : (s.setObjK k v).now = s.now := rfl
@[simp] theorem State.setObjK_power (s : State) (k : Nat) (v : Int) : (s.setObjK k v).power = s.power := rfl
@[simp] theorem State.setObjK_ident (s : State) (k : Nat) (v : Int) : (s.setObjK k v).ident = s.ident := rfl
@[simp] theorem State.setObjK_clock (s : State) (k : Nat) (v : Int) : (s.setObjK k v).clock = s.clock := rfl
@[simp] theorem State.setObjK_blobs (s : State) (k : Nat) (v : Int) : (s.setObjK k v).blobs = s.blobs := rfl
@[simp] theorem State.setObjK_held (s : State) (k : Nat) (v : Int) : (s.setObjK k v).held = s.held := rfl
@[simp] theorem State.setObjK_dict (s : State) (k : Nat) (v : Int) : (s.setObjK k v).dict = s.dict := rfl
@[simp] theorem State.setObjK_recorder (s : State) (k : Nat) (v : Int) : (s.setObjK k v).recorder = s.recorder := rfl
@[simp] theorem State.setObjK_pair (s : State) (k : Nat) (v : Int) : (s.setObjK k v).pair = s.pair := rfl
@[simp] theorem State.setObjK_alarms (s : State) (k : Nat) (v : Int) : (s.setObjK k v).alarms = s.alarms := rfl
@[simp] theorem State.setObjK_saturated (s : State) (k : Nat) (v : Int) : (s.setObjK k v).saturated = s.saturated := rfl
@[simp] theorem State.setObjK_mram (s : State) (k : Nat) (v : Int) : (s.setObjK k v).mram = s.mram := rfl
@[simp] theorem State.setObjK_tap (s : State) (k : Nat) (v : Int) : (s.setObjK k v).tap = s.tap := rfl
@[simp] theorem State.setObjK_gnss (s : State) (k : Nat) (v : Int) : (s.setObjK k v).gnss = s.gnss := rfl
@[simp] theorem State.setObjK_gsol (s : State) (k : Nat) (v : Int) : (s.setObjK k v).gsol = s.gsol := rfl
@[simp] theorem State.setObjK_intake (s : State) (k : Nat) (v : Int) : (s.setObjK k v).intake = s.intake := rfl
@[simp] theorem State.setObjK_align (s : State) (k : Nat) (v : Int) : (s.setObjK k v).align = s.align := rfl
@[simp] theorem State.setObjK_est (s : State) (k : Nat) (v : Int) : (s.setObjK k v).est = s.est := rfl
@[simp] theorem State.setObjK_trk (s : State) (k : Nat) (v : Int) : (s.setObjK k v).trk = s.trk := rfl
@[simp] theorem State.setObjK_ctl (s : State) (k : Nat) (v : Int) : (s.setObjK k v).ctl = s.ctl := rfl
@[simp] theorem State.setObjK_ring (s : State) (k : Nat) (v : Int) : (s.setObjK k v).ring = s.ring := rfl
@[simp] theorem State.setObjK_alc (s : State) (k : Nat) (v : Int) : (s.setObjK k v).alc = s.alc := rfl
@[simp] theorem State.setObjK_srv (s : State) (k : Nat) (v : Int) : (s.setObjK k v).srv = s.srv := rfl
@[simp] theorem State.setObjK_saf (s : State) (k : Nat) (v : Int) : (s.setObjK k v).saf = s.saf := rfl
@[simp] theorem State.setObjK_net (s : State) (k : Nat) (v : Int) : (s.setObjK k v).net = s.net := rfl
@[simp] theorem State.setObjK_panel (s : State) (k : Nat) (v : Int) : (s.setObjK k v).panel = s.panel := rfl
@[simp] theorem State.setObjK_diagn (s : State) (k : Nat) (v : Int) : (s.setObjK k v).diagn = s.diagn := rfl
@[simp] theorem State.setObjK_user (s : State) (k : Nat) (v : Int) : (s.setObjK k v).user = s.user := rfl
@[simp] theorem State.setObjK_out (s : State) (k : Nat) (v : Int) : (s.setObjK k v).out = s.out := rfl
@[simp] theorem State.setObjK_freeCount (s : State) (k : Nat) (v : Int) : (s.setObjK k v).freeCount = s.freeCount := rfl
@[simp] theorem State.setObjK_pending (s : State) (k : Nat) (v : Int) : (s.setObjK k v).pending = s.pending := rfl

@[simp] theorem State.setObj_now (s : State) (i sub : Nat) (v : Int) : (s.setObj i sub v).now = s.now := rfl
@[simp] theorem State.setObj_power (s : State) (i sub : Nat) (v : Int) : (s.setObj i sub v).power = s.power := rfl
@[simp] theorem State.setObj_ident (s : State) (i sub : Nat) (v : Int) : (s.setObj i sub v).ident = s.ident := rfl
@[simp] theorem State.setObj_clock (s : State) (i sub : Nat) (v : Int) : (s.setObj i sub v).clock = s.clock := rfl
@[simp] theorem State.setObj_blobs (s : State) (i sub : Nat) (v : Int) : (s.setObj i sub v).blobs = s.blobs := rfl
@[simp] theorem State.setObj_held (s : State) (i sub : Nat) (v : Int) : (s.setObj i sub v).held = s.held := rfl
@[simp] theorem State.setObj_dict (s : State) (i sub : Nat) (v : Int) : (s.setObj i sub v).dict = s.dict := rfl
@[simp] theorem State.setObj_recorder (s : State) (i sub : Nat) (v : Int) : (s.setObj i sub v).recorder = s.recorder := rfl
@[simp] theorem State.setObj_pair (s : State) (i sub : Nat) (v : Int) : (s.setObj i sub v).pair = s.pair := rfl
@[simp] theorem State.setObj_alarms (s : State) (i sub : Nat) (v : Int) : (s.setObj i sub v).alarms = s.alarms := rfl
@[simp] theorem State.setObj_saturated (s : State) (i sub : Nat) (v : Int) : (s.setObj i sub v).saturated = s.saturated := rfl
@[simp] theorem State.setObj_mram (s : State) (i sub : Nat) (v : Int) : (s.setObj i sub v).mram = s.mram := rfl
@[simp] theorem State.setObj_tap (s : State) (i sub : Nat) (v : Int) : (s.setObj i sub v).tap = s.tap := rfl
@[simp] theorem State.setObj_gnss (s : State) (i sub : Nat) (v : Int) : (s.setObj i sub v).gnss = s.gnss := rfl
@[simp] theorem State.setObj_gsol (s : State) (i sub : Nat) (v : Int) : (s.setObj i sub v).gsol = s.gsol := rfl
@[simp] theorem State.setObj_intake (s : State) (i sub : Nat) (v : Int) : (s.setObj i sub v).intake = s.intake := rfl
@[simp] theorem State.setObj_align (s : State) (i sub : Nat) (v : Int) : (s.setObj i sub v).align = s.align := rfl
@[simp] theorem State.setObj_est (s : State) (i sub : Nat) (v : Int) : (s.setObj i sub v).est = s.est := rfl
@[simp] theorem State.setObj_trk (s : State) (i sub : Nat) (v : Int) : (s.setObj i sub v).trk = s.trk := rfl
@[simp] theorem State.setObj_ctl (s : State) (i sub : Nat) (v : Int) : (s.setObj i sub v).ctl = s.ctl := rfl
@[simp] theorem State.setObj_ring (s : State) (i sub : Nat) (v : Int) : (s.setObj i sub v).ring = s.ring := rfl
@[simp] theorem State.setObj_alc (s : State) (i sub : Nat) (v : Int) : (s.setObj i sub v).alc = s.alc := rfl
@[simp] theorem State.setObj_srv (s : State) (i sub : Nat) (v : Int) : (s.setObj i sub v).srv = s.srv := rfl
@[simp] theorem State.setObj_saf (s : State) (i sub : Nat) (v : Int) : (s.setObj i sub v).saf = s.saf := rfl
@[simp] theorem State.setObj_net (s : State) (i sub : Nat) (v : Int) : (s.setObj i sub v).net = s.net := rfl
@[simp] theorem State.setObj_panel (s : State) (i sub : Nat) (v : Int) : (s.setObj i sub v).panel = s.panel := rfl
@[simp] theorem State.setObj_diagn (s : State) (i sub : Nat) (v : Int) : (s.setObj i sub v).diagn = s.diagn := rfl
@[simp] theorem State.setObj_user (s : State) (i sub : Nat) (v : Int) : (s.setObj i sub v).user = s.user := rfl
@[simp] theorem State.setObj_out (s : State) (i sub : Nat) (v : Int) : (s.setObj i sub v).out = s.out := rfl
@[simp] theorem State.setObj_freeCount (s : State) (i sub : Nat) (v : Int) : (s.setObj i sub v).freeCount = s.freeCount := rfl
@[simp] theorem State.setObj_pending (s : State) (i sub : Nat) (v : Int) : (s.setObj i sub v).pending = s.pending := rfl

@[simp] theorem State.setBlob_now (s : State) (i sub : Nat) (b : List Byte) : (s.setBlob i sub b).now = s.now := rfl
@[simp] theorem State.setBlob_power (s : State) (i sub : Nat) (b : List Byte) : (s.setBlob i sub b).power = s.power := rfl
@[simp] theorem State.setBlob_ident (s : State) (i sub : Nat) (b : List Byte) : (s.setBlob i sub b).ident = s.ident := rfl
@[simp] theorem State.setBlob_clock (s : State) (i sub : Nat) (b : List Byte) : (s.setBlob i sub b).clock = s.clock := rfl
@[simp] theorem State.setBlob_od (s : State) (i sub : Nat) (b : List Byte) : (s.setBlob i sub b).od = s.od := rfl
@[simp] theorem State.setBlob_held (s : State) (i sub : Nat) (b : List Byte) : (s.setBlob i sub b).held = s.held := rfl
@[simp] theorem State.setBlob_dict (s : State) (i sub : Nat) (b : List Byte) : (s.setBlob i sub b).dict = s.dict := rfl
@[simp] theorem State.setBlob_recorder (s : State) (i sub : Nat) (b : List Byte) : (s.setBlob i sub b).recorder = s.recorder := rfl
@[simp] theorem State.setBlob_pair (s : State) (i sub : Nat) (b : List Byte) : (s.setBlob i sub b).pair = s.pair := rfl
@[simp] theorem State.setBlob_alarms (s : State) (i sub : Nat) (b : List Byte) : (s.setBlob i sub b).alarms = s.alarms := rfl
@[simp] theorem State.setBlob_saturated (s : State) (i sub : Nat) (b : List Byte) : (s.setBlob i sub b).saturated = s.saturated := rfl
@[simp] theorem State.setBlob_mram (s : State) (i sub : Nat) (b : List Byte) : (s.setBlob i sub b).mram = s.mram := rfl
@[simp] theorem State.setBlob_tap (s : State) (i sub : Nat) (b : List Byte) : (s.setBlob i sub b).tap = s.tap := rfl
@[simp] theorem State.setBlob_gnss (s : State) (i sub : Nat) (b : List Byte) : (s.setBlob i sub b).gnss = s.gnss := rfl
@[simp] theorem State.setBlob_gsol (s : State) (i sub : Nat) (b : List Byte) : (s.setBlob i sub b).gsol = s.gsol := rfl
@[simp] theorem State.setBlob_intake (s : State) (i sub : Nat) (b : List Byte) : (s.setBlob i sub b).intake = s.intake := rfl
@[simp] theorem State.setBlob_align (s : State) (i sub : Nat) (b : List Byte) : (s.setBlob i sub b).align = s.align := rfl
@[simp] theorem State.setBlob_est (s : State) (i sub : Nat) (b : List Byte) : (s.setBlob i sub b).est = s.est := rfl
@[simp] theorem State.setBlob_trk (s : State) (i sub : Nat) (b : List Byte) : (s.setBlob i sub b).trk = s.trk := rfl
@[simp] theorem State.setBlob_ctl (s : State) (i sub : Nat) (b : List Byte) : (s.setBlob i sub b).ctl = s.ctl := rfl
@[simp] theorem State.setBlob_ring (s : State) (i sub : Nat) (b : List Byte) : (s.setBlob i sub b).ring = s.ring := rfl
@[simp] theorem State.setBlob_alc (s : State) (i sub : Nat) (b : List Byte) : (s.setBlob i sub b).alc = s.alc := rfl
@[simp] theorem State.setBlob_srv (s : State) (i sub : Nat) (b : List Byte) : (s.setBlob i sub b).srv = s.srv := rfl
@[simp] theorem State.setBlob_saf (s : State) (i sub : Nat) (b : List Byte) : (s.setBlob i sub b).saf = s.saf := rfl
@[simp] theorem State.setBlob_net (s : State) (i sub : Nat) (b : List Byte) : (s.setBlob i sub b).net = s.net := rfl
@[simp] theorem State.setBlob_panel (s : State) (i sub : Nat) (b : List Byte) : (s.setBlob i sub b).panel = s.panel := rfl
@[simp] theorem State.setBlob_diagn (s : State) (i sub : Nat) (b : List Byte) : (s.setBlob i sub b).diagn = s.diagn := rfl
@[simp] theorem State.setBlob_user (s : State) (i sub : Nat) (b : List Byte) : (s.setBlob i sub b).user = s.user := rfl
@[simp] theorem State.setBlob_out (s : State) (i sub : Nat) (b : List Byte) : (s.setBlob i sub b).out = s.out := rfl
@[simp] theorem State.setBlob_freeCount (s : State) (i sub : Nat) (b : List Byte) : (s.setBlob i sub b).freeCount = s.freeCount := rfl
@[simp] theorem State.setBlob_pending (s : State) (i sub : Nat) (b : List Byte) : (s.setBlob i sub b).pending = s.pending := rfl

@[simp] theorem State.setBit_now (s : State) (i sub n : Nat) (b : Bool) : (s.setBit i sub n b).now = s.now := rfl
@[simp] theorem State.setBit_power (s : State) (i sub n : Nat) (b : Bool) : (s.setBit i sub n b).power = s.power := rfl
@[simp] theorem State.setBit_ident (s : State) (i sub n : Nat) (b : Bool) : (s.setBit i sub n b).ident = s.ident := rfl
@[simp] theorem State.setBit_clock (s : State) (i sub n : Nat) (b : Bool) : (s.setBit i sub n b).clock = s.clock := rfl
@[simp] theorem State.setBit_blobs (s : State) (i sub n : Nat) (b : Bool) : (s.setBit i sub n b).blobs = s.blobs := rfl
@[simp] theorem State.setBit_held (s : State) (i sub n : Nat) (b : Bool) : (s.setBit i sub n b).held = s.held := rfl
@[simp] theorem State.setBit_dict (s : State) (i sub n : Nat) (b : Bool) : (s.setBit i sub n b).dict = s.dict := rfl
@[simp] theorem State.setBit_recorder (s : State) (i sub n : Nat) (b : Bool) : (s.setBit i sub n b).recorder = s.recorder := rfl
@[simp] theorem State.setBit_pair (s : State) (i sub n : Nat) (b : Bool) : (s.setBit i sub n b).pair = s.pair := rfl
@[simp] theorem State.setBit_alarms (s : State) (i sub n : Nat) (b : Bool) : (s.setBit i sub n b).alarms = s.alarms := rfl
@[simp] theorem State.setBit_saturated (s : State) (i sub n : Nat) (b : Bool) : (s.setBit i sub n b).saturated = s.saturated := rfl
@[simp] theorem State.setBit_mram (s : State) (i sub n : Nat) (b : Bool) : (s.setBit i sub n b).mram = s.mram := rfl
@[simp] theorem State.setBit_tap (s : State) (i sub n : Nat) (b : Bool) : (s.setBit i sub n b).tap = s.tap := rfl
@[simp] theorem State.setBit_gnss (s : State) (i sub n : Nat) (b : Bool) : (s.setBit i sub n b).gnss = s.gnss := rfl
@[simp] theorem State.setBit_gsol (s : State) (i sub n : Nat) (b : Bool) : (s.setBit i sub n b).gsol = s.gsol := rfl
@[simp] theorem State.setBit_intake (s : State) (i sub n : Nat) (b : Bool) : (s.setBit i sub n b).intake = s.intake := rfl
@[simp] theorem State.setBit_align (s : State) (i sub n : Nat) (b : Bool) : (s.setBit i sub n b).align = s.align := rfl
@[simp] theorem State.setBit_est (s : State) (i sub n : Nat) (b : Bool) : (s.setBit i sub n b).est = s.est := rfl
@[simp] theorem State.setBit_trk (s : State) (i sub n : Nat) (b : Bool) : (s.setBit i sub n b).trk = s.trk := rfl
@[simp] theorem State.setBit_ctl (s : State) (i sub n : Nat) (b : Bool) : (s.setBit i sub n b).ctl = s.ctl := rfl
@[simp] theorem State.setBit_ring (s : State) (i sub n : Nat) (b : Bool) : (s.setBit i sub n b).ring = s.ring := rfl
@[simp] theorem State.setBit_alc (s : State) (i sub n : Nat) (b : Bool) : (s.setBit i sub n b).alc = s.alc := rfl
@[simp] theorem State.setBit_srv (s : State) (i sub n : Nat) (b : Bool) : (s.setBit i sub n b).srv = s.srv := rfl
@[simp] theorem State.setBit_saf (s : State) (i sub n : Nat) (b : Bool) : (s.setBit i sub n b).saf = s.saf := rfl
@[simp] theorem State.setBit_net (s : State) (i sub n : Nat) (b : Bool) : (s.setBit i sub n b).net = s.net := rfl
@[simp] theorem State.setBit_panel (s : State) (i sub n : Nat) (b : Bool) : (s.setBit i sub n b).panel = s.panel := rfl
@[simp] theorem State.setBit_diagn (s : State) (i sub n : Nat) (b : Bool) : (s.setBit i sub n b).diagn = s.diagn := rfl
@[simp] theorem State.setBit_user (s : State) (i sub n : Nat) (b : Bool) : (s.setBit i sub n b).user = s.user := rfl
@[simp] theorem State.setBit_out (s : State) (i sub n : Nat) (b : Bool) : (s.setBit i sub n b).out = s.out := rfl
@[simp] theorem State.setBit_freeCount (s : State) (i sub n : Nat) (b : Bool) : (s.setBit i sub n b).freeCount = s.freeCount := rfl
@[simp] theorem State.setBit_pending (s : State) (i sub n : Nat) (b : Bool) : (s.setBit i sub n b).pending = s.pending := rfl

@[simp] theorem State.tell_now (s : State) (o : Out) : (s.tell o).now = s.now := rfl
@[simp] theorem State.tell_power (s : State) (o : Out) : (s.tell o).power = s.power := rfl
@[simp] theorem State.tell_ident (s : State) (o : Out) : (s.tell o).ident = s.ident := rfl
@[simp] theorem State.tell_clock (s : State) (o : Out) : (s.tell o).clock = s.clock := rfl
@[simp] theorem State.tell_od (s : State) (o : Out) : (s.tell o).od = s.od := rfl
@[simp] theorem State.tell_blobs (s : State) (o : Out) : (s.tell o).blobs = s.blobs := rfl
@[simp] theorem State.tell_held (s : State) (o : Out) : (s.tell o).held = s.held := rfl
@[simp] theorem State.tell_dict (s : State) (o : Out) : (s.tell o).dict = s.dict := rfl
@[simp] theorem State.tell_recorder (s : State) (o : Out) : (s.tell o).recorder = s.recorder := rfl
@[simp] theorem State.tell_pair (s : State) (o : Out) : (s.tell o).pair = s.pair := rfl
@[simp] theorem State.tell_alarms (s : State) (o : Out) : (s.tell o).alarms = s.alarms := rfl
@[simp] theorem State.tell_saturated (s : State) (o : Out) : (s.tell o).saturated = s.saturated := rfl
@[simp] theorem State.tell_mram (s : State) (o : Out) : (s.tell o).mram = s.mram := rfl
@[simp] theorem State.tell_tap (s : State) (o : Out) : (s.tell o).tap = s.tap := rfl
@[simp] theorem State.tell_gnss (s : State) (o : Out) : (s.tell o).gnss = s.gnss := rfl
@[simp] theorem State.tell_gsol (s : State) (o : Out) : (s.tell o).gsol = s.gsol := rfl
@[simp] theorem State.tell_intake (s : State) (o : Out) : (s.tell o).intake = s.intake := rfl
@[simp] theorem State.tell_align (s : State) (o : Out) : (s.tell o).align = s.align := rfl
@[simp] theorem State.tell_est (s : State) (o : Out) : (s.tell o).est = s.est := rfl
@[simp] theorem State.tell_trk (s : State) (o : Out) : (s.tell o).trk = s.trk := rfl
@[simp] theorem State.tell_ctl (s : State) (o : Out) : (s.tell o).ctl = s.ctl := rfl
@[simp] theorem State.tell_ring (s : State) (o : Out) : (s.tell o).ring = s.ring := rfl
@[simp] theorem State.tell_alc (s : State) (o : Out) : (s.tell o).alc = s.alc := rfl
@[simp] theorem State.tell_srv (s : State) (o : Out) : (s.tell o).srv = s.srv := rfl
@[simp] theorem State.tell_saf (s : State) (o : Out) : (s.tell o).saf = s.saf := rfl
@[simp] theorem State.tell_net (s : State) (o : Out) : (s.tell o).net = s.net := rfl
@[simp] theorem State.tell_panel (s : State) (o : Out) : (s.tell o).panel = s.panel := rfl
@[simp] theorem State.tell_diagn (s : State) (o : Out) : (s.tell o).diagn = s.diagn := rfl
@[simp] theorem State.tell_user (s : State) (o : Out) : (s.tell o).user = s.user := rfl
@[simp] theorem State.tell_freeCount (s : State) (o : Out) : (s.tell o).freeCount = s.freeCount := rfl
@[simp] theorem State.tell_pending (s : State) (o : Out) : (s.tell o).pending = s.pending := rfl

@[simp] theorem State.at_power (s : State) (t : Nat) : (s.at t).power = s.power := rfl
@[simp] theorem State.at_ident (s : State) (t : Nat) : (s.at t).ident = s.ident := rfl
@[simp] theorem State.at_od (s : State) (t : Nat) : (s.at t).od = s.od := rfl
@[simp] theorem State.at_blobs (s : State) (t : Nat) : (s.at t).blobs = s.blobs := rfl
@[simp] theorem State.at_held (s : State) (t : Nat) : (s.at t).held = s.held := rfl
@[simp] theorem State.at_dict (s : State) (t : Nat) : (s.at t).dict = s.dict := rfl
@[simp] theorem State.at_recorder (s : State) (t : Nat) : (s.at t).recorder = s.recorder := rfl
@[simp] theorem State.at_pair (s : State) (t : Nat) : (s.at t).pair = s.pair := rfl
@[simp] theorem State.at_alarms (s : State) (t : Nat) : (s.at t).alarms = s.alarms := rfl
@[simp] theorem State.at_saturated (s : State) (t : Nat) : (s.at t).saturated = s.saturated := rfl
@[simp] theorem State.at_mram (s : State) (t : Nat) : (s.at t).mram = s.mram := rfl
@[simp] theorem State.at_tap (s : State) (t : Nat) : (s.at t).tap = s.tap := rfl
@[simp] theorem State.at_gnss (s : State) (t : Nat) : (s.at t).gnss = s.gnss := rfl
@[simp] theorem State.at_gsol (s : State) (t : Nat) : (s.at t).gsol = s.gsol := rfl
@[simp] theorem State.at_intake (s : State) (t : Nat) : (s.at t).intake = s.intake := rfl
@[simp] theorem State.at_align (s : State) (t : Nat) : (s.at t).align = s.align := rfl
@[simp] theorem State.at_est (s : State) (t : Nat) : (s.at t).est = s.est := rfl
@[simp] theorem State.at_trk (s : State) (t : Nat) : (s.at t).trk = s.trk := rfl
@[simp] theorem State.at_ctl (s : State) (t : Nat) : (s.at t).ctl = s.ctl := rfl
@[simp] theorem State.at_ring (s : State) (t : Nat) : (s.at t).ring = s.ring := rfl
@[simp] theorem State.at_alc (s : State) (t : Nat) : (s.at t).alc = s.alc := rfl
@[simp] theorem State.at_srv (s : State) (t : Nat) : (s.at t).srv = s.srv := rfl
@[simp] theorem State.at_saf (s : State) (t : Nat) : (s.at t).saf = s.saf := rfl
@[simp] theorem State.at_net (s : State) (t : Nat) : (s.at t).net = s.net := rfl
@[simp] theorem State.at_panel (s : State) (t : Nat) : (s.at t).panel = s.panel := rfl
@[simp] theorem State.at_diagn (s : State) (t : Nat) : (s.at t).diagn = s.diagn := rfl
@[simp] theorem State.at_user (s : State) (t : Nat) : (s.at t).user = s.user := rfl
@[simp] theorem State.at_freeCount (s : State) (t : Nat) : (s.at t).freeCount = s.freeCount := rfl
@[simp] theorem State.at_pending (s : State) (t : Nat) : (s.at t).pending = s.pending := rfl

@[simp] theorem State.at_now (s : State) (t : Nat) : (s.at t).now = max s.now t := rfl
@[simp] theorem State.at_out (s : State) (t : Nat) : (s.at t).out = [] := rfl
@[simp] theorem State.tell_out (s : State) (o : Out) : (s.tell o).out = s.out ++ [o] := rfl
@[simp] theorem State.at_running (s : State) (t : Nat) : (s.at t).running = s.running := rfl

/-! ### Updates of objects, alarms and the recorder only -/

/-- What an update of objects, alarms, saturation marks and the recorder does: nothing else changes. -/
def State.booked (s : State) (od : Store) (recorder : Recorder) (alarms : List (Nat × Nat)) (saturated : List Nat) : State :=
  { s with od := od, recorder := recorder, alarms := alarms, saturated := saturated }

/-- Whether a state is another after such an update. -/
def State.Books (s s' : State) : Prop := s' = s.booked s'.od s'.recorder s'.alarms s'.saturated

theorem State.Books.refl (s : State) : s.Books s := rfl

theorem State.Books.trans {s s' s'' : State} (h : s.Books s') (h' : s'.Books s'') : s.Books s'' := by
  unfold State.Books at *
  rw [h', h]
  rfl

theorem State.Books.keep {s s' : State} {α : Type} (h : s.Books s') (g : State → α)
    (hg : ∀ (s : State) od recorder alarms saturated, g (s.booked od recorder alarms saturated) = g s) : g s' = g s := by
  rw [show s' = s.booked s'.od s'.recorder s'.alarms s'.saturated from h]
  exact hg _ _ _ _ _

theorem State.setObjK_books (s : State) (k : Nat) (v : Int) : s.Books (s.setObjK k v) := rfl
theorem State.setObj_books (s : State) (i sub : Nat) (v : Int) : s.Books (s.setObj i sub v) := rfl
theorem State.setBit_books (s : State) (i sub n : Nat) (b : Bool) : s.Books (s.setBit i sub n b) := rfl

theorem State.setObjs_books (s : State) (l : List (Nat × Nat × Int)) : s.Books (s.setObjs l) := by
  induction l generalizing s with
  | nil => rfl
  | cons e l ih => exact (s.setObj_books e.1 e.2.1 e.2.2).trans (ih _)

theorem State.raiseBit_books (s : State) (i sub n : Nat) (b : Bool) : s.Books (s.raiseBit i sub n b) := by
  unfold State.raiseBit; split <;> rfl

theorem State.bump_books (s : State) (i sub : Nat) : s.Books (s.bump i sub) := by
  unfold State.bump; split <;> rfl

theorem State.offer_books (s : State) (it : IntakeItem) : s.Books (s.offer it) := by
  unfold State.offer
  split
  · rfl
  · dsimp only
    split
    · exact State.Books.trans (s' := { s with recorder := s.recorder.noteDrop it.item.plane }) rfl (State.bump_books _ _ _)
    · split <;> rfl

theorem State.event_books (s : State) (p : Plane) (i sub sev : Nat) (d : List Byte) : s.Books (s.event p i sub sev d) :=
  s.offer_books _

theorem State.alarm_books (s : State) (p : Plane) (i sub sev : Nat) (d : List Byte) : s.Books (s.alarm p i sub sev d) := by
  unfold State.alarm
  split
  · rfl
  · exact State.Books.trans (s' := { s with alarms := s.alarms ++ [(okey i sub, sev)] }) rfl (State.offer_books _ _)

theorem State.unalarm_books (s : State) (p : Plane) (i sub sev : Nat) : s.Books (s.unalarm p i sub sev) := by
  unfold State.unalarm
  split
  · exact State.Books.trans (s' := { s with alarms := s.alarms.filter (fun a => a.1 ≠ okey i sub) }) rfl (State.offer_books _ _)
  · rfl

theorem State.alarmIf_books (s : State) (c : Bool) (p : Plane) (i sub sev : Nat) : s.Books (s.alarmIf c p i sub sev) := by
  unfold State.alarmIf
  split
  · exact s.alarm_books _ _ _ _ _
  · exact s.unalarm_books _ _ _ _

theorem State.count_books (s : State) (p : Plane) (i sub : Nat) : s.Books (s.count p i sub) := by
  unfold State.count
  split
  · rfl
  · split
    · rfl
    · exact State.Books.trans (s' := { s.setBit 0x9300 0x0A 0 true with saturated := okey i sub :: s.saturated }) rfl
        (State.event_books _ _ _ _ _ _)

theorem State.countBy_books (s : State) (p : Plane) (i sub n : Nat) : s.Books (s.countBy p i sub n) := by
  unfold State.countBy
  split
  · rfl
  · exact (s.setObj_books _ _ _).trans (State.count_books _ _ _ _)

@[simp] theorem State.setObjs_now (s : State) (l : List (Nat × Nat × Int)) : (s.setObjs l).now = s.now := (s.setObjs_books _).keep State.now fun _ _ _ _ _ => rfl
@[simp] theorem State.setObjs_power (s : State) (l : List (Nat × Nat × Int)) : (s.setObjs l).power = s.power := (s.setObjs_books _).keep State.power fun _ _ _ _ _ => rfl
@[simp] theorem State.setObjs_ident (s : State) (l : List (Nat × Nat × Int)) : (s.setObjs l).ident = s.ident := (s.setObjs_books _).keep State.ident fun _ _ _ _ _ => rfl
@[simp] theorem State.setObjs_clock (s : State) (l : List (Nat × Nat × Int)) : (s.setObjs l).clock = s.clock := (s.setObjs_books _).keep State.clock fun _ _ _ _ _ => rfl
@[simp] theorem State.setObjs_blobs (s : State) (l : List (Nat × Nat × Int)) : (s.setObjs l).blobs = s.blobs := (s.setObjs_books _).keep State.blobs fun _ _ _ _ _ => rfl
@[simp] theorem State.setObjs_held (s : State) (l : List (Nat × Nat × Int)) : (s.setObjs l).held = s.held := (s.setObjs_books _).keep State.held fun _ _ _ _ _ => rfl
@[simp] theorem State.setObjs_dict (s : State) (l : List (Nat × Nat × Int)) : (s.setObjs l).dict = s.dict := (s.setObjs_books _).keep State.dict fun _ _ _ _ _ => rfl
@[simp] theorem State.setObjs_pair (s : State) (l : List (Nat × Nat × Int)) : (s.setObjs l).pair = s.pair := (s.setObjs_books _).keep State.pair fun _ _ _ _ _ => rfl
@[simp] theorem State.setObjs_mram (s : State) (l : List (Nat × Nat × Int)) : (s.setObjs l).mram = s.mram := (s.setObjs_books _).keep State.mram fun _ _ _ _ _ => rfl
@[simp] theorem State.setObjs_tap (s : State) (l : List (Nat × Nat × Int)) : (s.setObjs l).tap = s.tap := (s.setObjs_books _).keep State.tap fun _ _ _ _ _ => rfl
@[simp] theorem State.setObjs_gnss (s : State) (l : List (Nat × Nat × Int)) : (s.setObjs l).gnss = s.gnss := (s.setObjs_books _).keep State.gnss fun _ _ _ _ _ => rfl
@[simp] theorem State.setObjs_gsol (s : State) (l : List (Nat × Nat × Int)) : (s.setObjs l).gsol = s.gsol := (s.setObjs_books _).keep State.gsol fun _ _ _ _ _ => rfl
@[simp] theorem State.setObjs_intake (s : State) (l : List (Nat × Nat × Int)) : (s.setObjs l).intake = s.intake := (s.setObjs_books _).keep State.intake fun _ _ _ _ _ => rfl
@[simp] theorem State.setObjs_align (s : State) (l : List (Nat × Nat × Int)) : (s.setObjs l).align = s.align := (s.setObjs_books _).keep State.align fun _ _ _ _ _ => rfl
@[simp] theorem State.setObjs_est (s : State) (l : List (Nat × Nat × Int)) : (s.setObjs l).est = s.est := (s.setObjs_books _).keep State.est fun _ _ _ _ _ => rfl
@[simp] theorem State.setObjs_trk (s : State) (l : List (Nat × Nat × Int)) : (s.setObjs l).trk = s.trk := (s.setObjs_books _).keep State.trk fun _ _ _ _ _ => rfl
@[simp] theorem State.setObjs_ctl (s : State) (l : List (Nat × Nat × Int)) : (s.setObjs l).ctl = s.ctl := (s.setObjs_books _).keep State.ctl fun _ _ _ _ _ => rfl
@[simp] theorem State.setObjs_ring (s : State) (l : List (Nat × Nat × Int)) : (s.setObjs l).ring = s.ring := (s.setObjs_books _).keep State.ring fun _ _ _ _ _ => rfl
@[simp] theorem State.setObjs_alc (s : State) (l : List (Nat × Nat × Int)) : (s.setObjs l).alc = s.alc := (s.setObjs_books _).keep State.alc fun _ _ _ _ _ => rfl
@[simp] theorem State.setObjs_srv (s : State) (l : List (Nat × Nat × Int)) : (s.setObjs l).srv = s.srv := (s.setObjs_books _).keep State.srv fun _ _ _ _ _ => rfl
@[simp] theorem State.setObjs_saf (s : State) (l : List (Nat × Nat × Int)) : (s.setObjs l).saf = s.saf := (s.setObjs_books _).keep State.saf fun _ _ _ _ _ => rfl
@[simp] theorem State.setObjs_net (s : State) (l : List (Nat × Nat × Int)) : (s.setObjs l).net = s.net := (s.setObjs_books _).keep State.net fun _ _ _ _ _ => rfl
@[simp] theorem State.setObjs_panel (s : State) (l : List (Nat × Nat × Int)) : (s.setObjs l).panel = s.panel := (s.setObjs_books _).keep State.panel fun _ _ _ _ _ => rfl
@[simp] theorem State.setObjs_diagn (s : State) (l : List (Nat × Nat × Int)) : (s.setObjs l).diagn = s.diagn := (s.setObjs_books _).keep State.diagn fun _ _ _ _ _ => rfl
@[simp] theorem State.setObjs_user (s : State) (l : List (Nat × Nat × Int)) : (s.setObjs l).user = s.user := (s.setObjs_books _).keep State.user fun _ _ _ _ _ => rfl
@[simp] theorem State.setObjs_out (s : State) (l : List (Nat × Nat × Int)) : (s.setObjs l).out = s.out := (s.setObjs_books _).keep State.out fun _ _ _ _ _ => rfl
@[simp] theorem State.setObjs_freeCount (s : State) (l : List (Nat × Nat × Int)) : (s.setObjs l).freeCount = s.freeCount := (s.setObjs_books _).keep State.freeCount fun _ _ _ _ _ => rfl
@[simp] theorem State.setObjs_pending (s : State) (l : List (Nat × Nat × Int)) : (s.setObjs l).pending = s.pending := (s.setObjs_books _).keep State.pending fun _ _ _ _ _ => rfl

@[simp] theorem State.raiseBit_now (s : State) (i sub n : Nat) (b : Bool) : (s.raiseBit i sub n b).now = s.now := (s.raiseBit_books _ _ _ _).keep State.now fun _ _ _ _ _ => rfl
@[simp] theorem State.raiseBit_power (s : State) (i sub n : Nat) (b : Bool) : (s.raiseBit i sub n b).power = s.power := (s.raiseBit_books _ _ _ _).keep State.power fun _ _ _ _ _ => rfl
@[simp] theorem State.raiseBit_ident (s : State) (i sub n : Nat) (b : Bool) : (s.raiseBit i sub n b).ident = s.ident := (s.raiseBit_books _ _ _ _).keep State.ident fun _ _ _ _ _ => rfl
@[simp] theorem State.raiseBit_clock (s : State) (i sub n : Nat) (b : Bool) : (s.raiseBit i sub n b).clock = s.clock := (s.raiseBit_books _ _ _ _).keep State.clock fun _ _ _ _ _ => rfl
@[simp] theorem State.raiseBit_blobs (s : State) (i sub n : Nat) (b : Bool) : (s.raiseBit i sub n b).blobs = s.blobs := (s.raiseBit_books _ _ _ _).keep State.blobs fun _ _ _ _ _ => rfl
@[simp] theorem State.raiseBit_held (s : State) (i sub n : Nat) (b : Bool) : (s.raiseBit i sub n b).held = s.held := (s.raiseBit_books _ _ _ _).keep State.held fun _ _ _ _ _ => rfl
@[simp] theorem State.raiseBit_dict (s : State) (i sub n : Nat) (b : Bool) : (s.raiseBit i sub n b).dict = s.dict := (s.raiseBit_books _ _ _ _).keep State.dict fun _ _ _ _ _ => rfl
@[simp] theorem State.raiseBit_pair (s : State) (i sub n : Nat) (b : Bool) : (s.raiseBit i sub n b).pair = s.pair := (s.raiseBit_books _ _ _ _).keep State.pair fun _ _ _ _ _ => rfl
@[simp] theorem State.raiseBit_mram (s : State) (i sub n : Nat) (b : Bool) : (s.raiseBit i sub n b).mram = s.mram := (s.raiseBit_books _ _ _ _).keep State.mram fun _ _ _ _ _ => rfl
@[simp] theorem State.raiseBit_tap (s : State) (i sub n : Nat) (b : Bool) : (s.raiseBit i sub n b).tap = s.tap := (s.raiseBit_books _ _ _ _).keep State.tap fun _ _ _ _ _ => rfl
@[simp] theorem State.raiseBit_gnss (s : State) (i sub n : Nat) (b : Bool) : (s.raiseBit i sub n b).gnss = s.gnss := (s.raiseBit_books _ _ _ _).keep State.gnss fun _ _ _ _ _ => rfl
@[simp] theorem State.raiseBit_gsol (s : State) (i sub n : Nat) (b : Bool) : (s.raiseBit i sub n b).gsol = s.gsol := (s.raiseBit_books _ _ _ _).keep State.gsol fun _ _ _ _ _ => rfl
@[simp] theorem State.raiseBit_intake (s : State) (i sub n : Nat) (b : Bool) : (s.raiseBit i sub n b).intake = s.intake := (s.raiseBit_books _ _ _ _).keep State.intake fun _ _ _ _ _ => rfl
@[simp] theorem State.raiseBit_align (s : State) (i sub n : Nat) (b : Bool) : (s.raiseBit i sub n b).align = s.align := (s.raiseBit_books _ _ _ _).keep State.align fun _ _ _ _ _ => rfl
@[simp] theorem State.raiseBit_est (s : State) (i sub n : Nat) (b : Bool) : (s.raiseBit i sub n b).est = s.est := (s.raiseBit_books _ _ _ _).keep State.est fun _ _ _ _ _ => rfl
@[simp] theorem State.raiseBit_trk (s : State) (i sub n : Nat) (b : Bool) : (s.raiseBit i sub n b).trk = s.trk := (s.raiseBit_books _ _ _ _).keep State.trk fun _ _ _ _ _ => rfl
@[simp] theorem State.raiseBit_ctl (s : State) (i sub n : Nat) (b : Bool) : (s.raiseBit i sub n b).ctl = s.ctl := (s.raiseBit_books _ _ _ _).keep State.ctl fun _ _ _ _ _ => rfl
@[simp] theorem State.raiseBit_ring (s : State) (i sub n : Nat) (b : Bool) : (s.raiseBit i sub n b).ring = s.ring := (s.raiseBit_books _ _ _ _).keep State.ring fun _ _ _ _ _ => rfl
@[simp] theorem State.raiseBit_alc (s : State) (i sub n : Nat) (b : Bool) : (s.raiseBit i sub n b).alc = s.alc := (s.raiseBit_books _ _ _ _).keep State.alc fun _ _ _ _ _ => rfl
@[simp] theorem State.raiseBit_srv (s : State) (i sub n : Nat) (b : Bool) : (s.raiseBit i sub n b).srv = s.srv := (s.raiseBit_books _ _ _ _).keep State.srv fun _ _ _ _ _ => rfl
@[simp] theorem State.raiseBit_saf (s : State) (i sub n : Nat) (b : Bool) : (s.raiseBit i sub n b).saf = s.saf := (s.raiseBit_books _ _ _ _).keep State.saf fun _ _ _ _ _ => rfl
@[simp] theorem State.raiseBit_net (s : State) (i sub n : Nat) (b : Bool) : (s.raiseBit i sub n b).net = s.net := (s.raiseBit_books _ _ _ _).keep State.net fun _ _ _ _ _ => rfl
@[simp] theorem State.raiseBit_panel (s : State) (i sub n : Nat) (b : Bool) : (s.raiseBit i sub n b).panel = s.panel := (s.raiseBit_books _ _ _ _).keep State.panel fun _ _ _ _ _ => rfl
@[simp] theorem State.raiseBit_diagn (s : State) (i sub n : Nat) (b : Bool) : (s.raiseBit i sub n b).diagn = s.diagn := (s.raiseBit_books _ _ _ _).keep State.diagn fun _ _ _ _ _ => rfl
@[simp] theorem State.raiseBit_user (s : State) (i sub n : Nat) (b : Bool) : (s.raiseBit i sub n b).user = s.user := (s.raiseBit_books _ _ _ _).keep State.user fun _ _ _ _ _ => rfl
@[simp] theorem State.raiseBit_out (s : State) (i sub n : Nat) (b : Bool) : (s.raiseBit i sub n b).out = s.out := (s.raiseBit_books _ _ _ _).keep State.out fun _ _ _ _ _ => rfl
@[simp] theorem State.raiseBit_freeCount (s : State) (i sub n : Nat) (b : Bool) : (s.raiseBit i sub n b).freeCount = s.freeCount := (s.raiseBit_books _ _ _ _).keep State.freeCount fun _ _ _ _ _ => rfl
@[simp] theorem State.raiseBit_pending (s : State) (i sub n : Nat) (b : Bool) : (s.raiseBit i sub n b).pending = s.pending := (s.raiseBit_books _ _ _ _).keep State.pending fun _ _ _ _ _ => rfl

@[simp] theorem State.offer_now (s : State) (it : IntakeItem) : (s.offer it).now = s.now := (s.offer_books _).keep State.now fun _ _ _ _ _ => rfl
@[simp] theorem State.offer_power (s : State) (it : IntakeItem) : (s.offer it).power = s.power := (s.offer_books _).keep State.power fun _ _ _ _ _ => rfl
@[simp] theorem State.offer_ident (s : State) (it : IntakeItem) : (s.offer it).ident = s.ident := (s.offer_books _).keep State.ident fun _ _ _ _ _ => rfl
@[simp] theorem State.offer_clock (s : State) (it : IntakeItem) : (s.offer it).clock = s.clock := (s.offer_books _).keep State.clock fun _ _ _ _ _ => rfl
@[simp] theorem State.offer_blobs (s : State) (it : IntakeItem) : (s.offer it).blobs = s.blobs := (s.offer_books _).keep State.blobs fun _ _ _ _ _ => rfl
@[simp] theorem State.offer_held (s : State) (it : IntakeItem) : (s.offer it).held = s.held := (s.offer_books _).keep State.held fun _ _ _ _ _ => rfl
@[simp] theorem State.offer_dict (s : State) (it : IntakeItem) : (s.offer it).dict = s.dict := (s.offer_books _).keep State.dict fun _ _ _ _ _ => rfl
@[simp] theorem State.offer_pair (s : State) (it : IntakeItem) : (s.offer it).pair = s.pair := (s.offer_books _).keep State.pair fun _ _ _ _ _ => rfl
@[simp] theorem State.offer_mram (s : State) (it : IntakeItem) : (s.offer it).mram = s.mram := (s.offer_books _).keep State.mram fun _ _ _ _ _ => rfl
@[simp] theorem State.offer_tap (s : State) (it : IntakeItem) : (s.offer it).tap = s.tap := (s.offer_books _).keep State.tap fun _ _ _ _ _ => rfl
@[simp] theorem State.offer_gnss (s : State) (it : IntakeItem) : (s.offer it).gnss = s.gnss := (s.offer_books _).keep State.gnss fun _ _ _ _ _ => rfl
@[simp] theorem State.offer_gsol (s : State) (it : IntakeItem) : (s.offer it).gsol = s.gsol := (s.offer_books _).keep State.gsol fun _ _ _ _ _ => rfl
@[simp] theorem State.offer_intake (s : State) (it : IntakeItem) : (s.offer it).intake = s.intake := (s.offer_books _).keep State.intake fun _ _ _ _ _ => rfl
@[simp] theorem State.offer_align (s : State) (it : IntakeItem) : (s.offer it).align = s.align := (s.offer_books _).keep State.align fun _ _ _ _ _ => rfl
@[simp] theorem State.offer_est (s : State) (it : IntakeItem) : (s.offer it).est = s.est := (s.offer_books _).keep State.est fun _ _ _ _ _ => rfl
@[simp] theorem State.offer_trk (s : State) (it : IntakeItem) : (s.offer it).trk = s.trk := (s.offer_books _).keep State.trk fun _ _ _ _ _ => rfl
@[simp] theorem State.offer_ctl (s : State) (it : IntakeItem) : (s.offer it).ctl = s.ctl := (s.offer_books _).keep State.ctl fun _ _ _ _ _ => rfl
@[simp] theorem State.offer_ring (s : State) (it : IntakeItem) : (s.offer it).ring = s.ring := (s.offer_books _).keep State.ring fun _ _ _ _ _ => rfl
@[simp] theorem State.offer_alc (s : State) (it : IntakeItem) : (s.offer it).alc = s.alc := (s.offer_books _).keep State.alc fun _ _ _ _ _ => rfl
@[simp] theorem State.offer_srv (s : State) (it : IntakeItem) : (s.offer it).srv = s.srv := (s.offer_books _).keep State.srv fun _ _ _ _ _ => rfl
@[simp] theorem State.offer_saf (s : State) (it : IntakeItem) : (s.offer it).saf = s.saf := (s.offer_books _).keep State.saf fun _ _ _ _ _ => rfl
@[simp] theorem State.offer_net (s : State) (it : IntakeItem) : (s.offer it).net = s.net := (s.offer_books _).keep State.net fun _ _ _ _ _ => rfl
@[simp] theorem State.offer_panel (s : State) (it : IntakeItem) : (s.offer it).panel = s.panel := (s.offer_books _).keep State.panel fun _ _ _ _ _ => rfl
@[simp] theorem State.offer_diagn (s : State) (it : IntakeItem) : (s.offer it).diagn = s.diagn := (s.offer_books _).keep State.diagn fun _ _ _ _ _ => rfl
@[simp] theorem State.offer_user (s : State) (it : IntakeItem) : (s.offer it).user = s.user := (s.offer_books _).keep State.user fun _ _ _ _ _ => rfl
@[simp] theorem State.offer_out (s : State) (it : IntakeItem) : (s.offer it).out = s.out := (s.offer_books _).keep State.out fun _ _ _ _ _ => rfl
@[simp] theorem State.offer_freeCount (s : State) (it : IntakeItem) : (s.offer it).freeCount = s.freeCount := (s.offer_books _).keep State.freeCount fun _ _ _ _ _ => rfl
@[simp] theorem State.offer_pending (s : State) (it : IntakeItem) : (s.offer it).pending = s.pending := (s.offer_books _).keep State.pending fun _ _ _ _ _ => rfl

@[simp] theorem State.event_now (s : State) (p : Plane) (i sub sev : Nat) (d : List Byte) : (s.event p i sub sev d).now = s.now := (s.event_books _ _ _ _ _).keep State.now fun _ _ _ _ _ => rfl
@[simp] theorem State.event_power (s : State) (p : Plane) (i sub sev : Nat) (d : List Byte) : (s.event p i sub sev d).power = s.power := (s.event_books _ _ _ _ _).keep State.power fun _ _ _ _ _ => rfl
@[simp] theorem State.event_ident (s : State) (p : Plane) (i sub sev : Nat) (d : List Byte) : (s.event p i sub sev d).ident = s.ident := (s.event_books _ _ _ _ _).keep State.ident fun _ _ _ _ _ => rfl
@[simp] theorem State.event_clock (s : State) (p : Plane) (i sub sev : Nat) (d : List Byte) : (s.event p i sub sev d).clock = s.clock := (s.event_books _ _ _ _ _).keep State.clock fun _ _ _ _ _ => rfl
@[simp] theorem State.event_blobs (s : State) (p : Plane) (i sub sev : Nat) (d : List Byte) : (s.event p i sub sev d).blobs = s.blobs := (s.event_books _ _ _ _ _).keep State.blobs fun _ _ _ _ _ => rfl
@[simp] theorem State.event_held (s : State) (p : Plane) (i sub sev : Nat) (d : List Byte) : (s.event p i sub sev d).held = s.held := (s.event_books _ _ _ _ _).keep State.held fun _ _ _ _ _ => rfl
@[simp] theorem State.event_dict (s : State) (p : Plane) (i sub sev : Nat) (d : List Byte) : (s.event p i sub sev d).dict = s.dict := (s.event_books _ _ _ _ _).keep State.dict fun _ _ _ _ _ => rfl
@[simp] theorem State.event_pair (s : State) (p : Plane) (i sub sev : Nat) (d : List Byte) : (s.event p i sub sev d).pair = s.pair := (s.event_books _ _ _ _ _).keep State.pair fun _ _ _ _ _ => rfl
@[simp] theorem State.event_mram (s : State) (p : Plane) (i sub sev : Nat) (d : List Byte) : (s.event p i sub sev d).mram = s.mram := (s.event_books _ _ _ _ _).keep State.mram fun _ _ _ _ _ => rfl
@[simp] theorem State.event_tap (s : State) (p : Plane) (i sub sev : Nat) (d : List Byte) : (s.event p i sub sev d).tap = s.tap := (s.event_books _ _ _ _ _).keep State.tap fun _ _ _ _ _ => rfl
@[simp] theorem State.event_gnss (s : State) (p : Plane) (i sub sev : Nat) (d : List Byte) : (s.event p i sub sev d).gnss = s.gnss := (s.event_books _ _ _ _ _).keep State.gnss fun _ _ _ _ _ => rfl
@[simp] theorem State.event_gsol (s : State) (p : Plane) (i sub sev : Nat) (d : List Byte) : (s.event p i sub sev d).gsol = s.gsol := (s.event_books _ _ _ _ _).keep State.gsol fun _ _ _ _ _ => rfl
@[simp] theorem State.event_intake (s : State) (p : Plane) (i sub sev : Nat) (d : List Byte) : (s.event p i sub sev d).intake = s.intake := (s.event_books _ _ _ _ _).keep State.intake fun _ _ _ _ _ => rfl
@[simp] theorem State.event_align (s : State) (p : Plane) (i sub sev : Nat) (d : List Byte) : (s.event p i sub sev d).align = s.align := (s.event_books _ _ _ _ _).keep State.align fun _ _ _ _ _ => rfl
@[simp] theorem State.event_est (s : State) (p : Plane) (i sub sev : Nat) (d : List Byte) : (s.event p i sub sev d).est = s.est := (s.event_books _ _ _ _ _).keep State.est fun _ _ _ _ _ => rfl
@[simp] theorem State.event_trk (s : State) (p : Plane) (i sub sev : Nat) (d : List Byte) : (s.event p i sub sev d).trk = s.trk := (s.event_books _ _ _ _ _).keep State.trk fun _ _ _ _ _ => rfl
@[simp] theorem State.event_ctl (s : State) (p : Plane) (i sub sev : Nat) (d : List Byte) : (s.event p i sub sev d).ctl = s.ctl := (s.event_books _ _ _ _ _).keep State.ctl fun _ _ _ _ _ => rfl
@[simp] theorem State.event_ring (s : State) (p : Plane) (i sub sev : Nat) (d : List Byte) : (s.event p i sub sev d).ring = s.ring := (s.event_books _ _ _ _ _).keep State.ring fun _ _ _ _ _ => rfl
@[simp] theorem State.event_alc (s : State) (p : Plane) (i sub sev : Nat) (d : List Byte) : (s.event p i sub sev d).alc = s.alc := (s.event_books _ _ _ _ _).keep State.alc fun _ _ _ _ _ => rfl
@[simp] theorem State.event_srv (s : State) (p : Plane) (i sub sev : Nat) (d : List Byte) : (s.event p i sub sev d).srv = s.srv := (s.event_books _ _ _ _ _).keep State.srv fun _ _ _ _ _ => rfl
@[simp] theorem State.event_saf (s : State) (p : Plane) (i sub sev : Nat) (d : List Byte) : (s.event p i sub sev d).saf = s.saf := (s.event_books _ _ _ _ _).keep State.saf fun _ _ _ _ _ => rfl
@[simp] theorem State.event_net (s : State) (p : Plane) (i sub sev : Nat) (d : List Byte) : (s.event p i sub sev d).net = s.net := (s.event_books _ _ _ _ _).keep State.net fun _ _ _ _ _ => rfl
@[simp] theorem State.event_panel (s : State) (p : Plane) (i sub sev : Nat) (d : List Byte) : (s.event p i sub sev d).panel = s.panel := (s.event_books _ _ _ _ _).keep State.panel fun _ _ _ _ _ => rfl
@[simp] theorem State.event_diagn (s : State) (p : Plane) (i sub sev : Nat) (d : List Byte) : (s.event p i sub sev d).diagn = s.diagn := (s.event_books _ _ _ _ _).keep State.diagn fun _ _ _ _ _ => rfl
@[simp] theorem State.event_user (s : State) (p : Plane) (i sub sev : Nat) (d : List Byte) : (s.event p i sub sev d).user = s.user := (s.event_books _ _ _ _ _).keep State.user fun _ _ _ _ _ => rfl
@[simp] theorem State.event_out (s : State) (p : Plane) (i sub sev : Nat) (d : List Byte) : (s.event p i sub sev d).out = s.out := (s.event_books _ _ _ _ _).keep State.out fun _ _ _ _ _ => rfl
@[simp] theorem State.event_freeCount (s : State) (p : Plane) (i sub sev : Nat) (d : List Byte) : (s.event p i sub sev d).freeCount = s.freeCount := (s.event_books _ _ _ _ _).keep State.freeCount fun _ _ _ _ _ => rfl
@[simp] theorem State.event_pending (s : State) (p : Plane) (i sub sev : Nat) (d : List Byte) : (s.event p i sub sev d).pending = s.pending := (s.event_books _ _ _ _ _).keep State.pending fun _ _ _ _ _ => rfl

@[simp] theorem State.alarm_now (s : State) (p : Plane) (i sub sev : Nat) (d : List Byte) : (s.alarm p i sub sev d).now = s.now := (s.alarm_books _ _ _ _ _).keep State.now fun _ _ _ _ _ => rfl
@[simp] theorem State.alarm_power (s : State) (p : Plane) (i sub sev : Nat) (d : List Byte) : (s.alarm p i sub sev d).power = s.power := (s.alarm_books _ _ _ _ _).keep State.power fun _ _ _ _ _ => rfl
@[simp] theorem State.alarm_ident (s : State) (p : Plane) (i sub sev : Nat) (d : List Byte) : (s.alarm p i sub sev d).ident = s.ident := (s.alarm_books _ _ _ _ _).keep State.ident fun _ _ _ _ _ => rfl
@[simp] theorem State.alarm_clock (s : State) (p : Plane) (i sub sev : Nat) (d : List Byte) : (s.alarm p i sub sev d).clock = s.clock := (s.alarm_books _ _ _ _ _).keep State.clock fun _ _ _ _ _ => rfl
@[simp] theorem State.alarm_blobs (s : State) (p : Plane) (i sub sev : Nat) (d : List Byte) : (s.alarm p i sub sev d).blobs = s.blobs := (s.alarm_books _ _ _ _ _).keep State.blobs fun _ _ _ _ _ => rfl
@[simp] theorem State.alarm_held (s : State) (p : Plane) (i sub sev : Nat) (d : List Byte) : (s.alarm p i sub sev d).held = s.held := (s.alarm_books _ _ _ _ _).keep State.held fun _ _ _ _ _ => rfl
@[simp] theorem State.alarm_dict (s : State) (p : Plane) (i sub sev : Nat) (d : List Byte) : (s.alarm p i sub sev d).dict = s.dict := (s.alarm_books _ _ _ _ _).keep State.dict fun _ _ _ _ _ => rfl
@[simp] theorem State.alarm_pair (s : State) (p : Plane) (i sub sev : Nat) (d : List Byte) : (s.alarm p i sub sev d).pair = s.pair := (s.alarm_books _ _ _ _ _).keep State.pair fun _ _ _ _ _ => rfl
@[simp] theorem State.alarm_mram (s : State) (p : Plane) (i sub sev : Nat) (d : List Byte) : (s.alarm p i sub sev d).mram = s.mram := (s.alarm_books _ _ _ _ _).keep State.mram fun _ _ _ _ _ => rfl
@[simp] theorem State.alarm_tap (s : State) (p : Plane) (i sub sev : Nat) (d : List Byte) : (s.alarm p i sub sev d).tap = s.tap := (s.alarm_books _ _ _ _ _).keep State.tap fun _ _ _ _ _ => rfl
@[simp] theorem State.alarm_gnss (s : State) (p : Plane) (i sub sev : Nat) (d : List Byte) : (s.alarm p i sub sev d).gnss = s.gnss := (s.alarm_books _ _ _ _ _).keep State.gnss fun _ _ _ _ _ => rfl
@[simp] theorem State.alarm_gsol (s : State) (p : Plane) (i sub sev : Nat) (d : List Byte) : (s.alarm p i sub sev d).gsol = s.gsol := (s.alarm_books _ _ _ _ _).keep State.gsol fun _ _ _ _ _ => rfl
@[simp] theorem State.alarm_intake (s : State) (p : Plane) (i sub sev : Nat) (d : List Byte) : (s.alarm p i sub sev d).intake = s.intake := (s.alarm_books _ _ _ _ _).keep State.intake fun _ _ _ _ _ => rfl
@[simp] theorem State.alarm_align (s : State) (p : Plane) (i sub sev : Nat) (d : List Byte) : (s.alarm p i sub sev d).align = s.align := (s.alarm_books _ _ _ _ _).keep State.align fun _ _ _ _ _ => rfl
@[simp] theorem State.alarm_est (s : State) (p : Plane) (i sub sev : Nat) (d : List Byte) : (s.alarm p i sub sev d).est = s.est := (s.alarm_books _ _ _ _ _).keep State.est fun _ _ _ _ _ => rfl
@[simp] theorem State.alarm_trk (s : State) (p : Plane) (i sub sev : Nat) (d : List Byte) : (s.alarm p i sub sev d).trk = s.trk := (s.alarm_books _ _ _ _ _).keep State.trk fun _ _ _ _ _ => rfl
@[simp] theorem State.alarm_ctl (s : State) (p : Plane) (i sub sev : Nat) (d : List Byte) : (s.alarm p i sub sev d).ctl = s.ctl := (s.alarm_books _ _ _ _ _).keep State.ctl fun _ _ _ _ _ => rfl
@[simp] theorem State.alarm_ring (s : State) (p : Plane) (i sub sev : Nat) (d : List Byte) : (s.alarm p i sub sev d).ring = s.ring := (s.alarm_books _ _ _ _ _).keep State.ring fun _ _ _ _ _ => rfl
@[simp] theorem State.alarm_alc (s : State) (p : Plane) (i sub sev : Nat) (d : List Byte) : (s.alarm p i sub sev d).alc = s.alc := (s.alarm_books _ _ _ _ _).keep State.alc fun _ _ _ _ _ => rfl
@[simp] theorem State.alarm_srv (s : State) (p : Plane) (i sub sev : Nat) (d : List Byte) : (s.alarm p i sub sev d).srv = s.srv := (s.alarm_books _ _ _ _ _).keep State.srv fun _ _ _ _ _ => rfl
@[simp] theorem State.alarm_saf (s : State) (p : Plane) (i sub sev : Nat) (d : List Byte) : (s.alarm p i sub sev d).saf = s.saf := (s.alarm_books _ _ _ _ _).keep State.saf fun _ _ _ _ _ => rfl
@[simp] theorem State.alarm_net (s : State) (p : Plane) (i sub sev : Nat) (d : List Byte) : (s.alarm p i sub sev d).net = s.net := (s.alarm_books _ _ _ _ _).keep State.net fun _ _ _ _ _ => rfl
@[simp] theorem State.alarm_panel (s : State) (p : Plane) (i sub sev : Nat) (d : List Byte) : (s.alarm p i sub sev d).panel = s.panel := (s.alarm_books _ _ _ _ _).keep State.panel fun _ _ _ _ _ => rfl
@[simp] theorem State.alarm_diagn (s : State) (p : Plane) (i sub sev : Nat) (d : List Byte) : (s.alarm p i sub sev d).diagn = s.diagn := (s.alarm_books _ _ _ _ _).keep State.diagn fun _ _ _ _ _ => rfl
@[simp] theorem State.alarm_user (s : State) (p : Plane) (i sub sev : Nat) (d : List Byte) : (s.alarm p i sub sev d).user = s.user := (s.alarm_books _ _ _ _ _).keep State.user fun _ _ _ _ _ => rfl
@[simp] theorem State.alarm_out (s : State) (p : Plane) (i sub sev : Nat) (d : List Byte) : (s.alarm p i sub sev d).out = s.out := (s.alarm_books _ _ _ _ _).keep State.out fun _ _ _ _ _ => rfl
@[simp] theorem State.alarm_freeCount (s : State) (p : Plane) (i sub sev : Nat) (d : List Byte) : (s.alarm p i sub sev d).freeCount = s.freeCount := (s.alarm_books _ _ _ _ _).keep State.freeCount fun _ _ _ _ _ => rfl
@[simp] theorem State.alarm_pending (s : State) (p : Plane) (i sub sev : Nat) (d : List Byte) : (s.alarm p i sub sev d).pending = s.pending := (s.alarm_books _ _ _ _ _).keep State.pending fun _ _ _ _ _ => rfl

@[simp] theorem State.unalarm_now (s : State) (p : Plane) (i sub sev : Nat) : (s.unalarm p i sub sev).now = s.now := (s.unalarm_books _ _ _ _).keep State.now fun _ _ _ _ _ => rfl
@[simp] theorem State.unalarm_power (s : State) (p : Plane) (i sub sev : Nat) : (s.unalarm p i sub sev).power = s.power := (s.unalarm_books _ _ _ _).keep State.power fun _ _ _ _ _ => rfl
@[simp] theorem State.unalarm_ident (s : State) (p : Plane) (i sub sev : Nat) : (s.unalarm p i sub sev).ident = s.ident := (s.unalarm_books _ _ _ _).keep State.ident fun _ _ _ _ _ => rfl
@[simp] theorem State.unalarm_clock (s : State) (p : Plane) (i sub sev : Nat) : (s.unalarm p i sub sev).clock = s.clock := (s.unalarm_books _ _ _ _).keep State.clock fun _ _ _ _ _ => rfl
@[simp] theorem State.unalarm_blobs (s : State) (p : Plane) (i sub sev : Nat) : (s.unalarm p i sub sev).blobs = s.blobs := (s.unalarm_books _ _ _ _).keep State.blobs fun _ _ _ _ _ => rfl
@[simp] theorem State.unalarm_held (s : State) (p : Plane) (i sub sev : Nat) : (s.unalarm p i sub sev).held = s.held := (s.unalarm_books _ _ _ _).keep State.held fun _ _ _ _ _ => rfl
@[simp] theorem State.unalarm_dict (s : State) (p : Plane) (i sub sev : Nat) : (s.unalarm p i sub sev).dict = s.dict := (s.unalarm_books _ _ _ _).keep State.dict fun _ _ _ _ _ => rfl
@[simp] theorem State.unalarm_pair (s : State) (p : Plane) (i sub sev : Nat) : (s.unalarm p i sub sev).pair = s.pair := (s.unalarm_books _ _ _ _).keep State.pair fun _ _ _ _ _ => rfl
@[simp] theorem State.unalarm_mram (s : State) (p : Plane) (i sub sev : Nat) : (s.unalarm p i sub sev).mram = s.mram := (s.unalarm_books _ _ _ _).keep State.mram fun _ _ _ _ _ => rfl
@[simp] theorem State.unalarm_tap (s : State) (p : Plane) (i sub sev : Nat) : (s.unalarm p i sub sev).tap = s.tap := (s.unalarm_books _ _ _ _).keep State.tap fun _ _ _ _ _ => rfl
@[simp] theorem State.unalarm_gnss (s : State) (p : Plane) (i sub sev : Nat) : (s.unalarm p i sub sev).gnss = s.gnss := (s.unalarm_books _ _ _ _).keep State.gnss fun _ _ _ _ _ => rfl
@[simp] theorem State.unalarm_gsol (s : State) (p : Plane) (i sub sev : Nat) : (s.unalarm p i sub sev).gsol = s.gsol := (s.unalarm_books _ _ _ _).keep State.gsol fun _ _ _ _ _ => rfl
@[simp] theorem State.unalarm_intake (s : State) (p : Plane) (i sub sev : Nat) : (s.unalarm p i sub sev).intake = s.intake := (s.unalarm_books _ _ _ _).keep State.intake fun _ _ _ _ _ => rfl
@[simp] theorem State.unalarm_align (s : State) (p : Plane) (i sub sev : Nat) : (s.unalarm p i sub sev).align = s.align := (s.unalarm_books _ _ _ _).keep State.align fun _ _ _ _ _ => rfl
@[simp] theorem State.unalarm_est (s : State) (p : Plane) (i sub sev : Nat) : (s.unalarm p i sub sev).est = s.est := (s.unalarm_books _ _ _ _).keep State.est fun _ _ _ _ _ => rfl
@[simp] theorem State.unalarm_trk (s : State) (p : Plane) (i sub sev : Nat) : (s.unalarm p i sub sev).trk = s.trk := (s.unalarm_books _ _ _ _).keep State.trk fun _ _ _ _ _ => rfl
@[simp] theorem State.unalarm_ctl (s : State) (p : Plane) (i sub sev : Nat) : (s.unalarm p i sub sev).ctl = s.ctl := (s.unalarm_books _ _ _ _).keep State.ctl fun _ _ _ _ _ => rfl
@[simp] theorem State.unalarm_ring (s : State) (p : Plane) (i sub sev : Nat) : (s.unalarm p i sub sev).ring = s.ring := (s.unalarm_books _ _ _ _).keep State.ring fun _ _ _ _ _ => rfl
@[simp] theorem State.unalarm_alc (s : State) (p : Plane) (i sub sev : Nat) : (s.unalarm p i sub sev).alc = s.alc := (s.unalarm_books _ _ _ _).keep State.alc fun _ _ _ _ _ => rfl
@[simp] theorem State.unalarm_srv (s : State) (p : Plane) (i sub sev : Nat) : (s.unalarm p i sub sev).srv = s.srv := (s.unalarm_books _ _ _ _).keep State.srv fun _ _ _ _ _ => rfl
@[simp] theorem State.unalarm_saf (s : State) (p : Plane) (i sub sev : Nat) : (s.unalarm p i sub sev).saf = s.saf := (s.unalarm_books _ _ _ _).keep State.saf fun _ _ _ _ _ => rfl
@[simp] theorem State.unalarm_net (s : State) (p : Plane) (i sub sev : Nat) : (s.unalarm p i sub sev).net = s.net := (s.unalarm_books _ _ _ _).keep State.net fun _ _ _ _ _ => rfl
@[simp] theorem State.unalarm_panel (s : State) (p : Plane) (i sub sev : Nat) : (s.unalarm p i sub sev).panel = s.panel := (s.unalarm_books _ _ _ _).keep State.panel fun _ _ _ _ _ => rfl
@[simp] theorem State.unalarm_diagn (s : State) (p : Plane) (i sub sev : Nat) : (s.unalarm p i sub sev).diagn = s.diagn := (s.unalarm_books _ _ _ _).keep State.diagn fun _ _ _ _ _ => rfl
@[simp] theorem State.unalarm_user (s : State) (p : Plane) (i sub sev : Nat) : (s.unalarm p i sub sev).user = s.user := (s.unalarm_books _ _ _ _).keep State.user fun _ _ _ _ _ => rfl
@[simp] theorem State.unalarm_out (s : State) (p : Plane) (i sub sev : Nat) : (s.unalarm p i sub sev).out = s.out := (s.unalarm_books _ _ _ _).keep State.out fun _ _ _ _ _ => rfl
@[simp] theorem State.unalarm_freeCount (s : State) (p : Plane) (i sub sev : Nat) : (s.unalarm p i sub sev).freeCount = s.freeCount := (s.unalarm_books _ _ _ _).keep State.freeCount fun _ _ _ _ _ => rfl
@[simp] theorem State.unalarm_pending (s : State) (p : Plane) (i sub sev : Nat) : (s.unalarm p i sub sev).pending = s.pending := (s.unalarm_books _ _ _ _).keep State.pending fun _ _ _ _ _ => rfl

@[simp] theorem State.alarmIf_now (s : State) (c : Bool) (p : Plane) (i sub sev : Nat) : (s.alarmIf c p i sub sev).now = s.now := (s.alarmIf_books _ _ _ _ _).keep State.now fun _ _ _ _ _ => rfl
@[simp] theorem State.alarmIf_power (s : State) (c : Bool) (p : Plane) (i sub sev : Nat) : (s.alarmIf c p i sub sev).power = s.power := (s.alarmIf_books _ _ _ _ _).keep State.power fun _ _ _ _ _ => rfl
@[simp] theorem State.alarmIf_ident (s : State) (c : Bool) (p : Plane) (i sub sev : Nat) : (s.alarmIf c p i sub sev).ident = s.ident := (s.alarmIf_books _ _ _ _ _).keep State.ident fun _ _ _ _ _ => rfl
@[simp] theorem State.alarmIf_clock (s : State) (c : Bool) (p : Plane) (i sub sev : Nat) : (s.alarmIf c p i sub sev).clock = s.clock := (s.alarmIf_books _ _ _ _ _).keep State.clock fun _ _ _ _ _ => rfl
@[simp] theorem State.alarmIf_blobs (s : State) (c : Bool) (p : Plane) (i sub sev : Nat) : (s.alarmIf c p i sub sev).blobs = s.blobs := (s.alarmIf_books _ _ _ _ _).keep State.blobs fun _ _ _ _ _ => rfl
@[simp] theorem State.alarmIf_held (s : State) (c : Bool) (p : Plane) (i sub sev : Nat) : (s.alarmIf c p i sub sev).held = s.held := (s.alarmIf_books _ _ _ _ _).keep State.held fun _ _ _ _ _ => rfl
@[simp] theorem State.alarmIf_dict (s : State) (c : Bool) (p : Plane) (i sub sev : Nat) : (s.alarmIf c p i sub sev).dict = s.dict := (s.alarmIf_books _ _ _ _ _).keep State.dict fun _ _ _ _ _ => rfl
@[simp] theorem State.alarmIf_pair (s : State) (c : Bool) (p : Plane) (i sub sev : Nat) : (s.alarmIf c p i sub sev).pair = s.pair := (s.alarmIf_books _ _ _ _ _).keep State.pair fun _ _ _ _ _ => rfl
@[simp] theorem State.alarmIf_mram (s : State) (c : Bool) (p : Plane) (i sub sev : Nat) : (s.alarmIf c p i sub sev).mram = s.mram := (s.alarmIf_books _ _ _ _ _).keep State.mram fun _ _ _ _ _ => rfl
@[simp] theorem State.alarmIf_tap (s : State) (c : Bool) (p : Plane) (i sub sev : Nat) : (s.alarmIf c p i sub sev).tap = s.tap := (s.alarmIf_books _ _ _ _ _).keep State.tap fun _ _ _ _ _ => rfl
@[simp] theorem State.alarmIf_gnss (s : State) (c : Bool) (p : Plane) (i sub sev : Nat) : (s.alarmIf c p i sub sev).gnss = s.gnss := (s.alarmIf_books _ _ _ _ _).keep State.gnss fun _ _ _ _ _ => rfl
@[simp] theorem State.alarmIf_gsol (s : State) (c : Bool) (p : Plane) (i sub sev : Nat) : (s.alarmIf c p i sub sev).gsol = s.gsol := (s.alarmIf_books _ _ _ _ _).keep State.gsol fun _ _ _ _ _ => rfl
@[simp] theorem State.alarmIf_intake (s : State) (c : Bool) (p : Plane) (i sub sev : Nat) : (s.alarmIf c p i sub sev).intake = s.intake := (s.alarmIf_books _ _ _ _ _).keep State.intake fun _ _ _ _ _ => rfl
@[simp] theorem State.alarmIf_align (s : State) (c : Bool) (p : Plane) (i sub sev : Nat) : (s.alarmIf c p i sub sev).align = s.align := (s.alarmIf_books _ _ _ _ _).keep State.align fun _ _ _ _ _ => rfl
@[simp] theorem State.alarmIf_est (s : State) (c : Bool) (p : Plane) (i sub sev : Nat) : (s.alarmIf c p i sub sev).est = s.est := (s.alarmIf_books _ _ _ _ _).keep State.est fun _ _ _ _ _ => rfl
@[simp] theorem State.alarmIf_trk (s : State) (c : Bool) (p : Plane) (i sub sev : Nat) : (s.alarmIf c p i sub sev).trk = s.trk := (s.alarmIf_books _ _ _ _ _).keep State.trk fun _ _ _ _ _ => rfl
@[simp] theorem State.alarmIf_ctl (s : State) (c : Bool) (p : Plane) (i sub sev : Nat) : (s.alarmIf c p i sub sev).ctl = s.ctl := (s.alarmIf_books _ _ _ _ _).keep State.ctl fun _ _ _ _ _ => rfl
@[simp] theorem State.alarmIf_ring (s : State) (c : Bool) (p : Plane) (i sub sev : Nat) : (s.alarmIf c p i sub sev).ring = s.ring := (s.alarmIf_books _ _ _ _ _).keep State.ring fun _ _ _ _ _ => rfl
@[simp] theorem State.alarmIf_alc (s : State) (c : Bool) (p : Plane) (i sub sev : Nat) : (s.alarmIf c p i sub sev).alc = s.alc := (s.alarmIf_books _ _ _ _ _).keep State.alc fun _ _ _ _ _ => rfl
@[simp] theorem State.alarmIf_srv (s : State) (c : Bool) (p : Plane) (i sub sev : Nat) : (s.alarmIf c p i sub sev).srv = s.srv := (s.alarmIf_books _ _ _ _ _).keep State.srv fun _ _ _ _ _ => rfl
@[simp] theorem State.alarmIf_saf (s : State) (c : Bool) (p : Plane) (i sub sev : Nat) : (s.alarmIf c p i sub sev).saf = s.saf := (s.alarmIf_books _ _ _ _ _).keep State.saf fun _ _ _ _ _ => rfl
@[simp] theorem State.alarmIf_net (s : State) (c : Bool) (p : Plane) (i sub sev : Nat) : (s.alarmIf c p i sub sev).net = s.net := (s.alarmIf_books _ _ _ _ _).keep State.net fun _ _ _ _ _ => rfl
@[simp] theorem State.alarmIf_panel (s : State) (c : Bool) (p : Plane) (i sub sev : Nat) : (s.alarmIf c p i sub sev).panel = s.panel := (s.alarmIf_books _ _ _ _ _).keep State.panel fun _ _ _ _ _ => rfl
@[simp] theorem State.alarmIf_diagn (s : State) (c : Bool) (p : Plane) (i sub sev : Nat) : (s.alarmIf c p i sub sev).diagn = s.diagn := (s.alarmIf_books _ _ _ _ _).keep State.diagn fun _ _ _ _ _ => rfl
@[simp] theorem State.alarmIf_user (s : State) (c : Bool) (p : Plane) (i sub sev : Nat) : (s.alarmIf c p i sub sev).user = s.user := (s.alarmIf_books _ _ _ _ _).keep State.user fun _ _ _ _ _ => rfl
@[simp] theorem State.alarmIf_out (s : State) (c : Bool) (p : Plane) (i sub sev : Nat) : (s.alarmIf c p i sub sev).out = s.out := (s.alarmIf_books _ _ _ _ _).keep State.out fun _ _ _ _ _ => rfl
@[simp] theorem State.alarmIf_freeCount (s : State) (c : Bool) (p : Plane) (i sub sev : Nat) : (s.alarmIf c p i sub sev).freeCount = s.freeCount := (s.alarmIf_books _ _ _ _ _).keep State.freeCount fun _ _ _ _ _ => rfl
@[simp] theorem State.alarmIf_pending (s : State) (c : Bool) (p : Plane) (i sub sev : Nat) : (s.alarmIf c p i sub sev).pending = s.pending := (s.alarmIf_books _ _ _ _ _).keep State.pending fun _ _ _ _ _ => rfl

@[simp] theorem State.count_now (s : State) (p : Plane) (i sub : Nat) : (s.count p i sub).now = s.now := (s.count_books _ _ _).keep State.now fun _ _ _ _ _ => rfl
@[simp] theorem State.count_power (s : State) (p : Plane) (i sub : Nat) : (s.count p i sub).power = s.power := (s.count_books _ _ _).keep State.power fun _ _ _ _ _ => rfl
@[simp] theorem State.count_ident (s : State) (p : Plane) (i sub : Nat) : (s.count p i sub).ident = s.ident := (s.count_books _ _ _).keep State.ident fun _ _ _ _ _ => rfl
@[simp] theorem State.count_clock (s : State) (p : Plane) (i sub : Nat) : (s.count p i sub).clock = s.clock := (s.count_books _ _ _).keep State.clock fun _ _ _ _ _ => rfl
@[simp] theorem State.count_blobs (s : State) (p : Plane) (i sub : Nat) : (s.count p i sub).blobs = s.blobs := (s.count_books _ _ _).keep State.blobs fun _ _ _ _ _ => rfl
@[simp] theorem State.count_held (s : State) (p : Plane) (i sub : Nat) : (s.count p i sub).held = s.held := (s.count_books _ _ _).keep State.held fun _ _ _ _ _ => rfl
@[simp] theorem State.count_dict (s : State) (p : Plane) (i sub : Nat) : (s.count p i sub).dict = s.dict := (s.count_books _ _ _).keep State.dict fun _ _ _ _ _ => rfl
@[simp] theorem State.count_pair (s : State) (p : Plane) (i sub : Nat) : (s.count p i sub).pair = s.pair := (s.count_books _ _ _).keep State.pair fun _ _ _ _ _ => rfl
@[simp] theorem State.count_mram (s : State) (p : Plane) (i sub : Nat) : (s.count p i sub).mram = s.mram := (s.count_books _ _ _).keep State.mram fun _ _ _ _ _ => rfl
@[simp] theorem State.count_tap (s : State) (p : Plane) (i sub : Nat) : (s.count p i sub).tap = s.tap := (s.count_books _ _ _).keep State.tap fun _ _ _ _ _ => rfl
@[simp] theorem State.count_gnss (s : State) (p : Plane) (i sub : Nat) : (s.count p i sub).gnss = s.gnss := (s.count_books _ _ _).keep State.gnss fun _ _ _ _ _ => rfl
@[simp] theorem State.count_gsol (s : State) (p : Plane) (i sub : Nat) : (s.count p i sub).gsol = s.gsol := (s.count_books _ _ _).keep State.gsol fun _ _ _ _ _ => rfl
@[simp] theorem State.count_intake (s : State) (p : Plane) (i sub : Nat) : (s.count p i sub).intake = s.intake := (s.count_books _ _ _).keep State.intake fun _ _ _ _ _ => rfl
@[simp] theorem State.count_align (s : State) (p : Plane) (i sub : Nat) : (s.count p i sub).align = s.align := (s.count_books _ _ _).keep State.align fun _ _ _ _ _ => rfl
@[simp] theorem State.count_est (s : State) (p : Plane) (i sub : Nat) : (s.count p i sub).est = s.est := (s.count_books _ _ _).keep State.est fun _ _ _ _ _ => rfl
@[simp] theorem State.count_trk (s : State) (p : Plane) (i sub : Nat) : (s.count p i sub).trk = s.trk := (s.count_books _ _ _).keep State.trk fun _ _ _ _ _ => rfl
@[simp] theorem State.count_ctl (s : State) (p : Plane) (i sub : Nat) : (s.count p i sub).ctl = s.ctl := (s.count_books _ _ _).keep State.ctl fun _ _ _ _ _ => rfl
@[simp] theorem State.count_ring (s : State) (p : Plane) (i sub : Nat) : (s.count p i sub).ring = s.ring := (s.count_books _ _ _).keep State.ring fun _ _ _ _ _ => rfl
@[simp] theorem State.count_alc (s : State) (p : Plane) (i sub : Nat) : (s.count p i sub).alc = s.alc := (s.count_books _ _ _).keep State.alc fun _ _ _ _ _ => rfl
@[simp] theorem State.count_srv (s : State) (p : Plane) (i sub : Nat) : (s.count p i sub).srv = s.srv := (s.count_books _ _ _).keep State.srv fun _ _ _ _ _ => rfl
@[simp] theorem State.count_saf (s : State) (p : Plane) (i sub : Nat) : (s.count p i sub).saf = s.saf := (s.count_books _ _ _).keep State.saf fun _ _ _ _ _ => rfl
@[simp] theorem State.count_net (s : State) (p : Plane) (i sub : Nat) : (s.count p i sub).net = s.net := (s.count_books _ _ _).keep State.net fun _ _ _ _ _ => rfl
@[simp] theorem State.count_panel (s : State) (p : Plane) (i sub : Nat) : (s.count p i sub).panel = s.panel := (s.count_books _ _ _).keep State.panel fun _ _ _ _ _ => rfl
@[simp] theorem State.count_diagn (s : State) (p : Plane) (i sub : Nat) : (s.count p i sub).diagn = s.diagn := (s.count_books _ _ _).keep State.diagn fun _ _ _ _ _ => rfl
@[simp] theorem State.count_user (s : State) (p : Plane) (i sub : Nat) : (s.count p i sub).user = s.user := (s.count_books _ _ _).keep State.user fun _ _ _ _ _ => rfl
@[simp] theorem State.count_out (s : State) (p : Plane) (i sub : Nat) : (s.count p i sub).out = s.out := (s.count_books _ _ _).keep State.out fun _ _ _ _ _ => rfl
@[simp] theorem State.count_freeCount (s : State) (p : Plane) (i sub : Nat) : (s.count p i sub).freeCount = s.freeCount := (s.count_books _ _ _).keep State.freeCount fun _ _ _ _ _ => rfl
@[simp] theorem State.count_pending (s : State) (p : Plane) (i sub : Nat) : (s.count p i sub).pending = s.pending := (s.count_books _ _ _).keep State.pending fun _ _ _ _ _ => rfl

@[simp] theorem State.countBy_now (s : State) (p : Plane) (i sub n : Nat) : (s.countBy p i sub n).now = s.now := (s.countBy_books _ _ _ _).keep State.now fun _ _ _ _ _ => rfl
@[simp] theorem State.countBy_power (s : State) (p : Plane) (i sub n : Nat) : (s.countBy p i sub n).power = s.power := (s.countBy_books _ _ _ _).keep State.power fun _ _ _ _ _ => rfl
@[simp] theorem State.countBy_ident (s : State) (p : Plane) (i sub n : Nat) : (s.countBy p i sub n).ident = s.ident := (s.countBy_books _ _ _ _).keep State.ident fun _ _ _ _ _ => rfl
@[simp] theorem State.countBy_clock (s : State) (p : Plane) (i sub n : Nat) : (s.countBy p i sub n).clock = s.clock := (s.countBy_books _ _ _ _).keep State.clock fun _ _ _ _ _ => rfl
@[simp] theorem State.countBy_blobs (s : State) (p : Plane) (i sub n : Nat) : (s.countBy p i sub n).blobs = s.blobs := (s.countBy_books _ _ _ _).keep State.blobs fun _ _ _ _ _ => rfl
@[simp] theorem State.countBy_held (s : State) (p : Plane) (i sub n : Nat) : (s.countBy p i sub n).held = s.held := (s.countBy_books _ _ _ _).keep State.held fun _ _ _ _ _ => rfl
@[simp] theorem State.countBy_dict (s : State) (p : Plane) (i sub n : Nat) : (s.countBy p i sub n).dict = s.dict := (s.countBy_books _ _ _ _).keep State.dict fun _ _ _ _ _ => rfl
@[simp] theorem State.countBy_pair (s : State) (p : Plane) (i sub n : Nat) : (s.countBy p i sub n).pair = s.pair := (s.countBy_books _ _ _ _).keep State.pair fun _ _ _ _ _ => rfl
@[simp] theorem State.countBy_mram (s : State) (p : Plane) (i sub n : Nat) : (s.countBy p i sub n).mram = s.mram := (s.countBy_books _ _ _ _).keep State.mram fun _ _ _ _ _ => rfl
@[simp] theorem State.countBy_tap (s : State) (p : Plane) (i sub n : Nat) : (s.countBy p i sub n).tap = s.tap := (s.countBy_books _ _ _ _).keep State.tap fun _ _ _ _ _ => rfl
@[simp] theorem State.countBy_gnss (s : State) (p : Plane) (i sub n : Nat) : (s.countBy p i sub n).gnss = s.gnss := (s.countBy_books _ _ _ _).keep State.gnss fun _ _ _ _ _ => rfl
@[simp] theorem State.countBy_gsol (s : State) (p : Plane) (i sub n : Nat) : (s.countBy p i sub n).gsol = s.gsol := (s.countBy_books _ _ _ _).keep State.gsol fun _ _ _ _ _ => rfl
@[simp] theorem State.countBy_intake (s : State) (p : Plane) (i sub n : Nat) : (s.countBy p i sub n).intake = s.intake := (s.countBy_books _ _ _ _).keep State.intake fun _ _ _ _ _ => rfl
@[simp] theorem State.countBy_align (s : State) (p : Plane) (i sub n : Nat) : (s.countBy p i sub n).align = s.align := (s.countBy_books _ _ _ _).keep State.align fun _ _ _ _ _ => rfl
@[simp] theorem State.countBy_est (s : State) (p : Plane) (i sub n : Nat) : (s.countBy p i sub n).est = s.est := (s.countBy_books _ _ _ _).keep State.est fun _ _ _ _ _ => rfl
@[simp] theorem State.countBy_trk (s : State) (p : Plane) (i sub n : Nat) : (s.countBy p i sub n).trk = s.trk := (s.countBy_books _ _ _ _).keep State.trk fun _ _ _ _ _ => rfl
@[simp] theorem State.countBy_ctl (s : State) (p : Plane) (i sub n : Nat) : (s.countBy p i sub n).ctl = s.ctl := (s.countBy_books _ _ _ _).keep State.ctl fun _ _ _ _ _ => rfl
@[simp] theorem State.countBy_ring (s : State) (p : Plane) (i sub n : Nat) : (s.countBy p i sub n).ring = s.ring := (s.countBy_books _ _ _ _).keep State.ring fun _ _ _ _ _ => rfl
@[simp] theorem State.countBy_alc (s : State) (p : Plane) (i sub n : Nat) : (s.countBy p i sub n).alc = s.alc := (s.countBy_books _ _ _ _).keep State.alc fun _ _ _ _ _ => rfl
@[simp] theorem State.countBy_srv (s : State) (p : Plane) (i sub n : Nat) : (s.countBy p i sub n).srv = s.srv := (s.countBy_books _ _ _ _).keep State.srv fun _ _ _ _ _ => rfl
@[simp] theorem State.countBy_saf (s : State) (p : Plane) (i sub n : Nat) : (s.countBy p i sub n).saf = s.saf := (s.countBy_books _ _ _ _).keep State.saf fun _ _ _ _ _ => rfl
@[simp] theorem State.countBy_net (s : State) (p : Plane) (i sub n : Nat) : (s.countBy p i sub n).net = s.net := (s.countBy_books _ _ _ _).keep State.net fun _ _ _ _ _ => rfl
@[simp] theorem State.countBy_panel (s : State) (p : Plane) (i sub n : Nat) : (s.countBy p i sub n).panel = s.panel := (s.countBy_books _ _ _ _).keep State.panel fun _ _ _ _ _ => rfl
@[simp] theorem State.countBy_diagn (s : State) (p : Plane) (i sub n : Nat) : (s.countBy p i sub n).diagn = s.diagn := (s.countBy_books _ _ _ _).keep State.diagn fun _ _ _ _ _ => rfl
@[simp] theorem State.countBy_user (s : State) (p : Plane) (i sub n : Nat) : (s.countBy p i sub n).user = s.user := (s.countBy_books _ _ _ _).keep State.user fun _ _ _ _ _ => rfl
@[simp] theorem State.countBy_out (s : State) (p : Plane) (i sub n : Nat) : (s.countBy p i sub n).out = s.out := (s.countBy_books _ _ _ _).keep State.out fun _ _ _ _ _ => rfl
@[simp] theorem State.countBy_freeCount (s : State) (p : Plane) (i sub n : Nat) : (s.countBy p i sub n).freeCount = s.freeCount := (s.countBy_books _ _ _ _).keep State.freeCount fun _ _ _ _ _ => rfl
@[simp] theorem State.countBy_pending (s : State) (p : Plane) (i sub n : Nat) : (s.countBy p i sub n).pending = s.pending := (s.countBy_books _ _ _ _).keep State.pending fun _ _ _ _ _ => rfl

/-! ### Running -/

@[simp] theorem State.running_setObjK (s : State) (k : Nat) (v : Int) : (s.setObjK k v).running = s.running := rfl
@[simp] theorem State.running_setObj (s : State) (i sub : Nat) (v : Int) : (s.setObj i sub v).running = s.running := rfl

/-! ### The canonical stores -/

/-- The object store alone is canonical. -/
def State.odOk (s : State) : Prop := storeWf keyDefault s.od = true

@[simp] theorem State.odOk_setObjK (s : State) (k : Nat) (v : Int) (h : s.odOk) : (s.setObjK k v).odOk :=
  storeWf_assocSet keyDefault s.od k v h

@[simp] theorem State.odOk_setObj (s : State) (i sub : Nat) (v : Int) (h : s.odOk) : (s.setObj i sub v).odOk := s.odOk_setObjK _ _ h

@[simp] theorem State.odOk_setBit (s : State) (i sub n : Nat) (b : Bool) (h : s.odOk) : (s.setBit i sub n b).odOk := s.odOk_setObj _ _ _ h

@[simp] theorem State.odOk_setObjs (s : State) (l : List (Nat × Nat × Int)) (h : s.odOk) : (s.setObjs l).odOk := by
  induction l generalizing s with
  | nil => exact h
  | cons e l ih => exact ih _ (s.odOk_setObj _ _ _ h)

@[simp] theorem State.odOk_at (s : State) (t : Nat) (h : s.odOk) : (s.at t).odOk := h

@[simp] theorem State.odOk_bump (s : State) (i sub : Nat) (h : s.odOk) : (s.bump i sub).odOk := by
  unfold State.bump
  split
  · exact s.odOk_setObj _ _ _ h
  · exact s.odOk_setBit _ _ _ _ h

@[simp] theorem State.odOk_offer (s : State) (it : IntakeItem) (h : s.odOk) : (s.offer it).odOk := by
  unfold State.offer
  split
  · exact h
  · dsimp only
    split
    · exact State.odOk_bump _ _ _ h
    · split
      · exact State.odOk_setBit _ _ _ _ _ h
      · exact h

@[simp] theorem State.odOk_event (s : State) (p : Plane) (i sub sev : Nat) (d : List Byte) (h : s.odOk) :
    (s.event p i sub sev d).odOk := s.odOk_offer _ h

@[simp] theorem State.odOk_alarm (s : State) (p : Plane) (i sub sev : Nat) (d : List Byte) (h : s.odOk) :
    (s.alarm p i sub sev d).odOk := by
  unfold State.alarm
  split
  · exact h
  · exact State.odOk_offer _ _ h

@[simp] theorem State.odOk_unalarm (s : State) (p : Plane) (i sub sev : Nat) (h : s.odOk) : (s.unalarm p i sub sev).odOk := by
  unfold State.unalarm
  split
  · exact State.odOk_offer _ _ h
  · exact h

@[simp] theorem State.odOk_count (s : State) (p : Plane) (i sub : Nat) (h : s.odOk) : (s.count p i sub).odOk := by
  unfold State.count
  split
  · exact s.odOk_setObj _ _ _ h
  · split
    · exact h
    · exact State.odOk_event _ _ _ _ _ _ (State.odOk_setBit _ _ _ _ _ h)

@[simp] theorem State.odOk_alarmIf (s : State) (c : Bool) (p : Plane) (i sub sev : Nat) (h : s.odOk) : (s.alarmIf c p i sub sev).odOk := by
  unfold State.alarmIf
  split
  · exact s.odOk_alarm _ _ _ _ _ h
  · exact s.odOk_unalarm _ _ _ _ h

@[simp] theorem State.odOk_raiseBit (s : State) (i sub n : Nat) (b : Bool) (h : s.odOk) : (s.raiseBit i sub n b).odOk := by
  unfold State.raiseBit
  split
  · exact s.odOk_setBit _ _ _ _ h
  · exact h

@[simp] theorem State.odOk_countBy (s : State) (p : Plane) (i sub n : Nat) (h : s.odOk) : (s.countBy p i sub n).odOk := by
  unfold State.countBy
  split
  · exact s.odOk_setObj _ _ _ h
  · exact State.odOk_count _ _ _ _ (s.odOk_setObj _ _ _ h)

/-! ### Reading an object back -/

theorem State.objK_setObjK (s : State) (k l : Nat) (v : Int) (h : s.odOk) :
    (s.setObjK k v).objK l = if l = k then v else s.objK l := by
  have := assocGet_assocSet (keyDefault l) s.od k l v ((storeWf_iff _ _).1 h).2
  unfold State.setObjK State.objK
  by_cases hl : l = k
  · subst hl; simpa using this
  · rw [if_neg hl]
    rw [if_neg hl] at this
    rw [← this]
    dsimp only
    unfold assocSet
    split <;> split
    · rfl
    · next h1 h2 => rw [assocGet_assocErase _ _ _ _ ((storeWf_iff _ _).1 h).2, assocGet_assocInsert _ _ _ _ _ ((storeWf_iff _ _).1 h).2, if_neg hl, if_neg hl]
    · next h1 h2 => rw [assocGet_assocErase _ _ _ _ ((storeWf_iff _ _).1 h).2, assocGet_assocInsert _ _ _ _ _ ((storeWf_iff _ _).1 h).2, if_neg hl, if_neg hl]
    · rfl

/-- An object written reads as written; every other object reads as before. -/
theorem State.obj_setObj (s : State) (i sub j tub : Nat) (v : Int) (h : s.odOk) :
    (s.setObj i sub v).obj j tub = if okey j tub = okey i sub then v else s.obj j tub := s.objK_setObjK _ _ _ h

@[simp] theorem State.obj_at (s : State) (t i sub : Nat) : (s.at t).obj i sub = s.obj i sub := rfl
@[simp] theorem State.nat_at (s : State) (t i sub : Nat) : (s.at t).nat i sub = s.nat i sub := rfl
@[simp] theorem State.bit_at (s : State) (t i sub n : Nat) : (s.at t).bit i sub n = s.bit i sub n := rfl
@[simp] theorem State.blob_at (s : State) (t i sub : Nat) : (s.at t).blob i sub = s.blob i sub := rfl
@[simp] theorem State.obj_tell (s : State) (o : Out) (i sub : Nat) : (s.tell o).obj i sub = s.obj i sub := rfl

theorem State.objK_eq_of_od {s s' : State} (h : s'.od = s.od) (k : Nat) : s'.objK k = s.objK k := by
  unfold State.objK; rw [h]

/-! ### Objects that the recorder's bookkeeping leaves alone -/

theorem plane_mem (p : Plane) : okey 0x9000 (6 + p.code) ∈ recorderKeys := by cases p <;> decide

theorem State.objK_bump (s : State) (p : Plane) (k : Nat) (h : s.odOk) (hk : k ∉ recorderKeys) :
    (s.bump 0x9000 (6 + p.code)).objK k = s.objK k := by
  have h1 : k ≠ okey 0x9000 (6 + p.code) := fun e => hk (e ▸ plane_mem p)
  have h2 : k ≠ okey 0x9300 0x0A := fun e => hk (by rw [e]; decide)
  unfold State.bump
  split
  · exact (s.objK_setObjK _ _ _ h).trans (if_neg h1)
  · exact (s.objK_setObjK _ _ _ h).trans (if_neg h2)

theorem State.objK_offer (s : State) (it : IntakeItem) (k : Nat) (h : s.odOk) (hk : k ∉ recorderKeys) :
    (s.offer it).objK k = s.objK k := by
  have h3 : k ≠ okey 0x9000 0x0C := fun e => hk (by rw [e]; decide)
  unfold State.offer
  split
  · rfl
  · dsimp only
    split
    · exact State.objK_bump { s with recorder := s.recorder.noteDrop it.item.plane } _ k h hk
    · split
      · exact (State.objK_setObjK _ _ _ _ (by exact h)).trans (if_neg h3)
      · rfl

theorem State.objK_event (s : State) (p : Plane) (i sub sev : Nat) (d : List Byte) (k : Nat) (h : s.odOk) (hk : k ∉ recorderKeys) :
    (s.event p i sub sev d).objK k = s.objK k := s.objK_offer _ k h hk

theorem State.objK_alarm (s : State) (p : Plane) (i sub sev : Nat) (d : List Byte) (k : Nat) (h : s.odOk) (hk : k ∉ recorderKeys) :
    (s.alarm p i sub sev d).objK k = s.objK k := by
  unfold State.alarm
  split
  · rfl
  · exact State.objK_offer _ _ k (by exact h) hk

theorem State.objK_unalarm (s : State) (p : Plane) (i sub sev : Nat) (k : Nat) (h : s.odOk) (hk : k ∉ recorderKeys) :
    (s.unalarm p i sub sev).objK k = s.objK k := by
  unfold State.unalarm
  split
  · exact State.objK_offer _ _ k (by exact h) hk
  · rfl

theorem State.objK_alarmIf (s : State) (c : Bool) (p : Plane) (i sub sev : Nat) (k : Nat) (h : s.odOk) (hk : k ∉ recorderKeys) :
    (s.alarmIf c p i sub sev).objK k = s.objK k := by
  unfold State.alarmIf
  split
  · exact s.objK_alarm _ _ _ _ _ k h hk
  · exact s.objK_unalarm _ _ _ _ k h hk

/-- A count leaves every object but its own counter and the recorder's. -/
theorem State.objK_count (s : State) (p : Plane) (i sub : Nat) (k : Nat) (h : s.odOk) (hk : k ∉ recorderKeys)
    (hne : k ≠ okey i sub) : (s.count p i sub).objK k = s.objK k := by
  have h2 : k ≠ okey 0x9300 0x0A := fun e => hk (by rw [e]; decide)
  unfold State.count
  split
  · exact (s.objK_setObjK _ _ _ h).trans (if_neg hne)
  · split
    · rfl
    · refine (State.objK_event _ _ _ _ _ _ k ?_ hk).trans ((s.objK_setObjK _ _ _ h).trans (if_neg h2))
      exact s.odOk_setBit _ _ _ _ h

/-- A counter below its largest value counts by one (R737). -/
theorem State.obj_count_self (s : State) (p : Plane) (i sub : Nat) (h : s.odOk) (hlt : s.obj i sub < 0xFFFFFFFF) :
    (s.count p i sub).obj i sub = s.obj i sub + 1 := by
  unfold State.count
  rw [if_pos hlt]
  exact (s.objK_setObjK _ _ _ h).trans (if_pos rfl)

theorem State.obj_event (s : State) (p : Plane) (i sub sev : Nat) (d : List Byte) (j tub : Nat) (h : s.odOk)
    (hk : okey j tub ∉ recorderKeys) : (s.event p i sub sev d).obj j tub = s.obj j tub := s.objK_event _ _ _ _ _ _ h hk

theorem State.obj_alarm (s : State) (p : Plane) (i sub sev : Nat) (d : List Byte) (j tub : Nat) (h : s.odOk)
    (hk : okey j tub ∉ recorderKeys) : (s.alarm p i sub sev d).obj j tub = s.obj j tub := s.objK_alarm _ _ _ _ _ _ h hk

theorem State.obj_unalarm (s : State) (p : Plane) (i sub sev : Nat) (j tub : Nat) (h : s.odOk)
    (hk : okey j tub ∉ recorderKeys) : (s.unalarm p i sub sev).obj j tub = s.obj j tub := s.objK_unalarm _ _ _ _ _ h hk

theorem State.obj_alarmIf (s : State) (c : Bool) (p : Plane) (i sub sev : Nat) (j tub : Nat) (h : s.odOk)
    (hk : okey j tub ∉ recorderKeys) : (s.alarmIf c p i sub sev).obj j tub = s.obj j tub := s.objK_alarmIf _ _ _ _ _ _ h hk

theorem State.obj_count (s : State) (p : Plane) (i sub : Nat) (j tub : Nat) (h : s.odOk)
    (hk : okey j tub ∉ recorderKeys) (hne : okey j tub ≠ okey i sub) : (s.count p i sub).obj j tub = s.obj j tub :=
  s.objK_count _ _ _ _ h hk hne

/-! ### Bits of an object -/

theorem testBit_add_pow (v n m : Nat) (h : v.testBit n = false) :
    (v + 2 ^ n).testBit m = if m = n then true else v.testBit m := by
  induction n generalizing v m with
  | zero =>
    have h2 : v % 2 = 0 := by simpa [Nat.testBit_zero] using h
    cases m with
    | zero => simp [Nat.testBit_zero]; omega
    | succ m => simp only [Nat.testBit_succ, Nat.pow_zero, Nat.succ_ne_zero, if_false]; congr 1; omega
  | succ n ih =>
    rw [Nat.testBit_succ] at h
    cases m with
    | zero => simp [Nat.testBit_zero, Nat.pow_succ]
    | succ m =>
      rw [Nat.testBit_succ, Nat.testBit_succ, show (v + 2 ^ (n + 1)) / 2 = v / 2 + 2 ^ n by rw [Nat.pow_succ]; omega, ih _ _ h]
      simp

theorem testBit_sub_pow (v n m : Nat) (h : v.testBit n = true) :
    (v - 2 ^ n).testBit m = if m = n then false else v.testBit m := by
  have hle : 2 ^ n ≤ v := Nat.ge_two_pow_of_testBit h
  have hx : (v - 2 ^ n).testBit n = false := by
    by_contra hc
    have hc : (v - 2 ^ n).testBit n = true := by simpa using hc
    rw [Nat.testBit_eq_decide_div_mod_eq] at hc h
    have e : v / 2 ^ n = (v - 2 ^ n) / 2 ^ n + 1 := by
      conv_lhs => rw [show v = (v - 2 ^ n) + 2 ^ n by omega]
      exact Nat.add_div_right _ (Nat.two_pow_pos n)
    simp only [decide_eq_true_eq] at hc h
    omega
  have := testBit_add_pow (v - 2 ^ n) n m hx
  rw [Nat.sub_add_cancel hle] at this
  by_cases hm : m = n
  · simp [hm, hx]
  · simpa [hm] using this.symm

/-- A bit put reads as put; every other bit reads as before. -/
theorem testBit_putBit (v n m : Nat) (b : Bool) : (putBit v n b).testBit m = if m = n then b else v.testBit m := by
  unfold putBit
  split
  · next h => split <;> simp_all
  · next h =>
    split
    · next hb => subst hb; exact testBit_add_pow v n m (by simpa using h)
    · next hb =>
      have hb : b = false := by simpa using hb
      subst hb
      exact testBit_sub_pow v n m (by simpa using h)

theorem State.nat_setBit_self (s : State) (i sub n : Nat) (b : Bool) (h : s.odOk) :
    (s.setBit i sub n b).nat i sub = putBit (s.nat i sub) n b := by
  have : (s.setBit i sub n b).obj i sub = (putBit (s.nat i sub) n b : Nat) := (s.objK_setObjK _ _ _ h).trans (if_pos rfl)
  unfold State.nat at *
  rw [this]; simp

/-- A bit of an object put reads as put; every other bit of every object reads as before. -/
theorem State.bit_setBit (s : State) (i sub n j tub m : Nat) (b : Bool) (h : s.odOk) :
    (s.setBit i sub n b).bit j tub m = if okey j tub = okey i sub ∧ m = n then b else s.bit j tub m := by
  by_cases hk : okey j tub = okey i sub
  · have e : (s.setBit i sub n b).nat j tub = putBit (s.nat i sub) n b := by
      rw [← s.nat_setBit_self i sub n b h]
      unfold State.nat State.obj
      rw [hk]
    have e2 : s.nat j tub = s.nat i sub := by
      unfold State.nat State.obj
      rw [hk]
    unfold State.bit
    rw [e, testBit_putBit, e2]
    simp [hk]
  · have e : (s.setBit i sub n b).obj j tub = s.obj j tub := (s.objK_setObjK _ _ _ h).trans (if_neg hk)
    unfold State.bit State.nat
    rw [e]
    simp [hk]

/-- The other objects. -/
theorem State.obj_setBit (s : State) (i sub n j tub : Nat) (b : Bool) (h : s.odOk) (hk : okey j tub ≠ okey i sub) :
    (s.setBit i sub n b).obj j tub = s.obj j tub := (s.objK_setObjK _ _ _ h).trans (if_neg hk)

theorem State.bit_setObj (s : State) (i sub j tub m : Nat) (v : Int) (h : s.odOk) :
    (s.setObj i sub v).bit j tub m = if okey j tub = okey i sub then v.toNat.testBit m else s.bit j tub m := by
  unfold State.bit State.nat
  rw [s.obj_setObj _ _ _ _ _ h]
  split <;> rfl

theorem State.nat_setObj (s : State) (i sub j tub : Nat) (v : Int) (h : s.odOk) :
    (s.setObj i sub v).nat j tub = if okey j tub = okey i sub then v.toNat else s.nat j tub := by
  unfold State.nat
  rw [s.obj_setObj _ _ _ _ _ h]
  split <;> rfl

/-- Two keys of objects are equal only for the same object (subindices are below 256). -/
theorem okey_inj (i sub j tub : Nat) (h : sub < 256) (h' : tub < 256) : okey i sub = okey j tub ↔ i = j ∧ sub = tub := by
  unfold okey; omega

/-! ### The frame of a command -/

/-- The state in which a command with instant `t` takes effect: time has passed, the wires are quiet, the queue is out of
reach. -/
def State.heard (s : State) (t : Nat) : State := { s.at t with pending := [] }

@[simp] theorem State.heard_power (s : State) (t : Nat) : (s.heard t).power = s.power := rfl
@[simp] theorem State.heard_ident (s : State) (t : Nat) : (s.heard t).ident = s.ident := rfl
@[simp] theorem State.heard_od (s : State) (t : Nat) : (s.heard t).od = s.od := rfl
@[simp] theorem State.heard_blobs (s : State) (t : Nat) : (s.heard t).blobs = s.blobs := rfl
@[simp] theorem State.heard_held (s : State) (t : Nat) : (s.heard t).held = s.held := rfl
@[simp] theorem State.heard_dict (s : State) (t : Nat) : (s.heard t).dict = s.dict := rfl
@[simp] theorem State.heard_recorder (s : State) (t : Nat) : (s.heard t).recorder = s.recorder := rfl
@[simp] theorem State.heard_pair (s : State) (t : Nat) : (s.heard t).pair = s.pair := rfl
@[simp] theorem State.heard_alarms (s : State) (t : Nat) : (s.heard t).alarms = s.alarms := rfl
@[simp] theorem State.heard_saturated (s : State) (t : Nat) : (s.heard t).saturated = s.saturated := rfl
@[simp] theorem State.heard_mram (s : State) (t : Nat) : (s.heard t).mram = s.mram := rfl
@[simp] theorem State.heard_tap (s : State) (t : Nat) : (s.heard t).tap = s.tap := rfl
@[simp] theorem State.heard_gnss (s : State) (t : Nat) : (s.heard t).gnss = s.gnss := rfl
@[simp] theorem State.heard_gsol (s : State) (t : Nat) : (s.heard t).gsol = s.gsol := rfl
@[simp] theorem State.heard_intake (s : State) (t : Nat) : (s.heard t).intake = s.intake := rfl
@[simp] theorem State.heard_align (s : State) (t : Nat) : (s.heard t).align = s.align := rfl
@[simp] theorem State.heard_est (s : State) (t : Nat) : (s.heard t).est = s.est := rfl
@[simp] theorem State.heard_trk (s : State) (t : Nat) : (s.heard t).trk = s.trk := rfl
@[simp] theorem State.heard_ctl (s : State) (t : Nat) : (s.heard t).ctl = s.ctl := rfl
@[simp] theorem State.heard_ring (s : State) (t : Nat) : (s.heard t).ring = s.ring := rfl
@[simp] theorem State.heard_alc (s : State) (t : Nat) : (s.heard t).alc = s.alc := rfl
@[simp] theorem State.heard_srv (s : State) (t : Nat) : (s.heard t).srv = s.srv := rfl
@[simp] theorem State.heard_saf (s : State) (t : Nat) : (s.heard t).saf = s.saf := rfl
@[simp] theorem State.heard_net (s : State) (t : Nat) : (s.heard t).net = s.net := rfl
@[simp] theorem State.heard_panel (s : State) (t : Nat) : (s.heard t).panel = s.panel := rfl
@[simp] theorem State.heard_diagn (s : State) (t : Nat) : (s.heard t).diagn = s.diagn := rfl
@[simp] theorem State.heard_user (s : State) (t : Nat) : (s.heard t).user = s.user := rfl
@[simp] theorem State.heard_freeCount (s : State) (t : Nat) : (s.heard t).freeCount = s.freeCount := rfl
@[simp] theorem State.heard_out (s : State) (t : Nat) : (s.heard t).out = [] := rfl
@[simp] theorem State.heard_now (s : State) (t : Nat) : (s.heard t).now = max s.now t := rfl
@[simp] theorem State.heard_running (s : State) (t : Nat) : (s.heard t).running = s.running := rfl
@[simp] theorem State.heard_obj (s : State) (t i sub : Nat) : (s.heard t).obj i sub = s.obj i sub := rfl
@[simp] theorem State.heard_objK (s : State) (t k : Nat) : (s.heard t).objK k = s.objK k := rfl
@[simp] theorem State.heard_nat (s : State) (t i sub : Nat) : (s.heard t).nat i sub = s.nat i sub := rfl
@[simp] theorem State.heard_bit (s : State) (t i sub n : Nat) : (s.heard t).bit i sub n = s.bit i sub n := rfl
@[simp] theorem State.heard_odOk (s : State) (t : Nat) : (s.heard t).odOk ↔ s.odOk := Iff.rfl

/-- What a command hands back: its effect, with the queue and the clock of the outside world put in place. -/
def State.handed (r s : State) (t : Nat) : State := { r with pending := s.pending, now := max s.now t }

@[simp] theorem State.handed_power (r s : State) (t : Nat) : (r.handed s t).power = r.power := rfl
@[simp] theorem State.handed_ident (r s : State) (t : Nat) : (r.handed s t).ident = r.ident := rfl
@[simp] theorem State.handed_clock (r s : State) (t : Nat) : (r.handed s t).clock = r.clock := rfl
@[simp] theorem State.handed_od (r s : State) (t : Nat) : (r.handed s t).od = r.od := rfl
@[simp] theorem State.handed_blobs (r s : State) (t : Nat) : (r.handed s t).blobs = r.blobs := rfl
@[simp] theorem State.handed_held (r s : State) (t : Nat) : (r.handed s t).held = r.held := rfl
@[simp] theorem State.handed_dict (r s : State) (t : Nat) : (r.handed s t).dict = r.dict := rfl
@[simp] theorem State.handed_recorder (r s : State) (t : Nat) : (r.handed s t).recorder = r.recorder := rfl
@[simp] theorem State.handed_pair (r s : State) (t : Nat) : (r.handed s t).pair = r.pair := rfl
@[simp] theorem State.handed_alarms (r s : State) (t : Nat) : (r.handed s t).alarms = r.alarms := rfl
@[simp] theorem State.handed_saturated (r s : State) (t : Nat) : (r.handed s t).saturated = r.saturated := rfl
@[simp] theorem State.handed_mram (r s : State) (t : Nat) : (r.handed s t).mram = r.mram := rfl
@[simp] theorem State.handed_tap (r s : State) (t : Nat) : (r.handed s t).tap = r.tap := rfl
@[simp] theorem State.handed_gnss (r s : State) (t : Nat) : (r.handed s t).gnss = r.gnss := rfl
@[simp] theorem State.handed_gsol (r s : State) (t : Nat) : (r.handed s t).gsol = r.gsol := rfl
@[simp] theorem State.handed_intake (r s : State) (t : Nat) : (r.handed s t).intake = r.intake := rfl
@[simp] theorem State.handed_align (r s : State) (t : Nat) : (r.handed s t).align = r.align := rfl
@[simp] theorem State.handed_est (r s : State) (t : Nat) : (r.handed s t).est = r.est := rfl
@[simp] theorem State.handed_trk (r s : State) (t : Nat) : (r.handed s t).trk = r.trk := rfl
@[simp] theorem State.handed_ctl (r s : State) (t : Nat) : (r.handed s t).ctl = r.ctl := rfl
@[simp] theorem State.handed_ring (r s : State) (t : Nat) : (r.handed s t).ring = r.ring := rfl
@[simp] theorem State.handed_alc (r s : State) (t : Nat) : (r.handed s t).alc = r.alc := rfl
@[simp] theorem State.handed_srv (r s : State) (t : Nat) : (r.handed s t).srv = r.srv := rfl
@[simp] theorem State.handed_saf (r s : State) (t : Nat) : (r.handed s t).saf = r.saf := rfl
@[simp] theorem State.handed_net (r s : State) (t : Nat) : (r.handed s t).net = r.net := rfl
@[simp] theorem State.handed_panel (r s : State) (t : Nat) : (r.handed s t).panel = r.panel := rfl
@[simp] theorem State.handed_diagn (r s : State) (t : Nat) : (r.handed s t).diagn = r.diagn := rfl
@[simp] theorem State.handed_user (r s : State) (t : Nat) : (r.handed s t).user = r.user := rfl
@[simp] theorem State.handed_out (r s : State) (t : Nat) : (r.handed s t).out = r.out := rfl
@[simp] theorem State.handed_freeCount (r s : State) (t : Nat) : (r.handed s t).freeCount = r.freeCount := rfl
@[simp] theorem State.handed_obj (r s : State) (t i sub : Nat) : (r.handed s t).obj i sub = r.obj i sub := rfl
@[simp] theorem State.handed_nat (r s : State) (t i sub : Nat) : (r.handed s t).nat i sub = r.nat i sub := rfl
@[simp] theorem State.handed_bit (r s : State) (t i sub n : Nat) : (r.handed s t).bit i sub n = r.bit i sub n := rfl
@[simp] theorem State.handed_objK (r s : State) (t k : Nat) : (r.handed s t).objK k = r.objK k := rfl
@[simp] theorem State.handed_blob (r s : State) (t i sub : Nat) : (r.handed s t).blob i sub = r.blob i sub := rfl
@[simp] theorem State.handed_running (r s : State) (t : Nat) : (r.handed s t).running = r.running := rfl
@[simp] theorem State.handed_pending (r s : State) (t : Nat) : (r.handed s t).pending = s.pending := rfl
@[simp] theorem State.handed_now (r s : State) (t : Nat) : (r.handed s t).now = max s.now t := rfl

/-- Every command answers a next state: the effect, with the queue as it was. -/
theorem State.run_eq (s : State) (t : Nat) (f : State → State) : s.run t f = .next ((f (s.heard t)).handed s t) := rfl

theorem State.Inv.odOk {s : State} (h : s.Inv) : s.odOk := by
  have := h.1
  unfold State.storesOk at this
  exact (Bool.and_eq_true_iff.1 (Bool.and_eq_true_iff.1 this).1).1

theorem State.live_eq (s : State) (t : Nat) (f : State → State) (h : s.running = true) :
    s.live t f = .next ((f (s.heard t)).handed s t) := by
  unfold State.live
  rw [State.run_eq, if_pos (show (s.heard t).running = true from h)]

theorem State.ported_eq (s : State) (t : Nat) (f : State → State) (h : s.running = true) (hp : s.power.portsOn = true) :
    s.ported t f = .next ((f (s.heard t)).handed s t) := by
  unfold State.ported
  rw [State.run_eq, if_pos]
  exact Bool.and_eq_true_iff.2 ⟨h, hp⟩

theorem State.run_answers {s : State} {t : Nat} {f : State → State} {P : State → Prop} (h : P ((f (s.heard t)).handed s t)) :
    ∃ s', s.run t f = .next s' ∧ P s' := ⟨_, s.run_eq t f, h⟩

theorem State.live_answers {s : State} {t : Nat} {f : State → State} {P : State → Prop} (hr : s.running = true)
    (h : P ((f (s.heard t)).handed s t)) : ∃ s', s.live t f = .next s' ∧ P s' := ⟨_, s.live_eq t f hr, h⟩

theorem State.ported_answers {s : State} {t : Nat} {f : State → State} {P : State → Prop} (hr : s.running = true)
    (hp : s.power.portsOn = true) (h : P ((f (s.heard t)).handed s t)) : ∃ s', s.ported t f = .next s' ∧ P s' :=
  ⟨_, s.ported_eq t f hr hp, h⟩

/-- Two states are equal when all their fields are. -/
theorem State.eq_of_fields {a b : State} (h_now : a.now = b.now) (h_power : a.power = b.power) (h_ident : a.ident = b.ident) (h_clock : a.clock = b.clock) (h_od : a.od = b.od) (h_blobs : a.blobs = b.blobs) (h_held : a.held = b.held) (h_dict : a.dict = b.dict) (h_recorder : a.recorder = b.recorder) (h_pair : a.pair = b.pair) (h_alarms : a.alarms = b.alarms) (h_saturated : a.saturated = b.saturated) (h_mram : a.mram = b.mram) (h_tap : a.tap = b.tap) (h_gnss : a.gnss = b.gnss) (h_gsol : a.gsol = b.gsol) (h_intake : a.intake = b.intake) (h_align : a.align = b.align) (h_est : a.est = b.est) (h_trk : a.trk = b.trk) (h_ctl : a.ctl = b.ctl) (h_ring : a.ring = b.ring) (h_alc : a.alc = b.alc) (h_srv : a.srv = b.srv) (h_saf : a.saf = b.saf) (h_net : a.net = b.net) (h_panel : a.panel = b.panel) (h_diagn : a.diagn = b.diagn) (h_user : a.user = b.user) (h_out : a.out = b.out) (h_freeCount : a.freeCount = b.freeCount) (h_pending : a.pending = b.pending) : a = b := by
  cases a; cases b; simp_all

end Sys2Proof.Machine
end

