-- ==== Sys2Proof/Laws/Sound.lean ====
section
/-! SUPPORT. What every part of a meaning keeps: one lemma per function of the machine says, of a state whose stores are canonical,
that they stay so, that the test access port and the strapped identity are kept, and which parts of the machine it can
change at all. Statements about whole steps are assembled from these. -/

namespace Sys2Proof.Machine

open Sys2Proof

/-- What a part of a meaning that began in `a` with canonical stores has kept in `s`: the canonical stores, the test access port,
the strapped identity, and every part of the machine that is not in `E`. -/
structure Sound (E : List Part) (a s : State) : Prop where
  od' : storeWf keyDefault s.od = true
  blobs' : storeWf (fun _ => ([] : List Byte)) s.blobs = true
  ident' : s.strapped = a.strapped
  tap' : tapFits s.pair.role s.tap = true
  mem' : (s.user.all fun p => Memory.wf p.tcm) = true
  power : s.power = a.power ∨ Part.power ∈ E
  ident : s.ident = a.ident ∨ Part.ident ∈ E
  clock : s.clock = a.clock ∨ Part.clock ∈ E
  od : s.od = a.od ∨ Part.objects ∈ E
  blobs : s.blobs = a.blobs ∨ Part.blobs ∈ E
  held : s.held = a.held ∨ Part.held ∈ E
  dict : s.dict = a.dict ∨ Part.dict ∈ E
  recorder : s.recorder = a.recorder ∨ Part.recorder ∈ E
  pair : s.pair = a.pair ∨ Part.pair ∈ E
  alarms : s.alarms = a.alarms ∨ Part.alarms ∈ E
  saturated : s.saturated = a.saturated ∨ Part.alarms ∈ E
  mram : s.mram = a.mram ∨ Part.mram ∈ E
  tap : s.tap = a.tap ∨ Part.tap ∈ E
  gnss : s.gnss = a.gnss ∨ Part.gnss ∈ E
  gsol : s.gsol = a.gsol ∨ Part.gsol ∈ E
  intake : s.intake = a.intake ∨ Part.intake ∈ E
  align : s.align = a.align ∨ Part.align ∈ E
  est : s.est = a.est ∨ Part.est ∈ E
  trk : s.trk = a.trk ∨ Part.trk ∈ E
  ctl : s.ctl = a.ctl ∨ Part.ctl ∈ E
  ring : s.ring = a.ring ∨ Part.ring ∈ E
  alc : s.alc = a.alc ∨ Part.alc ∈ E
  srv : s.srv = a.srv ∨ Part.srv ∈ E
  saf : s.saf = a.saf ∨ Part.saf ∈ E
  net : s.net = a.net ∨ Part.net ∈ E
  panel : s.panel = a.panel ∨ Part.panel ∈ E
  diagn : s.diagn = a.diagn ∨ Part.diag ∈ E
  user : s.user = a.user ∨ Part.user ∈ E
  out : s.out = a.out ∨ Part.wires ∈ E
  freeCount : s.freeCount = a.freeCount ∨ Part.free ∈ E

/-- A record update whose fields are those of `s`, or lie in `E`. -/
theorem Sound.mk' {E : List Part} {a : State} {now : Nat} {power : Power} {ident : Identity} {clock : Clock} {od : Store} {blobs : Blobs} {held : List HeldWrite} {dict : Dict} {recorder : Recorder} {pair : Pair} {alarms : List (Nat × Nat)} {saturated : List Nat} {mram : Mram} {tap : TapIr} {gnss : Gnss} {gsol : GnssSol} {intake : Intake} {align : Align} {est : Est} {trk : Tracks} {ctl : Control} {ring : Ring} {alc : Alloc} {srv : Servo} {saf : Safety} {net : SafeNet} {panel : Panel} {diagn : Diag} {user : List UserPair} {out : List Out} {freeCount : Nat} {pending : List Instr} (s : State) (h : Sound E a s)
    (h1 : od = s.od) (h2 : blobs = s.blobs) (h3 : ident.duty = s.ident.duty) (h4 : ident.twin = s.ident.twin)
    (h5 : ident.node = s.ident.node) (h6 : pair.role = s.pair.role) (h7 : tap = s.tap) (h8 : user = s.user ∨ (user.all fun p => Memory.wf p.tcm) = true)
    (h_power : power = s.power ∨ Part.power ∈ E)
    (h_ident : ident = s.ident ∨ Part.ident ∈ E)
    (h_clock : clock = s.clock ∨ Part.clock ∈ E)
    (h_held : held = s.held ∨ Part.held ∈ E)
    (h_dict : dict = s.dict ∨ Part.dict ∈ E)
    (h_recorder : recorder = s.recorder ∨ Part.recorder ∈ E)
    (h_pair : pair = s.pair ∨ Part.pair ∈ E)
    (h_alarms : alarms = s.alarms ∨ Part.alarms ∈ E)
    (h_saturated : saturated = s.saturated ∨ Part.alarms ∈ E)
    (h_mram : mram = s.mram ∨ Part.mram ∈ E)
    (h_gnss : gnss = s.gnss ∨ Part.gnss ∈ E)
    (h_gsol : gsol = s.gsol ∨ Part.gsol ∈ E)
    (h_intake : intake = s.intake ∨ Part.intake ∈ E)
    (h_align : align = s.align ∨ Part.align ∈ E)
    (h_est : est = s.est ∨ Part.est ∈ E)
    (h_trk : trk = s.trk ∨ Part.trk ∈ E)
    (h_ctl : ctl = s.ctl ∨ Part.ctl ∈ E)
    (h_ring : ring = s.ring ∨ Part.ring ∈ E)
    (h_alc : alc = s.alc ∨ Part.alc ∈ E)
    (h_srv : srv = s.srv ∨ Part.srv ∈ E)
    (h_saf : saf = s.saf ∨ Part.saf ∈ E)
    (h_net : net = s.net ∨ Part.net ∈ E)
    (h_panel : panel = s.panel ∨ Part.panel ∈ E)
    (h_diagn : diagn = s.diagn ∨ Part.diag ∈ E)
    (h_user : user = s.user ∨ Part.user ∈ E)
    (h_out : out = s.out ∨ Part.wires ∈ E)
    (h_freeCount : freeCount = s.freeCount ∨ Part.free ∈ E) :
    Sound E a (State.mk now power ident clock od blobs held dict recorder pair alarms saturated mram tap gnss gsol intake align est trk ctl ring alc srv saf net panel diagn user out freeCount pending) := by
  obtain ⟨a1, a2, a3, a4, a5, b_power, b_ident, b_clock, b_od, b_blobs, b_held, b_dict, b_recorder, b_pair, b_alarms, b_saturated, b_mram, b_tap, b_gnss, b_gsol, b_intake, b_align, b_est, b_trk, b_ctl, b_ring, b_alc, b_srv, b_saf, b_net, b_panel, b_diagn, b_user, b_out, b_freeCount⟩ := h
  refine ⟨?_, ?_, ?_, ?_, h8.elim (fun e => e.symm ▸ a5) id, h_power.elim (fun e => e.symm ▸ b_power) .inr, h_ident.elim (fun e => e.symm ▸ b_ident) .inr, h_clock.elim (fun e => e.symm ▸ b_clock) .inr, h1 ▸ b_od, h2 ▸ b_blobs, h_held.elim (fun e => e.symm ▸ b_held) .inr, h_dict.elim (fun e => e.symm ▸ b_dict) .inr, h_recorder.elim (fun e => e.symm ▸ b_recorder) .inr, h_pair.elim (fun e => e.symm ▸ b_pair) .inr, h_alarms.elim (fun e => e.symm ▸ b_alarms) .inr, h_saturated.elim (fun e => e.symm ▸ b_saturated) .inr, h_mram.elim (fun e => e.symm ▸ b_mram) .inr, h7 ▸ b_tap, h_gnss.elim (fun e => e.symm ▸ b_gnss) .inr, h_gsol.elim (fun e => e.symm ▸ b_gsol) .inr, h_intake.elim (fun e => e.symm ▸ b_intake) .inr, h_align.elim (fun e => e.symm ▸ b_align) .inr, h_est.elim (fun e => e.symm ▸ b_est) .inr, h_trk.elim (fun e => e.symm ▸ b_trk) .inr, h_ctl.elim (fun e => e.symm ▸ b_ctl) .inr, h_ring.elim (fun e => e.symm ▸ b_ring) .inr, h_alc.elim (fun e => e.symm ▸ b_alc) .inr, h_srv.elim (fun e => e.symm ▸ b_srv) .inr, h_saf.elim (fun e => e.symm ▸ b_saf) .inr, h_net.elim (fun e => e.symm ▸ b_net) .inr, h_panel.elim (fun e => e.symm ▸ b_panel) .inr, h_diagn.elim (fun e => e.symm ▸ b_diagn) .inr, h_user.elim (fun e => e.symm ▸ b_user) .inr, h_out.elim (fun e => e.symm ▸ b_out) .inr, h_freeCount.elim (fun e => e.symm ▸ b_freeCount) .inr⟩
  · exact h1.symm ▸ a1
  · exact h2.symm ▸ a2
  · simp_all [State.strapped]
  · simp_all

theorem sound_ite {E : List Part} {a : State} {c : Prop} [Decidable c] {x y : State} (hx : c → Sound E a x) (hy : ¬ c → Sound E a y) :
    Sound E a (if c then x else y) := by
  split
  · exact hx ‹_›
  · exact hy ‹_›

theorem sound_foldl {E : List Part} {a : State} {α : Type} {f : State → α → State} {s : State} {l : List α}
    (h : ∀ (s : State) (x : α), Sound E a s → Sound E a (f s x)) (hs : Sound E a s) : Sound E a (l.foldl f s) := by
  induction l generalizing s with
  | nil => exact hs
  | cons x l ih => exact ih (h s x hs)

theorem sound_foldl2 {E : List Part} {a : State} {α β : Type} {f : β × State → α → β × State} {s : β × State} {l : List α}
    (h : ∀ (s : β × State) (x : α), Sound E a s.2 → Sound E a (f s x).2) (hs : Sound E a s.2) : Sound E a (l.foldl f s).2 := by
  induction l generalizing s with
  | nil => exact hs
  | cons x l ih => exact ih (h s x hs)

theorem sound_foldl3 {E : List Part} {a : State} {α β γ : Type} {f : β × γ × State → α → β × γ × State} {s : β × γ × State}
    {l : List α} (h : ∀ (s : β × γ × State) (x : α), Sound E a s.2.2 → Sound E a (f s x).2.2) (hs : Sound E a s.2.2) :
    Sound E a (l.foldl f s).2.2 := by
  induction l generalizing s with
  | nil => exact hs
  | cons x l ih => exact ih (h s x hs)

theorem sound_snd {E : List Part} {a : State} {α : Type} {p : α × State} {x : α} {s : State} (h : p = (x, s)) (hp : Sound E a p.2) :
    Sound E a s := by
  rw [h] at hp; exact hp

theorem sound_thd {E : List Part} {a : State} {α β : Type} {p : α × β × State} {x : α} {y : β} {s : State} (h : p = (x, y, s))
    (hp : Sound E a p.2.2) : Sound E a s := by
  rw [h] at hp; exact hp

theorem sound_fst {E : List Part} {a : State} {α : Type} {p : State × α} {x : α} {s : State} (h : p = (s, x)) (hp : Sound E a p.1) :
    Sound E a s := by
  rw [h] at hp; exact hp

/-- A state with the invariant has kept all of itself. -/
theorem sound_of_inv (s : State) (h : s.Inv) (E : List Part) : Sound E s s := by
  obtain ⟨h1, h2⟩ := h
  unfold State.storesOk at h1
  obtain ⟨h1, c⟩ := Bool.and_eq_true_iff.1 h1
  obtain ⟨a, b⟩ := Bool.and_eq_true_iff.1 h1
  exact ⟨a, b, rfl, h2, c, .inl rfl, .inl rfl, .inl rfl, .inl rfl, .inl rfl, .inl rfl, .inl rfl, .inl rfl, .inl rfl, .inl rfl, .inl rfl, .inl rfl, .inl rfl, .inl rfl, .inl rfl, .inl rfl, .inl rfl, .inl rfl, .inl rfl, .inl rfl, .inl rfl, .inl rfl, .inl rfl, .inl rfl, .inl rfl, .inl rfl, .inl rfl, .inl rfl, .inl rfl, .inl rfl⟩

theorem Sound.inv {E : List Part} {a s : State} (h : Sound E a s) : s.Inv := by
  refine ⟨?_, h.tap'⟩
  unfold State.storesOk
  exact Bool.and_eq_true_iff.2 ⟨Bool.and_eq_true_iff.2 ⟨h.od', h.blobs'⟩, h.mem'⟩

theorem ite_inv {c : Prop} [Decidable c] {a b : State} (ha : a.Inv) (hb : b.Inv) : State.Inv (if c then a else b) := by
  split
  · exact ha
  · exact hb

theorem putKeys_ok (m : Store) (l : List (Nat × Int)) (h : storeWf keyDefault m = true) : storeWf keyDefault (putKeys m l) = true := by
  unfold putKeys
  induction l generalizing m with
  | nil => exact h
  | cons e l ih => exact ih _ (storeWf_assocSet keyDefault m e.1 e.2 h)

theorem putBlobs_ok (m l : Blobs) (h : storeWf (fun _ => ([] : List Byte)) m = true) :
    storeWf (fun _ => ([] : List Byte)) (l.foldl (fun (m : Blobs) e => assocSet [] m e.1 e.2) m) = true := by
  induction l generalizing m with
  | nil => exact h
  | cons e l ih => exact ih _ (storeWf_assocSet (fun _ => []) m e.1 e.2 h)

/-- Bytes stored one after another keep the canonical form. -/
theorem storeBytes_wf (m : List (Nat × Byte)) (a : Nat) (b : List Byte) (h : Memory.wf m = true) : Memory.wf (storeBytes m a b) = true := by
  induction b generalizing m a with
  | nil => exact h
  | cons x b ih => exact ih _ _ (storeWf_assocSet (fun _ => (0 : Byte)) m a x h)

/-- What is written byte by byte is canonical. -/
theorem putBytes_wf (m l : List (Nat × Byte)) (h : Memory.wf m = true) :
    Memory.wf (l.foldl (fun (m : List (Nat × Byte)) e => assocSet 0 m e.1 e.2) m) = true := by
  induction l generalizing m with
  | nil => exact h
  | cons e l ih => exact ih _ (storeWf_assocSet (fun _ => (0 : Byte)) m e.1 e.2 h)

/-- A change of one user pair that keeps its memory canonical. -/
theorem modifyNth_wf (f : UserPair → UserPair) (hf : ∀ p, Memory.wf p.tcm = true → Memory.wf (f p).tcm = true) (l : List UserPair) (u : Nat)
    (h : (l.all fun p => Memory.wf p.tcm) = true) : ((modifyNth f l u).all fun p => Memory.wf p.tcm) = true := by
  induction l generalizing u with
  | nil => exact h
  | cons p l ih =>
    rw [List.all_cons, Bool.and_eq_true] at h
    cases u with
    | zero => exact List.all_cons.trans (Bool.and_eq_true_iff.2 ⟨hf p h.1, h.2⟩)
    | succ u => exact List.all_cons.trans (Bool.and_eq_true_iff.2 ⟨h.1, ih u h.2⟩)

theorem Pair.take_role (p : Pair) (n : Nat) : (p.take n).role = p.role := by
  unfold Pair.take
  split <;> rfl

theorem tapFits_secured (r : PairRole) (t : TapIr) : tapFits r t.secured = true := by
  cases t <;> cases r <;> rfl

/-! ### Record updates, by the fields they write -/

theorem Sound.upd_pair {E : List Part} {base : State} (h_pair : Part.pair ∈ E)
    (s : State) (h : Sound E base s) {pair : Pair} {now : Nat} {pending : List Instr} (h6 : pair.role = s.pair.role) :
    Sound E base (State.mk now s.power s.ident s.clock s.od s.blobs s.held s.dict s.recorder pair s.alarms s.saturated s.mram s.tap s.gnss s.gsol s.intake s.align s.est s.trk s.ctl s.ring s.alc s.srv s.saf s.net s.panel s.diagn s.user s.out s.freeCount pending) :=
  Sound.mk' s h rfl rfl rfl rfl rfl h6 rfl (.inl rfl) (.inl rfl) (.inl rfl) (.inl rfl) (.inl rfl) (.inl rfl) (.inl rfl) (.inr h_pair) (.inl rfl) (.inl rfl) (.inl rfl) (.inl rfl) (.inl rfl) (.inl rfl) (.inl rfl) (.inl rfl) (.inl rfl) (.inl rfl) (.inl rfl) (.inl rfl) (.inl rfl) (.inl rfl) (.inl rfl) (.inl rfl) (.inl rfl) (.inl rfl) (.inl rfl) (.inl rfl)

theorem Sound.upd_srv {E : List Part} {base : State} (h_srv : Part.srv ∈ E)
    (s : State) (h : Sound E base s) {srv : Servo} {now : Nat} {pending : List Instr} :
    Sound E base (State.mk now s.power s.ident s.clock s.od s.blobs s.held s.dict s.recorder s.pair s.alarms s.saturated s.mram s.tap s.gnss s.gsol s.intake s.align s.est s.trk s.ctl s.ring s.alc srv s.saf s.net s.panel s.diagn s.user s.out s.freeCount pending) :=
  Sound.mk' s h rfl rfl rfl rfl rfl rfl rfl (.inl rfl) (.inl rfl) (.inl rfl) (.inl rfl) (.inl rfl) (.inl rfl) (.inl rfl) (.inl rfl) (.inl rfl) (.inl rfl) (.inl rfl) (.inl rfl) (.inl rfl) (.inl rfl) (.inl rfl) (.inl rfl) (.inl rfl) (.inl rfl) (.inl rfl) (.inl rfl) (.inr h_srv) (.inl rfl) (.inl rfl) (.inl rfl) (.inl rfl) (.inl rfl) (.inl rfl) (.inl rfl)

theorem Sound.upd_ctl {E : List Part} {base : State} (h_ctl : Part.ctl ∈ E)
    (s : State) (h : Sound E base s) {ctl : Control} {now : Nat} {pending : List Instr} :
    Sound E base (State.mk now s.power s.ident s.clock s.od s.blobs s.held s.dict s.recorder s.pair s.alarms s.saturated s.mram s.tap s.gnss s.gsol s.intake s.align s.est s.trk ctl s.ring s.alc s.srv s.saf s.net s.panel s.diagn s.user s.out s.freeCount pending) :=
  Sound.mk' s h rfl rfl rfl rfl rfl rfl rfl (.inl rfl) (.inl rfl) (.inl rfl) (.inl rfl) (.inl rfl) (.inl rfl) (.inl rfl) (.inl rfl) (.inl rfl) (.inl rfl) (.inl rfl) (.inl rfl) (.inl rfl) (.inl rfl) (.inl rfl) (.inl rfl) (.inl rfl) (.inr h_ctl) (.inl rfl) (.inl rfl) (.inl rfl) (.inl rfl) (.inl rfl) (.inl rfl) (.inl rfl) (.inl rfl) (.inl rfl) (.inl rfl)

theorem Sound.upd_power_ctl {E : List Part} {base : State} (h_power : Part.power ∈ E) (h_ctl : Part.ctl ∈ E)
    (s : State) (h : Sound E base s) {power : Power} {ctl : Control} {now : Nat} {pending : List Instr} :
    Sound E base (State.mk now power s.ident s.clock s.od s.blobs s.held s.dict s.recorder s.pair s.alarms s.saturated s.mram s.tap s.gnss s.gsol s.intake s.align s.est s.trk ctl s.ring s.alc s.srv s.saf s.net s.panel s.diagn s.user s.out s.freeCount pending) :=
  Sound.mk' s h rfl rfl rfl rfl rfl rfl rfl (.inl rfl) (.inr h_power) (.inl rfl) (.inl rfl) (.inl rfl) (.inl rfl) (.inl rfl) (.inl rfl) (.inl rfl) (.inl rfl) (.inl rfl) (.inl rfl) (.inl rfl) (.inl rfl) (.inl rfl) (.inl rfl) (.inl rfl) (.inr h_ctl) (.inl rfl) (.inl rfl) (.inl rfl) (.inl rfl) (.inl rfl) (.inl rfl) (.inl rfl) (.inl rfl) (.inl rfl) (.inl rfl)

theorem Sound.upd_mram {E : List Part} {base : State} (h_mram : Part.mram ∈ E)
    (s : State) (h : Sound E base s) {mram : Mram} {now : Nat} {pending : List Instr} :
    Sound E base (State.mk now s.power s.ident s.clock s.od s.blobs s.held s.dict s.recorder s.pair s.alarms s.saturated mram s.tap s.gnss s.gsol s.intake s.align s.est s.trk s.ctl s.ring s.alc s.srv s.saf s.net s.panel s.diagn s.user s.out s.freeCount pending) :=
  Sound.mk' s h rfl rfl rfl rfl rfl rfl rfl (.inl rfl) (.inl rfl) (.inl rfl) (.inl rfl) (.inl rfl) (.inl rfl) (.inl rfl) (.inl rfl) (.inl rfl) (.inl rfl) (.inr h_mram) (.inl rfl) (.inl rfl) (.inl rfl) (.inl rfl) (.inl rfl) (.inl rfl) (.inl rfl) (.inl rfl) (.inl rfl) (.inl rfl) (.inl rfl) (.inl rfl) (.inl rfl) (.inl rfl) (.inl rfl) (.inl rfl) (.inl rfl)

theorem Sound.upd_recorder {E : List Part} {base : State} (h_recorder : Part.recorder ∈ E)
    (s : State) (h : Sound E base s) {recorder : Recorder} {now : Nat} {pending : List Instr} :
    Sound E base (State.mk now s.power s.ident s.clock s.od s.blobs s.held s.dict recorder s.pair s.alarms s.saturated s.mram s.tap s.gnss s.gsol s.intake s.align s.est s.trk s.ctl s.ring s.alc s.srv s.saf s.net s.panel s.diagn s.user s.out s.freeCount pending) :=
  Sound.mk' s h rfl rfl rfl rfl rfl rfl rfl (.inl rfl) (.inl rfl) (.inl rfl) (.inl rfl) (.inl rfl) (.inl rfl) (.inr h_recorder) (.inl rfl) (.inl rfl) (.inl rfl) (.inl rfl) (.inl rfl) (.inl rfl) (.inl rfl) (.inl rfl) (.inl rfl) (.inl rfl) (.inl rfl) (.inl rfl) (.inl rfl) (.inl rfl) (.inl rfl) (.inl rfl) (.inl rfl) (.inl rfl) (.inl rfl) (.inl rfl) (.inl rfl)

theorem Sound.upd_recorder_mram {E : List Part} {base : State} (h_recorder : Part.recorder ∈ E) (h_mram : Part.mram ∈ E)
    (s : State) (h : Sound E base s) {recorder : Recorder} {mram : Mram} {now : Nat} {pending : List Instr} :
    Sound E base (State.mk now s.power s.ident s.clock s.od s.blobs s.held s.dict recorder s.pair s.alarms s.saturated mram s.tap s.gnss s.gsol s.intake s.align s.est s.trk s.ctl s.ring s.alc s.srv s.saf s.net s.panel s.diagn s.user s.out s.freeCount pending) :=
  Sound.mk' s h rfl rfl rfl rfl rfl rfl rfl (.inl rfl) (.inl rfl) (.inl rfl) (.inl rfl) (.inl rfl) (.inl rfl) (.inr h_recorder) (.inl rfl) (.inl rfl) (.inl rfl) (.inr h_mram) (.inl rfl) (.inl rfl) (.inl rfl) (.inl rfl) (.inl rfl) (.inl rfl) (.inl rfl) (.inl rfl) (.inl rfl) (.inl rfl) (.inl rfl) (.inl rfl) (.inl rfl) (.inl rfl) (.inl rfl) (.inl rfl) (.inl rfl)

theorem Sound.upd_user {E : List Part} {base : State} (h_user : Part.user ∈ E)
    (s : State) (h : Sound E base s) {user : List UserPair} {now : Nat} {pending : List Instr} (h8 : (user.all fun p => Memory.wf p.tcm) = true) :
    Sound E base (State.mk now s.power s.ident s.clock s.od s.blobs s.held s.dict s.recorder s.pair s.alarms s.saturated s.mram s.tap s.gnss s.gsol s.intake s.align s.est s.trk s.ctl s.ring s.alc s.srv s.saf s.net s.panel s.diagn user s.out s.freeCount pending) :=
  Sound.mk' s h rfl rfl rfl rfl rfl rfl rfl (.inr h8) (.inl rfl) (.inl rfl) (.inl rfl) (.inl rfl) (.inl rfl) (.inl rfl) (.inl rfl) (.inl rfl) (.inl rfl) (.inl rfl) (.inl rfl) (.inl rfl) (.inl rfl) (.inl rfl) (.inl rfl) (.inl rfl) (.inl rfl) (.inl rfl) (.inl rfl) (.inl rfl) (.inl rfl) (.inl rfl) (.inl rfl) (.inl rfl) (.inr h_user) (.inl rfl) (.inl rfl)

theorem Sound.upd_clock_held_recorder_pair_gnss_gsol_intake_align_est_trk_ctl_ring_srv_saf_net_user {E : List Part} {base : State} (h_clock : Part.clock ∈ E) (h_held : Part.held ∈ E) (h_recorder : Part.recorder ∈ E) (h_pair : Part.pair ∈ E) (h_gnss : Part.gnss ∈ E) (h_gsol : Part.gsol ∈ E) (h_intake : Part.intake ∈ E) (h_align : Part.align ∈ E) (h_est : Part.est ∈ E) (h_trk : Part.trk ∈ E) (h_ctl : Part.ctl ∈ E) (h_ring : Part.ring ∈ E) (h_srv : Part.srv ∈ E) (h_saf : Part.saf ∈ E) (h_net : Part.net ∈ E) (h_user : Part.user ∈ E)
    (s : State) (h : Sound E base s) {clock : Clock} {held : List HeldWrite} {recorder : Recorder} {pair : Pair} {gnss : Gnss} {gsol : GnssSol} {intake : Intake} {align : Align} {est : Est} {trk : Tracks} {ctl : Control} {ring : Ring} {srv : Servo} {saf : Safety} {net : SafeNet} {user : List UserPair} {now : Nat} {pending : List Instr} (h6 : pair.role = s.pair.role) (h8 : (user.all fun p => Memory.wf p.tcm) = true) :
    Sound E base (State.mk now s.power s.ident clock s.od s.blobs held s.dict recorder pair s.alarms s.saturated s.mram s.tap gnss gsol intake align est trk ctl ring s.alc srv saf net s.panel s.diagn user s.out s.freeCount pending) :=
  Sound.mk' s h rfl rfl rfl rfl rfl h6 rfl (.inr h8) (.inl rfl) (.inl rfl) (.inr h_clock) (.inr h_held) (.inl rfl) (.inr h_recorder) (.inr h_pair) (.inl rfl) (.inl rfl) (.inl rfl) (.inr h_gnss) (.inr h_gsol) (.inr h_intake) (.inr h_align) (.inr h_est) (.inr h_trk) (.inr h_ctl) (.inr h_ring) (.inl rfl) (.inr h_srv) (.inr h_saf) (.inr h_net) (.inl rfl) (.inl rfl) (.inr h_user) (.inl rfl) (.inl rfl)

theorem Sound.upd {E : List Part} {base : State} 
    (s : State) (h : Sound E base s)  {now : Nat} {pending : List Instr} :
    Sound E base (State.mk now s.power s.ident s.clock s.od s.blobs s.held s.dict s.recorder s.pair s.alarms s.saturated s.mram s.tap s.gnss s.gsol s.intake s.align s.est s.trk s.ctl s.ring s.alc s.srv s.saf s.net s.panel s.diagn s.user s.out s.freeCount pending) :=
  Sound.mk' s h rfl rfl rfl rfl rfl rfl rfl (.inl rfl) (.inl rfl) (.inl rfl) (.inl rfl) (.inl rfl) (.inl rfl) (.inl rfl) (.inl rfl) (.inl rfl) (.inl rfl) (.inl rfl) (.inl rfl) (.inl rfl) (.inl rfl) (.inl rfl) (.inl rfl) (.inl rfl) (.inl rfl) (.inl rfl) (.inl rfl) (.inl rfl) (.inl rfl) (.inl rfl) (.inl rfl) (.inl rfl) (.inl rfl) (.inl rfl) (.inl rfl)

theorem Sound.upd_clock_out {E : List Part} {base : State} (h_clock : Part.clock ∈ E) (h_wires : Part.wires ∈ E)
    (s : State) (h : Sound E base s) {clock : Clock} {out : List Out} {now : Nat} {pending : List Instr} :
    Sound E base (State.mk now s.power s.ident clock s.od s.blobs s.held s.dict s.recorder s.pair s.alarms s.saturated s.mram s.tap s.gnss s.gsol s.intake s.align s.est s.trk s.ctl s.ring s.alc s.srv s.saf s.net s.panel s.diagn s.user out s.freeCount pending) :=
  Sound.mk' s h rfl rfl rfl rfl rfl rfl rfl (.inl rfl) (.inl rfl) (.inl rfl) (.inr h_clock) (.inl rfl) (.inl rfl) (.inl rfl) (.inl rfl) (.inl rfl) (.inl rfl) (.inl rfl) (.inl rfl) (.inl rfl) (.inl rfl) (.inl rfl) (.inl rfl) (.inl rfl) (.inl rfl) (.inl rfl) (.inl rfl) (.inl rfl) (.inl rfl) (.inl rfl) (.inl rfl) (.inl rfl) (.inl rfl) (.inr h_wires) (.inl rfl)

theorem Sound.upd_out {E : List Part} {base : State} (h_wires : Part.wires ∈ E)
    (s : State) (h : Sound E base s) {out : List Out} {now : Nat} {pending : List Instr} :
    Sound E base (State.mk now s.power s.ident s.clock s.od s.blobs s.held s.dict s.recorder s.pair s.alarms s.saturated s.mram s.tap s.gnss s.gsol s.intake s.align s.est s.trk s.ctl s.ring s.alc s.srv s.saf s.net s.panel s.diagn s.user out s.freeCount pending) :=
  Sound.mk' s h rfl rfl rfl rfl rfl rfl rfl (.inl rfl) (.inl rfl) (.inl rfl) (.inl rfl) (.inl rfl) (.inl rfl) (.inl rfl) (.inl rfl) (.inl rfl) (.inl rfl) (.inl rfl) (.inl rfl) (.inl rfl) (.inl rfl) (.inl rfl) (.inl rfl) (.inl rfl) (.inl rfl) (.inl rfl) (.inl rfl) (.inl rfl) (.inl rfl) (.inl rfl) (.inl rfl) (.inl rfl) (.inl rfl) (.inr h_wires) (.inl rfl)

theorem Sound.upd_freeCount {E : List Part} {base : State} (h_free : Part.free ∈ E)
    (s : State) (h : Sound E base s) {freeCount : Nat} {now : Nat} {pending : List Instr} :
    Sound E base (State.mk now s.power s.ident s.clock s.od s.blobs s.held s.dict s.recorder s.pair s.alarms s.saturated s.mram s.tap s.gnss s.gsol s.intake s.align s.est s.trk s.ctl s.ring s.alc s.srv s.saf s.net s.panel s.diagn s.user s.out freeCount pending) :=
  Sound.mk' s h rfl rfl rfl rfl rfl rfl rfl (.inl rfl) (.inl rfl) (.inl rfl) (.inl rfl) (.inl rfl) (.inl rfl) (.inl rfl) (.inl rfl) (.inl rfl) (.inl rfl) (.inl rfl) (.inl rfl) (.inl rfl) (.inl rfl) (.inl rfl) (.inl rfl) (.inl rfl) (.inl rfl) (.inl rfl) (.inl rfl) (.inl rfl) (.inl rfl) (.inl rfl) (.inl rfl) (.inl rfl) (.inl rfl) (.inl rfl) (.inr h_free)

theorem Sound.upd_alarms {E : List Part} {base : State} (h_alarms : Part.alarms ∈ E)
    (s : State) (h : Sound E base s) {alarms : List (Nat × Nat)} {now : Nat} {pending : List Instr} :
    Sound E base (State.mk now s.power s.ident s.clock s.od s.blobs s.held s.dict s.recorder s.pair alarms s.saturated s.mram s.tap s.gnss s.gsol s.intake s.align s.est s.trk s.ctl s.ring s.alc s.srv s.saf s.net s.panel s.diagn s.user s.out s.freeCount pending) :=
  Sound.mk' s h rfl rfl rfl rfl rfl rfl rfl (.inl rfl) (.inl rfl) (.inl rfl) (.inl rfl) (.inl rfl) (.inl rfl) (.inl rfl) (.inl rfl) (.inr h_alarms) (.inl rfl) (.inl rfl) (.inl rfl) (.inl rfl) (.inl rfl) (.inl rfl) (.inl rfl) (.inl rfl) (.inl rfl) (.inl rfl) (.inl rfl) (.inl rfl) (.inl rfl) (.inl rfl) (.inl rfl) (.inl rfl) (.inl rfl) (.inl rfl) (.inl rfl)

theorem Sound.upd_saturated {E : List Part} {base : State} (h_alarms : Part.alarms ∈ E)
    (s : State) (h : Sound E base s) {saturated : List Nat} {now : Nat} {pending : List Instr} :
    Sound E base (State.mk now s.power s.ident s.clock s.od s.blobs s.held s.dict s.recorder s.pair s.alarms saturated s.mram s.tap s.gnss s.gsol s.intake s.align s.est s.trk s.ctl s.ring s.alc s.srv s.saf s.net s.panel s.diagn s.user s.out s.freeCount pending) :=
  Sound.mk' s h rfl rfl rfl rfl rfl rfl rfl (.inl rfl) (.inl rfl) (.inl rfl) (.inl rfl) (.inl rfl) (.inl rfl) (.inl rfl) (.inl rfl) (.inl rfl) (.inr h_alarms) (.inl rfl) (.inl rfl) (.inl rfl) (.inl rfl) (.inl rfl) (.inl rfl) (.inl rfl) (.inl rfl) (.inl rfl) (.inl rfl) (.inl rfl) (.inl rfl) (.inl rfl) (.inl rfl) (.inl rfl) (.inl rfl) (.inl rfl) (.inl rfl)

theorem Sound.upd_diagn {E : List Part} {base : State} (h_diag : Part.diag ∈ E)
    (s : State) (h : Sound E base s) {diagn : Diag} {now : Nat} {pending : List Instr} :
    Sound E base (State.mk now s.power s.ident s.clock s.od s.blobs s.held s.dict s.recorder s.pair s.alarms s.saturated s.mram s.tap s.gnss s.gsol s.intake s.align s.est s.trk s.ctl s.ring s.alc s.srv s.saf s.net s.panel diagn s.user s.out s.freeCount pending) :=
  Sound.mk' s h rfl rfl rfl rfl rfl rfl rfl (.inl rfl) (.inl rfl) (.inl rfl) (.inl rfl) (.inl rfl) (.inl rfl) (.inl rfl) (.inl rfl) (.inl rfl) (.inl rfl) (.inl rfl) (.inl rfl) (.inl rfl) (.inl rfl) (.inl rfl) (.inl rfl) (.inl rfl) (.inl rfl) (.inl rfl) (.inl rfl) (.inl rfl) (.inl rfl) (.inl rfl) (.inl rfl) (.inr h_diag) (.inl rfl) (.inl rfl) (.inl rfl)

theorem Sound.upd_ring {E : List Part} {base : State} (h_ring : Part.ring ∈ E)
    (s : State) (h : Sound E base s) {ring : Ring} {now : Nat} {pending : List Instr} :
    Sound E base (State.mk now s.power s.ident s.clock s.od s.blobs s.held s.dict s.recorder s.pair s.alarms s.saturated s.mram s.tap s.gnss s.gsol s.intake s.align s.est s.trk s.ctl ring s.alc s.srv s.saf s.net s.panel s.diagn s.user s.out s.freeCount pending) :=
  Sound.mk' s h rfl rfl rfl rfl rfl rfl rfl (.inl rfl) (.inl rfl) (.inl rfl) (.inl rfl) (.inl rfl) (.inl rfl) (.inl rfl) (.inl rfl) (.inl rfl) (.inl rfl) (.inl rfl) (.inl rfl) (.inl rfl) (.inl rfl) (.inl rfl) (.inl rfl) (.inl rfl) (.inl rfl) (.inr h_ring) (.inl rfl) (.inl rfl) (.inl rfl) (.inl rfl) (.inl rfl) (.inl rfl) (.inl rfl) (.inl rfl) (.inl rfl)

theorem Sound.upd_dict {E : List Part} {base : State} (h_dict : Part.dict ∈ E)
    (s : State) (h : Sound E base s) {dict : Dict} {now : Nat} {pending : List Instr} :
    Sound E base (State.mk now s.power s.ident s.clock s.od s.blobs s.held dict s.recorder s.pair s.alarms s.saturated s.mram s.tap s.gnss s.gsol s.intake s.align s.est s.trk s.ctl s.ring s.alc s.srv s.saf s.net s.panel s.diagn s.user s.out s.freeCount pending) :=
  Sound.mk' s h rfl rfl rfl rfl rfl rfl rfl (.inl rfl) (.inl rfl) (.inl rfl) (.inl rfl) (.inl rfl) (.inr h_dict) (.inl rfl) (.inl rfl) (.inl rfl) (.inl rfl) (.inl rfl) (.inl rfl) (.inl rfl) (.inl rfl) (.inl rfl) (.inl rfl) (.inl rfl) (.inl rfl) (.inl rfl) (.inl rfl) (.inl rfl) (.inl rfl) (.inl rfl) (.inl rfl) (.inl rfl) (.inl rfl) (.inl rfl) (.inl rfl)

theorem Sound.upd_intake {E : List Part} {base : State} (h_intake : Part.intake ∈ E)
    (s : State) (h : Sound E base s) {intake : Intake} {now : Nat} {pending : List Instr} :
    Sound E base (State.mk now s.power s.ident s.clock s.od s.blobs s.held s.dict s.recorder s.pair s.alarms s.saturated s.mram s.tap s.gnss s.gsol intake s.align s.est s.trk s.ctl s.ring s.alc s.srv s.saf s.net s.panel s.diagn s.user s.out s.freeCount pending) :=
  Sound.mk' s h rfl rfl rfl rfl rfl rfl rfl (.inl rfl) (.inl rfl) (.inl rfl) (.inl rfl) (.inl rfl) (.inl rfl) (.inl rfl) (.inl rfl) (.inl rfl) (.inl rfl) (.inl rfl) (.inl rfl) (.inl rfl) (.inr h_intake) (.inl rfl) (.inl rfl) (.inl rfl) (.inl rfl) (.inl rfl) (.inl rfl) (.inl rfl) (.inl rfl) (.inl rfl) (.inl rfl) (.inl rfl) (.inl rfl) (.inl rfl) (.inl rfl)

theorem Sound.upd_align {E : List Part} {base : State} (h_align : Part.align ∈ E)
    (s : State) (h : Sound E base s) {align : Align} {now : Nat} {pending : List Instr} :
    Sound E base (State.mk now s.power s.ident s.clock s.od s.blobs s.held s.dict s.recorder s.pair s.alarms s.saturated s.mram s.tap s.gnss s.gsol s.intake align s.est s.trk s.ctl s.ring s.alc s.srv s.saf s.net s.panel s.diagn s.user s.out s.freeCount pending) :=
  Sound.mk' s h rfl rfl rfl rfl rfl rfl rfl (.inl rfl) (.inl rfl) (.inl rfl) (.inl rfl) (.inl rfl) (.inl rfl) (.inl rfl) (.inl rfl) (.inl rfl) (.inl rfl) (.inl rfl) (.inl rfl) (.inl rfl) (.inl rfl) (.inr h_align) (.inl rfl) (.inl rfl) (.inl rfl) (.inl rfl) (.inl rfl) (.inl rfl) (.inl rfl) (.inl rfl) (.inl rfl) (.inl rfl) (.inl rfl) (.inl rfl) (.inl rfl)

theorem Sound.upd_clock_gsol_ctl {E : List Part} {base : State} (h_clock : Part.clock ∈ E) (h_gsol : Part.gsol ∈ E) (h_ctl : Part.ctl ∈ E)
    (s : State) (h : Sound E base s) {clock : Clock} {gsol : GnssSol} {ctl : Control} {now : Nat} {pending : List Instr} :
    Sound E base (State.mk now s.power s.ident clock s.od s.blobs s.held s.dict s.recorder s.pair s.alarms s.saturated s.mram s.tap s.gnss gsol s.intake s.align s.est s.trk ctl s.ring s.alc s.srv s.saf s.net s.panel s.diagn s.user s.out s.freeCount pending) :=
  Sound.mk' s h rfl rfl rfl rfl rfl rfl rfl (.inl rfl) (.inl rfl) (.inl rfl) (.inr h_clock) (.inl rfl) (.inl rfl) (.inl rfl) (.inl rfl) (.inl rfl) (.inl rfl) (.inl rfl) (.inl rfl) (.inr h_gsol) (.inl rfl) (.inl rfl) (.inl rfl) (.inl rfl) (.inr h_ctl) (.inl rfl) (.inl rfl) (.inl rfl) (.inl rfl) (.inl rfl) (.inl rfl) (.inl rfl) (.inl rfl) (.inl rfl) (.inl rfl)

theorem Sound.upd_clock {E : List Part} {base : State} (h_clock : Part.clock ∈ E)
    (s : State) (h : Sound E base s) {clock : Clock} {now : Nat} {pending : List Instr} :
    Sound E base (State.mk now s.power s.ident clock s.od s.blobs s.held s.dict s.recorder s.pair s.alarms s.saturated s.mram s.tap s.gnss s.gsol s.intake s.align s.est s.trk s.ctl s.ring s.alc s.srv s.saf s.net s.panel s.diagn s.user s.out s.freeCount pending) :=
  Sound.mk' s h rfl rfl rfl rfl rfl rfl rfl (.inl rfl) (.inl rfl) (.inl rfl) (.inr h_clock) (.inl rfl) (.inl rfl) (.inl rfl) (.inl rfl) (.inl rfl) (.inl rfl) (.inl rfl) (.inl rfl) (.inl rfl) (.inl rfl) (.inl rfl) (.inl rfl) (.inl rfl) (.inl rfl) (.inl rfl) (.inl rfl) (.inl rfl) (.inl rfl) (.inl rfl) (.inl rfl) (.inl rfl) (.inl rfl) (.inl rfl) (.inl rfl)

theorem Sound.upd_gnss {E : List Part} {base : State} (h_gnss : Part.gnss ∈ E)
    (s : State) (h : Sound E base s) {gnss : Gnss} {now : Nat} {pending : List Instr} :
    Sound E base (State.mk now s.power s.ident s.clock s.od s.blobs s.held s.dict s.recorder s.pair s.alarms s.saturated s.mram s.tap gnss s.gsol s.intake s.align s.est s.trk s.ctl s.ring s.alc s.srv s.saf s.net s.panel s.diagn s.user s.out s.freeCount pending) :=
  Sound.mk' s h rfl rfl rfl rfl rfl rfl rfl (.inl rfl) (.inl rfl) (.inl rfl) (.inl rfl) (.inl rfl) (.inl rfl) (.inl rfl) (.inl rfl) (.inl rfl) (.inl rfl) (.inl rfl) (.inr h_gnss) (.inl rfl) (.inl rfl) (.inl rfl) (.inl rfl) (.inl rfl) (.inl rfl) (.inl rfl) (.inl rfl) (.inl rfl) (.inl rfl) (.inl rfl) (.inl rfl) (.inl rfl) (.inl rfl) (.inl rfl) (.inl rfl)

theorem Sound.upd_gsol {E : List Part} {base : State} (h_gsol : Part.gsol ∈ E)
    (s : State) (h : Sound E base s) {gsol : GnssSol} {now : Nat} {pending : List Instr} :
    Sound E base (State.mk now s.power s.ident s.clock s.od s.blobs s.held s.dict s.recorder s.pair s.alarms s.saturated s.mram s.tap s.gnss gsol s.intake s.align s.est s.trk s.ctl s.ring s.alc s.srv s.saf s.net s.panel s.diagn s.user s.out s.freeCount pending) :=
  Sound.mk' s h rfl rfl rfl rfl rfl rfl rfl (.inl rfl) (.inl rfl) (.inl rfl) (.inl rfl) (.inl rfl) (.inl rfl) (.inl rfl) (.inl rfl) (.inl rfl) (.inl rfl) (.inl rfl) (.inl rfl) (.inr h_gsol) (.inl rfl) (.inl rfl) (.inl rfl) (.inl rfl) (.inl rfl) (.inl rfl) (.inl rfl) (.inl rfl) (.inl rfl) (.inl rfl) (.inl rfl) (.inl rfl) (.inl rfl) (.inl rfl) (.inl rfl)

theorem Sound.upd_est {E : List Part} {base : State} (h_est : Part.est ∈ E)
    (s : State) (h : Sound E base s) {est : Est} {now : Nat} {pending : List Instr} :
    Sound E base (State.mk now s.power s.ident s.clock s.od s.blobs s.held s.dict s.recorder s.pair s.alarms s.saturated s.mram s.tap s.gnss s.gsol s.intake s.align est s.trk s.ctl s.ring s.alc s.srv s.saf s.net s.panel s.diagn s.user s.out s.freeCount pending) :=
  Sound.mk' s h rfl rfl rfl rfl rfl rfl rfl (.inl rfl) (.inl rfl) (.inl rfl) (.inl rfl) (.inl rfl) (.inl rfl) (.inl rfl) (.inl rfl) (.inl rfl) (.inl rfl) (.inl rfl) (.inl rfl) (.inl rfl) (.inl rfl) (.inl rfl) (.inr h_est) (.inl rfl) (.inl rfl) (.inl rfl) (.inl rfl) (.inl rfl) (.inl rfl) (.inl rfl) (.inl rfl) (.inl rfl) (.inl rfl) (.inl rfl) (.inl rfl)

theorem Sound.upd_mram_est {E : List Part} {base : State} (h_mram : Part.mram ∈ E) (h_est : Part.est ∈ E)
    (s : State) (h : Sound E base s) {mram : Mram} {est : Est} {now : Nat} {pending : List Instr} :
    Sound E base (State.mk now s.power s.ident s.clock s.od s.blobs s.held s.dict s.recorder s.pair s.alarms s.saturated mram s.tap s.gnss s.gsol s.intake s.align est s.trk s.ctl s.ring s.alc s.srv s.saf s.net s.panel s.diagn s.user s.out s.freeCount pending) :=
  Sound.mk' s h rfl rfl rfl rfl rfl rfl rfl (.inl rfl) (.inl rfl) (.inl rfl) (.inl rfl) (.inl rfl) (.inl rfl) (.inl rfl) (.inl rfl) (.inl rfl) (.inl rfl) (.inr h_mram) (.inl rfl) (.inl rfl) (.inl rfl) (.inl rfl) (.inr h_est) (.inl rfl) (.inl rfl) (.inl rfl) (.inl rfl) (.inl rfl) (.inl rfl) (.inl rfl) (.inl rfl) (.inl rfl) (.inl rfl) (.inl rfl) (.inl rfl)

theorem Sound.upd_trk {E : List Part} {base : State} (h_trk : Part.trk ∈ E)
    (s : State) (h : Sound E base s) {trk : Tracks} {now : Nat} {pending : List Instr} :
    Sound E base (State.mk now s.power s.ident s.clock s.od s.blobs s.held s.dict s.recorder s.pair s.alarms s.saturated s.mram s.tap s.gnss s.gsol s.intake s.align s.est trk s.ctl s.ring s.alc s.srv s.saf s.net s.panel s.diagn s.user s.out s.freeCount pending) :=
  Sound.mk' s h rfl rfl rfl rfl rfl rfl rfl (.inl rfl) (.inl rfl) (.inl rfl) (.inl rfl) (.inl rfl) (.inl rfl) (.inl rfl) (.inl rfl) (.inl rfl) (.inl rfl) (.inl rfl) (.inl rfl) (.inl rfl) (.inl rfl) (.inl rfl) (.inl rfl) (.inr h_trk) (.inl rfl) (.inl rfl) (.inl rfl) (.inl rfl) (.inl rfl) (.inl rfl) (.inl rfl) (.inl rfl) (.inl rfl) (.inl rfl) (.inl rfl)

theorem Sound.upd_power {E : List Part} {base : State} (h_power : Part.power ∈ E)
    (s : State) (h : Sound E base s) {power : Power} {now : Nat} {pending : List Instr} :
    Sound E base (State.mk now power s.ident s.clock s.od s.blobs s.held s.dict s.recorder s.pair s.alarms s.saturated s.mram s.tap s.gnss s.gsol s.intake s.align s.est s.trk s.ctl s.ring s.alc s.srv s.saf s.net s.panel s.diagn s.user s.out s.freeCount pending) :=
  Sound.mk' s h rfl rfl rfl rfl rfl rfl rfl (.inl rfl) (.inr h_power) (.inl rfl) (.inl rfl) (.inl rfl) (.inl rfl) (.inl rfl) (.inl rfl) (.inl rfl) (.inl rfl) (.inl rfl) (.inl rfl) (.inl rfl) (.inl rfl) (.inl rfl) (.inl rfl) (.inl rfl) (.inl rfl) (.inl rfl) (.inl rfl) (.inl rfl) (.inl rfl) (.inl rfl) (.inl rfl) (.inl rfl) (.inl rfl) (.inl rfl) (.inl rfl)

theorem Sound.upd_est_ctl {E : List Part} {base : State} (h_est : Part.est ∈ E) (h_ctl : Part.ctl ∈ E)
    (s : State) (h : Sound E base s) {est : Est} {ctl : Control} {now : Nat} {pending : List Instr} :
    Sound E base (State.mk now s.power s.ident s.clock s.od s.blobs s.held s.dict s.recorder s.pair s.alarms s.saturated s.mram s.tap s.gnss s.gsol s.intake s.align est s.trk ctl s.ring s.alc s.srv s.saf s.net s.panel s.diagn s.user s.out s.freeCount pending) :=
  Sound.mk' s h rfl rfl rfl rfl rfl rfl rfl (.inl rfl) (.inl rfl) (.inl rfl) (.inl rfl) (.inl rfl) (.inl rfl) (.inl rfl) (.inl rfl) (.inl rfl) (.inl rfl) (.inl rfl) (.inl rfl) (.inl rfl) (.inl rfl) (.inl rfl) (.inr h_est) (.inl rfl) (.inr h_ctl) (.inl rfl) (.inl rfl) (.inl rfl) (.inl rfl) (.inl rfl) (.inl rfl) (.inl rfl) (.inl rfl) (.inl rfl) (.inl rfl)

theorem Sound.upd_alc {E : List Part} {base : State} (h_alc : Part.alc ∈ E)
    (s : State) (h : Sound E base s) {alc : Alloc} {now : Nat} {pending : List Instr} :
    Sound E base (State.mk now s.power s.ident s.clock s.od s.blobs s.held s.dict s.recorder s.pair s.alarms s.saturated s.mram s.tap s.gnss s.gsol s.intake s.align s.est s.trk s.ctl s.ring alc s.srv s.saf s.net s.panel s.diagn s.user s.out s.freeCount pending) :=
  Sound.mk' s h rfl rfl rfl rfl rfl rfl rfl (.inl rfl) (.inl rfl) (.inl rfl) (.inl rfl) (.inl rfl) (.inl rfl) (.inl rfl) (.inl rfl) (.inl rfl) (.inl rfl) (.inl rfl) (.inl rfl) (.inl rfl) (.inl rfl) (.inl rfl) (.inl rfl) (.inl rfl) (.inl rfl) (.inl rfl) (.inr h_alc) (.inl rfl) (.inl rfl) (.inl rfl) (.inl rfl) (.inl rfl) (.inl rfl) (.inl rfl) (.inl rfl)

theorem Sound.upd_ctl_ring_alc {E : List Part} {base : State} (h_ctl : Part.ctl ∈ E) (h_ring : Part.ring ∈ E) (h_alc : Part.alc ∈ E)
    (s : State) (h : Sound E base s) {ctl : Control} {ring : Ring} {alc : Alloc} {now : Nat} {pending : List Instr} :
    Sound E base (State.mk now s.power s.ident s.clock s.od s.blobs s.held s.dict s.recorder s.pair s.alarms s.saturated s.mram s.tap s.gnss s.gsol s.intake s.align s.est s.trk ctl ring alc s.srv s.saf s.net s.panel s.diagn s.user s.out s.freeCount pending) :=
  Sound.mk' s h rfl rfl rfl rfl rfl rfl rfl (.inl rfl) (.inl rfl) (.inl rfl) (.inl rfl) (.inl rfl) (.inl rfl) (.inl rfl) (.inl rfl) (.inl rfl) (.inl rfl) (.inl rfl) (.inl rfl) (.inl rfl) (.inl rfl) (.inl rfl) (.inl rfl) (.inl rfl) (.inr h_ctl) (.inr h_ring) (.inr h_alc) (.inl rfl) (.inl rfl) (.inl rfl) (.inl rfl) (.inl rfl) (.inl rfl) (.inl rfl) (.inl rfl)

theorem Sound.upd_intake_srv {E : List Part} {base : State} (h_intake : Part.intake ∈ E) (h_srv : Part.srv ∈ E)
    (s : State) (h : Sound E base s) {intake : Intake} {srv : Servo} {now : Nat} {pending : List Instr} :
    Sound E base (State.mk now s.power s.ident s.clock s.od s.blobs s.held s.dict s.recorder s.pair s.alarms s.saturated s.mram s.tap s.gnss s.gsol intake s.align s.est s.trk s.ctl s.ring s.alc srv s.saf s.net s.panel s.diagn s.user s.out s.freeCount pending) :=
  Sound.mk' s h rfl rfl rfl rfl rfl rfl rfl (.inl rfl) (.inl rfl) (.inl rfl) (.inl rfl) (.inl rfl) (.inl rfl) (.inl rfl) (.inl rfl) (.inl rfl) (.inl rfl) (.inl rfl) (.inl rfl) (.inl rfl) (.inr h_intake) (.inl rfl) (.inl rfl) (.inl rfl) (.inl rfl) (.inl rfl) (.inl rfl) (.inr h_srv) (.inl rfl) (.inl rfl) (.inl rfl) (.inl rfl) (.inl rfl) (.inl rfl) (.inl rfl)

theorem Sound.upd_saf {E : List Part} {base : State} (h_saf : Part.saf ∈ E)
    (s : State) (h : Sound E base s) {saf : Safety} {now : Nat} {pending : List Instr} :
    Sound E base (State.mk now s.power s.ident s.clock s.od s.blobs s.held s.dict s.recorder s.pair s.alarms s.saturated s.mram s.tap s.gnss s.gsol s.intake s.align s.est s.trk s.ctl s.ring s.alc s.srv saf s.net s.panel s.diagn s.user s.out s.freeCount pending) :=
  Sound.mk' s h rfl rfl rfl rfl rfl rfl rfl (.inl rfl) (.inl rfl) (.inl rfl) (.inl rfl) (.inl rfl) (.inl rfl) (.inl rfl) (.inl rfl) (.inl rfl) (.inl rfl) (.inl rfl) (.inl rfl) (.inl rfl) (.inl rfl) (.inl rfl) (.inl rfl) (.inl rfl) (.inl rfl) (.inl rfl) (.inl rfl) (.inl rfl) (.inr h_saf) (.inl rfl) (.inl rfl) (.inl rfl) (.inl rfl) (.inl rfl) (.inl rfl)

theorem Sound.upd_held {E : List Part} {base : State} (h_held : Part.held ∈ E)
    (s : State) (h : Sound E base s) {held : List HeldWrite} {now : Nat} {pending : List Instr} :
    Sound E base (State.mk now s.power s.ident s.clock s.od s.blobs held s.dict s.recorder s.pair s.alarms s.saturated s.mram s.tap s.gnss s.gsol s.intake s.align s.est s.trk s.ctl s.ring s.alc s.srv s.saf s.net s.panel s.diagn s.user s.out s.freeCount pending) :=
  Sound.mk' s h rfl rfl rfl rfl rfl rfl rfl (.inl rfl) (.inl rfl) (.inl rfl) (.inl rfl) (.inr h_held) (.inl rfl) (.inl rfl) (.inl rfl) (.inl rfl) (.inl rfl) (.inl rfl) (.inl rfl) (.inl rfl) (.inl rfl) (.inl rfl) (.inl rfl) (.inl rfl) (.inl rfl) (.inl rfl) (.inl rfl) (.inl rfl) (.inl rfl) (.inl rfl) (.inl rfl) (.inl rfl) (.inl rfl) (.inl rfl) (.inl rfl)

theorem Sound.upd_power_pair {E : List Part} {base : State} (h_power : Part.power ∈ E) (h_pair : Part.pair ∈ E)
    (s : State) (h : Sound E base s) {power : Power} {pair : Pair} {now : Nat} {pending : List Instr} (h6 : pair.role = s.pair.role) :
    Sound E base (State.mk now power s.ident s.clock s.od s.blobs s.held s.dict s.recorder pair s.alarms s.saturated s.mram s.tap s.gnss s.gsol s.intake s.align s.est s.trk s.ctl s.ring s.alc s.srv s.saf s.net s.panel s.diagn s.user s.out s.freeCount pending) :=
  Sound.mk' s h rfl rfl rfl rfl rfl h6 rfl (.inl rfl) (.inr h_power) (.inl rfl) (.inl rfl) (.inl rfl) (.inl rfl) (.inl rfl) (.inr h_pair) (.inl rfl) (.inl rfl) (.inl rfl) (.inl rfl) (.inl rfl) (.inl rfl) (.inl rfl) (.inl rfl) (.inl rfl) (.inl rfl) (.inl rfl) (.inl rfl) (.inl rfl) (.inl rfl) (.inl rfl) (.inl rfl) (.inl rfl) (.inl rfl) (.inl rfl) (.inl rfl)

theorem Sound.upd_ident {E : List Part} {base : State} (h_ident : Part.ident ∈ E)
    (s : State) (h : Sound E base s) {ident : Identity} {now : Nat} {pending : List Instr} (h3 : ident.duty = s.ident.duty) (h4 : ident.twin = s.ident.twin) (h5 : ident.node = s.ident.node) :
    Sound E base (State.mk now s.power ident s.clock s.od s.blobs s.held s.dict s.recorder s.pair s.alarms s.saturated s.mram s.tap s.gnss s.gsol s.intake s.align s.est s.trk s.ctl s.ring s.alc s.srv s.saf s.net s.panel s.diagn s.user s.out s.freeCount pending) :=
  Sound.mk' s h rfl rfl h3 h4 h5 rfl rfl (.inl rfl) (.inl rfl) (.inr h_ident) (.inl rfl) (.inl rfl) (.inl rfl) (.inl rfl) (.inl rfl) (.inl rfl) (.inl rfl) (.inl rfl) (.inl rfl) (.inl rfl) (.inl rfl) (.inl rfl) (.inl rfl) (.inl rfl) (.inl rfl) (.inl rfl) (.inl rfl) (.inl rfl) (.inl rfl) (.inl rfl) (.inl rfl) (.inl rfl) (.inl rfl) (.inl rfl) (.inl rfl)

theorem Sound.upd_pair_diagn {E : List Part} {base : State} (h_pair : Part.pair ∈ E) (h_diag : Part.diag ∈ E)
    (s : State) (h : Sound E base s) {pair : Pair} {diagn : Diag} {now : Nat} {pending : List Instr} (h6 : pair.role = s.pair.role) :
    Sound E base (State.mk now s.power s.ident s.clock s.od s.blobs s.held s.dict s.recorder pair s.alarms s.saturated s.mram s.tap s.gnss s.gsol s.intake s.align s.est s.trk s.ctl s.ring s.alc s.srv s.saf s.net s.panel diagn s.user s.out s.freeCount pending) :=
  Sound.mk' s h rfl rfl rfl rfl rfl h6 rfl (.inl rfl) (.inl rfl) (.inl rfl) (.inl rfl) (.inl rfl) (.inl rfl) (.inl rfl) (.inr h_pair) (.inl rfl) (.inl rfl) (.inl rfl) (.inl rfl) (.inl rfl) (.inl rfl) (.inl rfl) (.inl rfl) (.inl rfl) (.inl rfl) (.inl rfl) (.inl rfl) (.inl rfl) (.inl rfl) (.inl rfl) (.inl rfl) (.inr h_diag) (.inl rfl) (.inl rfl) (.inl rfl)

theorem Sound.upd_pair_ring {E : List Part} {base : State} (h_pair : Part.pair ∈ E) (h_ring : Part.ring ∈ E)
    (s : State) (h : Sound E base s) {pair : Pair} {ring : Ring} {now : Nat} {pending : List Instr} (h6 : pair.role = s.pair.role) :
    Sound E base (State.mk now s.power s.ident s.clock s.od s.blobs s.held s.dict s.recorder pair s.alarms s.saturated s.mram s.tap s.gnss s.gsol s.intake s.align s.est s.trk s.ctl ring s.alc s.srv s.saf s.net s.panel s.diagn s.user s.out s.freeCount pending) :=
  Sound.mk' s h rfl rfl rfl rfl rfl h6 rfl (.inl rfl) (.inl rfl) (.inl rfl) (.inl rfl) (.inl rfl) (.inl rfl) (.inl rfl) (.inr h_pair) (.inl rfl) (.inl rfl) (.inl rfl) (.inl rfl) (.inl rfl) (.inl rfl) (.inl rfl) (.inl rfl) (.inl rfl) (.inl rfl) (.inr h_ring) (.inl rfl) (.inl rfl) (.inl rfl) (.inl rfl) (.inl rfl) (.inl rfl) (.inl rfl) (.inl rfl) (.inl rfl)

theorem Sound.upd_net {E : List Part} {base : State} (h_net : Part.net ∈ E)
    (s : State) (h : Sound E base s) {net : SafeNet} {now : Nat} {pending : List Instr} :
    Sound E base (State.mk now s.power s.ident s.clock s.od s.blobs s.held s.dict s.recorder s.pair s.alarms s.saturated s.mram s.tap s.gnss s.gsol s.intake s.align s.est s.trk s.ctl s.ring s.alc s.srv s.saf net s.panel s.diagn s.user s.out s.freeCount pending) :=
  Sound.mk' s h rfl rfl rfl rfl rfl rfl rfl (.inl rfl) (.inl rfl) (.inl rfl) (.inl rfl) (.inl rfl) (.inl rfl) (.inl rfl) (.inl rfl) (.inl rfl) (.inl rfl) (.inl rfl) (.inl rfl) (.inl rfl) (.inl rfl) (.inl rfl) (.inl rfl) (.inl rfl) (.inl rfl) (.inl rfl) (.inl rfl) (.inl rfl) (.inl rfl) (.inr h_net) (.inl rfl) (.inl rfl) (.inl rfl) (.inl rfl) (.inl rfl)

theorem Sound.upd_mram_panel {E : List Part} {base : State} (h_mram : Part.mram ∈ E) (h_panel : Part.panel ∈ E)
    (s : State) (h : Sound E base s) {mram : Mram} {panel : Panel} {now : Nat} {pending : List Instr} :
    Sound E base (State.mk now s.power s.ident s.clock s.od s.blobs s.held s.dict s.recorder s.pair s.alarms s.saturated mram s.tap s.gnss s.gsol s.intake s.align s.est s.trk s.ctl s.ring s.alc s.srv s.saf s.net panel s.diagn s.user s.out s.freeCount pending) :=
  Sound.mk' s h rfl rfl rfl rfl rfl rfl rfl (.inl rfl) (.inl rfl) (.inl rfl) (.inl rfl) (.inl rfl) (.inl rfl) (.inl rfl) (.inl rfl) (.inl rfl) (.inl rfl) (.inr h_mram) (.inl rfl) (.inl rfl) (.inl rfl) (.inl rfl) (.inl rfl) (.inl rfl) (.inl rfl) (.inl rfl) (.inl rfl) (.inl rfl) (.inl rfl) (.inl rfl) (.inr h_panel) (.inl rfl) (.inl rfl) (.inl rfl) (.inl rfl)

theorem Sound.upd_panel {E : List Part} {base : State} (h_panel : Part.panel ∈ E)
    (s : State) (h : Sound E base s) {panel : Panel} {now : Nat} {pending : List Instr} :
    Sound E base (State.mk now s.power s.ident s.clock s.od s.blobs s.held s.dict s.recorder s.pair s.alarms s.saturated s.mram s.tap s.gnss s.gsol s.intake s.align s.est s.trk s.ctl s.ring s.alc s.srv s.saf s.net panel s.diagn s.user s.out s.freeCount pending) :=
  Sound.mk' s h rfl rfl rfl rfl rfl rfl rfl (.inl rfl) (.inl rfl) (.inl rfl) (.inl rfl) (.inl rfl) (.inl rfl) (.inl rfl) (.inl rfl) (.inl rfl) (.inl rfl) (.inl rfl) (.inl rfl) (.inl rfl) (.inl rfl) (.inl rfl) (.inl rfl) (.inl rfl) (.inl rfl) (.inl rfl) (.inl rfl) (.inl rfl) (.inl rfl) (.inl rfl) (.inr h_panel) (.inl rfl) (.inl rfl) (.inl rfl) (.inl rfl)

theorem Sound.upd_ring_alc {E : List Part} {base : State} (h_ring : Part.ring ∈ E) (h_alc : Part.alc ∈ E)
    (s : State) (h : Sound E base s) {ring : Ring} {alc : Alloc} {now : Nat} {pending : List Instr} :
    Sound E base (State.mk now s.power s.ident s.clock s.od s.blobs s.held s.dict s.recorder s.pair s.alarms s.saturated s.mram s.tap s.gnss s.gsol s.intake s.align s.est s.trk s.ctl ring alc s.srv s.saf s.net s.panel s.diagn s.user s.out s.freeCount pending) :=
  Sound.mk' s h rfl rfl rfl rfl rfl rfl rfl (.inl rfl) (.inl rfl) (.inl rfl) (.inl rfl) (.inl rfl) (.inl rfl) (.inl rfl) (.inl rfl) (.inl rfl) (.inl rfl) (.inl rfl) (.inl rfl) (.inl rfl) (.inl rfl) (.inl rfl) (.inl rfl) (.inl rfl) (.inl rfl) (.inr h_ring) (.inr h_alc) (.inl rfl) (.inl rfl) (.inl rfl) (.inl rfl) (.inl rfl) (.inl rfl) (.inl rfl) (.inl rfl)

theorem Sound.upd_held_pair {E : List Part} {base : State} (h_held : Part.held ∈ E) (h_pair : Part.pair ∈ E)
    (s : State) (h : Sound E base s) {held : List HeldWrite} {pair : Pair} {now : Nat} {pending : List Instr} (h6 : pair.role = s.pair.role) :
    Sound E base (State.mk now s.power s.ident s.clock s.od s.blobs held s.dict s.recorder pair s.alarms s.saturated s.mram s.tap s.gnss s.gsol s.intake s.align s.est s.trk s.ctl s.ring s.alc s.srv s.saf s.net s.panel s.diagn s.user s.out s.freeCount pending) :=
  Sound.mk' s h rfl rfl rfl rfl rfl h6 rfl (.inl rfl) (.inl rfl) (.inl rfl) (.inl rfl) (.inr h_held) (.inl rfl) (.inl rfl) (.inr h_pair) (.inl rfl) (.inl rfl) (.inl rfl) (.inl rfl) (.inl rfl) (.inl rfl) (.inl rfl) (.inl rfl) (.inl rfl) (.inl rfl) (.inl rfl) (.inl rfl) (.inl rfl) (.inl rfl) (.inl rfl) (.inl rfl) (.inl rfl) (.inl rfl) (.inl rfl) (.inl rfl)

theorem Sound.upd_ctl_ring {E : List Part} {base : State} (h_ctl : Part.ctl ∈ E) (h_ring : Part.ring ∈ E)
    (s : State) (h : Sound E base s) {ctl : Control} {ring : Ring} {now : Nat} {pending : List Instr} :
    Sound E base (State.mk now s.power s.ident s.clock s.od s.blobs s.held s.dict s.recorder s.pair s.alarms s.saturated s.mram s.tap s.gnss s.gsol s.intake s.align s.est s.trk ctl ring s.alc s.srv s.saf s.net s.panel s.diagn s.user s.out s.freeCount pending) :=
  Sound.mk' s h rfl rfl rfl rfl rfl rfl rfl (.inl rfl) (.inl rfl) (.inl rfl) (.inl rfl) (.inl rfl) (.inl rfl) (.inl rfl) (.inl rfl) (.inl rfl) (.inl rfl) (.inl rfl) (.inl rfl) (.inl rfl) (.inl rfl) (.inl rfl) (.inl rfl) (.inl rfl) (.inr h_ctl) (.inr h_ring) (.inl rfl) (.inl rfl) (.inl rfl) (.inl rfl) (.inl rfl) (.inl rfl) (.inl rfl) (.inl rfl) (.inl rfl)

theorem Sound.upd_ctl_srv {E : List Part} {base : State} (h_ctl : Part.ctl ∈ E) (h_srv : Part.srv ∈ E)
    (s : State) (h : Sound E base s) {ctl : Control} {srv : Servo} {now : Nat} {pending : List Instr} :
    Sound E base (State.mk now s.power s.ident s.clock s.od s.blobs s.held s.dict s.recorder s.pair s.alarms s.saturated s.mram s.tap s.gnss s.gsol s.intake s.align s.est s.trk ctl s.ring s.alc srv s.saf s.net s.panel s.diagn s.user s.out s.freeCount pending) :=
  Sound.mk' s h rfl rfl rfl rfl rfl rfl rfl (.inl rfl) (.inl rfl) (.inl rfl) (.inl rfl) (.inl rfl) (.inl rfl) (.inl rfl) (.inl rfl) (.inl rfl) (.inl rfl) (.inl rfl) (.inl rfl) (.inl rfl) (.inl rfl) (.inl rfl) (.inl rfl) (.inl rfl) (.inr h_ctl) (.inl rfl) (.inl rfl) (.inr h_srv) (.inl rfl) (.inl rfl) (.inl rfl) (.inl rfl) (.inl rfl) (.inl rfl) (.inl rfl)

theorem Sound.upd_power_mram {E : List Part} {base : State} (h_power : Part.power ∈ E) (h_mram : Part.mram ∈ E)
    (s : State) (h : Sound E base s) {power : Power} {mram : Mram} {now : Nat} {pending : List Instr} :
    Sound E base (State.mk now power s.ident s.clock s.od s.blobs s.held s.dict s.recorder s.pair s.alarms s.saturated mram s.tap s.gnss s.gsol s.intake s.align s.est s.trk s.ctl s.ring s.alc s.srv s.saf s.net s.panel s.diagn s.user s.out s.freeCount pending) :=
  Sound.mk' s h rfl rfl rfl rfl rfl rfl rfl (.inl rfl) (.inr h_power) (.inl rfl) (.inl rfl) (.inl rfl) (.inl rfl) (.inl rfl) (.inl rfl) (.inl rfl) (.inl rfl) (.inr h_mram) (.inl rfl) (.inl rfl) (.inl rfl) (.inl rfl) (.inl rfl) (.inl rfl) (.inl rfl) (.inl rfl) (.inl rfl) (.inl rfl) (.inl rfl) (.inl rfl) (.inl rfl) (.inl rfl) (.inl rfl) (.inl rfl) (.inl rfl)

theorem Sound.upd_power_recorder {E : List Part} {base : State} (h_power : Part.power ∈ E) (h_recorder : Part.recorder ∈ E)
    (s : State) (h : Sound E base s) {power : Power} {recorder : Recorder} {now : Nat} {pending : List Instr} :
    Sound E base (State.mk now power s.ident s.clock s.od s.blobs s.held s.dict recorder s.pair s.alarms s.saturated s.mram s.tap s.gnss s.gsol s.intake s.align s.est s.trk s.ctl s.ring s.alc s.srv s.saf s.net s.panel s.diagn s.user s.out s.freeCount pending) :=
  Sound.mk' s h rfl rfl rfl rfl rfl rfl rfl (.inl rfl) (.inr h_power) (.inl rfl) (.inl rfl) (.inl rfl) (.inl rfl) (.inr h_recorder) (.inl rfl) (.inl rfl) (.inl rfl) (.inl rfl) (.inl rfl) (.inl rfl) (.inl rfl) (.inl rfl) (.inl rfl) (.inl rfl) (.inl rfl) (.inl rfl) (.inl rfl) (.inl rfl) (.inl rfl) (.inl rfl) (.inl rfl) (.inl rfl) (.inl rfl) (.inl rfl) (.inl rfl)

theorem Sound.upd_power_recorder_pair {E : List Part} {base : State} (h_power : Part.power ∈ E) (h_recorder : Part.recorder ∈ E) (h_pair : Part.pair ∈ E)
    (s : State) (h : Sound E base s) {power : Power} {recorder : Recorder} {pair : Pair} {now : Nat} {pending : List Instr} (h6 : pair.role = s.pair.role) :
    Sound E base (State.mk now power s.ident s.clock s.od s.blobs s.held s.dict recorder pair s.alarms s.saturated s.mram s.tap s.gnss s.gsol s.intake s.align s.est s.trk s.ctl s.ring s.alc s.srv s.saf s.net s.panel s.diagn s.user s.out s.freeCount pending) :=
  Sound.mk' s h rfl rfl rfl rfl rfl h6 rfl (.inl rfl) (.inr h_power) (.inl rfl) (.inl rfl) (.inl rfl) (.inl rfl) (.inr h_recorder) (.inr h_pair) (.inl rfl) (.inl rfl) (.inl rfl) (.inl rfl) (.inl rfl) (.inl rfl) (.inl rfl) (.inl rfl) (.inl rfl) (.inl rfl) (.inl rfl) (.inl rfl) (.inl rfl) (.inl rfl) (.inl rfl) (.inl rfl) (.inl rfl) (.inl rfl) (.inl rfl) (.inl rfl)

theorem Sound.upd_gnss_gsol {E : List Part} {base : State} (h_gnss : Part.gnss ∈ E) (h_gsol : Part.gsol ∈ E)
    (s : State) (h : Sound E base s) {gnss : Gnss} {gsol : GnssSol} {now : Nat} {pending : List Instr} :
    Sound E base (State.mk now s.power s.ident s.clock s.od s.blobs s.held s.dict s.recorder s.pair s.alarms s.saturated s.mram s.tap gnss gsol s.intake s.align s.est s.trk s.ctl s.ring s.alc s.srv s.saf s.net s.panel s.diagn s.user s.out s.freeCount pending) :=
  Sound.mk' s h rfl rfl rfl rfl rfl rfl rfl (.inl rfl) (.inl rfl) (.inl rfl) (.inl rfl) (.inl rfl) (.inl rfl) (.inl rfl) (.inl rfl) (.inl rfl) (.inl rfl) (.inl rfl) (.inr h_gnss) (.inr h_gsol) (.inl rfl) (.inl rfl) (.inl rfl) (.inl rfl) (.inl rfl) (.inl rfl) (.inl rfl) (.inl rfl) (.inl rfl) (.inl rfl) (.inl rfl) (.inl rfl) (.inl rfl) (.inl rfl) (.inl rfl)

theorem Sound.upd_align_trk {E : List Part} {base : State} (h_align : Part.align ∈ E) (h_trk : Part.trk ∈ E)
    (s : State) (h : Sound E base s) {align : Align} {trk : Tracks} {now : Nat} {pending : List Instr} :
    Sound E base (State.mk now s.power s.ident s.clock s.od s.blobs s.held s.dict s.recorder s.pair s.alarms s.saturated s.mram s.tap s.gnss s.gsol s.intake align s.est trk s.ctl s.ring s.alc s.srv s.saf s.net s.panel s.diagn s.user s.out s.freeCount pending) :=
  Sound.mk' s h rfl rfl rfl rfl rfl rfl rfl (.inl rfl) (.inl rfl) (.inl rfl) (.inl rfl) (.inl rfl) (.inl rfl) (.inl rfl) (.inl rfl) (.inl rfl) (.inl rfl) (.inl rfl) (.inl rfl) (.inl rfl) (.inl rfl) (.inr h_align) (.inl rfl) (.inr h_trk) (.inl rfl) (.inl rfl) (.inl rfl) (.inl rfl) (.inl rfl) (.inl rfl) (.inl rfl) (.inl rfl) (.inl rfl) (.inl rfl) (.inl rfl)

theorem Sound.upd_clock_ring {E : List Part} {base : State} (h_clock : Part.clock ∈ E) (h_ring : Part.ring ∈ E)
    (s : State) (h : Sound E base s) {clock : Clock} {ring : Ring} {now : Nat} {pending : List Instr} :
    Sound E base (State.mk now s.power s.ident clock s.od s.blobs s.held s.dict s.recorder s.pair s.alarms s.saturated s.mram s.tap s.gnss s.gsol s.intake s.align s.est s.trk s.ctl ring s.alc s.srv s.saf s.net s.panel s.diagn s.user s.out s.freeCount pending) :=
  Sound.mk' s h rfl rfl rfl rfl rfl rfl rfl (.inl rfl) (.inl rfl) (.inl rfl) (.inr h_clock) (.inl rfl) (.inl rfl) (.inl rfl) (.inl rfl) (.inl rfl) (.inl rfl) (.inl rfl) (.inl rfl) (.inl rfl) (.inl rfl) (.inl rfl) (.inl rfl) (.inl rfl) (.inl rfl) (.inr h_ring) (.inl rfl) (.inl rfl) (.inl rfl) (.inl rfl) (.inl rfl) (.inl rfl) (.inl rfl) (.inl rfl) (.inl rfl)

theorem Sound.upd_saf_diagn {E : List Part} {base : State} (h_saf : Part.saf ∈ E) (h_diag : Part.diag ∈ E)
    (s : State) (h : Sound E base s) {saf : Safety} {diagn : Diag} {now : Nat} {pending : List Instr} :
    Sound E base (State.mk now s.power s.ident s.clock s.od s.blobs s.held s.dict s.recorder s.pair s.alarms s.saturated s.mram s.tap s.gnss s.gsol s.intake s.align s.est s.trk s.ctl s.ring s.alc s.srv saf s.net s.panel diagn s.user s.out s.freeCount pending) :=
  Sound.mk' s h rfl rfl rfl rfl rfl rfl rfl (.inl rfl) (.inl rfl) (.inl rfl) (.inl rfl) (.inl rfl) (.inl rfl) (.inl rfl) (.inl rfl) (.inl rfl) (.inl rfl) (.inl rfl) (.inl rfl) (.inl rfl) (.inl rfl) (.inl rfl) (.inl rfl) (.inl rfl) (.inl rfl) (.inl rfl) (.inl rfl) (.inl rfl) (.inr h_saf) (.inl rfl) (.inl rfl) (.inr h_diag) (.inl rfl) (.inl rfl) (.inl rfl)

theorem Sound.upd_power_dict_mram {E : List Part} {base : State} (h_power : Part.power ∈ E) (h_dict : Part.dict ∈ E) (h_mram : Part.mram ∈ E)
    (s : State) (h : Sound E base s) {power : Power} {dict : Dict} {mram : Mram} {now : Nat} {pending : List Instr} :
    Sound E base (State.mk now power s.ident s.clock s.od s.blobs s.held dict s.recorder s.pair s.alarms s.saturated mram s.tap s.gnss s.gsol s.intake s.align s.est s.trk s.ctl s.ring s.alc s.srv s.saf s.net s.panel s.diagn s.user s.out s.freeCount pending) :=
  Sound.mk' s h rfl rfl rfl rfl rfl rfl rfl (.inl rfl) (.inr h_power) (.inl rfl) (.inl rfl) (.inl rfl) (.inr h_dict) (.inl rfl) (.inl rfl) (.inl rfl) (.inl rfl) (.inr h_mram) (.inl rfl) (.inl rfl) (.inl rfl) (.inl rfl) (.inl rfl) (.inl rfl) (.inl rfl) (.inl rfl) (.inl rfl) (.inl rfl) (.inl rfl) (.inl rfl) (.inl rfl) (.inl rfl) (.inl rfl) (.inl rfl) (.inl rfl)

theorem Sound.upd_power_pair_saf {E : List Part} {base : State} (h_power : Part.power ∈ E) (h_pair : Part.pair ∈ E) (h_saf : Part.saf ∈ E)
    (s : State) (h : Sound E base s) {power : Power} {pair : Pair} {saf : Safety} {now : Nat} {pending : List Instr} (h6 : pair.role = s.pair.role) :
    Sound E base (State.mk now power s.ident s.clock s.od s.blobs s.held s.dict s.recorder pair s.alarms s.saturated s.mram s.tap s.gnss s.gsol s.intake s.align s.est s.trk s.ctl s.ring s.alc s.srv saf s.net s.panel s.diagn s.user s.out s.freeCount pending) :=
  Sound.mk' s h rfl rfl rfl rfl rfl h6 rfl (.inl rfl) (.inr h_power) (.inl rfl) (.inl rfl) (.inl rfl) (.inl rfl) (.inl rfl) (.inr h_pair) (.inl rfl) (.inl rfl) (.inl rfl) (.inl rfl) (.inl rfl) (.inl rfl) (.inl rfl) (.inl rfl) (.inl rfl) (.inl rfl) (.inl rfl) (.inl rfl) (.inl rfl) (.inr h_saf) (.inl rfl) (.inl rfl) (.inl rfl) (.inl rfl) (.inl rfl) (.inl rfl)

theorem Sound.upd_power_saf {E : List Part} {base : State} (h_power : Part.power ∈ E) (h_saf : Part.saf ∈ E)
    (s : State) (h : Sound E base s) {power : Power} {saf : Safety} {now : Nat} {pending : List Instr} :
    Sound E base (State.mk now power s.ident s.clock s.od s.blobs s.held s.dict s.recorder s.pair s.alarms s.saturated s.mram s.tap s.gnss s.gsol s.intake s.align s.est s.trk s.ctl s.ring s.alc s.srv saf s.net s.panel s.diagn s.user s.out s.freeCount pending) :=
  Sound.mk' s h rfl rfl rfl rfl rfl rfl rfl (.inl rfl) (.inr h_power) (.inl rfl) (.inl rfl) (.inl rfl) (.inl rfl) (.inl rfl) (.inl rfl) (.inl rfl) (.inl rfl) (.inl rfl) (.inl rfl) (.inl rfl) (.inl rfl) (.inl rfl) (.inl rfl) (.inl rfl) (.inl rfl) (.inl rfl) (.inl rfl) (.inl rfl) (.inr h_saf) (.inl rfl) (.inl rfl) (.inl rfl) (.inl rfl) (.inl rfl) (.inl rfl)

theorem Sound.upd_power_mram_ctl {E : List Part} {base : State} (h_power : Part.power ∈ E) (h_mram : Part.mram ∈ E) (h_ctl : Part.ctl ∈ E)
    (s : State) (h : Sound E base s) {power : Power} {mram : Mram} {ctl : Control} {now : Nat} {pending : List Instr} :
    Sound E base (State.mk now power s.ident s.clock s.od s.blobs s.held s.dict s.recorder s.pair s.alarms s.saturated mram s.tap s.gnss s.gsol s.intake s.align s.est s.trk ctl s.ring s.alc s.srv s.saf s.net s.panel s.diagn s.user s.out s.freeCount pending) :=
  Sound.mk' s h rfl rfl rfl rfl rfl rfl rfl (.inl rfl) (.inr h_power) (.inl rfl) (.inl rfl) (.inl rfl) (.inl rfl) (.inl rfl) (.inl rfl) (.inl rfl) (.inl rfl) (.inr h_mram) (.inl rfl) (.inl rfl) (.inl rfl) (.inl rfl) (.inl rfl) (.inl rfl) (.inr h_ctl) (.inl rfl) (.inl rfl) (.inl rfl) (.inl rfl) (.inl rfl) (.inl rfl) (.inl rfl) (.inl rfl) (.inl rfl) (.inl rfl)

/-! ### The functions of the machine, in the order of the files -/

theorem State.setObjK_sound {E : List Part} {base : State} (hE : [Part.objects] ⊆ E) (s : State) (k : Nat) (v : Int)
    (fine : Sound E base s) :
    Sound E base (State.setObjK s k v) := by
  have h_objects : Part.objects ∈ E := hE (by decide)
  exact ⟨storeWf_assocSet keyDefault s.od k v fine.od', fine.blobs', fine.ident', fine.tap', fine.mem', fine.power, fine.ident, fine.clock, .inr h_objects, fine.blobs, fine.held, fine.dict, fine.recorder, fine.pair, fine.alarms, fine.saturated, fine.mram, fine.tap, fine.gnss, fine.gsol, fine.intake, fine.align, fine.est, fine.trk, fine.ctl, fine.ring, fine.alc, fine.srv, fine.saf, fine.net, fine.panel, fine.diagn, fine.user, fine.out, fine.freeCount⟩

theorem State.setObj_sound {E : List Part} {base : State} (hE : [Part.objects] ⊆ E) (s : State) (i sub : Nat) (v : Int)
    (fine : Sound E base s) :
    Sound E base (State.setObj s i sub v) := by
  have k0 : [Part.objects] ⊆ E := List.Subset.trans (by decide) hE
  unfold State.setObj
  repeat' (first
    | (with_reducible assumption)
    | ((with_reducible apply State.setObjK_sound k0)))

theorem State.setObjs_sound {E : List Part} {base : State} (hE : [Part.objects] ⊆ E) (s : State) (l : List (Nat × Nat × Int))
    (fine : Sound E base s) :
    Sound E base (State.setObjs s l) := by
  induction l generalizing s with
  | nil => exact fine
  | cons e l ih => exact ih _ (State.setObjK_sound hE _ _ _ fine)

theorem State.setBlob_sound {E : List Part} {base : State} (hE : [Part.blobs] ⊆ E) (s : State) (i sub : Nat) (b : List Byte)
    (fine : Sound E base s) :
    Sound E base (State.setBlob s i sub b) := by
  have h_blobs : Part.blobs ∈ E := hE (by decide)
  exact ⟨fine.od', storeWf_assocSet (fun _ => []) s.blobs (okey i sub) b fine.blobs', fine.ident', fine.tap', fine.mem', fine.power, fine.ident, fine.clock, fine.od, .inr h_blobs, fine.held, fine.dict, fine.recorder, fine.pair, fine.alarms, fine.saturated, fine.mram, fine.tap, fine.gnss, fine.gsol, fine.intake, fine.align, fine.est, fine.trk, fine.ctl, fine.ring, fine.alc, fine.srv, fine.saf, fine.net, fine.panel, fine.diagn, fine.user, fine.out, fine.freeCount⟩

theorem State.setBit_sound {E : List Part} {base : State} (hE : [Part.objects] ⊆ E) (s : State) (i sub n : Nat) (b : Bool)
    (fine : Sound E base s) :
    Sound E base (State.setBit s i sub n b) := by
  have k0 : [Part.objects] ⊆ E := List.Subset.trans (by decide) hE
  unfold State.setBit
  repeat' (first
    | (with_reducible assumption)
    | ((with_reducible apply State.setObj_sound k0)))

theorem State.raiseBit_sound {E : List Part} {base : State} (hE : [Part.objects] ⊆ E) (s : State) (i sub n : Nat) (b : Bool)
    (fine : Sound E base s) :
    Sound E base (State.raiseBit s i sub n b) := by
  have k0 : [Part.objects] ⊆ E := List.Subset.trans (by decide) hE
  unfold State.raiseBit
  repeat' (first
    | (with_reducible assumption)
    | ((with_reducible apply State.setBit_sound k0))
    | (with_reducible refine sound_ite (fun _ => ?_) (fun _ => ?_)))

theorem State.at_sound {E : List Part} {base : State} (hE : [Part.clock, Part.wires] ⊆ E) (s : State) (t : Nat)
    (fine : Sound E base s) :
    Sound E base (State.at s t) := by
  have h_clock : Part.clock ∈ E := hE (by decide)
  have h_wires : Part.wires ∈ E := hE (by decide)
  unfold State.at
  (try dsimp only)
  repeat' (first
    | (with_reducible assumption)
    | (with_reducible refine sound_ite (fun _ => ?_) (fun _ => ?_))
    | (with_reducible refine sound_foldl (fun s x h => ?_) ?_)
    | (fail_if_no_progress with_reducible refine Sound.upd_clock_out h_clock h_wires _ ?_))

theorem State.tell_sound {E : List Part} {base : State} (hE : [Part.wires] ⊆ E) (s : State) (o : Out)
    (fine : Sound E base s) :
    Sound E base (State.tell s o) := by
  have h_wires : Part.wires ∈ E := hE (by decide)
  unfold State.tell
  repeat' (first
    | (with_reducible assumption)
    | (with_reducible refine sound_ite (fun _ => ?_) (fun _ => ?_))
    | (with_reducible refine sound_foldl (fun s x h => ?_) ?_)
    | (fail_if_no_progress with_reducible refine Sound.upd_out h_wires _ ?_))

theorem State.free_sound {E : List Part} {base : State} (hE : [Part.free] ⊆ E) (s : State) (bound : Nat)
    (fine : Sound E base s) :
    Sound E base (State.free s bound).2 := by
  have h_free : Part.free ∈ E := hE (by decide)
  unfold State.free
  (try dsimp only)
  repeat' (first
    | (with_reducible assumption)
    | (with_reducible refine sound_ite (fun _ => ?_) (fun _ => ?_))
    | (with_reducible refine sound_foldl (fun s x h => ?_) ?_)
    | (with_reducible refine sound_foldl2 (fun s x h => ?_) ?_)
    | (with_reducible refine sound_foldl3 (fun s x h => ?_) ?_)
    | (fail_if_no_progress with_reducible refine Sound.upd_freeCount h_free _ ?_))

theorem State.bump_sound {E : List Part} {base : State} (hE : [Part.objects] ⊆ E) (s : State) (i sub : Nat)
    (fine : Sound E base s) :
    Sound E base (State.bump s i sub) := by
  have k0 : [Part.objects] ⊆ E := List.Subset.trans (by decide) hE
  unfold State.bump
  repeat' (first
    | (with_reducible assumption)
    | ((with_reducible apply State.setObj_sound k0))
    | ((with_reducible apply State.setBit_sound k0))
    | (with_reducible refine sound_ite (fun _ => ?_) (fun _ => ?_)))

theorem State.offer_sound {E : List Part} {base : State} (hE : [Part.objects, Part.recorder] ⊆ E) (s : State) (it : IntakeItem)
    (fine : Sound E base s) :
    Sound E base (State.offer s it) := by
  have h_recorder : Part.recorder ∈ E := hE (by decide)
  have k0 : [Part.objects] ⊆ E := List.Subset.trans (by decide) hE
  unfold State.offer
  (try dsimp only)
  repeat' (first
    | (with_reducible assumption)
    | ((with_reducible apply State.bump_sound k0))
    | ((with_reducible apply State.setBit_sound k0))
    | (with_reducible refine sound_ite (fun _ => ?_) (fun _ => ?_))
    | (with_reducible refine sound_foldl (fun s x h => ?_) ?_)
    | (fail_if_no_progress with_reducible refine Sound.upd_recorder h_recorder _ ?_))

theorem State.event_sound {E : List Part} {base : State} (hE : [Part.objects, Part.recorder] ⊆ E) (s : State) (plane : Plane) (i sub sev : Nat) (detail : List Byte)
    (fine : Sound E base s) :
    Sound E base (State.event s plane i sub sev detail) := by
  have k0 : [Part.objects, Part.recorder] ⊆ E := List.Subset.trans (by decide) hE
  unfold State.event
  repeat' (first
    | (with_reducible assumption)
    | ((with_reducible apply State.offer_sound k0)))

theorem State.alarm_sound {E : List Part} {base : State} (hE : [Part.objects, Part.recorder, Part.alarms] ⊆ E) (s : State) (plane : Plane) (i sub sev : Nat) (detail : List Byte)
    (fine : Sound E base s) :
    Sound E base (State.alarm s plane i sub sev detail) := by
  have h_alarms : Part.alarms ∈ E := hE (by decide)
  have k0 : [Part.objects, Part.recorder] ⊆ E := List.Subset.trans (by decide) hE
  unfold State.alarm
  repeat' (first
    | (with_reducible assumption)
    | ((with_reducible apply State.offer_sound k0))
    | (with_reducible refine sound_ite (fun _ => ?_) (fun _ => ?_))
    | (with_reducible refine sound_foldl (fun s x h => ?_) ?_)
    | (fail_if_no_progress with_reducible refine Sound.upd_alarms h_alarms _ ?_))

theorem State.unalarm_sound {E : List Part} {base : State} (hE : [Part.objects, Part.recorder, Part.alarms] ⊆ E) (s : State) (plane : Plane) (i sub sev : Nat)
    (fine : Sound E base s) :
    Sound E base (State.unalarm s plane i sub sev) := by
  have h_alarms : Part.alarms ∈ E := hE (by decide)
  have k0 : [Part.objects, Part.recorder] ⊆ E := List.Subset.trans (by decide) hE
  unfold State.unalarm
  repeat' (first
    | (with_reducible assumption)
    | ((with_reducible apply State.offer_sound k0))
    | (with_reducible refine sound_ite (fun _ => ?_) (fun _ => ?_))
    | (with_reducible refine sound_foldl (fun s x h => ?_) ?_)
    | (fail_if_no_progress with_reducible refine Sound.upd_alarms h_alarms _ ?_))

theorem State.alarmIf_sound {E : List Part} {base : State} (hE : [Part.objects, Part.recorder, Part.alarms] ⊆ E) (s : State) (c : Bool) (plane : Plane) (i sub sev : Nat)
    (fine : Sound E base s) :
    Sound E base (State.alarmIf s c plane i sub sev) := by
  have k0 : [Part.objects, Part.recorder, Part.alarms] ⊆ E := List.Subset.trans (by decide) hE
  unfold State.alarmIf
  repeat' (first
    | (with_reducible assumption)
    | ((with_reducible apply State.alarm_sound k0))
    | ((with_reducible apply State.unalarm_sound k0))
    | (with_reducible refine sound_ite (fun _ => ?_) (fun _ => ?_)))

theorem State.count_sound {E : List Part} {base : State} (hE : [Part.objects, Part.recorder, Part.alarms] ⊆ E) (s : State) (plane : Plane) (i sub : Nat)
    (fine : Sound E base s) :
    Sound E base (State.count s plane i sub) := by
  have h_alarms : Part.alarms ∈ E := hE (by decide)
  have k0 : [Part.objects] ⊆ E := List.Subset.trans (by decide) hE
  have k1 : [Part.objects, Part.recorder] ⊆ E := List.Subset.trans (by decide) hE
  unfold State.count
  (try dsimp only)
  repeat' (first
    | (with_reducible assumption)
    | ((with_reducible apply State.setObj_sound k0))
    | ((with_reducible apply State.setBit_sound k0))
    | ((with_reducible apply State.event_sound k1))
    | (with_reducible refine sound_ite (fun _ => ?_) (fun _ => ?_))
    | (with_reducible refine sound_foldl (fun s x h => ?_) ?_)
    | (fail_if_no_progress with_reducible refine Sound.upd_saturated h_alarms _ ?_))

theorem State.countBy_sound {E : List Part} {base : State} (hE : [Part.objects, Part.recorder, Part.alarms] ⊆ E) (s : State) (plane : Plane) (i sub n : Nat)
    (fine : Sound E base s) :
    Sound E base (State.countBy s plane i sub n) := by
  have k0 : [Part.objects] ⊆ E := List.Subset.trans (by decide) hE
  have k1 : [Part.objects, Part.recorder, Part.alarms] ⊆ E := List.Subset.trans (by decide) hE
  unfold State.countBy
  repeat' (first
    | (with_reducible assumption)
    | ((with_reducible apply State.setObj_sound k0))
    | ((with_reducible apply State.count_sound k1))
    | (with_reducible refine sound_ite (fun _ => ?_) (fun _ => ?_)))

theorem State.declared_sound {E : List Part} {base : State} (hE : [Part.objects, Part.recorder, Part.alarms, Part.diag] ⊆ E) (s : State) (code inst : Nat)
    (fine : Sound E base s) :
    Sound E base (State.declared s code inst) := by
  have h_diag : Part.diag ∈ E := hE (by decide)
  have k0 : [Part.objects] ⊆ E := List.Subset.trans (by decide) hE
  have k1 : [Part.objects, Part.recorder, Part.alarms] ⊆ E := List.Subset.trans (by decide) hE
  unfold State.declared
  (try dsimp only)
  repeat' (first
    | (with_reducible assumption)
    | ((with_reducible apply State.setObj_sound k0))
    | ((with_reducible apply State.unalarm_sound k1))
    | (with_reducible refine sound_ite (fun _ => ?_) (fun _ => ?_))
    | (with_reducible refine sound_foldl (fun s x h => ?_) ?_)
    | (fail_if_no_progress with_reducible refine Sound.upd_diagn h_diag _ ?_))

theorem State.declaredFree_sound {E : List Part} {base : State} (hE : [Part.objects, Part.diag, Part.free] ⊆ E) (s : State) (code inst : Nat)
    (fine : Sound E base s) :
    Sound E base (State.declaredFree s code inst) := by
  have h_diag : Part.diag ∈ E := hE (by decide)
  have k0 : [Part.free] ⊆ E := List.Subset.trans (by decide) hE
  have k1 : [Part.objects] ⊆ E := List.Subset.trans (by decide) hE
  unfold State.declaredFree
  (try dsimp only)
  repeat' (first
    | (with_reducible assumption)
    | ((with_reducible apply State.free_sound k0))
    | ((with_reducible apply State.setObj_sound k1))
    | (with_reducible refine sound_ite (fun _ => ?_) (fun _ => ?_))
    | (with_reducible refine sound_foldl (fun s x h => ?_) ?_)
    | (fail_if_no_progress with_reducible refine Sound.upd_diagn h_diag _ ?_))

theorem State.spoilCrc_sound {E : List Part} {base : State} (hE : [Part.objects, Part.diag, Part.wires, Part.free] ⊆ E) (s : State) (code inst : Nat)
    (fine : Sound E base s) :
    Sound E base (State.spoilCrc s code inst) := by
  have h_diag : Part.diag ∈ E := hE (by decide)
  have k0 : [Part.wires] ⊆ E := List.Subset.trans (by decide) hE
  have k1 : [Part.objects, Part.diag, Part.free] ⊆ E := List.Subset.trans (by decide) hE
  unfold State.spoilCrc
  (try dsimp only)
  repeat' (first
    | (with_reducible assumption)
    | ((with_reducible apply State.tell_sound k0))
    | ((with_reducible apply State.declaredFree_sound k1))
    | (with_reducible refine sound_ite (fun _ => ?_) (fun _ => ?_))
    | (with_reducible refine sound_foldl (fun s x h => ?_) ?_)
    | (fail_if_no_progress with_reducible refine Sound.upd_diagn h_diag _ ?_))

theorem State.endInjection_sound {E : List Part} {base : State} (hE : [Part.objects, Part.diag] ⊆ E) (s : State)
    (fine : Sound E base s) :
    Sound E base (State.endInjection s) := by
  have h_diag : Part.diag ∈ E := hE (by decide)
  have k0 : [Part.objects] ⊆ E := List.Subset.trans (by decide) hE
  unfold State.endInjection
  (try dsimp only)
  repeat' (first
    | (with_reducible assumption)
    | ((with_reducible apply State.setObj_sound k0))
    | (with_reducible refine sound_ite (fun _ => ?_) (fun _ => ?_))
    | (with_reducible refine sound_foldl (fun s x h => ?_) ?_)
    | (fail_if_no_progress with_reducible refine Sound.upd_diagn h_diag _ ?_))

theorem State.modTest_sound {E : List Part} {base : State} (hE : [Part.diag] ⊆ E) (s : State) (l : Nat) (f : LinkTest → LinkTest)
    (fine : Sound E base s) :
    Sound E base (State.modTest s l f) := by
  have h_diag : Part.diag ∈ E := hE (by decide)
  unfold State.modTest
  (try dsimp only)
  repeat' (first
    | (with_reducible assumption)
    | (with_reducible refine sound_ite (fun _ => ?_) (fun _ => ?_))
    | (with_reducible refine sound_foldl (fun s x h => ?_) ?_)
    | (fail_if_no_progress with_reducible refine Sound.upd_diagn h_diag _ ?_))

theorem State.finishTest_sound {E : List Part} {base : State} (hE : [Part.objects, Part.recorder, Part.diag] ⊆ E) (s : State) (l st : Nat)
    (fine : Sound E base s) :
    Sound E base (State.finishTest s l st) := by
  have k0 : [Part.objects] ⊆ E := List.Subset.trans (by decide) hE
  have k1 : [Part.diag] ⊆ E := List.Subset.trans (by decide) hE
  have k2 : [Part.objects, Part.recorder] ⊆ E := List.Subset.trans (by decide) hE
  unfold State.finishTest
  (try dsimp only)
  repeat' (first
    | (with_reducible assumption)
    | ((with_reducible apply State.setObjs_sound k0))
    | ((with_reducible apply State.modTest_sound k1))
    | ((with_reducible apply State.setBit_sound k0))
    | ((with_reducible apply State.event_sound k2))
    | (with_reducible refine sound_ite (fun _ => ?_) (fun _ => ?_)))

theorem State.recheckTests_sound {E : List Part} {base : State} (hE : [Part.objects, Part.recorder, Part.diag] ⊆ E) (s : State)
    (fine : Sound E base s) :
    Sound E base (State.recheckTests s) := by
  have k0 : [Part.objects, Part.recorder, Part.diag] ⊆ E := List.Subset.trans (by decide) hE
  unfold State.recheckTests
  repeat' (first
    | (with_reducible assumption)
    | ((with_reducible apply State.finishTest_sound k0))
    | (with_reducible refine sound_ite (fun _ => ?_) (fun _ => ?_))
    | (with_reducible refine sound_foldl (fun s x h => ?_) ?_))

theorem State.sendOd_sound {E : List Part} {base : State} (hE : [Part.ring, Part.wires] ⊆ E) (s : State) (c : Client) (b : List Byte)
    (fine : Sound E base s) :
    Sound E base (State.sendOd s c b) := by
  have h_ring : Part.ring ∈ E := hE (by decide)
  have k0 : [Part.wires] ⊆ E := List.Subset.trans (by decide) hE
  unfold State.sendOd
  (try dsimp only)
  repeat' (first
    | (with_reducible assumption)
    | ((with_reducible apply State.tell_sound k0))
    | (with_reducible refine sound_ite (fun _ => ?_) (fun _ => ?_))
    | (with_reducible refine sound_foldl (fun s x h => ?_) ?_)
    | (fail_if_no_progress with_reducible refine Sound.upd_ring h_ring _ ?_)
    | (dsimp only)
    | (split))

theorem State.answer_sound {E : List Part} {base : State} (hE : [Part.power, Part.clock, Part.objects, Part.blobs, Part.held, Part.dict, Part.recorder, Part.pair, Part.alarms, Part.mram, Part.tap, Part.ctl, Part.ring, Part.srv, Part.saf, Part.net, Part.diag, Part.user, Part.wires, Part.free] ⊆ E) (s : State) (c : Client) (key : Nat) (r : Reply)
    (fine : Sound E base s) :
    Sound E base (State.answer s c key r) := by
  have h_dict : Part.dict ∈ E := hE (by decide)
  have k0 : [Part.wires] ⊆ E := List.Subset.trans (by decide) hE
  have k1 : [Part.power, Part.clock, Part.objects, Part.blobs, Part.held, Part.dict, Part.recorder, Part.pair, Part.alarms, Part.mram, Part.tap, Part.ctl, Part.ring, Part.srv, Part.saf, Part.net, Part.diag, Part.user, Part.wires, Part.free] ⊆ E := List.Subset.trans (by decide) hE
  have k2 : [Part.power, Part.objects, Part.recorder, Part.alarms, Part.ctl] ⊆ E := List.Subset.trans (by decide) hE
  have k3 : [Part.ring, Part.wires] ⊆ E := List.Subset.trans (by decide) hE
  unfold State.answer
  (try dsimp only)
  repeat' (first
    | (with_reducible assumption)
    | ((with_reducible apply State.tell_sound k0))
    | ((with_reducible apply State.sdo_sound k1))
    | ((with_reducible apply State.request_sound k2))
    | ((with_reducible apply State.sendOd_sound k3))
    | (with_reducible refine sound_ite (fun _ => ?_) (fun _ => ?_))
    | (with_reducible refine sound_foldl (fun s x h => ?_) ?_)
    | (fail_if_no_progress with_reducible refine Sound.upd_dict h_dict _ ?_)
    | (dsimp only)
    | (split))

theorem State.twSend_sound {E : List Part} {base : State} (hE : [Part.objects, Part.pair, Part.diag, Part.wires, Part.free] ⊆ E) (s : State) (kind : TwKind) (data : List Int)
    (fine : Sound E base s) :
    Sound E base (State.twSend s kind data) := by
  have h_pair : Part.pair ∈ E := hE (by decide)
  have k0 : [Part.free] ⊆ E := List.Subset.trans (by decide) hE
  have k1 : [Part.objects] ⊆ E := List.Subset.trans (by decide) hE
  have k2 : [Part.wires] ⊆ E := List.Subset.trans (by decide) hE
  have k3 : [Part.objects, Part.diag, Part.wires, Part.free] ⊆ E := List.Subset.trans (by decide) hE
  unfold State.twSend
  (try dsimp only)
  repeat' (first
    | (with_reducible assumption)
    | ((with_reducible apply State.free_sound k0))
    | ((with_reducible apply State.setObj_sound k1))
    | ((with_reducible apply State.tell_sound k2))
    | ((with_reducible apply State.spoilCrc_sound k3))
    | (with_reducible refine sound_ite (fun _ => ?_) (fun _ => ?_))
    | (with_reducible refine sound_foldl (fun s x h => ?_) ?_)
    | (fail_if_no_progress with_reducible refine Sound.upd_pair h_pair _ ?_ rfl))

theorem State.commitInput_sound {E : List Part} {base : State} (hE : [Part.objects, Part.pair, Part.diag, Part.wires, Part.free] ⊆ E) (s : State) (source stamp : Nat) (data : List Byte)
    (fine : Sound E base s) :
    Sound E base (State.commitInput s source stamp data) := by
  have h_pair : Part.pair ∈ E := hE (by decide)
  have k0 : [Part.objects, Part.pair, Part.diag, Part.wires, Part.free] ⊆ E := List.Subset.trans (by decide) hE
  unfold State.commitInput
  (try dsimp only)
  repeat' (first
    | (with_reducible assumption)
    | ((with_reducible apply State.twSend_sound k0))
    | (with_reducible refine sound_ite (fun _ => ?_) (fun _ => ?_))
    | (with_reducible refine sound_foldl (fun s x h => ?_) ?_)
    | (fail_if_no_progress with_reducible refine Sound.upd_pair h_pair _ ?_ rfl))

theorem State.nameInput_sound {E : List Part} {base : State} (hE : [Part.pair] ⊆ E) (s : State)
    (fine : Sound E base s) :
    Sound E base (State.nameInput s) := by
  have h_pair : Part.pair ∈ E := hE (by decide)
  unfold State.nameInput
  (try dsimp only)
  repeat' (first
    | (with_reducible assumption)
    | (with_reducible refine sound_ite (fun _ => ?_) (fun _ => ?_))
    | (with_reducible refine sound_foldl (fun s x h => ?_) ?_)
    | (fail_if_no_progress with_reducible refine Sound.upd_pair h_pair _ ?_ rfl))

theorem State.prunePool_sound {E : List Part} {base : State} (hE : [Part.pair] ⊆ E) (s : State)
    (fine : Sound E base s) :
    Sound E base (State.prunePool s) := by
  have h_pair : Part.pair ∈ E := hE (by decide)
  unfold State.prunePool
  (try dsimp only)
  repeat' (first
    | (with_reducible assumption)
    | (with_reducible refine sound_ite (fun _ => ?_) (fun _ => ?_))
    | (with_reducible refine sound_foldl (fun s x h => ?_) ?_)
    | (fail_if_no_progress with_reducible refine Sound.upd_pair h_pair _ ?_ rfl))

theorem State.modRx_sound {E : List Part} {base : State} (hE : [Part.intake] ⊆ E) (s : State) (n : Nat) (f : RxPort → RxPort)
    (fine : Sound E base s) :
    Sound E base (State.modRx s n f) := by
  have h_intake : Part.intake ∈ E := hE (by decide)
  unfold State.modRx
  (try dsimp only)
  repeat' (first
    | (with_reducible assumption)
    | (with_reducible refine sound_ite (fun _ => ?_) (fun _ => ?_))
    | (with_reducible refine sound_foldl (fun s x h => ?_) ?_)
    | (fail_if_no_progress with_reducible refine Sound.upd_intake h_intake _ ?_))

theorem State.noteLevel_sound {E : List Part} {base : State} (hE : [Part.objects, Part.recorder, Part.alarms] ⊆ E) (s : State) (n before : Nat)
    (fine : Sound E base s) :
    Sound E base (State.noteLevel s n before) := by
  have k0 : [Part.objects] ⊆ E := List.Subset.trans (by decide) hE
  have k1 : [Part.objects, Part.recorder, Part.alarms] ⊆ E := List.Subset.trans (by decide) hE
  unfold State.noteLevel
  (try dsimp only)
  repeat' (first
    | (with_reducible assumption)
    | ((with_reducible apply State.setObj_sound k0))
    | ((with_reducible apply State.setBit_sound k0))
    | ((with_reducible apply State.count_sound k1))
    | (with_reducible refine sound_ite (fun _ => ?_) (fun _ => ?_)))

theorem State.dropPacket_sound {E : List Part} {base : State} (hE : [Part.objects, Part.recorder, Part.alarms, Part.intake] ⊆ E) (s : State) (n : Nat)
    (fine : Sound E base s) :
    Sound E base (State.dropPacket s n) := by
  have k0 : [Part.objects, Part.recorder, Part.alarms] ⊆ E := List.Subset.trans (by decide) hE
  have k1 : [Part.intake] ⊆ E := List.Subset.trans (by decide) hE
  unfold State.dropPacket
  (try dsimp only)
  repeat' (first
    | (with_reducible assumption)
    | ((with_reducible apply State.count_sound k0))
    | ((with_reducible apply State.modRx_sound k1))
    | ((with_reducible apply State.noteLevel_sound k0))
    | (with_reducible refine sound_ite (fun _ => ?_) (fun _ => ?_)))

theorem State.writeWords_sound {E : List Part} {base : State} (hE : [Part.objects, Part.recorder, Part.alarms, Part.intake, Part.diag] ⊆ E) (s : State) (n : Nat)
    (fine : Sound E base s) :
    Sound E base (State.writeWords s n) := by
  have k0 : [Part.intake] ⊆ E := List.Subset.trans (by decide) hE
  have k1 : [Part.objects] ⊆ E := List.Subset.trans (by decide) hE
  have k2 : [Part.objects, Part.recorder, Part.alarms] ⊆ E := List.Subset.trans (by decide) hE
  have k3 : [Part.objects, Part.recorder, Part.alarms, Part.diag] ⊆ E := List.Subset.trans (by decide) hE
  unfold State.writeWords
  (try dsimp only)
  repeat' (first
    | (with_reducible assumption)
    | ((with_reducible apply State.modRx_sound k0))
    | ((with_reducible apply State.setBit_sound k1))
    | ((with_reducible apply State.count_sound k2))
    | ((with_reducible apply State.declared_sound k3))
    | ((with_reducible apply State.noteLevel_sound k2))
    | (with_reducible refine sound_ite (fun _ => ?_) (fun _ => ?_)))

theorem State.beginPacket_sound {E : List Part} {base : State} (hE : [Part.objects, Part.recorder, Part.alarms, Part.intake, Part.diag] ⊆ E) (s : State) (n : Nat) (chars : List RxChar)
    (fine : Sound E base s) :
    Sound E base (State.beginPacket s n chars) := by
  have k0 : [Part.intake] ⊆ E := List.Subset.trans (by decide) hE
  have k1 : [Part.objects, Part.recorder, Part.alarms] ⊆ E := List.Subset.trans (by decide) hE
  have k2 : [Part.objects, Part.recorder, Part.alarms, Part.intake, Part.diag] ⊆ E := List.Subset.trans (by decide) hE
  unfold State.beginPacket
  (try dsimp only)
  repeat' (first
    | (with_reducible assumption)
    | ((with_reducible apply State.modRx_sound k0))
    | ((with_reducible apply State.count_sound k1))
    | ((with_reducible apply State.writeWords_sound k2))
    | (with_reducible refine sound_ite (fun _ => ?_) (fun _ => ?_)))

theorem State.sentenceChar_sound {E : List Part} {base : State} (hE : [Part.objects, Part.recorder, Part.alarms, Part.intake, Part.diag] ⊆ E) (s : State) (n : Nat) (c : RxChar)
    (fine : Sound E base s) :
    Sound E base (State.sentenceChar s n c) := by
  have k0 : [Part.objects, Part.recorder, Part.alarms, Part.intake, Part.diag] ⊆ E := List.Subset.trans (by decide) hE
  have k1 : [Part.objects, Part.recorder, Part.alarms] ⊆ E := List.Subset.trans (by decide) hE
  have k2 : [Part.intake] ⊆ E := List.Subset.trans (by decide) hE
  have k3 : [Part.objects, Part.recorder, Part.alarms, Part.intake] ⊆ E := List.Subset.trans (by decide) hE
  unfold State.sentenceChar
  (try dsimp only)
  repeat' (first
    | (with_reducible assumption)
    | ((with_reducible apply State.beginPacket_sound k0))
    | ((with_reducible apply State.count_sound k1))
    | ((with_reducible apply State.modRx_sound k2))
    | ((with_reducible apply State.dropPacket_sound k3))
    | ((with_reducible apply State.writeWords_sound k0))
    | (with_reducible refine sound_ite (fun _ => ?_) (fun _ => ?_)))

theorem State.outsideChars_sound {E : List Part} {base : State} (hE : [Part.objects, Part.recorder, Part.alarms] ⊆ E) (s : State) (n : Nat) (cs : List RxChar)
    (fine : Sound E base s) :
    Sound E base (State.outsideChars s n cs) := by
  have k0 : [Part.objects, Part.recorder, Part.alarms] ⊆ E := List.Subset.trans (by decide) hE
  unfold State.outsideChars
  repeat' (first
    | (with_reducible assumption)
    | ((with_reducible apply State.countBy_sound k0)))

theorem State.binaryChar_sound {E : List Part} {base : State} (hE : [Part.objects, Part.recorder, Part.alarms, Part.intake, Part.diag] ⊆ E) (s : State) (n : Nat) (c : RxChar)
    (fine : Sound E base s) :
    Sound E base (State.binaryChar s n c) := by
  have k0 : [Part.objects, Part.recorder, Part.alarms] ⊆ E := List.Subset.trans (by decide) hE
  have k1 : [Part.objects, Part.recorder, Part.alarms, Part.intake, Part.diag] ⊆ E := List.Subset.trans (by decide) hE
  have k2 : [Part.intake] ⊆ E := List.Subset.trans (by decide) hE
  unfold State.binaryChar
  (try dsimp only)
  repeat' (first
    | (with_reducible assumption)
    | ((with_reducible apply State.outsideChars_sound k0))
    | ((with_reducible apply State.beginPacket_sound k1))
    | ((with_reducible apply State.modRx_sound k2))
    | ((with_reducible apply State.writeWords_sound k1))
    | (with_reducible refine sound_ite (fun _ => ?_) (fun _ => ?_))
    | (with_reducible refine sound_foldl (fun s x h => ?_) ?_)
    | (dsimp only)
    | (split))

theorem State.rxChar_sound {E : List Part} {base : State} (hE : [Part.objects, Part.recorder, Part.alarms, Part.intake, Part.diag] ⊆ E) (s : State) (n : Nat) (c : RxChar)
    (fine : Sound E base s) :
    Sound E base (State.rxChar s n c) := by
  have k0 : [Part.intake] ⊆ E := List.Subset.trans (by decide) hE
  have k1 : [Part.objects, Part.recorder, Part.alarms, Part.intake, Part.diag] ⊆ E := List.Subset.trans (by decide) hE
  unfold State.rxChar
  (try dsimp only)
  repeat' (first
    | (with_reducible assumption)
    | ((with_reducible apply State.modRx_sound k0))
    | ((with_reducible apply State.sentenceChar_sound k1))
    | ((with_reducible apply State.binaryChar_sound k1))
    | (with_reducible refine sound_ite (fun _ => ?_) (fun _ => ?_))
    | (with_reducible refine sound_foldl (fun s x h => ?_) ?_)
    | (dsimp only)
    | (split))

theorem State.commitPacket_sound {E : List Part} {base : State} (hE : [Part.objects, Part.recorder, Part.pair, Part.alarms, Part.intake, Part.diag, Part.wires, Part.free] ⊆ E) (s : State) (n : Nat)
    (fine : Sound E base s) :
    Sound E base (State.commitPacket s n) := by
  have k0 : [Part.intake] ⊆ E := List.Subset.trans (by decide) hE
  have k1 : [Part.objects, Part.recorder, Part.alarms, Part.intake] ⊆ E := List.Subset.trans (by decide) hE
  have k2 : [Part.objects, Part.recorder, Part.alarms] ⊆ E := List.Subset.trans (by decide) hE
  have k3 : [Part.wires] ⊆ E := List.Subset.trans (by decide) hE
  have k4 : [Part.objects, Part.pair, Part.diag, Part.wires, Part.free] ⊆ E := List.Subset.trans (by decide) hE
  unfold State.commitPacket
  (try dsimp only)
  repeat' (first
    | (with_reducible assumption)
    | ((with_reducible apply State.modRx_sound k0))
    | ((with_reducible apply State.dropPacket_sound k1))
    | ((with_reducible apply State.noteLevel_sound k2))
    | ((with_reducible apply State.count_sound k2))
    | ((with_reducible apply State.tell_sound k3))
    | ((with_reducible apply State.commitInput_sound k4))
    | (with_reducible refine sound_ite (fun _ => ?_) (fun _ => ?_))
    | (with_reducible refine sound_foldl (fun s x h => ?_) ?_)
    | (dsimp only)
    | (split))

theorem State.refeed_sound {E : List Part} {base : State} (hE : [Part.objects, Part.recorder, Part.pair, Part.alarms, Part.intake, Part.diag, Part.wires, Part.free] ⊆ E) (s : State) (n fuel : Nat) (l : List RxChar) (fine : Sound E base s) : Sound E base (State.refeed s n fuel l) := by -- apply
  have k0 : [Part.objects, Part.recorder, Part.alarms, Part.intake, Part.diag] ⊆ E := List.Subset.trans (by decide) hE
  have k1 : [Part.objects, Part.recorder, Part.alarms, Part.intake] ⊆ E := List.Subset.trans (by decide) hE
  have k2 : [Part.objects, Part.recorder, Part.pair, Part.alarms, Part.intake, Part.diag, Part.wires, Part.free] ⊆ E := List.Subset.trans (by decide) hE
  induction fuel generalizing s l with
  | zero => exact fine
  | succ k ih =>
    cases l with
    | nil => exact fine
    | cons c l =>
      unfold State.refeed
      dsimp only
      have h1 := State.rxChar_sound k0 s n c fine
      split
      · exact ih _ _ (State.dropPacket_sound k1 _ _ h1)
      · exact ih _ _ (State.commitPacket_sound k2 _ _ h1)
      · exact ih _ _ h1

theorem State.discardPacket_sound {E : List Part} {base : State} (hE : [Part.objects, Part.recorder, Part.pair, Part.alarms, Part.intake, Part.diag, Part.wires, Part.free] ⊆ E) (s : State) (n : Nat)
    (fine : Sound E base s) :
    Sound E base (State.discardPacket s n) := by
  have k0 : [Part.objects, Part.recorder, Part.alarms, Part.intake] ⊆ E := List.Subset.trans (by decide) hE
  have k1 : [Part.objects, Part.recorder, Part.pair, Part.alarms, Part.intake, Part.diag, Part.wires, Part.free] ⊆ E := List.Subset.trans (by decide) hE
  unfold State.discardPacket
  (try dsimp only)
  repeat' (first
    | (with_reducible assumption)
    | ((with_reducible apply State.dropPacket_sound k0))
    | ((with_reducible apply State.refeed_sound k1))
    | (with_reducible refine sound_ite (fun _ => ?_) (fun _ => ?_)))

theorem State.settlePacket_sound {E : List Part} {base : State} (hE : [Part.objects, Part.recorder, Part.pair, Part.alarms, Part.intake, Part.diag, Part.wires, Part.free] ⊆ E) (s : State) (n : Nat)
    (fine : Sound E base s) :
    Sound E base (State.settlePacket s n) := by
  have k0 : [Part.objects, Part.recorder, Part.pair, Part.alarms, Part.intake, Part.diag, Part.wires, Part.free] ⊆ E := List.Subset.trans (by decide) hE
  unfold State.settlePacket
  repeat' (first
    | (with_reducible assumption)
    | ((with_reducible apply State.commitPacket_sound k0))
    | ((with_reducible apply State.discardPacket_sound k0))
    | (with_reducible refine sound_ite (fun _ => ?_) (fun _ => ?_))
    | (with_reducible refine sound_foldl (fun s x h => ?_) ?_)
    | (dsimp only)
    | (split))

theorem State.expirePacket_sound {E : List Part} {base : State} (hE : [Part.objects, Part.recorder, Part.pair, Part.alarms, Part.intake, Part.diag, Part.wires, Part.free] ⊆ E) (s : State) (n fuel : Nat) (fine : Sound E base s) : Sound E base (State.expirePacket s n fuel) := by -- apply
  have k0 : [Part.objects, Part.recorder, Part.pair, Part.alarms, Part.intake, Part.diag, Part.wires, Part.free] ⊆ E := List.Subset.trans (by decide) hE
  induction fuel generalizing s with
  | zero => exact fine
  | succ k ih =>
    unfold State.expirePacket
    apply sound_ite <;> intro _
    · exact ih _ (State.discardPacket_sound k0 _ _ fine)
    · exact fine

theorem State.takePacket_sound {E : List Part} {base : State} (hE : [Part.objects, Part.recorder, Part.alarms, Part.intake] ⊆ E) (s : State) (n : Nat) (fine : Sound E base s) (w : List Nat) (k : PacketMark) (s' : State)
    (h : State.takePacket s n = some (w, k, s')) : Sound E base s' := by
  have k0 : [Part.intake] ⊆ E := List.Subset.trans (by decide) hE
  have k1 : [Part.objects] ⊆ E := List.Subset.trans (by decide) hE
  have k2 : [Part.objects, Part.recorder, Part.alarms] ⊆ E := List.Subset.trans (by decide) hE
  unfold State.takePacket at h
  dsimp only at h
  split at h
  · cases h
  · cases h
    apply State.noteLevel_sound k2
    apply State.setBit_sound k1
    apply State.modRx_sound k0
    exact fine

theorem State.modChain_sound {E : List Part} {base : State} (hE : [Part.intake] ⊆ E) (s : State) (c : Nat) (f : Chain → Chain)
    (fine : Sound E base s) :
    Sound E base (State.modChain s c f) := by
  have h_intake : Part.intake ∈ E := hE (by decide)
  unfold State.modChain
  (try dsimp only)
  repeat' (first
    | (with_reducible assumption)
    | (with_reducible refine sound_ite (fun _ => ?_) (fun _ => ?_))
    | (with_reducible refine sound_foldl (fun s x h => ?_) ?_)
    | (fail_if_no_progress with_reducible refine Sound.upd_intake h_intake _ ?_))

theorem State.chainRestart_sound {E : List Part} {base : State} (hE : [Part.objects, Part.recorder, Part.alarms, Part.intake] ⊆ E) (s : State) (c : Nat)
    (fine : Sound E base s) :
    Sound E base (State.chainRestart s c) := by
  have k0 : [Part.intake] ⊆ E := List.Subset.trans (by decide) hE
  have k1 : [Part.objects] ⊆ E := List.Subset.trans (by decide) hE
  have k2 : [Part.objects, Part.recorder, Part.alarms] ⊆ E := List.Subset.trans (by decide) hE
  unfold State.chainRestart
  (try dsimp only)
  repeat' (first
    | (with_reducible assumption)
    | ((with_reducible apply State.modChain_sound k0))
    | ((with_reducible apply State.setBit_sound k1))
    | ((with_reducible apply State.count_sound k2))
    | (with_reducible refine sound_ite (fun _ => ?_) (fun _ => ?_)))

theorem State.thresholdChange_sound {E : List Part} {base : State} (hE : [Part.objects, Part.recorder, Part.alarms, Part.diag] ⊆ E) (s : State) (c k : Nat) (was now : Bool)
    (fine : Sound E base s) :
    Sound E base (State.thresholdChange s c k was now) := by
  have k0 : [Part.objects] ⊆ E := List.Subset.trans (by decide) hE
  have k1 : [Part.objects, Part.recorder, Part.alarms] ⊆ E := List.Subset.trans (by decide) hE
  have k2 : [Part.objects, Part.recorder, Part.alarms, Part.diag] ⊆ E := List.Subset.trans (by decide) hE
  have k3 : [Part.objects, Part.recorder] ⊆ E := List.Subset.trans (by decide) hE
  unfold State.thresholdChange
  (try dsimp only)
  repeat' (first
    | (with_reducible assumption)
    | ((with_reducible apply State.setBit_sound k0))
    | ((with_reducible apply State.count_sound k1))
    | ((with_reducible apply State.declared_sound k2))
    | ((with_reducible apply State.event_sound k3))
    | (with_reducible refine sound_ite (fun _ => ?_) (fun _ => ?_)))

theorem State.chainWord_sound {E : List Part} {base : State} (hE : [Part.objects, Part.recorder, Part.alarms, Part.intake, Part.diag] ⊆ E) (s : State) (c : Nat) (stamp : Nat) (y : Int)
    (fine : Sound E base s) :
    Sound E base (State.chainWord s c stamp y) := by
  have k0 : [Part.objects] ⊆ E := List.Subset.trans (by decide) hE
  have k1 : [Part.objects, Part.recorder, Part.alarms] ⊆ E := List.Subset.trans (by decide) hE
  have k2 : [Part.intake] ⊆ E := List.Subset.trans (by decide) hE
  have k3 : [Part.objects, Part.recorder, Part.alarms, Part.diag] ⊆ E := List.Subset.trans (by decide) hE
  unfold State.chainWord
  (try dsimp only)
  repeat' (first
    | (with_reducible assumption)
    | ((with_reducible apply State.setObj_sound k0))
    | ((with_reducible apply State.setBit_sound k0))
    | ((with_reducible apply State.count_sound k1))
    | ((with_reducible apply State.modChain_sound k2))
    | ((with_reducible apply State.thresholdChange_sound k3))
    | (with_reducible refine sound_ite (fun _ => ?_) (fun _ => ?_)))

theorem State.chainClockOut_sound {E : List Part} {base : State} (hE : [Part.objects, Part.intake] ⊆ E) (s : State) (c : Nat) (present : Bool)
    (fine : Sound E base s) :
    Sound E base (State.chainClockOut s c present) := by
  have k0 : [Part.intake] ⊆ E := List.Subset.trans (by decide) hE
  have k1 : [Part.objects] ⊆ E := List.Subset.trans (by decide) hE
  unfold State.chainClockOut
  (try dsimp only)
  repeat' (first
    | (with_reducible assumption)
    | ((with_reducible apply State.modChain_sound k0))
    | ((with_reducible apply State.setBit_sound k1)))

theorem State.intakeApplied_sound {E : List Part} {base : State} (hE : [Part.objects, Part.recorder, Part.alarms, Part.intake] ⊆ E) (s : State) (i sub : Nat) (old new : Int)
    (fine : Sound E base s) :
    Sound E base (State.intakeApplied s i sub old new) := by
  have k0 : [Part.intake] ⊆ E := List.Subset.trans (by decide) hE
  have k1 : [Part.objects] ⊆ E := List.Subset.trans (by decide) hE
  have k2 : [Part.objects, Part.recorder, Part.alarms] ⊆ E := List.Subset.trans (by decide) hE
  have k3 : [Part.objects, Part.recorder, Part.alarms, Part.intake] ⊆ E := List.Subset.trans (by decide) hE
  unfold State.intakeApplied
  (try dsimp only)
  repeat' (first
    | (with_reducible assumption)
    | ((with_reducible apply State.modRx_sound k0))
    | ((with_reducible apply State.setBit_sound k1))
    | ((with_reducible apply State.noteLevel_sound k2))
    | ((with_reducible apply State.chainRestart_sound k3))
    | ((with_reducible apply State.modChain_sound k0))
    | (with_reducible refine sound_ite (fun _ => ?_) (fun _ => ?_)))

theorem State.modSrc_sound {E : List Part} {base : State} (hE : [Part.align] ⊆ E) (s : State) (k : Nat) (f : Source → Source)
    (fine : Sound E base s) :
    Sound E base (State.modSrc s k f) := by
  have h_align : Part.align ∈ E := hE (by decide)
  unfold State.modSrc
  (try dsimp only)
  repeat' (first
    | (with_reducible assumption)
    | (with_reducible refine sound_ite (fun _ => ?_) (fun _ => ?_))
    | (with_reducible refine sound_foldl (fun s x h => ?_) ?_)
    | (fail_if_no_progress with_reducible refine Sound.upd_align h_align _ ?_))

theorem State.modSlot_sound {E : List Part} {base : State} (hE : [Part.align] ⊆ E) (s : State) (n : Nat) (f : TestRun → TestRun)
    (fine : Sound E base s) :
    Sound E base (State.modSlot s n f) := by
  have h_align : Part.align ∈ E := hE (by decide)
  unfold State.modSlot
  (try dsimp only)
  repeat' (first
    | (with_reducible assumption)
    | (with_reducible refine sound_ite (fun _ => ?_) (fun _ => ?_))
    | (with_reducible refine sound_foldl (fun s x h => ?_) ?_)
    | (fail_if_no_progress with_reducible refine Sound.upd_align h_align _ ?_))

theorem State.showMapping_sound {E : List Part} {base : State} (hE : [Part.objects] ⊆ E) (s : State) (k : Nat) (ts : Int)
    (fine : Sound E base s) :
    Sound E base (State.showMapping s k ts) := by
  have k0 : [Part.objects] ⊆ E := List.Subset.trans (by decide) hE
  unfold State.showMapping
  (try dsimp only)
  repeat' (first
    | (with_reducible assumption)
    | ((with_reducible apply State.setObjs_sound k0)))

theorem State.makeMapping_sound {E : List Part} {base : State} (hE : [Part.objects, Part.align] ⊆ E) (s : State) (k : Nat) (ts : Int) (pairs : List (Int × Int))
    (fine : Sound E base s) :
    Sound E base (State.makeMapping s k ts pairs) := by
  have k0 : [Part.align] ⊆ E := List.Subset.trans (by decide) hE
  have k1 : [Part.objects] ⊆ E := List.Subset.trans (by decide) hE
  unfold State.makeMapping
  (try dsimp only)
  repeat' (first
    | (with_reducible assumption)
    | ((with_reducible apply State.modSrc_sound k0))
    | ((with_reducible apply State.setObj_sound k1))
    | ((with_reducible apply State.showMapping_sound k1)))

theorem State.ownTimeSample_sound {E : List Part} {base : State} (hE : [Part.objects, Part.recorder, Part.alarms, Part.align] ⊆ E) (s : State) (k : Nat) (ta ts : Int)
    (fine : Sound E base s) :
    Sound E base (State.ownTimeSample s k ta ts).2 := by
  have k0 : [Part.align] ⊆ E := List.Subset.trans (by decide) hE
  have k1 : [Part.objects] ⊆ E := List.Subset.trans (by decide) hE
  have k2 : [Part.objects, Part.recorder, Part.alarms] ⊆ E := List.Subset.trans (by decide) hE
  have k3 : [Part.objects, Part.align] ⊆ E := List.Subset.trans (by decide) hE
  unfold State.ownTimeSample
  (try dsimp only)
  repeat' (first
    | (with_reducible assumption)
    | ((with_reducible apply State.modSrc_sound k0))
    | ((with_reducible apply State.setObj_sound k1))
    | ((with_reducible apply State.count_sound k2))
    | ((with_reducible apply State.showMapping_sound k1))
    | ((with_reducible apply State.makeMapping_sound k3))
    | (with_reducible refine sound_ite (fun _ => ?_) (fun _ => ?_))
    | (with_reducible refine sound_foldl (fun s x h => ?_) ?_)
    | (with_reducible refine sound_foldl2 (fun s x h => ?_) ?_)
    | (with_reducible refine sound_foldl3 (fun s x h => ?_) ?_)
    | (dsimp only)
    | (split))

theorem State.deliver_sound {E : List Part} {base : State} (hE : [Part.objects, Part.recorder, Part.alarms, Part.align] ⊆ E) (s : State) (a : Sample)
    (fine : Sound E base s) :
    Sound E base (State.deliver s a) := by
  have k0 : [Part.objects, Part.recorder, Part.alarms] ⊆ E := List.Subset.trans (by decide) hE
  have k1 : [Part.align] ⊆ E := List.Subset.trans (by decide) hE
  unfold State.deliver
  (try dsimp only)
  repeat' (first
    | (with_reducible assumption)
    | ((with_reducible apply State.count_sound k0))
    | ((with_reducible apply State.modSrc_sound k1))
    | (with_reducible refine sound_ite (fun _ => ?_) (fun _ => ?_)))

theorem State.deliverMapped_sound {E : List Part} {base : State} (hE : [Part.objects, Part.recorder, Part.alarms, Part.align] ⊆ E) (s : State) (n : Nat) (instant : Int) (vals : List Int) (sigma : Option Nat)
    (fine : Sound E base s) :
    Sound E base (State.deliverMapped s n instant vals sigma) := by
  have k0 : [Part.objects] ⊆ E := List.Subset.trans (by decide) hE
  have k1 : [Part.objects, Part.recorder, Part.alarms, Part.align] ⊆ E := List.Subset.trans (by decide) hE
  unfold State.deliverMapped
  repeat' (first
    | (with_reducible assumption)
    | ((with_reducible apply State.setObj_sound k0))
    | ((with_reducible apply State.deliver_sound k1))
    | (with_reducible refine sound_ite (fun _ => ?_) (fun _ => ?_)))

theorem State.slotTo_sound {E : List Part} {base : State} (hE : [Part.objects, Part.recorder, Part.alarms, Part.align] ⊆ E) (s : State) (n st : Nat)
    (fine : Sound E base s) :
    Sound E base (State.slotTo s n st) := by
  have k0 : [Part.objects] ⊆ E := List.Subset.trans (by decide) hE
  have k1 : [Part.objects, Part.recorder, Part.alarms] ⊆ E := List.Subset.trans (by decide) hE
  have k2 : [Part.objects, Part.recorder] ⊆ E := List.Subset.trans (by decide) hE
  have k3 : [Part.align] ⊆ E := List.Subset.trans (by decide) hE
  unfold State.slotTo
  (try dsimp only)
  repeat' (first
    | (with_reducible assumption)
    | ((with_reducible apply State.setObj_sound k0))
    | ((with_reducible apply State.count_sound k1))
    | ((with_reducible apply State.alarm_sound k1))
    | ((with_reducible apply State.event_sound k2))
    | ((with_reducible apply State.unalarm_sound k1))
    | ((with_reducible apply State.modSlot_sound k3))
    | (with_reducible refine sound_ite (fun _ => ?_) (fun _ => ?_)))

theorem State.excludeDue_sound {E : List Part} {base : State} (hE : [Part.objects, Part.recorder, Part.alarms, Part.align] ⊆ E) (s : State) (source : Nat)
    (fine : Sound E base s) :
    Sound E base (State.excludeDue s source) := by
  have k0 : [Part.objects] ⊆ E := List.Subset.trans (by decide) hE
  have k1 : [Part.objects, Part.recorder, Part.alarms] ⊆ E := List.Subset.trans (by decide) hE
  have k2 : [Part.objects, Part.recorder] ⊆ E := List.Subset.trans (by decide) hE
  have k3 : [Part.align] ⊆ E := List.Subset.trans (by decide) hE
  have k4 : [Part.objects, Part.recorder, Part.alarms, Part.align] ⊆ E := List.Subset.trans (by decide) hE
  unfold State.excludeDue
  (try dsimp only)
  repeat' (first
    | (with_reducible assumption)
    | ((with_reducible apply State.setObj_sound k0))
    | ((with_reducible apply State.alarm_sound k1))
    | ((with_reducible apply State.event_sound k2))
    | ((with_reducible apply State.modSrc_sound k3))
    | ((with_reducible apply State.slotTo_sound k4))
    | (with_reducible refine sound_ite (fun _ => ?_) (fun _ => ?_))
    | (with_reducible refine sound_foldl (fun s x h => ?_) ?_)
    | (dsimp only)
    | (split))

theorem State.serialSample_sound {E : List Part} {base : State} (hE : [Part.objects, Part.recorder, Part.alarms, Part.align] ⊆ E) (s : State) (k : Nat) (p : PacketIn) (d : Decoded)
    (fine : Sound E base s) :
    Sound E base (State.serialSample s k p d) := by
  have k0 : [Part.objects, Part.recorder, Part.alarms, Part.align] ⊆ E := List.Subset.trans (by decide) hE
  have k1 : [Part.objects, Part.recorder, Part.alarms] ⊆ E := List.Subset.trans (by decide) hE
  have k2 : [Part.objects] ⊆ E := List.Subset.trans (by decide) hE
  unfold State.serialSample
  (try dsimp only)
  repeat' (first
    | (with_reducible assumption)
    | ((with_reducible apply State.excludeDue_sound k0))
    | ((with_reducible apply State.count_sound k1))
    | ((with_reducible apply State.setObj_sound k2))
    | ((with_reducible apply State.ownTimeSample_sound k0))
    | ((with_reducible apply State.deliver_sound k0))
    | (with_reducible refine sound_ite (fun _ => ?_) (fun _ => ?_))
    | (with_reducible refine sound_foldl (fun s x h => ?_) ?_)
    | (dsimp only)
    | (refine sound_snd (by assumption) ?_)
    | (refine sound_fst (by assumption) ?_)
    | (refine sound_thd (by assumption) ?_)
    | (split))

theorem State.takesCopy_sound {E : List Part} {base : State} (hE : [Part.align] ⊆ E) (s : State) (k port : Nat) (ownCopy : Bool)
    (fine : Sound E base s) :
    Sound E base (State.takesCopy s k port ownCopy).2 := by
  have k0 : [Part.align] ⊆ E := List.Subset.trans (by decide) hE
  unfold State.takesCopy
  (try dsimp only)
  repeat' (first
    | (with_reducible assumption)
    | ((with_reducible apply State.modSrc_sound k0))
    | (with_reducible refine sound_ite (fun _ => ?_) (fun _ => ?_))
    | (with_reducible refine sound_foldl (fun s x h => ?_) ?_)
    | (with_reducible refine sound_foldl2 (fun s x h => ?_) ?_)
    | (with_reducible refine sound_foldl3 (fun s x h => ?_) ?_)
    | (dsimp only)
    | (split))

theorem State.targetPacket_sound {E : List Part} {base : State} (hE : [Part.objects, Part.recorder, Part.alarms, Part.align] ⊆ E) (s : State) (i port : Nat) (q : PacketIn)
    (fine : Sound E base s) :
    Sound E base (State.targetPacket s i port q) := by
  have h_align : Part.align ∈ E := hE (by decide)
  have k0 : [Part.objects, Part.recorder, Part.alarms] ⊆ E := List.Subset.trans (by decide) hE
  unfold State.targetPacket
  (try dsimp only)
  repeat' (first
    | (with_reducible assumption)
    | ((with_reducible apply State.count_sound k0))
    | ((with_reducible apply State.countBy_sound k0))
    | (with_reducible refine sound_ite (fun _ => ?_) (fun _ => ?_))
    | (with_reducible refine sound_foldl (fun s x h => ?_) ?_)
    | (fail_if_no_progress with_reducible refine Sound.upd_align h_align _ ?_)
    | (dsimp only)
    | (split))

theorem State.decodePacket_sound {E : List Part} {base : State} (hE : [Part.objects, Part.recorder, Part.alarms, Part.align] ⊆ E) (s : State) (port : Nat) (q : PacketIn) (ownCopy : Bool) (d : Option Decoded)
    (fine : Sound E base s) :
    Sound E base (State.decodePacket s port q ownCopy d) := by
  have k0 : [Part.objects, Part.recorder, Part.alarms, Part.align] ⊆ E := List.Subset.trans (by decide) hE
  have k1 : [Part.align] ⊆ E := List.Subset.trans (by decide) hE
  unfold State.decodePacket
  (try dsimp only)
  repeat' (first
    | (with_reducible assumption)
    | ((with_reducible apply State.targetPacket_sound k0))
    | ((with_reducible apply State.takesCopy_sound k1))
    | ((with_reducible apply State.serialSample_sound k0))
    | (with_reducible refine sound_ite (fun _ => ?_) (fun _ => ?_))
    | (with_reducible refine sound_foldl (fun s x h => ?_) ?_)
    | (dsimp only)
    | (refine sound_snd (by assumption) ?_)
    | (refine sound_fst (by assumption) ?_)
    | (refine sound_thd (by assumption) ?_)
    | (split))

theorem State.markInput_sound {E : List Part} {base : State} (hE : [Part.pair] ⊆ E) (s : State) (port after : Nat)
    (fine : Sound E base s) :
    Sound E base (State.markInput s port after) := by
  have h_pair : Part.pair ∈ E := hE (by decide)
  unfold State.markInput
  (try dsimp only)
  repeat' (first
    | (with_reducible assumption)
    | (with_reducible refine sound_ite (fun _ => ?_) (fun _ => ?_))
    | (with_reducible refine sound_foldl (fun s x h => ?_) ?_)
    | (fail_if_no_progress with_reducible refine Sound.upd_pair h_pair _ ?_ rfl))

theorem State.unmarkInput_sound {E : List Part} {base : State} (hE : [Part.pair] ⊆ E) (s : State)
    (fine : Sound E base s) :
    Sound E base (State.unmarkInput s) := by
  have h_pair : Part.pair ∈ E := hE (by decide)
  unfold State.unmarkInput
  (try dsimp only)
  repeat' (first
    | (with_reducible assumption)
    | (with_reducible refine sound_ite (fun _ => ?_) (fun _ => ?_))
    | (with_reducible refine sound_foldl (fun s x h => ?_) ?_)
    | (fail_if_no_progress with_reducible refine Sound.upd_pair h_pair _ ?_ rfl))

theorem State.productSlot_sound {E : List Part} {base : State} (hE : [Part.objects, Part.recorder, Part.alarms, Part.align] ⊆ E) (tw : Twin) (which : Nat) (r : SolResult) (s : State) (n : Nat)
    (fine : Sound E base s) :
    Sound E base (State.productSlot tw which r s n) := by
  have k0 : [Part.objects, Part.recorder, Part.alarms, Part.align] ⊆ E := List.Subset.trans (by decide) hE
  unfold State.productSlot
  repeat' (first
    | (with_reducible assumption)
    | ((with_reducible apply State.deliverMapped_sound k0))
    | (with_reducible refine sound_ite (fun _ => ?_) (fun _ => ?_)))

theorem State.productSample_sound {E : List Part} {base : State} (hE : [Part.objects, Part.recorder, Part.alarms, Part.align] ⊆ E) (s : State) (tw : Twin) (which : Nat) (r : SolResult) (fix : Nat)
    (fine : Sound E base s) :
    Sound E base (State.productSample s tw which r fix) := by
  have k0 : [Part.objects, Part.recorder, Part.alarms, Part.align] ⊆ E := List.Subset.trans (by decide) hE
  unfold State.productSample
  repeat' (first
    | (with_reducible assumption)
    | ((with_reducible apply State.productSlot_sound k0))
    | (with_reducible refine sound_ite (fun _ => ?_) (fun _ => ?_))
    | (with_reducible refine sound_foldl (fun s x h => ?_) ?_))

theorem State.readmit_sound {E : List Part} {base : State} (hE : [Part.objects, Part.recorder, Part.alarms, Part.align] ⊆ E) (s : State) (k : Nat)
    (fine : Sound E base s) :
    Sound E base (State.readmit s k) := by
  have k0 : [Part.objects] ⊆ E := List.Subset.trans (by decide) hE
  have k1 : [Part.objects, Part.recorder, Part.alarms] ⊆ E := List.Subset.trans (by decide) hE
  have k2 : [Part.align] ⊆ E := List.Subset.trans (by decide) hE
  have k3 : [Part.objects, Part.recorder, Part.alarms, Part.align] ⊆ E := List.Subset.trans (by decide) hE
  unfold State.readmit
  (try dsimp only)
  repeat' (first
    | (with_reducible assumption)
    | ((with_reducible apply State.setObj_sound k0))
    | ((with_reducible apply State.unalarm_sound k1))
    | ((with_reducible apply State.modSrc_sound k2))
    | ((with_reducible apply State.slotTo_sound k3))
    | (with_reducible refine sound_ite (fun _ => ?_) (fun _ => ?_)))

theorem State.freezeSource_sound {E : List Part} {base : State} (hE : [Part.objects, Part.recorder, Part.alarms, Part.align] ⊆ E) (inc : Sample → Bool) (t0 th : Int) (limited : Bool) (s : State) (k : Nat)
    (fine : Sound E base s) :
    Sound E base (State.freezeSource inc t0 th limited s k).2 := by
  have k0 : [Part.objects, Part.recorder, Part.alarms] ⊆ E := List.Subset.trans (by decide) hE
  have k1 : [Part.align] ⊆ E := List.Subset.trans (by decide) hE
  unfold State.freezeSource
  (try dsimp only)
  repeat' (first
    | (with_reducible assumption)
    | ((with_reducible apply State.count_sound k0))
    | ((with_reducible apply State.countBy_sound k0))
    | ((with_reducible apply State.modSrc_sound k1))
    | (with_reducible refine sound_ite (fun _ => ?_) (fun _ => ?_))
    | (with_reducible refine sound_foldl (fun s x h => ?_) ?_)
    | (with_reducible refine sound_foldl2 (fun s x h => ?_) ?_)
    | (with_reducible refine sound_foldl3 (fun s x h => ?_) ?_)
    | (dsimp only)
    | (split))

theorem State.freeze_sound {E : List Part} {base : State} (hE : [Part.objects, Part.recorder, Part.alarms, Part.align] ⊆ E) (s : State) (t0 : Int) (cut : Option SetCut)
    (fine : Sound E base s) :
    Sound E base (State.freeze s t0 cut) := by
  have h_align : Part.align ∈ E := hE (by decide)
  have k0 : [Part.objects, Part.recorder, Part.alarms, Part.align] ⊆ E := List.Subset.trans (by decide) hE
  have k1 : [Part.objects, Part.recorder, Part.alarms] ⊆ E := List.Subset.trans (by decide) hE
  have k2 : [Part.objects] ⊆ E := List.Subset.trans (by decide) hE
  unfold State.freeze
  (try dsimp only)
  repeat' (first
    | (with_reducible assumption)
    | ((with_reducible apply State.freezeSource_sound k0))
    | ((with_reducible apply State.count_sound k1))
    | ((with_reducible apply State.setObjs_sound k2))
    | (with_reducible refine sound_ite (fun _ => ?_) (fun _ => ?_))
    | (with_reducible refine sound_foldl (fun s x h => ?_) ?_)
    | (with_reducible refine sound_foldl2 (fun s x h => ?_) ?_)
    | (with_reducible refine sound_foldl3 (fun s x h => ?_) ?_)
    | (fail_if_no_progress with_reducible refine Sound.upd_align h_align _ ?_))

theorem State.alignApplied_sound {E : List Part} {base : State} (hE : [Part.objects, Part.recorder, Part.alarms, Part.align] ⊆ E) (s : State) (i sub : Nat) (old new : Int)
    (fine : Sound E base s) :
    Sound E base (State.alignApplied s i sub old new) := by
  have k0 : [Part.align] ⊆ E := List.Subset.trans (by decide) hE
  have k1 : [Part.objects, Part.recorder, Part.alarms, Part.align] ⊆ E := List.Subset.trans (by decide) hE
  have k2 : [Part.objects] ⊆ E := List.Subset.trans (by decide) hE
  unfold State.alignApplied
  (try dsimp only)
  repeat' (first
    | (with_reducible assumption)
    | ((with_reducible apply State.modSlot_sound k0))
    | ((with_reducible apply State.modSrc_sound k0))
    | ((with_reducible apply State.slotTo_sound k1))
    | ((with_reducible apply State.setObj_sound k2))
    | ((with_reducible apply State.readmit_sound k1))
    | ((with_reducible apply State.setObjs_sound k2))
    | (with_reducible refine sound_ite (fun _ => ?_) (fun _ => ?_)))

theorem State.loadImage_sound {E : List Part} {base : State} (hE : [Part.objects, Part.blobs] ⊆ E) (s : State) (g : Image)
    (fine : Sound E base s) :
    Sound E base (State.loadImage s g) := by
  have h_objects : Part.objects ∈ E := hE (by decide)
  have h_blobs : Part.blobs ∈ E := hE (by decide)
  exact ⟨putKeys_ok _ _ (putKeys_ok _ _ (storeWf_filter _ _ _ fine.od')), putBlobs_ok _ _ (storeWf_filter _ _ _ fine.blobs'), fine.ident', fine.tap', fine.mem', fine.power, fine.ident, fine.clock, .inr h_objects, .inr h_blobs, fine.held, fine.dict, fine.recorder, fine.pair, fine.alarms, fine.saturated, fine.mram, fine.tap, fine.gnss, fine.gsol, fine.intake, fine.align, fine.est, fine.trk, fine.ctl, fine.ring, fine.alc, fine.srv, fine.saf, fine.net, fine.panel, fine.diagn, fine.user, fine.out, fine.freeCount⟩

theorem State.settle_sound {E : List Part} {base : State} (hE : [Part.clock, Part.gsol, Part.ctl] ⊆ E) (s : State)
    (fine : Sound E base s) :
    Sound E base (State.settle s) := by
  have h_clock : Part.clock ∈ E := hE (by decide)
  have h_gsol : Part.gsol ∈ E := hE (by decide)
  have h_ctl : Part.ctl ∈ E := hE (by decide)
  unfold State.settle
  (try dsimp only)
  repeat' (first
    | (with_reducible assumption)
    | (with_reducible refine sound_ite (fun _ => ?_) (fun _ => ?_))
    | (with_reducible refine sound_foldl (fun s x h => ?_) ?_)
    | (fail_if_no_progress with_reducible refine Sound.upd_clock_gsol_ctl h_clock h_gsol h_ctl _ ?_))

theorem State.reloadConfig_sound {E : List Part} {base : State} (hE : [Part.clock, Part.objects, Part.blobs, Part.gsol, Part.ctl] ⊆ E) (s : State)
    (fine : Sound E base s) :
    Sound E base (State.reloadConfig s) := by
  have k0 : [Part.objects, Part.blobs] ⊆ E := List.Subset.trans (by decide) hE
  have k1 : [Part.clock, Part.gsol, Part.ctl] ⊆ E := List.Subset.trans (by decide) hE
  unfold State.reloadConfig
  repeat' (first
    | (with_reducible assumption)
    | ((with_reducible apply State.loadImage_sound k0))
    | ((with_reducible apply State.settle_sound k1)))

theorem State.setRho_sound {E : List Part} {base : State} (hE : [Part.objects] ⊆ E) (s : State) (rho : Int)
    (fine : Sound E base s) :
    Sound E base (State.setRho s rho) := by
  have k0 : [Part.objects] ⊆ E := List.Subset.trans (by decide) hE
  unfold State.setRho
  repeat' (first
    | (with_reducible assumption)
    | ((with_reducible apply State.setObj_sound k0)))

theorem State.enterHoldover_sound {E : List Part} {base : State} (hE : [Part.clock, Part.objects] ⊆ E) (s : State)
    (fine : Sound E base s) :
    Sound E base (State.enterHoldover s) := by
  have h_clock : Part.clock ∈ E := hE (by decide)
  have k0 : [Part.objects] ⊆ E := List.Subset.trans (by decide) hE
  unfold State.enterHoldover
  (try dsimp only)
  repeat' (first
    | (with_reducible assumption)
    | ((with_reducible apply State.setRho_sound k0))
    | ((with_reducible apply State.setObjs_sound k0))
    | (with_reducible refine sound_ite (fun _ => ?_) (fun _ => ?_))
    | (with_reducible refine sound_foldl (fun s x h => ?_) ?_)
    | (fail_if_no_progress with_reducible refine Sound.upd_clock h_clock _ ?_))

theorem State.servo_sound {E : List Part} {base : State} (hE : [Part.clock, Part.objects] ⊆ E) (s : State) (source : Nat) (offsetPs : Int)
    (fine : Sound E base s) :
    Sound E base (State.servo s source offsetPs) := by
  have h_clock : Part.clock ∈ E := hE (by decide)
  have k0 : [Part.objects] ⊆ E := List.Subset.trans (by decide) hE
  unfold State.servo
  (try dsimp only)
  repeat' (first
    | (with_reducible assumption)
    | ((with_reducible apply State.setObj_sound k0))
    | ((with_reducible apply State.setRho_sound k0))
    | (with_reducible refine sound_ite (fun _ => ?_) (fun _ => ?_))
    | (with_reducible refine sound_foldl (fun s x h => ?_) ?_)
    | (fail_if_no_progress with_reducible refine Sound.upd_clock h_clock _ ?_)
    | (dsimp only)
    | (split))

theorem State.returnOfSignals_sound {E : List Part} {base : State} (hE : [Part.clock, Part.objects] ⊆ E) (s : State) (source : Nat) (offsetPs : Int) (uncertaintyNs : Nat)
    (fine : Sound E base s) :
    Sound E base (State.returnOfSignals s source offsetPs uncertaintyNs) := by
  have h_clock : Part.clock ∈ E := hE (by decide)
  have k0 : [Part.objects] ⊆ E := List.Subset.trans (by decide) hE
  unfold State.returnOfSignals
  (try dsimp only)
  repeat' (first
    | (with_reducible assumption)
    | ((with_reducible apply State.setObjs_sound k0))
    | ((with_reducible apply State.setObj_sound k0))
    | (with_reducible refine sound_ite (fun _ => ?_) (fun _ => ?_))
    | (with_reducible refine sound_foldl (fun s x h => ?_) ?_)
    | (fail_if_no_progress with_reducible refine Sound.upd_clock h_clock _ ?_))

theorem State.awaitChange_sound {E : List Part} {base : State} (hE : [Part.clock] ⊆ E) (s : State) (c : Option Nat)
    (fine : Sound E base s) :
    Sound E base (State.awaitChange s c) := by
  have h_clock : Part.clock ∈ E := hE (by decide)
  unfold State.awaitChange
  (try dsimp only)
  repeat' (first
    | (with_reducible assumption)
    | (with_reducible refine sound_ite (fun _ => ?_) (fun _ => ?_))
    | (with_reducible refine sound_foldl (fun s x h => ?_) ?_)
    | (fail_if_no_progress with_reducible refine Sound.upd_clock h_clock _ ?_))

theorem State.beFollower_sound {E : List Part} {base : State} (hE : [Part.clock, Part.objects] ⊆ E) (s : State)
    (fine : Sound E base s) :
    Sound E base (State.beFollower s) := by
  have h_clock : Part.clock ∈ E := hE (by decide)
  have k0 : [Part.objects] ⊆ E := List.Subset.trans (by decide) hE
  unfold State.beFollower
  (try dsimp only)
  repeat' (first
    | (with_reducible assumption)
    | ((with_reducible apply State.setObjs_sound k0))
    | (with_reducible refine sound_ite (fun _ => ?_) (fun _ => ?_))
    | (with_reducible refine sound_foldl (fun s x h => ?_) ?_)
    | (fail_if_no_progress with_reducible refine Sound.upd_clock h_clock _ ?_))

theorem State.stepTime_sound {E : List Part} {base : State} (hE : [Part.clock, Part.objects, Part.held, Part.recorder, Part.pair, Part.alarms, Part.gnss, Part.gsol, Part.intake, Part.align, Part.est, Part.trk, Part.ctl, Part.ring, Part.srv, Part.saf, Part.net, Part.user] ⊆ E) (s : State) (amount : Int) (tc ts : Int)
    (fine : Sound E base s) :
    Sound E base (State.stepTime s amount tc ts) := by
  have h_clock : Part.clock ∈ E := hE (by decide)
  have h_held : Part.held ∈ E := hE (by decide)
  have h_recorder : Part.recorder ∈ E := hE (by decide)
  have h_pair : Part.pair ∈ E := hE (by decide)
  have h_gnss : Part.gnss ∈ E := hE (by decide)
  have h_gsol : Part.gsol ∈ E := hE (by decide)
  have h_intake : Part.intake ∈ E := hE (by decide)
  have h_align : Part.align ∈ E := hE (by decide)
  have h_est : Part.est ∈ E := hE (by decide)
  have h_trk : Part.trk ∈ E := hE (by decide)
  have h_ctl : Part.ctl ∈ E := hE (by decide)
  have h_ring : Part.ring ∈ E := hE (by decide)
  have h_srv : Part.srv ∈ E := hE (by decide)
  have h_saf : Part.saf ∈ E := hE (by decide)
  have h_net : Part.net ∈ E := hE (by decide)
  have h_user : Part.user ∈ E := hE (by decide)
  have k0 : [Part.objects, Part.recorder, Part.alarms] ⊆ E := List.Subset.trans (by decide) hE
  have k1 : [Part.objects] ⊆ E := List.Subset.trans (by decide) hE
  have k2 : [Part.objects, Part.recorder] ⊆ E := List.Subset.trans (by decide) hE
  unfold State.stepTime
  (try dsimp only)
  repeat' (first
    | (simpa only [List.all_map, Function.comp_def] using fine.mem')
    | (with_reducible assumption)
    | ((with_reducible apply State.count_sound k0))
    | ((with_reducible apply State.setObj_sound k1))
    | ((with_reducible apply State.event_sound k2))
    | (with_reducible refine sound_ite (fun _ => ?_) (fun _ => ?_))
    | (with_reducible refine sound_foldl (fun s x h => ?_) ?_)
    | (fail_if_no_progress with_reducible refine Sound.upd_clock_held_recorder_pair_gnss_gsol_intake_align_est_trk_ctl_ring_srv_saf_net_user h_clock h_held h_recorder h_pair h_gnss h_gsol h_intake h_align h_est h_trk h_ctl h_ring h_srv h_saf h_net h_user _ ?_ rfl ?_))

theorem State.latchTime_sound {E : List Part} {base : State} (hE : [Part.dict] ⊆ E) (s : State) (c : Client)
    (fine : Sound E base s) :
    Sound E base (State.latchTime s c) := by
  have h_dict : Part.dict ∈ E := hE (by decide)
  unfold State.latchTime
  (try dsimp only)
  repeat' (first
    | (with_reducible assumption)
    | (with_reducible refine sound_ite (fun _ => ?_) (fun _ => ?_))
    | (with_reducible refine sound_foldl (fun s x h => ?_) ?_)
    | (fail_if_no_progress with_reducible refine Sound.upd_dict h_dict _ ?_))

theorem State.stepGrids_sound {E : List Part} {base : State} (hE : [Part.clock, Part.objects, Part.held, Part.recorder, Part.pair, Part.alarms, Part.gnss, Part.gsol, Part.intake, Part.align, Part.est, Part.trk, Part.ctl, Part.ring, Part.srv, Part.saf, Part.net, Part.user] ⊆ E) (s : State) (amount : Int)
    (fine : Sound E base s) :
    Sound E base (State.stepGrids s amount) := by
  have k0 : [Part.clock, Part.objects, Part.held, Part.recorder, Part.pair, Part.alarms, Part.gnss, Part.gsol, Part.intake, Part.align, Part.est, Part.trk, Part.ctl, Part.ring, Part.srv, Part.saf, Part.net, Part.user] ⊆ E := List.Subset.trans (by decide) hE
  unfold State.stepGrids
  repeat' (first
    | (with_reducible assumption)
    | ((with_reducible apply State.stepTime_sound k0)))

theorem State.putUtc_sound {E : List Part} {base : State} (hE : [Part.clock, Part.objects] ⊆ E) (s : State) (taiUtc : Int) (leap : Nat)
    (fine : Sound E base s) :
    Sound E base (State.putUtc s taiUtc leap) := by
  have h_clock : Part.clock ∈ E := hE (by decide)
  have k0 : [Part.objects] ⊆ E := List.Subset.trans (by decide) hE
  unfold State.putUtc
  (try dsimp only)
  repeat' (first
    | (with_reducible assumption)
    | ((with_reducible apply State.setObjs_sound k0))
    | (with_reducible refine sound_ite (fun _ => ?_) (fun _ => ?_))
    | (with_reducible refine sound_foldl (fun s x h => ?_) ?_)
    | (fail_if_no_progress with_reducible refine Sound.upd_clock h_clock _ ?_))

theorem State.loseSource_sound {E : List Part} {base : State} (hE : [Part.clock, Part.objects] ⊆ E) (s : State) (source : Nat)
    (fine : Sound E base s) :
    Sound E base (State.loseSource s source) := by
  have h_clock : Part.clock ∈ E := hE (by decide)
  have k0 : [Part.clock, Part.objects] ⊆ E := List.Subset.trans (by decide) hE
  have k1 : [Part.clock] ⊆ E := List.Subset.trans (by decide) hE
  unfold State.loseSource
  (try dsimp only)
  repeat' (first
    | (with_reducible assumption)
    | ((with_reducible apply State.enterHoldover_sound k0))
    | ((with_reducible apply State.awaitChange_sound k1))
    | (with_reducible refine sound_ite (fun _ => ?_) (fun _ => ?_))
    | (with_reducible refine sound_foldl (fun s x h => ?_) ?_)
    | (fail_if_no_progress with_reducible refine Sound.upd_clock h_clock _ ?_))

theorem State.newGrandmaster_sound {E : List Part} {base : State} (hE : [Part.clock, Part.objects, Part.recorder, Part.alarms] ⊆ E) (s : State) (inst identity : Nat)
    (fine : Sound E base s) :
    Sound E base (State.newGrandmaster s inst identity) := by
  have k0 : [Part.objects] ⊆ E := List.Subset.trans (by decide) hE
  have k1 : [Part.objects, Part.recorder, Part.alarms] ⊆ E := List.Subset.trans (by decide) hE
  have k2 : [Part.clock, Part.objects] ⊆ E := List.Subset.trans (by decide) hE
  unfold State.newGrandmaster
  repeat' (first
    | (with_reducible assumption)
    | ((with_reducible apply State.setObj_sound k0))
    | ((with_reducible apply State.count_sound k1))
    | ((with_reducible apply State.loseSource_sound k2))
    | (with_reducible refine sound_ite (fun _ => ?_) (fun _ => ?_)))

theorem State.leadTime_sound {E : List Part} {base : State} (hE : [Part.clock, Part.objects] ⊆ E) (s : State)
    (fine : Sound E base s) :
    Sound E base (State.leadTime s) := by
  have k0 : [Part.clock, Part.objects] ⊆ E := List.Subset.trans (by decide) hE
  unfold State.leadTime
  (try dsimp only)
  repeat' (first
    | (with_reducible assumption)
    | ((with_reducible apply State.enterHoldover_sound k0))
    | ((with_reducible apply State.returnOfSignals_sound k0))
    | (with_reducible refine sound_ite (fun _ => ?_) (fun _ => ?_))
    | (with_reducible refine sound_foldl (fun s x h => ?_) ?_)
    | (dsimp only)
    | (split))

theorem State.takePps_sound {E : List Part} {base : State} (hE : [Part.clock] ⊆ E) (s : State) (output sec : Nat)
    (fine : Sound E base s) :
    Sound E base (State.takePps s output sec) := by
  have h_clock : Part.clock ∈ E := hE (by decide)
  unfold State.takePps
  (try dsimp only)
  repeat' (first
    | (with_reducible assumption)
    | (with_reducible refine sound_ite (fun _ => ?_) (fun _ => ?_))
    | (with_reducible refine sound_foldl (fun s x h => ?_) ?_)
    | (fail_if_no_progress with_reducible refine Sound.upd_clock h_clock _ ?_))

theorem State.judgePpsQual_sound {E : List Part} {base : State} (hE : [Part.clock, Part.wires] ⊆ E) (s : State)
    (fine : Sound E base s) :
    Sound E base (State.judgePpsQual s) := by
  have h_clock : Part.clock ∈ E := hE (by decide)
  have k0 : [Part.wires] ⊆ E := List.Subset.trans (by decide) hE
  unfold State.judgePpsQual
  (try dsimp only)
  repeat' (first
    | (with_reducible assumption)
    | ((with_reducible apply State.tell_sound k0))
    | (with_reducible refine sound_ite (fun _ => ?_) (fun _ => ?_))
    | (with_reducible refine sound_foldl (fun s x h => ?_) ?_)
    | (fail_if_no_progress with_reducible refine Sound.upd_clock h_clock _ ?_))

theorem State.turnLeap_sound {E : List Part} {base : State} (hE : [Part.objects] ⊆ E) (s : State) (sec : Nat)
    (fine : Sound E base s) :
    Sound E base (State.turnLeap s sec) := by
  have k0 : [Part.objects] ⊆ E := List.Subset.trans (by decide) hE
  unfold State.turnLeap
  (try dsimp only)
  repeat' (first
    | (with_reducible assumption)
    | ((with_reducible apply State.setObjs_sound k0))
    | (with_reducible refine sound_ite (fun _ => ?_) (fun _ => ?_)))

theorem State.timeApplied_sound {E : List Part} {base : State} (hE : [Part.clock, Part.objects] ⊆ E) (s : State) (i sub stamp : Nat) (new : Int)
    (fine : Sound E base s) :
    Sound E base (State.timeApplied s i sub stamp new) := by
  have h_clock : Part.clock ∈ E := hE (by decide)
  have k0 : [Part.clock] ⊆ E := List.Subset.trans (by decide) hE
  have k1 : [Part.clock, Part.objects] ⊆ E := List.Subset.trans (by decide) hE
  unfold State.timeApplied
  (try dsimp only)
  repeat' (first
    | (with_reducible assumption)
    | ((with_reducible apply State.awaitChange_sound k0))
    | ((with_reducible apply State.enterHoldover_sound k1))
    | (with_reducible refine sound_ite (fun _ => ?_) (fun _ => ?_))
    | (with_reducible refine sound_foldl (fun s x h => ?_) ?_)
    | (fail_if_no_progress with_reducible refine Sound.upd_clock h_clock _ ?_)
    | (dsimp only)
    | (split))

theorem State.modPtp_sound {E : List Part} {base : State} (hE : [Part.clock] ⊆ E) (s : State) (inst : Nat) (f : PtpInst → PtpInst)
    (fine : Sound E base s) :
    Sound E base (State.modPtp s inst f) := by
  have h_clock : Part.clock ∈ E := hE (by decide)
  unfold State.modPtp
  (try dsimp only)
  repeat' (first
    | (with_reducible assumption)
    | (with_reducible refine sound_ite (fun _ => ?_) (fun _ => ?_))
    | (with_reducible refine sound_foldl (fun s x h => ?_) ?_)
    | (fail_if_no_progress with_reducible refine Sound.upd_clock h_clock _ ?_))

theorem State.ownOffset_sound {E : List Part} {base : State} (hE : [Part.objects] ⊆ E) (s : State) (n : Nat) (offsetPs : Int)
    (fine : Sound E base s) :
    Sound E base (State.ownOffset s n offsetPs) := by
  have k0 : [Part.objects] ⊆ E := List.Subset.trans (by decide) hE
  unfold State.ownOffset
  repeat' (first
    | (with_reducible assumption)
    | ((with_reducible apply State.setObj_sound k0))
    | (with_reducible refine sound_ite (fun _ => ?_) (fun _ => ?_)))

theorem State.ptpOffset_sound {E : List Part} {base : State} (hE : [Part.clock, Part.objects] ⊆ E) (s : State) (inst : Nat) (t1 t2 : Int)
    (fine : Sound E base s) :
    Sound E base (State.ptpOffset s inst t1 t2) := by
  have h_clock : Part.clock ∈ E := hE (by decide)
  have k0 : [Part.objects] ⊆ E := List.Subset.trans (by decide) hE
  have k1 : [Part.clock] ⊆ E := List.Subset.trans (by decide) hE
  have k2 : [Part.clock, Part.objects] ⊆ E := List.Subset.trans (by decide) hE
  unfold State.ptpOffset
  (try dsimp only)
  repeat' (first
    | (with_reducible assumption)
    | ((with_reducible apply State.setObj_sound k0))
    | ((with_reducible apply State.modPtp_sound k1))
    | ((with_reducible apply State.servo_sound k2))
    | ((with_reducible apply State.ownOffset_sound k0))
    | (with_reducible refine sound_ite (fun _ => ?_) (fun _ => ?_))
    | (with_reducible refine sound_foldl (fun s x h => ?_) ?_)
    | (fail_if_no_progress with_reducible refine Sound.upd_clock h_clock _ ?_))

theorem State.judgeMasters_sound {E : List Part} {base : State} (hE : [Part.clock, Part.objects, Part.recorder, Part.alarms] ⊆ E) (s : State) (inst : Nat)
    (fine : Sound E base s) :
    Sound E base (State.judgeMasters s inst) := by
  have k0 : [Part.clock, Part.objects, Part.recorder, Part.alarms] ⊆ E := List.Subset.trans (by decide) hE
  have k1 : [Part.clock, Part.objects] ⊆ E := List.Subset.trans (by decide) hE
  unfold State.judgeMasters
  repeat' (first
    | (with_reducible assumption)
    | ((with_reducible apply State.newGrandmaster_sound k0))
    | ((with_reducible apply State.loseSource_sound k1))
    | (with_reducible refine sound_ite (fun _ => ?_) (fun _ => ?_))
    | (with_reducible refine sound_foldl (fun s x h => ?_) ?_)
    | (dsimp only)
    | (split))

theorem State.ptpSent_sound {E : List Part} {base : State} (hE : [Part.clock] ⊆ E) (s : State) (inst kind : Nat)
    (fine : Sound E base s) :
    Sound E base (State.ptpSent s inst kind).2 := by
  have k0 : [Part.clock] ⊆ E := List.Subset.trans (by decide) hE
  unfold State.ptpSent
  (try dsimp only)
  repeat' (first
    | (with_reducible assumption)
    | ((with_reducible apply State.modPtp_sound k0)))

theorem State.showChan_sound {E : List Part} {base : State} (hE : [Part.objects] ⊆ E) (s : State) (c : Chan)
    (fine : Sound E base s) :
    Sound E base (State.showChan s c) := by
  have k0 : [Part.objects] ⊆ E := List.Subset.trans (by decide) hE
  unfold State.showChan
  (try dsimp only)
  repeat' (first
    | (with_reducible assumption)
    | ((with_reducible apply State.setObjs_sound k0)))

theorem State.putChan_sound {E : List Part} {base : State} (hE : [Part.objects, Part.gnss] ⊆ E) (s : State) (c : Chan)
    (fine : Sound E base s) :
    Sound E base (State.putChan s c) := by
  have h_gnss : Part.gnss ∈ E := hE (by decide)
  have k0 : [Part.objects] ⊆ E := List.Subset.trans (by decide) hE
  unfold State.putChan
  (try dsimp only)
  repeat' (first
    | (with_reducible assumption)
    | ((with_reducible apply State.showChan_sound k0))
    | (with_reducible refine sound_ite (fun _ => ?_) (fun _ => ?_))
    | (with_reducible refine sound_foldl (fun s x h => ?_) ?_)
    | (fail_if_no_progress with_reducible refine Sound.upd_gnss h_gnss _ ?_))

theorem State.countChans_sound {E : List Part} {base : State} (hE : [Part.objects] ⊆ E) (s : State) (p : Nat)
    (fine : Sound E base s) :
    Sound E base (State.countChans s p) := by
  have k0 : [Part.objects] ⊆ E := List.Subset.trans (by decide) hE
  unfold State.countChans
  repeat' (first
    | (with_reducible assumption)
    | ((with_reducible apply State.setObj_sound k0)))

theorem State.chanOff_sound {E : List Part} {base : State} (hE : [Part.objects, Part.gnss] ⊆ E) (s : State) (i : Nat)
    (fine : Sound E base s) :
    Sound E base (State.chanOff s i) := by
  have h_gnss : Part.gnss ∈ E := hE (by decide)
  have k0 : [Part.objects] ⊆ E := List.Subset.trans (by decide) hE
  unfold State.chanOff
  (try dsimp only)
  repeat' (first
    | (with_reducible assumption)
    | ((with_reducible apply State.setObjs_sound k0))
    | ((with_reducible apply State.countChans_sound k0))
    | (with_reducible refine sound_ite (fun _ => ?_) (fun _ => ?_))
    | (with_reducible refine sound_foldl (fun s x h => ?_) ?_)
    | (fail_if_no_progress with_reducible refine Sound.upd_gnss h_gnss _ ?_)
    | (dsimp only)
    | (refine sound_snd (by assumption) ?_)
    | (refine sound_fst (by assumption) ?_)
    | (refine sound_thd (by assumption) ?_)
    | (split))

theorem State.chansOff_sound {E : List Part} {base : State} (hE : [Part.objects, Part.gnss] ⊆ E) (s : State) (p : Chan → Bool)
    (fine : Sound E base s) :
    Sound E base (State.chansOff s p) := by
  have k0 : [Part.objects, Part.gnss] ⊆ E := List.Subset.trans (by decide) hE
  unfold State.chansOff
  repeat' (first
    | (with_reducible assumption)
    | ((with_reducible apply State.chanOff_sound k0))
    | (with_reducible refine sound_ite (fun _ => ?_) (fun _ => ?_))
    | (with_reducible refine sound_foldl (fun s x h => ?_) ?_))

theorem State.slip_sound {E : List Part} {base : State} (hE : [Part.objects] ⊆ E) (s : State) (c : Chan)
    (fine : Sound E base s) :
    Sound E base (State.slip s c).1 := by
  have k0 : [Part.objects] ⊆ E := List.Subset.trans (by decide) hE
  unfold State.slip
  (try dsimp only)
  repeat' (first
    | (with_reducible assumption)
    | ((with_reducible apply State.setObj_sound k0)))

theorem State.queueJob_sound {E : List Part} {base : State} (hE : [Part.gnss] ⊆ E) (s : State) (cls : JobClass) (i : Nat)
    (fine : Sound E base s) :
    Sound E base (State.queueJob s cls i) := by
  have h_gnss : Part.gnss ∈ E := hE (by decide)
  unfold State.queueJob
  (try dsimp only)
  repeat' (first
    | (with_reducible assumption)
    | (with_reducible refine sound_ite (fun _ => ?_) (fun _ => ?_))
    | (with_reducible refine sound_foldl (fun s x h => ?_) ?_)
    | (fail_if_no_progress with_reducible refine Sound.upd_gnss h_gnss _ ?_))

theorem State.modPort_sound {E : List Part} {base : State} (hE : [Part.gnss] ⊆ E) (s : State) (p : Nat) (f : IfPort → IfPort)
    (fine : Sound E base s) :
    Sound E base (State.modPort s p f) := by
  have h_gnss : Part.gnss ∈ E := hE (by decide)
  unfold State.modPort
  (try dsimp only)
  repeat' (first
    | (with_reducible assumption)
    | (with_reducible refine sound_ite (fun _ => ?_) (fun _ => ?_))
    | (with_reducible refine sound_foldl (fun s x h => ?_) ?_)
    | (fail_if_no_progress with_reducible refine Sound.upd_gnss h_gnss _ ?_))

theorem State.dropBaselines_sound {E : List Part} {base : State} (hE : [Part.objects, Part.gsol] ⊆ E) (s : State) (p : Nat)
    (fine : Sound E base s) :
    Sound E base (State.dropBaselines s p) := by
  have h_gsol : Part.gsol ∈ E := hE (by decide)
  have k0 : [Part.objects] ⊆ E := List.Subset.trans (by decide) hE
  unfold State.dropBaselines
  (try dsimp only)
  repeat' (first
    | (with_reducible assumption)
    | ((with_reducible apply State.setObjs_sound k0))
    | (with_reducible refine sound_ite (fun _ => ?_) (fun _ => ?_))
    | (with_reducible refine sound_foldl (fun s x h => ?_) ?_)
    | (fail_if_no_progress with_reducible refine Sound.upd_gsol h_gsol _ ?_))

theorem State.portFault_sound {E : List Part} {base : State} (hE : [Part.objects, Part.recorder, Part.alarms, Part.gnss, Part.gsol] ⊆ E) (s : State) (p : Nat)
    (fine : Sound E base s) :
    Sound E base (State.portFault s p) := by
  have k0 : [Part.objects, Part.gnss] ⊆ E := List.Subset.trans (by decide) hE
  have k1 : [Part.objects, Part.recorder, Part.alarms] ⊆ E := List.Subset.trans (by decide) hE
  have k2 : [Part.objects, Part.gsol] ⊆ E := List.Subset.trans (by decide) hE
  have k3 : [Part.objects] ⊆ E := List.Subset.trans (by decide) hE
  have k4 : [Part.gnss] ⊆ E := List.Subset.trans (by decide) hE
  have k5 : [Part.objects, Part.recorder] ⊆ E := List.Subset.trans (by decide) hE
  unfold State.portFault
  (try dsimp only)
  repeat' (first
    | (with_reducible assumption)
    | ((with_reducible apply State.chansOff_sound k0))
    | ((with_reducible apply State.count_sound k1))
    | ((with_reducible apply State.dropBaselines_sound k2))
    | ((with_reducible apply State.setBit_sound k3))
    | ((with_reducible apply State.modPort_sound k4))
    | ((with_reducible apply State.alarm_sound k1))
    | ((with_reducible apply State.event_sound k5))
    | (with_reducible refine sound_ite (fun _ => ?_) (fun _ => ?_)))

theorem State.portSearch_sound {E : List Part} {base : State} (hE : [Part.objects, Part.recorder, Part.alarms, Part.gnss] ⊆ E) (s : State) (p : Nat)
    (fine : Sound E base s) :
    Sound E base (State.portSearch s p) := by
  have k0 : [Part.objects] ⊆ E := List.Subset.trans (by decide) hE
  have k1 : [Part.objects, Part.recorder, Part.alarms] ⊆ E := List.Subset.trans (by decide) hE
  have k2 : [Part.gnss] ⊆ E := List.Subset.trans (by decide) hE
  unfold State.portSearch
  (try dsimp only)
  repeat' (first
    | (with_reducible assumption)
    | ((with_reducible apply State.setBit_sound k0))
    | ((with_reducible apply State.unalarm_sound k1))
    | ((with_reducible apply State.modPort_sound k2)))

theorem State.portRestart_sound {E : List Part} {base : State} (hE : [Part.objects, Part.recorder, Part.alarms, Part.gnss] ⊆ E) (s : State) (p : Nat)
    (fine : Sound E base s) :
    Sound E base (State.portRestart s p) := by
  have k0 : [Part.objects, Part.gnss] ⊆ E := List.Subset.trans (by decide) hE
  have k1 : [Part.objects] ⊆ E := List.Subset.trans (by decide) hE
  have k2 : [Part.gnss] ⊆ E := List.Subset.trans (by decide) hE
  have k3 : [Part.objects, Part.recorder, Part.alarms, Part.gnss] ⊆ E := List.Subset.trans (by decide) hE
  unfold State.portRestart
  (try dsimp only)
  repeat' (first
    | (with_reducible assumption)
    | ((with_reducible apply State.chansOff_sound k0))
    | ((with_reducible apply State.setBit_sound k1))
    | ((with_reducible apply State.modPort_sound k2))
    | ((with_reducible apply State.portSearch_sound k3))
    | (with_reducible refine sound_ite (fun _ => ?_) (fun _ => ?_))
    | (with_reducible refine sound_foldl (fun s x h => ?_) ?_)
    | (dsimp only)
    | (split))

theorem State.stampSample_sound {E : List Part} {base : State} (hE : [Part.gnss] ⊆ E) (s : State) (port sampleNo : Nat)
    (fine : Sound E base s) :
    Sound E base (State.stampSample s port sampleNo) := by
  have k0 : [Part.gnss] ⊆ E := List.Subset.trans (by decide) hE
  unfold State.stampSample
  (try dsimp only)
  repeat' (first
    | (with_reducible assumption)
    | ((with_reducible apply State.modPort_sound k0))
    | (with_reducible refine sound_ite (fun _ => ?_) (fun _ => ?_)))

theorem State.assignSignal_sound {E : List Part} {base : State} (hE : [Part.objects, Part.gnss] ⊆ E) (port : Nat) (pr : SatPrediction) (s : State) (sig : Nat)
    (fine : Sound E base s) :
    Sound E base (State.assignSignal port pr s sig) := by
  have k0 : [Part.objects, Part.gnss] ⊆ E := List.Subset.trans (by decide) hE
  have k1 : [Part.objects] ⊆ E := List.Subset.trans (by decide) hE
  have k2 : [Part.gnss] ⊆ E := List.Subset.trans (by decide) hE
  unfold State.assignSignal
  (try dsimp only)
  repeat' (first
    | (with_reducible assumption)
    | ((with_reducible apply State.putChan_sound k0))
    | ((with_reducible apply State.countChans_sound k1))
    | ((with_reducible apply State.queueJob_sound k2))
    | (with_reducible refine sound_ite (fun _ => ?_) (fun _ => ?_))
    | (with_reducible refine sound_foldl (fun s x h => ?_) ?_)
    | (dsimp only)
    | (split))

theorem State.assignBlind_sound {E : List Part} {base : State} (hE : [Part.objects, Part.gnss] ⊆ E) (port : Nat) (s : State) (x : Nat × Nat × SatId)
    (fine : Sound E base s) :
    Sound E base (State.assignBlind port s x) := by
  have k0 : [Part.objects, Part.gnss] ⊆ E := List.Subset.trans (by decide) hE
  have k1 : [Part.gnss] ⊆ E := List.Subset.trans (by decide) hE
  have k2 : [Part.objects] ⊆ E := List.Subset.trans (by decide) hE
  unfold State.assignBlind
  (try dsimp only)
  repeat' (first
    | (with_reducible assumption)
    | ((with_reducible apply State.putChan_sound k0))
    | ((with_reducible apply State.queueJob_sound k1))
    | ((with_reducible apply State.countChans_sound k2))
    | ((with_reducible apply State.modPort_sound k1))
    | (with_reducible refine sound_ite (fun _ => ?_) (fun _ => ?_))
    | (with_reducible refine sound_foldl (fun s x h => ?_) ?_)
    | (dsimp only)
    | (split))

theorem State.gnssApplied_sound {E : List Part} {base : State} (hE : [Part.objects, Part.recorder, Part.alarms, Part.gnss] ⊆ E) (s : State) (i sub : Nat) (old new : Int)
    (fine : Sound E base s) :
    Sound E base (State.gnssApplied s i sub old new) := by
  have k0 : [Part.objects, Part.recorder, Part.alarms, Part.gnss] ⊆ E := List.Subset.trans (by decide) hE
  have k1 : [Part.gnss] ⊆ E := List.Subset.trans (by decide) hE
  have k2 : [Part.objects] ⊆ E := List.Subset.trans (by decide) hE
  have k3 : [Part.objects, Part.gnss] ⊆ E := List.Subset.trans (by decide) hE
  unfold State.gnssApplied
  (try dsimp only)
  repeat' (first
    | (with_reducible assumption)
    | ((with_reducible apply State.portRestart_sound k0))
    | ((with_reducible apply State.modPort_sound k1))
    | ((with_reducible apply State.setBit_sound k2))
    | ((with_reducible apply State.chansOff_sound k3))
    | (with_reducible refine sound_ite (fun _ => ?_) (fun _ => ?_)))

theorem State.jobResult_sound {E : List Part} {base : State} (hE : [Part.objects, Part.gnss] ⊆ E) (r : AcqRun) (blocks : List (List (Int × Int))) (first last : Nat) (s : State) (x : Nat × Int)
    (fine : Sound E base s) :
    Sound E base (State.jobResult r blocks first last s x) := by
  have k0 : [Part.objects, Part.gnss] ⊆ E := List.Subset.trans (by decide) hE
  have k1 : [Part.gnss] ⊆ E := List.Subset.trans (by decide) hE
  unfold State.jobResult
  (try dsimp only)
  repeat' (first
    | (with_reducible assumption)
    | ((with_reducible apply State.putChan_sound k0))
    | ((with_reducible apply State.queueJob_sound k1))
    | ((with_reducible apply State.chanOff_sound k0))
    | (with_reducible refine sound_ite (fun _ => ?_) (fun _ => ?_))
    | (with_reducible refine sound_foldl (fun s x h => ?_) ?_)
    | (dsimp only)
    | (split))

theorem State.navEvent_sound {E : List Part} {base : State} (hE : [Part.objects] ⊆ E) (s : State) (k : Chan) (x0 : Option NavEvent)
    (fine : Sound E base s) :
    Sound E base (State.navEvent s k x0).1 := by
  have k0 : [Part.objects] ⊆ E := List.Subset.trans (by decide) hE
  unfold State.navEvent
  repeat' (first
    | (with_reducible assumption)
    | ((with_reducible apply State.slip_sound k0))
    | (with_reducible refine sound_ite (fun _ => ?_) (fun _ => ?_))
    | (with_reducible refine sound_foldl (fun s x h => ?_) ?_)
    | (with_reducible refine sound_foldl2 (fun s x h => ?_) ?_)
    | (with_reducible refine sound_foldl3 (fun s x h => ?_) ?_)
    | (dsimp only)
    | (refine sound_snd (by assumption) ?_)
    | (refine sound_fst (by assumption) ?_)
    | (refine sound_thd (by assumption) ?_)
    | (split))

theorem State.phaseSlip_sound {E : List Part} {base : State} (hE : [Part.objects] ⊆ E) (s : State) (k : Chan) (isPure : Bool) (eP : Rat)
    (fine : Sound E base s) :
    Sound E base (State.phaseSlip s k isPure eP).1 := by
  have k0 : [Part.objects] ⊆ E := List.Subset.trans (by decide) hE
  unfold State.phaseSlip
  (try dsimp only)
  repeat' (first
    | (with_reducible assumption)
    | ((with_reducible apply State.slip_sound k0))
    | (with_reducible refine sound_ite (fun _ => ?_) (fun _ => ?_))
    | (with_reducible refine sound_foldl (fun s x h => ?_) ?_)
    | (with_reducible refine sound_foldl2 (fun s x h => ?_) ?_)
    | (with_reducible refine sound_foldl3 (fun s x h => ?_) ?_)
    | (dsimp only)
    | (refine sound_snd (by assumption) ?_)
    | (refine sound_fst (by assumption) ?_)
    | (refine sound_thd (by assumption) ?_)
    | (split))

theorem State.sidePeak_sound {E : List Part} {base : State} (hE : [Part.objects] ⊆ E) (s : State) (k : Chan) (taps : List (Int × Int))
    (fine : Sound E base s) :
    Sound E base (State.sidePeak s k taps).1 := by
  have k0 : [Part.objects] ⊆ E := List.Subset.trans (by decide) hE
  unfold State.sidePeak
  (try dsimp only)
  repeat' (first
    | (with_reducible assumption)
    | ((with_reducible apply State.slip_sound k0))
    | ((with_reducible apply State.setBit_sound k0))
    | (with_reducible refine sound_ite (fun _ => ?_) (fun _ => ?_))
    | (with_reducible refine sound_foldl (fun s x h => ?_) ?_)
    | (with_reducible refine sound_foldl2 (fun s x h => ?_) ?_)
    | (with_reducible refine sound_foldl3 (fun s x h => ?_) ?_)
    | (dsimp only)
    | (refine sound_snd (by assumption) ?_)
    | (refine sound_fst (by assumption) ?_)
    | (refine sound_thd (by assumption) ?_)
    | (split))

theorem State.toReacq_sound {E : List Part} {base : State} (hE : [Part.objects, Part.gnss] ⊆ E) (s : State) (k : Chan)
    (fine : Sound E base s) :
    Sound E base (State.toReacq s k) := by
  have k0 : [Part.objects, Part.gnss] ⊆ E := List.Subset.trans (by decide) hE
  have k1 : [Part.gnss] ⊆ E := List.Subset.trans (by decide) hE
  unfold State.toReacq
  (try dsimp only)
  repeat' (first
    | (with_reducible assumption)
    | ((with_reducible apply State.putChan_sound k0))
    | ((with_reducible apply State.queueJob_sound k1)))

theorem State.toSearch_sound {E : List Part} {base : State} (hE : [Part.objects, Part.gnss] ⊆ E) (s : State) (k : Chan)
    (fine : Sound E base s) :
    Sound E base (State.toSearch s k) := by
  have k0 : [Part.objects, Part.gnss] ⊆ E := List.Subset.trans (by decide) hE
  have k1 : [Part.gnss] ⊆ E := List.Subset.trans (by decide) hE
  unfold State.toSearch
  repeat' (first
    | (with_reducible assumption)
    | ((with_reducible apply State.chanOff_sound k0))
    | ((with_reducible apply State.putChan_sound k0))
    | ((with_reducible apply State.queueJob_sound k1))
    | (with_reducible refine sound_ite (fun _ => ?_) (fun _ => ?_)))

theorem State.windowMoves_sound {E : List Part} {base : State} (hE : [Part.objects, Part.gnss] ⊆ E) (s : State) (k : Chan) (pli fli : Rat)
    (fine : Sound E base s) :
    Sound E base (State.windowMoves s k pli fli) := by
  have k0 : [Part.objects, Part.gnss] ⊆ E := List.Subset.trans (by decide) hE
  have k1 : [Part.objects] ⊆ E := List.Subset.trans (by decide) hE
  unfold State.windowMoves
  (try dsimp only)
  repeat' (first
    | (with_reducible assumption)
    | ((with_reducible apply State.putChan_sound k0))
    | ((with_reducible apply State.toReacq_sound k0))
    | ((with_reducible apply State.slip_sound k1))
    | (with_reducible refine sound_ite (fun _ => ?_) (fun _ => ?_))
    | (with_reducible refine sound_foldl (fun s x h => ?_) ?_)
    | (dsimp only)
    | (refine sound_snd (by assumption) ?_)
    | (refine sound_fst (by assumption) ?_)
    | (refine sound_thd (by assumption) ?_)
    | (split))

theorem State.keepProduct_sound {E : List Part} {base : State} (hE : [Part.gsol] ⊆ E) (s : State) (p : Product)
    (fine : Sound E base s) :
    Sound E base (State.keepProduct s p) := by
  have h_gsol : Part.gsol ∈ E := hE (by decide)
  unfold State.keepProduct
  (try dsimp only)
  repeat' (first
    | (with_reducible assumption)
    | (with_reducible refine sound_ite (fun _ => ?_) (fun _ => ?_))
    | (with_reducible refine sound_foldl (fun s x h => ?_) ?_)
    | (fail_if_no_progress with_reducible refine Sound.upd_gsol h_gsol _ ?_))

theorem State.baselines_sound {E : List Part} {base : State} (hE : [Part.objects, Part.recorder, Part.alarms, Part.gsol] ⊆ E) (s : State)
    (fine : Sound E base s) :
    Sound E base (State.baselines s) := by
  have h_gsol : Part.gsol ∈ E := hE (by decide)
  have k0 : [Part.objects, Part.recorder, Part.alarms] ⊆ E := List.Subset.trans (by decide) hE
  have k1 : [Part.objects] ⊆ E := List.Subset.trans (by decide) hE
  unfold State.baselines
  (try dsimp only)
  repeat' (first
    | (with_reducible assumption)
    | ((with_reducible apply State.count_sound k0))
    | ((with_reducible apply State.setObjs_sound k1))
    | (with_reducible refine sound_ite (fun _ => ?_) (fun _ => ?_))
    | (with_reducible refine sound_foldl (fun s x h => ?_) ?_)
    | (fail_if_no_progress with_reducible refine Sound.upd_gsol h_gsol _ ?_))

theorem State.clockRun_sound {E : List Part} {base : State} (hE : [Part.clock] ⊆ E) (s : State) (r : SolResult)
    (fine : Sound E base s) :
    Sound E base (State.clockRun s r) := by
  have h_clock : Part.clock ∈ E := hE (by decide)
  unfold State.clockRun
  (try dsimp only)
  repeat' (first
    | (with_reducible assumption)
    | (with_reducible refine sound_ite (fun _ => ?_) (fun _ => ?_))
    | (with_reducible refine sound_foldl (fun s x h => ?_) ?_)
    | (fail_if_no_progress with_reducible refine Sound.upd_clock h_clock _ ?_))

theorem State.attitudeProduct_sound {E : List Part} {base : State} (hE : [Part.align] ⊆ E) (s : State) (tw : Twin) (st : Nat) (r : AttResult)
    (fine : Sound E base s) :
    Sound E base (State.attitudeProduct s tw st r) := by
  have h_align : Part.align ∈ E := hE (by decide)
  unfold State.attitudeProduct
  (try dsimp only)
  repeat' (first
    | (with_reducible assumption)
    | (with_reducible refine sound_ite (fun _ => ?_) (fun _ => ?_))
    | (with_reducible refine sound_foldl (fun s x h => ?_) ?_)
    | (fail_if_no_progress with_reducible refine Sound.upd_align h_align _ ?_))

theorem State.putKept_sound {E : List Part} {base : State} (hE : [Part.mram] ⊆ E) (s : State) (x : KeptItem)
    (fine : Sound E base s) :
    Sound E base (State.putKept s x) := by
  have h_mram : Part.mram ∈ E := hE (by decide)
  unfold State.putKept
  (try dsimp only)
  repeat' (first
    | (with_reducible assumption)
    | (with_reducible refine sound_ite (fun _ => ?_) (fun _ => ?_))
    | (with_reducible refine sound_foldl (fun s x h => ?_) ?_)
    | (fail_if_no_progress with_reducible refine Sound.upd_mram h_mram _ ?_))

theorem State.eraseKept_sound {E : List Part} {base : State} (hE : [Part.mram] ⊆ E) (s : State)
    (fine : Sound E base s) :
    Sound E base (State.eraseKept s) := by
  have h_mram : Part.mram ∈ E := hE (by decide)
  unfold State.eraseKept
  (try dsimp only)
  repeat' (first
    | (with_reducible assumption)
    | (with_reducible refine sound_ite (fun _ => ?_) (fun _ => ?_))
    | (with_reducible refine sound_foldl (fun s x h => ?_) ?_)
    | (fail_if_no_progress with_reducible refine Sound.upd_mram h_mram _ ?_))

theorem State.checkKept_sound {E : List Part} {base : State} (hE : [Part.objects, Part.recorder, Part.alarms, Part.mram] ⊆ E) (s : State)
    (fine : Sound E base s) :
    Sound E base (State.checkKept s) := by
  have h_mram : Part.mram ∈ E := hE (by decide)
  have k0 : [Part.objects, Part.recorder, Part.alarms] ⊆ E := List.Subset.trans (by decide) hE
  unfold State.checkKept
  (try dsimp only)
  repeat' (first
    | (with_reducible assumption)
    | ((with_reducible apply State.countBy_sound k0))
    | (with_reducible refine sound_ite (fun _ => ?_) (fun _ => ?_))
    | (with_reducible refine sound_foldl (fun s x h => ?_) ?_)
    | (fail_if_no_progress with_reducible refine Sound.upd_mram h_mram _ ?_))

theorem State.harbourSleep_sound {E : List Part} {base : State} (hE : [Part.objects, Part.gnss] ⊆ E) (s : State)
    (fine : Sound E base s) :
    Sound E base (State.harbourSleep s) := by
  have k0 : [Part.objects, Part.gnss] ⊆ E := List.Subset.trans (by decide) hE
  have k1 : [Part.gnss] ⊆ E := List.Subset.trans (by decide) hE
  have k2 : [Part.objects] ⊆ E := List.Subset.trans (by decide) hE
  unfold State.harbourSleep
  (try dsimp only)
  repeat' (first
    | (with_reducible assumption)
    | ((with_reducible apply State.chansOff_sound k0))
    | ((with_reducible apply State.modPort_sound k1))
    | ((with_reducible apply State.setBit_sound k2))
    | ((with_reducible apply State.setObj_sound k2)))

theorem State.harbourEnter_sound {E : List Part} {base : State} (hE : [Part.objects, Part.gnss, Part.gsol] ⊆ E) (s : State)
    (fine : Sound E base s) :
    Sound E base (State.harbourEnter s) := by
  have h_gsol : Part.gsol ∈ E := hE (by decide)
  have k0 : [Part.objects, Part.gnss] ⊆ E := List.Subset.trans (by decide) hE
  unfold State.harbourEnter
  (try dsimp only)
  repeat' (first
    | (with_reducible assumption)
    | ((with_reducible apply State.harbourSleep_sound k0))
    | (with_reducible refine sound_ite (fun _ => ?_) (fun _ => ?_))
    | (with_reducible refine sound_foldl (fun s x h => ?_) ?_)
    | (fail_if_no_progress with_reducible refine Sound.upd_gsol h_gsol _ ?_))

theorem State.harbourLeave_sound {E : List Part} {base : State} (hE : [Part.objects] ⊆ E) (s : State)
    (fine : Sound E base s) :
    Sound E base (State.harbourLeave s) := by
  have k0 : [Part.objects] ⊆ E := List.Subset.trans (by decide) hE
  unfold State.harbourLeave
  repeat' (first
    | (with_reducible assumption)
    | ((with_reducible apply State.setObjs_sound k0)))

theorem State.twinCompare_sound {E : List Part} {base : State} (hE : [Part.objects, Part.recorder, Part.alarms, Part.gsol] ⊆ E) (s : State) (movedMm : SolResult → SolResult → Nat)
    (fine : Sound E base s) :
    Sound E base (State.twinCompare s movedMm) := by
  have h_gsol : Part.gsol ∈ E := hE (by decide)
  have k0 : [Part.objects] ⊆ E := List.Subset.trans (by decide) hE
  have k1 : [Part.objects, Part.recorder, Part.alarms] ⊆ E := List.Subset.trans (by decide) hE
  have k2 : [Part.objects, Part.recorder] ⊆ E := List.Subset.trans (by decide) hE
  unfold State.twinCompare
  (try dsimp only)
  repeat' (first
    | (with_reducible assumption)
    | ((with_reducible apply State.setBit_sound k0))
    | ((with_reducible apply State.setObjs_sound k0))
    | ((with_reducible apply State.count_sound k1))
    | ((with_reducible apply State.alarm_sound k1))
    | ((with_reducible apply State.event_sound k2))
    | ((with_reducible apply State.unalarm_sound k1))
    | (with_reducible refine sound_ite (fun _ => ?_) (fun _ => ?_))
    | (with_reducible refine sound_foldl (fun s x h => ?_) ?_)
    | (fail_if_no_progress with_reducible refine Sound.upd_gsol h_gsol _ ?_)
    | (dsimp only)
    | (refine sound_snd (by assumption) ?_)
    | (refine sound_fst (by assumption) ?_)
    | (refine sound_thd (by assumption) ?_)
    | (split))

theorem State.solApplied_sound {E : List Part} {base : State} (hE : [Part.objects, Part.gnss, Part.gsol] ⊆ E) (s : State) (i sub : Nat) (old new : Int)
    (fine : Sound E base s) :
    Sound E base (State.solApplied s i sub old new) := by
  have h_gsol : Part.gsol ∈ E := hE (by decide)
  have k0 : [Part.objects, Part.gnss, Part.gsol] ⊆ E := List.Subset.trans (by decide) hE
  have k1 : [Part.objects] ⊆ E := List.Subset.trans (by decide) hE
  unfold State.solApplied
  (try dsimp only)
  repeat' (first
    | (with_reducible assumption)
    | ((with_reducible apply State.harbourEnter_sound k0))
    | ((with_reducible apply State.harbourLeave_sound k1))
    | ((with_reducible apply State.setObjs_sound k1))
    | (with_reducible refine sound_ite (fun _ => ?_) (fun _ => ?_))
    | (with_reducible refine sound_foldl (fun s x h => ?_) ?_)
    | (fail_if_no_progress with_reducible refine Sound.upd_gsol h_gsol _ ?_))

theorem State.testSample_sound {E : List Part} {base : State} (hE : [Part.objects, Part.recorder, Part.alarms, Part.align] ⊆ E) (v : Vote) (s : State) (r : Residual)
    (fine : Sound E base s) :
    Sound E base (State.testSample v s r).2 := by
  have k0 : [Part.align] ⊆ E := List.Subset.trans (by decide) hE
  have k1 : [Part.objects, Part.recorder, Part.alarms, Part.align] ⊆ E := List.Subset.trans (by decide) hE
  have k2 : [Part.objects] ⊆ E := List.Subset.trans (by decide) hE
  have k3 : [Part.objects, Part.recorder, Part.alarms] ⊆ E := List.Subset.trans (by decide) hE
  unfold State.testSample
  (try dsimp only)
  repeat' (first
    | (with_reducible assumption)
    | ((with_reducible apply State.modSlot_sound k0))
    | ((with_reducible apply State.freeze_sound k1))
    | ((with_reducible apply State.raiseBit_sound k2))
    | ((with_reducible apply State.setObjs_sound k2))
    | ((with_reducible apply State.count_sound k3))
    | ((with_reducible apply State.slotTo_sound k1))
    | (with_reducible refine sound_ite (fun _ => ?_) (fun _ => ?_))
    | (with_reducible refine sound_foldl (fun s x h => ?_) ?_)
    | (with_reducible refine sound_foldl2 (fun s x h => ?_) ?_)
    | (with_reducible refine sound_foldl3 (fun s x h => ?_) ?_)
    | (dsimp only)
    | (refine sound_snd (by assumption) ?_)
    | (refine sound_fst (by assumption) ?_)
    | (refine sound_thd (by assumption) ?_)
    | (split))

theorem State.qualityTests_sound {E : List Part} {base : State} (hE : [Part.objects, Part.recorder, Part.alarms, Part.align] ⊆ E) (s : State)
    (fine : Sound E base s) :
    Sound E base (State.qualityTests s).2 := by
  have k0 : [Part.objects] ⊆ E := List.Subset.trans (by decide) hE
  have k1 : [Part.objects, Part.recorder, Part.alarms, Part.align] ⊆ E := List.Subset.trans (by decide) hE
  have k2 : [Part.objects, Part.recorder, Part.alarms] ⊆ E := List.Subset.trans (by decide) hE
  unfold State.qualityTests
  (try dsimp only)
  repeat' (first
    | (with_reducible assumption)
    | ((with_reducible apply State.setObj_sound k0))
    | ((with_reducible apply State.slotTo_sound k1))
    | ((with_reducible apply State.alarm_sound k2))
    | ((with_reducible apply State.count_sound k2))
    | ((with_reducible apply State.unalarm_sound k2))
    | ((with_reducible apply State.testSample_sound k1))
    | (with_reducible refine sound_ite (fun _ => ?_) (fun _ => ?_))
    | (with_reducible refine sound_foldl (fun s x h => ?_) ?_)
    | (with_reducible refine sound_foldl2 (fun s x h => ?_) ?_))

theorem State.slotWeights_sound {E : List Part} {base : State} (hE : [Part.objects] ⊆ E) (s : State)
    (fine : Sound E base s) :
    Sound E base (State.slotWeights s) := by
  have k0 : [Part.objects] ⊆ E := List.Subset.trans (by decide) hE
  unfold State.slotWeights
  (try dsimp only)
  repeat' (first
    | (with_reducible assumption)
    | ((with_reducible apply State.setObjs_sound k0))
    | (with_reducible refine sound_ite (fun _ => ?_) (fun _ => ?_))
    | (with_reducible refine sound_foldl (fun s x h => ?_) ?_))

theorem State.modSensor_sound {E : List Part} {base : State} (hE : [Part.align] ⊆ E) (s : State) (k : Nat) (f : TestRun → TestRun)
    (fine : Sound E base s) :
    Sound E base (State.modSensor s k f) := by
  have h_align : Part.align ∈ E := hE (by decide)
  unfold State.modSensor
  (try dsimp only)
  repeat' (first
    | (with_reducible assumption)
    | (with_reducible refine sound_ite (fun _ => ?_) (fun _ => ?_))
    | (with_reducible refine sound_foldl (fun s x h => ?_) ?_)
    | (fail_if_no_progress with_reducible refine Sound.upd_align h_align _ ?_))

theorem State.sensorTo_sound {E : List Part} {base : State} (hE : [Part.objects, Part.recorder, Part.alarms] ⊆ E) (s : State) (k st : Nat)
    (fine : Sound E base s) :
    Sound E base (State.sensorTo s k st) := by
  have k0 : [Part.objects] ⊆ E := List.Subset.trans (by decide) hE
  have k1 : [Part.objects, Part.recorder, Part.alarms] ⊆ E := List.Subset.trans (by decide) hE
  have k2 : [Part.objects, Part.recorder] ⊆ E := List.Subset.trans (by decide) hE
  unfold State.sensorTo
  (try dsimp only)
  repeat' (first
    | (with_reducible assumption)
    | ((with_reducible apply State.setObj_sound k0))
    | ((with_reducible apply State.count_sound k1))
    | ((with_reducible apply State.alarm_sound k1))
    | ((with_reducible apply State.event_sound k2))
    | ((with_reducible apply State.unalarm_sound k1))
    | (with_reducible refine sound_ite (fun _ => ?_) (fun _ => ?_)))

theorem State.testSensor_sound {E : List Part} {base : State} (hE : [Part.objects, Part.recorder, Part.alarms, Part.align] ⊆ E) (s : State) (a : Sample) (nu : Rat) (rejects : Bool)
    (fine : Sound E base s) :
    Sound E base (State.testSensor s a nu rejects).2 := by
  have k0 : [Part.align] ⊆ E := List.Subset.trans (by decide) hE
  have k1 : [Part.objects, Part.recorder, Part.alarms] ⊆ E := List.Subset.trans (by decide) hE
  have k2 : [Part.objects, Part.recorder, Part.alarms, Part.align] ⊆ E := List.Subset.trans (by decide) hE
  have k3 : [Part.objects] ⊆ E := List.Subset.trans (by decide) hE
  unfold State.testSensor
  (try dsimp only)
  repeat' (first
    | (with_reducible assumption)
    | ((with_reducible apply State.modSensor_sound k0))
    | ((with_reducible apply State.count_sound k1))
    | ((with_reducible apply State.freeze_sound k2))
    | ((with_reducible apply State.raiseBit_sound k3))
    | ((with_reducible apply State.setObj_sound k3))
    | ((with_reducible apply State.sensorTo_sound k1))
    | (with_reducible refine sound_ite (fun _ => ?_) (fun _ => ?_))
    | (with_reducible refine sound_foldl (fun s x h => ?_) ?_)
    | (with_reducible refine sound_foldl2 (fun s x h => ?_) ?_)
    | (with_reducible refine sound_foldl3 (fun s x h => ?_) ?_)
    | (dsimp only)
    | (split))

theorem State.sensorPairs_sound {E : List Part} {base : State} (hE : [Part.objects, Part.recorder, Part.alarms] ⊆ E) (s : State)
    (fine : Sound E base s) :
    Sound E base (State.sensorPairs s) := by
  have k0 : [Part.objects, Part.recorder, Part.alarms] ⊆ E := List.Subset.trans (by decide) hE
  unfold State.sensorPairs
  (try dsimp only)
  repeat' (first
    | (with_reducible assumption)
    | ((with_reducible apply State.count_sound k0))
    | ((with_reducible apply State.alarm_sound k0))
    | ((with_reducible apply State.unalarm_sound k0))
    | (with_reducible refine sound_ite (fun _ => ?_) (fun _ => ?_))
    | (with_reducible refine sound_foldl (fun s x h => ?_) ?_))

theorem State.sensorCycle_sound {E : List Part} {base : State} (hE : [Part.objects, Part.recorder, Part.alarms] ⊆ E) (s : State)
    (fine : Sound E base s) :
    Sound E base (State.sensorCycle s) := by
  have k0 : [Part.objects] ⊆ E := List.Subset.trans (by decide) hE
  have k1 : [Part.objects, Part.recorder, Part.alarms] ⊆ E := List.Subset.trans (by decide) hE
  unfold State.sensorCycle
  (try dsimp only)
  repeat' (first
    | (with_reducible assumption)
    | ((with_reducible apply State.setObj_sound k0))
    | ((with_reducible apply State.sensorTo_sound k1))
    | (with_reducible refine sound_ite (fun _ => ?_) (fun _ => ?_))
    | (with_reducible refine sound_foldl (fun s x h => ?_) ?_))

theorem State.windReport_sound {E : List Part} {base : State} (hE : [Part.objects] ⊆ E) (s : State)
    (fine : Sound E base s) :
    Sound E base (State.windReport s) := by
  have k0 : [Part.objects] ⊆ E := List.Subset.trans (by decide) hE
  unfold State.windReport
  (try dsimp only)
  repeat' (first
    | (with_reducible assumption)
    | ((with_reducible apply State.setObj_sound k0))
    | ((with_reducible apply State.setObjs_sound k0))
    | (with_reducible refine sound_ite (fun _ => ?_) (fun _ => ?_)))

theorem State.calibrationBounds_sound {E : List Part} {base : State} (hE : [Part.objects, Part.est] ⊆ E) (s : State)
    (fine : Sound E base s) :
    Sound E base (State.calibrationBounds s) := by
  have h_est : Part.est ∈ E := hE (by decide)
  have k0 : [Part.objects] ⊆ E := List.Subset.trans (by decide) hE
  unfold State.calibrationBounds
  (try dsimp only)
  repeat' (first
    | (with_reducible assumption)
    | ((with_reducible apply State.setBit_sound k0))
    | (with_reducible refine sound_ite (fun _ => ?_) (fun _ => ?_))
    | (with_reducible refine sound_foldl (fun s x h => ?_) ?_)
    | (fail_if_no_progress with_reducible refine Sound.upd_est h_est _ ?_))

theorem State.fuseReference_sound {E : List Part} {base : State} (hE : [Part.objects, Part.recorder, Part.align, Part.est] ⊆ E) (s : State) (first : Bool) (a : Sample)
    (fine : Sound E base s) :
    Sound E base (State.fuseReference s first a) := by
  have h_est : Part.est ∈ E := hE (by decide)
  have k0 : [Part.align] ⊆ E := List.Subset.trans (by decide) hE
  have k1 : [Part.objects, Part.est] ⊆ E := List.Subset.trans (by decide) hE
  have k2 : [Part.objects, Part.recorder] ⊆ E := List.Subset.trans (by decide) hE
  unfold State.fuseReference
  (try dsimp only)
  repeat' (first
    | (with_reducible assumption)
    | ((with_reducible apply State.modSlot_sound k0))
    | ((with_reducible apply State.calibrationBounds_sound k1))
    | ((with_reducible apply State.event_sound k2))
    | (with_reducible refine sound_ite (fun _ => ?_) (fun _ => ?_))
    | (with_reducible refine sound_foldl (fun s x h => ?_) ?_)
    | (fail_if_no_progress with_reducible refine Sound.upd_est h_est _ ?_))

theorem State.fuseSensor_sound {E : List Part} {base : State} (hE : [Part.objects, Part.est] ⊆ E) (s : State) (a : Sample)
    (fine : Sound E base s) :
    Sound E base (State.fuseSensor s a) := by
  have h_est : Part.est ∈ E := hE (by decide)
  have k0 : [Part.objects, Part.est] ⊆ E := List.Subset.trans (by decide) hE
  unfold State.fuseSensor
  (try dsimp only)
  repeat' (first
    | (with_reducible assumption)
    | ((with_reducible apply State.calibrationBounds_sound k0))
    | (with_reducible refine sound_ite (fun _ => ?_) (fun _ => ?_))
    | (with_reducible refine sound_foldl (fun s x h => ?_) ?_)
    | (fail_if_no_progress with_reducible refine Sound.upd_est h_est _ ?_))

theorem State.applyLate_sound {E : List Part} {base : State} (hE : [Part.objects, Part.recorder, Part.alarms, Part.est] ⊆ E) (s : State) (a : Sample)
    (fine : Sound E base s) :
    Sound E base (State.applyLate s a) := by
  have h_est : Part.est ∈ E := hE (by decide)
  have k0 : [Part.objects, Part.est] ⊆ E := List.Subset.trans (by decide) hE
  have k1 : [Part.objects, Part.recorder, Part.alarms] ⊆ E := List.Subset.trans (by decide) hE
  unfold State.applyLate
  (try dsimp only)
  repeat' (first
    | (with_reducible assumption)
    | ((with_reducible apply State.calibrationBounds_sound k0))
    | ((with_reducible apply State.count_sound k1))
    | (with_reducible refine sound_ite (fun _ => ?_) (fun _ => ?_))
    | (with_reducible refine sound_foldl (fun s x h => ?_) ?_)
    | (fail_if_no_progress with_reducible refine Sound.upd_est h_est _ ?_))

theorem State.lateSensor_sound {E : List Part} {base : State} (hE : [Part.objects, Part.recorder, Part.alarms, Part.est] ⊆ E) (s : State) (a : Sample)
    (fine : Sound E base s) :
    Sound E base (State.lateSensor s a) := by
  have k0 : [Part.objects] ⊆ E := List.Subset.trans (by decide) hE
  have k1 : [Part.objects, Part.recorder, Part.alarms] ⊆ E := List.Subset.trans (by decide) hE
  have k2 : [Part.objects, Part.recorder, Part.alarms, Part.est] ⊆ E := List.Subset.trans (by decide) hE
  unfold State.lateSensor
  (try dsimp only)
  repeat' (first
    | (with_reducible assumption)
    | ((with_reducible apply State.raiseBit_sound k0))
    | ((with_reducible apply State.count_sound k1))
    | ((with_reducible apply State.applyLate_sound k2))
    | (with_reducible refine sound_ite (fun _ => ?_) (fun _ => ?_)))

theorem State.lateSamples_sound {E : List Part} {base : State} (hE : [Part.objects, Part.recorder, Part.alarms, Part.est] ⊆ E) (s : State) (fresh : List Sample)
    (fine : Sound E base s) :
    Sound E base (State.lateSamples s fresh) := by
  have h_est : Part.est ∈ E := hE (by decide)
  have k0 : [Part.objects, Part.recorder, Part.alarms] ⊆ E := List.Subset.trans (by decide) hE
  have k1 : [Part.objects, Part.recorder, Part.alarms, Part.est] ⊆ E := List.Subset.trans (by decide) hE
  unfold State.lateSamples
  (try dsimp only)
  repeat' (first
    | (with_reducible assumption)
    | ((with_reducible apply State.count_sound k0))
    | ((with_reducible apply State.applyLate_sound k1))
    | ((with_reducible apply State.lateSensor_sound k1))
    | ((with_reducible apply State.countBy_sound k0))
    | (with_reducible refine sound_ite (fun _ => ?_) (fun _ => ?_))
    | (with_reducible refine sound_foldl (fun s x h => ?_) ?_)
    | (fail_if_no_progress with_reducible refine Sound.upd_est h_est _ ?_))

theorem State.rawScalar_sound {E : List Part} {base : State} (hE : [Part.objects, Part.recorder, Part.alarms, Part.est] ⊆ E) (s : State) (nu : Rat) (h : Nat → Rat) (sigma : Rat)
    (fine : Sound E base s) :
    Sound E base (State.rawScalar s nu h sigma).2 := by
  have h_est : Part.est ∈ E := hE (by decide)
  have k0 : [Part.objects, Part.recorder, Part.alarms] ⊆ E := List.Subset.trans (by decide) hE
  have k1 : [Part.objects, Part.est] ⊆ E := List.Subset.trans (by decide) hE
  unfold State.rawScalar
  (try dsimp only)
  repeat' (first
    | (with_reducible assumption)
    | ((with_reducible apply State.count_sound k0))
    | ((with_reducible apply State.calibrationBounds_sound k1))
    | (with_reducible refine sound_ite (fun _ => ?_) (fun _ => ?_))
    | (with_reducible refine sound_foldl (fun s x h => ?_) ?_)
    | (with_reducible refine sound_foldl2 (fun s x h => ?_) ?_)
    | (with_reducible refine sound_foldl3 (fun s x h => ?_) ?_)
    | (fail_if_no_progress with_reducible refine Sound.upd_est h_est _ ?_)
    | (dsimp only)
    | (split))

theorem State.fuseEntry_sound {E : List Part} {base : State} (hE : [Part.objects, Part.recorder, Part.alarms, Part.est] ⊆ E) (instant : Int) (dt : Rat) (before : RawEntry → Option RawEntry) (s : State) (r b : RawEntry)
    (fine : Sound E base s) :
    Sound E base (State.fuseEntry instant dt before s r b).2 := by
  have k0 : [Part.objects, Part.recorder, Part.alarms, Part.est] ⊆ E := List.Subset.trans (by decide) hE
  unfold State.fuseEntry
  (try dsimp only)
  repeat' (first
    | (with_reducible assumption)
    | ((with_reducible apply State.rawScalar_sound k0))
    | (with_reducible refine sound_ite (fun _ => ?_) (fun _ => ?_))
    | (with_reducible refine sound_foldl (fun s x h => ?_) ?_)
    | (with_reducible refine sound_foldl2 (fun s x h => ?_) ?_)
    | (with_reducible refine sound_foldl3 (fun s x h => ?_) ?_)
    | (dsimp only)
    | (refine sound_snd (by assumption) ?_)
    | (refine sound_fst (by assumption) ?_)
    | (refine sound_thd (by assumption) ?_)
    | (split))

theorem State.fuseRaw_sound {E : List Part} {base : State} (hE : [Part.objects, Part.recorder, Part.alarms, Part.est] ⊆ E) (s : State) (rec : RawRecord)
    (fine : Sound E base s) :
    Sound E base (State.fuseRaw s rec).2 := by
  have h_est : Part.est ∈ E := hE (by decide)
  have k0 : [Part.objects, Part.recorder, Part.alarms] ⊆ E := List.Subset.trans (by decide) hE
  have k1 : [Part.objects, Part.recorder, Part.alarms, Part.est] ⊆ E := List.Subset.trans (by decide) hE
  have k2 : [Part.objects] ⊆ E := List.Subset.trans (by decide) hE
  have k3 : [Part.objects, Part.recorder] ⊆ E := List.Subset.trans (by decide) hE
  unfold State.fuseRaw
  (try dsimp only)
  repeat' (first
    | (with_reducible assumption)
    | ((with_reducible apply State.countBy_sound k0))
    | ((with_reducible apply State.fuseEntry_sound k1))
    | ((with_reducible apply State.setObj_sound k2))
    | ((with_reducible apply State.event_sound k3))
    | (with_reducible refine sound_ite (fun _ => ?_) (fun _ => ?_))
    | (with_reducible refine sound_foldl (fun s x h => ?_) ?_)
    | (with_reducible refine sound_foldl2 (fun s x h => ?_) ?_)
    | (with_reducible refine sound_foldl3 (fun s x h => ?_) ?_)
    | (fail_if_no_progress with_reducible refine Sound.upd_est h_est _ ?_)
    | (dsimp only)
    | (refine sound_snd (by assumption) ?_)
    | (refine sound_fst (by assumption) ?_)
    | (refine sound_thd (by assumption) ?_)
    | (split))

theorem State.reloads_sound {E : List Part} {base : State} (hE : [Part.objects, Part.est] ⊆ E) (s : State)
    (fine : Sound E base s) :
    Sound E base (State.reloads s) := by
  have h_est : Part.est ∈ E := hE (by decide)
  have k0 : [Part.objects] ⊆ E := List.Subset.trans (by decide) hE
  unfold State.reloads
  (try dsimp only)
  repeat' (first
    | (with_reducible assumption)
    | ((with_reducible apply State.setObj_sound k0))
    | (with_reducible refine sound_ite (fun _ => ?_) (fun _ => ?_))
    | (with_reducible refine sound_foldl (fun s x h => ?_) ?_)
    | (fail_if_no_progress with_reducible refine Sound.upd_est h_est _ ?_))

theorem State.absoluteOffsets_sound {E : List Part} {base : State} (hE : [Part.est] ⊆ E) (s : State)
    (fine : Sound E base s) :
    Sound E base (State.absoluteOffsets s) := by
  have h_est : Part.est ∈ E := hE (by decide)
  unfold State.absoluteOffsets
  (try dsimp only)
  repeat' (first
    | (with_reducible assumption)
    | (with_reducible refine sound_ite (fun _ => ?_) (fun _ => ?_))
    | (with_reducible refine sound_foldl (fun s x h => ?_) ?_)
    | (fail_if_no_progress with_reducible refine Sound.upd_est h_est _ ?_))

theorem State.excitation_sound {E : List Part} {base : State} (hE : [Part.objects, Part.est] ⊆ E) (s : State)
    (fine : Sound E base s) :
    Sound E base (State.excitation s) := by
  have h_est : Part.est ∈ E := hE (by decide)
  have k0 : [Part.objects] ⊆ E := List.Subset.trans (by decide) hE
  unfold State.excitation
  (try dsimp only)
  repeat' (first
    | (with_reducible assumption)
    | ((with_reducible apply State.setObj_sound k0))
    | ((with_reducible apply State.setBit_sound k0))
    | (with_reducible refine sound_ite (fun _ => ?_) (fun _ => ?_))
    | (with_reducible refine sound_foldl (fun s x h => ?_) ?_)
    | (fail_if_no_progress with_reducible refine Sound.upd_est h_est _ ?_))

theorem State.tidyCovariance_sound {E : List Part} {base : State} (hE : [Part.objects, Part.recorder, Part.alarms, Part.est] ⊆ E) (s : State)
    (fine : Sound E base s) :
    Sound E base (State.tidyCovariance s) := by
  have h_est : Part.est ∈ E := hE (by decide)
  have k0 : [Part.objects, Part.recorder, Part.alarms] ⊆ E := List.Subset.trans (by decide) hE
  have k1 : [Part.objects] ⊆ E := List.Subset.trans (by decide) hE
  unfold State.tidyCovariance
  (try dsimp only)
  repeat' (first
    | (with_reducible assumption)
    | ((with_reducible apply State.countBy_sound k0))
    | ((with_reducible apply State.setBit_sound k1))
    | (with_reducible refine sound_ite (fun _ => ?_) (fun _ => ?_))
    | (with_reducible refine sound_foldl (fun s x h => ?_) ?_)
    | (fail_if_no_progress with_reducible refine Sound.upd_est h_est _ ?_))

theorem State.estStatus_sound {E : List Part} {base : State} (hE : [Part.objects, Part.recorder, Part.alarms, Part.est] ⊆ E) (s : State) (heading fix : Bool)
    (fine : Sound E base s) :
    Sound E base (State.estStatus s heading fix) := by
  have h_est : Part.est ∈ E := hE (by decide)
  have k0 : [Part.objects, Part.recorder, Part.alarms] ⊆ E := List.Subset.trans (by decide) hE
  have k1 : [Part.objects] ⊆ E := List.Subset.trans (by decide) hE
  unfold State.estStatus
  (try dsimp only)
  repeat' (first
    | (with_reducible assumption)
    | ((with_reducible apply State.count_sound k0))
    | ((with_reducible apply State.setObjs_sound k1))
    | (with_reducible refine sound_ite (fun _ => ?_) (fun _ => ?_))
    | (with_reducible refine sound_foldl (fun s x h => ?_) ?_)
    | (fail_if_no_progress with_reducible refine Sound.upd_est h_est _ ?_))

theorem State.publish_sound {E : List Part} {base : State} (hE : [Part.objects] ⊆ E) (s : State)
    (fine : Sound E base s) :
    Sound E base (State.publish s) := by
  have k0 : [Part.objects] ⊆ E := List.Subset.trans (by decide) hE
  unfold State.publish
  (try dsimp only)
  repeat' (first
    | (with_reducible assumption)
    | ((with_reducible apply State.setObjs_sound k0))
    | ((with_reducible apply State.setObj_sound k0))
    | (with_reducible refine sound_ite (fun _ => ?_) (fun _ => ?_))
    | (with_reducible refine sound_foldl (fun s x h => ?_) ?_))

theorem State.sensorSample_sound {E : List Part} {base : State} (hE : [Part.objects, Part.recorder, Part.alarms, Part.align, Part.est] ⊆ E) (allFail : Bool) (acc : Bool × State) (a : Sample)
    (fine : Sound E base acc.2) :
    Sound E base (State.sensorSample allFail acc a).2 := by
  have k0 : [Part.objects, Part.est] ⊆ E := List.Subset.trans (by decide) hE
  have k1 : [Part.objects, Part.recorder, Part.alarms, Part.align] ⊆ E := List.Subset.trans (by decide) hE
  have k2 : [Part.align] ⊆ E := List.Subset.trans (by decide) hE
  unfold State.sensorSample
  (try dsimp only)
  repeat' (first
    | (with_reducible assumption)
    | ((with_reducible apply State.fuseSensor_sound k0))
    | ((with_reducible apply State.testSensor_sound k1))
    | ((with_reducible apply State.modSensor_sound k2))
    | (with_reducible refine sound_ite (fun _ => ?_) (fun _ => ?_))
    | (with_reducible refine sound_foldl (fun s x h => ?_) ?_)
    | (with_reducible refine sound_foldl2 (fun s x h => ?_) ?_)
    | (with_reducible refine sound_foldl3 (fun s x h => ?_) ?_)
    | (dsimp only)
    | (refine sound_snd (by assumption) ?_)
    | (refine sound_fst (by assumption) ?_)
    | (refine sound_thd (by assumption) ?_)
    | (split))

theorem State.fuseOne_sound {E : List Part} {base : State} (hE : [Part.objects, Part.recorder, Part.alarms, Part.align, Part.est] ⊆ E) (raws : List RawRecord) (allFail : Bool) (acc : Bool × Bool × State) (a : Sample)
    (fine : Sound E base acc.2.2) :
    Sound E base (State.fuseOne raws allFail acc a).2.2 := by
  have k0 : [Part.objects, Part.recorder, Part.alarms, Part.est] ⊆ E := List.Subset.trans (by decide) hE
  have k1 : [Part.objects, Part.recorder, Part.align, Part.est] ⊆ E := List.Subset.trans (by decide) hE
  have k2 : [Part.objects, Part.recorder, Part.alarms, Part.align, Part.est] ⊆ E := List.Subset.trans (by decide) hE
  unfold State.fuseOne
  (try dsimp only)
  repeat' (first
    | (with_reducible assumption)
    | ((with_reducible apply State.fuseRaw_sound k0))
    | ((with_reducible apply State.fuseReference_sound k1))
    | ((with_reducible apply State.sensorSample_sound k2))
    | (with_reducible refine sound_ite (fun _ => ?_) (fun _ => ?_))
    | (with_reducible refine sound_foldl (fun s x h => ?_) ?_)
    | (with_reducible refine sound_foldl2 (fun s x h => ?_) ?_)
    | (with_reducible refine sound_foldl3 (fun s x h => ?_) ?_)
    | (dsimp only)
    | (refine sound_snd (by assumption) ?_)
    | (refine sound_fst (by assumption) ?_)
    | (refine sound_thd (by assumption) ?_)
    | (split))

theorem State.fuseSamples_sound {E : List Part} {base : State} (hE : [Part.objects, Part.recorder, Part.alarms, Part.align, Part.est] ⊆ E) (s : State) (fusable : List Sample)
    (fine : Sound E base s) :
    Sound E base (State.fuseSamples s fusable).2.2 := by
  have k0 : [Part.objects, Part.recorder, Part.alarms] ⊆ E := List.Subset.trans (by decide) hE
  have k1 : [Part.objects] ⊆ E := List.Subset.trans (by decide) hE
  have k2 : [Part.objects, Part.recorder, Part.alarms, Part.align, Part.est] ⊆ E := List.Subset.trans (by decide) hE
  unfold State.fuseSamples
  (try dsimp only)
  repeat' (first
    | (with_reducible assumption)
    | ((with_reducible apply State.countBy_sound k0))
    | ((with_reducible apply State.alarm_sound k0))
    | ((with_reducible apply State.count_sound k0))
    | ((with_reducible apply State.setObj_sound k1))
    | ((with_reducible apply State.fuseOne_sound k2))
    | (with_reducible refine sound_ite (fun _ => ?_) (fun _ => ?_))
    | (with_reducible refine sound_foldl (fun s x h => ?_) ?_)
    | (with_reducible refine sound_foldl2 (fun s x h => ?_) ?_)
    | (with_reducible refine sound_foldl3 (fun s x h => ?_) ?_))

theorem State.moveHorizon_sound {E : List Part} {base : State} (hE : [Part.est] ⊆ E) (s : State)
    (fine : Sound E base s) :
    Sound E base (State.moveHorizon s) := by
  have h_est : Part.est ∈ E := hE (by decide)
  unfold State.moveHorizon
  (try dsimp only)
  repeat' (first
    | (with_reducible assumption)
    | (with_reducible refine sound_ite (fun _ => ?_) (fun _ => ?_))
    | (with_reducible refine sound_foldl (fun s x h => ?_) ?_)
    | (fail_if_no_progress with_reducible refine Sound.upd_est h_est _ ?_))

theorem State.estimate_sound {E : List Part} {base : State} (hE : [Part.objects, Part.recorder, Part.alarms, Part.align, Part.est] ⊆ E) (s : State)
    (fine : Sound E base s) :
    Sound E base (State.estimate s) := by
  have k0 : [Part.objects, Part.recorder, Part.alarms] ⊆ E := List.Subset.trans (by decide) hE
  have k1 : [Part.objects, Part.est] ⊆ E := List.Subset.trans (by decide) hE
  have k2 : [Part.objects, Part.recorder, Part.alarms, Part.align] ⊆ E := List.Subset.trans (by decide) hE
  have k3 : [Part.objects] ⊆ E := List.Subset.trans (by decide) hE
  have k4 : [Part.objects, Part.recorder, Part.alarms, Part.align, Part.est] ⊆ E := List.Subset.trans (by decide) hE
  have k5 : [Part.est] ⊆ E := List.Subset.trans (by decide) hE
  have k6 : [Part.objects, Part.recorder, Part.alarms, Part.est] ⊆ E := List.Subset.trans (by decide) hE
  unfold State.estimate
  (try dsimp only)
  repeat' (first
    | (with_reducible assumption)
    | ((with_reducible apply State.sensorCycle_sound k0))
    | ((with_reducible apply State.reloads_sound k1))
    | ((with_reducible apply State.qualityTests_sound k2))
    | ((with_reducible apply State.slotWeights_sound k3))
    | ((with_reducible apply State.fuseSamples_sound k4))
    | ((with_reducible apply State.sensorPairs_sound k0))
    | ((with_reducible apply State.absoluteOffsets_sound k5))
    | ((with_reducible apply State.lateSamples_sound k6))
    | ((with_reducible apply State.moveHorizon_sound k5))
    | ((with_reducible apply State.tidyCovariance_sound k6))
    | ((with_reducible apply State.excitation_sound k1))
    | ((with_reducible apply State.estStatus_sound k6))
    | ((with_reducible apply State.windReport_sound k3))
    | ((with_reducible apply State.publish_sound k3))
    | (with_reducible refine sound_ite (fun _ => ?_) (fun _ => ?_)))

theorem State.estStart_sound {E : List Part} {base : State} (hE : [Part.objects, Part.est] ⊆ E) (s : State)
    (fine : Sound E base s) :
    Sound E base (State.estStart s) := by
  have h_est : Part.est ∈ E := hE (by decide)
  have k0 : [Part.objects] ⊆ E := List.Subset.trans (by decide) hE
  unfold State.estStart
  (try dsimp only)
  repeat' (first
    | (with_reducible assumption)
    | ((with_reducible apply State.setObj_sound k0))
    | (with_reducible refine sound_ite (fun _ => ?_) (fun _ => ?_))
    | (with_reducible refine sound_foldl (fun s x h => ?_) ?_)
    | (fail_if_no_progress with_reducible refine Sound.upd_est h_est _ ?_))

theorem State.estApplied_sound {E : List Part} {base : State} (hE : [Part.objects, Part.mram, Part.est] ⊆ E) (s : State) (i sub : Nat) (_old new : Int)
    (fine : Sound E base s) :
    Sound E base (State.estApplied s i sub _old new) := by
  have h_mram : Part.mram ∈ E := hE (by decide)
  have h_est : Part.est ∈ E := hE (by decide)
  have k0 : [Part.objects] ⊆ E := List.Subset.trans (by decide) hE
  unfold State.estApplied
  (try dsimp only)
  repeat' (first
    | (with_reducible assumption)
    | ((with_reducible apply State.setObj_sound k0))
    | (with_reducible refine sound_ite (fun _ => ?_) (fun _ => ?_))
    | (with_reducible refine sound_foldl (fun s x h => ?_) ?_)
    | (fail_if_no_progress with_reducible refine Sound.upd_est h_est _ ?_)
    | (fail_if_no_progress with_reducible refine Sound.upd_mram_est h_mram h_est _ ?_))

theorem State.commitCalibration_sound {E : List Part} {base : State} (hE : [Part.objects, Part.recorder, Part.alarms, Part.mram, Part.est] ⊆ E) (s : State)
    (fine : Sound E base s) :
    Sound E base (State.commitCalibration s) := by
  have h_mram : Part.mram ∈ E := hE (by decide)
  have h_est : Part.est ∈ E := hE (by decide)
  have k0 : [Part.objects] ⊆ E := List.Subset.trans (by decide) hE
  have k1 : [Part.objects, Part.recorder, Part.alarms] ⊆ E := List.Subset.trans (by decide) hE
  unfold State.commitCalibration
  (try dsimp only)
  repeat' (first
    | (with_reducible assumption)
    | ((with_reducible apply State.setObj_sound k0))
    | ((with_reducible apply State.count_sound k1))
    | (with_reducible refine sound_ite (fun _ => ?_) (fun _ => ?_))
    | (with_reducible refine sound_foldl (fun s x h => ?_) ?_)
    | (fail_if_no_progress with_reducible refine Sound.upd_est h_est _ ?_)
    | (fail_if_no_progress with_reducible refine Sound.upd_mram_est h_mram h_est _ ?_))

theorem State.modTrack_sound {E : List Part} {base : State} (hE : [Part.trk] ⊆ E) (s : State) (t : Nat) (f : Track → Track)
    (fine : Sound E base s) :
    Sound E base (State.modTrack s t f) := by
  have h_trk : Part.trk ∈ E := hE (by decide)
  unfold State.modTrack
  (try dsimp only)
  repeat' (first
    | (with_reducible assumption)
    | (with_reducible refine sound_ite (fun _ => ?_) (fun _ => ?_))
    | (with_reducible refine sound_foldl (fun s x h => ?_) ?_)
    | (fail_if_no_progress with_reducible refine Sound.upd_trk h_trk _ ?_))

theorem State.showTracks_sound {E : List Part} {base : State} (hE : [Part.objects] ⊆ E) (s : State)
    (fine : Sound E base s) :
    Sound E base (State.showTracks s) := by
  have k0 : [Part.objects] ⊆ E := List.Subset.trans (by decide) hE
  unfold State.showTracks
  repeat' (first
    | (with_reducible assumption)
    | ((with_reducible apply State.setObj_sound k0)))

theorem State.freeTrack_sound {E : List Part} {base : State} (hE : [Part.objects, Part.recorder, Part.alarms, Part.trk, Part.free] ⊆ E) (s : State) (t : Nat)
    (fine : Sound E base s) :
    Sound E base (State.freeTrack s t) := by
  have h_trk : Part.trk ∈ E := hE (by decide)
  have k0 : [Part.objects] ⊆ E := List.Subset.trans (by decide) hE
  have k1 : [Part.free] ⊆ E := List.Subset.trans (by decide) hE
  have k2 : [Part.objects, Part.recorder, Part.alarms] ⊆ E := List.Subset.trans (by decide) hE
  have k3 : [Part.objects, Part.recorder] ⊆ E := List.Subset.trans (by decide) hE
  unfold State.freeTrack
  (try dsimp only)
  repeat' (first
    | (with_reducible assumption)
    | ((with_reducible apply State.setObjs_sound k0))
    | ((with_reducible apply State.free_sound k1))
    | ((with_reducible apply State.count_sound k2))
    | ((with_reducible apply State.event_sound k3))
    | ((with_reducible apply State.alarm_sound k2))
    | ((with_reducible apply State.showTracks_sound k0))
    | (with_reducible refine sound_ite (fun _ => ?_) (fun _ => ?_))
    | (with_reducible refine sound_foldl (fun s x h => ?_) ?_)
    | (fail_if_no_progress with_reducible refine Sound.upd_trk h_trk _ ?_))

theorem State.showTrack_sound {E : List Part} {base : State} (hE : [Part.objects] ⊆ E) (s : State) (t : Nat)
    (fine : Sound E base s) :
    Sound E base (State.showTrack s t) := by
  have k0 : [Part.objects] ⊆ E := List.Subset.trans (by decide) hE
  unfold State.showTrack
  (try dsimp only)
  repeat' (first
    | (with_reducible assumption)
    | ((with_reducible apply State.setObjs_sound k0)))

theorem State.judgeTrack_sound {E : List Part} {base : State} (hE : [Part.objects, Part.recorder, Part.alarms, Part.trk, Part.free] ⊆ E) (s : State) (t : Nat) (now : Int)
    (fine : Sound E base s) :
    Sound E base (State.judgeTrack s t now) := by
  have k0 : [Part.objects] ⊆ E := List.Subset.trans (by decide) hE
  have k1 : [Part.objects, Part.recorder, Part.alarms, Part.trk, Part.free] ⊆ E := List.Subset.trans (by decide) hE
  unfold State.judgeTrack
  (try dsimp only)
  repeat' (first
    | (with_reducible assumption)
    | ((with_reducible apply State.setObj_sound k0))
    | ((with_reducible apply State.freeTrack_sound k1))
    | (with_reducible refine sound_ite (fun _ => ?_) (fun _ => ?_))
    | (with_reducible refine sound_foldl (fun s x h => ?_) ?_)
    | (dsimp only)
    | (split))

theorem State.hitTrack_sound {E : List Part} {base : State} (hE : [Part.objects, Part.trk] ⊆ E) (s : State) (t : Nat) (k : Track) (d : Detection)
    (fine : Sound E base s) :
    Sound E base (State.hitTrack s t k d) := by
  have k0 : [Part.trk] ⊆ E := List.Subset.trans (by decide) hE
  have k1 : [Part.objects] ⊆ E := List.Subset.trans (by decide) hE
  unfold State.hitTrack
  (try dsimp only)
  repeat' (first
    | (with_reducible assumption)
    | ((with_reducible apply State.modTrack_sound k0))
    | ((with_reducible apply State.setObjs_sound k1))
    | ((with_reducible apply State.showTrack_sound k1)))

theorem State.trackSamples_sound {E : List Part} {base : State} (hE : [Part.objects, Part.recorder, Part.alarms, Part.align] ⊆ E) (s : State) (t : Nat) (d : Detection)
    (fine : Sound E base s) :
    Sound E base (State.trackSamples s t d) := by
  have k0 : [Part.objects, Part.recorder, Part.alarms, Part.align] ⊆ E := List.Subset.trans (by decide) hE
  unfold State.trackSamples
  (try dsimp only)
  repeat' (first
    | (with_reducible assumption)
    | ((with_reducible apply State.deliverMapped_sound k0))
    | (with_reducible refine sound_ite (fun _ => ?_) (fun _ => ?_))
    | (with_reducible refine sound_foldl (fun s x h => ?_) ?_))

theorem State.missTrack_sound {E : List Part} {base : State} (hE : [Part.objects, Part.trk] ⊆ E) (s : State) (t : Nat) (k : Track)
    (fine : Sound E base s) :
    Sound E base (State.missTrack s t k) := by
  have k0 : [Part.trk] ⊆ E := List.Subset.trans (by decide) hE
  have k1 : [Part.objects] ⊆ E := List.Subset.trans (by decide) hE
  unfold State.missTrack
  (try dsimp only)
  repeat' (first
    | (with_reducible assumption)
    | ((with_reducible apply State.modTrack_sound k0))
    | ((with_reducible apply State.setObjs_sound k1))
    | ((with_reducible apply State.showTrack_sound k1)))

theorem State.newCandidate_sound {E : List Part} {base : State} (hE : [Part.objects, Part.recorder, Part.alarms, Part.trk, Part.free] ⊆ E) (s : State) (input : Nat) (d : Detection) (free : List Nat)
    (fine : Sound E base s) :
    Sound E base (State.newCandidate s input d free).2 := by
  have h_trk : Part.trk ∈ E := hE (by decide)
  have k0 : [Part.free] ⊆ E := List.Subset.trans (by decide) hE
  have k1 : [Part.objects, Part.recorder, Part.alarms] ⊆ E := List.Subset.trans (by decide) hE
  have k2 : [Part.trk] ⊆ E := List.Subset.trans (by decide) hE
  have k3 : [Part.objects] ⊆ E := List.Subset.trans (by decide) hE
  unfold State.newCandidate
  (try dsimp only)
  repeat' (first
    | (with_reducible assumption)
    | ((with_reducible apply State.free_sound k0))
    | ((with_reducible apply State.count_sound k1))
    | ((with_reducible apply State.modTrack_sound k2))
    | ((with_reducible apply State.setObjs_sound k3))
    | ((with_reducible apply State.unalarm_sound k1))
    | ((with_reducible apply State.showTrack_sound k3))
    | ((with_reducible apply State.showTracks_sound k3))
    | (with_reducible refine sound_ite (fun _ => ?_) (fun _ => ?_))
    | (with_reducible refine sound_foldl (fun s x h => ?_) ?_)
    | (with_reducible refine sound_foldl2 (fun s x h => ?_) ?_)
    | (with_reducible refine sound_foldl3 (fun s x h => ?_) ?_)
    | (fail_if_no_progress with_reducible refine Sound.upd_trk h_trk _ ?_)
    | (dsimp only)
    | (refine sound_snd (by assumption) ?_)
    | (refine sound_fst (by assumption) ?_)
    | (refine sound_thd (by assumption) ?_)
    | (split))

theorem State.scanTracks_sound {E : List Part} {base : State} (hE : [Part.objects, Part.recorder, Part.alarms, Part.align, Part.trk, Part.free] ⊆ E) (s : State) (c : Scan) (mine : List Nat) (taken : List (Nat × Nat)) (ds : List Detection)
    (fine : Sound E base s) :
    Sound E base (State.scanTracks s c mine taken ds) := by
  have k0 : [Part.objects, Part.trk] ⊆ E := List.Subset.trans (by decide) hE
  have k1 : [Part.objects, Part.recorder, Part.alarms, Part.trk, Part.free] ⊆ E := List.Subset.trans (by decide) hE
  have k2 : [Part.objects, Part.recorder, Part.alarms, Part.align] ⊆ E := List.Subset.trans (by decide) hE
  unfold State.scanTracks
  (try dsimp only)
  repeat' (first
    | (with_reducible assumption)
    | ((with_reducible apply State.hitTrack_sound k0))
    | ((with_reducible apply State.missTrack_sound k0))
    | ((with_reducible apply State.judgeTrack_sound k1))
    | ((with_reducible apply State.trackSamples_sound k2))
    | (with_reducible refine sound_ite (fun _ => ?_) (fun _ => ?_))
    | (with_reducible refine sound_foldl (fun s x h => ?_) ?_)
    | (dsimp only)
    | (split))

theorem State.untaken_sound {E : List Part} {base : State} (hE : [Part.objects, Part.recorder, Part.alarms, Part.trk, Part.free] ⊆ E) (input : Nat) (acc : List Nat × State) (d : Detection)
    (fine : Sound E base acc.2) :
    Sound E base (State.untaken input acc d).2 := by
  have k0 : [Part.objects, Part.recorder, Part.alarms] ⊆ E := List.Subset.trans (by decide) hE
  have k1 : [Part.objects, Part.recorder, Part.alarms, Part.trk, Part.free] ⊆ E := List.Subset.trans (by decide) hE
  unfold State.untaken
  (try dsimp only)
  repeat' (first
    | (with_reducible assumption)
    | ((with_reducible apply State.count_sound k0))
    | ((with_reducible apply State.newCandidate_sound k1))
    | (with_reducible refine sound_ite (fun _ => ?_) (fun _ => ?_))
    | (with_reducible refine sound_foldl (fun s x h => ?_) ?_)
    | (with_reducible refine sound_foldl2 (fun s x h => ?_) ?_)
    | (with_reducible refine sound_foldl3 (fun s x h => ?_) ?_)
    | (dsimp only)
    | (refine sound_snd (by assumption) ?_)
    | (refine sound_fst (by assumption) ?_)
    | (refine sound_thd (by assumption) ?_)
    | (split))

theorem State.scan_sound {E : List Part} {base : State} (hE : [Part.objects, Part.recorder, Part.alarms, Part.align, Part.trk, Part.free] ⊆ E) (s : State) (c : Scan)
    (fine : Sound E base s) :
    Sound E base (State.scan s c) := by
  have k0 : [Part.objects, Part.recorder, Part.alarms] ⊆ E := List.Subset.trans (by decide) hE
  have k1 : [Part.free] ⊆ E := List.Subset.trans (by decide) hE
  have k2 : [Part.objects, Part.recorder, Part.alarms, Part.trk, Part.free] ⊆ E := List.Subset.trans (by decide) hE
  have k3 : [Part.objects, Part.recorder, Part.alarms, Part.align, Part.trk, Part.free] ⊆ E := List.Subset.trans (by decide) hE
  unfold State.scan
  (try dsimp only)
  repeat' (first
    | (with_reducible assumption)
    | ((with_reducible apply State.count_sound k0))
    | ((with_reducible apply State.countBy_sound k0))
    | ((with_reducible apply State.free_sound k1))
    | ((with_reducible apply State.untaken_sound k2))
    | ((with_reducible apply State.scanTracks_sound k3))
    | (with_reducible refine sound_ite (fun _ => ?_) (fun _ => ?_))
    | (with_reducible refine sound_foldl (fun s x h => ?_) ?_)
    | (with_reducible refine sound_foldl2 (fun s x h => ?_) ?_))

theorem State.expireTracks_sound {E : List Part} {base : State} (hE : [Part.objects, Part.recorder, Part.alarms, Part.trk, Part.free] ⊆ E) (s : State) (t0 : Int)
    (fine : Sound E base s) :
    Sound E base (State.expireTracks s t0) := by
  have k0 : [Part.objects, Part.recorder, Part.alarms, Part.trk, Part.free] ⊆ E := List.Subset.trans (by decide) hE
  unfold State.expireTracks
  repeat' (first
    | (with_reducible assumption)
    | ((with_reducible apply State.freeTrack_sound k0))
    | (with_reducible refine sound_ite (fun _ => ?_) (fun _ => ?_))
    | (with_reducible refine sound_foldl (fun s x h => ?_) ?_))

theorem State.tracksApplied_sound {E : List Part} {base : State} (hE : [Part.objects, Part.recorder, Part.alarms, Part.trk, Part.free] ⊆ E) (s : State) (i sub : Nat) (_old new : Int)
    (fine : Sound E base s) :
    Sound E base (State.tracksApplied s i sub _old new) := by
  have k0 : [Part.objects] ⊆ E := List.Subset.trans (by decide) hE
  have k1 : [Part.objects, Part.recorder, Part.alarms, Part.trk, Part.free] ⊆ E := List.Subset.trans (by decide) hE
  unfold State.tracksApplied
  (try dsimp only)
  repeat' (first
    | (with_reducible assumption)
    | ((with_reducible apply State.setObj_sound k0))
    | ((with_reducible apply State.freeTrack_sound k1))
    | (with_reducible refine sound_ite (fun _ => ?_) (fun _ => ?_)))

theorem State.initHorizontal_sound {E : List Part} {base : State} (hE : [Part.ctl] ⊆ E) (s : State)
    (fine : Sound E base s) :
    Sound E base (State.initHorizontal s) := by
  have h_ctl : Part.ctl ∈ E := hE (by decide)
  unfold State.initHorizontal
  (try dsimp only)
  repeat' (first
    | (with_reducible assumption)
    | (with_reducible refine sound_ite (fun _ => ?_) (fun _ => ?_))
    | (with_reducible refine sound_foldl (fun s x h => ?_) ?_)
    | (fail_if_no_progress with_reducible refine Sound.upd_ctl h_ctl _ ?_))

theorem State.initHeading_sound {E : List Part} {base : State} (hE : [Part.ctl] ⊆ E) (s : State)
    (fine : Sound E base s) :
    Sound E base (State.initHeading s) := by
  have h_ctl : Part.ctl ∈ E := hE (by decide)
  unfold State.initHeading
  (try dsimp only)
  repeat' (first
    | (with_reducible assumption)
    | (with_reducible refine sound_ite (fun _ => ?_) (fun _ => ?_))
    | (with_reducible refine sound_foldl (fun s x h => ?_) ?_)
    | (fail_if_no_progress with_reducible refine Sound.upd_ctl h_ctl _ ?_))

theorem State.startLeg_sound {E : List Part} {base : State} (hE : [Part.ctl] ⊆ E) (s : State)
    (fine : Sound E base s) :
    Sound E base (State.startLeg s) := by
  have h_ctl : Part.ctl ∈ E := hE (by decide)
  unfold State.startLeg
  (try dsimp only)
  repeat' (first
    | (with_reducible assumption)
    | (with_reducible refine sound_ite (fun _ => ?_) (fun _ => ?_))
    | (with_reducible refine sound_foldl (fun s x h => ?_) ?_)
    | (fail_if_no_progress with_reducible refine Sound.upd_ctl h_ctl _ ?_))

theorem State.shares_sound {E : List Part} {base : State} (hE : [Part.ctl] ⊆ E) (s : State)
    (fine : Sound E base s) :
    Sound E base (State.shares s) := by
  have h_ctl : Part.ctl ∈ E := hE (by decide)
  have k0 : [Part.ctl] ⊆ E := List.Subset.trans (by decide) hE
  unfold State.shares
  (try dsimp only)
  repeat' (first
    | (with_reducible assumption)
    | ((with_reducible apply State.startLeg_sound k0))
    | (with_reducible refine sound_ite (fun _ => ?_) (fun _ => ?_))
    | (with_reducible refine sound_foldl (fun s x h => ?_) ?_)
    | (fail_if_no_progress with_reducible refine Sound.upd_ctl h_ctl _ ?_))

theorem State.refStep_sound {E : List Part} {base : State} (hE : [Part.objects, Part.ctl] ⊆ E) (s : State)
    (fine : Sound E base s) :
    Sound E base (State.refStep s) := by
  have h_ctl : Part.ctl ∈ E := hE (by decide)
  have k0 : [Part.ctl] ⊆ E := List.Subset.trans (by decide) hE
  have k1 : [Part.objects] ⊆ E := List.Subset.trans (by decide) hE
  unfold State.refStep
  (try dsimp only)
  repeat' (first
    | (with_reducible assumption)
    | ((with_reducible apply State.shares_sound k0))
    | ((with_reducible apply State.initHorizontal_sound k0))
    | ((with_reducible apply State.initHeading_sound k0))
    | ((with_reducible apply State.setObjs_sound k1))
    | ((with_reducible apply State.setBit_sound k1))
    | (with_reducible refine sound_ite (fun _ => ?_) (fun _ => ?_))
    | (with_reducible refine sound_foldl (fun s x h => ?_) ?_)
    | (fail_if_no_progress with_reducible refine Sound.upd_ctl h_ctl _ ?_))

theorem State.setMode_sound {E : List Part} {base : State} (hE : [Part.objects, Part.ctl] ⊆ E) (s : State) (m : Nat)
    (fine : Sound E base s) :
    Sound E base (State.setMode s m) := by
  have h_ctl : Part.ctl ∈ E := hE (by decide)
  have k0 : [Part.objects] ⊆ E := List.Subset.trans (by decide) hE
  unfold State.setMode
  (try dsimp only)
  repeat' (first
    | (with_reducible assumption)
    | ((with_reducible apply State.setObjs_sound k0))
    | (with_reducible refine sound_ite (fun _ => ?_) (fun _ => ?_))
    | (with_reducible refine sound_foldl (fun s x h => ?_) ?_)
    | (fail_if_no_progress with_reducible refine Sound.upd_ctl h_ctl _ ?_))

theorem State.enterAxes_sound {E : List Part} {base : State} (hE : [Part.ctl] ⊆ E) (s : State) (old new : Nat)
    (fine : Sound E base s) :
    Sound E base (State.enterAxes s old new) := by
  have h_ctl : Part.ctl ∈ E := hE (by decide)
  have k0 : [Part.ctl] ⊆ E := List.Subset.trans (by decide) hE
  unfold State.enterAxes
  (try dsimp only)
  repeat' (first
    | (with_reducible assumption)
    | ((with_reducible apply State.initHorizontal_sound k0))
    | ((with_reducible apply State.initHeading_sound k0))
    | (with_reducible refine sound_ite (fun _ => ?_) (fun _ => ?_))
    | (with_reducible refine sound_foldl (fun s x h => ?_) ?_)
    | (fail_if_no_progress with_reducible refine Sound.upd_ctl h_ctl _ ?_))

theorem State.stopMode_sound {E : List Part} {base : State} (hE : [Part.objects, Part.ctl] ⊆ E) (s : State) (m : Nat)
    (fine : Sound E base s) :
    Sound E base (State.stopMode s m) := by
  have h_ctl : Part.ctl ∈ E := hE (by decide)
  have k0 : [Part.objects, Part.ctl] ⊆ E := List.Subset.trans (by decide) hE
  have k1 : [Part.objects] ⊆ E := List.Subset.trans (by decide) hE
  unfold State.stopMode
  (try dsimp only)
  repeat' (first
    | (with_reducible assumption)
    | ((with_reducible apply State.setMode_sound k0))
    | ((with_reducible apply State.setObjs_sound k1))
    | (with_reducible refine sound_ite (fun _ => ?_) (fun _ => ?_))
    | (with_reducible refine sound_foldl (fun s x h => ?_) ?_)
    | (fail_if_no_progress with_reducible refine Sound.upd_ctl h_ctl _ ?_))

theorem State.beginTransfer_sound {E : List Part} {base : State} (hE : [Part.objects, Part.ctl] ⊆ E) (s : State) (old : Nat) (oldInteg : List Rat) (frozen : Option (List Rat))
    (fine : Sound E base s) :
    Sound E base (State.beginTransfer s old oldInteg frozen) := by
  have h_ctl : Part.ctl ∈ E := hE (by decide)
  have k0 : [Part.objects] ⊆ E := List.Subset.trans (by decide) hE
  unfold State.beginTransfer
  (try dsimp only)
  repeat' (first
    | (with_reducible assumption)
    | ((with_reducible apply State.setObjs_sound k0))
    | (with_reducible refine sound_ite (fun _ => ?_) (fun _ => ?_))
    | (with_reducible refine sound_foldl (fun s x h => ?_) ?_)
    | (fail_if_no_progress with_reducible refine Sound.upd_ctl h_ctl _ ?_))

theorem State.forced_sound {E : List Part} {base : State} (hE : [Part.objects, Part.recorder, Part.alarms, Part.ctl] ⊆ E) (s : State) (m cause : Nat)
    (fine : Sound E base s) :
    Sound E base (State.forced s m cause) := by
  have k0 : [Part.objects] ⊆ E := List.Subset.trans (by decide) hE
  have k1 : [Part.objects, Part.recorder, Part.alarms] ⊆ E := List.Subset.trans (by decide) hE
  have k2 : [Part.objects, Part.recorder] ⊆ E := List.Subset.trans (by decide) hE
  have k3 : [Part.objects, Part.ctl] ⊆ E := List.Subset.trans (by decide) hE
  have k4 : [Part.ctl] ⊆ E := List.Subset.trans (by decide) hE
  unfold State.forced
  (try dsimp only)
  repeat' (first
    | (with_reducible assumption)
    | ((with_reducible apply State.setObj_sound k0))
    | ((with_reducible apply State.count_sound k1))
    | ((with_reducible apply State.event_sound k2))
    | ((with_reducible apply State.setObjs_sound k0))
    | ((with_reducible apply State.setMode_sound k3))
    | ((with_reducible apply State.enterAxes_sound k4))
    | ((with_reducible apply State.refStep_sound k3))
    | ((with_reducible apply State.beginTransfer_sound k3))
    | (with_reducible refine sound_ite (fun _ => ?_) (fun _ => ?_)))

theorem State.enterBollard_sound {E : List Part} {base : State} (hE : [Part.power, Part.objects, Part.recorder, Part.alarms, Part.ctl] ⊆ E) (s : State) (cause : Nat)
    (fine : Sound E base s) :
    Sound E base (State.enterBollard s cause) := by
  have h_ctl : Part.ctl ∈ E := hE (by decide)
  have k0 : [Part.objects] ⊆ E := List.Subset.trans (by decide) hE
  have k1 : [Part.objects, Part.recorder, Part.alarms] ⊆ E := List.Subset.trans (by decide) hE
  have k2 : [Part.objects, Part.recorder] ⊆ E := List.Subset.trans (by decide) hE
  have k3 : [Part.power, Part.objects, Part.ctl] ⊆ E := List.Subset.trans (by decide) hE
  have k4 : [Part.objects, Part.ctl] ⊆ E := List.Subset.trans (by decide) hE
  unfold State.enterBollard
  (try dsimp only)
  repeat' (first
    | (with_reducible assumption)
    | ((with_reducible apply State.setObj_sound k0))
    | ((with_reducible apply State.count_sound k1))
    | ((with_reducible apply State.event_sound k2))
    | ((with_reducible apply State.stopMode_sound k4))
    | ((with_reducible apply State.refStep_sound k4))
    | (with_reducible refine sound_ite (fun _ => ?_) (fun _ => ?_))
    | (with_reducible refine sound_foldl (fun s x h => ?_) ?_)
    | (fail_if_no_progress with_reducible refine Sound.upd_ctl h_ctl _ ?_))

theorem State.takeSetPoints_sound {E : List Part} {base : State} (hE : [Part.objects] ⊆ E) (s : State)
    (fine : Sound E base s) :
    Sound E base (State.takeSetPoints s) := by
  have k0 : [Part.objects] ⊆ E := List.Subset.trans (by decide) hE
  unfold State.takeSetPoints
  (try dsimp only)
  repeat' (first
    | (with_reducible assumption)
    | ((with_reducible apply State.setObjs_sound k0))
    | ((with_reducible apply State.setObj_sound k0))
    | (with_reducible refine sound_ite (fun _ => ?_) (fun _ => ?_)))

theorem State.outcome_sound {E : List Part} {base : State} (hE : [Part.objects] ⊆ E) (s : State) (o : Nat)
    (fine : Sound E base s) :
    Sound E base (State.outcome s o) := by
  have k0 : [Part.objects] ⊆ E := List.Subset.trans (by decide) hE
  unfold State.outcome
  repeat' (first
    | (with_reducible assumption)
    | ((with_reducible apply State.setObjs_sound k0)))

theorem State.overtaken_sound {E : List Part} {base : State} (hE : [Part.objects] ⊆ E) (s : State)
    (fine : Sound E base s) :
    Sound E base (State.overtaken s) := by
  have k0 : [Part.objects] ⊆ E := List.Subset.trans (by decide) hE
  unfold State.overtaken
  repeat' (first
    | (with_reducible assumption)
    | ((with_reducible apply State.outcome_sound k0))
    | (with_reducible refine sound_ite (fun _ => ?_) (fun _ => ?_)))

theorem State.candidate_sound {E : List Part} {base : State} (hE : [Part.objects, Part.ctl] ⊆ E) (s : State) (m : Nat)
    (fine : Sound E base s) :
    Sound E base (State.candidate s m) := by
  have h_ctl : Part.ctl ∈ E := hE (by decide)
  have k0 : [Part.objects, Part.ctl] ⊆ E := List.Subset.trans (by decide) hE
  have k1 : [Part.ctl] ⊆ E := List.Subset.trans (by decide) hE
  have k2 : [Part.objects] ⊆ E := List.Subset.trans (by decide) hE
  unfold State.candidate
  (try dsimp only)
  repeat' (first
    | (with_reducible assumption)
    | ((with_reducible apply State.setMode_sound k0))
    | ((with_reducible apply State.enterAxes_sound k1))
    | ((with_reducible apply State.takeSetPoints_sound k2))
    | ((with_reducible apply State.startLeg_sound k1))
    | ((with_reducible apply State.refStep_sound k0))
    | ((with_reducible apply State.beginTransfer_sound k0))
    | (with_reducible refine sound_ite (fun _ => ?_) (fun _ => ?_))
    | (with_reducible refine sound_foldl (fun s x h => ?_) ?_)
    | (fail_if_no_progress with_reducible refine Sound.upd_ctl h_ctl _ ?_))

theorem State.request_sound {E : List Part} {base : State} (hE : [Part.power, Part.objects, Part.recorder, Part.alarms, Part.ctl] ⊆ E) (s : State) (m : Nat)
    (fine : Sound E base s) :
    Sound E base (State.request s m) := by
  have h_power : Part.power ∈ E := hE (by decide)
  have h_ctl : Part.ctl ∈ E := hE (by decide)
  have k0 : [Part.objects] ⊆ E := List.Subset.trans (by decide) hE
  have k1 : [Part.objects, Part.ctl] ⊆ E := List.Subset.trans (by decide) hE
  have k2 : [Part.ctl] ⊆ E := List.Subset.trans (by decide) hE
  have k3 : [Part.power, Part.objects, Part.ctl] ⊆ E := List.Subset.trans (by decide) hE
  have k4 : [Part.objects, Part.recorder, Part.alarms] ⊆ E := List.Subset.trans (by decide) hE
  unfold State.request
  split
  · exact State.refStep_sound k1 _ (State.outcome_sound k0 _ _ fine)
  · split
    · apply State.refStep_sound k1
      apply State.outcome_sound k0
      apply State.startLeg_sound k2
      apply State.takeSetPoints_sound k0
      with_reducible refine Sound.upd_ctl h_ctl _ ?_
      exact fine
    · have hc := State.candidate_sound k1 _ m fine
      dsimp only
      split
      · apply State.outcome_sound k0
        apply State.unalarm_sound k4
        apply sound_ite
        · intro _
          apply State.harbourLeave_sound k0
          exact Sound.upd_power_ctl h_power h_ctl _ hc
        · intro _
          exact Sound.upd_power_ctl h_power h_ctl _ hc
      · apply State.refStep_sound k1
        apply State.alarm_sound k4
        apply State.count_sound k4
        exact State.outcome_sound k0 _ _ fine

theorem State.abandonResume_sound {E : List Part} {base : State} (hE : [Part.power, Part.objects, Part.recorder, Part.alarms, Part.ctl] ⊆ E) (s : State)
    (fine : Sound E base s) :
    Sound E base (State.abandonResume s) := by
  have h_power : Part.power ∈ E := hE (by decide)
  have h_ctl : Part.ctl ∈ E := hE (by decide)
  have k0 : [Part.power, Part.objects, Part.ctl] ⊆ E := List.Subset.trans (by decide) hE
  have k1 : [Part.objects] ⊆ E := List.Subset.trans (by decide) hE
  have k2 : [Part.objects, Part.recorder, Part.alarms] ⊆ E := List.Subset.trans (by decide) hE
  unfold State.abandonResume
  (try dsimp only)
  repeat' (first
    | (with_reducible assumption)
    | ((with_reducible apply State.setObj_sound k1))
    | ((with_reducible apply State.alarm_sound k2))
    | (with_reducible refine sound_ite (fun _ => ?_) (fun _ => ?_))
    | (with_reducible refine sound_foldl (fun s x h => ?_) ?_)
    | (fail_if_no_progress with_reducible refine Sound.upd_power_ctl h_power h_ctl _ ?_))

theorem State.adoptResume_sound {E : List Part} {base : State} (hE : [Part.power, Part.objects, Part.ctl] ⊆ E) (s : State) (k : KeptMode)
    (fine : Sound E base s) :
    Sound E base (State.adoptResume s k) := by
  have h_ctl : Part.ctl ∈ E := hE (by decide)
  have k0 : [Part.power, Part.objects, Part.ctl] ⊆ E := List.Subset.trans (by decide) hE
  have k1 : [Part.objects] ⊆ E := List.Subset.trans (by decide) hE
  unfold State.adoptResume
  (try dsimp only)
  repeat' (first
    | (with_reducible assumption)
    | ((with_reducible apply State.setObjs_sound k1))
    | (with_reducible refine sound_ite (fun _ => ?_) (fun _ => ?_))
    | (with_reducible refine sound_foldl (fun s x h => ?_) ?_)
    | (fail_if_no_progress with_reducible refine Sound.upd_ctl h_ctl _ ?_))

theorem State.judgeResume_sound {E : List Part} {base : State} (hE : [Part.power, Part.objects, Part.recorder, Part.alarms, Part.ctl] ⊆ E) (s : State)
    (fine : Sound E base s) :
    Sound E base (State.judgeResume s) := by
  have h_power : Part.power ∈ E := hE (by decide)
  have k0 : [Part.power, Part.objects, Part.ctl] ⊆ E := List.Subset.trans (by decide) hE
  have k1 : [Part.power, Part.objects, Part.recorder, Part.alarms, Part.ctl] ⊆ E := List.Subset.trans (by decide) hE
  have k2 : [Part.objects] ⊆ E := List.Subset.trans (by decide) hE
  unfold State.judgeResume
  (try dsimp only)
  repeat' (first
    | (with_reducible assumption)
    | ((with_reducible apply State.adoptResume_sound k0))
    | ((with_reducible apply State.abandonResume_sound k1))
    | ((with_reducible apply State.setObj_sound k2))
    | (with_reducible refine sound_ite (fun _ => ?_) (fun _ => ?_))
    | (with_reducible refine sound_foldl (fun s x h => ?_) ?_)
    | (fail_if_no_progress with_reducible refine Sound.upd_power h_power _ ?_)
    | (dsimp only)
    | (split))

theorem State.resume_sound {E : List Part} {base : State} (hE : [Part.power, Part.objects, Part.ctl] ⊆ E) (s : State) (fine : Sound E base s) (s' : State) (h : State.resume s = some s') : Sound E base s' := by
  have h_power : Part.power ∈ E := hE (by decide)
  have h_ctl : Part.ctl ∈ E := hE (by decide)
  have k0 : [Part.ctl] ⊆ E := List.Subset.trans (by decide) hE
  have k1 : [Part.objects] ⊆ E := List.Subset.trans (by decide) hE
  have k2 : [Part.objects, Part.ctl] ⊆ E := List.Subset.trans (by decide) hE
  unfold State.resume at h
  split at h
  · split at h
    · cases h
      dsimp only
      apply State.setObj_sound k1
      with_reducible refine Sound.upd_power_ctl h_power h_ctl _ ?_
      apply State.beginTransfer_sound k2
      apply State.refStep_sound k2
      apply State.setMode_sound k2
      apply State.setObjs_sound k1
      apply State.enterAxes_sound k0
      exact fine
    · cases h
  · cases h

theorem State.standing_sound {E : List Part} {base : State} (hE : [Part.power, Part.objects, Part.recorder, Part.alarms, Part.ctl] ⊆ E) (s : State) (req m : Nat)
    (fine : Sound E base s) :
    Sound E base (State.standing s req m) := by
  have k0 : [Part.objects, Part.ctl] ⊆ E := List.Subset.trans (by decide) hE
  have k1 : [Part.objects] ⊆ E := List.Subset.trans (by decide) hE
  have k2 : [Part.power, Part.objects, Part.recorder, Part.alarms, Part.ctl] ⊆ E := List.Subset.trans (by decide) hE
  unfold State.standing
  repeat' (first
    | (with_reducible assumption)
    | ((with_reducible apply State.refStep_sound k0))
    | ((with_reducible apply State.outcome_sound k1))
    | ((with_reducible apply State.stopMode_sound k0))
    | ((with_reducible apply State.request_sound k2))
    | (with_reducible refine sound_ite (fun _ => ?_) (fun _ => ?_)))

theorem State.trigger_sound {E : List Part} {base : State} (hE : [Part.power, Part.objects, Part.recorder, Part.alarms, Part.ctl] ⊆ E) (s : State) (req m : Nat)
    (fine : Sound E base s) :
    Sound E base (State.trigger s req m) := by
  have k0 : [Part.power, Part.objects, Part.recorder, Part.alarms, Part.ctl] ⊆ E := List.Subset.trans (by decide) hE
  have k1 : [Part.objects] ⊆ E := List.Subset.trans (by decide) hE
  have k2 : [Part.objects, Part.recorder, Part.alarms, Part.ctl] ⊆ E := List.Subset.trans (by decide) hE
  have k3 : [Part.power, Part.objects, Part.ctl] ⊆ E := List.Subset.trans (by decide) hE
  unfold State.trigger
  (try dsimp only)
  repeat' (first
    | (with_reducible assumption)
    | ((with_reducible apply State.enterBollard_sound k0))
    | ((with_reducible apply State.overtaken_sound k1))
    | ((with_reducible apply State.outcome_sound k1))
    | ((with_reducible apply State.forced_sound k2))
    | ((with_reducible apply State.standing_sound k0))
    | (refine State.resume_sound k3 _ ?_ _ (by assumption))
    | (with_reducible refine sound_ite (fun _ => ?_) (fun _ => ?_))
    | (with_reducible refine sound_foldl (fun s x h => ?_) ?_)
    | (dsimp only)
    | (split))

theorem State.supervise_sound {E : List Part} {base : State} (hE : [Part.power, Part.objects, Part.recorder, Part.alarms, Part.ctl] ⊆ E) (s : State)
    (fine : Sound E base s) :
    Sound E base (State.supervise s) := by
  have h_ctl : Part.ctl ∈ E := hE (by decide)
  have k0 : [Part.power, Part.objects, Part.recorder, Part.alarms, Part.ctl] ⊆ E := List.Subset.trans (by decide) hE
  unfold State.supervise
  (try dsimp only)
  repeat' (first
    | (with_reducible assumption)
    | ((with_reducible apply State.trigger_sound k0))
    | (with_reducible refine sound_ite (fun _ => ?_) (fun _ => ?_))
    | (with_reducible refine sound_foldl (fun s x h => ?_) ?_)
    | (fail_if_no_progress with_reducible refine Sound.upd_ctl h_ctl _ ?_))

theorem State.fadeWind_sound {E : List Part} {base : State} (hE : [Part.objects, Part.ctl] ⊆ E) (s : State)
    (fine : Sound E base s) :
    Sound E base (State.fadeWind s) := by
  have h_ctl : Part.ctl ∈ E := hE (by decide)
  have k0 : [Part.objects] ⊆ E := List.Subset.trans (by decide) hE
  unfold State.fadeWind
  (try dsimp only)
  repeat' (first
    | (with_reducible assumption)
    | ((with_reducible apply State.setBit_sound k0))
    | (with_reducible refine sound_ite (fun _ => ?_) (fun _ => ?_))
    | (with_reducible refine sound_foldl (fun s x h => ?_) ?_)
    | (fail_if_no_progress with_reducible refine Sound.upd_ctl h_ctl _ ?_))

theorem State.engine_sound {E : List Part} {base : State} (hE : [Part.objects, Part.recorder, Part.alarms, Part.est, Part.ctl] ⊆ E) (s : State)
    (fine : Sound E base s) :
    Sound E base (State.engine s) := by
  have h_est : Part.est ∈ E := hE (by decide)
  have h_ctl : Part.ctl ∈ E := hE (by decide)
  have k0 : [Part.objects, Part.ctl] ⊆ E := List.Subset.trans (by decide) hE
  have k1 : [Part.objects] ⊆ E := List.Subset.trans (by decide) hE
  have k2 : [Part.objects, Part.recorder, Part.alarms] ⊆ E := List.Subset.trans (by decide) hE
  unfold State.engine
  (try dsimp only)
  repeat' (first
    | (with_reducible assumption)
    | ((with_reducible apply State.fadeWind_sound k0))
    | ((with_reducible apply State.setObjs_sound k1))
    | ((with_reducible apply State.setBit_sound k1))
    | ((with_reducible apply State.count_sound k2))
    | ((with_reducible apply State.alarm_sound k2))
    | (with_reducible refine sound_ite (fun _ => ?_) (fun _ => ?_))
    | (with_reducible refine sound_foldl (fun s x h => ?_) ?_)
    | (fail_if_no_progress with_reducible refine Sound.upd_ctl h_ctl _ ?_)
    | (fail_if_no_progress with_reducible refine Sound.upd_est h_est _ ?_))

theorem State.joystick_sound {E : List Part} {base : State} (hE : [Part.objects, Part.recorder, Part.alarms] ⊆ E) (s : State)
    (fine : Sound E base s) :
    Sound E base (State.joystick s) := by
  have k0 : [Part.objects] ⊆ E := List.Subset.trans (by decide) hE
  have k1 : [Part.objects, Part.recorder, Part.alarms] ⊆ E := List.Subset.trans (by decide) hE
  unfold State.joystick
  (try dsimp only)
  repeat' (first
    | (with_reducible assumption)
    | ((with_reducible apply State.setBit_sound k0))
    | ((with_reducible apply State.alarmIf_sound k1)))

theorem State.reorigin_sound {E : List Part} {base : State} (hE : [Part.objects, Part.est, Part.ctl] ⊆ E) (s : State)
    (fine : Sound E base s) :
    Sound E base (State.reorigin s) := by
  have h_est : Part.est ∈ E := hE (by decide)
  have h_ctl : Part.ctl ∈ E := hE (by decide)
  have k0 : [Part.objects] ⊆ E := List.Subset.trans (by decide) hE
  unfold State.reorigin
  (try dsimp only)
  repeat' (first
    | (with_reducible assumption)
    | ((with_reducible apply State.setObjs_sound k0))
    | (with_reducible refine sound_ite (fun _ => ?_) (fun _ => ?_))
    | (with_reducible refine sound_foldl (fun s x h => ?_) ?_)
    | (fail_if_no_progress with_reducible refine Sound.upd_est_ctl h_est h_ctl _ ?_))

theorem State.swapBanks_sound {E : List Part} {base : State} (hE : [Part.objects, Part.recorder, Part.alarms, Part.ctl] ⊆ E) (s : State)
    (fine : Sound E base s) :
    Sound E base (State.swapBanks s) := by
  have h_ctl : Part.ctl ∈ E := hE (by decide)
  have k0 : [Part.objects] ⊆ E := List.Subset.trans (by decide) hE
  have k1 : [Part.objects, Part.recorder, Part.alarms] ⊆ E := List.Subset.trans (by decide) hE
  unfold State.swapBanks
  (try dsimp only)
  repeat' (first
    | (with_reducible assumption)
    | ((with_reducible apply State.setObjs_sound k0))
    | ((with_reducible apply State.count_sound k1))
    | ((with_reducible apply State.countBy_sound k1))
    | (with_reducible refine sound_ite (fun _ => ?_) (fun _ => ?_))
    | (with_reducible refine sound_foldl (fun s x h => ?_) ?_)
    | (fail_if_no_progress with_reducible refine Sound.upd_ctl h_ctl _ ?_))

theorem State.copyObject_sound {E : List Part} {base : State} (hE : [Part.objects] ⊆ E) (s : State) (from' to' : Nat) (subs : Nat)
    (fine : Sound E base s) :
    Sound E base (State.copyObject s from' to' subs) := by
  have k0 : [Part.objects] ⊆ E := List.Subset.trans (by decide) hE
  unfold State.copyObject
  repeat' (first
    | (with_reducible assumption)
    | ((with_reducible apply State.setObj_sound k0))
    | (with_reducible refine sound_ite (fun _ => ?_) (fun _ => ?_))
    | (with_reducible refine sound_foldl (fun s x h => ?_) ?_))

theorem State.copySlot_sound {E : List Part} {base : State} (hE : [Part.objects, Part.blobs] ⊆ E) (s : State) (g h : Nat)
    (fine : Sound E base s) :
    Sound E base (State.copySlot s g h) := by
  have k0 : [Part.objects] ⊆ E := List.Subset.trans (by decide) hE
  have k1 : [Part.blobs] ⊆ E := List.Subset.trans (by decide) hE
  unfold State.copySlot
  repeat' (first
    | (with_reducible assumption)
    | ((with_reducible apply State.copyObject_sound k0))
    | ((with_reducible apply State.setBlob_sound k1)))

theorem State.copyBanks_sound {E : List Part} {base : State} (hE : [Part.objects, Part.blobs] ⊆ E) (s : State)
    (fine : Sound E base s) :
    Sound E base (State.copyBanks s) := by
  have k0 : [Part.objects] ⊆ E := List.Subset.trans (by decide) hE
  have k1 : [Part.objects, Part.blobs] ⊆ E := List.Subset.trans (by decide) hE
  unfold State.copyBanks
  (try dsimp only)
  repeat' (first
    | (with_reducible assumption)
    | ((with_reducible apply State.copyObject_sound k0))
    | ((with_reducible apply State.copySlot_sound k1))
    | (with_reducible refine sound_ite (fun _ => ?_) (fun _ => ?_))
    | (with_reducible refine sound_foldl (fun s x h => ?_) ?_))

theorem State.saveMode_sound {E : List Part} {base : State} (hE : [Part.mram] ⊆ E) (s : State)
    (fine : Sound E base s) :
    Sound E base (State.saveMode s) := by
  have h_mram : Part.mram ∈ E := hE (by decide)
  unfold State.saveMode
  (try dsimp only)
  repeat' (first
    | (with_reducible assumption)
    | (with_reducible refine sound_ite (fun _ => ?_) (fun _ => ?_))
    | (with_reducible refine sound_foldl (fun s x h => ?_) ?_)
    | (fail_if_no_progress with_reducible refine Sound.upd_mram h_mram _ ?_))

theorem State.modesApplied_sound {E : List Part} {base : State} (hE : [Part.objects, Part.ctl] ⊆ E) (s : State) (i sub : Nat) (stamp : Nat) (new : Int)
    (fine : Sound E base s) :
    Sound E base (State.modesApplied s i sub stamp new) := by
  have h_ctl : Part.ctl ∈ E := hE (by decide)
  have k0 : [Part.objects] ⊆ E := List.Subset.trans (by decide) hE
  unfold State.modesApplied
  (try dsimp only)
  repeat' (first
    | (with_reducible assumption)
    | ((with_reducible apply State.setObj_sound k0))
    | (with_reducible refine sound_ite (fun _ => ?_) (fun _ => ?_))
    | (with_reducible refine sound_foldl (fun s x h => ?_) ?_)
    | (fail_if_no_progress with_reducible refine Sound.upd_ctl h_ctl _ ?_))

theorem State.modRingPort_sound {E : List Part} {base : State} (hE : [Part.ring] ⊆ E) (s : State) (p : Nat) (f : RingPort → RingPort)
    (fine : Sound E base s) :
    Sound E base (State.modRingPort s p f) := by
  have h_ring : Part.ring ∈ E := hE (by decide)
  unfold State.modRingPort
  (try dsimp only)
  repeat' (first
    | (with_reducible assumption)
    | (with_reducible refine sound_ite (fun _ => ?_) (fun _ => ?_))
    | (with_reducible refine sound_foldl (fun s x h => ?_) ?_)
    | (fail_if_no_progress with_reducible refine Sound.upd_ring h_ring _ ?_))

theorem State.showPort_sound {E : List Part} {base : State} (hE : [Part.objects] ⊆ E) (s : State) (p : Nat)
    (fine : Sound E base s) :
    Sound E base (State.showPort s p) := by
  have k0 : [Part.objects] ⊆ E := List.Subset.trans (by decide) hE
  unfold State.showPort
  (try dsimp only)
  repeat' (first
    | (with_reducible assumption)
    | ((with_reducible apply State.setBit_sound k0)))

theorem State.sendRing_sound {E : List Part} {base : State} (hE : [Part.objects, Part.diag, Part.wires, Part.free] ⊆ E) (s : State) (b : List Byte) (port : Nat)
    (fine : Sound E base s) :
    Sound E base (State.sendRing s b port) := by
  have k0 : [Part.objects] ⊆ E := List.Subset.trans (by decide) hE
  have k1 : [Part.wires] ⊆ E := List.Subset.trans (by decide) hE
  have k2 : [Part.objects, Part.diag, Part.wires, Part.free] ⊆ E := List.Subset.trans (by decide) hE
  unfold State.sendRing
  (try dsimp only)
  repeat' (first
    | (with_reducible assumption)
    | ((with_reducible apply State.setObj_sound k0))
    | ((with_reducible apply State.tell_sound k1))
    | ((with_reducible apply State.spoilCrc_sound k2))
    | (with_reducible refine sound_ite (fun _ => ?_) (fun _ => ?_)))

theorem State.heardPort_sound {E : List Part} {base : State} (hE : [Part.objects, Part.recorder, Part.alarms, Part.ring] ⊆ E) (s : State) (p bytes failed complemented : Nat)
    (fine : Sound E base s) :
    Sound E base (State.heardPort s p bytes failed complemented) := by
  have k0 : [Part.objects] ⊆ E := List.Subset.trans (by decide) hE
  have k1 : [Part.objects, Part.recorder, Part.alarms] ⊆ E := List.Subset.trans (by decide) hE
  have k2 : [Part.ring] ⊆ E := List.Subset.trans (by decide) hE
  unfold State.heardPort
  (try dsimp only)
  repeat' (first
    | (with_reducible assumption)
    | ((with_reducible apply State.setObj_sound k0))
    | ((with_reducible apply State.countBy_sound k1))
    | ((with_reducible apply State.modRingPort_sound k2))
    | (with_reducible refine sound_ite (fun _ => ?_) (fun _ => ?_)))

theorem State.buildFrame_sound {E : List Part} {base : State} (hE : [Part.ring] ⊆ E) (s : State) (at' : Int)
    (fine : Sound E base s) :
    Sound E base (State.buildFrame s at') := by
  have h_ring : Part.ring ∈ E := hE (by decide)
  unfold State.buildFrame
  (try dsimp only)
  repeat' (first
    | (with_reducible assumption)
    | (with_reducible refine sound_ite (fun _ => ?_) (fun _ => ?_))
    | (with_reducible refine sound_foldl (fun s x h => ?_) ?_)
    | (fail_if_no_progress with_reducible refine Sound.upd_ring h_ring _ ?_)
    | (split))

theorem State.settleOwners_sound {E : List Part} {base : State} (hE : [Part.ring] ⊆ E) (s : State)
    (fine : Sound E base s) :
    Sound E base (State.settleOwners s) := by
  have h_ring : Part.ring ∈ E := hE (by decide)
  unfold State.settleOwners
  (try dsimp only)
  repeat' (first
    | (with_reducible assumption)
    | (with_reducible refine sound_ite (fun _ => ?_) (fun _ => ?_))
    | (with_reducible refine sound_foldl (fun s x h => ?_) ?_)
    | (fail_if_no_progress with_reducible refine Sound.upd_ring h_ring _ ?_))

theorem State.judgeFrame_sound {E : List Part} {base : State} (hE : [Part.objects, Part.recorder, Part.alarms, Part.ring, Part.diag] ⊆ E) (s : State)
    (fine : Sound E base s) :
    Sound E base (State.judgeFrame s) := by
  have h_ring : Part.ring ∈ E := hE (by decide)
  have k0 : [Part.objects, Part.recorder, Part.alarms] ⊆ E := List.Subset.trans (by decide) hE
  have k1 : [Part.objects] ⊆ E := List.Subset.trans (by decide) hE
  have k2 : [Part.ring] ⊆ E := List.Subset.trans (by decide) hE
  have k3 : [Part.objects, Part.recorder, Part.diag] ⊆ E := List.Subset.trans (by decide) hE
  unfold State.judgeFrame
  (try dsimp only)
  repeat' (first
    | (with_reducible assumption)
    | ((with_reducible apply State.count_sound k0))
    | ((with_reducible apply State.setObj_sound k1))
    | ((with_reducible apply State.setObjs_sound k1))
    | ((with_reducible apply State.setBit_sound k1))
    | ((with_reducible apply State.settleOwners_sound k2))
    | ((with_reducible apply State.alarmIf_sound k0))
    | ((with_reducible apply State.recheckTests_sound k3))
    | (with_reducible refine sound_ite (fun _ => ?_) (fun _ => ?_))
    | (with_reducible refine sound_foldl (fun s x h => ?_) ?_)
    | (fail_if_no_progress with_reducible refine Sound.upd_ring h_ring _ ?_))

theorem State.nextContainer_sound {E : List Part} {base : State} (hE : [Part.ring] ⊆ E) (s : State) (slot units : Nat)
    (fine : Sound E base s) :
    Sound E base (State.nextContainer s slot units).2 := by
  have h_ring : Part.ring ∈ E := hE (by decide)
  unfold State.nextContainer
  (try dsimp only)
  repeat' (first
    | (with_reducible assumption)
    | (with_reducible refine sound_ite (fun _ => ?_) (fun _ => ?_))
    | (with_reducible refine sound_foldl (fun s x h => ?_) ?_)
    | (with_reducible refine sound_foldl2 (fun s x h => ?_) ?_)
    | (with_reducible refine sound_foldl3 (fun s x h => ?_) ?_)
    | (fail_if_no_progress with_reducible refine Sound.upd_ring h_ring _ ?_)
    | (dsimp only)
    | (split))

theorem State.frameContainers_sound {E : List Part} {base : State} (hE : [Part.ring] ⊆ E) (s : State) (g : List (Nat × Nat × Nat))
    (fine : Sound E base s) :
    Sound E base (State.frameContainers s g).2 := by
  have k0 : [Part.ring] ⊆ E := List.Subset.trans (by decide) hE
  unfold State.frameContainers
  (try dsimp only)
  repeat' (first
    | (with_reducible assumption)
    | ((with_reducible apply State.nextContainer_sound k0))
    | (with_reducible refine sound_ite (fun _ => ?_) (fun _ => ?_))
    | (with_reducible refine sound_foldl (fun s x h => ?_) ?_)
    | (with_reducible refine sound_foldl2 (fun s x h => ?_) ?_)
    | (with_reducible refine sound_foldl3 (fun s x h => ?_) ?_)
    | (dsimp only)
    | (refine sound_snd (by assumption) ?_)
    | (refine sound_fst (by assumption) ?_)
    | (refine sound_thd (by assumption) ?_)
    | (split))

theorem State.passPacket_sound {E : List Part} {base : State} (hE : [Part.objects, Part.recorder, Part.alarms, Part.ring, Part.diag, Part.wires, Part.free] ⊆ E) (s : State) (port : Nat) (b : List Byte) (twin : Twin)
    (fine : Sound E base s) :
    Sound E base (State.passPacket s port b twin) := by
  have k0 : [Part.objects, Part.recorder, Part.alarms, Part.ring] ⊆ E := List.Subset.trans (by decide) hE
  have k1 : [Part.objects, Part.diag, Part.wires, Part.free] ⊆ E := List.Subset.trans (by decide) hE
  unfold State.passPacket
  (try dsimp only)
  repeat' (first
    | (with_reducible assumption)
    | ((with_reducible apply State.heardPort_sound k0))
    | ((with_reducible apply State.sendRing_sound k1))
    | (with_reducible refine sound_ite (fun _ => ?_) (fun _ => ?_))
    | (with_reducible refine sound_foldl (fun s x h => ?_) ?_))

theorem State.shiftPs_sound {E : List Part} {base : State} (hE : [Part.clock] ⊆ E) (s : State) (ps : Int)
    (fine : Sound E base s) :
    Sound E base (State.shiftPs s ps) := by
  have h_clock : Part.clock ∈ E := hE (by decide)
  unfold State.shiftPs
  (try dsimp only)
  repeat' (first
    | (with_reducible assumption)
    | (with_reducible refine sound_ite (fun _ => ?_) (fun _ => ?_))
    | (with_reducible refine sound_foldl (fun s x h => ?_) ?_)
    | (fail_if_no_progress with_reducible refine Sound.upd_clock h_clock _ ?_))

theorem State.follow_sound {E : List Part} {base : State} (hE : [Part.clock, Part.objects, Part.held, Part.recorder, Part.pair, Part.alarms, Part.gnss, Part.gsol, Part.intake, Part.align, Part.est, Part.trk, Part.ctl, Part.ring, Part.srv, Part.saf, Part.net, Part.user] ⊆ E) (s : State) (eps : Int)
    (fine : Sound E base s) :
    Sound E base (State.follow s eps) := by
  have h_clock : Part.clock ∈ E := hE (by decide)
  have k0 : [Part.objects] ⊆ E := List.Subset.trans (by decide) hE
  have k1 : [Part.clock, Part.objects, Part.held, Part.recorder, Part.pair, Part.alarms, Part.gnss, Part.gsol, Part.intake, Part.align, Part.est, Part.trk, Part.ctl, Part.ring, Part.srv, Part.saf, Part.net, Part.user] ⊆ E := List.Subset.trans (by decide) hE
  have k2 : [Part.clock, Part.objects] ⊆ E := List.Subset.trans (by decide) hE
  have k3 : [Part.clock] ⊆ E := List.Subset.trans (by decide) hE
  unfold State.follow
  (try dsimp only)
  repeat' (first
    | (with_reducible assumption)
    | ((with_reducible apply State.setObj_sound k0))
    | ((with_reducible apply State.stepGrids_sound k1))
    | ((with_reducible apply State.beFollower_sound k2))
    | ((with_reducible apply State.shiftPs_sound k3))
    | (with_reducible refine sound_ite (fun _ => ?_) (fun _ => ?_))
    | (with_reducible refine sound_foldl (fun s x h => ?_) ?_)
    | (fail_if_no_progress with_reducible refine Sound.upd_clock h_clock _ ?_)
    | (dsimp only)
    | (split))

theorem State.takeSlot_sound {E : List Part} {base : State} (hE : [Part.objects, Part.ring] ⊆ E) (ringNo : Nat) (order : Nat → Nat) (s : State) (q : SlotIn)
    (fine : Sound E base s) :
    Sound E base (State.takeSlot ringNo order s q) := by
  have h_ring : Part.ring ∈ E := hE (by decide)
  have k0 : [Part.objects] ⊆ E := List.Subset.trans (by decide) hE
  unfold State.takeSlot
  (try dsimp only)
  repeat' (first
    | (with_reducible assumption)
    | ((with_reducible apply State.setObjs_sound k0))
    | ((with_reducible apply State.setObj_sound k0))
    | (with_reducible refine sound_ite (fun _ => ?_) (fun _ => ?_))
    | (with_reducible refine sound_foldl (fun s x h => ?_) ?_)
    | (fail_if_no_progress with_reducible refine Sound.upd_ring h_ring _ ?_))

theorem State.takeFeedback_sound {E : List Part} {base : State} (hE : [Part.ring] ⊆ E) (s : State) (t0 : Int)
    (fine : Sound E base s) :
    Sound E base (State.takeFeedback s t0) := by
  have h_ring : Part.ring ∈ E := hE (by decide)
  unfold State.takeFeedback
  (try dsimp only)
  repeat' (first
    | (with_reducible assumption)
    | (with_reducible refine sound_ite (fun _ => ?_) (fun _ => ?_))
    | (with_reducible refine sound_foldl (fun s x h => ?_) ?_)
    | (fail_if_no_progress with_reducible refine Sound.upd_ring h_ring _ ?_))

theorem State.portFalls_sound {E : List Part} {base : State} (hE : [Part.objects, Part.recorder, Part.alarms, Part.ring] ⊆ E) (s : State) (port : Nat) (los : Bool)
    (fine : Sound E base s) :
    Sound E base (State.portFalls s port los) := by
  have k0 : [Part.ring] ⊆ E := List.Subset.trans (by decide) hE
  have k1 : [Part.objects, Part.recorder, Part.alarms] ⊆ E := List.Subset.trans (by decide) hE
  have k2 : [Part.objects] ⊆ E := List.Subset.trans (by decide) hE
  unfold State.portFalls
  (try dsimp only)
  repeat' (first
    | (with_reducible assumption)
    | ((with_reducible apply State.modRingPort_sound k0))
    | ((with_reducible apply State.count_sound k1))
    | ((with_reducible apply State.showPort_sound k2)))

theorem State.fillContainer_sound {E : List Part} {base : State} (hE : [Part.ring] ⊆ E) (s : State) (c : Container)
    (fine : Sound E base s) :
    Sound E base (State.fillContainer s c).2 := by
  have h_ring : Part.ring ∈ E := hE (by decide)
  have k0 : [Part.ring] ⊆ E := List.Subset.trans (by decide) hE
  unfold State.fillContainer
  (try dsimp only)
  repeat' (first
    | (with_reducible assumption)
    | ((with_reducible apply State.nextContainer_sound k0))
    | (with_reducible refine sound_ite (fun _ => ?_) (fun _ => ?_))
    | (with_reducible refine sound_foldl (fun s x h => ?_) ?_)
    | (with_reducible refine sound_foldl2 (fun s x h => ?_) ?_)
    | (with_reducible refine sound_foldl3 (fun s x h => ?_) ?_)
    | (fail_if_no_progress with_reducible refine Sound.upd_ring h_ring _ ?_)
    | (dsimp only)
    | (refine sound_snd (by assumption) ?_)
    | (refine sound_fst (by assumption) ?_)
    | (refine sound_thd (by assumption) ?_)
    | (split))

theorem State.readOnce_sound {E : List Part} {base : State} (hE : [Part.objects, Part.recorder, Part.alarms, Part.ring, Part.wires] ⊆ E) (s : State) (port : Nat) (c : Container)
    (fine : Sound E base s) :
    Sound E base (State.readOnce s port c) := by
  have h_ring : Part.ring ∈ E := hE (by decide)
  have k0 : [Part.wires] ⊆ E := List.Subset.trans (by decide) hE
  have k1 : [Part.objects, Part.recorder, Part.alarms] ⊆ E := List.Subset.trans (by decide) hE
  unfold State.readOnce
  (try dsimp only)
  repeat' (first
    | (with_reducible assumption)
    | ((with_reducible apply State.tell_sound k0))
    | ((with_reducible apply State.count_sound k1))
    | (with_reducible refine sound_ite (fun _ => ?_) (fun _ => ?_))
    | (with_reducible refine sound_foldl (fun s x h => ?_) ?_)
    | (fail_if_no_progress with_reducible refine Sound.upd_ring h_ring _ ?_))

theorem State.reportUnit_sound {E : List Part} {base : State} (hE : [Part.objects] ⊆ E) (s : State) (tc : Rat) (u : ThrustUnit) (z lsq : Rat × Rat)
    (fine : Sound E base s) :
    Sound E base (State.reportUnit s tc u z lsq) := by
  have k0 : [Part.objects] ⊆ E := List.Subset.trans (by decide) hE
  unfold State.reportUnit
  (try dsimp only)
  repeat' (first
    | (with_reducible assumption)
    | ((with_reducible apply State.setObjs_sound k0)))

theorem State.reportBus_sound {E : List Part} {base : State} (hE : [Part.objects, Part.recorder, Part.alarms, Part.alc] ⊆ E) (s : State) (us : List ThrustUnit) (z : List (Rat × Rat)) (cut : List Nat) (b : Nat)
    (fine : Sound E base s) :
    Sound E base (State.reportBus s us z cut b) := by
  have h_alc : Part.alc ∈ E := hE (by decide)
  have k0 : [Part.objects] ⊆ E := List.Subset.trans (by decide) hE
  have k1 : [Part.objects, Part.recorder, Part.alarms] ⊆ E := List.Subset.trans (by decide) hE
  unfold State.reportBus
  (try dsimp only)
  repeat' (first
    | (with_reducible assumption)
    | ((with_reducible apply State.setObjs_sound k0))
    | ((with_reducible apply State.setBit_sound k0))
    | ((with_reducible apply State.count_sound k1))
    | (with_reducible refine sound_ite (fun _ => ?_) (fun _ => ?_))
    | (with_reducible refine sound_foldl (fun s x h => ?_) ?_)
    | (fail_if_no_progress with_reducible refine Sound.upd_alc h_alc _ ?_))

theorem State.allocate_sound {E : List Part} {base : State} (hE : [Part.objects, Part.recorder, Part.alarms, Part.align, Part.ctl, Part.ring, Part.alc] ⊆ E) (s : State)
    (fine : Sound E base s) :
    Sound E base (State.allocate s) := by
  have h_ctl : Part.ctl ∈ E := hE (by decide)
  have h_ring : Part.ring ∈ E := hE (by decide)
  have h_alc : Part.alc ∈ E := hE (by decide)
  have k0 : [Part.objects] ⊆ E := List.Subset.trans (by decide) hE
  have k1 : [Part.objects, Part.recorder, Part.alarms, Part.align] ⊆ E := List.Subset.trans (by decide) hE
  have k2 : [Part.objects, Part.recorder, Part.alarms, Part.alc] ⊆ E := List.Subset.trans (by decide) hE
  have k3 : [Part.objects, Part.recorder, Part.alarms] ⊆ E := List.Subset.trans (by decide) hE
  unfold State.allocate
  (try dsimp only)
  repeat' (first
    | (with_reducible assumption)
    | ((with_reducible apply State.setObj_sound k0))
    | ((with_reducible apply State.setObjs_sound k0))
    | ((with_reducible apply State.deliver_sound k1))
    | ((with_reducible apply State.reportUnit_sound k0))
    | ((with_reducible apply State.reportBus_sound k2))
    | ((with_reducible apply State.count_sound k3))
    | (with_reducible refine sound_ite (fun _ => ?_) (fun _ => ?_))
    | (with_reducible refine sound_foldl (fun s x h => ?_) ?_)
    | (fail_if_no_progress with_reducible refine Sound.upd_ctl_ring_alc h_ctl h_ring h_alc _ ?_))

theorem State.busAt_sound {E : List Part} {base : State} (hE : [Part.objects, Part.recorder, Part.alarms, Part.alc] ⊆ E) (s : State) (b : Nat)
    (fine : Sound E base s) :
    Sound E base (State.busAt s b) := by
  have h_alc : Part.alc ∈ E := hE (by decide)
  have k0 : [Part.objects] ⊆ E := List.Subset.trans (by decide) hE
  have k1 : [Part.objects, Part.recorder, Part.alarms] ⊆ E := List.Subset.trans (by decide) hE
  unfold State.busAt
  (try dsimp only)
  repeat' (first
    | (with_reducible assumption)
    | ((with_reducible apply State.setObj_sound k0))
    | ((with_reducible apply State.setBit_sound k0))
    | ((with_reducible apply State.count_sound k1))
    | (with_reducible refine sound_ite (fun _ => ?_) (fun _ => ?_))
    | (with_reducible refine sound_foldl (fun s x h => ?_) ?_)
    | (fail_if_no_progress with_reducible refine Sound.upd_alc h_alc _ ?_))

theorem State.busBoundary_sound {E : List Part} {base : State} (hE : [Part.objects, Part.recorder, Part.alarms, Part.alc] ⊆ E) (s : State)
    (fine : Sound E base s) :
    Sound E base (State.busBoundary s) := by
  have k0 : [Part.objects, Part.recorder, Part.alarms, Part.alc] ⊆ E := List.Subset.trans (by decide) hE
  unfold State.busBoundary
  repeat' (first
    | (with_reducible assumption)
    | ((with_reducible apply State.busAt_sound k0))
    | (with_reducible refine sound_ite (fun _ => ?_) (fun _ => ?_))
    | (with_reducible refine sound_foldl (fun s x h => ?_) ?_))

theorem State.clearSlot_sound {E : List Part} {base : State} (hE : [Part.objects, Part.blobs] ⊆ E) (s : State) (g : Nat)
    (fine : Sound E base s) :
    Sound E base (State.clearSlot s g) := by
  have k0 : [Part.objects] ⊆ E := List.Subset.trans (by decide) hE
  have k1 : [Part.blobs] ⊆ E := List.Subset.trans (by decide) hE
  unfold State.clearSlot
  repeat' (first
    | (with_reducible assumption)
    | ((with_reducible apply State.setObj_sound k0))
    | ((with_reducible apply State.setBlob_sound k1))
    | (with_reducible refine sound_ite (fun _ => ?_) (fun _ => ?_))
    | (with_reducible refine sound_foldl (fun s x h => ?_) ?_))

theorem State.capstanApplied_sound {E : List Part} {base : State} (hE : [Part.objects, Part.blobs, Part.alc] ⊆ E) (s : State) (i sub : Nat) (old new : Int)
    (fine : Sound E base s) :
    Sound E base (State.capstanApplied s i sub old new) := by
  have h_alc : Part.alc ∈ E := hE (by decide)
  have k0 : [Part.objects, Part.blobs] ⊆ E := List.Subset.trans (by decide) hE
  unfold State.capstanApplied
  (try dsimp only)
  repeat' (first
    | (with_reducible assumption)
    | ((with_reducible apply State.copySlot_sound k0))
    | ((with_reducible apply State.clearSlot_sound k0))
    | (with_reducible refine sound_ite (fun _ => ?_) (fun _ => ?_))
    | (with_reducible refine sound_foldl (fun s x h => ?_) ?_)
    | (fail_if_no_progress with_reducible refine Sound.upd_alc h_alc _ ?_))

theorem State.modThr_sound {E : List Part} {base : State} (hE : [Part.srv] ⊆ E) (s : State) (j : Nat) (f : Thruster → Thruster)
    (fine : Sound E base s) :
    Sound E base (State.modThr s j f) := by
  have h_srv : Part.srv ∈ E := hE (by decide)
  unfold State.modThr
  (try dsimp only)
  repeat' (first
    | (with_reducible assumption)
    | (with_reducible refine sound_ite (fun _ => ?_) (fun _ => ?_))
    | (with_reducible refine sound_foldl (fun s x h => ?_) ?_)
    | (fail_if_no_progress with_reducible refine Sound.upd_srv h_srv _ ?_))

theorem State.modEnc_sound {E : List Part} {base : State} (hE : [Part.srv] ⊆ E) (s : State) (e : Nat) (f : Encoder → Encoder)
    (fine : Sound E base s) :
    Sound E base (State.modEnc s e f) := by
  have h_srv : Part.srv ∈ E := hE (by decide)
  unfold State.modEnc
  (try dsimp only)
  repeat' (first
    | (with_reducible assumption)
    | (with_reducible refine sound_ite (fun _ => ?_) (fun _ => ?_))
    | (with_reducible refine sound_foldl (fun s x h => ?_) ?_)
    | (fail_if_no_progress with_reducible refine Sound.upd_srv h_srv _ ?_))

theorem State.encoderAngle_sound {E : List Part} {base : State} (hE : [Part.objects, Part.recorder, Part.alarms, Part.srv] ⊆ E) (s : State) (e a : Nat) (low : Bool)
    (fine : Sound E base s) :
    Sound E base (State.encoderAngle s e a low) := by
  have k0 : [Part.srv] ⊆ E := List.Subset.trans (by decide) hE
  have k1 : [Part.objects, Part.recorder, Part.alarms] ⊆ E := List.Subset.trans (by decide) hE
  unfold State.encoderAngle
  (try dsimp only)
  repeat' (first
    | (with_reducible assumption)
    | ((with_reducible apply State.modEnc_sound k0))
    | ((with_reducible apply State.count_sound k1))
    | (with_reducible refine sound_ite (fun _ => ?_) (fun _ => ?_)))

theorem State.enterThr_sound {E : List Part} {base : State} (hE : [Part.objects, Part.recorder, Part.alarms, Part.srv] ⊆ E) (s : State) (now j st cause : Nat)
    (fine : Sound E base s) :
    Sound E base (State.enterThr s now j st cause) := by
  have k0 : [Part.objects] ⊆ E := List.Subset.trans (by decide) hE
  have k1 : [Part.srv] ⊆ E := List.Subset.trans (by decide) hE
  have k2 : [Part.objects, Part.recorder, Part.alarms] ⊆ E := List.Subset.trans (by decide) hE
  have k3 : [Part.objects, Part.recorder] ⊆ E := List.Subset.trans (by decide) hE
  unfold State.enterThr
  (try dsimp only)
  repeat' (first
    | (with_reducible assumption)
    | ((with_reducible apply State.setObj_sound k0))
    | ((with_reducible apply State.modThr_sound k1))
    | ((with_reducible apply State.count_sound k2))
    | ((with_reducible apply State.event_sound k3))
    | (with_reducible refine sound_ite (fun _ => ?_) (fun _ => ?_)))

theorem State.thrusterSample_sound {E : List Part} {base : State} (hE : [Part.objects, Part.recorder, Part.alarms, Part.srv] ⊆ E) (s : State) (fresh : Bool) (j : Nat)
    (fine : Sound E base s) :
    Sound E base (State.thrusterSample s fresh j) := by
  have k0 : [Part.srv] ⊆ E := List.Subset.trans (by decide) hE
  have k1 : [Part.objects, Part.recorder, Part.alarms] ⊆ E := List.Subset.trans (by decide) hE
  have k2 : [Part.objects, Part.recorder, Part.alarms, Part.srv] ⊆ E := List.Subset.trans (by decide) hE
  have k3 : [Part.objects] ⊆ E := List.Subset.trans (by decide) hE
  unfold State.thrusterSample
  (try dsimp only)
  repeat' (first
    | (with_reducible assumption)
    | ((with_reducible apply State.modThr_sound k0))
    | ((with_reducible apply State.count_sound k1))
    | ((with_reducible apply State.enterThr_sound k2))
    | ((with_reducible apply State.countBy_sound k1))
    | ((with_reducible apply State.setObjs_sound k3))
    | (with_reducible refine sound_ite (fun _ => ?_) (fun _ => ?_)))

theorem State.latchSample_sound {E : List Part} {base : State} (hE : [Part.intake, Part.srv] ⊆ E) (s : State)
    (fine : Sound E base s) :
    Sound E base (State.latchSample s) := by
  have h_intake : Part.intake ∈ E := hE (by decide)
  have h_srv : Part.srv ∈ E := hE (by decide)
  unfold State.latchSample
  (try dsimp only)
  repeat' (first
    | (with_reducible assumption)
    | (with_reducible refine sound_ite (fun _ => ?_) (fun _ => ?_))
    | (with_reducible refine sound_foldl (fun s x h => ?_) ?_)
    | (fail_if_no_progress with_reducible refine Sound.upd_intake_srv h_intake h_srv _ ?_))

theorem State.servoPeriod_sound {E : List Part} {base : State} (hE : [Part.objects, Part.recorder, Part.alarms, Part.srv] ⊆ E) (s : State)
    (fine : Sound E base s) :
    Sound E base (State.servoPeriod s) := by
  have h_srv : Part.srv ∈ E := hE (by decide)
  have k0 : [Part.objects, Part.recorder, Part.alarms] ⊆ E := List.Subset.trans (by decide) hE
  have k1 : [Part.objects] ⊆ E := List.Subset.trans (by decide) hE
  have k2 : [Part.objects, Part.recorder, Part.alarms, Part.srv] ⊆ E := List.Subset.trans (by decide) hE
  unfold State.servoPeriod
  (try dsimp only)
  repeat' (first
    | (with_reducible assumption)
    | ((with_reducible apply State.count_sound k0))
    | ((with_reducible apply State.setObjs_sound k1))
    | ((with_reducible apply State.setObj_sound k1))
    | ((with_reducible apply State.thrusterSample_sound k2))
    | (with_reducible refine sound_ite (fun _ => ?_) (fun _ => ?_))
    | (with_reducible refine sound_foldl (fun s x h => ?_) ?_)
    | (fail_if_no_progress with_reducible refine Sound.upd_srv h_srv _ ?_)
    | (dsimp only)
    | (refine sound_snd (by assumption) ?_)
    | (refine sound_fst (by assumption) ?_)
    | (refine sound_thd (by assumption) ?_)
    | (split))

theorem State.timedThr_sound {E : List Part} {base : State} (hE : [Part.objects, Part.recorder, Part.alarms, Part.srv] ⊆ E) (s : State) (j : Nat) (due : Nat → Thruster → Bool) (to' cause : Nat)
    (fine : Sound E base s) :
    Sound E base (State.timedThr s j due to' cause) := by
  have k0 : [Part.objects, Part.recorder, Part.alarms, Part.srv] ⊆ E := List.Subset.trans (by decide) hE
  have k1 : [Part.srv] ⊆ E := List.Subset.trans (by decide) hE
  unfold State.timedThr
  repeat' (first
    | (with_reducible assumption)
    | ((with_reducible apply State.enterThr_sound k0))
    | ((with_reducible apply State.modThr_sound k1))
    | (with_reducible refine sound_ite (fun _ => ?_) (fun _ => ?_)))

theorem State.driveLevel_sound {E : List Part} {base : State} (hE : [Part.srv] ⊆ E) (s : State) (own : Bool) (j : Nat) (energised : Bool)
    (fine : Sound E base s) :
    Sound E base (State.driveLevel s own j energised) := by
  have h_srv : Part.srv ∈ E := hE (by decide)
  unfold State.driveLevel
  (try dsimp only)
  repeat' (first
    | (with_reducible assumption)
    | (with_reducible refine sound_ite (fun _ => ?_) (fun _ => ?_))
    | (with_reducible refine sound_foldl (fun s x h => ?_) ?_)
    | (fail_if_no_progress with_reducible refine Sound.upd_srv h_srv _ ?_))

theorem State.driveEnable_sound {E : List Part} {base : State} (hE : [Part.objects, Part.recorder, Part.alarms, Part.ctl, Part.srv, Part.wires] ⊆ E) (s : State) (j : Nat)
    (fine : Sound E base s) :
    Sound E base (State.driveEnable s j) := by
  have k0 : [Part.objects, Part.recorder, Part.alarms, Part.ctl] ⊆ E := List.Subset.trans (by decide) hE
  have k1 : [Part.srv] ⊆ E := List.Subset.trans (by decide) hE
  have k2 : [Part.objects] ⊆ E := List.Subset.trans (by decide) hE
  have k3 : [Part.wires] ⊆ E := List.Subset.trans (by decide) hE
  unfold State.driveEnable
  (try dsimp only)
  repeat' (first
    | (with_reducible assumption)
    | ((with_reducible apply State.forced_sound k0))
    | ((with_reducible apply State.modThr_sound k1))
    | ((with_reducible apply State.setBit_sound k2))
    | ((with_reducible apply State.tell_sound k3))
    | (with_reducible refine sound_ite (fun _ => ?_) (fun _ => ?_)))

theorem State.dacPort_sound {E : List Part} {base : State} (hE : [Part.wires] ⊆ E) (s : State) (j : Nat)
    (fine : Sound E base s) :
    Sound E base (State.dacPort s j) := by
  have k0 : [Part.wires] ⊆ E := List.Subset.trans (by decide) hE
  unfold State.dacPort
  (try dsimp only)
  repeat' (first
    | (with_reducible assumption)
    | ((with_reducible apply State.tell_sound k0))
    | (with_reducible refine sound_ite (fun _ => ?_) (fun _ => ?_)))

theorem State.copyServoBanks_sound {E : List Part} {base : State} (hE : [Part.objects, Part.blobs] ⊆ E) (s : State)
    (fine : Sound E base s) :
    Sound E base (State.copyServoBanks s) := by
  have k0 : [Part.objects] ⊆ E := List.Subset.trans (by decide) hE
  have k1 : [Part.blobs] ⊆ E := List.Subset.trans (by decide) hE
  unfold State.copyServoBanks
  (try dsimp only)
  repeat' (first
    | (with_reducible assumption)
    | ((with_reducible apply State.copyObject_sound k0))
    | ((with_reducible apply State.setBlob_sound k1))
    | (with_reducible refine sound_ite (fun _ => ?_) (fun _ => ?_))
    | (with_reducible refine sound_foldl (fun s x h => ?_) ?_))

theorem State.swapServo_sound {E : List Part} {base : State} (hE : [Part.objects, Part.recorder, Part.alarms, Part.srv] ⊆ E) (s : State)
    (fine : Sound E base s) :
    Sound E base (State.swapServo s) := by
  have k0 : [Part.objects] ⊆ E := List.Subset.trans (by decide) hE
  have k1 : [Part.objects, Part.recorder, Part.alarms] ⊆ E := List.Subset.trans (by decide) hE
  have k2 : [Part.srv] ⊆ E := List.Subset.trans (by decide) hE
  unfold State.swapServo
  (try dsimp only)
  repeat' (first
    | (with_reducible assumption)
    | ((with_reducible apply State.setObjs_sound k0))
    | ((with_reducible apply State.count_sound k1))
    | ((with_reducible apply State.countBy_sound k1))
    | ((with_reducible apply State.modThr_sound k2))
    | (with_reducible refine sound_ite (fun _ => ?_) (fun _ => ?_))
    | (with_reducible refine sound_foldl (fun s x h => ?_) ?_))

theorem State.servoApplied_sound {E : List Part} {base : State} (hE : [Part.objects, Part.blobs] ⊆ E) (s : State) (i sub : Nat) (new : Int)
    (fine : Sound E base s) :
    Sound E base (State.servoApplied s i sub new) := by
  have k0 : [Part.objects] ⊆ E := List.Subset.trans (by decide) hE
  have k1 : [Part.objects, Part.blobs] ⊆ E := List.Subset.trans (by decide) hE
  unfold State.servoApplied
  (try dsimp only)
  repeat' (first
    | (with_reducible assumption)
    | ((with_reducible apply State.setObj_sound k0))
    | ((with_reducible apply State.copyServoBanks_sound k1))
    | (with_reducible refine sound_ite (fun _ => ?_) (fun _ => ?_)))

theorem State.modIn_sound {E : List Part} {base : State} (hE : [Part.saf] ⊆ E) (s : State) (i : Nat) (f : SafeIn → SafeIn)
    (fine : Sound E base s) :
    Sound E base (State.modIn s i f) := by
  have h_saf : Part.saf ∈ E := hE (by decide)
  unfold State.modIn
  (try dsimp only)
  repeat' (first
    | (with_reducible assumption)
    | (with_reducible refine sound_ite (fun _ => ?_) (fun _ => ?_))
    | (with_reducible refine sound_foldl (fun s x h => ?_) ?_)
    | (fail_if_no_progress with_reducible refine Sound.upd_saf h_saf _ ?_))

theorem State.modSo_sound {E : List Part} {base : State} (hE : [Part.saf] ⊆ E) (s : State) (n : Nat) (f : SafeOut → SafeOut)
    (fine : Sound E base s) :
    Sound E base (State.modSo s n f) := by
  have h_saf : Part.saf ∈ E := hE (by decide)
  unfold State.modSo
  (try dsimp only)
  repeat' (first
    | (with_reducible assumption)
    | (with_reducible refine sound_ite (fun _ => ?_) (fun _ => ?_))
    | (with_reducible refine sound_foldl (fun s x h => ?_) ?_)
    | (fail_if_no_progress with_reducible refine Sound.upd_saf h_saf _ ?_))

theorem State.modStop_sound {E : List Part} {base : State} (hE : [Part.saf] ⊆ E) (s : State) (j : Nat) (f : StopRun → StopRun)
    (fine : Sound E base s) :
    Sound E base (State.modStop s j f) := by
  have h_saf : Part.saf ∈ E := hE (by decide)
  unfold State.modStop
  (try dsimp only)
  repeat' (first
    | (with_reducible assumption)
    | (with_reducible refine sound_ite (fun _ => ?_) (fun _ => ?_))
    | (with_reducible refine sound_foldl (fun s x h => ?_) ?_)
    | (fail_if_no_progress with_reducible refine Sound.upd_saf h_saf _ ?_))

theorem State.acceptLevel_sound {E : List Part} {base : State} (hE : [Part.objects, Part.recorder, Part.alarms, Part.saf] ⊆ E) (s : State) (i : Nat) (e : Bool)
    (fine : Sound E base s) :
    Sound E base (State.acceptLevel s i e) := by
  have k0 : [Part.objects] ⊆ E := List.Subset.trans (by decide) hE
  have k1 : [Part.objects, Part.recorder, Part.alarms] ⊆ E := List.Subset.trans (by decide) hE
  have k2 : [Part.saf] ⊆ E := List.Subset.trans (by decide) hE
  unfold State.acceptLevel
  (try dsimp only)
  repeat' (first
    | (with_reducible assumption)
    | ((with_reducible apply State.setBit_sound k0))
    | ((with_reducible apply State.count_sound k1))
    | ((with_reducible apply State.modIn_sound k2))
    | (with_reducible refine sound_ite (fun _ => ?_) (fun _ => ?_)))

theorem State.showSupplies_sound {E : List Part} {base : State} (hE : [Part.objects] ⊆ E) (s : State)
    (fine : Sound E base s) :
    Sound E base (State.showSupplies s) := by
  have k0 : [Part.objects] ⊆ E := List.Subset.trans (by decide) hE
  unfold State.showSupplies
  repeat' (first
    | (with_reducible assumption)
    | ((with_reducible apply State.setObj_sound k0)))

theorem State.sfaChannelsMoved_sound {E : List Part} {base : State} (hE : [Part.saf] ⊆ E) (s : State) (j : Nat)
    (fine : Sound E base s) :
    Sound E base (State.sfaChannelsMoved s j) := by
  have k0 : [Part.saf] ⊆ E := List.Subset.trans (by decide) hE
  unfold State.sfaChannelsMoved
  (try dsimp only)
  repeat' (first
    | (with_reducible assumption)
    | ((with_reducible apply State.modStop_sound k0))
    | (with_reducible refine sound_ite (fun _ => ?_) (fun _ => ?_))
    | (with_reducible refine sound_foldl (fun s x h => ?_) ?_)
    | (dsimp only)
    | (split))

theorem State.safeOutput_sound {E : List Part} {base : State} (hE : [Part.objects, Part.recorder, Part.alarms, Part.saf, Part.wires] ⊆ E) (s : State) (n : Nat)
    (fine : Sound E base s) :
    Sound E base (State.safeOutput s n) := by
  have k0 : [Part.objects] ⊆ E := List.Subset.trans (by decide) hE
  have k1 : [Part.saf] ⊆ E := List.Subset.trans (by decide) hE
  have k2 : [Part.wires] ⊆ E := List.Subset.trans (by decide) hE
  have k3 : [Part.objects, Part.recorder, Part.alarms] ⊆ E := List.Subset.trans (by decide) hE
  unfold State.safeOutput
  (try dsimp only)
  repeat' (first
    | (with_reducible assumption)
    | ((with_reducible apply State.setBit_sound k0))
    | ((with_reducible apply State.modSo_sound k1))
    | ((with_reducible apply State.tell_sound k2))
    | ((with_reducible apply State.count_sound k3))
    | (with_reducible refine sound_ite (fun _ => ?_) (fun _ => ?_)))

theorem State.showDemands_sound {E : List Part} {base : State} (hE : [Part.objects, Part.recorder, Part.pair, Part.alarms, Part.saf, Part.diag, Part.wires, Part.free] ⊆ E) (s : State)
    (fine : Sound E base s) :
    Sound E base (State.showDemands s) := by
  have k0 : [Part.objects] ⊆ E := List.Subset.trans (by decide) hE
  have k1 : [Part.objects, Part.recorder, Part.alarms] ⊆ E := List.Subset.trans (by decide) hE
  have k2 : [Part.objects, Part.recorder] ⊆ E := List.Subset.trans (by decide) hE
  have k3 : [Part.objects, Part.pair, Part.diag, Part.wires, Part.free] ⊆ E := List.Subset.trans (by decide) hE
  have k4 : [Part.objects, Part.recorder, Part.alarms, Part.saf, Part.wires] ⊆ E := List.Subset.trans (by decide) hE
  unfold State.showDemands
  (try dsimp only)
  repeat' (first
    | (with_reducible assumption)
    | ((with_reducible apply State.setObj_sound k0))
    | ((with_reducible apply State.countBy_sound k1))
    | ((with_reducible apply State.count_sound k1))
    | ((with_reducible apply State.event_sound k2))
    | ((with_reducible apply State.twSend_sound k3))
    | ((with_reducible apply State.safeOutput_sound k4))
    | (with_reducible refine sound_ite (fun _ => ?_) (fun _ => ?_))
    | (with_reducible refine sound_foldl (fun s x h => ?_) ?_))

theorem State.sfaEval_sound {E : List Part} {base : State} (hE : [Part.objects, Part.saf] ⊆ E) (s : State) (j : Nat)
    (fine : Sound E base s) :
    Sound E base (State.sfaEval s j) := by
  have k0 : [Part.saf] ⊆ E := List.Subset.trans (by decide) hE
  have k1 : [Part.objects] ⊆ E := List.Subset.trans (by decide) hE
  unfold State.sfaEval
  (try dsimp only)
  repeat' (first
    | (with_reducible assumption)
    | ((with_reducible apply State.sfaChannelsMoved_sound k0))
    | ((with_reducible apply State.setBit_sound k1))
    | ((with_reducible apply State.modStop_sound k0))
    | (with_reducible refine sound_ite (fun _ => ?_) (fun _ => ?_)))

theorem State.safetyEval_sound {E : List Part} {base : State} (hE : [Part.objects, Part.recorder, Part.pair, Part.alarms, Part.saf, Part.diag, Part.wires, Part.free] ⊆ E) (s : State)
    (fine : Sound E base s) :
    Sound E base (State.safetyEval s) := by
  have k0 : [Part.objects, Part.saf] ⊆ E := List.Subset.trans (by decide) hE
  have k1 : [Part.objects, Part.recorder, Part.pair, Part.alarms, Part.saf, Part.diag, Part.wires, Part.free] ⊆ E := List.Subset.trans (by decide) hE
  unfold State.safetyEval
  repeat' (first
    | (with_reducible assumption)
    | ((with_reducible apply State.sfaEval_sound k0))
    | ((with_reducible apply State.showDemands_sound k1)))

theorem State.sfaReset_sound {E : List Part} {base : State} (hE : [Part.objects, Part.recorder, Part.pair, Part.alarms, Part.saf, Part.diag, Part.wires, Part.free] ⊆ E) (s : State) (j : Nat)
    (fine : Sound E base s) :
    Sound E base (State.sfaReset s j) := by
  have k0 : [Part.objects] ⊆ E := List.Subset.trans (by decide) hE
  have k1 : [Part.saf] ⊆ E := List.Subset.trans (by decide) hE
  have k2 : [Part.objects, Part.recorder, Part.pair, Part.alarms, Part.saf, Part.diag, Part.wires, Part.free] ⊆ E := List.Subset.trans (by decide) hE
  unfold State.sfaReset
  (try dsimp only)
  repeat' (first
    | (with_reducible assumption)
    | ((with_reducible apply State.setObj_sound k0))
    | ((with_reducible apply State.sfaChannelsMoved_sound k1))
    | ((with_reducible apply State.setBit_sound k0))
    | ((with_reducible apply State.showDemands_sound k2))
    | (with_reducible refine sound_ite (fun _ => ?_) (fun _ => ?_))
    | (with_reducible refine sound_foldl (fun s x h => ?_) ?_))

theorem State.pulseRead_sound {E : List Part} {base : State} (hE : [Part.objects, Part.recorder, Part.alarms, Part.intake, Part.saf, Part.diag, Part.free] ⊆ E) (s : State) (k i : Nat) (before : Bool) (drop : Option Nat)
    (fine : Sound E base s) :
    Sound E base (State.pulseRead s k i before drop) := by
  have k0 : [Part.objects, Part.recorder, Part.alarms, Part.intake, Part.diag, Part.free] ⊆ E := List.Subset.trans (by decide) hE
  have k1 : [Part.saf] ⊆ E := List.Subset.trans (by decide) hE
  unfold State.pulseRead
  (try dsimp only)
  repeat' (first
    | (with_reducible assumption)
    | ((with_reducible apply State.inject_sound k0))
    | ((with_reducible apply State.modIn_sound k1))
    | (with_reducible refine sound_ite (fun _ => ?_) (fun _ => ?_))
    | (with_reducible refine sound_foldl (fun s x h => ?_) ?_)
    | (dsimp only)
    | (split))

theorem State.frameCheck_sound {E : List Part} {base : State} (hE : [Part.objects, Part.recorder, Part.alarms, Part.saf, Part.diag] ⊆ E) (s : State) (i : Nat)
    (fine : Sound E base s) :
    Sound E base (State.frameCheck s i) := by
  have k0 : [Part.saf] ⊆ E := List.Subset.trans (by decide) hE
  have k1 : [Part.objects] ⊆ E := List.Subset.trans (by decide) hE
  have k2 : [Part.objects, Part.recorder, Part.alarms] ⊆ E := List.Subset.trans (by decide) hE
  have k3 : [Part.objects, Part.recorder, Part.alarms, Part.diag] ⊆ E := List.Subset.trans (by decide) hE
  unfold State.frameCheck
  (try dsimp only)
  repeat' (first
    | (with_reducible assumption)
    | ((with_reducible apply State.modIn_sound k0))
    | ((with_reducible apply State.setObj_sound k1))
    | ((with_reducible apply State.count_sound k2))
    | ((with_reducible apply State.declared_sound k3))
    | (with_reducible refine sound_ite (fun _ => ?_) (fun _ => ?_))
    | (with_reducible refine sound_foldl (fun s x h => ?_) ?_)
    | (dsimp only)
    | (split))

theorem State.dropInputs_sound {E : List Part} {base : State} (hE : [Part.objects, Part.recorder, Part.alarms, Part.saf] ⊆ E) (s : State) (k : Nat)
    (fine : Sound E base s) :
    Sound E base (State.dropInputs s k) := by
  have k0 : [Part.objects, Part.recorder, Part.alarms, Part.saf] ⊆ E := List.Subset.trans (by decide) hE
  unfold State.dropInputs
  repeat' (first
    | (with_reducible assumption)
    | ((with_reducible apply State.acceptLevel_sound k0))
    | (with_reducible refine sound_ite (fun _ => ?_) (fun _ => ?_))
    | (with_reducible refine sound_foldl (fun s x h => ?_) ?_))

theorem State.sfeLatch_sound {E : List Part} {base : State} (hE : [Part.objects, Part.recorder, Part.pair, Part.alarms, Part.saf, Part.diag, Part.wires, Part.free] ⊆ E) (s : State) (n cause : Nat)
    (fine : Sound E base s) :
    Sound E base (State.sfeLatch s n cause) := by
  have k0 : [Part.saf] ⊆ E := List.Subset.trans (by decide) hE
  have k1 : [Part.objects] ⊆ E := List.Subset.trans (by decide) hE
  have k2 : [Part.objects, Part.recorder, Part.alarms] ⊆ E := List.Subset.trans (by decide) hE
  have k3 : [Part.objects, Part.recorder] ⊆ E := List.Subset.trans (by decide) hE
  have k4 : [Part.objects, Part.recorder, Part.pair, Part.alarms, Part.saf, Part.diag, Part.wires, Part.free] ⊆ E := List.Subset.trans (by decide) hE
  unfold State.sfeLatch
  (try dsimp only)
  repeat' (first
    | (with_reducible assumption)
    | ((with_reducible apply State.modSo_sound k0))
    | ((with_reducible apply State.setBit_sound k1))
    | ((with_reducible apply State.setObj_sound k1))
    | ((with_reducible apply State.count_sound k2))
    | ((with_reducible apply State.alarm_sound k2))
    | ((with_reducible apply State.event_sound k3))
    | ((with_reducible apply State.showDemands_sound k4))
    | (with_reducible refine sound_ite (fun _ => ?_) (fun _ => ?_)))

theorem State.setMirrors_sound {E : List Part} {base : State} (hE : [Part.objects] ⊆ E) (s : State) (n : Nat) (rb1 rb2 : Bool)
    (fine : Sound E base s) :
    Sound E base (State.setMirrors s n rb1 rb2) := by
  have k0 : [Part.objects] ⊆ E := List.Subset.trans (by decide) hE
  unfold State.setMirrors
  repeat' (first
    | (with_reducible assumption)
    | ((with_reducible apply State.setBit_sound k0)))

theorem State.sfeReset_sound {E : List Part} {base : State} (hE : [Part.objects, Part.recorder, Part.pair, Part.alarms, Part.saf, Part.diag, Part.wires, Part.free] ⊆ E) (s : State)
    (fine : Sound E base s) :
    Sound E base (State.sfeReset s) := by
  have k0 : [Part.objects] ⊆ E := List.Subset.trans (by decide) hE
  have k1 : [Part.objects, Part.recorder, Part.alarms] ⊆ E := List.Subset.trans (by decide) hE
  have k2 : [Part.objects, Part.recorder, Part.pair, Part.alarms, Part.saf, Part.diag, Part.wires, Part.free] ⊆ E := List.Subset.trans (by decide) hE
  unfold State.sfeReset
  (try dsimp only)
  repeat' (first
    | (with_reducible assumption)
    | ((with_reducible apply State.setBit_sound k0))
    | ((with_reducible apply State.unalarm_sound k1))
    | ((with_reducible apply State.showDemands_sound k2))
    | (with_reducible refine sound_ite (fun _ => ?_) (fun _ => ?_))
    | (with_reducible refine sound_foldl (fun s x h => ?_) ?_))

theorem State.sfcEval_sound {E : List Part} {base : State} (hE : [Part.objects, Part.recorder, Part.alarms, Part.ctl, Part.srv, Part.saf, Part.wires] ⊆ E) (s : State) (j : Nat)
    (fine : Sound E base s) :
    Sound E base (State.sfcEval s j) := by
  have h_saf : Part.saf ∈ E := hE (by decide)
  have k0 : [Part.srv] ⊆ E := List.Subset.trans (by decide) hE
  have k1 : [Part.objects, Part.recorder, Part.alarms, Part.ctl] ⊆ E := List.Subset.trans (by decide) hE
  have k2 : [Part.objects, Part.recorder, Part.alarms, Part.ctl, Part.srv, Part.wires] ⊆ E := List.Subset.trans (by decide) hE
  have k3 : [Part.objects, Part.recorder, Part.alarms] ⊆ E := List.Subset.trans (by decide) hE
  unfold State.sfcEval
  (try dsimp only)
  repeat' (first
    | (with_reducible assumption)
    | ((with_reducible apply State.modThr_sound k0))
    | ((with_reducible apply State.forced_sound k1))
    | ((with_reducible apply State.driveEnable_sound k2))
    | ((with_reducible apply State.count_sound k3))
    | ((with_reducible apply State.alarm_sound k3))
    | ((with_reducible apply State.unalarm_sound k3))
    | (with_reducible refine sound_ite (fun _ => ?_) (fun _ => ?_))
    | (with_reducible refine sound_foldl (fun s x h => ?_) ?_)
    | (fail_if_no_progress with_reducible refine Sound.upd_saf h_saf _ ?_))

theorem State.partnerDemand_sound {E : List Part} {base : State} (hE : [Part.objects, Part.recorder, Part.pair, Part.alarms, Part.saf, Part.diag, Part.wires, Part.free] ⊆ E) (s : State) (bits : Nat)
    (fine : Sound E base s) :
    Sound E base (State.partnerDemand s bits) := by
  have k0 : [Part.objects] ⊆ E := List.Subset.trans (by decide) hE
  have k1 : [Part.objects, Part.recorder, Part.pair, Part.alarms, Part.saf, Part.diag, Part.wires, Part.free] ⊆ E := List.Subset.trans (by decide) hE
  unfold State.partnerDemand
  (try dsimp only)
  repeat' (first
    | (with_reducible assumption)
    | ((with_reducible apply State.setObj_sound k0))
    | ((with_reducible apply State.setBit_sound k0))
    | ((with_reducible apply State.showDemands_sound k1))
    | (with_reducible refine sound_ite (fun _ => ?_) (fun _ => ?_)))

theorem State.safetyApplied_sound {E : List Part} {base : State} (hE : [Part.objects, Part.recorder, Part.pair, Part.alarms, Part.saf, Part.diag, Part.wires, Part.free] ⊆ E) (s : State) (i sub : Nat) (new : Int)
    (fine : Sound E base s) :
    Sound E base (State.safetyApplied s i sub new) := by
  have h_saf : Part.saf ∈ E := hE (by decide)
  have k0 : [Part.objects] ⊆ E := List.Subset.trans (by decide) hE
  have k1 : [Part.objects, Part.recorder, Part.pair, Part.alarms, Part.saf, Part.diag, Part.wires, Part.free] ⊆ E := List.Subset.trans (by decide) hE
  unfold State.safetyApplied
  (try dsimp only)
  repeat' (first
    | (with_reducible assumption)
    | ((with_reducible apply State.setObj_sound k0))
    | ((with_reducible apply State.sfaReset_sound k1))
    | ((with_reducible apply State.sfeReset_sound k1))
    | ((with_reducible apply State.showSupplies_sound k0))
    | ((with_reducible apply State.safetyEval_sound k1))
    | (with_reducible refine sound_ite (fun _ => ?_) (fun _ => ?_))
    | (with_reducible refine sound_foldl (fun s x h => ?_) ?_)
    | (fail_if_no_progress with_reducible refine Sound.upd_saf h_saf _ ?_))

theorem State.showLane_sound {E : List Part} {base : State} (hE : [Part.objects] ⊆ E) (s : State) (n : Nat)
    (fine : Sound E base s) :
    Sound E base (State.showLane s n) := by
  have k0 : [Part.objects] ⊆ E := List.Subset.trans (by decide) hE
  unfold State.showLane
  (try dsimp only)
  repeat' (first
    | (with_reducible assumption)
    | ((with_reducible apply State.setBit_sound k0)))

theorem State.modLane_sound {E : List Part} {base : State} (hE : [Part.pair] ⊆ E) (s : State) (n : Nat) (f : Lane → Lane)
    (fine : Sound E base s) :
    Sound E base (State.modLane s n f) := by
  have h_pair : Part.pair ∈ E := hE (by decide)
  unfold State.modLane
  (try dsimp only)
  repeat' (first
    | (with_reducible assumption)
    | (with_reducible refine sound_ite (fun _ => ?_) (fun _ => ?_))
    | (with_reducible refine sound_foldl (fun s x h => ?_) ?_)
    | (fail_if_no_progress with_reducible refine Sound.upd_pair h_pair _ ?_ rfl))

theorem State.laneAlarm_sound {E : List Part} {base : State} (hE : [Part.objects, Part.recorder, Part.alarms] ⊆ E) (s : State)
    (fine : Sound E base s) :
    Sound E base (State.laneAlarm s) := by
  have k0 : [Part.objects, Part.recorder, Part.alarms] ⊆ E := List.Subset.trans (by decide) hE
  unfold State.laneAlarm
  (try dsimp only)
  repeat' (first
    | (with_reducible assumption)
    | ((with_reducible apply State.alarmIf_sound k0)))

theorem State.takeOver_sound {E : List Part} {base : State} (hE : [Part.pair, Part.wires] ⊆ E) (s : State) (on : Bool)
    (fine : Sound E base s) :
    Sound E base (State.takeOver s on) := by
  have h_pair : Part.pair ∈ E := hE (by decide)
  have k0 : [Part.wires] ⊆ E := List.Subset.trans (by decide) hE
  unfold State.takeOver
  (try dsimp only)
  repeat' (first
    | (with_reducible assumption)
    | ((with_reducible apply State.tell_sound k0))
    | (with_reducible refine sound_ite (fun _ => ?_) (fun _ => ?_))
    | (with_reducible refine sound_foldl (fun s x h => ?_) ?_)
    | (fail_if_no_progress with_reducible refine Sound.upd_pair h_pair _ ?_ rfl))

theorem State.endAcks_sound {E : List Part} {base : State} (hE : [Part.power, Part.clock, Part.objects, Part.blobs, Part.held, Part.dict, Part.recorder, Part.pair, Part.alarms, Part.mram, Part.tap, Part.ctl, Part.ring, Part.srv, Part.saf, Part.net, Part.diag, Part.user, Part.wires, Part.free] ⊆ E) (s : State) (takeover : Bool)
    (fine : Sound E base s) :
    Sound E base (State.endAcks s takeover) := by
  have h_dict : Part.dict ∈ E := hE (by decide)
  have k0 : [Part.power, Part.clock, Part.objects, Part.blobs, Part.held, Part.dict, Part.recorder, Part.pair, Part.alarms, Part.mram, Part.tap, Part.ctl, Part.ring, Part.srv, Part.saf, Part.net, Part.diag, Part.user, Part.wires, Part.free] ⊆ E := List.Subset.trans (by decide) hE
  unfold State.endAcks
  (try dsimp only)
  repeat' (first
    | (with_reducible assumption)
    | ((with_reducible apply State.answer_sound k0))
    | (with_reducible refine sound_ite (fun _ => ?_) (fun _ => ?_))
    | (with_reducible refine sound_foldl (fun s x h => ?_) ?_)
    | (fail_if_no_progress with_reducible refine Sound.upd_dict h_dict _ ?_))

theorem State.driveRole_sound {E : List Part} {base : State} (hE : [Part.objects, Part.recorder, Part.alarms, Part.ctl, Part.srv, Part.wires] ⊆ E) (s : State)
    (fine : Sound E base s) :
    Sound E base (State.driveRole s) := by
  have k0 : [Part.objects, Part.recorder, Part.alarms, Part.ctl, Part.srv, Part.wires] ⊆ E := List.Subset.trans (by decide) hE
  have k1 : [Part.wires] ⊆ E := List.Subset.trans (by decide) hE
  unfold State.driveRole
  (try dsimp only)
  repeat' (first
    | (with_reducible assumption)
    | ((with_reducible apply State.driveEnable_sound k0))
    | ((with_reducible apply State.tell_sound k1))
    | (with_reducible refine sound_ite (fun _ => ?_) (fun _ => ?_)))

theorem State.putRole_sound {E : List Part} {base : State} (hE : [Part.held, Part.pair, Part.tap] ⊆ E) (s : State) (r : PairRole)
    (fine : Sound E base s) :
    Sound E base (State.putRole s r) := by
  have h_held : Part.held ∈ E := hE (by decide)
  have h_pair : Part.pair ∈ E := hE (by decide)
  have h_tap : Part.tap ∈ E := hE (by decide)
  refine ⟨fine.od', fine.blobs', fine.ident', ?_, fine.mem', fine.power, fine.ident, fine.clock, fine.od, fine.blobs, .inr h_held, fine.dict, fine.recorder, .inr h_pair, fine.alarms, fine.saturated, fine.mram, .inr h_tap, fine.gnss, fine.gsol, fine.intake, fine.align, fine.est, fine.trk, fine.ctl, fine.ring, fine.alc, fine.srv, fine.saf, fine.net, fine.panel, fine.diagn, fine.user, fine.out, fine.freeCount⟩
  unfold State.putRole
  dsimp only
  split
  · exact tapFits_secured _ _
  · next h => cases r <;> simp_all [tapFits]

theorem State.roleTo_sound {E : List Part} {base : State} (hE : [Part.clock, Part.objects, Part.held, Part.recorder, Part.pair, Part.alarms, Part.tap, Part.ctl, Part.srv, Part.saf, Part.diag, Part.wires, Part.free] ⊆ E) (s : State) (r : PairRole) (cause : Nat)
    (fine : Sound E base s) :
    Sound E base (State.roleTo s r cause) := by
  have h_saf : Part.saf ∈ E := hE (by decide)
  have k0 : [Part.held, Part.pair, Part.tap] ⊆ E := List.Subset.trans (by decide) hE
  have k1 : [Part.objects] ⊆ E := List.Subset.trans (by decide) hE
  have k2 : [Part.objects, Part.recorder, Part.alarms] ⊆ E := List.Subset.trans (by decide) hE
  have k3 : [Part.objects, Part.recorder] ⊆ E := List.Subset.trans (by decide) hE
  have k4 : [Part.clock, Part.objects] ⊆ E := List.Subset.trans (by decide) hE
  have k5 : [Part.objects, Part.diag] ⊆ E := List.Subset.trans (by decide) hE
  have k6 : [Part.pair, Part.wires] ⊆ E := List.Subset.trans (by decide) hE
  have k7 : [Part.objects, Part.recorder, Part.alarms, Part.ctl, Part.srv, Part.wires] ⊆ E := List.Subset.trans (by decide) hE
  have k8 : [Part.objects, Part.pair, Part.diag, Part.wires, Part.free] ⊆ E := List.Subset.trans (by decide) hE
  have k9 : [Part.objects, Part.recorder, Part.pair, Part.alarms, Part.saf, Part.diag, Part.wires, Part.free] ⊆ E := List.Subset.trans (by decide) hE
  unfold State.roleTo
  (try dsimp only)
  repeat' (first
    | (with_reducible assumption)
    | ((with_reducible apply State.putRole_sound k0))
    | ((with_reducible apply State.setObjs_sound k1))
    | ((with_reducible apply State.count_sound k2))
    | ((with_reducible apply State.event_sound k3))
    | ((with_reducible apply State.leadTime_sound k4))
    | ((with_reducible apply State.endInjection_sound k5))
    | ((with_reducible apply State.takeOver_sound k6))
    | ((with_reducible apply State.driveRole_sound k7))
    | ((with_reducible apply State.twSend_sound k8))
    | ((with_reducible apply State.showDemands_sound k9))
    | (with_reducible refine sound_ite (fun _ => ?_) (fun _ => ?_))
    | (with_reducible refine sound_foldl (fun s x h => ?_) ?_)
    | (fail_if_no_progress with_reducible refine Sound.upd_saf h_saf _ ?_))

theorem State.goOffline_sound {E : List Part} {base : State} (hE : [Part.clock, Part.objects, Part.held, Part.recorder, Part.pair, Part.alarms, Part.tap, Part.ctl, Part.srv, Part.saf, Part.diag, Part.wires, Part.free] ⊆ E) (s : State) (cause : Nat)
    (fine : Sound E base s) :
    Sound E base (State.goOffline s cause) := by
  have h_pair : Part.pair ∈ E := hE (by decide)
  have k0 : [Part.clock, Part.objects, Part.held, Part.recorder, Part.pair, Part.alarms, Part.tap, Part.ctl, Part.srv, Part.saf, Part.diag, Part.wires, Part.free] ⊆ E := List.Subset.trans (by decide) hE
  unfold State.goOffline
  (try dsimp only)
  repeat' (first
    | (with_reducible assumption)
    | ((with_reducible apply State.roleTo_sound k0))
    | (with_reducible refine sound_ite (fun _ => ?_) (fun _ => ?_))
    | (with_reducible refine sound_foldl (fun s x h => ?_) ?_)
    | (fail_if_no_progress with_reducible refine Sound.upd_pair h_pair _ ?_ rfl))

theorem State.startAfresh_sound {E : List Part} {base : State} (hE : [Part.clock, Part.objects, Part.blobs, Part.held, Part.recorder, Part.alarms, Part.gsol, Part.est, Part.ctl, Part.srv, Part.wires] ⊆ E) (s : State)
    (fine : Sound E base s) :
    Sound E base (State.startAfresh s) := by
  have h_held : Part.held ∈ E := hE (by decide)
  have k0 : [Part.clock, Part.objects, Part.blobs, Part.gsol, Part.ctl] ⊆ E := List.Subset.trans (by decide) hE
  have k1 : [Part.objects, Part.ctl] ⊆ E := List.Subset.trans (by decide) hE
  have k2 : [Part.objects, Part.est] ⊆ E := List.Subset.trans (by decide) hE
  have k3 : [Part.objects, Part.recorder, Part.alarms, Part.srv] ⊆ E := List.Subset.trans (by decide) hE
  have k4 : [Part.objects, Part.recorder, Part.alarms, Part.ctl, Part.srv, Part.wires] ⊆ E := List.Subset.trans (by decide) hE
  unfold State.startAfresh
  (try dsimp only)
  repeat' (first
    | (with_reducible assumption)
    | ((with_reducible apply State.reloadConfig_sound k0))
    | ((with_reducible apply State.stopMode_sound k1))
    | ((with_reducible apply State.estStart_sound k2))
    | ((with_reducible apply State.enterThr_sound k3))
    | ((with_reducible apply State.driveRole_sound k4))
    | (with_reducible refine sound_ite (fun _ => ?_) (fun _ => ?_))
    | (with_reducible refine sound_foldl (fun s x h => ?_) ?_)
    | (fail_if_no_progress with_reducible refine Sound.upd_held h_held _ ?_))

theorem State.claimActive_sound {E : List Part} {base : State} (hE : [Part.power, Part.clock, Part.objects, Part.held, Part.recorder, Part.pair, Part.alarms, Part.tap, Part.ctl, Part.srv, Part.saf, Part.diag, Part.wires, Part.free] ⊆ E) (s : State)
    (fine : Sound E base s) :
    Sound E base (State.claimActive s) := by
  have h_power : Part.power ∈ E := hE (by decide)
  have h_pair : Part.pair ∈ E := hE (by decide)
  have k0 : [Part.clock, Part.objects, Part.held, Part.recorder, Part.pair, Part.alarms, Part.tap, Part.ctl, Part.srv, Part.saf, Part.diag, Part.wires, Part.free] ⊆ E := List.Subset.trans (by decide) hE
  unfold State.claimActive
  (try dsimp only)
  repeat' (first
    | (with_reducible assumption)
    | ((with_reducible apply State.roleTo_sound k0))
    | (with_reducible refine sound_ite (fun _ => ?_) (fun _ => ?_))
    | (with_reducible refine sound_foldl (fun s x h => ?_) ?_)
    | (fail_if_no_progress with_reducible refine Sound.upd_power_pair h_power h_pair _ ?_ rfl))

theorem State.strapMismatch_sound {E : List Part} {base : State} (hE : [Part.ident, Part.clock, Part.objects, Part.held, Part.recorder, Part.pair, Part.alarms, Part.tap, Part.ctl, Part.srv, Part.saf, Part.diag, Part.wires, Part.free] ⊆ E) (s : State)
    (fine : Sound E base s) :
    Sound E base (State.strapMismatch s) := by
  have h_ident : Part.ident ∈ E := hE (by decide)
  have k0 : [Part.clock, Part.objects, Part.held, Part.recorder, Part.pair, Part.alarms, Part.tap, Part.ctl, Part.srv, Part.saf, Part.diag, Part.wires, Part.free] ⊆ E := List.Subset.trans (by decide) hE
  have k1 : [Part.objects, Part.recorder] ⊆ E := List.Subset.trans (by decide) hE
  unfold State.strapMismatch
  (try dsimp only)
  repeat' (first
    | (with_reducible assumption)
    | ((with_reducible apply State.goOffline_sound k0))
    | ((with_reducible apply State.event_sound k1))
    | (with_reducible refine sound_ite (fun _ => ?_) (fun _ => ?_))
    | (with_reducible refine sound_foldl (fun s x h => ?_) ?_)
    | (fail_if_no_progress with_reducible refine Sound.upd_ident h_ident _ ?_ rfl rfl rfl))

theorem State.resolveLink_sound {E : List Part} {base : State} (hE : [Part.power, Part.clock, Part.objects, Part.held, Part.recorder, Part.pair, Part.alarms, Part.tap, Part.ctl, Part.srv, Part.saf, Part.diag, Part.wires, Part.free] ⊆ E) (s : State) (partner : Option PairRole) (partnerNs : Nat)
    (fine : Sound E base s) :
    Sound E base (State.resolveLink s partner partnerNs) := by
  have k0 : [Part.clock, Part.objects, Part.held, Part.recorder, Part.pair, Part.alarms, Part.tap, Part.ctl, Part.srv, Part.saf, Part.diag, Part.wires, Part.free] ⊆ E := List.Subset.trans (by decide) hE
  have k1 : [Part.power, Part.clock, Part.objects, Part.held, Part.recorder, Part.pair, Part.alarms, Part.tap, Part.ctl, Part.srv, Part.saf, Part.diag, Part.wires, Part.free] ⊆ E := List.Subset.trans (by decide) hE
  unfold State.resolveLink
  (try dsimp only)
  repeat' (first
    | (with_reducible assumption)
    | ((with_reducible apply State.roleTo_sound k0))
    | ((with_reducible apply State.claimActive_sound k1))
    | (with_reducible refine sound_ite (fun _ => ?_) (fun _ => ?_))
    | (with_reducible refine sound_foldl (fun s x h => ?_) ?_)
    | (dsimp only)
    | (split))

theorem State.slipFail_sound {E : List Part} {base : State} (hE : [Part.clock, Part.objects, Part.held, Part.recorder, Part.pair, Part.alarms, Part.tap, Part.ctl, Part.srv, Part.saf, Part.diag, Part.wires, Part.free] ⊆ E) (s : State)
    (fine : Sound E base s) :
    Sound E base (State.slipFail s) := by
  have h_pair : Part.pair ∈ E := hE (by decide)
  have k0 : [Part.objects, Part.recorder, Part.alarms] ⊆ E := List.Subset.trans (by decide) hE
  have k1 : [Part.objects] ⊆ E := List.Subset.trans (by decide) hE
  have k2 : [Part.clock, Part.objects, Part.held, Part.recorder, Part.pair, Part.alarms, Part.tap, Part.ctl, Part.srv, Part.saf, Part.diag, Part.wires, Part.free] ⊆ E := List.Subset.trans (by decide) hE
  unfold State.slipFail
  (try dsimp only)
  repeat' (first
    | (with_reducible assumption)
    | ((with_reducible apply State.count_sound k0))
    | ((with_reducible apply State.setObjs_sound k1))
    | ((with_reducible apply State.goOffline_sound k2))
    | (with_reducible refine sound_ite (fun _ => ?_) (fun _ => ?_))
    | (with_reducible refine sound_foldl (fun s x h => ?_) ?_)
    | (fail_if_no_progress with_reducible refine Sound.upd_pair h_pair _ ?_ rfl))

theorem State.linkLost_sound {E : List Part} {base : State} (hE : [Part.power, Part.clock, Part.objects, Part.blobs, Part.held, Part.dict, Part.recorder, Part.pair, Part.alarms, Part.mram, Part.tap, Part.ctl, Part.ring, Part.srv, Part.saf, Part.net, Part.diag, Part.user, Part.wires, Part.free] ⊆ E) (s : State)
    (fine : Sound E base s) :
    Sound E base (State.linkLost s) := by
  have h_pair : Part.pair ∈ E := hE (by decide)
  have k0 : [Part.objects] ⊆ E := List.Subset.trans (by decide) hE
  have k1 : [Part.power, Part.clock, Part.objects, Part.blobs, Part.held, Part.dict, Part.recorder, Part.pair, Part.alarms, Part.mram, Part.tap, Part.ctl, Part.ring, Part.srv, Part.saf, Part.net, Part.diag, Part.user, Part.wires, Part.free] ⊆ E := List.Subset.trans (by decide) hE
  have k2 : [Part.clock, Part.objects, Part.held, Part.recorder, Part.pair, Part.alarms, Part.tap, Part.ctl, Part.srv, Part.saf, Part.diag, Part.wires, Part.free] ⊆ E := List.Subset.trans (by decide) hE
  unfold State.linkLost
  (try dsimp only)
  repeat' (first
    | (with_reducible assumption)
    | ((with_reducible apply State.setObj_sound k0))
    | ((with_reducible apply State.endAcks_sound k1))
    | ((with_reducible apply State.slipFail_sound k2))
    | ((with_reducible apply State.roleTo_sound k2))
    | (with_reducible refine sound_ite (fun _ => ?_) (fun _ => ?_))
    | (with_reducible refine sound_foldl (fun s x h => ?_) ?_)
    | (fail_if_no_progress with_reducible refine Sound.upd_pair h_pair _ ?_ rfl))

theorem State.claim_sound {E : List Part} {base : State} (hE : [Part.power, Part.clock, Part.objects, Part.held, Part.recorder, Part.pair, Part.alarms, Part.tap, Part.ctl, Part.srv, Part.saf, Part.diag, Part.wires, Part.free] ⊆ E) (s : State)
    (fine : Sound E base s) :
    Sound E base (State.claim s) := by
  have k0 : [Part.power, Part.clock, Part.objects, Part.held, Part.recorder, Part.pair, Part.alarms, Part.tap, Part.ctl, Part.srv, Part.saf, Part.diag, Part.wires, Part.free] ⊆ E := List.Subset.trans (by decide) hE
  unfold State.claim
  (try dsimp only)
  repeat' (first
    | (with_reducible assumption)
    | ((with_reducible apply State.claimActive_sound k0))
    | (with_reducible refine sound_ite (fun _ => ?_) (fun _ => ?_)))

theorem State.decide'_sound {E : List Part} {base : State} (hE : [Part.pair] ⊆ E) (s : State) (cause : Nat)
    (fine : Sound E base s) :
    Sound E base (State.decide' s cause) := by
  have h_pair : Part.pair ∈ E := hE (by decide)
  unfold State.decide'
  (try dsimp only)
  repeat' (first
    | (with_reducible assumption)
    | (with_reducible refine sound_ite (fun _ => ?_) (fun _ => ?_))
    | (with_reducible refine sound_foldl (fun s x h => ?_) ?_)
    | (fail_if_no_progress with_reducible refine Sound.upd_pair h_pair _ ?_ rfl))

theorem State.hardFaultOf_sound {E : List Part} {base : State} (hE : [Part.clock, Part.objects, Part.held, Part.recorder, Part.pair, Part.alarms, Part.tap, Part.ctl, Part.srv, Part.saf, Part.diag, Part.wires, Part.free] ⊆ E) (s : State) (injected : Option (Nat × Nat))
    (fine : Sound E base s) :
    Sound E base (State.hardFaultOf s injected) := by
  have h_pair : Part.pair ∈ E := hE (by decide)
  have k0 : [Part.objects, Part.recorder, Part.alarms, Part.diag] ⊆ E := List.Subset.trans (by decide) hE
  have k1 : [Part.objects, Part.recorder] ⊆ E := List.Subset.trans (by decide) hE
  have k2 : [Part.wires] ⊆ E := List.Subset.trans (by decide) hE
  have k3 : [Part.objects, Part.pair, Part.diag, Part.wires, Part.free] ⊆ E := List.Subset.trans (by decide) hE
  have k4 : [Part.clock, Part.objects, Part.held, Part.recorder, Part.pair, Part.alarms, Part.tap, Part.ctl, Part.srv, Part.saf, Part.diag, Part.wires, Part.free] ⊆ E := List.Subset.trans (by decide) hE
  unfold State.hardFaultOf
  (try dsimp only)
  repeat' (first
    | (with_reducible assumption)
    | ((with_reducible apply State.declared_sound k0))
    | ((with_reducible apply State.event_sound k1))
    | ((with_reducible apply State.tell_sound k2))
    | ((with_reducible apply State.twSend_sound k3))
    | ((with_reducible apply State.goOffline_sound k4))
    | ((with_reducible apply State.roleTo_sound k4))
    | (with_reducible refine sound_ite (fun _ => ?_) (fun _ => ?_))
    | (with_reducible refine sound_foldl (fun s x h => ?_) ?_)
    | (fail_if_no_progress with_reducible refine Sound.upd_pair h_pair _ ?_ rfl)
    | (dsimp only)
    | (split))

theorem State.hardFault_sound {E : List Part} {base : State} (hE : [Part.clock, Part.objects, Part.held, Part.recorder, Part.pair, Part.alarms, Part.tap, Part.ctl, Part.srv, Part.saf, Part.diag, Part.wires, Part.free] ⊆ E) (s : State) (d : FaultDetector)
    (fine : Sound E base s) :
    Sound E base (State.hardFault s d) := by
  have k0 : [Part.clock, Part.objects, Part.held, Part.recorder, Part.pair, Part.alarms, Part.tap, Part.ctl, Part.srv, Part.saf, Part.diag, Part.wires, Part.free] ⊆ E := List.Subset.trans (by decide) hE
  unfold State.hardFault
  repeat' (first
    | (with_reducible assumption)
    | ((with_reducible apply State.hardFaultOf_sound k0)))

theorem State.rejoin_sound {E : List Part} {base : State} (hE : [Part.clock, Part.objects, Part.held, Part.recorder, Part.pair, Part.alarms, Part.tap, Part.ctl, Part.srv, Part.saf, Part.diag, Part.wires, Part.free] ⊆ E) (s : State)
    (fine : Sound E base s) :
    Sound E base (State.rejoin s) := by
  have h_pair : Part.pair ∈ E := hE (by decide)
  have k0 : [Part.clock, Part.objects, Part.held, Part.recorder, Part.pair, Part.alarms, Part.tap, Part.ctl, Part.srv, Part.saf, Part.diag, Part.wires, Part.free] ⊆ E := List.Subset.trans (by decide) hE
  unfold State.rejoin
  (try dsimp only)
  repeat' (first
    | (with_reducible assumption)
    | ((with_reducible apply State.roleTo_sound k0))
    | (with_reducible refine sound_ite (fun _ => ?_) (fun _ => ?_))
    | (with_reducible refine sound_foldl (fun s x h => ?_) ?_)
    | (fail_if_no_progress with_reducible refine Sound.upd_pair h_pair _ ?_ rfl))

theorem State.takeFrames_sound {E : List Part} {base : State} (hE : [Part.objects, Part.recorder, Part.alarms, Part.ring, Part.diag, Part.wires, Part.free] ⊆ E) (s : State)
    (fine : Sound E base s) :
    Sound E base (State.takeFrames s) := by
  have h_ring : Part.ring ∈ E := hE (by decide)
  have k0 : [Part.ring] ⊆ E := List.Subset.trans (by decide) hE
  have k1 : [Part.objects] ⊆ E := List.Subset.trans (by decide) hE
  have k2 : [Part.objects, Part.recorder, Part.alarms] ⊆ E := List.Subset.trans (by decide) hE
  have k3 : [Part.objects, Part.diag, Part.wires, Part.free] ⊆ E := List.Subset.trans (by decide) hE
  unfold State.takeFrames
  (try dsimp only)
  repeat' (first
    | (with_reducible assumption)
    | ((with_reducible apply State.buildFrame_sound k0))
    | ((with_reducible apply State.setObj_sound k1))
    | ((with_reducible apply State.count_sound k2))
    | ((with_reducible apply State.sendRing_sound k3))
    | (with_reducible refine sound_ite (fun _ => ?_) (fun _ => ?_))
    | (with_reducible refine sound_foldl (fun s x h => ?_) ?_)
    | (fail_if_no_progress with_reducible refine Sound.upd_ring h_ring _ ?_))

theorem State.closeCycle_sound {E : List Part} {base : State} (hE : [Part.objects, Part.blobs, Part.recorder, Part.pair, Part.alarms, Part.ring, Part.diag, Part.wires, Part.free] ⊆ E) (s : State)
    (fine : Sound E base s) :
    Sound E base (State.closeCycle s) := by
  have h_pair : Part.pair ∈ E := hE (by decide)
  have k0 : [Part.ring] ⊆ E := List.Subset.trans (by decide) hE
  have k1 : [Part.blobs] ⊆ E := List.Subset.trans (by decide) hE
  have k2 : [Part.objects, Part.pair, Part.diag, Part.wires, Part.free] ⊆ E := List.Subset.trans (by decide) hE
  have k3 : [Part.objects, Part.recorder, Part.alarms] ⊆ E := List.Subset.trans (by decide) hE
  unfold State.closeCycle
  (try dsimp only)
  repeat' (first
    | (with_reducible assumption)
    | ((with_reducible apply State.buildFrame_sound k0))
    | ((with_reducible apply State.setBlob_sound k1))
    | ((with_reducible apply State.twSend_sound k2))
    | ((with_reducible apply State.count_sound k3))
    | (with_reducible refine sound_ite (fun _ => ?_) (fun _ => ?_))
    | (with_reducible refine sound_foldl (fun s x h => ?_) ?_)
    | (fail_if_no_progress with_reducible refine Sound.upd_pair h_pair _ ?_ rfl)
    | (dsimp only)
    | (split))

theorem State.releaseAcks_sound {E : List Part} {base : State} (hE : [Part.power, Part.clock, Part.objects, Part.blobs, Part.held, Part.dict, Part.recorder, Part.pair, Part.alarms, Part.mram, Part.tap, Part.ctl, Part.ring, Part.srv, Part.saf, Part.net, Part.diag, Part.user, Part.wires, Part.free] ⊆ E) (s : State)
    (fine : Sound E base s) :
    Sound E base (State.releaseAcks s) := by
  have h_dict : Part.dict ∈ E := hE (by decide)
  have k0 : [Part.power, Part.clock, Part.objects, Part.blobs, Part.held, Part.dict, Part.recorder, Part.pair, Part.alarms, Part.mram, Part.tap, Part.ctl, Part.ring, Part.srv, Part.saf, Part.net, Part.diag, Part.user, Part.wires, Part.free] ⊆ E := List.Subset.trans (by decide) hE
  unfold State.releaseAcks
  (try dsimp only)
  repeat' (first
    | (with_reducible assumption)
    | ((with_reducible apply State.answer_sound k0))
    | (with_reducible refine sound_ite (fun _ => ?_) (fun _ => ?_))
    | (with_reducible refine sound_foldl (fun s x h => ?_) ?_)
    | (fail_if_no_progress with_reducible refine Sound.upd_dict h_dict _ ?_))

theorem State.takeHeader_sound {E : List Part} {base : State} (hE : [Part.power, Part.clock, Part.objects, Part.blobs, Part.held, Part.dict, Part.recorder, Part.pair, Part.alarms, Part.mram, Part.tap, Part.ctl, Part.ring, Part.srv, Part.saf, Part.net, Part.diag, Part.user, Part.wires, Part.free] ⊆ E) (s : State) (h : TwHeader)
    (fine : Sound E base s) :
    Sound E base (State.takeHeader s h) := by
  have h_pair : Part.pair ∈ E := hE (by decide)
  have k0 : [Part.objects] ⊆ E := List.Subset.trans (by decide) hE
  have k1 : [Part.power, Part.clock, Part.objects, Part.blobs, Part.held, Part.dict, Part.recorder, Part.pair, Part.alarms, Part.mram, Part.tap, Part.ctl, Part.ring, Part.srv, Part.saf, Part.net, Part.diag, Part.user, Part.wires, Part.free] ⊆ E := List.Subset.trans (by decide) hE
  have k2 : [Part.clock, Part.objects, Part.held, Part.recorder, Part.pair, Part.alarms, Part.tap, Part.ctl, Part.srv, Part.saf, Part.diag, Part.wires, Part.free] ⊆ E := List.Subset.trans (by decide) hE
  unfold State.takeHeader
  (try dsimp only)
  repeat' (first
    | (with_reducible assumption)
    | ((with_reducible apply State.setBit_sound k0))
    | ((with_reducible apply State.setObj_sound k0))
    | ((with_reducible apply State.releaseAcks_sound k1))
    | ((with_reducible apply State.slipFail_sound k2))
    | ((with_reducible apply State.roleTo_sound k2))
    | ((with_reducible apply State.endAcks_sound k1))
    | (with_reducible refine sound_ite (fun _ => ?_) (fun _ => ?_))
    | (with_reducible refine sound_foldl (fun s x h => ?_) ?_)
    | (fail_if_no_progress with_reducible refine Sound.upd_pair h_pair _ ?_ rfl))

theorem State.takeMessage_sound {E : List Part} {base : State} (hE : [Part.power, Part.ident, Part.clock, Part.objects, Part.blobs, Part.held, Part.dict, Part.recorder, Part.pair, Part.alarms, Part.mram, Part.tap, Part.ctl, Part.ring, Part.srv, Part.saf, Part.net, Part.diag, Part.user, Part.wires, Part.free] ⊆ E) (s : State) (lane : Nat) (words : List (List Byte))
    (fine : Sound E base s) :
    Sound E base (State.takeMessage s lane words) := by
  have h_pair : Part.pair ∈ E := hE (by decide)
  have k0 : [Part.objects] ⊆ E := List.Subset.trans (by decide) hE
  have k1 : [Part.objects, Part.recorder, Part.alarms] ⊆ E := List.Subset.trans (by decide) hE
  have k2 : [Part.pair] ⊆ E := List.Subset.trans (by decide) hE
  have k3 : [Part.ident, Part.clock, Part.objects, Part.held, Part.recorder, Part.pair, Part.alarms, Part.tap, Part.ctl, Part.srv, Part.saf, Part.diag, Part.wires, Part.free] ⊆ E := List.Subset.trans (by decide) hE
  have k4 : [Part.power, Part.clock, Part.objects, Part.blobs, Part.held, Part.dict, Part.recorder, Part.pair, Part.alarms, Part.mram, Part.tap, Part.ctl, Part.ring, Part.srv, Part.saf, Part.net, Part.diag, Part.user, Part.wires, Part.free] ⊆ E := List.Subset.trans (by decide) hE
  unfold State.takeMessage
  (try dsimp only)
  repeat' (first
    | (with_reducible assumption)
    | ((with_reducible apply State.setObj_sound k0))
    | ((with_reducible apply State.countBy_sound k1))
    | ((with_reducible apply State.modLane_sound k2))
    | ((with_reducible apply State.count_sound k1))
    | ((with_reducible apply State.strapMismatch_sound k3))
    | ((with_reducible apply State.takeHeader_sound k4))
    | (with_reducible refine sound_ite (fun _ => ?_) (fun _ => ?_))
    | (with_reducible refine sound_foldl (fun s x h => ?_) ?_)
    | (fail_if_no_progress with_reducible refine Sound.upd_pair h_pair _ ?_ rfl)
    | (with_reducible refine Sound.upd_pair h_pair _ ?_ (Pair.take_role _ _))
    | (dsimp only)
    | (split))

theorem State.takeWaiting_sound {E : List Part} {base : State} (hE : [Part.pair] ⊆ E) (s : State) (k : TwKind) (fine : Sound E base s) (s' : State)
    (h : State.takeWaiting s k = some s') : Sound E base s' := by
  have h_pair : Part.pair ∈ E := hE (by decide)
  unfold State.takeWaiting at h
  split at h
  · cases h
  · cases h
    exact Sound.upd_pair h_pair s fine rfl

theorem State.onMessage_sound {E : List Part} {base : State} (hE : [Part.pair] ⊆ E) (s : State) (k : TwKind) (f : State → State)
    (hf : ∀ s, Sound E base s → Sound E base (f s)) (fine : Sound E base s) : Sound E base (State.onMessage s k f) := by
  have k0 : [Part.pair] ⊆ E := List.Subset.trans (by decide) hE
  unfold State.onMessage
  split
  · exact fine
  · exact hf _ (State.takeWaiting_sound k0 _ _ fine _ (by assumption))

theorem State.poolPartner_sound {E : List Part} {base : State} (hE : [Part.pair] ⊆ E) (s : State) (source stamp : Nat) (data : List Byte)
    (fine : Sound E base s) :
    Sound E base (State.poolPartner s source stamp data) := by
  have h_pair : Part.pair ∈ E := hE (by decide)
  unfold State.poolPartner
  (try dsimp only)
  repeat' (first
    | (with_reducible assumption)
    | (with_reducible refine sound_ite (fun _ => ?_) (fun _ => ?_))
    | (with_reducible refine sound_foldl (fun s x h => ?_) ?_)
    | (fail_if_no_progress with_reducible refine Sound.upd_pair h_pair _ ?_ rfl))

theorem State.partnerInput_sound {E : List Part} {base : State} (hE : [Part.objects, Part.recorder, Part.pair, Part.alarms, Part.gsol, Part.intake, Part.align, Part.srv] ⊆ E) (s : State) (x0 : PairInput)
    (fine : Sound E base s) :
    Sound E base (State.partnerInput s x0) := by
  have k0 : [Part.pair] ⊆ E := List.Subset.trans (by decide) hE
  have k1 : [Part.objects, Part.recorder, Part.alarms, Part.align] ⊆ E := List.Subset.trans (by decide) hE
  have k2 : [Part.intake] ⊆ E := List.Subset.trans (by decide) hE
  have k3 : [Part.gsol] ⊆ E := List.Subset.trans (by decide) hE
  have k4 : [Part.align] ⊆ E := List.Subset.trans (by decide) hE
  have k5 : [Part.objects, Part.recorder, Part.alarms, Part.srv] ⊆ E := List.Subset.trans (by decide) hE
  have k6 : [Part.srv] ⊆ E := List.Subset.trans (by decide) hE
  unfold State.partnerInput
  (try dsimp only)
  repeat' (first
    | (with_reducible assumption)
    | ((with_reducible apply State.poolPartner_sound k0))
    | ((with_reducible apply State.decodePacket_sound k1))
    | ((with_reducible apply State.unmarkInput_sound k0))
    | ((with_reducible apply State.modChain_sound k2))
    | ((with_reducible apply State.keepProduct_sound k3))
    | ((with_reducible apply State.productSample_sound k1))
    | ((with_reducible apply State.attitudeProduct_sound k4))
    | ((with_reducible apply State.encoderAngle_sound k5))
    | ((with_reducible apply State.driveLevel_sound k6))
    | (with_reducible refine sound_ite (fun _ => ?_) (fun _ => ?_))
    | (with_reducible refine sound_foldl (fun s x h => ?_) ?_)
    | (dsimp only)
    | (split))

theorem State.formDigest_sound {E : List Part} {base : State} (hE : [Part.objects, Part.recorder, Part.pair, Part.alarms, Part.diag] ⊆ E) (s : State) (output : List Byte) (st : List Int) (from' deadline : Int)
    (fine : Sound E base s) :
    Sound E base (State.formDigest s output st from' deadline) := by
  have h_pair : Part.pair ∈ E := hE (by decide)
  have h_diag : Part.diag ∈ E := hE (by decide)
  have k0 : [Part.objects, Part.recorder, Part.alarms] ⊆ E := List.Subset.trans (by decide) hE
  unfold State.formDigest
  (try dsimp only)
  repeat' (first
    | (with_reducible assumption)
    | ((with_reducible apply State.count_sound k0))
    | (with_reducible refine sound_ite (fun _ => ?_) (fun _ => ?_))
    | (with_reducible refine sound_foldl (fun s x h => ?_) ?_)
    | (fail_if_no_progress with_reducible refine Sound.upd_pair_diagn h_pair h_diag _ ?_ rfl))

theorem State.compareLists_sound {E : List Part} {base : State} (hE : [Part.objects, Part.recorder, Part.alarms] ⊆ E) (s : State) (u count : Nat) (crc : Option Nat)
    (fine : Sound E base s) :
    Sound E base (State.compareLists s u count crc) := by
  have k0 : [Part.objects, Part.recorder, Part.alarms] ⊆ E := List.Subset.trans (by decide) hE
  unfold State.compareLists
  repeat' (first
    | (with_reducible assumption)
    | ((with_reducible apply State.count_sound k0))
    | ((with_reducible apply State.alarm_sound k0))
    | (with_reducible refine sound_ite (fun _ => ?_) (fun _ => ?_))
    | (with_reducible refine sound_foldl (fun s x h => ?_) ?_)
    | (dsimp only)
    | (split))

theorem State.diverge_sound {E : List Part} {base : State} (hE : [Part.clock, Part.objects, Part.held, Part.recorder, Part.pair, Part.alarms, Part.tap, Part.ctl, Part.srv, Part.saf, Part.diag, Part.wires, Part.free] ⊆ E) (s : State) (own : DigestRec) (outputs states : Bool)
    (fine : Sound E base s) :
    Sound E base (State.diverge s own outputs states) := by
  have h_pair : Part.pair ∈ E := hE (by decide)
  have k0 : [Part.objects, Part.recorder, Part.alarms, Part.diag] ⊆ E := List.Subset.trans (by decide) hE
  have k1 : [Part.objects, Part.recorder, Part.alarms] ⊆ E := List.Subset.trans (by decide) hE
  have k2 : [Part.objects, Part.recorder] ⊆ E := List.Subset.trans (by decide) hE
  have k3 : [Part.objects] ⊆ E := List.Subset.trans (by decide) hE
  have k4 : [Part.clock, Part.objects, Part.held, Part.recorder, Part.pair, Part.alarms, Part.tap, Part.ctl, Part.srv, Part.saf, Part.diag, Part.wires, Part.free] ⊆ E := List.Subset.trans (by decide) hE
  unfold State.diverge
  (try dsimp only)
  repeat' (first
    | (with_reducible assumption)
    | ((with_reducible apply State.declared_sound k0))
    | ((with_reducible apply State.count_sound k1))
    | ((with_reducible apply State.event_sound k2))
    | ((with_reducible apply State.alarm_sound k1))
    | ((with_reducible apply State.setObjs_sound k3))
    | ((with_reducible apply State.roleTo_sound k4))
    | (with_reducible refine sound_ite (fun _ => ?_) (fun _ => ?_))
    | (with_reducible refine sound_foldl (fun s x h => ?_) ?_)
    | (fail_if_no_progress with_reducible refine Sound.upd_pair h_pair _ ?_ rfl))

theorem State.compareDigests_sound {E : List Part} {base : State} (hE : [Part.clock, Part.objects, Part.held, Part.recorder, Part.pair, Part.alarms, Part.tap, Part.ctl, Part.srv, Part.saf, Part.diag, Part.wires, Part.free] ⊆ E) (s : State) (own : DigestRec)
    (fine : Sound E base s) :
    Sound E base (State.compareDigests s own) := by
  have h_pair : Part.pair ∈ E := hE (by decide)
  have k0 : [Part.objects, Part.recorder, Part.alarms] ⊆ E := List.Subset.trans (by decide) hE
  have k1 : [Part.clock, Part.objects, Part.held, Part.recorder, Part.pair, Part.alarms, Part.tap, Part.ctl, Part.srv, Part.saf, Part.diag, Part.wires, Part.free] ⊆ E := List.Subset.trans (by decide) hE
  unfold State.compareDigests
  (try dsimp only)
  repeat' (first
    | (with_reducible assumption)
    | ((with_reducible apply State.count_sound k0))
    | ((with_reducible apply State.roleTo_sound k1))
    | ((with_reducible apply State.diverge_sound k1))
    | ((with_reducible apply State.unalarm_sound k0))
    | (with_reducible refine sound_ite (fun _ => ?_) (fun _ => ?_))
    | (with_reducible refine sound_foldl (fun s x h => ?_) ?_)
    | (fail_if_no_progress with_reducible refine Sound.upd_pair h_pair _ ?_ rfl)
    | (dsimp only)
    | (split))

theorem State.placeDrill_sound {E : List Part} {base : State} (hE : [Part.objects, Part.recorder, Part.pair, Part.alarms] ⊆ E) (s : State)
    (fine : Sound E base s) :
    Sound E base (State.placeDrill s) := by
  have h_pair : Part.pair ∈ E := hE (by decide)
  have k0 : [Part.objects, Part.recorder, Part.alarms] ⊆ E := List.Subset.trans (by decide) hE
  unfold State.placeDrill
  (try dsimp only)
  repeat' (first
    | (with_reducible assumption)
    | ((with_reducible apply State.count_sound k0))
    | ((with_reducible apply State.alarm_sound k0))
    | (with_reducible refine sound_ite (fun _ => ?_) (fun _ => ?_))
    | (with_reducible refine sound_foldl (fun s x h => ?_) ?_)
    | (fail_if_no_progress with_reducible refine Sound.upd_pair h_pair _ ?_ rfl)
    | (dsimp only)
    | (split))

theorem State.swapRoles_sound {E : List Part} {base : State} (hE : [Part.clock, Part.objects, Part.held, Part.recorder, Part.pair, Part.alarms, Part.tap, Part.ctl, Part.ring, Part.srv, Part.saf, Part.diag, Part.wires, Part.free] ⊆ E) (s : State)
    (fine : Sound E base s) :
    Sound E base (State.swapRoles s) := by
  have h_pair : Part.pair ∈ E := hE (by decide)
  have h_ring : Part.ring ∈ E := hE (by decide)
  have k0 : [Part.clock, Part.objects, Part.held, Part.recorder, Part.pair, Part.alarms, Part.tap, Part.ctl, Part.srv, Part.saf, Part.diag, Part.wires, Part.free] ⊆ E := List.Subset.trans (by decide) hE
  have k1 : [Part.objects] ⊆ E := List.Subset.trans (by decide) hE
  have k2 : [Part.objects, Part.recorder, Part.alarms] ⊆ E := List.Subset.trans (by decide) hE
  have k3 : [Part.objects, Part.recorder] ⊆ E := List.Subset.trans (by decide) hE
  unfold State.swapRoles
  (try dsimp only)
  repeat' (first
    | (with_reducible assumption)
    | ((with_reducible apply State.roleTo_sound k0))
    | ((with_reducible apply State.setObj_sound k1))
    | ((with_reducible apply State.count_sound k2))
    | ((with_reducible apply State.unalarm_sound k2))
    | ((with_reducible apply State.event_sound k3))
    | (with_reducible refine sound_ite (fun _ => ?_) (fun _ => ?_))
    | (with_reducible refine sound_foldl (fun s x h => ?_) ?_)
    | (fail_if_no_progress with_reducible refine Sound.upd_pair h_pair _ ?_ rfl)
    | (fail_if_no_progress with_reducible refine Sound.upd_ring h_ring _ ?_)
    | (fail_if_no_progress with_reducible refine Sound.upd_pair_ring h_pair h_ring _ ?_ rfl)
    | (dsimp only)
    | (split))

theorem State.adopt_sound {E : List Part} {base : State} (hE : [Part.objects, Part.align, Part.est, Part.trk, Part.ctl, Part.alc, Part.srv, Part.user] ⊆ E) (s : State) (r : DynState)
    (fine : Sound E base s) :
    Sound E base (State.adopt s r) := by
  have h_objects : Part.objects ∈ E := hE (by decide)
  have h_align : Part.align ∈ E := hE (by decide)
  have h_est : Part.est ∈ E := hE (by decide)
  have h_trk : Part.trk ∈ E := hE (by decide)
  have h_ctl : Part.ctl ∈ E := hE (by decide)
  have h_alc : Part.alc ∈ E := hE (by decide)
  have h_srv : Part.srv ∈ E := hE (by decide)
  have h_user : Part.user ∈ E := hE (by decide)
  have k0 : [Part.objects] ⊆ E := List.Subset.trans (by decide) hE
  unfold State.adopt
  apply State.setBit_sound (List.Subset.trans (by decide) hE)
  apply State.setBit_sound (List.Subset.trans (by decide) hE)
  refine ⟨putKeys_ok _ _ (storeWf_filter _ _ _ fine.od'), fine.blobs', fine.ident', fine.tap', ?_, fine.power, fine.ident, fine.clock, .inr h_objects, fine.blobs, fine.held, fine.dict, fine.recorder, fine.pair, fine.alarms, fine.saturated, fine.mram, fine.tap, fine.gnss, fine.gsol, fine.intake, .inr h_align, .inr h_est, .inr h_trk, .inr h_ctl, fine.ring, .inr h_alc, .inr h_srv, fine.saf, fine.net, fine.panel, fine.diagn, .inr h_user, fine.out, fine.freeCount⟩
  dsimp only
  rw [List.all_map, List.all_eq_true]
  exact fun p _ => putBytes_wf [] p.tcm rfl

theorem State.pairApplied_sound {E : List Part} {base : State} (hE : [Part.clock, Part.objects, Part.held, Part.recorder, Part.pair, Part.alarms, Part.tap, Part.ctl, Part.srv, Part.saf, Part.diag, Part.wires, Part.free] ⊆ E) (s : State) (i sub : Nat)
    (fine : Sound E base s) :
    Sound E base (State.pairApplied s i sub) := by
  have h_pair : Part.pair ∈ E := hE (by decide)
  have k0 : [Part.objects] ⊆ E := List.Subset.trans (by decide) hE
  have k1 : [Part.clock, Part.objects, Part.held, Part.recorder, Part.pair, Part.alarms, Part.tap, Part.ctl, Part.srv, Part.saf, Part.diag, Part.wires, Part.free] ⊆ E := List.Subset.trans (by decide) hE
  unfold State.pairApplied
  (try dsimp only)
  repeat' (first
    | (with_reducible assumption)
    | ((with_reducible apply State.setObj_sound k0))
    | ((with_reducible apply State.rejoin_sound k1))
    | (with_reducible refine sound_ite (fun _ => ?_) (fun _ => ?_))
    | (with_reducible refine sound_foldl (fun s x h => ?_) ?_)
    | (fail_if_no_progress with_reducible refine Sound.upd_pair h_pair _ ?_ rfl))

theorem State.showBollard_sound {E : List Part} {base : State} (hE : [Part.objects, Part.recorder, Part.pair, Part.alarms, Part.saf, Part.diag, Part.wires, Part.free] ⊆ E) (s : State)
    (fine : Sound E base s) :
    Sound E base (State.showBollard s) := by
  have k0 : [Part.objects] ⊆ E := List.Subset.trans (by decide) hE
  have k1 : [Part.objects, Part.recorder, Part.pair, Part.alarms, Part.saf, Part.diag, Part.wires, Part.free] ⊆ E := List.Subset.trans (by decide) hE
  unfold State.showBollard
  repeat' (first
    | (with_reducible assumption)
    | ((with_reducible apply State.setObj_sound k0))
    | ((with_reducible apply State.showDemands_sound k1)))

theorem State.fenderTrip_sound {E : List Part} {base : State} (hE : [Part.objects, Part.recorder, Part.pair, Part.alarms, Part.saf, Part.diag, Part.wires, Part.free] ⊆ E) (s : State) (cause : Nat)
    (fine : Sound E base s) :
    Sound E base (State.fenderTrip s cause) := by
  have h_saf : Part.saf ∈ E := hE (by decide)
  have k0 : [Part.objects] ⊆ E := List.Subset.trans (by decide) hE
  have k1 : [Part.objects, Part.recorder, Part.alarms] ⊆ E := List.Subset.trans (by decide) hE
  have k2 : [Part.objects, Part.recorder, Part.pair, Part.alarms, Part.saf, Part.diag, Part.wires, Part.free] ⊆ E := List.Subset.trans (by decide) hE
  unfold State.fenderTrip
  (try dsimp only)
  repeat' (first
    | (with_reducible assumption)
    | ((with_reducible apply State.setBit_sound k0))
    | ((with_reducible apply State.setObjs_sound k0))
    | ((with_reducible apply State.count_sound k1))
    | ((with_reducible apply State.showBollard_sound k2))
    | (with_reducible refine sound_ite (fun _ => ?_) (fun _ => ?_))
    | (with_reducible refine sound_foldl (fun s x h => ?_) ?_)
    | (fail_if_no_progress with_reducible refine Sound.upd_saf h_saf _ ?_))

theorem State.fenderGapSet_sound {E : List Part} {base : State} (hE : [Part.objects, Part.recorder, Part.alarms, Part.saf] ⊆ E) (s : State) (gap : Bool)
    (fine : Sound E base s) :
    Sound E base (State.fenderGapSet s gap) := by
  have h_saf : Part.saf ∈ E := hE (by decide)
  have k0 : [Part.objects, Part.recorder, Part.alarms] ⊆ E := List.Subset.trans (by decide) hE
  unfold State.fenderGapSet
  (try dsimp only)
  repeat' (first
    | (with_reducible assumption)
    | ((with_reducible apply State.count_sound k0))
    | ((with_reducible apply State.alarmIf_sound k0))
    | (with_reducible refine sound_ite (fun _ => ?_) (fun _ => ?_))
    | (with_reducible refine sound_foldl (fun s x h => ?_) ?_)
    | (fail_if_no_progress with_reducible refine Sound.upd_saf h_saf _ ?_))

theorem State.fender_sound {E : List Part} {base : State} (hE : [Part.objects, Part.recorder, Part.pair, Part.alarms, Part.saf, Part.diag, Part.wires, Part.free] ⊆ E) (s : State)
    (fine : Sound E base s) :
    Sound E base (State.fender s) := by
  have h_saf : Part.saf ∈ E := hE (by decide)
  have k0 : [Part.objects, Part.recorder, Part.alarms] ⊆ E := List.Subset.trans (by decide) hE
  have k1 : [Part.objects] ⊆ E := List.Subset.trans (by decide) hE
  have k2 : [Part.objects, Part.recorder, Part.pair, Part.alarms, Part.saf, Part.diag, Part.wires, Part.free] ⊆ E := List.Subset.trans (by decide) hE
  have k3 : [Part.objects, Part.recorder, Part.alarms, Part.saf] ⊆ E := List.Subset.trans (by decide) hE
  unfold State.fender
  (try dsimp only)
  repeat' (first
    | (with_reducible assumption)
    | ((with_reducible apply State.count_sound k0))
    | ((with_reducible apply State.setBit_sound k1))
    | ((with_reducible apply State.setObj_sound k1))
    | ((with_reducible apply State.showBollard_sound k2))
    | ((with_reducible apply State.fenderGapSet_sound k3))
    | ((with_reducible apply State.setObjs_sound k1))
    | ((with_reducible apply State.fenderTrip_sound k2))
    | (with_reducible refine sound_ite (fun _ => ?_) (fun _ => ?_))
    | (with_reducible refine sound_foldl (fun s x h => ?_) ?_)
    | (fail_if_no_progress with_reducible refine Sound.upd_saf h_saf _ ?_)
    | (dsimp only)
    | (refine sound_snd (by assumption) ?_)
    | (refine sound_fst (by assumption) ?_)
    | (refine sound_thd (by assumption) ?_)
    | (split))

theorem State.rateTrip_sound {E : List Part} {base : State} (hE : [Part.objects, Part.recorder, Part.pair, Part.alarms, Part.saf, Part.diag, Part.wires, Part.free] ⊆ E) (s : State)
    (fine : Sound E base s) :
    Sound E base (State.rateTrip s) := by
  have h_saf : Part.saf ∈ E := hE (by decide)
  have k0 : [Part.objects] ⊆ E := List.Subset.trans (by decide) hE
  have k1 : [Part.objects, Part.recorder, Part.alarms] ⊆ E := List.Subset.trans (by decide) hE
  have k2 : [Part.objects, Part.recorder, Part.pair, Part.alarms, Part.saf, Part.diag, Part.wires, Part.free] ⊆ E := List.Subset.trans (by decide) hE
  unfold State.rateTrip
  (try dsimp only)
  repeat' (first
    | (with_reducible assumption)
    | ((with_reducible apply State.setBit_sound k0))
    | ((with_reducible apply State.setObj_sound k0))
    | ((with_reducible apply State.count_sound k1))
    | ((with_reducible apply State.showBollard_sound k2))
    | (with_reducible refine sound_ite (fun _ => ?_) (fun _ => ?_))
    | (with_reducible refine sound_foldl (fun s x h => ?_) ?_)
    | (fail_if_no_progress with_reducible refine Sound.upd_saf h_saf _ ?_))

theorem State.rateGapSet_sound {E : List Part} {base : State} (hE : [Part.objects, Part.recorder, Part.alarms, Part.saf] ⊆ E) (s : State) (gap : Bool)
    (fine : Sound E base s) :
    Sound E base (State.rateGapSet s gap) := by
  have h_saf : Part.saf ∈ E := hE (by decide)
  have k0 : [Part.objects, Part.recorder, Part.alarms] ⊆ E := List.Subset.trans (by decide) hE
  unfold State.rateGapSet
  (try dsimp only)
  repeat' (first
    | (with_reducible assumption)
    | ((with_reducible apply State.count_sound k0))
    | ((with_reducible apply State.alarmIf_sound k0))
    | (with_reducible refine sound_ite (fun _ => ?_) (fun _ => ?_))
    | (with_reducible refine sound_foldl (fun s x h => ?_) ?_)
    | (fail_if_no_progress with_reducible refine Sound.upd_saf h_saf _ ?_))

theorem State.rateGuard_sound {E : List Part} {base : State} (hE : [Part.objects, Part.recorder, Part.pair, Part.alarms, Part.saf, Part.diag, Part.wires, Part.free] ⊆ E) (s : State)
    (fine : Sound E base s) :
    Sound E base (State.rateGuard s) := by
  have h_saf : Part.saf ∈ E := hE (by decide)
  have k0 : [Part.objects, Part.recorder, Part.alarms] ⊆ E := List.Subset.trans (by decide) hE
  have k1 : [Part.objects] ⊆ E := List.Subset.trans (by decide) hE
  have k2 : [Part.objects, Part.recorder, Part.pair, Part.alarms, Part.saf, Part.diag, Part.wires, Part.free] ⊆ E := List.Subset.trans (by decide) hE
  have k3 : [Part.objects, Part.recorder, Part.alarms, Part.saf] ⊆ E := List.Subset.trans (by decide) hE
  unfold State.rateGuard
  (try dsimp only)
  repeat' (first
    | (with_reducible assumption)
    | ((with_reducible apply State.count_sound k0))
    | ((with_reducible apply State.setBit_sound k1))
    | ((with_reducible apply State.setObj_sound k1))
    | ((with_reducible apply State.showBollard_sound k2))
    | ((with_reducible apply State.rateGapSet_sound k3))
    | ((with_reducible apply State.setObjs_sound k1))
    | ((with_reducible apply State.rateTrip_sound k2))
    | (with_reducible refine sound_ite (fun _ => ?_) (fun _ => ?_))
    | (with_reducible refine sound_foldl (fun s x h => ?_) ?_)
    | (fail_if_no_progress with_reducible refine Sound.upd_saf h_saf _ ?_)
    | (dsimp only)
    | (refine sound_snd (by assumption) ?_)
    | (refine sound_fst (by assumption) ?_)
    | (refine sound_thd (by assumption) ?_)
    | (split))

theorem State.guardCycle_sound {E : List Part} {base : State} (hE : [Part.objects, Part.recorder, Part.pair, Part.alarms, Part.saf, Part.diag, Part.wires, Part.free] ⊆ E) (s : State)
    (fine : Sound E base s) :
    Sound E base (State.guardCycle s) := by
  have h_saf : Part.saf ∈ E := hE (by decide)
  have k0 : [Part.objects, Part.recorder, Part.pair, Part.alarms, Part.saf, Part.diag, Part.wires, Part.free] ⊆ E := List.Subset.trans (by decide) hE
  unfold State.guardCycle
  (try dsimp only)
  repeat' (first
    | (with_reducible assumption)
    | ((with_reducible apply State.fender_sound k0))
    | ((with_reducible apply State.rateGuard_sound k0))
    | (with_reducible refine sound_ite (fun _ => ?_) (fun _ => ?_))
    | (with_reducible refine sound_foldl (fun s x h => ?_) ?_)
    | (fail_if_no_progress with_reducible refine Sound.upd_saf h_saf _ ?_))

theorem State.holdWrite_sound {E : List Part} {base : State} (hE : [Part.held] ⊆ E) (s : State) (key : Nat) (v : Val) (stamp : Nat)
    (fine : Sound E base s) :
    Sound E base (State.holdWrite s key v stamp) := by
  have h_held : Part.held ∈ E := hE (by decide)
  unfold State.holdWrite
  repeat' (first
    | (with_reducible assumption)
    | (with_reducible refine sound_ite (fun _ => ?_) (fun _ => ?_))
    | (with_reducible refine sound_foldl (fun s x h => ?_) ?_)
    | (fail_if_no_progress with_reducible refine Sound.upd_held h_held _ ?_))

theorem State.markPlaced_sound {E : List Part} {base : State} (hE : [Part.net] ⊆ E) (s : State) (src : Option (Nat × Nat)) (key : Nat)
    (fine : Sound E base s) :
    Sound E base (State.markPlaced s src key) := by
  have h_net : Part.net ∈ E := hE (by decide)
  unfold State.markPlaced
  (try dsimp only)
  repeat' (first
    | (with_reducible assumption)
    | (with_reducible refine sound_ite (fun _ => ?_) (fun _ => ?_))
    | (with_reducible refine sound_foldl (fun s x h => ?_) ?_)
    | (fail_if_no_progress with_reducible refine Sound.upd_net h_net _ ?_)
    | (split))

theorem State.mappedWrite_sound {E : List Part} {base : State} (hE : [Part.objects, Part.held, Part.pair, Part.net, Part.diag, Part.wires, Part.free] ⊆ E) (s : State) (key : Nat) (v : Val) (stamp : Nat) (src : Option (Nat × Nat)) (fine : Sound E base s) (s' : State)
    (h : State.mappedWrite s key v stamp src = some s') : Sound E base s' := by
  have k0 : [Part.net] ⊆ E := List.Subset.trans (by decide) hE
  have k1 : [Part.held] ⊆ E := List.Subset.trans (by decide) hE
  have k2 : [Part.objects, Part.pair, Part.diag, Part.wires, Part.free] ⊆ E := List.Subset.trans (by decide) hE
  unfold State.mappedWrite at h
  split at h
  · cases h
    apply sound_ite <;> intro _
    · exact fine
    · exact State.holdWrite_sound k1 _ _ _ _ (State.markPlaced_sound k0 _ _ _ fine)
  · cases h
    apply sound_ite <;> intro _
    · exact fine
    · exact State.holdWrite_sound k1 _ _ _ _ (State.markPlaced_sound k0 _ _ _ fine)
  · cases h
  · split at h
    · cases h; exact State.twSend_sound k2 _ _ _ fine
    · split at h
      · cases h
      · cases h; exact fine

theorem State.modConn_sound {E : List Part} {base : State} (hE : [Part.net] ⊆ E) (s : State) (k : Nat) (f : SafeConn → SafeConn)
    (fine : Sound E base s) :
    Sound E base (State.modConn s k f) := by
  have h_net : Part.net ∈ E := hE (by decide)
  unfold State.modConn
  (try dsimp only)
  repeat' (first
    | (with_reducible assumption)
    | (with_reducible refine sound_ite (fun _ => ?_) (fun _ => ?_))
    | (with_reducible refine sound_foldl (fun s x h => ?_) ?_)
    | (fail_if_no_progress with_reducible refine Sound.upd_net h_net _ ?_))

theorem State.sendSafe_sound {E : List Part} {base : State} (hE : [Part.wires] ⊆ E) (s : State) (k net : Nat) (frame trailer : List Byte)
    (fine : Sound E base s) :
    Sound E base (State.sendSafe s k net frame trailer) := by
  have k0 : [Part.wires] ⊆ E := List.Subset.trans (by decide) hE
  unfold State.sendSafe
  repeat' (first
    | (with_reducible assumption)
    | ((with_reducible apply State.tell_sound k0)))

theorem State.showScheme_sound {E : List Part} {base : State} (hE : [Part.objects, Part.recorder, Part.alarms] ⊆ E) (s : State) (k sch : Nat)
    (fine : Sound E base s) :
    Sound E base (State.showScheme s k sch) := by
  have k0 : [Part.objects] ⊆ E := List.Subset.trans (by decide) hE
  have k1 : [Part.objects, Part.recorder, Part.alarms] ⊆ E := List.Subset.trans (by decide) hE
  unfold State.showScheme
  repeat' (first
    | (with_reducible assumption)
    | ((with_reducible apply State.setObj_sound k0))
    | ((with_reducible apply State.count_sound k1))
    | (with_reducible refine sound_ite (fun _ => ?_) (fun _ => ?_)))

theorem State.restartConn_sound {E : List Part} {base : State} (hE : [Part.objects, Part.recorder, Part.alarms, Part.net] ⊆ E) (s : State) (k : Nat)
    (fine : Sound E base s) :
    Sound E base (State.restartConn s k) := by
  have k0 : [Part.net] ⊆ E := List.Subset.trans (by decide) hE
  have k1 : [Part.objects, Part.recorder, Part.alarms] ⊆ E := List.Subset.trans (by decide) hE
  have k2 : [Part.objects] ⊆ E := List.Subset.trans (by decide) hE
  unfold State.restartConn
  (try dsimp only)
  repeat' (first
    | (with_reducible assumption)
    | ((with_reducible apply State.modConn_sound k0))
    | ((with_reducible apply State.unalarm_sound k1))
    | ((with_reducible apply State.setObjs_sound k2))
    | ((with_reducible apply State.showScheme_sound k1))
    | (with_reducible refine sound_ite (fun _ => ?_) (fun _ => ?_)))

theorem State.requestScheme_sound {E : List Part} {base : State} (hE : [Part.objects, Part.net] ⊆ E) (s : State) (k req : Nat)
    (fine : Sound E base s) :
    Sound E base (State.requestScheme s k req) := by
  have k0 : [Part.objects] ⊆ E := List.Subset.trans (by decide) hE
  have k1 : [Part.net] ⊆ E := List.Subset.trans (by decide) hE
  unfold State.requestScheme
  repeat' (first
    | (with_reducible assumption)
    | ((with_reducible apply State.setObj_sound k0))
    | ((with_reducible apply State.modConn_sound k1))
    | (with_reducible refine sound_ite (fun _ => ?_) (fun _ => ?_)))

theorem State.sendReport_sound {E : List Part} {base : State} (hE : [Part.net, Part.wires, Part.free] ⊆ E) (s : State) (k : Nat)
    (fine : Sound E base s) :
    Sound E base (State.sendReport s k) := by
  have k0 : [Part.free] ⊆ E := List.Subset.trans (by decide) hE
  have k1 : [Part.net] ⊆ E := List.Subset.trans (by decide) hE
  have k2 : [Part.wires] ⊆ E := List.Subset.trans (by decide) hE
  unfold State.sendReport
  (try dsimp only)
  repeat' (first
    | (with_reducible assumption)
    | ((with_reducible apply State.free_sound k0))
    | ((with_reducible apply State.modConn_sound k1))
    | ((with_reducible apply State.sendSafe_sound k2))
    | (with_reducible refine sound_ite (fun _ => ?_) (fun _ => ?_)))

theorem State.safeItem_sound {E : List Part} {base : State} (hE : [Part.objects, Part.held, Part.pair, Part.net, Part.diag, Part.wires, Part.free] ⊆ E) (s : State) (i sub : Nat) (v : Int) (src : Option (Nat × Nat)) (fine : Sound E base s) : Sound E base (State.safeItem s i sub v src) := by -- apply
  have k0 : [Part.objects, Part.held, Part.pair, Part.net, Part.diag, Part.wires, Part.free] ⊆ E := List.Subset.trans (by decide) hE
  unfold State.safeItem
  split
  · exact fine
  · cases h : State.mappedWrite s (okey i sub) (.num v) s.mt src with
    | none => exact fine
    | some s' => exact State.mappedWrite_sound k0 _ _ _ _ _ fine _ h

theorem State.applyMessage_sound {E : List Part} {base : State} (hE : [Part.objects, Part.held, Part.pair, Part.net, Part.diag, Part.wires, Part.free] ⊆ E) (s : State) (k seqNo : Nat) (payload : List Byte) (fresh : Bool)
    (fine : Sound E base s) :
    Sound E base (State.applyMessage s k seqNo payload fresh) := by
  have k0 : [Part.objects, Part.held, Part.pair, Part.net, Part.diag, Part.wires, Part.free] ⊆ E := List.Subset.trans (by decide) hE
  have k1 : [Part.net] ⊆ E := List.Subset.trans (by decide) hE
  unfold State.applyMessage
  (try dsimp only)
  repeat' (first
    | (with_reducible assumption)
    | ((with_reducible apply State.safeItem_sound k0))
    | ((with_reducible apply State.modConn_sound k1))
    | (with_reducible refine sound_ite (fun _ => ?_) (fun _ => ?_))
    | (with_reducible refine sound_foldl (fun s x h => ?_) ?_))

theorem State.candidateMsg_sound {E : List Part} {base : State} (hE : [Part.objects, Part.held, Part.recorder, Part.pair, Part.alarms, Part.net, Part.diag, Part.wires, Part.free] ⊆ E) (s : State) (k n sch : Nat) (payload : List Byte)
    (fine : Sound E base s) :
    Sound E base (State.candidateMsg s k n sch payload) := by
  have k0 : [Part.objects] ⊆ E := List.Subset.trans (by decide) hE
  have k1 : [Part.objects, Part.recorder, Part.alarms] ⊆ E := List.Subset.trans (by decide) hE
  have k2 : [Part.net] ⊆ E := List.Subset.trans (by decide) hE
  have k3 : [Part.objects, Part.held, Part.pair, Part.net, Part.diag, Part.wires, Part.free] ⊆ E := List.Subset.trans (by decide) hE
  unfold State.candidateMsg
  (try dsimp only)
  repeat' (first
    | (with_reducible assumption)
    | ((with_reducible apply State.setObj_sound k0))
    | ((with_reducible apply State.count_sound k1))
    | ((with_reducible apply State.modConn_sound k2))
    | ((with_reducible apply State.showScheme_sound k1))
    | ((with_reducible apply State.setBit_sound k0))
    | ((with_reducible apply State.unalarm_sound k1))
    | ((with_reducible apply State.applyMessage_sound k3))
    | (with_reducible refine sound_ite (fun _ => ?_) (fun _ => ?_)))

theorem State.probeRx_sound {E : List Part} {base : State} (hE : [Part.objects, Part.net] ⊆ E) (s : State) (k net : Nat)
    (fine : Sound E base s) :
    Sound E base (State.probeRx s k net) := by
  have k0 : [Part.net] ⊆ E := List.Subset.trans (by decide) hE
  have k1 : [Part.objects, Part.net] ⊆ E := List.Subset.trans (by decide) hE
  unfold State.probeRx
  (try dsimp only)
  repeat' (first
    | (with_reducible assumption)
    | ((with_reducible apply State.modConn_sound k0))
    | ((with_reducible apply State.requestScheme_sound k1))
    | (with_reducible refine sound_ite (fun _ => ?_) (fun _ => ?_)))

theorem State.birrathRx_sound {E : List Part} {base : State} (hE : [Part.objects, Part.held, Part.recorder, Part.pair, Part.alarms, Part.net, Part.diag, Part.wires, Part.free] ⊆ E) (s : State) (k net : Nat) (frame : List Byte) (flags n : Nat) (payload : List Byte)
    (fine : Sound E base s) :
    Sound E base (State.birrathRx s k net frame flags n payload) := by
  have k0 : [Part.objects, Part.net] ⊆ E := List.Subset.trans (by decide) hE
  have k1 : [Part.objects, Part.held, Part.recorder, Part.pair, Part.alarms, Part.net, Part.diag, Part.wires, Part.free] ⊆ E := List.Subset.trans (by decide) hE
  have k2 : [Part.objects, Part.recorder, Part.alarms] ⊆ E := List.Subset.trans (by decide) hE
  have k3 : [Part.net] ⊆ E := List.Subset.trans (by decide) hE
  unfold State.birrathRx
  repeat' (first
    | (with_reducible assumption)
    | ((with_reducible apply State.probeRx_sound k0))
    | ((with_reducible apply State.candidateMsg_sound k1))
    | ((with_reducible apply State.count_sound k2))
    | ((with_reducible apply State.modConn_sound k3))
    | (with_reducible refine sound_ite (fun _ => ?_) (fun _ => ?_)))

theorem State.copyRx_sound {E : List Part} {base : State} (hE : [Part.objects, Part.held, Part.recorder, Part.pair, Part.alarms, Part.net, Part.diag, Part.wires, Part.free] ⊆ E) (s : State) (k net : Nat) (frame : List Byte) (prp n : Nat) (payload : List Byte)
    (fine : Sound E base s) :
    Sound E base (State.copyRx s k net frame prp n payload) := by
  have k0 : [Part.net] ⊆ E := List.Subset.trans (by decide) hE
  have k1 : [Part.objects, Part.held, Part.recorder, Part.pair, Part.alarms, Part.net, Part.diag, Part.wires, Part.free] ⊆ E := List.Subset.trans (by decide) hE
  have k2 : [Part.objects, Part.recorder, Part.alarms] ⊆ E := List.Subset.trans (by decide) hE
  have k3 : [Part.objects, Part.recorder] ⊆ E := List.Subset.trans (by decide) hE
  unfold State.copyRx
  (try dsimp only)
  repeat' (first
    | (with_reducible assumption)
    | ((with_reducible apply State.modConn_sound k0))
    | ((with_reducible apply State.candidateMsg_sound k1))
    | ((with_reducible apply State.count_sound k2))
    | ((with_reducible apply State.alarm_sound k2))
    | ((with_reducible apply State.event_sound k3))
    | (with_reducible refine sound_ite (fun _ => ?_) (fun _ => ?_))
    | (with_reducible refine sound_foldl (fun s x h => ?_) ?_)
    | (dsimp only)
    | (split))

theorem State.copyMissing_sound {E : List Part} {base : State} (hE : [Part.objects, Part.recorder, Part.alarms, Part.net] ⊆ E) (k : Nat) (s : State) (c : FrameCopy)
    (fine : Sound E base s) :
    Sound E base (State.copyMissing k s c) := by
  have k0 : [Part.objects, Part.recorder, Part.alarms] ⊆ E := List.Subset.trans (by decide) hE
  have k1 : [Part.net] ⊆ E := List.Subset.trans (by decide) hE
  have k2 : [Part.objects, Part.net] ⊆ E := List.Subset.trans (by decide) hE
  unfold State.copyMissing
  (try dsimp only)
  repeat' (first
    | (with_reducible assumption)
    | ((with_reducible apply State.count_sound k0))
    | ((with_reducible apply State.modConn_sound k1))
    | ((with_reducible apply State.requestScheme_sound k2))
    | (with_reducible refine sound_ite (fun _ => ?_) (fun _ => ?_)))

theorem State.lossAction_sound {E : List Part} {base : State} (hE : [Part.objects, Part.held, Part.pair, Part.net, Part.diag, Part.wires, Part.free] ⊆ E) (s : State) (k : Nat)
    (fine : Sound E base s) :
    Sound E base (State.lossAction s k) := by
  have k0 : [Part.objects, Part.held, Part.pair, Part.net, Part.diag, Part.wires, Part.free] ⊆ E := List.Subset.trans (by decide) hE
  unfold State.lossAction
  (try dsimp only)
  repeat' (first
    | (with_reducible assumption)
    | ((with_reducible apply State.safeItem_sound k0))
    | (with_reducible refine sound_ite (fun _ => ?_) (fun _ => ?_))
    | (with_reducible refine sound_foldl (fun s x h => ?_) ?_))

theorem State.produce_sound {E : List Part} {base : State} (hE : [Part.objects, Part.recorder, Part.alarms, Part.net, Part.wires] ⊆ E) (s : State) (k inst : Nat) (payload : List Byte)
    (fine : Sound E base s) :
    Sound E base (State.produce s k inst payload) := by
  have k0 : [Part.objects, Part.recorder, Part.alarms] ⊆ E := List.Subset.trans (by decide) hE
  have k1 : [Part.net] ⊆ E := List.Subset.trans (by decide) hE
  have k2 : [Part.objects] ⊆ E := List.Subset.trans (by decide) hE
  have k3 : [Part.wires] ⊆ E := List.Subset.trans (by decide) hE
  unfold State.produce
  (try dsimp only)
  repeat' (first
    | (with_reducible assumption)
    | ((with_reducible apply State.showScheme_sound k0))
    | ((with_reducible apply State.modConn_sound k1))
    | ((with_reducible apply State.setObj_sound k2))
    | ((with_reducible apply State.count_sound k0))
    | ((with_reducible apply State.sendSafe_sound k3))
    | (with_reducible refine sound_ite (fun _ => ?_) (fun _ => ?_)))

theorem State.safeNetApplied_sound {E : List Part} {base : State} (hE : [Part.objects, Part.recorder, Part.alarms, Part.net, Part.wires, Part.free] ⊆ E) (s : State) (i sub : Nat) (old new : Int)
    (fine : Sound E base s) :
    Sound E base (State.safeNetApplied s i sub old new) := by
  have k0 : [Part.objects, Part.recorder, Part.alarms, Part.net] ⊆ E := List.Subset.trans (by decide) hE
  have k1 : [Part.objects, Part.net] ⊆ E := List.Subset.trans (by decide) hE
  have k2 : [Part.net, Part.wires, Part.free] ⊆ E := List.Subset.trans (by decide) hE
  unfold State.safeNetApplied
  (try dsimp only)
  repeat' (first
    | (with_reducible assumption)
    | ((with_reducible apply State.restartConn_sound k0))
    | ((with_reducible apply State.requestScheme_sound k1))
    | ((with_reducible apply State.sendReport_sound k2))
    | (with_reducible refine sound_ite (fun _ => ?_) (fun _ => ?_)))

theorem State.storeRec_sound {E : List Part} {base : State} (hE : [Part.recorder] ⊆ E) (s : State) (r : Rec)
    (fine : Sound E base s) :
    Sound E base (State.storeRec s r) := by
  have h_recorder : Part.recorder ∈ E := hE (by decide)
  unfold State.storeRec
  (try dsimp only)
  repeat' (first
    | (with_reducible assumption)
    | (with_reducible refine sound_ite (fun _ => ?_) (fun _ => ?_))
    | (with_reducible refine sound_foldl (fun s x h => ?_) ?_)
    | (fail_if_no_progress with_reducible refine Sound.upd_recorder h_recorder _ ?_))

theorem State.acceptItem_sound {E : List Part} {base : State} (hE : [Part.recorder] ⊆ E) (s : State) (it : IntakeItem)
    (fine : Sound E base s) :
    Sound E base (State.acceptItem s it) := by
  have h_recorder : Part.recorder ∈ E := hE (by decide)
  have k0 : [Part.recorder] ⊆ E := List.Subset.trans (by decide) hE
  unfold State.acceptItem
  (try dsimp only)
  repeat' (first
    | (with_reducible assumption)
    | ((with_reducible apply State.storeRec_sound k0))
    | (with_reducible refine sound_ite (fun _ => ?_) (fun _ => ?_))
    | (with_reducible refine sound_foldl (fun s x h => ?_) ?_)
    | (fail_if_no_progress with_reducible refine Sound.upd_recorder h_recorder _ ?_)
    | (dsimp only)
    | (split))

theorem State.lostRecord_sound {E : List Part} {base : State} (hE : [Part.recorder] ⊆ E) (s : State)
    (fine : Sound E base s) :
    Sound E base (State.lostRecord s) := by
  have h_recorder : Part.recorder ∈ E := hE (by decide)
  have k0 : [Part.recorder] ⊆ E := List.Subset.trans (by decide) hE
  unfold State.lostRecord
  (try dsimp only)
  repeat' (first
    | (with_reducible assumption)
    | ((with_reducible apply State.storeRec_sound k0))
    | (with_reducible refine sound_ite (fun _ => ?_) (fun _ => ?_))
    | (with_reducible refine sound_foldl (fun s x h => ?_) ?_)
    | (fail_if_no_progress with_reducible refine Sound.upd_recorder h_recorder _ ?_))

theorem State.acceptNext_sound {E : List Part} {base : State} (hE : [Part.recorder] ⊆ E) (s : State)
    (fine : Sound E base s) :
    Sound E base (State.acceptNext s) := by
  have h_recorder : Part.recorder ∈ E := hE (by decide)
  have k0 : [Part.recorder] ⊆ E := List.Subset.trans (by decide) hE
  unfold State.acceptNext
  repeat' (first
    | (with_reducible assumption)
    | ((with_reducible apply State.lostRecord_sound k0))
    | ((with_reducible apply State.acceptItem_sound k0))
    | (with_reducible refine sound_ite (fun _ => ?_) (fun _ => ?_))
    | (with_reducible refine sound_foldl (fun s x h => ?_) ?_)
    | (fail_if_no_progress with_reducible refine Sound.upd_recorder h_recorder _ ?_)
    | (dsimp only)
    | (split))

theorem State.writeDirectory_sound {E : List Part} {base : State} (hE : [Part.recorder] ⊆ E) (s : State)
    (fine : Sound E base s) :
    Sound E base (State.writeDirectory s) := by
  have h_recorder : Part.recorder ∈ E := hE (by decide)
  unfold State.writeDirectory
  (try dsimp only)
  repeat' (first
    | (with_reducible assumption)
    | (with_reducible refine sound_ite (fun _ => ?_) (fun _ => ?_))
    | (with_reducible refine sound_foldl (fun s x h => ?_) ?_)
    | (fail_if_no_progress with_reducible refine Sound.upd_recorder h_recorder _ ?_))

theorem State.acceptMany_sound {E : List Part} {base : State} (hE : [Part.recorder] ⊆ E) (s : State) (n : Nat) (fine : Sound E base s) : Sound E base (State.acceptMany s n) := by -- apply
  have k0 : [Part.recorder] ⊆ E := List.Subset.trans (by decide) hE
  induction n generalizing s with
  | zero => exact fine
  | succ n ih => exact ih _ (State.acceptNext_sound k0 _ fine)

theorem State.closeRecorder_sound {E : List Part} {base : State} (hE : [Part.objects, Part.recorder, Part.alarms] ⊆ E) (s : State) (cause : Nat) (written : Nat)
    (fine : Sound E base s) :
    Sound E base (State.closeRecorder s cause written) := by
  have h_recorder : Part.recorder ∈ E := hE (by decide)
  have k0 : [Part.recorder] ⊆ E := List.Subset.trans (by decide) hE
  have k1 : [Part.objects, Part.recorder, Part.alarms] ⊆ E := List.Subset.trans (by decide) hE
  unfold State.closeRecorder
  (try dsimp only)
  repeat' (first
    | (with_reducible assumption)
    | ((with_reducible apply State.acceptMany_sound k0))
    | ((with_reducible apply State.countBy_sound k1))
    | ((with_reducible apply State.storeRec_sound k0))
    | (with_reducible refine sound_ite (fun _ => ?_) (fun _ => ?_))
    | (with_reducible refine sound_foldl (fun s x h => ?_) ?_)
    | (fail_if_no_progress with_reducible refine Sound.upd_recorder h_recorder _ ?_))

theorem State.openRecorder_sound {E : List Part} {base : State} (hE : [Part.objects, Part.recorder, Part.alarms] ⊆ E) (s : State) (tornCirc tornPerm : Bool)
    (fine : Sound E base s) :
    Sound E base (State.openRecorder s tornCirc tornPerm) := by
  have h_recorder : Part.recorder ∈ E := hE (by decide)
  have k0 : [Part.objects, Part.recorder, Part.alarms] ⊆ E := List.Subset.trans (by decide) hE
  have k1 : [Part.recorder] ⊆ E := List.Subset.trans (by decide) hE
  unfold State.openRecorder
  (try dsimp only)
  repeat' (first
    | (with_reducible assumption)
    | ((with_reducible apply State.countBy_sound k0))
    | ((with_reducible apply State.writeDirectory_sound k1))
    | ((with_reducible apply State.storeRec_sound k1))
    | (with_reducible refine sound_ite (fun _ => ?_) (fun _ => ?_))
    | (with_reducible refine sound_foldl (fun s x h => ?_) ?_)
    | (fail_if_no_progress with_reducible refine Sound.upd_recorder h_recorder _ ?_))

theorem State.statusRecord_sound {E : List Part} {base : State} (hE : [Part.objects, Part.recorder] ⊆ E) (s : State) (start : Nat)
    (fine : Sound E base s) :
    Sound E base (State.statusRecord s start) := by
  have k0 : [Part.objects, Part.recorder] ⊆ E := List.Subset.trans (by decide) hE
  unfold State.statusRecord
  (try dsimp only)
  repeat' (first
    | (with_reducible assumption)
    | ((with_reducible apply State.offer_sound k0)))

theorem State.recorderApplied_sound {E : List Part} {base : State} (hE : [Part.objects, Part.recorder] ⊆ E) (s : State) (i sub session : Nat)
    (fine : Sound E base s) :
    Sound E base (State.recorderApplied s i sub session) := by
  have h_recorder : Part.recorder ∈ E := hE (by decide)
  have k0 : [Part.objects] ⊆ E := List.Subset.trans (by decide) hE
  have k1 : [Part.objects, Part.recorder] ⊆ E := List.Subset.trans (by decide) hE
  unfold State.recorderApplied
  (try dsimp only)
  repeat' (first
    | (with_reducible assumption)
    | ((with_reducible apply State.setObj_sound k0))
    | ((with_reducible apply State.offer_sound k1))
    | (with_reducible refine sound_ite (fun _ => ?_) (fun _ => ?_))
    | (with_reducible refine sound_foldl (fun s x h => ?_) ?_)
    | (fail_if_no_progress with_reducible refine Sound.upd_recorder h_recorder _ ?_))

theorem State.startFrame_sound {E : List Part} {base : State} (hE : [Part.mram, Part.panel] ⊆ E) (s : State) (rows : List (Nat × Nat))
    (fine : Sound E base s) :
    Sound E base (State.startFrame s rows) := by
  have h_mram : Part.mram ∈ E := hE (by decide)
  have h_panel : Part.panel ∈ E := hE (by decide)
  unfold State.startFrame
  (try dsimp only)
  repeat' (first
    | (with_reducible assumption)
    | (with_reducible refine sound_ite (fun _ => ?_) (fun _ => ?_))
    | (with_reducible refine sound_foldl (fun s x h => ?_) ?_)
    | (fail_if_no_progress with_reducible refine Sound.upd_mram_panel h_mram h_panel _ ?_))

theorem State.requestRows_sound {E : List Part} {base : State} (hE : [Part.mram, Part.panel] ⊆ E) (s : State) (rows : List (Nat × Nat))
    (fine : Sound E base s) :
    Sound E base (State.requestRows s rows) := by
  have h_panel : Part.panel ∈ E := hE (by decide)
  have k0 : [Part.mram, Part.panel] ⊆ E := List.Subset.trans (by decide) hE
  unfold State.requestRows
  (try dsimp only)
  repeat' (first
    | (with_reducible assumption)
    | ((with_reducible apply State.startFrame_sound k0))
    | (with_reducible refine sound_ite (fun _ => ?_) (fun _ => ?_))
    | (with_reducible refine sound_foldl (fun s x h => ?_) ?_)
    | (fail_if_no_progress with_reducible refine Sound.upd_panel h_panel _ ?_)
    | (dsimp only)
    | (split))

theorem State.panelStart_sound {E : List Part} {base : State} (hE : [Part.blobs, Part.mram, Part.panel] ⊆ E) (s : State)
    (fine : Sound E base s) :
    Sound E base (State.panelStart s) := by
  have h_panel : Part.panel ∈ E := hE (by decide)
  have k0 : [Part.blobs] ⊆ E := List.Subset.trans (by decide) hE
  have k1 : [Part.mram, Part.panel] ⊆ E := List.Subset.trans (by decide) hE
  unfold State.panelStart
  (try dsimp only)
  repeat' (first
    | (with_reducible assumption)
    | ((with_reducible apply State.setBlob_sound k0))
    | ((with_reducible apply State.startFrame_sound k1))
    | (with_reducible refine sound_ite (fun _ => ?_) (fun _ => ?_))
    | (with_reducible refine sound_foldl (fun s x h => ?_) ?_)
    | (fail_if_no_progress with_reducible refine Sound.upd_panel h_panel _ ?_))

theorem State.panelPark_sound {E : List Part} {base : State} (hE : [Part.objects, Part.recorder, Part.alarms, Part.panel, Part.wires] ⊆ E) (s : State)
    (fine : Sound E base s) :
    Sound E base (State.panelPark s) := by
  have h_panel : Part.panel ∈ E := hE (by decide)
  have k0 : [Part.wires] ⊆ E := List.Subset.trans (by decide) hE
  have k1 : [Part.objects, Part.recorder, Part.alarms] ⊆ E := List.Subset.trans (by decide) hE
  unfold State.panelPark
  (try dsimp only)
  repeat' (first
    | (with_reducible assumption)
    | ((with_reducible apply State.tell_sound k0))
    | ((with_reducible apply State.count_sound k1))
    | (with_reducible refine sound_ite (fun _ => ?_) (fun _ => ?_))
    | (with_reducible refine sound_foldl (fun s x h => ?_) ?_)
    | (fail_if_no_progress with_reducible refine Sound.upd_panel h_panel _ ?_)
    | (dsimp only)
    | (split))

theorem State.panelApplied_sound {E : List Part} {base : State} (hE : [Part.mram, Part.panel] ⊆ E) (s : State) (i sub : Nat) (new : Int)
    (fine : Sound E base s) :
    Sound E base (State.panelApplied s i sub new) := by
  have h_panel : Part.panel ∈ E := hE (by decide)
  have k0 : [Part.mram, Part.panel] ⊆ E := List.Subset.trans (by decide) hE
  unfold State.panelApplied
  (try dsimp only)
  repeat' (first
    | (with_reducible assumption)
    | ((with_reducible apply State.requestRows_sound k0))
    | (with_reducible refine sound_ite (fun _ => ?_) (fun _ => ?_))
    | (with_reducible refine sound_foldl (fun s x h => ?_) ?_)
    | (fail_if_no_progress with_reducible refine Sound.upd_panel h_panel _ ?_))

theorem State.putClient_sound {E : List Part} {base : State} (hE : [Part.dict] ⊆ E) (s : State) (k : ClientRec)
    (fine : Sound E base s) :
    Sound E base (State.putClient s k) := by
  have h_dict : Part.dict ∈ E := hE (by decide)
  unfold State.putClient
  (try dsimp only)
  repeat' (first
    | (with_reducible assumption)
    | (with_reducible refine sound_ite (fun _ => ?_) (fun _ => ?_))
    | (with_reducible refine sound_foldl (fun s x h => ?_) ?_)
    | (fail_if_no_progress with_reducible refine Sound.upd_dict h_dict _ ?_))

theorem State.hear_sound {E : List Part} {base : State} (hE : [Part.dict] ⊆ E) (s : State) (c : Client) (reads : Option Nat)
    (fine : Sound E base s) :
    Sound E base (State.hear s c reads) := by
  have k0 : [Part.dict] ⊆ E := List.Subset.trans (by decide) hE
  unfold State.hear
  (try dsimp only)
  repeat' (first
    | (with_reducible assumption)
    | ((with_reducible apply State.putClient_sound k0))
    | (with_reducible refine sound_ite (fun _ => ?_) (fun _ => ?_))
    | (with_reducible refine sound_foldl (fun s x h => ?_) ?_)
    | (dsimp only)
    | (split))

theorem State.clearObject_sound {E : List Part} {base : State} (hE : [Part.objects, Part.alarms] ⊆ E) (s : State) (i sub : Nat)
    (fine : Sound E base s) :
    Sound E base (State.clearObject s i sub) := by
  have h_alarms : Part.alarms ∈ E := hE (by decide)
  have k0 : [Part.objects] ⊆ E := List.Subset.trans (by decide) hE
  unfold State.clearObject
  (try dsimp only)
  repeat' (first
    | (with_reducible assumption)
    | ((with_reducible apply State.setObj_sound k0))
    | (with_reducible refine sound_ite (fun _ => ?_) (fun _ => ?_))
    | (with_reducible refine sound_foldl (fun s x h => ?_) ?_)
    | (fail_if_no_progress with_reducible refine Sound.upd_saturated h_alarms _ ?_)
    | (dsimp only)
    | (split))

theorem State.readObject_sound {E : List Part} {base : State} (hE : [Part.objects, Part.dict, Part.alarms] ⊆ E) (s : State) (c : Client) (i sub : Nat)
    (fine : Sound E base s) :
    Sound E base (State.readObject s c i sub).2 := by
  have k0 : [Part.dict] ⊆ E := List.Subset.trans (by decide) hE
  have k1 : [Part.objects] ⊆ E := List.Subset.trans (by decide) hE
  have k2 : [Part.objects, Part.alarms] ⊆ E := List.Subset.trans (by decide) hE
  unfold State.readObject
  (try dsimp only)
  repeat' (first
    | (with_reducible assumption)
    | ((with_reducible apply State.hear_sound k0))
    | ((with_reducible apply State.latchTime_sound k0))
    | ((with_reducible apply State.putClient_sound k0))
    | ((with_reducible apply State.outcome_sound k1))
    | ((with_reducible apply State.setBit_sound k1))
    | ((with_reducible apply State.clearObject_sound k2))
    | (with_reducible refine sound_ite (fun _ => ?_) (fun _ => ?_))
    | (with_reducible refine sound_foldl (fun s x h => ?_) ?_)
    | (with_reducible refine sound_foldl2 (fun s x h => ?_) ?_)
    | (with_reducible refine sound_foldl3 (fun s x h => ?_) ?_)
    | (dsimp only)
    | (split))

theorem State.modUser_sound {E : List Part} {base : State} (hE : [Part.user] ⊆ E) (s : State) (u : Nat) (f : UserPair → UserPair)
    (hf : ∀ p, Memory.wf p.tcm = true → Memory.wf (f p).tcm = true) (fine : Sound E base s) :
    Sound E base (State.modUser s u f) := by
  have h_user : Part.user ∈ E := hE (by decide)
  exact Sound.upd_user h_user s fine (modifyNth_wf f hf s.user u fine.mem')

theorem State.endProposal_sound {E : List Part} {base : State} (hE : [Part.objects] ⊆ E) (s : State) (u : Nat)
    (fine : Sound E base s) :
    Sound E base (State.endProposal s u) := by
  have k0 : [Part.objects] ⊆ E := List.Subset.trans (by decide) hE
  unfold State.endProposal
  repeat' (first
    | (with_reducible assumption)
    | ((with_reducible apply State.setObjs_sound k0)))

theorem State.userFault_sound {E : List Part} {base : State} (hE : [Part.objects, Part.recorder, Part.alarms, Part.diag, Part.user] ⊆ E) (s : State) (u cause : Nat)
    (fine : Sound E base s) :
    Sound E base (State.userFault s u cause) := by
  have k0 : [Part.user] ⊆ E := List.Subset.trans (by decide) hE
  have k1 : [Part.objects] ⊆ E := List.Subset.trans (by decide) hE
  have k2 : [Part.objects, Part.recorder, Part.alarms] ⊆ E := List.Subset.trans (by decide) hE
  have k3 : [Part.objects, Part.recorder, Part.alarms, Part.diag] ⊆ E := List.Subset.trans (by decide) hE
  have k4 : [Part.objects, Part.recorder] ⊆ E := List.Subset.trans (by decide) hE
  unfold State.userFault
  (try dsimp only)
  repeat' (first
    | (with_reducible assumption)
    | (exact fun p h => h)
    | (exact fun p h => storeBytes_wf _ _ _ h)
    | (exact fun _ _ => storeBytes_wf _ _ _ rfl)
    | ((with_reducible apply State.modUser_sound k0))
    | ((with_reducible apply State.setObjs_sound k1))
    | ((with_reducible apply State.count_sound k2))
    | ((with_reducible apply State.declared_sound k3))
    | ((with_reducible apply State.alarm_sound k2))
    | ((with_reducible apply State.event_sound k4))
    | (with_reducible refine sound_ite (fun _ => ?_) (fun _ => ?_)))

theorem State.loadUser_sound {E : List Part} {base : State} (hE : [Part.objects, Part.blobs, Part.recorder, Part.alarms, Part.user] ⊆ E) (s : State) (u : Nat) (b : List Byte)
    (fine : Sound E base s) :
    Sound E base (State.loadUser s u b) := by
  have k0 : [Part.user] ⊆ E := List.Subset.trans (by decide) hE
  have k1 : [Part.blobs] ⊆ E := List.Subset.trans (by decide) hE
  have k2 : [Part.objects] ⊆ E := List.Subset.trans (by decide) hE
  have k3 : [Part.objects, Part.recorder, Part.alarms] ⊆ E := List.Subset.trans (by decide) hE
  unfold State.loadUser
  (try dsimp only)
  repeat' (first
    | (with_reducible assumption)
    | (exact fun p h => h)
    | (exact fun p h => storeBytes_wf _ _ _ h)
    | (exact fun _ _ => storeBytes_wf _ _ _ rfl)
    | ((with_reducible apply State.modUser_sound k0))
    | ((with_reducible apply State.setBlob_sound k1))
    | ((with_reducible apply State.endProposal_sound k2))
    | ((with_reducible apply State.setObjs_sound k2))
    | ((with_reducible apply State.unalarm_sound k3)))

theorem State.startUser_sound {E : List Part} {base : State} (hE : [Part.objects, Part.blobs, Part.recorder, Part.alarms, Part.user] ⊆ E) (s : State) (u : Nat)
    (fine : Sound E base s) :
    Sound E base (State.startUser s u) := by
  have k0 : [Part.objects, Part.blobs, Part.recorder, Part.alarms, Part.user] ⊆ E := List.Subset.trans (by decide) hE
  have k1 : [Part.objects] ⊆ E := List.Subset.trans (by decide) hE
  unfold State.startUser
  repeat' (first
    | (with_reducible assumption)
    | ((with_reducible apply State.loadUser_sound k0))
    | ((with_reducible apply State.setObj_sound k1))
    | (with_reducible refine sound_ite (fun _ => ?_) (fun _ => ?_))
    | (with_reducible refine sound_foldl (fun s x h => ?_) ?_)
    | (dsimp only)
    | (split))

theorem State.holdImage_sound {E : List Part} {base : State} (hE : [Part.objects, Part.user] ⊆ E) (s : State) (u : Nat) (b : List Byte)
    (fine : Sound E base s) :
    Sound E base (State.holdImage s u b) := by
  have k0 : [Part.user] ⊆ E := List.Subset.trans (by decide) hE
  have k1 : [Part.objects] ⊆ E := List.Subset.trans (by decide) hE
  unfold State.holdImage
  repeat' (first
    | (with_reducible assumption)
    | (exact fun p h => h)
    | (exact fun p h => storeBytes_wf _ _ _ h)
    | (exact fun _ _ => storeBytes_wf _ _ _ rfl)
    | ((with_reducible apply State.modUser_sound k0))
    | ((with_reducible apply State.setObj_sound k1)))

theorem State.loadDueUser_sound {E : List Part} {base : State} (hE : [Part.objects, Part.blobs, Part.recorder, Part.alarms, Part.user] ⊆ E) (s : State) (u : Nat)
    (fine : Sound E base s) :
    Sound E base (State.loadDueUser s u) := by
  have k0 : [Part.objects, Part.blobs, Part.recorder, Part.alarms, Part.user] ⊆ E := List.Subset.trans (by decide) hE
  unfold State.loadDueUser
  (try dsimp only)
  repeat' (first
    | (with_reducible assumption)
    | ((with_reducible apply State.loadUser_sound k0))
    | (with_reducible refine sound_ite (fun _ => ?_) (fun _ => ?_))
    | (with_reducible refine sound_foldl (fun s x h => ?_) ?_)
    | (dsimp only)
    | (split))

theorem State.userApplied_sound {E : List Part} {base : State} (hE : [Part.objects, Part.recorder, Part.alarms, Part.user] ⊆ E) (s : State) (i sub : Nat) (new : Int)
    (fine : Sound E base s) :
    Sound E base (State.userApplied s i sub new) := by
  have k0 : [Part.user] ⊆ E := List.Subset.trans (by decide) hE
  have k1 : [Part.objects] ⊆ E := List.Subset.trans (by decide) hE
  have k2 : [Part.objects, Part.recorder, Part.alarms] ⊆ E := List.Subset.trans (by decide) hE
  unfold State.userApplied
  (try dsimp only)
  repeat' (first
    | (with_reducible assumption)
    | (exact fun p h => h)
    | (exact fun p h => storeBytes_wf _ _ _ h)
    | (exact fun _ _ => storeBytes_wf _ _ _ rfl)
    | ((with_reducible apply State.modUser_sound k0))
    | ((with_reducible apply State.setObj_sound k1))
    | ((with_reducible apply State.endProposal_sound k1))
    | ((with_reducible apply State.unalarm_sound k2))
    | (with_reducible refine sound_ite (fun _ => ?_) (fun _ => ?_)))

theorem State.takeUser_sound {E : List Part} {base : State} (hE : [Part.objects, Part.user] ⊆ E) (s : State) (outs : List UserOut)
    (fine : Sound E base s) :
    Sound E base (State.takeUser s outs) := by
  have k0 : [Part.user] ⊆ E := List.Subset.trans (by decide) hE
  have k1 : [Part.objects] ⊆ E := List.Subset.trans (by decide) hE
  unfold State.takeUser
  (try dsimp only)
  repeat' (first
    | (with_reducible assumption)
    | (exact fun p h => h)
    | (exact fun p h => storeBytes_wf _ _ _ h)
    | (exact fun _ _ => storeBytes_wf _ _ _ rfl)
    | ((with_reducible apply State.modUser_sound k0))
    | ((with_reducible apply State.setObjs_sound k1))
    | ((with_reducible apply State.endProposal_sound k1))
    | (with_reducible refine sound_ite (fun _ => ?_) (fun _ => ?_))
    | (with_reducible refine sound_foldl (fun s x h => ?_) ?_)
    | (dsimp only)
    | (refine sound_snd (by assumption) ?_)
    | (refine sound_fst (by assumption) ?_)
    | (refine sound_thd (by assumption) ?_)
    | (split))

theorem State.advise_sound {E : List Part} {base : State} (hE : [Part.objects] ⊆ E) (s : State)
    (fine : Sound E base s) :
    Sound E base (State.advise s) := by
  have k0 : [Part.objects] ⊆ E := List.Subset.trans (by decide) hE
  unfold State.advise
  (try dsimp only)
  repeat' (first
    | (with_reducible assumption)
    | ((with_reducible apply State.endProposal_sound k0))
    | ((with_reducible apply State.setObjs_sound k0))
    | (with_reducible refine sound_ite (fun _ => ?_) (fun _ => ?_))
    | (with_reducible refine sound_foldl (fun s x h => ?_) ?_))

theorem State.modCall_sound {E : List Part} {base : State} (hE : [Part.user] ⊆ E) (s : State) (u : Nat) (f : UserCall → UserCall)
    (fine : Sound E base s) :
    Sound E base (State.modCall s u f) := by
  have k0 : [Part.user] ⊆ E := List.Subset.trans (by decide) hE
  unfold State.modCall
  repeat' (first
    | (with_reducible assumption)
    | (exact fun p h => h)
    | (exact fun p h => storeBytes_wf _ _ _ h)
    | (exact fun _ _ => storeBytes_wf _ _ _ rfl)
    | ((with_reducible apply State.modUser_sound k0)))

theorem State.commitCall_sound {E : List Part} {base : State} (hE : [Part.objects, Part.recorder, Part.alarms, Part.user] ⊆ E) (s : State) (u : Nat) (c : UserCall)
    (fine : Sound E base s) :
    Sound E base (State.commitCall s u c) := by
  have k0 : [Part.user] ⊆ E := List.Subset.trans (by decide) hE
  have k1 : [Part.objects, Part.recorder, Part.alarms] ⊆ E := List.Subset.trans (by decide) hE
  have k2 : [Part.objects] ⊆ E := List.Subset.trans (by decide) hE
  unfold State.commitCall
  (try dsimp only)
  repeat' (first
    | (with_reducible assumption)
    | (exact fun p h => h)
    | (exact fun p h => storeBytes_wf _ _ _ h)
    | (exact fun _ _ => storeBytes_wf _ _ _ rfl)
    | ((with_reducible apply State.modUser_sound k0))
    | ((with_reducible apply State.count_sound k1))
    | ((with_reducible apply State.setObjs_sound k2))
    | (with_reducible refine sound_ite (fun _ => ?_) (fun _ => ?_))
    | (with_reducible refine sound_foldl (fun s x h => ?_) ?_)
    | (dsimp only)
    | (refine sound_snd (by assumption) ?_)
    | (refine sound_fst (by assumption) ?_)
    | (refine sound_thd (by assumption) ?_)
    | (split))

theorem State.discardItem_sound {E : List Part} {base : State} (hE : [Part.objects, Part.recorder, Part.pair, Part.alarms, Part.intake, Part.align, Part.diag, Part.wires, Part.free] ⊆ E) (s : State) (x0 : SharedItem)
    (fine : Sound E base s) :
    Sound E base (State.discardItem s x0) := by
  have h_recorder : Part.recorder ∈ E := hE (by decide)
  have k0 : [Part.objects, Part.recorder, Part.alarms, Part.intake] ⊆ E := List.Subset.trans (by decide) hE
  have k1 : [Part.objects, Part.recorder, Part.alarms] ⊆ E := List.Subset.trans (by decide) hE
  have k2 : [Part.objects, Part.recorder, Part.pair, Part.alarms, Part.intake, Part.diag, Part.wires, Part.free] ⊆ E := List.Subset.trans (by decide) hE
  have k3 : [Part.objects] ⊆ E := List.Subset.trans (by decide) hE
  have k4 : [Part.align] ⊆ E := List.Subset.trans (by decide) hE
  unfold State.discardItem
  repeat' (first
    | (with_reducible assumption)
    | (with_reducible refine State.takePacket_sound k0 _ _ ?_ _ _ _ (by assumption))
    | ((with_reducible apply State.count_sound k1))
    | ((with_reducible apply State.discardPacket_sound k2))
    | ((with_reducible apply State.bump_sound k3))
    | ((with_reducible apply State.modSrc_sound k4))
    | (with_reducible refine sound_ite (fun _ => ?_) (fun _ => ?_))
    | (with_reducible refine sound_foldl (fun s x h => ?_) ?_)
    | (fail_if_no_progress with_reducible refine Sound.upd_recorder h_recorder _ ?_)
    | (dsimp only)
    | (refine sound_snd (by assumption) ?_)
    | (refine sound_fst (by assumption) ?_)
    | (refine sound_thd (by assumption) ?_)
    | (split))

theorem State.wordEffect_sound {E : List Part} {base : State} (hE : [Part.power, Part.clock, Part.objects, Part.blobs, Part.held, Part.dict, Part.recorder, Part.pair, Part.alarms, Part.mram, Part.tap, Part.intake, Part.align, Part.ctl, Part.ring, Part.srv, Part.saf, Part.net, Part.diag, Part.user, Part.wires, Part.free] ⊆ E) (s : State) (x0 : WordPlace)
    (fine : Sound E base s) :
    Sound E base (State.wordEffect s x0) := by
  have h_recorder : Part.recorder ∈ E := hE (by decide)
  have h_mram : Part.mram ∈ E := hE (by decide)
  have k0 : [Part.clock, Part.objects, Part.held, Part.recorder, Part.pair, Part.alarms, Part.tap, Part.ctl, Part.srv, Part.saf, Part.diag, Part.wires, Part.free] ⊆ E := List.Subset.trans (by decide) hE
  have k1 : [Part.objects, Part.recorder, Part.pair, Part.alarms, Part.intake, Part.align, Part.diag, Part.wires, Part.free] ⊆ E := List.Subset.trans (by decide) hE
  have k2 : [Part.objects, Part.recorder] ⊆ E := List.Subset.trans (by decide) hE
  have k3 : [Part.objects, Part.recorder, Part.alarms, Part.diag] ⊆ E := List.Subset.trans (by decide) hE
  have k4 : [Part.dict] ⊆ E := List.Subset.trans (by decide) hE
  have k5 : [Part.power, Part.objects, Part.recorder, Part.alarms, Part.ctl] ⊆ E := List.Subset.trans (by decide) hE
  have k6 : [Part.power, Part.clock, Part.objects, Part.blobs, Part.held, Part.dict, Part.recorder, Part.pair, Part.alarms, Part.mram, Part.tap, Part.ctl, Part.ring, Part.srv, Part.saf, Part.net, Part.diag, Part.user, Part.wires, Part.free] ⊆ E := List.Subset.trans (by decide) hE
  have k7 : [Part.objects, Part.recorder, Part.alarms, Part.diag, Part.user] ⊆ E := List.Subset.trans (by decide) hE
  unfold State.wordEffect
  (try dsimp only)
  repeat' (first
    | (with_reducible assumption)
    | ((with_reducible apply State.hardFaultOf_sound k0))
    | ((with_reducible apply State.discardItem_sound k1))
    | ((with_reducible apply State.event_sound k2))
    | ((with_reducible apply State.declared_sound k3))
    | ((with_reducible apply State.putClient_sound k4))
    | ((with_reducible apply State.request_sound k5))
    | ((with_reducible apply State.answer_sound k6))
    | ((with_reducible apply State.userFault_sound k7))
    | (with_reducible refine sound_ite (fun _ => ?_) (fun _ => ?_))
    | (with_reducible refine sound_foldl (fun s x h => ?_) ?_)
    | (fail_if_no_progress with_reducible refine Sound.upd_mram h_mram _ ?_)
    | (fail_if_no_progress with_reducible refine Sound.upd_recorder h_recorder _ ?_)
    | (fail_if_no_progress with_reducible refine Sound.upd_recorder h_recorder _ ?_)
    | (fail_if_no_progress with_reducible refine Sound.upd_recorder_mram h_recorder h_mram _ ?_)
    | (dsimp only)
    | (split))

theorem State.armInjection_sound {E : List Part} {base : State} (hE : [Part.objects, Part.diag] ⊆ E) (s : State)
    (fine : Sound E base s) :
    Sound E base (State.armInjection s) := by
  have h_diag : Part.diag ∈ E := hE (by decide)
  have k0 : [Part.objects] ⊆ E := List.Subset.trans (by decide) hE
  unfold State.armInjection
  (try dsimp only)
  repeat' (first
    | (with_reducible assumption)
    | ((with_reducible apply State.setObj_sound k0))
    | (with_reducible refine sound_ite (fun _ => ?_) (fun _ => ?_))
    | (with_reducible refine sound_foldl (fun s x h => ?_) ?_)
    | (fail_if_no_progress with_reducible refine Sound.upd_diagn h_diag _ ?_))

theorem State.inject_sound {E : List Part} {base : State} (hE : [Part.objects, Part.recorder, Part.alarms, Part.intake, Part.diag, Part.free] ⊆ E) (s : State) (code inst : Nat)
    (fine : Sound E base s) :
    Sound E base (State.inject s code inst) := by
  have h_diag : Part.diag ∈ E := hE (by decide)
  have k0 : [Part.objects, Part.recorder, Part.alarms] ⊆ E := List.Subset.trans (by decide) hE
  have k1 : [Part.objects, Part.diag, Part.free] ⊆ E := List.Subset.trans (by decide) hE
  have k2 : [Part.intake] ⊆ E := List.Subset.trans (by decide) hE
  unfold State.inject
  (try dsimp only)
  repeat' (first
    | (with_reducible assumption)
    | ((with_reducible apply State.count_sound k0))
    | ((with_reducible apply State.declaredFree_sound k1))
    | ((with_reducible apply State.modChain_sound k2))
    | ((with_reducible apply State.modRx_sound k2))
    | (with_reducible refine sound_ite (fun _ => ?_) (fun _ => ?_))
    | (with_reducible refine sound_foldl (fun s x h => ?_) ?_)
    | (fail_if_no_progress with_reducible refine Sound.upd_diagn h_diag _ ?_)
    | (dsimp only)
    | (split))

theorem State.startTest_sound {E : List Part} {base : State} (hE : [Part.objects, Part.recorder, Part.pair, Part.alarms, Part.ring, Part.diag, Part.free] ⊆ E) (s : State) (l : Nat) (mode : Int)
    (fine : Sound E base s) :
    Sound E base (State.startTest s l mode) := by
  have k0 : [Part.free] ⊆ E := List.Subset.trans (by decide) hE
  have k1 : [Part.objects] ⊆ E := List.Subset.trans (by decide) hE
  have k2 : [Part.diag] ⊆ E := List.Subset.trans (by decide) hE
  have k3 : [Part.objects, Part.recorder] ⊆ E := List.Subset.trans (by decide) hE
  have k4 : [Part.pair] ⊆ E := List.Subset.trans (by decide) hE
  have k5 : [Part.objects, Part.recorder, Part.alarms] ⊆ E := List.Subset.trans (by decide) hE
  have k6 : [Part.objects, Part.recorder, Part.alarms, Part.ring] ⊆ E := List.Subset.trans (by decide) hE
  unfold State.startTest
  (try dsimp only)
  repeat' (first
    | (with_reducible assumption)
    | ((with_reducible apply State.free_sound k0))
    | ((with_reducible apply State.setObjs_sound k1))
    | ((with_reducible apply State.modTest_sound k2))
    | ((with_reducible apply State.event_sound k3))
    | ((with_reducible apply State.modLane_sound k4))
    | ((with_reducible apply State.showLane_sound k1))
    | ((with_reducible apply State.setBit_sound k1))
    | ((with_reducible apply State.count_sound k5))
    | ((with_reducible apply State.laneAlarm_sound k5))
    | ((with_reducible apply State.portFalls_sound k6))
    | (with_reducible refine sound_ite (fun _ => ?_) (fun _ => ?_)))

theorem State.sendLoopback_sound {E : List Part} {base : State} (hE : [Part.diag, Part.wires] ⊆ E) (s : State) (l : Nat)
    (fine : Sound E base s) :
    Sound E base (State.sendLoopback s l) := by
  have k0 : [Part.diag] ⊆ E := List.Subset.trans (by decide) hE
  have k1 : [Part.wires] ⊆ E := List.Subset.trans (by decide) hE
  unfold State.sendLoopback
  (try dsimp only)
  repeat' (first
    | (with_reducible assumption)
    | ((with_reducible apply State.modTest_sound k0))
    | ((with_reducible apply State.tell_sound k1)))

theorem State.diagApplied_sound {E : List Part} {base : State} (hE : [Part.objects, Part.dict, Part.recorder, Part.pair, Part.alarms, Part.ring, Part.diag, Part.free] ⊆ E) (s : State) (c : Client) (i sub : Nat) (n : Int)
    (fine : Sound E base s) :
    Sound E base (State.diagApplied s c i sub n) := by
  have h_diag : Part.diag ∈ E := hE (by decide)
  have k0 : [Part.objects] ⊆ E := List.Subset.trans (by decide) hE
  have k1 : [Part.objects, Part.diag] ⊆ E := List.Subset.trans (by decide) hE
  have k2 : [Part.dict] ⊆ E := List.Subset.trans (by decide) hE
  have k3 : [Part.objects, Part.recorder, Part.diag] ⊆ E := List.Subset.trans (by decide) hE
  have k4 : [Part.objects, Part.recorder, Part.pair, Part.alarms, Part.ring, Part.diag, Part.free] ⊆ E := List.Subset.trans (by decide) hE
  unfold State.diagApplied
  (try dsimp only)
  repeat' (first
    | (with_reducible assumption)
    | ((with_reducible apply State.setObj_sound k0))
    | ((with_reducible apply State.armInjection_sound k1))
    | ((with_reducible apply State.putClient_sound k2))
    | ((with_reducible apply State.finishTest_sound k3))
    | ((with_reducible apply State.startTest_sound k4))
    | (with_reducible refine sound_ite (fun _ => ?_) (fun _ => ?_))
    | (with_reducible refine sound_foldl (fun s x h => ?_) ?_)
    | (fail_if_no_progress with_reducible refine Sound.upd_diagn h_diag _ ?_))

theorem State.dropSession_sound {E : List Part} {base : State} (hE : [Part.dict] ⊆ E) (s : State) (c : Client)
    (fine : Sound E base s) :
    Sound E base (State.dropSession s c) := by
  have h_dict : Part.dict ∈ E := hE (by decide)
  unfold State.dropSession
  (try dsimp only)
  repeat' (first
    | (with_reducible assumption)
    | (with_reducible refine sound_ite (fun _ => ?_) (fun _ => ?_))
    | (with_reducible refine sound_foldl (fun s x h => ?_) ?_)
    | (fail_if_no_progress with_reducible refine Sound.upd_dict h_dict _ ?_))

theorem State.endSession_sound {E : List Part} {base : State} (hE : [Part.objects, Part.dict, Part.recorder] ⊆ E) (s : State) (c : Client)
    (fine : Sound E base s) :
    Sound E base (State.endSession s c) := by
  have k0 : [Part.dict] ⊆ E := List.Subset.trans (by decide) hE
  have k1 : [Part.objects, Part.recorder] ⊆ E := List.Subset.trans (by decide) hE
  unfold State.endSession
  repeat' (first
    | (with_reducible assumption)
    | ((with_reducible apply State.dropSession_sound k0))
    | ((with_reducible apply State.event_sound k1))
    | (with_reducible refine sound_ite (fun _ => ?_) (fun _ => ?_))
    | (with_reducible refine sound_foldl (fun s x h => ?_) ?_)
    | (dsimp only)
    | (split))

theorem State.endSessions_sound {E : List Part} {base : State} (hE : [Part.objects, Part.dict, Part.recorder] ⊆ E) (s : State)
    (fine : Sound E base s) :
    Sound E base (State.endSessions s) := by
  have k0 : [Part.objects, Part.dict, Part.recorder] ⊆ E := List.Subset.trans (by decide) hE
  unfold State.endSessions
  repeat' (first
    | (with_reducible assumption)
    | ((with_reducible apply State.endSession_sound k0))
    | (with_reducible refine sound_ite (fun _ => ?_) (fun _ => ?_))
    | (with_reducible refine sound_foldl (fun s x h => ?_) ?_))

theorem State.useSession_sound {E : List Part} {base : State} (hE : [Part.dict] ⊆ E) (s : State) (c : Client) (tag : Option OdTag)
    (fine : Sound E base s) :
    Sound E base (State.useSession s c tag) := by
  have h_dict : Part.dict ∈ E := hE (by decide)
  unfold State.useSession
  (try dsimp only)
  repeat' (first
    | (with_reducible assumption)
    | (with_reducible refine sound_ite (fun _ => ?_) (fun _ => ?_))
    | (with_reducible refine sound_foldl (fun s x h => ?_) ?_)
    | (fail_if_no_progress with_reducible refine Sound.upd_dict h_dict _ ?_))

theorem State.countRefusal_sound {E : List Part} {base : State} (hE : [Part.objects, Part.recorder, Part.alarms] ⊆ E) (s : State) (i sub a : Nat)
    (fine : Sound E base s) :
    Sound E base (State.countRefusal s i sub a) := by
  have k0 : [Part.objects, Part.recorder, Part.alarms] ⊆ E := List.Subset.trans (by decide) hE
  unfold State.countRefusal
  repeat' (first
    | (with_reducible assumption)
    | ((with_reducible apply State.count_sound k0))
    | (with_reducible refine sound_ite (fun _ => ?_) (fun _ => ?_)))

theorem State.challenge_sound {E : List Part} {base : State} (hE : [Part.objects, Part.dict, Part.recorder] ⊆ E) (s : State) (c : Client) (nonce : List Byte)
    (fine : Sound E base s) :
    Sound E base (State.challenge s c nonce) := by
  have h_dict : Part.dict ∈ E := hE (by decide)
  have k0 : [Part.objects, Part.dict, Part.recorder] ⊆ E := List.Subset.trans (by decide) hE
  unfold State.challenge
  (try dsimp only)
  repeat' (first
    | (with_reducible assumption)
    | ((with_reducible apply State.endSession_sound k0))
    | (with_reducible refine sound_ite (fun _ => ?_) (fun _ => ?_))
    | (with_reducible refine sound_foldl (fun s x h => ?_) ?_)
    | (fail_if_no_progress with_reducible refine Sound.upd_dict h_dict _ ?_))

theorem State.authFails_sound {E : List Part} {base : State} (hE : [Part.objects, Part.dict, Part.recorder, Part.alarms] ⊆ E) (s : State) (c : Client)
    (fine : Sound E base s) :
    Sound E base (State.authFails s c) := by
  have h_dict : Part.dict ∈ E := hE (by decide)
  have k0 : [Part.dict] ⊆ E := List.Subset.trans (by decide) hE
  have k1 : [Part.objects, Part.recorder, Part.alarms] ⊆ E := List.Subset.trans (by decide) hE
  have k2 : [Part.objects, Part.recorder] ⊆ E := List.Subset.trans (by decide) hE
  unfold State.authFails
  (try dsimp only)
  repeat' (first
    | (with_reducible assumption)
    | ((with_reducible apply State.dropSession_sound k0))
    | ((with_reducible apply State.count_sound k1))
    | ((with_reducible apply State.event_sound k2))
    | (with_reducible refine sound_ite (fun _ => ?_) (fun _ => ?_))
    | (with_reducible refine sound_foldl (fun s x h => ?_) ?_)
    | (fail_if_no_progress with_reducible refine Sound.upd_dict h_dict _ ?_))

theorem State.authPasses_sound {E : List Part} {base : State} (hE : [Part.objects, Part.dict, Part.recorder] ⊆ E) (s : State) (x : Session)
    (fine : Sound E base s) :
    Sound E base (State.authPasses s x) := by
  have h_dict : Part.dict ∈ E := hE (by decide)
  have k0 : [Part.objects, Part.recorder] ⊆ E := List.Subset.trans (by decide) hE
  unfold State.authPasses
  (try dsimp only)
  repeat' (first
    | (with_reducible assumption)
    | ((with_reducible apply State.event_sound k0))
    | (with_reducible refine sound_ite (fun _ => ?_) (fun _ => ?_))
    | (with_reducible refine sound_foldl (fun s x h => ?_) ?_)
    | (fail_if_no_progress with_reducible refine Sound.upd_dict h_dict _ ?_))

theorem State.canSession_sound {E : List Part} {base : State} (hE : [Part.objects, Part.blobs, Part.dict, Part.recorder, Part.alarms] ⊆ E) (s : State) (c : Client) (sub : Nat) (b : List Byte)
    (fine : Sound E base s) :
    Sound E base (State.canSession s c sub b).2 := by
  have k0 : [Part.objects, Part.dict, Part.recorder] ⊆ E := List.Subset.trans (by decide) hE
  have k1 : [Part.blobs] ⊆ E := List.Subset.trans (by decide) hE
  have k2 : [Part.objects, Part.dict, Part.recorder, Part.alarms] ⊆ E := List.Subset.trans (by decide) hE
  unfold State.canSession
  (try dsimp only)
  repeat' (first
    | (with_reducible assumption)
    | ((with_reducible apply State.challenge_sound k0))
    | ((with_reducible apply State.setBlob_sound k1))
    | ((with_reducible apply State.authPasses_sound k0))
    | ((with_reducible apply State.authFails_sound k2))
    | ((with_reducible apply State.endSession_sound k0))
    | (with_reducible refine sound_ite (fun _ => ?_) (fun _ => ?_))
    | (with_reducible refine sound_foldl (fun s x h => ?_) ?_)
    | (with_reducible refine sound_foldl2 (fun s x h => ?_) ?_)
    | (with_reducible refine sound_foldl3 (fun s x h => ?_) ?_)
    | (dsimp only)
    | (split))

theorem State.writeHere_sound {E : List Part} {base : State} (hE : [Part.clock, Part.objects, Part.blobs, Part.held, Part.dict, Part.recorder, Part.pair, Part.alarms, Part.mram, Part.tap, Part.ctl, Part.ring, Part.srv, Part.saf, Part.diag, Part.wires, Part.free] ⊆ E) (s : State) (c : Client) (i sub : Nat) (v : Val)
    (fine : Sound E base s) :
    Sound E base (State.writeHere s c i sub v).2 := by
  have k0 : [Part.objects, Part.blobs, Part.dict, Part.recorder, Part.alarms] ⊆ E := List.Subset.trans (by decide) hE
  have k1 : [Part.blobs] ⊆ E := List.Subset.trans (by decide) hE
  have k2 : [Part.dict] ⊆ E := List.Subset.trans (by decide) hE
  have k3 : [Part.mram] ⊆ E := List.Subset.trans (by decide) hE
  have k4 : [Part.objects] ⊆ E := List.Subset.trans (by decide) hE
  have k5 : [Part.objects, Part.dict, Part.recorder, Part.pair, Part.alarms, Part.ring, Part.diag, Part.free] ⊆ E := List.Subset.trans (by decide) hE
  have k6 : [Part.clock, Part.objects, Part.held, Part.recorder, Part.pair, Part.alarms, Part.tap, Part.ctl, Part.srv, Part.saf, Part.diag, Part.wires, Part.free] ⊆ E := List.Subset.trans (by decide) hE
  unfold State.writeHere
  (try dsimp only)
  repeat' (first
    | (with_reducible assumption)
    | ((with_reducible apply State.canSession_sound k0))
    | ((with_reducible apply State.setBlob_sound k1))
    | ((with_reducible apply State.putClient_sound k2))
    | ((with_reducible apply State.eraseKept_sound k3))
    | ((with_reducible apply State.setObj_sound k4))
    | ((with_reducible apply State.diagApplied_sound k5))
    | ((with_reducible apply State.pairApplied_sound k6))
    | (with_reducible refine sound_ite (fun _ => ?_) (fun _ => ?_))
    | (with_reducible refine sound_foldl (fun s x h => ?_) ?_)
    | (with_reducible refine sound_foldl2 (fun s x h => ?_) ?_)
    | (with_reducible refine sound_foldl3 (fun s x h => ?_) ?_)
    | (dsimp only)
    | (refine sound_snd (by assumption) ?_)
    | (refine sound_fst (by assumption) ?_)
    | (refine sound_thd (by assumption) ?_)
    | (split))

theorem State.copyNow_sound {E : List Part} {base : State} (hE : [Part.objects, Part.blobs, Part.held] ⊆ E) (s : State) (key : Nat)
    (fine : Sound E base s) :
    Sound E base (State.copyNow s key) := by
  have h_held : Part.held ∈ E := hE (by decide)
  have k0 : [Part.objects, Part.blobs] ⊆ E := List.Subset.trans (by decide) hE
  unfold State.copyNow
  repeat' (first
    | (with_reducible assumption)
    | ((with_reducible apply State.copyBanks_sound k0))
    | ((with_reducible apply State.copyServoBanks_sound k0))
    | (with_reducible refine sound_ite (fun _ => ?_) (fun _ => ?_))
    | (with_reducible refine sound_foldl (fun s x h => ?_) ?_)
    | (fail_if_no_progress with_reducible refine Sound.upd_held h_held _ ?_))

theorem State.hold_sound {E : List Part} {base : State} (hE : [Part.objects, Part.blobs, Part.held, Part.user] ⊆ E) (s : State) (key : Nat) (v : Val) (stamp session : Nat)
    (fine : Sound E base s) :
    Sound E base (State.hold s key v stamp session) := by
  have h_held : Part.held ∈ E := hE (by decide)
  have k0 : [Part.objects, Part.blobs, Part.held] ⊆ E := List.Subset.trans (by decide) hE
  have k1 : [Part.objects, Part.user] ⊆ E := List.Subset.trans (by decide) hE
  unfold State.hold
  repeat' (first
    | (with_reducible assumption)
    | ((with_reducible apply State.copyNow_sound k0))
    | ((with_reducible apply State.holdImage_sound k1))
    | (with_reducible refine sound_ite (fun _ => ?_) (fun _ => ?_))
    | (with_reducible refine sound_foldl (fun s x h => ?_) ?_)
    | (fail_if_no_progress with_reducible refine Sound.upd_held h_held _ ?_)
    | (dsimp only)
    | (split))

theorem State.sendWrite_sound {E : List Part} {base : State} (hE : [Part.objects, Part.pair, Part.diag, Part.wires, Part.free] ⊆ E) (s : State) (key : Nat) (v : Val) (stamp : Nat)
    (fine : Sound E base s) :
    Sound E base (State.sendWrite s key v stamp) := by
  have k0 : [Part.objects, Part.pair, Part.diag, Part.wires, Part.free] ⊆ E := List.Subset.trans (by decide) hE
  unfold State.sendWrite
  repeat' (first
    | (with_reducible assumption)
    | ((with_reducible apply State.twSend_sound k0)))

theorem State.awaitAck_sound {E : List Part} {base : State} (hE : [Part.dict] ⊆ E) (s : State) (c : Client) (key : Nat) (v : Val) (seqNo : Option Nat)
    (fine : Sound E base s) :
    Sound E base (State.awaitAck s c key v seqNo) := by
  have h_dict : Part.dict ∈ E := hE (by decide)
  unfold State.awaitAck
  (try dsimp only)
  repeat' (first
    | (with_reducible assumption)
    | (with_reducible refine sound_ite (fun _ => ?_) (fun _ => ?_))
    | (with_reducible refine sound_foldl (fun s x h => ?_) ?_)
    | (fail_if_no_progress with_reducible refine Sound.upd_dict h_dict _ ?_))

theorem State.gateWrite_sound {E : List Part} {base : State} (hE : [Part.power, Part.clock, Part.objects, Part.blobs, Part.held, Part.dict, Part.recorder, Part.pair, Part.alarms, Part.mram, Part.tap, Part.ctl, Part.ring, Part.srv, Part.saf, Part.net, Part.diag, Part.user, Part.wires, Part.free] ⊆ E) (s : State) (c : Client) (key : Nat) (v : Val) (session : Nat)
    (fine : Sound E base s) :
    Sound E base (State.gateWrite s c key v session) := by
  have k0 : [Part.objects, Part.blobs, Part.held, Part.user] ⊆ E := List.Subset.trans (by decide) hE
  have k1 : [Part.objects, Part.pair, Part.diag, Part.wires, Part.free] ⊆ E := List.Subset.trans (by decide) hE
  have k2 : [Part.dict] ⊆ E := List.Subset.trans (by decide) hE
  have k3 : [Part.power, Part.clock, Part.objects, Part.blobs, Part.held, Part.dict, Part.recorder, Part.pair, Part.alarms, Part.mram, Part.tap, Part.ctl, Part.ring, Part.srv, Part.saf, Part.net, Part.diag, Part.user, Part.wires, Part.free] ⊆ E := List.Subset.trans (by decide) hE
  have k4 : [Part.objects] ⊆ E := List.Subset.trans (by decide) hE
  unfold State.gateWrite
  (try dsimp only)
  repeat' (first
    | (with_reducible assumption)
    | ((with_reducible apply State.hold_sound k0))
    | ((with_reducible apply State.sendWrite_sound k1))
    | ((with_reducible apply State.awaitAck_sound k2))
    | ((with_reducible apply State.answer_sound k3))
    | ((with_reducible apply State.setBit_sound k4))
    | (with_reducible refine sound_ite (fun _ => ?_) (fun _ => ?_))
    | (with_reducible refine sound_foldl (fun s x h => ?_) ?_)
    | (dsimp only)
    | (split))

theorem State.mappedRequest_sound {E : List Part} {base : State} (hE : [Part.power, Part.clock, Part.objects, Part.blobs, Part.held, Part.dict, Part.recorder, Part.pair, Part.alarms, Part.mram, Part.tap, Part.ctl, Part.ring, Part.srv, Part.saf, Part.net, Part.diag, Part.user, Part.wires, Part.free] ⊆ E) (s : State) (c : Client) (key : Nat) (v : Val)
    (fine : Sound E base s) :
    Sound E base (State.mappedRequest s c key v) := by
  have k0 : [Part.objects, Part.held, Part.pair, Part.net, Part.diag, Part.wires, Part.free] ⊆ E := List.Subset.trans (by decide) hE
  have k1 : [Part.power, Part.clock, Part.objects, Part.blobs, Part.held, Part.dict, Part.recorder, Part.pair, Part.alarms, Part.mram, Part.tap, Part.ctl, Part.ring, Part.srv, Part.saf, Part.net, Part.diag, Part.user, Part.wires, Part.free] ⊆ E := List.Subset.trans (by decide) hE
  unfold State.mappedRequest
  repeat' (first
    | (with_reducible assumption)
    | ((with_reducible apply State.answer_sound k1))
    | (refine State.mappedWrite_sound k0 _ _ _ _ _ ?_ _ (by assumption))
    | (with_reducible refine sound_ite (fun _ => ?_) (fun _ => ?_))
    | (with_reducible refine sound_foldl (fun s x h => ?_) ?_)
    | (dsimp only)
    | (split))

theorem State.guardedRecord_sound {E : List Part} {base : State} (hE : [Part.objects, Part.recorder] ⊆ E) (s : State) (i sub session : Nat) (b : List Byte)
    (fine : Sound E base s) :
    Sound E base (State.guardedRecord s i sub session b) := by
  have k0 : [Part.objects, Part.recorder] ⊆ E := List.Subset.trans (by decide) hE
  unfold State.guardedRecord
  (try dsimp only)
  repeat' (first
    | (with_reducible assumption)
    | ((with_reducible apply State.offer_sound k0)))

theorem State.accept_sound {E : List Part} {base : State} (hE : [Part.power, Part.clock, Part.objects, Part.blobs, Part.held, Part.dict, Part.recorder, Part.pair, Part.alarms, Part.mram, Part.tap, Part.ctl, Part.ring, Part.srv, Part.saf, Part.net, Part.diag, Part.user, Part.wires, Part.free] ⊆ E) (s : State) (c : Client) (i sub : Nat) (r : OdRow) (v : Val) (session : Nat)
    (fine : Sound E base s) :
    Sound E base (State.accept s c i sub r v session) := by
  have k0 : [Part.clock, Part.objects, Part.blobs, Part.held, Part.dict, Part.recorder, Part.pair, Part.alarms, Part.mram, Part.tap, Part.ctl, Part.ring, Part.srv, Part.saf, Part.diag, Part.wires, Part.free] ⊆ E := List.Subset.trans (by decide) hE
  have k1 : [Part.power, Part.clock, Part.objects, Part.blobs, Part.held, Part.dict, Part.recorder, Part.pair, Part.alarms, Part.mram, Part.tap, Part.ctl, Part.ring, Part.srv, Part.saf, Part.net, Part.diag, Part.user, Part.wires, Part.free] ⊆ E := List.Subset.trans (by decide) hE
  unfold State.accept
  (try dsimp only)
  repeat' (first
    | (with_reducible assumption)
    | ((with_reducible apply State.writeHere_sound k0))
    | ((with_reducible apply State.answer_sound k1))
    | ((with_reducible apply State.mappedRequest_sound k1))
    | ((with_reducible apply State.gateWrite_sound k1))
    | (with_reducible refine sound_ite (fun _ => ?_) (fun _ => ?_))
    | (with_reducible refine sound_foldl (fun s x h => ?_) ?_)
    | (dsimp only)
    | (refine sound_snd (by assumption) ?_)
    | (refine sound_fst (by assumption) ?_)
    | (refine sound_thd (by assumption) ?_)
    | (split))

theorem State.writeObject_sound {E : List Part} {base : State} (hE : [Part.power, Part.clock, Part.objects, Part.blobs, Part.held, Part.dict, Part.recorder, Part.pair, Part.alarms, Part.mram, Part.tap, Part.ctl, Part.ring, Part.srv, Part.saf, Part.net, Part.diag, Part.user, Part.wires, Part.free] ⊆ E) (s : State) (c : Client) (tag : Option OdTag) (i sub : Nat) (v : Val)
    (fine : Sound E base s) :
    Sound E base (State.writeObject s c tag i sub v) := by
  have k0 : [Part.dict] ⊆ E := List.Subset.trans (by decide) hE
  have k1 : [Part.power, Part.clock, Part.objects, Part.blobs, Part.held, Part.dict, Part.recorder, Part.pair, Part.alarms, Part.mram, Part.tap, Part.ctl, Part.ring, Part.srv, Part.saf, Part.net, Part.diag, Part.user, Part.wires, Part.free] ⊆ E := List.Subset.trans (by decide) hE
  have k2 : [Part.objects, Part.recorder, Part.alarms] ⊆ E := List.Subset.trans (by decide) hE
  have k3 : [Part.objects, Part.recorder] ⊆ E := List.Subset.trans (by decide) hE
  unfold State.writeObject
  (try dsimp only)
  repeat' (first
    | (with_reducible assumption)
    | ((with_reducible apply State.hear_sound k0))
    | ((with_reducible apply State.answer_sound k1))
    | ((with_reducible apply State.useSession_sound k0))
    | ((with_reducible apply State.countRefusal_sound k2))
    | ((with_reducible apply State.guardedRecord_sound k3))
    | ((with_reducible apply State.accept_sound k1))
    | (with_reducible refine sound_ite (fun _ => ?_) (fun _ => ?_))
    | (with_reducible refine sound_foldl (fun s x h => ?_) ?_)
    | (dsimp only)
    | (split))

theorem State.writeNum_sound {E : List Part} {base : State} (hE : [Part.power, Part.clock, Part.objects, Part.blobs, Part.held, Part.dict, Part.recorder, Part.pair, Part.alarms, Part.mram, Part.tap, Part.ctl, Part.ring, Part.srv, Part.saf, Part.net, Part.diag, Part.user, Part.wires, Part.free] ⊆ E) (s : State) (c : Client) (tag : Option OdTag) (i sub : Nat) (n : Int)
    (fine : Sound E base s) :
    Sound E base (State.writeNum s c tag i sub n) := by
  have k0 : [Part.power, Part.clock, Part.objects, Part.blobs, Part.held, Part.dict, Part.recorder, Part.pair, Part.alarms, Part.mram, Part.tap, Part.ctl, Part.ring, Part.srv, Part.saf, Part.net, Part.diag, Part.user, Part.wires, Part.free] ⊆ E := List.Subset.trans (by decide) hE
  unfold State.writeNum
  repeat' (first
    | (with_reducible assumption)
    | ((with_reducible apply State.writeObject_sound k0)))

theorem State.answerForwarded_sound {E : List Part} {base : State} (hE : [Part.power, Part.clock, Part.objects, Part.blobs, Part.held, Part.dict, Part.recorder, Part.pair, Part.alarms, Part.mram, Part.tap, Part.ctl, Part.ring, Part.srv, Part.saf, Part.net, Part.diag, Part.user, Part.wires, Part.free] ⊆ E) (s : State) (key : Nat) (r : Reply)
    (fine : Sound E base s) :
    Sound E base (State.answerForwarded s key r) := by
  have h_dict : Part.dict ∈ E := hE (by decide)
  have k0 : [Part.power, Part.clock, Part.objects, Part.blobs, Part.held, Part.dict, Part.recorder, Part.pair, Part.alarms, Part.mram, Part.tap, Part.ctl, Part.ring, Part.srv, Part.saf, Part.net, Part.diag, Part.user, Part.wires, Part.free] ⊆ E := List.Subset.trans (by decide) hE
  unfold State.answerForwarded
  (try dsimp only)
  repeat' (first
    | (with_reducible assumption)
    | ((with_reducible apply State.answer_sound k0))
    | (with_reducible refine sound_ite (fun _ => ?_) (fun _ => ?_))
    | (with_reducible refine sound_foldl (fun s x h => ?_) ?_)
    | (fail_if_no_progress with_reducible refine Sound.upd_dict h_dict _ ?_)
    | (dsimp only)
    | (split))

theorem State.forwardedWrite_sound {E : List Part} {base : State} (hE : [Part.objects, Part.blobs, Part.held, Part.recorder, Part.pair, Part.alarms, Part.net, Part.diag, Part.user, Part.wires, Part.free] ⊆ E) (s : State) (key : Nat) (v : Val) (stamp : Nat) (src : Option (Nat × Nat))
    (fine : Sound E base s) :
    Sound E base (State.forwardedWrite s key v stamp src) := by
  have k0 : [Part.objects, Part.recorder, Part.alarms] ⊆ E := List.Subset.trans (by decide) hE
  have k1 : [Part.objects, Part.pair, Part.diag, Part.wires, Part.free] ⊆ E := List.Subset.trans (by decide) hE
  have k2 : [Part.net] ⊆ E := List.Subset.trans (by decide) hE
  have k3 : [Part.objects, Part.blobs, Part.held, Part.user] ⊆ E := List.Subset.trans (by decide) hE
  have k4 : [Part.objects] ⊆ E := List.Subset.trans (by decide) hE
  unfold State.forwardedWrite
  (try dsimp only)
  repeat' (first
    | (with_reducible assumption)
    | ((with_reducible apply State.countRefusal_sound k0))
    | ((with_reducible apply State.twSend_sound k1))
    | ((with_reducible apply State.markPlaced_sound k2))
    | ((with_reducible apply State.hold_sound k3))
    | ((with_reducible apply State.sendWrite_sound k1))
    | ((with_reducible apply State.setBit_sound k4))
    | (with_reducible refine sound_ite (fun _ => ?_) (fun _ => ?_))
    | (with_reducible refine sound_foldl (fun s x h => ?_) ?_)
    | (dsimp only)
    | (split))

theorem State.takeWrite_sound {E : List Part} {base : State} (hE : [Part.power, Part.clock, Part.objects, Part.blobs, Part.held, Part.dict, Part.recorder, Part.pair, Part.alarms, Part.mram, Part.tap, Part.ctl, Part.ring, Part.srv, Part.saf, Part.net, Part.diag, Part.user, Part.wires, Part.free] ⊆ E) (s : State) (key : Nat) (v : Val) (stamp : Nat) (verdict : Option Nat) (src : Option (Nat × Nat))
    (fine : Sound E base s) :
    Sound E base (State.takeWrite s key v stamp verdict src) := by
  have k0 : [Part.pair] ⊆ E := List.Subset.trans (by decide) hE
  have k1 : [Part.objects, Part.blobs, Part.held, Part.recorder, Part.pair, Part.alarms, Part.net, Part.diag, Part.user, Part.wires, Part.free] ⊆ E := List.Subset.trans (by decide) hE
  have k2 : [Part.power, Part.clock, Part.objects, Part.blobs, Part.held, Part.dict, Part.recorder, Part.pair, Part.alarms, Part.mram, Part.tap, Part.ctl, Part.ring, Part.srv, Part.saf, Part.net, Part.diag, Part.user, Part.wires, Part.free] ⊆ E := List.Subset.trans (by decide) hE
  have k3 : [Part.objects, Part.blobs, Part.held, Part.user] ⊆ E := List.Subset.trans (by decide) hE
  unfold State.takeWrite
  repeat' (first
    | (with_reducible assumption)
    | (with_reducible refine State.onMessage_sound k0 _ _ _ (fun s fine => ?_) ?_)
    | ((with_reducible apply State.forwardedWrite_sound k1))
    | ((with_reducible apply State.answerForwarded_sound k2))
    | ((with_reducible apply State.hold_sound k3))
    | (with_reducible refine sound_ite (fun _ => ?_) (fun _ => ?_))
    | (with_reducible refine sound_foldl (fun s x h => ?_) ?_)
    | (dsimp only)
    | (split))

theorem State.endTransfer_sound {E : List Part} {base : State} (hE : [Part.dict] ⊆ E) (s : State) (c : Client)
    (fine : Sound E base s) :
    Sound E base (State.endTransfer s c) := by
  have h_dict : Part.dict ∈ E := hE (by decide)
  unfold State.endTransfer
  (try dsimp only)
  repeat' (first
    | (with_reducible assumption)
    | (with_reducible refine sound_ite (fun _ => ?_) (fun _ => ?_))
    | (with_reducible refine sound_foldl (fun s x h => ?_) ?_)
    | (fail_if_no_progress with_reducible refine Sound.upd_dict h_dict _ ?_))

theorem State.putTransfer_sound {E : List Part} {base : State} (hE : [Part.dict] ⊆ E) (s : State) (x : Transfer)
    (fine : Sound E base s) :
    Sound E base (State.putTransfer s x) := by
  have h_dict : Part.dict ∈ E := hE (by decide)
  have k0 : [Part.dict] ⊆ E := List.Subset.trans (by decide) hE
  unfold State.putTransfer
  (try dsimp only)
  repeat' (first
    | (with_reducible assumption)
    | ((with_reducible apply State.endTransfer_sound k0))
    | (with_reducible refine sound_ite (fun _ => ?_) (fun _ => ?_))
    | (with_reducible refine sound_foldl (fun s x h => ?_) ?_)
    | (fail_if_no_progress with_reducible refine Sound.upd_dict h_dict _ ?_))

theorem State.abortTransfer_sound {E : List Part} {base : State} (hE : [Part.power, Part.clock, Part.objects, Part.blobs, Part.held, Part.dict, Part.recorder, Part.pair, Part.alarms, Part.mram, Part.tap, Part.ctl, Part.ring, Part.srv, Part.saf, Part.net, Part.diag, Part.user, Part.wires, Part.free] ⊆ E) (s : State) (c : Client) (key a : Nat)
    (fine : Sound E base s) :
    Sound E base (State.abortTransfer s c key a) := by
  have k0 : [Part.dict] ⊆ E := List.Subset.trans (by decide) hE
  have k1 : [Part.power, Part.clock, Part.objects, Part.blobs, Part.held, Part.dict, Part.recorder, Part.pair, Part.alarms, Part.mram, Part.tap, Part.ctl, Part.ring, Part.srv, Part.saf, Part.net, Part.diag, Part.user, Part.wires, Part.free] ⊆ E := List.Subset.trans (by decide) hE
  unfold State.abortTransfer
  repeat' (first
    | (with_reducible assumption)
    | ((with_reducible apply State.endTransfer_sound k0))
    | ((with_reducible apply State.answer_sound k1)))

theorem State.windowDone_sound {E : List Part} {base : State} (hE : [Part.dict] ⊆ E) (s : State) (c : Client) (key : Nat)
    (fine : Sound E base s) :
    Sound E base (State.windowDone s c key) := by
  have k0 : [Part.dict] ⊆ E := List.Subset.trans (by decide) hE
  unfold State.windowDone
  repeat' (first
    | (with_reducible assumption)
    | ((with_reducible apply State.putClient_sound k0))
    | (with_reducible refine sound_ite (fun _ => ?_) (fun _ => ?_)))

theorem State.answerFrom_sound {E : List Part} {base : State} (hE : [Part.power, Part.clock, Part.objects, Part.blobs, Part.held, Part.dict, Part.recorder, Part.pair, Part.alarms, Part.mram, Part.tap, Part.ctl, Part.ring, Part.srv, Part.saf, Part.net, Part.diag, Part.user, Part.wires, Part.free] ⊆ E) (s : State) (c : Client) (key off unit : Nat) (b : List Byte)
    (fine : Sound E base s) :
    Sound E base (State.answerFrom s c key off unit b) := by
  have k0 : [Part.dict] ⊆ E := List.Subset.trans (by decide) hE
  have k1 : [Part.power, Part.clock, Part.objects, Part.blobs, Part.held, Part.dict, Part.recorder, Part.pair, Part.alarms, Part.mram, Part.tap, Part.ctl, Part.ring, Part.srv, Part.saf, Part.net, Part.diag, Part.user, Part.wires, Part.free] ⊆ E := List.Subset.trans (by decide) hE
  unfold State.answerFrom
  (try dsimp only)
  repeat' (first
    | (with_reducible assumption)
    | ((with_reducible apply State.endTransfer_sound k0))
    | ((with_reducible apply State.windowDone_sound k0))
    | ((with_reducible apply State.putTransfer_sound k0))
    | ((with_reducible apply State.answer_sound k1))
    | (with_reducible refine sound_ite (fun _ => ?_) (fun _ => ?_)))

theorem State.guardRead_sound {E : List Part} {base : State} (hE : [Part.dict] ⊆ E) (s : State) (c : Client) (tag : Option OdTag) (i sub : Nat) (fine : Sound E base s) (s' : State)
    (h : State.guardRead s c tag i sub = .ok s') : Sound E base s' := by
  have k0 : [Part.dict] ⊆ E := List.Subset.trans (by decide) hE
  unfold State.guardRead at h
  split at h
  · split at h
    · split at h
      · cases h; exact State.useSession_sound k0 _ _ _ fine
      · split at h
        · cases h
        · cases h; exact State.useSession_sound k0 _ _ _ fine
    · cases h; exact fine
  · cases h; exact fine

theorem State.fetch_sound {E : List Part} {base : State} (hE : [Part.objects, Part.dict, Part.alarms] ⊆ E) (s : State) (c : Client) (tag : Option OdTag) (i sub : Nat)
    (fine : Sound E base s) :
    Sound E base (State.fetch s c tag i sub).2 := by
  have k0 : [Part.dict] ⊆ E := List.Subset.trans (by decide) hE
  have k1 : [Part.objects, Part.dict, Part.alarms] ⊆ E := List.Subset.trans (by decide) hE
  unfold State.fetch
  repeat' (first
    | (with_reducible assumption)
    | ((with_reducible apply State.hear_sound k0))
    | ((with_reducible apply State.readObject_sound k1))
    | (refine State.guardRead_sound k0 _ _ _ _ _ ?_ _ (by assumption))
    | (with_reducible refine sound_ite (fun _ => ?_) (fun _ => ?_))
    | (with_reducible refine sound_foldl (fun s x h => ?_) ?_)
    | (with_reducible refine sound_foldl2 (fun s x h => ?_) ?_)
    | (with_reducible refine sound_foldl3 (fun s x h => ?_) ?_)
    | (dsimp only)
    | (refine sound_snd (by assumption) ?_)
    | (refine sound_fst (by assumption) ?_)
    | (refine sound_thd (by assumption) ?_)
    | (split))

theorem State.readAt_sound {E : List Part} {base : State} (hE : [Part.power, Part.clock, Part.objects, Part.blobs, Part.held, Part.dict, Part.recorder, Part.pair, Part.alarms, Part.mram, Part.tap, Part.ctl, Part.ring, Part.srv, Part.saf, Part.net, Part.diag, Part.user, Part.wires, Part.free] ⊆ E) (s : State) (c : Client) (tag : Option OdTag) (i sub off unit : Nat)
    (fine : Sound E base s) :
    Sound E base (State.readAt s c tag i sub off unit) := by
  have k0 : [Part.dict] ⊆ E := List.Subset.trans (by decide) hE
  have k1 : [Part.power, Part.clock, Part.objects, Part.blobs, Part.held, Part.dict, Part.recorder, Part.pair, Part.alarms, Part.mram, Part.tap, Part.ctl, Part.ring, Part.srv, Part.saf, Part.net, Part.diag, Part.user, Part.wires, Part.free] ⊆ E := List.Subset.trans (by decide) hE
  have k2 : [Part.objects, Part.dict, Part.alarms] ⊆ E := List.Subset.trans (by decide) hE
  unfold State.readAt
  (try dsimp only)
  repeat' (first
    | (with_reducible assumption)
    | ((with_reducible apply State.answer_sound k1))
    | ((with_reducible apply State.hear_sound k0))
    | ((with_reducible apply State.answerFrom_sound k1))
    | ((with_reducible apply State.fetch_sound k2))
    | (refine State.guardRead_sound k0 _ _ _ _ _ ?_ _ (by assumption))
    | (with_reducible refine sound_ite (fun _ => ?_) (fun _ => ?_))
    | (with_reducible refine sound_foldl (fun s x h => ?_) ?_)
    | (dsimp only)
    | (refine sound_snd (by assumption) ?_)
    | (refine sound_fst (by assumption) ?_)
    | (refine sound_thd (by assumption) ?_)
    | (split))

theorem State.expireTransfer_sound {E : List Part} {base : State} (hE : [Part.power, Part.clock, Part.objects, Part.blobs, Part.held, Part.dict, Part.recorder, Part.pair, Part.alarms, Part.mram, Part.tap, Part.ctl, Part.ring, Part.srv, Part.saf, Part.net, Part.diag, Part.user, Part.wires, Part.free] ⊆ E) (s : State) (c : Client)
    (fine : Sound E base s) :
    Sound E base (State.expireTransfer s c) := by
  have k0 : [Part.power, Part.clock, Part.objects, Part.blobs, Part.held, Part.dict, Part.recorder, Part.pair, Part.alarms, Part.mram, Part.tap, Part.ctl, Part.ring, Part.srv, Part.saf, Part.net, Part.diag, Part.user, Part.wires, Part.free] ⊆ E := List.Subset.trans (by decide) hE
  unfold State.expireTransfer
  repeat' (first
    | (with_reducible assumption)
    | ((with_reducible apply State.abortTransfer_sound k0))
    | (with_reducible refine sound_ite (fun _ => ?_) (fun _ => ?_))
    | (with_reducible refine sound_foldl (fun s x h => ?_) ?_)
    | (dsimp only)
    | (split))

theorem State.canFrame_sound {E : List Part} {base : State} (hE : [Part.objects, Part.recorder, Part.alarms] ⊆ E) (s : State) (p : Nat)
    (fine : Sound E base s) :
    Sound E base (State.canFrame s p) := by
  have k0 : [Part.objects, Part.recorder, Part.alarms] ⊆ E := List.Subset.trans (by decide) hE
  unfold State.canFrame
  repeat' (first
    | (with_reducible assumption)
    | ((with_reducible apply State.count_sound k0)))

theorem State.sdo_sound {E : List Part} {base : State} (hE : [Part.power, Part.clock, Part.objects, Part.blobs, Part.held, Part.dict, Part.recorder, Part.pair, Part.alarms, Part.mram, Part.tap, Part.ctl, Part.ring, Part.srv, Part.saf, Part.net, Part.diag, Part.user, Part.wires, Part.free] ⊆ E) (s : State) (p : Nat) (req : SdoReq)
    (fine : Sound E base s) :
    Sound E base (State.sdo s p req) := by
  have k0 : [Part.power, Part.clock, Part.objects, Part.blobs, Part.held, Part.dict, Part.recorder, Part.pair, Part.alarms, Part.mram, Part.tap, Part.ctl, Part.ring, Part.srv, Part.saf, Part.net, Part.diag, Part.user, Part.wires, Part.free] ⊆ E := List.Subset.trans (by decide) hE
  have k1 : [Part.dict] ⊆ E := List.Subset.trans (by decide) hE
  have k2 : [Part.objects, Part.dict, Part.alarms] ⊆ E := List.Subset.trans (by decide) hE
  unfold State.sdo
  (try dsimp only)
  repeat' (first
    | (with_reducible assumption)
    | ((with_reducible apply State.expireTransfer_sound k0))
    | ((with_reducible apply State.putTransfer_sound k1))
    | ((with_reducible apply State.fetch_sound k2))
    | ((with_reducible apply State.answer_sound k0))
    | ((with_reducible apply State.abortTransfer_sound k0))
    | ((with_reducible apply State.endTransfer_sound k1))
    | ((with_reducible apply State.writeObject_sound k0))
    | ((with_reducible apply State.answerFrom_sound k0))
    | ((with_reducible apply State.windowDone_sound k1))
    | (with_reducible refine sound_ite (fun _ => ?_) (fun _ => ?_))
    | (with_reducible refine sound_foldl (fun s x h => ?_) ?_)
    | (dsimp only)
    | (refine sound_snd (by assumption) ?_)
    | (refine sound_fst (by assumption) ?_)
    | (refine sound_thd (by assumption) ?_)
    | (split))

theorem State.rpdoValue_sound {E : List Part} {base : State} (hE : [Part.power, Part.clock, Part.objects, Part.blobs, Part.held, Part.dict, Part.recorder, Part.pair, Part.alarms, Part.mram, Part.tap, Part.ctl, Part.ring, Part.srv, Part.saf, Part.net, Part.diag, Part.user, Part.wires, Part.free] ⊆ E) (s : State) (port i sub : Nat) (b : List Byte)
    (fine : Sound E base s) :
    Sound E base (State.rpdoValue s port i sub b) := by
  have k0 : [Part.power, Part.clock, Part.objects, Part.blobs, Part.held, Part.dict, Part.recorder, Part.pair, Part.alarms, Part.mram, Part.tap, Part.ctl, Part.ring, Part.srv, Part.saf, Part.net, Part.diag, Part.user, Part.wires, Part.free] ⊆ E := List.Subset.trans (by decide) hE
  have k1 : [Part.objects, Part.recorder, Part.alarms] ⊆ E := List.Subset.trans (by decide) hE
  have k2 : [Part.objects, Part.held, Part.pair, Part.net, Part.diag, Part.wires, Part.free] ⊆ E := List.Subset.trans (by decide) hE
  unfold State.rpdoValue
  (try dsimp only)
  repeat' (first
    | (with_reducible assumption)
    | ((with_reducible apply State.odRow_sound k0))
    | ((with_reducible apply State.count_sound k1))
    | (refine State.mappedWrite_sound k2 _ _ _ _ _ ?_ _ (by assumption))
    | (with_reducible refine sound_ite (fun _ => ?_) (fun _ => ?_))
    | (with_reducible refine sound_foldl (fun s x h => ?_) ?_)
    | (dsimp only)
    | (split))

theorem State.rpdoValues_sound {E : List Part} {base : State} (hE : [Part.power, Part.clock, Part.objects, Part.blobs, Part.held, Part.dict, Part.recorder, Part.pair, Part.alarms, Part.mram, Part.tap, Part.ctl, Part.ring, Part.srv, Part.saf, Part.net, Part.diag, Part.user, Part.wires, Part.free] ⊆ E) (s : State) (port : Nat) (l : List Nat) (b : List Byte) (fine : Sound E base s) : Sound E base (State.rpdoValues s port l b) := by -- apply
  have k0 : [Part.power, Part.clock, Part.objects, Part.blobs, Part.held, Part.dict, Part.recorder, Part.pair, Part.alarms, Part.mram, Part.tap, Part.ctl, Part.ring, Part.srv, Part.saf, Part.net, Part.diag, Part.user, Part.wires, Part.free] ⊆ E := List.Subset.trans (by decide) hE
  induction l generalizing s b with
  | nil => exact fine
  | cons e l ih => exact ih _ _ (State.rpdoValue_sound k0 _ _ _ _ _ fine)

theorem State.modTpdo_sound {E : List Part} {base : State} (hE : [Part.dict] ⊆ E) (s : State) (p : Nat) (f : TpdoRun → TpdoRun)
    (fine : Sound E base s) :
    Sound E base (State.modTpdo s p f) := by
  have h_dict : Part.dict ∈ E := hE (by decide)
  unfold State.modTpdo
  (try dsimp only)
  repeat' (first
    | (with_reducible assumption)
    | (with_reducible refine sound_ite (fun _ => ?_) (fun _ => ?_))
    | (with_reducible refine sound_foldl (fun s x h => ?_) ?_)
    | (fail_if_no_progress with_reducible refine Sound.upd_dict h_dict _ ?_))

theorem State.syncTpdo_sound {E : List Part} {base : State} (hE : [Part.dict] ⊆ E) (counter : Option Nat) (s : State) (p : Nat)
    (fine : Sound E base s) :
    Sound E base (State.syncTpdo counter s p) := by
  have k0 : [Part.dict] ⊆ E := List.Subset.trans (by decide) hE
  unfold State.syncTpdo
  (try dsimp only)
  repeat' (first
    | (with_reducible assumption)
    | ((with_reducible apply State.modTpdo_sound k0))
    | (with_reducible refine sound_ite (fun _ => ?_) (fun _ => ?_))
    | (with_reducible refine sound_foldl (fun s x h => ?_) ?_)
    | (dsimp only)
    | (split))

theorem State.nodeMessage_sound {E : List Part} {base : State} (hE : [Part.wires] ⊆ E) (s : State) (b : Nat)
    (fine : Sound E base s) :
    Sound E base (State.nodeMessage s b) := by
  have k0 : [Part.wires] ⊆ E := List.Subset.trans (by decide) hE
  unfold State.nodeMessage
  repeat' (first
    | (with_reducible assumption)
    | ((with_reducible apply State.tell_sound k0))
    | (with_reducible refine sound_ite (fun _ => ?_) (fun _ => ?_))
    | (with_reducible refine sound_foldl (fun s x h => ?_) ?_))

theorem State.odWrite_sound {E : List Part} {base : State} (hE : [Part.power, Part.clock, Part.objects, Part.blobs, Part.held, Part.dict, Part.recorder, Part.pair, Part.alarms, Part.mram, Part.tap, Part.ctl, Part.ring, Part.srv, Part.saf, Part.net, Part.diag, Part.user, Part.wires, Part.free] ⊆ E) (s : State) (c : Client) (tag : Option OdTag) (i sub offset : Nat) (final : Bool) (b : List Byte)
    (fine : Sound E base s) :
    Sound E base (State.odWrite s c tag i sub offset final b) := by
  have k0 : [Part.power, Part.clock, Part.objects, Part.blobs, Part.held, Part.dict, Part.recorder, Part.pair, Part.alarms, Part.mram, Part.tap, Part.ctl, Part.ring, Part.srv, Part.saf, Part.net, Part.diag, Part.user, Part.wires, Part.free] ⊆ E := List.Subset.trans (by decide) hE
  have k1 : [Part.dict] ⊆ E := List.Subset.trans (by decide) hE
  unfold State.odWrite
  (try dsimp only)
  repeat' (first
    | (with_reducible assumption)
    | ((with_reducible apply State.abortTransfer_sound k0))
    | ((with_reducible apply State.endTransfer_sound k1))
    | ((with_reducible apply State.writeObject_sound k0))
    | ((with_reducible apply State.useSession_sound k1))
    | ((with_reducible apply State.putTransfer_sound k1))
    | ((with_reducible apply State.answer_sound k0))
    | (with_reducible refine sound_ite (fun _ => ?_) (fun _ => ?_))
    | (with_reducible refine sound_foldl (fun s x h => ?_) ?_)
    | (dsimp only)
    | (split))

theorem State.openOver_sound {E : List Part} {base : State} (hE : [Part.power, Part.clock, Part.objects, Part.blobs, Part.held, Part.dict, Part.recorder, Part.pair, Part.alarms, Part.mram, Part.tap, Part.ctl, Part.ring, Part.srv, Part.saf, Part.net, Part.diag, Part.user, Part.wires, Part.free] ⊆ E) (s : State) (c : Client) (nonce : List Byte)
    (fine : Sound E base s) :
    Sound E base (State.openOver s c nonce) := by
  have k0 : [Part.power, Part.clock, Part.objects, Part.blobs, Part.held, Part.dict, Part.recorder, Part.pair, Part.alarms, Part.mram, Part.tap, Part.ctl, Part.ring, Part.srv, Part.saf, Part.net, Part.diag, Part.user, Part.wires, Part.free] ⊆ E := List.Subset.trans (by decide) hE
  have k1 : [Part.objects, Part.dict, Part.recorder] ⊆ E := List.Subset.trans (by decide) hE
  unfold State.openOver
  (try dsimp only)
  repeat' (first
    | (with_reducible assumption)
    | ((with_reducible apply State.answer_sound k0))
    | ((with_reducible apply State.challenge_sound k1))
    | (with_reducible refine sound_ite (fun _ => ?_) (fun _ => ?_))
    | (with_reducible refine sound_foldl (fun s x h => ?_) ?_)
    | (dsimp only)
    | (split))

theorem State.authenticateOver_sound {E : List Part} {base : State} (hE : [Part.power, Part.clock, Part.objects, Part.blobs, Part.held, Part.dict, Part.recorder, Part.pair, Part.alarms, Part.mram, Part.tap, Part.ctl, Part.ring, Part.srv, Part.saf, Part.net, Part.diag, Part.user, Part.wires, Part.free] ⊆ E) (s : State) (c : Client) (clientTag : List Byte)
    (fine : Sound E base s) :
    Sound E base (State.authenticateOver s c clientTag) := by
  have k0 : [Part.power, Part.clock, Part.objects, Part.blobs, Part.held, Part.dict, Part.recorder, Part.pair, Part.alarms, Part.mram, Part.tap, Part.ctl, Part.ring, Part.srv, Part.saf, Part.net, Part.diag, Part.user, Part.wires, Part.free] ⊆ E := List.Subset.trans (by decide) hE
  have k1 : [Part.objects, Part.dict, Part.recorder] ⊆ E := List.Subset.trans (by decide) hE
  have k2 : [Part.objects, Part.dict, Part.recorder, Part.alarms] ⊆ E := List.Subset.trans (by decide) hE
  unfold State.authenticateOver
  repeat' (first
    | (with_reducible assumption)
    | ((with_reducible apply State.answer_sound k0))
    | ((with_reducible apply State.authPasses_sound k1))
    | ((with_reducible apply State.authFails_sound k2))
    | (with_reducible refine sound_ite (fun _ => ?_) (fun _ => ?_))
    | (with_reducible refine sound_foldl (fun s x h => ?_) ?_)
    | (dsimp only)
    | (split))

theorem State.odServe_sound {E : List Part} {base : State} (hE : [Part.power, Part.clock, Part.objects, Part.blobs, Part.held, Part.dict, Part.recorder, Part.pair, Part.alarms, Part.mram, Part.tap, Part.ctl, Part.ring, Part.srv, Part.saf, Part.net, Part.diag, Part.user, Part.wires, Part.free] ⊆ E) (s : State) (c : Client) (m : OdMsg)
    (fine : Sound E base s) :
    Sound E base (State.odServe s c m) := by
  have k0 : [Part.objects, Part.recorder, Part.alarms] ⊆ E := List.Subset.trans (by decide) hE
  have k1 : [Part.wires] ⊆ E := List.Subset.trans (by decide) hE
  have k2 : [Part.ring, Part.wires] ⊆ E := List.Subset.trans (by decide) hE
  have k3 : [Part.power, Part.clock, Part.objects, Part.blobs, Part.held, Part.dict, Part.recorder, Part.pair, Part.alarms, Part.mram, Part.tap, Part.ctl, Part.ring, Part.srv, Part.saf, Part.net, Part.diag, Part.user, Part.wires, Part.free] ⊆ E := List.Subset.trans (by decide) hE
  have k4 : [Part.dict] ⊆ E := List.Subset.trans (by decide) hE
  have k5 : [Part.power, Part.objects, Part.recorder, Part.alarms, Part.ctl] ⊆ E := List.Subset.trans (by decide) hE
  have k6 : [Part.objects, Part.dict, Part.recorder] ⊆ E := List.Subset.trans (by decide) hE
  unfold State.odServe
  (try dsimp only)
  repeat' (first
    | (with_reducible assumption)
    | ((with_reducible apply State.count_sound k0))
    | ((with_reducible apply State.tell_sound k1))
    | ((with_reducible apply State.sendOd_sound k2))
    | ((with_reducible apply State.expireTransfer_sound k3))
    | ((with_reducible apply State.putClient_sound k4))
    | ((with_reducible apply State.request_sound k5))
    | ((with_reducible apply State.readAt_sound k3))
    | ((with_reducible apply State.odWrite_sound k3))
    | ((with_reducible apply State.openOver_sound k3))
    | ((with_reducible apply State.authenticateOver_sound k3))
    | ((with_reducible apply State.answer_sound k3))
    | ((with_reducible apply State.endSession_sound k6))
    | (with_reducible refine sound_ite (fun _ => ?_) (fun _ => ?_))
    | (with_reducible refine sound_foldl (fun s x h => ?_) ?_)
    | (dsimp only)
    | (split))

theorem State.serveNext_sound {E : List Part} {base : State} (hE : [Part.power, Part.clock, Part.objects, Part.blobs, Part.held, Part.dict, Part.recorder, Part.pair, Part.alarms, Part.mram, Part.tap, Part.ctl, Part.ring, Part.srv, Part.saf, Part.net, Part.diag, Part.user, Part.wires, Part.free] ⊆ E) (s : State)
    (fine : Sound E base s) :
    Sound E base (State.serveNext s) := by
  have k0 : [Part.power, Part.objects, Part.recorder, Part.alarms, Part.ctl] ⊆ E := List.Subset.trans (by decide) hE
  have k1 : [Part.dict] ⊆ E := List.Subset.trans (by decide) hE
  have k2 : [Part.power, Part.clock, Part.objects, Part.blobs, Part.held, Part.dict, Part.recorder, Part.pair, Part.alarms, Part.mram, Part.tap, Part.ctl, Part.ring, Part.srv, Part.saf, Part.net, Part.diag, Part.user, Part.wires, Part.free] ⊆ E := List.Subset.trans (by decide) hE
  unfold State.serveNext
  repeat' (first
    | (with_reducible assumption)
    | ((with_reducible apply State.request_sound k0))
    | ((with_reducible apply State.putClient_sound k1))
    | ((with_reducible apply State.odServe_sound k2))
    | (with_reducible refine sound_ite (fun _ => ?_) (fun _ => ?_))
    | (with_reducible refine sound_foldl (fun s x h => ?_) ?_)
    | (dsimp only)
    | (split))

theorem State.serveWaiting_sound {E : List Part} {base : State} (hE : [Part.power, Part.clock, Part.objects, Part.blobs, Part.held, Part.dict, Part.recorder, Part.pair, Part.alarms, Part.mram, Part.tap, Part.ctl, Part.ring, Part.srv, Part.saf, Part.net, Part.diag, Part.user, Part.wires, Part.free] ⊆ E) (s : State)
    (fine : Sound E base s) :
    Sound E base (State.serveWaiting s) := by
  have k0 : [Part.power, Part.clock, Part.objects, Part.blobs, Part.held, Part.dict, Part.recorder, Part.pair, Part.alarms, Part.mram, Part.tap, Part.ctl, Part.ring, Part.srv, Part.saf, Part.net, Part.diag, Part.user, Part.wires, Part.free] ⊆ E := List.Subset.trans (by decide) hE
  unfold State.serveWaiting
  (try dsimp only)
  repeat' (first
    | (with_reducible assumption)
    | ((with_reducible apply State.serveNext_sound k0))
    | (with_reducible refine sound_ite (fun _ => ?_) (fun _ => ?_))
    | (with_reducible refine sound_foldl (fun s x h => ?_) ?_))

theorem State.forgetSilent_sound {E : List Part} {base : State} (hE : [Part.dict] ⊆ E) (s : State)
    (fine : Sound E base s) :
    Sound E base (State.forgetSilent s) := by
  have h_dict : Part.dict ∈ E := hE (by decide)
  have k0 : [Part.dict] ⊆ E := List.Subset.trans (by decide) hE
  unfold State.forgetSilent
  (try dsimp only)
  repeat' (first
    | (with_reducible assumption)
    | ((with_reducible apply State.endTransfer_sound k0))
    | (with_reducible refine sound_ite (fun _ => ?_) (fun _ => ?_))
    | (with_reducible refine sound_foldl (fun s x h => ?_) ?_)
    | (fail_if_no_progress with_reducible refine Sound.upd_dict h_dict _ ?_))

theorem State.odArrive_sound {E : List Part} {base : State} (hE : [Part.power, Part.clock, Part.objects, Part.blobs, Part.held, Part.dict, Part.recorder, Part.pair, Part.alarms, Part.mram, Part.tap, Part.ctl, Part.ring, Part.srv, Part.saf, Part.net, Part.diag, Part.user, Part.wires, Part.free] ⊆ E) (s : State) (c : Client) (broadcast : Bool) (msg : Option OdMsg)
    (fine : Sound E base s) :
    Sound E base (State.odArrive s c broadcast msg) := by
  have k0 : [Part.objects, Part.recorder, Part.alarms] ⊆ E := List.Subset.trans (by decide) hE
  have k1 : [Part.dict] ⊆ E := List.Subset.trans (by decide) hE
  have k2 : [Part.wires] ⊆ E := List.Subset.trans (by decide) hE
  have k3 : [Part.ring, Part.wires] ⊆ E := List.Subset.trans (by decide) hE
  have k4 : [Part.power, Part.objects, Part.recorder, Part.alarms, Part.ctl] ⊆ E := List.Subset.trans (by decide) hE
  have k5 : [Part.power, Part.clock, Part.objects, Part.blobs, Part.held, Part.dict, Part.recorder, Part.pair, Part.alarms, Part.mram, Part.tap, Part.ctl, Part.ring, Part.srv, Part.saf, Part.net, Part.diag, Part.user, Part.wires, Part.free] ⊆ E := List.Subset.trans (by decide) hE
  unfold State.odArrive
  (try dsimp only)
  repeat' (first
    | (with_reducible assumption)
    | ((with_reducible apply State.count_sound k0))
    | ((with_reducible apply State.forgetSilent_sound k1))
    | ((with_reducible apply State.tell_sound k2))
    | ((with_reducible apply State.sendOd_sound k3))
    | ((with_reducible apply State.request_sound k4))
    | ((with_reducible apply State.putClient_sound k1))
    | ((with_reducible apply State.odServe_sound k5))
    | (with_reducible refine sound_ite (fun _ => ?_) (fun _ => ?_))
    | (with_reducible refine sound_foldl (fun s x h => ?_) ?_)
    | (dsimp only)
    | (split))

theorem State.odRow_sound {E : List Part} {base : State} (hE : [Part.power, Part.clock, Part.objects, Part.blobs, Part.held, Part.dict, Part.recorder, Part.pair, Part.alarms, Part.mram, Part.tap, Part.ctl, Part.ring, Part.srv, Part.saf, Part.net, Part.diag, Part.user, Part.wires, Part.free] ⊆ E) (s : State) (c : Client) (broadcast : Bool) (msg : List Byte) (op : Nat)
    (fine : Sound E base s) :
    Sound E base (State.odRow s c broadcast msg op) := by
  have k0 : [Part.power, Part.clock, Part.objects, Part.blobs, Part.held, Part.dict, Part.recorder, Part.pair, Part.alarms, Part.mram, Part.tap, Part.ctl, Part.ring, Part.srv, Part.saf, Part.net, Part.diag, Part.user, Part.wires, Part.free] ⊆ E := List.Subset.trans (by decide) hE
  unfold State.odRow
  (try dsimp only)
  repeat' (first
    | (with_reducible assumption)
    | ((with_reducible apply State.odArrive_sound k0))
    | (with_reducible refine sound_ite (fun _ => ?_) (fun _ => ?_))
    | (with_reducible refine sound_foldl (fun s x h => ?_) ?_)
    | (dsimp only)
    | (split))

theorem State.clientWrite_sound {E : List Part} {base : State} (hE : [Part.power, Part.clock, Part.objects, Part.blobs, Part.held, Part.dict, Part.recorder, Part.pair, Part.alarms, Part.mram, Part.tap, Part.ctl, Part.ring, Part.srv, Part.saf, Part.net, Part.diag, Part.user, Part.wires, Part.free] ⊆ E) (s : State) (c : Client) (via : OdVia) (i sub : Nat) (v : Val)
    (fine : Sound E base s) :
    Sound E base (State.clientWrite s c via i sub v) := by
  have k0 : [Part.power, Part.clock, Part.objects, Part.blobs, Part.held, Part.dict, Part.recorder, Part.pair, Part.alarms, Part.mram, Part.tap, Part.ctl, Part.ring, Part.srv, Part.saf, Part.net, Part.diag, Part.user, Part.wires, Part.free] ⊆ E := List.Subset.trans (by decide) hE
  unfold State.clientWrite
  repeat' (first
    | (with_reducible assumption)
    | ((with_reducible apply State.odArrive_sound k0))
    | ((with_reducible apply State.writeObject_sound k0))
    | (with_reducible refine sound_ite (fun _ => ?_) (fun _ => ?_)))

theorem State.clientNum_sound {E : List Part} {base : State} (hE : [Part.power, Part.clock, Part.objects, Part.blobs, Part.held, Part.dict, Part.recorder, Part.pair, Part.alarms, Part.mram, Part.tap, Part.ctl, Part.ring, Part.srv, Part.saf, Part.net, Part.diag, Part.user, Part.wires, Part.free] ⊆ E) (s : State) (c : Client) (via : OdVia) (i sub : Nat) (n : Int)
    (fine : Sound E base s) :
    Sound E base (State.clientNum s c via i sub n) := by
  have k0 : [Part.power, Part.clock, Part.objects, Part.blobs, Part.held, Part.dict, Part.recorder, Part.pair, Part.alarms, Part.mram, Part.tap, Part.ctl, Part.ring, Part.srv, Part.saf, Part.net, Part.diag, Part.user, Part.wires, Part.free] ⊆ E := List.Subset.trans (by decide) hE
  unfold State.clientNum
  repeat' (first
    | (with_reducible assumption)
    | ((with_reducible apply State.clientWrite_sound k0)))

theorem State.clientRead_sound {E : List Part} {base : State} (hE : [Part.power, Part.clock, Part.objects, Part.blobs, Part.held, Part.dict, Part.recorder, Part.pair, Part.alarms, Part.mram, Part.tap, Part.ctl, Part.ring, Part.srv, Part.saf, Part.net, Part.diag, Part.user, Part.wires, Part.free] ⊆ E) (s : State) (c : Client) (via : OdVia) (i sub : Nat)
    (fine : Sound E base s) :
    Sound E base (State.clientRead s c via i sub) := by
  have k0 : [Part.power, Part.clock, Part.objects, Part.blobs, Part.held, Part.dict, Part.recorder, Part.pair, Part.alarms, Part.mram, Part.tap, Part.ctl, Part.ring, Part.srv, Part.saf, Part.net, Part.diag, Part.user, Part.wires, Part.free] ⊆ E := List.Subset.trans (by decide) hE
  unfold State.clientRead
  repeat' (first
    | (with_reducible assumption)
    | ((with_reducible apply State.odArrive_sound k0))
    | ((with_reducible apply State.readAt_sound k0))
    | (with_reducible refine sound_ite (fun _ => ?_) (fun _ => ?_)))

theorem State.startStore_sound {E : List Part} {base : State} (hE : [Part.objects, Part.dict] ⊆ E) (s : State) (part : Nat) (factory : Bool)
    (fine : Sound E base s) :
    Sound E base (State.startStore s part factory) := by
  have h_dict : Part.dict ∈ E := hE (by decide)
  have k0 : [Part.objects] ⊆ E := List.Subset.trans (by decide) hE
  unfold State.startStore
  (try dsimp only)
  repeat' (first
    | (with_reducible assumption)
    | ((with_reducible apply State.setObj_sound k0))
    | (with_reducible refine sound_ite (fun _ => ?_) (fun _ => ?_))
    | (with_reducible refine sound_foldl (fun s x h => ?_) ?_)
    | (fail_if_no_progress with_reducible refine Sound.upd_dict h_dict _ ?_))

theorem State.putMail_sound {E : List Part} {base : State} (hE : [Part.user] ⊆ E) (s : State) (i : Nat) (b : List Byte)
    (fine : Sound E base s) :
    Sound E base (State.putMail s i b) := by
  have k0 : [Part.user] ⊆ E := List.Subset.trans (by decide) hE
  unfold State.putMail
  repeat' (first
    | (with_reducible assumption)
    | (exact fun p h => h)
    | (exact fun p h => storeBytes_wf _ _ _ h)
    | (exact fun _ _ => storeBytes_wf _ _ _ rfl)
    | ((with_reducible apply State.modUser_sound k0)))

theorem State.numApplied_sound {E : List Part} {base : State} (hE : [Part.clock, Part.objects, Part.blobs, Part.held, Part.recorder, Part.pair, Part.alarms, Part.mram, Part.tap, Part.gnss, Part.gsol, Part.intake, Part.align, Part.est, Part.trk, Part.ctl, Part.ring, Part.alc, Part.srv, Part.saf, Part.net, Part.panel, Part.diag, Part.user, Part.wires, Part.free] ⊆ E) (s : State) (i sub stamp session : Nat) (old new : Int)
    (fine : Sound E base s) :
    Sound E base (State.numApplied s i sub stamp session old new) := by
  have h_ring : Part.ring ∈ E := hE (by decide)
  have k0 : [Part.clock, Part.objects] ⊆ E := List.Subset.trans (by decide) hE
  have k1 : [Part.objects, Part.recorder, Part.alarms, Part.gnss] ⊆ E := List.Subset.trans (by decide) hE
  have k2 : [Part.objects, Part.gnss, Part.gsol] ⊆ E := List.Subset.trans (by decide) hE
  have k3 : [Part.objects, Part.recorder, Part.alarms, Part.intake] ⊆ E := List.Subset.trans (by decide) hE
  have k4 : [Part.objects, Part.recorder, Part.alarms, Part.align] ⊆ E := List.Subset.trans (by decide) hE
  have k5 : [Part.objects, Part.mram, Part.est] ⊆ E := List.Subset.trans (by decide) hE
  have k6 : [Part.objects, Part.recorder, Part.alarms, Part.trk, Part.free] ⊆ E := List.Subset.trans (by decide) hE
  have k7 : [Part.objects, Part.ctl] ⊆ E := List.Subset.trans (by decide) hE
  have k8 : [Part.objects, Part.blobs, Part.alc] ⊆ E := List.Subset.trans (by decide) hE
  have k9 : [Part.objects, Part.blobs] ⊆ E := List.Subset.trans (by decide) hE
  have k10 : [Part.objects, Part.recorder, Part.pair, Part.alarms, Part.saf, Part.diag, Part.wires, Part.free] ⊆ E := List.Subset.trans (by decide) hE
  have k11 : [Part.clock, Part.objects, Part.held, Part.recorder, Part.pair, Part.alarms, Part.tap, Part.ctl, Part.srv, Part.saf, Part.diag, Part.wires, Part.free] ⊆ E := List.Subset.trans (by decide) hE
  have k12 : [Part.objects, Part.recorder, Part.alarms, Part.net, Part.wires, Part.free] ⊆ E := List.Subset.trans (by decide) hE
  have k13 : [Part.objects, Part.recorder] ⊆ E := List.Subset.trans (by decide) hE
  have k14 : [Part.mram, Part.panel] ⊆ E := List.Subset.trans (by decide) hE
  have k15 : [Part.objects, Part.recorder, Part.alarms, Part.user] ⊆ E := List.Subset.trans (by decide) hE
  unfold State.numApplied
  (try dsimp only)
  repeat' (first
    | (with_reducible assumption)
    | ((with_reducible apply State.timeApplied_sound k0))
    | ((with_reducible apply State.gnssApplied_sound k1))
    | ((with_reducible apply State.solApplied_sound k2))
    | ((with_reducible apply State.intakeApplied_sound k3))
    | ((with_reducible apply State.alignApplied_sound k4))
    | ((with_reducible apply State.estApplied_sound k5))
    | ((with_reducible apply State.tracksApplied_sound k6))
    | ((with_reducible apply State.modesApplied_sound k7))
    | ((with_reducible apply State.capstanApplied_sound k8))
    | ((with_reducible apply State.servoApplied_sound k9))
    | ((with_reducible apply State.safetyApplied_sound k10))
    | ((with_reducible apply State.pairApplied_sound k11))
    | ((with_reducible apply State.safeNetApplied_sound k12))
    | ((with_reducible apply State.recorderApplied_sound k13))
    | ((with_reducible apply State.panelApplied_sound k14))
    | ((with_reducible apply State.userApplied_sound k15))
    | (with_reducible refine sound_ite (fun _ => ?_) (fun _ => ?_))
    | (with_reducible refine sound_foldl (fun s x h => ?_) ?_)
    | (fail_if_no_progress with_reducible refine Sound.upd_ring h_ring _ ?_))

theorem State.applyWrite_sound {E : List Part} {base : State} (hE : [Part.clock, Part.objects, Part.blobs, Part.held, Part.dict, Part.recorder, Part.pair, Part.alarms, Part.mram, Part.tap, Part.gnss, Part.gsol, Part.intake, Part.align, Part.est, Part.trk, Part.ctl, Part.ring, Part.alc, Part.srv, Part.saf, Part.net, Part.panel, Part.diag, Part.user, Part.wires, Part.free] ⊆ E) (s : State) (w : HeldWrite)
    (fine : Sound E base s) :
    Sound E base (State.applyWrite s w) := by
  have h_mram : Part.mram ∈ E := hE (by decide)
  have k0 : [Part.user] ⊆ E := List.Subset.trans (by decide) hE
  have k1 : [Part.objects, Part.dict, Part.recorder] ⊆ E := List.Subset.trans (by decide) hE
  have k2 : [Part.blobs] ⊆ E := List.Subset.trans (by decide) hE
  have k3 : [Part.objects, Part.recorder, Part.alarms, Part.gnss] ⊆ E := List.Subset.trans (by decide) hE
  have k4 : [Part.objects, Part.recorder, Part.alarms, Part.intake] ⊆ E := List.Subset.trans (by decide) hE
  have k5 : [Part.objects, Part.mram, Part.est] ⊆ E := List.Subset.trans (by decide) hE
  have k6 : [Part.objects, Part.dict] ⊆ E := List.Subset.trans (by decide) hE
  have k7 : [Part.objects] ⊆ E := List.Subset.trans (by decide) hE
  have k8 : [Part.clock, Part.objects, Part.blobs, Part.held, Part.recorder, Part.pair, Part.alarms, Part.mram, Part.tap, Part.gnss, Part.gsol, Part.intake, Part.align, Part.est, Part.trk, Part.ctl, Part.ring, Part.alc, Part.srv, Part.saf, Part.net, Part.panel, Part.diag, Part.user, Part.wires, Part.free] ⊆ E := List.Subset.trans (by decide) hE
  unfold State.applyWrite
  (try dsimp only)
  repeat' (first
    | (with_reducible assumption)
    | ((with_reducible apply State.putMail_sound k0))
    | ((with_reducible apply State.endSessions_sound k1))
    | ((with_reducible apply State.setBlob_sound k2))
    | ((with_reducible apply State.gnssApplied_sound k3))
    | ((with_reducible apply State.intakeApplied_sound k4))
    | ((with_reducible apply State.estApplied_sound k5))
    | ((with_reducible apply State.startStore_sound k6))
    | ((with_reducible apply State.setObj_sound k7))
    | ((with_reducible apply State.numApplied_sound k8))
    | (with_reducible refine sound_ite (fun _ => ?_) (fun _ => ?_))
    | (with_reducible refine sound_foldl (fun s x h => ?_) ?_)
    | (fail_if_no_progress with_reducible refine Sound.upd_mram h_mram _ ?_)
    | (dsimp only)
    | (split))

theorem State.openGate_sound {E : List Part} {base : State} (hE : [Part.clock, Part.objects, Part.blobs, Part.held, Part.dict, Part.recorder, Part.pair, Part.alarms, Part.mram, Part.tap, Part.gnss, Part.gsol, Part.intake, Part.align, Part.est, Part.trk, Part.ctl, Part.ring, Part.alc, Part.srv, Part.saf, Part.net, Part.panel, Part.diag, Part.user, Part.wires, Part.free] ⊆ E) (s : State) (l : List HeldWrite)
    (fine : Sound E base s) :
    Sound E base (State.openGate s l) := by
  have k0 : [Part.clock, Part.objects, Part.blobs, Part.held, Part.dict, Part.recorder, Part.pair, Part.alarms, Part.mram, Part.tap, Part.gnss, Part.gsol, Part.intake, Part.align, Part.est, Part.trk, Part.ctl, Part.ring, Part.alc, Part.srv, Part.saf, Part.net, Part.panel, Part.diag, Part.user, Part.wires, Part.free] ⊆ E := List.Subset.trans (by decide) hE
  have k1 : [Part.objects, Part.blobs, Part.recorder, Part.alarms, Part.user] ⊆ E := List.Subset.trans (by decide) hE
  have k2 : [Part.objects, Part.recorder, Part.alarms, Part.mram, Part.est] ⊆ E := List.Subset.trans (by decide) hE
  have k3 : [Part.objects, Part.est, Part.ctl] ⊆ E := List.Subset.trans (by decide) hE
  have k4 : [Part.objects, Part.recorder, Part.alarms, Part.ctl] ⊆ E := List.Subset.trans (by decide) hE
  have k5 : [Part.objects, Part.recorder, Part.alarms, Part.srv] ⊆ E := List.Subset.trans (by decide) hE
  unfold State.openGate
  (try dsimp only)
  repeat' (first
    | (with_reducible assumption)
    | ((with_reducible apply State.applyWrite_sound k0))
    | ((with_reducible apply State.loadDueUser_sound k1))
    | ((with_reducible apply State.commitCalibration_sound k2))
    | ((with_reducible apply State.reorigin_sound k3))
    | ((with_reducible apply State.swapBanks_sound k4))
    | ((with_reducible apply State.swapServo_sound k5))
    | (with_reducible refine sound_ite (fun _ => ?_) (fun _ => ?_))
    | (with_reducible refine sound_foldl (fun s x h => ?_) ?_))

theorem State.sendSet_sound {E : List Part} {base : State} (hE : [Part.objects, Part.pair, Part.diag, Part.wires, Part.free] ⊆ E) (s : State) (writes : List HeldWrite)
    (fine : Sound E base s) :
    Sound E base (State.sendSet s writes) := by
  have h_pair : Part.pair ∈ E := hE (by decide)
  have k0 : [Part.objects, Part.pair, Part.diag, Part.wires, Part.free] ⊆ E := List.Subset.trans (by decide) hE
  unfold State.sendSet
  (try dsimp only)
  repeat' (first
    | (with_reducible assumption)
    | ((with_reducible apply State.twSend_sound k0))
    | (with_reducible refine sound_ite (fun _ => ?_) (fun _ => ?_))
    | (with_reducible refine sound_foldl (fun s x h => ?_) ?_)
    | (fail_if_no_progress with_reducible refine Sound.upd_pair h_pair _ ?_ rfl))

theorem State.sendPhase_sound {E : List Part} {base : State} (hE : [Part.objects, Part.pair, Part.diag, Part.wires, Part.free] ⊆ E) (s : State) (writes : List HeldWrite)
    (fine : Sound E base s) :
    Sound E base (State.sendPhase s writes) := by
  have h_pair : Part.pair ∈ E := hE (by decide)
  have k0 : [Part.objects, Part.pair, Part.diag, Part.wires, Part.free] ⊆ E := List.Subset.trans (by decide) hE
  unfold State.sendPhase
  (try dsimp only)
  repeat' (first
    | (with_reducible assumption)
    | ((with_reducible apply State.twSend_sound k0))
    | (with_reducible refine sound_ite (fun _ => ?_) (fun _ => ?_))
    | (with_reducible refine sound_foldl (fun s x h => ?_) ?_)
    | (fail_if_no_progress with_reducible refine Sound.upd_pair h_pair _ ?_ rfl))

theorem State.takeThrust_sound {E : List Part} {base : State} (hE : [Part.est] ⊆ E) (s : State)
    (fine : Sound E base s) :
    Sound E base (State.takeThrust s) := by
  have h_est : Part.est ∈ E := hE (by decide)
  unfold State.takeThrust
  (try dsimp only)
  repeat' (first
    | (with_reducible assumption)
    | (with_reducible refine sound_ite (fun _ => ?_) (fun _ => ?_))
    | (with_reducible refine sound_foldl (fun s x h => ?_) ?_)
    | (fail_if_no_progress with_reducible refine Sound.upd_est h_est _ ?_))

theorem State.takeLevels_sound {E : List Part} {base : State} (hE : [Part.objects, Part.recorder, Part.alarms, Part.ring, Part.alc] ⊆ E) (s : State) (cut : Option SetCut)
    (fine : Sound E base s) :
    Sound E base (State.takeLevels s cut) := by
  have h_ring : Part.ring ∈ E := hE (by decide)
  have h_alc : Part.alc ∈ E := hE (by decide)
  have k0 : [Part.ring] ⊆ E := List.Subset.trans (by decide) hE
  have k1 : [Part.objects, Part.recorder, Part.alarms, Part.alc] ⊆ E := List.Subset.trans (by decide) hE
  unfold State.takeLevels
  (try dsimp only)
  repeat' (first
    | (with_reducible assumption)
    | ((with_reducible apply State.takeFeedback_sound k0))
    | ((with_reducible apply State.busBoundary_sound k1))
    | (with_reducible refine sound_ite (fun _ => ?_) (fun _ => ?_))
    | (with_reducible refine sound_foldl (fun s x h => ?_) ?_)
    | (fail_if_no_progress with_reducible refine Sound.upd_alc h_alc _ ?_)
    | (fail_if_no_progress with_reducible refine Sound.upd_ring_alc h_ring h_alc _ ?_)
    | (dsimp only)
    | (split))

theorem State.cycleWork_sound {E : List Part} {base : State} (hE : [Part.power, Part.clock, Part.objects, Part.blobs, Part.held, Part.dict, Part.recorder, Part.pair, Part.alarms, Part.mram, Part.tap, Part.gnss, Part.gsol, Part.intake, Part.align, Part.est, Part.trk, Part.ctl, Part.ring, Part.alc, Part.srv, Part.saf, Part.net, Part.panel, Part.diag, Part.user, Part.wires, Part.free] ⊆ E) (s : State) (writes : List HeldWrite) (cut : Option SetCut)
    (fine : Sound E base s) :
    Sound E base (State.cycleWork s writes cut) := by
  have h_ctl : Part.ctl ∈ E := hE (by decide)
  have k0 : [Part.power, Part.objects, Part.ctl] ⊆ E := List.Subset.trans (by decide) hE
  have k1 : [Part.objects, Part.user] ⊆ E := List.Subset.trans (by decide) hE
  have k2 : [Part.clock, Part.objects, Part.blobs, Part.held, Part.dict, Part.recorder, Part.pair, Part.alarms, Part.mram, Part.tap, Part.gnss, Part.gsol, Part.intake, Part.align, Part.est, Part.trk, Part.ctl, Part.ring, Part.alc, Part.srv, Part.saf, Part.net, Part.panel, Part.diag, Part.user, Part.wires, Part.free] ⊆ E := List.Subset.trans (by decide) hE
  have k3 : [Part.mram] ⊆ E := List.Subset.trans (by decide) hE
  have k4 : [Part.objects] ⊆ E := List.Subset.trans (by decide) hE
  have k5 : [Part.objects, Part.recorder, Part.alarms, Part.ring, Part.alc] ⊆ E := List.Subset.trans (by decide) hE
  have k6 : [Part.objects, Part.recorder, Part.alarms, Part.align] ⊆ E := List.Subset.trans (by decide) hE
  have k7 : [Part.est] ⊆ E := List.Subset.trans (by decide) hE
  have k8 : [Part.objects, Part.recorder, Part.alarms, Part.gsol] ⊆ E := List.Subset.trans (by decide) hE
  have k9 : [Part.objects, Part.recorder, Part.pair, Part.alarms, Part.saf, Part.diag, Part.wires, Part.free] ⊆ E := List.Subset.trans (by decide) hE
  have k10 : [Part.objects, Part.recorder, Part.alarms, Part.align, Part.est] ⊆ E := List.Subset.trans (by decide) hE
  have k11 : [Part.objects, Part.recorder, Part.alarms] ⊆ E := List.Subset.trans (by decide) hE
  have k12 : [Part.pair] ⊆ E := List.Subset.trans (by decide) hE
  unfold State.cycleWork
  (try dsimp only)
  repeat' (first
    | (with_reducible assumption)
    | ((with_reducible apply State.adoptResume_sound k0))
    | ((with_reducible apply State.takeUser_sound k1))
    | ((with_reducible apply State.openGate_sound k2))
    | ((with_reducible apply State.saveMode_sound k3))
    | ((with_reducible apply State.advise_sound k4))
    | ((with_reducible apply State.takeLevels_sound k5))
    | ((with_reducible apply State.freeze_sound k6))
    | ((with_reducible apply State.takeThrust_sound k7))
    | ((with_reducible apply State.twinCompare_sound k8))
    | ((with_reducible apply State.guardCycle_sound k9))
    | ((with_reducible apply State.estimate_sound k10))
    | ((with_reducible apply State.joystick_sound k11))
    | ((with_reducible apply State.prunePool_sound k12))
    | (with_reducible refine sound_ite (fun _ => ?_) (fun _ => ?_))
    | (with_reducible refine sound_foldl (fun s x h => ?_) ?_)
    | (fail_if_no_progress with_reducible refine Sound.upd_ctl h_ctl _ ?_)
    | (dsimp only)
    | (split))

theorem State.periodWork_sound {E : List Part} {base : State} (hE : [Part.clock, Part.objects, Part.blobs, Part.held, Part.dict, Part.recorder, Part.pair, Part.alarms, Part.mram, Part.tap, Part.gnss, Part.gsol, Part.intake, Part.align, Part.est, Part.trk, Part.ctl, Part.ring, Part.alc, Part.srv, Part.saf, Part.net, Part.panel, Part.diag, Part.user, Part.wires, Part.free] ⊆ E) (s : State) (writes : List HeldWrite) (cut : Option SetCut)
    (fine : Sound E base s) :
    Sound E base (State.periodWork s writes cut) := by
  have h_srv : Part.srv ∈ E := hE (by decide)
  have k0 : [Part.clock, Part.objects, Part.blobs, Part.held, Part.dict, Part.recorder, Part.pair, Part.alarms, Part.mram, Part.tap, Part.gnss, Part.gsol, Part.intake, Part.align, Part.est, Part.trk, Part.ctl, Part.ring, Part.alc, Part.srv, Part.saf, Part.net, Part.panel, Part.diag, Part.user, Part.wires, Part.free] ⊆ E := List.Subset.trans (by decide) hE
  have k1 : [Part.objects, Part.user] ⊆ E := List.Subset.trans (by decide) hE
  have k2 : [Part.objects, Part.recorder, Part.alarms, Part.srv] ⊆ E := List.Subset.trans (by decide) hE
  have k3 : [Part.objects, Part.recorder, Part.alarms, Part.ctl, Part.srv, Part.saf, Part.wires] ⊆ E := List.Subset.trans (by decide) hE
  have k4 : [Part.objects, Part.recorder, Part.pair, Part.alarms, Part.saf, Part.diag, Part.wires, Part.free] ⊆ E := List.Subset.trans (by decide) hE
  have k5 : [Part.objects, Part.recorder, Part.pair, Part.alarms, Part.diag] ⊆ E := List.Subset.trans (by decide) hE
  have k6 : [Part.pair] ⊆ E := List.Subset.trans (by decide) hE
  unfold State.periodWork
  dsimp only
  apply State.prunePool_sound k6
  apply State.formDigest_sound k5
  apply State.showDemands_sound k4
  apply State.sfcEval_sound k3
  apply State.sfcEval_sound k3
  apply State.servoPeriod_sound k2
  have h1 : Sound E base { s with srv := { s.srv with worked := true } } := Sound.upd_srv h_srv s fine
  have h0 := State.openGate_sound k0 _ writes h1
  split
  · exact Sound.upd_srv h_srv _ (State.takeUser_sound k1 _ _ h0)
  · exact h0

theorem State.ownWork_sound {E : List Part} {base : State} (hE : [Part.power, Part.clock, Part.objects, Part.blobs, Part.held, Part.dict, Part.recorder, Part.pair, Part.alarms, Part.mram, Part.tap, Part.gnss, Part.gsol, Part.intake, Part.align, Part.est, Part.trk, Part.ctl, Part.ring, Part.alc, Part.srv, Part.saf, Part.net, Part.panel, Part.diag, Part.user, Part.wires, Part.free] ⊆ E) (s : State)
    (fine : Sound E base s) :
    Sound E base (State.ownWork s) := by
  have h_held : Part.held ∈ E := hE (by decide)
  have k0 : [Part.power, Part.clock, Part.objects, Part.blobs, Part.held, Part.dict, Part.recorder, Part.pair, Part.alarms, Part.mram, Part.tap, Part.gnss, Part.gsol, Part.intake, Part.align, Part.est, Part.trk, Part.ctl, Part.ring, Part.alc, Part.srv, Part.saf, Part.net, Part.panel, Part.diag, Part.user, Part.wires, Part.free] ⊆ E := List.Subset.trans (by decide) hE
  have k1 : [Part.clock, Part.objects, Part.blobs, Part.held, Part.dict, Part.recorder, Part.pair, Part.alarms, Part.mram, Part.tap, Part.gnss, Part.gsol, Part.intake, Part.align, Part.est, Part.trk, Part.ctl, Part.ring, Part.alc, Part.srv, Part.saf, Part.net, Part.panel, Part.diag, Part.user, Part.wires, Part.free] ⊆ E := List.Subset.trans (by decide) hE
  unfold State.ownWork
  (try dsimp only)
  repeat' (first
    | (with_reducible assumption)
    | ((with_reducible apply State.cycleWork_sound k0))
    | ((with_reducible apply State.periodWork_sound k1))
    | (with_reducible refine sound_ite (fun _ => ?_) (fun _ => ?_))
    | (with_reducible refine sound_foldl (fun s x h => ?_) ?_)
    | (fail_if_no_progress with_reducible refine Sound.upd_held h_held _ ?_))

theorem State.setWork_sound {E : List Part} {base : State} (hE : [Part.power, Part.clock, Part.objects, Part.blobs, Part.held, Part.dict, Part.recorder, Part.pair, Part.alarms, Part.mram, Part.tap, Part.gnss, Part.gsol, Part.intake, Part.align, Part.est, Part.trk, Part.ctl, Part.ring, Part.alc, Part.srv, Part.saf, Part.net, Part.panel, Part.diag, Part.user, Part.wires, Part.free] ⊆ E) (s : State) (c : SetCut)
    (fine : Sound E base s) :
    Sound E base (State.setWork s c) := by
  have h_held : Part.held ∈ E := hE (by decide)
  have h_pair : Part.pair ∈ E := hE (by decide)
  have k0 : [Part.objects, Part.ctl] ⊆ E := List.Subset.trans (by decide) hE
  have k1 : [Part.power, Part.clock, Part.objects, Part.blobs, Part.held, Part.dict, Part.recorder, Part.pair, Part.alarms, Part.mram, Part.tap, Part.gnss, Part.gsol, Part.intake, Part.align, Part.est, Part.trk, Part.ctl, Part.ring, Part.alc, Part.srv, Part.saf, Part.net, Part.panel, Part.diag, Part.user, Part.wires, Part.free] ⊆ E := List.Subset.trans (by decide) hE
  have k2 : [Part.clock, Part.objects, Part.blobs, Part.held, Part.dict, Part.recorder, Part.pair, Part.alarms, Part.mram, Part.tap, Part.gnss, Part.gsol, Part.intake, Part.align, Part.est, Part.trk, Part.ctl, Part.ring, Part.alc, Part.srv, Part.saf, Part.net, Part.panel, Part.diag, Part.user, Part.wires, Part.free] ⊆ E := List.Subset.trans (by decide) hE
  unfold State.setWork
  (try dsimp only)
  repeat' (first
    | (with_reducible assumption)
    | ((with_reducible apply State.candidate_sound k0))
    | ((with_reducible apply State.cycleWork_sound k1))
    | ((with_reducible apply State.periodWork_sound k2))
    | (with_reducible refine sound_ite (fun _ => ?_) (fun _ => ?_))
    | (with_reducible refine sound_foldl (fun s x h => ?_) ?_)
    | (fail_if_no_progress with_reducible refine Sound.upd_held_pair h_held h_pair _ ?_ rfl))

theorem State.catchWork_sound {E : List Part} {base : State} (hE : [Part.power, Part.clock, Part.objects, Part.blobs, Part.held, Part.dict, Part.recorder, Part.pair, Part.alarms, Part.mram, Part.tap, Part.gnss, Part.gsol, Part.intake, Part.align, Part.est, Part.trk, Part.ctl, Part.ring, Part.alc, Part.srv, Part.saf, Part.net, Part.panel, Part.diag, Part.user, Part.wires, Part.free] ⊆ E) (s : State)
    (fine : Sound E base s) :
    Sound E base (State.catchWork s) := by
  have k0 : [Part.objects, Part.ctl] ⊆ E := List.Subset.trans (by decide) hE
  have k1 : [Part.power, Part.clock, Part.objects, Part.blobs, Part.held, Part.dict, Part.recorder, Part.pair, Part.alarms, Part.mram, Part.tap, Part.gnss, Part.gsol, Part.intake, Part.align, Part.est, Part.trk, Part.ctl, Part.ring, Part.alc, Part.srv, Part.saf, Part.net, Part.panel, Part.diag, Part.user, Part.wires, Part.free] ⊆ E := List.Subset.trans (by decide) hE
  unfold State.catchWork
  repeat' (first
    | (with_reducible assumption)
    | ((with_reducible apply State.candidate_sound k0))
    | ((with_reducible apply State.setWork_sound k1))
    | ((with_reducible apply State.ownWork_sound k1))
    | (with_reducible refine sound_ite (fun _ => ?_) (fun _ => ?_))
    | (with_reducible refine sound_foldl (fun s x h => ?_) ?_)
    | (dsimp only)
    | (split))

theorem State.boundaryByRole_sound {E : List Part} {base : State} (hE : [Part.power, Part.clock, Part.objects, Part.blobs, Part.held, Part.dict, Part.recorder, Part.pair, Part.alarms, Part.mram, Part.tap, Part.gnss, Part.gsol, Part.intake, Part.align, Part.est, Part.trk, Part.ctl, Part.ring, Part.alc, Part.srv, Part.saf, Part.net, Part.panel, Part.diag, Part.user, Part.wires, Part.free] ⊆ E) (s : State)
    (fine : Sound E base s) :
    Sound E base (State.boundaryByRole s) := by
  have h_held : Part.held ∈ E := hE (by decide)
  have h_pair : Part.pair ∈ E := hE (by decide)
  have k0 : [Part.power, Part.clock, Part.objects, Part.blobs, Part.held, Part.dict, Part.recorder, Part.pair, Part.alarms, Part.mram, Part.tap, Part.gnss, Part.gsol, Part.intake, Part.align, Part.est, Part.trk, Part.ctl, Part.ring, Part.alc, Part.srv, Part.saf, Part.net, Part.panel, Part.diag, Part.user, Part.wires, Part.free] ⊆ E := List.Subset.trans (by decide) hE
  have k1 : [Part.objects, Part.recorder, Part.pair, Part.alarms] ⊆ E := List.Subset.trans (by decide) hE
  have k2 : [Part.objects, Part.pair, Part.diag, Part.wires, Part.free] ⊆ E := List.Subset.trans (by decide) hE
  have k3 : [Part.clock, Part.objects, Part.blobs, Part.held, Part.dict, Part.recorder, Part.pair, Part.alarms, Part.mram, Part.tap, Part.gnss, Part.gsol, Part.intake, Part.align, Part.est, Part.trk, Part.ctl, Part.ring, Part.alc, Part.srv, Part.saf, Part.net, Part.panel, Part.diag, Part.user, Part.wires, Part.free] ⊆ E := List.Subset.trans (by decide) hE
  have k4 : [Part.objects, Part.ctl] ⊆ E := List.Subset.trans (by decide) hE
  unfold State.boundaryByRole
  (try dsimp only)
  repeat' (first
    | (with_reducible assumption)
    | ((with_reducible apply State.ownWork_sound k0))
    | ((with_reducible apply State.placeDrill_sound k1))
    | ((with_reducible apply State.sendPhase_sound k2))
    | ((with_reducible apply State.sendSet_sound k2))
    | ((with_reducible apply State.cycleWork_sound k0))
    | ((with_reducible apply State.periodWork_sound k3))
    | ((with_reducible apply State.candidate_sound k4))
    | ((with_reducible apply State.openGate_sound k3))
    | (with_reducible refine sound_ite (fun _ => ?_) (fun _ => ?_))
    | (with_reducible refine sound_foldl (fun s x h => ?_) ?_)
    | (fail_if_no_progress with_reducible refine Sound.upd_pair h_pair _ ?_ rfl)
    | (fail_if_no_progress with_reducible refine Sound.upd_held h_held _ ?_)
    | (fail_if_no_progress with_reducible refine Sound.upd_held_pair h_held h_pair _ ?_ rfl)
    | (dsimp only)
    | (split))

theorem State.opens_sound {E : List Part} {base : State} (hE : [Part.objects, Part.pair, Part.ctl, Part.diag] ⊆ E) (s : State)
    (fine : Sound E base s) :
    Sound E base (State.opens s) := by
  have h_pair : Part.pair ∈ E := hE (by decide)
  have h_diag : Part.diag ∈ E := hE (by decide)
  have k0 : [Part.objects, Part.ctl] ⊆ E := List.Subset.trans (by decide) hE
  unfold State.opens
  (try dsimp only)
  repeat' (first
    | (with_reducible assumption)
    | ((with_reducible apply State.candidate_sound k0))
    | (with_reducible refine sound_ite (fun _ => ?_) (fun _ => ?_))
    | (with_reducible refine sound_foldl (fun s x h => ?_) ?_)
    | (fail_if_no_progress with_reducible refine Sound.upd_pair_diagn h_pair h_diag _ ?_ rfl))

theorem State.cycleOpens_sound {E : List Part} {base : State} (hE : [Part.power, Part.clock, Part.objects, Part.blobs, Part.held, Part.dict, Part.recorder, Part.pair, Part.alarms, Part.mram, Part.tap, Part.gnss, Part.gsol, Part.intake, Part.align, Part.est, Part.trk, Part.ctl, Part.ring, Part.alc, Part.srv, Part.saf, Part.net, Part.panel, Part.diag, Part.user, Part.wires, Part.free] ⊆ E) (s : State) (t0 : Int)
    (fine : Sound E base s) :
    Sound E base (State.cycleOpens s t0) := by
  have h_ctl : Part.ctl ∈ E := hE (by decide)
  have h_ring : Part.ring ∈ E := hE (by decide)
  have k0 : [Part.power, Part.clock, Part.objects, Part.blobs, Part.held, Part.dict, Part.recorder, Part.pair, Part.alarms, Part.mram, Part.tap, Part.gnss, Part.gsol, Part.intake, Part.align, Part.est, Part.trk, Part.ctl, Part.ring, Part.alc, Part.srv, Part.saf, Part.net, Part.panel, Part.diag, Part.user, Part.wires, Part.free] ⊆ E := List.Subset.trans (by decide) hE
  have k1 : [Part.objects, Part.recorder] ⊆ E := List.Subset.trans (by decide) hE
  have k2 : [Part.objects] ⊆ E := List.Subset.trans (by decide) hE
  have k3 : [Part.objects, Part.pair, Part.ctl, Part.diag] ⊆ E := List.Subset.trans (by decide) hE
  have k4 : [Part.clock, Part.objects, Part.held, Part.recorder, Part.pair, Part.alarms, Part.tap, Part.ctl, Part.ring, Part.srv, Part.saf, Part.diag, Part.wires, Part.free] ⊆ E := List.Subset.trans (by decide) hE
  have k5 : [Part.power, Part.objects, Part.recorder, Part.alarms, Part.ctl] ⊆ E := List.Subset.trans (by decide) hE
  have k6 : [Part.mram] ⊆ E := List.Subset.trans (by decide) hE
  unfold State.cycleOpens
  (try dsimp only)
  repeat' (first
    | (with_reducible assumption)
    | ((with_reducible apply State.catchWork_sound k0))
    | ((with_reducible apply State.statusRecord_sound k1))
    | ((with_reducible apply State.setObj_sound k2))
    | ((with_reducible apply State.opens_sound k3))
    | ((with_reducible apply State.swapRoles_sound k4))
    | ((with_reducible apply State.judgeResume_sound k5))
    | ((with_reducible apply State.boundaryByRole_sound k0))
    | ((with_reducible apply State.saveMode_sound k6))
    | (with_reducible refine sound_ite (fun _ => ?_) (fun _ => ?_))
    | (with_reducible refine sound_foldl (fun s x h => ?_) ?_)
    | (fail_if_no_progress with_reducible refine Sound.upd_ctl_ring h_ctl h_ring _ ?_))

theorem State.periodOpens_sound {E : List Part} {base : State} (hE : [Part.power, Part.clock, Part.objects, Part.blobs, Part.held, Part.dict, Part.recorder, Part.pair, Part.alarms, Part.mram, Part.tap, Part.gnss, Part.gsol, Part.intake, Part.align, Part.est, Part.trk, Part.ctl, Part.ring, Part.alc, Part.srv, Part.saf, Part.net, Part.panel, Part.diag, Part.user, Part.wires, Part.free] ⊆ E) (s : State) (at' : Int)
    (fine : Sound E base s) :
    Sound E base (State.periodOpens s at') := by
  have h_srv : Part.srv ∈ E := hE (by decide)
  have k0 : [Part.power, Part.clock, Part.objects, Part.blobs, Part.held, Part.dict, Part.recorder, Part.pair, Part.alarms, Part.mram, Part.tap, Part.gnss, Part.gsol, Part.intake, Part.align, Part.est, Part.trk, Part.ctl, Part.ring, Part.alc, Part.srv, Part.saf, Part.net, Part.panel, Part.diag, Part.user, Part.wires, Part.free] ⊆ E := List.Subset.trans (by decide) hE
  have k1 : [Part.objects, Part.recorder] ⊆ E := List.Subset.trans (by decide) hE
  have k2 : [Part.objects] ⊆ E := List.Subset.trans (by decide) hE
  have k3 : [Part.objects, Part.pair, Part.ctl, Part.diag] ⊆ E := List.Subset.trans (by decide) hE
  have k4 : [Part.intake, Part.srv] ⊆ E := List.Subset.trans (by decide) hE
  have k5 : [Part.clock, Part.objects, Part.held, Part.recorder, Part.pair, Part.alarms, Part.tap, Part.ctl, Part.ring, Part.srv, Part.saf, Part.diag, Part.wires, Part.free] ⊆ E := List.Subset.trans (by decide) hE
  unfold State.periodOpens
  (try dsimp only)
  repeat' (first
    | (with_reducible assumption)
    | ((with_reducible apply State.catchWork_sound k0))
    | ((with_reducible apply State.statusRecord_sound k1))
    | ((with_reducible apply State.setObj_sound k2))
    | ((with_reducible apply State.opens_sound k3))
    | ((with_reducible apply State.latchSample_sound k4))
    | ((with_reducible apply State.swapRoles_sound k5))
    | ((with_reducible apply State.boundaryByRole_sound k0))
    | (with_reducible refine sound_ite (fun _ => ?_) (fun _ => ?_))
    | (with_reducible refine sound_foldl (fun s x h => ?_) ?_)
    | (fail_if_no_progress with_reducible refine Sound.upd_srv h_srv _ ?_))

theorem State.catchUpOne_sound {E : List Part} {base : State} (hE : [Part.power, Part.clock, Part.objects, Part.blobs, Part.held, Part.dict, Part.recorder, Part.pair, Part.alarms, Part.mram, Part.tap, Part.gnss, Part.gsol, Part.intake, Part.align, Part.est, Part.trk, Part.ctl, Part.ring, Part.alc, Part.srv, Part.saf, Part.net, Part.panel, Part.diag, Part.user, Part.wires, Part.free] ⊆ E) (s : State) (c : SetCut)
    (fine : Sound E base s) :
    Sound E base (State.catchUpOne s c) := by
  have h_ctl : Part.ctl ∈ E := hE (by decide)
  have h_srv : Part.srv ∈ E := hE (by decide)
  have k0 : [Part.objects] ⊆ E := List.Subset.trans (by decide) hE
  have k1 : [Part.objects, Part.recorder, Part.alarms] ⊆ E := List.Subset.trans (by decide) hE
  have k2 : [Part.power, Part.clock, Part.objects, Part.blobs, Part.held, Part.dict, Part.recorder, Part.pair, Part.alarms, Part.mram, Part.tap, Part.gnss, Part.gsol, Part.intake, Part.align, Part.est, Part.trk, Part.ctl, Part.ring, Part.alc, Part.srv, Part.saf, Part.net, Part.panel, Part.diag, Part.user, Part.wires, Part.free] ⊆ E := List.Subset.trans (by decide) hE
  have k3 : [Part.power, Part.objects, Part.recorder, Part.alarms, Part.ctl] ⊆ E := List.Subset.trans (by decide) hE
  have k4 : [Part.objects, Part.recorder, Part.alarms, Part.est, Part.ctl] ⊆ E := List.Subset.trans (by decide) hE
  have k5 : [Part.objects, Part.recorder, Part.alarms, Part.align, Part.ctl, Part.ring, Part.alc] ⊆ E := List.Subset.trans (by decide) hE
  unfold State.catchUpOne
  (try dsimp only)
  repeat' (first
    | (with_reducible assumption)
    | ((with_reducible apply State.setObj_sound k0))
    | ((with_reducible apply State.count_sound k1))
    | ((with_reducible apply State.setWork_sound k2))
    | ((with_reducible apply State.supervise_sound k3))
    | ((with_reducible apply State.engine_sound k4))
    | ((with_reducible apply State.allocate_sound k5))
    | (with_reducible refine sound_ite (fun _ => ?_) (fun _ => ?_))
    | (with_reducible refine sound_foldl (fun s x h => ?_) ?_)
    | (fail_if_no_progress with_reducible refine Sound.upd_ctl h_ctl _ ?_)
    | (fail_if_no_progress with_reducible refine Sound.upd_srv h_srv _ ?_))

theorem State.slipBlock_sound {E : List Part} {base : State} (hE : [Part.power, Part.clock, Part.objects, Part.blobs, Part.held, Part.dict, Part.recorder, Part.pair, Part.alarms, Part.mram, Part.tap, Part.gnss, Part.gsol, Part.intake, Part.align, Part.est, Part.trk, Part.ctl, Part.ring, Part.alc, Part.srv, Part.saf, Part.net, Part.panel, Part.diag, Part.user, Part.wires, Part.free] ⊆ E) (s : State) (p : SlipBlock)
    (fine : Sound E base s) :
    Sound E base (State.slipBlock s p) := by
  have h_objects : Part.objects ∈ E := hE (by decide)
  have h_blobs : Part.blobs ∈ E := hE (by decide)
  have h_pair : Part.pair ∈ E := hE (by decide)
  have h_mram : Part.mram ∈ E := hE (by decide)
  have k0 : [Part.clock, Part.gsol, Part.ctl] ⊆ E := List.Subset.trans (by decide) hE
  have k1 : [Part.objects] ⊆ E := List.Subset.trans (by decide) hE
  have k2 : [Part.objects, Part.align, Part.est, Part.trk, Part.ctl, Part.alc, Part.srv, Part.user] ⊆ E := List.Subset.trans (by decide) hE
  have k3 : [Part.power, Part.clock, Part.objects, Part.blobs, Part.held, Part.dict, Part.recorder, Part.pair, Part.alarms, Part.mram, Part.tap, Part.gnss, Part.gsol, Part.intake, Part.align, Part.est, Part.trk, Part.ctl, Part.ring, Part.alc, Part.srv, Part.saf, Part.net, Part.panel, Part.diag, Part.user, Part.wires, Part.free] ⊆ E := List.Subset.trans (by decide) hE
  unfold State.slipBlock
  split
  · apply State.setObj_sound (List.Subset.trans (by decide) hE)
    apply State.settle_sound (List.Subset.trans (by decide) hE)
    exact ⟨putKeys_ok _ _ (storeWf_filter _ _ _ fine.od'), putBlobs_ok _ _ (storeWf_filter _ _ _ fine.blobs'), fine.ident', fine.tap', fine.mem', fine.power, fine.ident, fine.clock, .inr h_objects, .inr h_blobs, fine.held, fine.dict, fine.recorder, fine.pair, fine.alarms, fine.saturated, .inr h_mram, fine.tap, fine.gnss, fine.gsol, fine.intake, fine.align, fine.est, fine.trk, fine.ctl, fine.ring, fine.alc, fine.srv, fine.saf, fine.net, fine.panel, fine.diagn, fine.user, fine.out, fine.freeCount⟩
  · exact State.setObj_sound (List.Subset.trans (by decide) hE) _ _ _ _ (State.adopt_sound (List.Subset.trans (by decide) hE) _ _ fine)
  · exact State.setObj_sound (List.Subset.trans (by decide) hE) _ _ _ _ (sound_foldl (fun s c h => State.catchUpOne_sound (List.Subset.trans (by decide) hE) s c h) fine)
  · exact Sound.upd_pair h_pair _ (State.setObj_sound (List.Subset.trans (by decide) hE) _ _ _ _ fine) rfl

theorem State.showInputs_sound {E : List Part} {base : State} (hE : [Part.objects] ⊆ E) (s : State)
    (fine : Sound E base s) :
    Sound E base (State.showInputs s) := by
  have k0 : [Part.objects] ⊆ E := List.Subset.trans (by decide) hE
  unfold State.showInputs
  repeat' (first
    | (with_reducible assumption)
    | ((with_reducible apply State.setBit_sound k0)))

theorem State.putInput_sound {E : List Part} {base : State} (hE : [Part.power] ⊆ E) (s : State) (input : Nat) (on : Bool)
    (fine : Sound E base s) :
    Sound E base (State.putInput s input on) := by
  have h_power : Part.power ∈ E := hE (by decide)
  unfold State.putInput
  (try dsimp only)
  repeat' (first
    | (with_reducible assumption)
    | (with_reducible refine sound_ite (fun _ => ?_) (fun _ => ?_))
    | (with_reducible refine sound_foldl (fun s x h => ?_) ?_)
    | (fail_if_no_progress with_reducible refine Sound.upd_power h_power _ ?_))

theorem State.weighLife_sound {E : List Part} {base : State} (hE : [Part.power, Part.mram] ⊆ E) (s : State) (case10 : Int)
    (fine : Sound E base s) :
    Sound E base (State.weighLife s case10) := by
  have h_power : Part.power ∈ E := hE (by decide)
  have h_mram : Part.mram ∈ E := hE (by decide)
  unfold State.weighLife
  (try dsimp only)
  repeat' (first
    | (with_reducible assumption)
    | (with_reducible refine sound_ite (fun _ => ?_) (fun _ => ?_))
    | (with_reducible refine sound_foldl (fun s x h => ?_) ?_)
    | (fail_if_no_progress with_reducible refine Sound.upd_power_mram h_power h_mram _ ?_))

theorem State.shutdown_sound {E : List Part} {base : State} (hE : [Part.power, Part.clock, Part.objects, Part.held, Part.recorder, Part.pair, Part.alarms, Part.mram, Part.tap, Part.ctl, Part.srv, Part.saf, Part.panel, Part.diag, Part.wires, Part.free] ⊆ E) (s : State) (cause : LossCause) (written : Nat)
    (fine : Sound E base s) :
    Sound E base (State.shutdown s cause written) := by
  have h_power : Part.power ∈ E := hE (by decide)
  have h_recorder : Part.recorder ∈ E := hE (by decide)
  have h_pair : Part.pair ∈ E := hE (by decide)
  have k0 : [Part.power, Part.mram] ⊆ E := List.Subset.trans (by decide) hE
  have k1 : [Part.clock, Part.objects, Part.held, Part.recorder, Part.pair, Part.alarms, Part.tap, Part.ctl, Part.srv, Part.saf, Part.diag, Part.wires, Part.free] ⊆ E := List.Subset.trans (by decide) hE
  have k2 : [Part.objects] ⊆ E := List.Subset.trans (by decide) hE
  have k3 : [Part.objects, Part.recorder, Part.pair, Part.alarms, Part.saf, Part.diag, Part.wires, Part.free] ⊆ E := List.Subset.trans (by decide) hE
  have k4 : [Part.pair, Part.wires] ⊆ E := List.Subset.trans (by decide) hE
  have k5 : [Part.objects, Part.recorder, Part.alarms, Part.panel, Part.wires] ⊆ E := List.Subset.trans (by decide) hE
  have k6 : [Part.objects, Part.recorder, Part.alarms] ⊆ E := List.Subset.trans (by decide) hE
  unfold State.shutdown
  (try dsimp only)
  repeat' (first
    | (with_reducible assumption)
    | ((with_reducible apply State.weighLife_sound k0))
    | ((with_reducible apply State.hardFaultOf_sound k1))
    | ((with_reducible apply State.showSupplies_sound k2))
    | ((with_reducible apply State.showDemands_sound k3))
    | ((with_reducible apply State.takeOver_sound k4))
    | ((with_reducible apply State.panelPark_sound k5))
    | ((with_reducible apply State.closeRecorder_sound k6))
    | (with_reducible refine sound_ite (fun _ => ?_) (fun _ => ?_))
    | (with_reducible refine sound_foldl (fun s x h => ?_) ?_)
    | (fail_if_no_progress with_reducible refine Sound.upd_power_recorder h_power h_recorder _ ?_)
    | (fail_if_no_progress with_reducible refine Sound.upd_power_pair h_power h_pair _ ?_ rfl))

theorem State.tellTiming_sound {E : List Part} {base : State} (hE : [Part.wires] ⊆ E) (s : State) (p : Nat)
    (fine : Sound E base s) :
    Sound E base (State.tellTiming s p) := by
  have k0 : [Part.wires] ⊆ E := List.Subset.trans (by decide) hE
  unfold State.tellTiming
  (try dsimp only)
  repeat' (first
    | (with_reducible assumption)
    | ((with_reducible apply State.tell_sound k0)))

theorem State.startCan_sound {E : List Part} {base : State} (hE : [Part.objects, Part.dict, Part.wires] ⊆ E) (s : State)
    (fine : Sound E base s) :
    Sound E base (State.startCan s) := by
  have h_dict : Part.dict ∈ E := hE (by decide)
  have k0 : [Part.objects] ⊆ E := List.Subset.trans (by decide) hE
  have k1 : [Part.wires] ⊆ E := List.Subset.trans (by decide) hE
  unfold State.startCan
  (try dsimp only)
  repeat' (first
    | (with_reducible assumption)
    | ((with_reducible apply State.setObjs_sound k0))
    | ((with_reducible apply State.tellTiming_sound k1))
    | (with_reducible refine sound_ite (fun _ => ?_) (fun _ => ?_))
    | (with_reducible refine sound_foldl (fun s x h => ?_) ?_)
    | (fail_if_no_progress with_reducible refine Sound.upd_dict h_dict _ ?_))

end Sys2Proof.Machine
end

