-- ==== Sys2Proof/Laws/Kept.lean ====
section
/-! SUPPORT. What each command keeps, command by command; the three at which the straps may be sampled stand apart. -/

namespace Sys2Proof.Machine

open Sys2Proof

/-- What a command that answers a next state has kept. -/
def Kept (E : List Part) (base : State) (o : Host.Outcome State Fault Refusal) : Prop := ∀ s', o = .next s' → Sound E base s'

theorem run_kept {E : List Part} {base : State} (s : State) (t : Nat) (f : State → State)
    (hf : ∀ s, Sound E base s → Sound E base (f s)) (h : Sound E base (s.heard t)) : Kept E base (s.run t f) := by
  intro s' e
  rw [s.run_eq] at e
  cases e
  exact Sound.upd _ (hf _ h)

theorem live_kept {E : List Part} {base : State} (s : State) (t : Nat) (f : State → State)
    (hf : ∀ s, Sound E base s → Sound E base (f s)) (h : Sound E base (s.heard t)) : Kept E base (s.live t f) :=
  run_kept s t _ (fun s hs => sound_ite (fun _ => hf s hs) (fun _ => hs)) h

theorem ported_kept {E : List Part} {base : State} (s : State) (t : Nat) (f : State → State)
    (hf : ∀ s, Sound E base s → Sound E base (f s)) (h : Sound E base (s.heard t)) : Kept E base (s.ported t f) :=
  run_kept s t _ (fun s hs => sound_ite (fun _ => hf s hs) (fun _ => hs)) h

theorem execSerialCharacterRx_sound {E : List Part} {base : State} (hE : [Part.objects, Part.recorder, Part.pair, Part.alarms, Part.intake, Part.diag, Part.wires, Part.free] ⊆ E) (t port : Nat) (b : Byte) (charError : Bool) (startLateNs endLateNs : Nat) (s : State)
    (fine : Sound E base (s.heard t)) : Kept E base (execSerialCharacterRx t port b charError startLateNs endLateNs s) := by
  have k0 : [Part.objects, Part.recorder, Part.pair, Part.alarms, Part.intake, Part.diag, Part.wires, Part.free] ⊆ E := List.Subset.trans (by decide) hE
  have k1 : [Part.objects] ⊆ E := List.Subset.trans (by decide) hE
  have k2 : [Part.objects, Part.recorder, Part.alarms, Part.intake, Part.diag] ⊆ E := List.Subset.trans (by decide) hE
  unfold execSerialCharacterRx
  repeat' (first
    | (with_reducible assumption)
    | (dsimp only)
    | ((with_reducible apply State.settlePacket_sound k0))
    | ((with_reducible apply State.expirePacket_sound k0))
    | ((with_reducible apply State.setObj_sound k1))
    | ((with_reducible apply State.rxChar_sound k2))
    | (with_reducible refine run_kept _ _ _ (fun s fine => ?_) ?_)
    | (with_reducible refine live_kept _ _ _ (fun s fine => ?_) ?_)
    | (with_reducible refine ported_kept _ _ _ (fun s fine => ?_) ?_)
    | (with_reducible refine sound_ite (fun _ => ?_) (fun _ => ?_)))

theorem execPacketCommit_sound {E : List Part} {base : State} (hE : [Part.objects, Part.recorder, Part.pair, Part.alarms, Part.intake, Part.diag, Part.wires, Part.free] ⊆ E) (t port : Nat) (s : State)
    (fine : Sound E base (s.heard t)) : Kept E base (execPacketCommit t port s) := by
  have k0 : [Part.objects, Part.recorder, Part.pair, Part.alarms, Part.intake, Part.diag, Part.wires, Part.free] ⊆ E := List.Subset.trans (by decide) hE
  unfold execPacketCommit
  repeat' (first
    | (with_reducible assumption)
    | (dsimp only)
    | ((with_reducible apply State.commitPacket_sound k0))
    | (with_reducible refine run_kept _ _ _ (fun s fine => ?_) ?_)
    | (with_reducible refine live_kept _ _ _ (fun s fine => ?_) ?_)
    | (with_reducible refine ported_kept _ _ _ (fun s fine => ?_) ?_)
    | (with_reducible refine sound_ite (fun _ => ?_) (fun _ => ?_)))

theorem execPacketDiscard_sound {E : List Part} {base : State} (hE : [Part.objects, Part.recorder, Part.pair, Part.alarms, Part.intake, Part.diag, Part.wires, Part.free] ⊆ E) (t port : Nat) (s : State)
    (fine : Sound E base (s.heard t)) : Kept E base (execPacketDiscard t port s) := by
  have k0 : [Part.objects, Part.recorder, Part.pair, Part.alarms, Part.intake, Part.diag, Part.wires, Part.free] ⊆ E := List.Subset.trans (by decide) hE
  unfold execPacketDiscard
  repeat' (first
    | (with_reducible assumption)
    | (dsimp only)
    | ((with_reducible apply State.discardPacket_sound k0))
    | (with_reducible refine run_kept _ _ _ (fun s fine => ?_) ?_)
    | (with_reducible refine live_kept _ _ _ (fun s fine => ?_) ?_)
    | (with_reducible refine ported_kept _ _ _ (fun s fine => ?_) ?_)
    | (with_reducible refine sound_ite (fun _ => ?_) (fun _ => ?_)))

theorem execPacketGapTimeout_sound {E : List Part} {base : State} (hE : [Part.objects, Part.recorder, Part.pair, Part.alarms, Part.intake, Part.diag, Part.wires, Part.free] ⊆ E) (t port : Nat) (s : State)
    (fine : Sound E base (s.heard t)) : Kept E base (execPacketGapTimeout t port s) := by
  have k0 : [Part.objects, Part.recorder, Part.pair, Part.alarms, Part.intake, Part.diag, Part.wires, Part.free] ⊆ E := List.Subset.trans (by decide) hE
  unfold execPacketGapTimeout
  repeat' (first
    | (with_reducible assumption)
    | (dsimp only)
    | ((with_reducible apply State.expirePacket_sound k0))
    | (with_reducible refine run_kept _ _ _ (fun s fine => ?_) ?_)
    | (with_reducible refine live_kept _ _ _ (fun s fine => ?_) ?_)
    | (with_reducible refine ported_kept _ _ _ (fun s fine => ?_) ?_))

theorem execQueueRead_sound {E : List Part} {base : State} (hE : [Part.objects, Part.recorder, Part.alarms, Part.intake, Part.wires] ⊆ E) (t port : Nat) (s : State)
    (fine : Sound E base (s.heard t)) : Kept E base (execQueueRead t port s) := by
  have k0 : [Part.wires] ⊆ E := List.Subset.trans (by decide) hE
  have k1 : [Part.intake] ⊆ E := List.Subset.trans (by decide) hE
  have k2 : [Part.objects] ⊆ E := List.Subset.trans (by decide) hE
  have k3 : [Part.objects, Part.recorder, Part.alarms] ⊆ E := List.Subset.trans (by decide) hE
  unfold execQueueRead
  repeat' (first
    | (with_reducible assumption)
    | (dsimp only)
    | ((with_reducible apply State.tell_sound k0))
    | ((with_reducible apply State.modRx_sound k1))
    | ((with_reducible apply State.setBit_sound k2))
    | ((with_reducible apply State.noteLevel_sound k3))
    | (with_reducible refine run_kept _ _ _ (fun s fine => ?_) ?_)
    | (with_reducible refine live_kept _ _ _ (fun s fine => ?_) ?_)
    | (with_reducible refine ported_kept _ _ _ (fun s fine => ?_) ?_)
    | (with_reducible refine sound_ite (fun _ => ?_) (fun _ => ?_))
    | (with_reducible refine sound_foldl (fun s x h => ?_) ?_)
    | (with_reducible refine sound_foldl2 (fun s x h => ?_) ?_)
    | (with_reducible refine sound_snd (by assumption) ?_)
    | (with_reducible refine sound_fst (by assumption) ?_)
    | (split))

theorem execChainOutput_sound {E : List Part} {base : State} (hE : [Part.objects, Part.recorder, Part.pair, Part.alarms, Part.intake, Part.diag, Part.wires, Part.free] ⊆ E) (t chain input : Nat) (edges : List SdEdge) (s : State)
    (fine : Sound E base (s.heard t)) : Kept E base (execChainOutput t chain input edges s) := by
  have k0 : [Part.intake] ⊆ E := List.Subset.trans (by decide) hE
  have k1 : [Part.objects, Part.recorder, Part.alarms, Part.intake, Part.diag] ⊆ E := List.Subset.trans (by decide) hE
  have k2 : [Part.objects, Part.pair, Part.diag, Part.wires, Part.free] ⊆ E := List.Subset.trans (by decide) hE
  unfold execChainOutput
  repeat' (first
    | (with_reducible assumption)
    | (dsimp only)
    | ((with_reducible apply State.modChain_sound k0))
    | ((with_reducible apply State.chainWord_sound k1))
    | ((with_reducible apply State.commitInput_sound k2))
    | (with_reducible refine run_kept _ _ _ (fun s fine => ?_) ?_)
    | (with_reducible refine live_kept _ _ _ (fun s fine => ?_) ?_)
    | (with_reducible refine ported_kept _ _ _ (fun s fine => ?_) ?_)
    | (with_reducible refine sound_ite (fun _ => ?_) (fun _ => ?_))
    | (with_reducible refine sound_foldl (fun s x h => ?_) ?_))

theorem execChainClockWindow_sound {E : List Part} {base : State} (hE : [Part.objects, Part.recorder, Part.alarms, Part.intake] ⊆ E) (t chain edges : Nat) (s : State)
    (fine : Sound E base (s.heard t)) : Kept E base (execChainClockWindow t chain edges s) := by
  have k0 : [Part.objects] ⊆ E := List.Subset.trans (by decide) hE
  have k1 : [Part.intake] ⊆ E := List.Subset.trans (by decide) hE
  have k2 : [Part.objects, Part.intake] ⊆ E := List.Subset.trans (by decide) hE
  have k3 : [Part.objects, Part.recorder, Part.alarms, Part.intake] ⊆ E := List.Subset.trans (by decide) hE
  unfold execChainClockWindow
  repeat' (first
    | (with_reducible assumption)
    | (dsimp only)
    | ((with_reducible apply State.setObj_sound k0))
    | ((with_reducible apply State.modChain_sound k1))
    | ((with_reducible apply State.chainClockOut_sound k2))
    | ((with_reducible apply State.setBit_sound k0))
    | ((with_reducible apply State.chainRestart_sound k3))
    | (with_reducible refine run_kept _ _ _ (fun s fine => ?_) ?_)
    | (with_reducible refine live_kept _ _ _ (fun s fine => ?_) ?_)
    | (with_reducible refine ported_kept _ _ _ (fun s fine => ?_) ?_)
    | (with_reducible refine sound_ite (fun _ => ?_) (fun _ => ?_)))

theorem execChainClockLoss_sound {E : List Part} {base : State} (hE : [Part.objects, Part.intake] ⊆ E) (t chain silentNs : Nat) (s : State)
    (fine : Sound E base (s.heard t)) : Kept E base (execChainClockLoss t chain silentNs s) := by
  have k0 : [Part.intake] ⊆ E := List.Subset.trans (by decide) hE
  have k1 : [Part.objects, Part.intake] ⊆ E := List.Subset.trans (by decide) hE
  unfold execChainClockLoss
  repeat' (first
    | (with_reducible assumption)
    | (dsimp only)
    | ((with_reducible apply State.modChain_sound k0))
    | ((with_reducible apply State.chainClockOut_sound k1))
    | (with_reducible refine run_kept _ _ _ (fun s fine => ?_) ?_)
    | (with_reducible refine live_kept _ _ _ (fun s fine => ?_) ?_)
    | (with_reducible refine ported_kept _ _ _ (fun s fine => ?_) ?_)
    | (with_reducible refine sound_ite (fun _ => ?_) (fun _ => ?_)))

theorem execPacketConsume_sound {E : List Part} {base : State} (hE : [Part.objects, Part.recorder, Part.pair, Part.alarms, Part.intake, Part.align] ⊆ E) (t port : Nat) (d : Option Decoded) (s : State)
    (fine : Sound E base (s.heard t)) : Kept E base (execPacketConsume t port d s) := by
  have k0 : [Part.objects, Part.recorder, Part.alarms, Part.intake] ⊆ E := List.Subset.trans (by decide) hE
  have k1 : [Part.objects, Part.recorder, Part.alarms] ⊆ E := List.Subset.trans (by decide) hE
  have k2 : [Part.objects, Part.recorder] ⊆ E := List.Subset.trans (by decide) hE
  have k3 : [Part.pair] ⊆ E := List.Subset.trans (by decide) hE
  have k4 : [Part.objects, Part.recorder, Part.alarms, Part.align] ⊆ E := List.Subset.trans (by decide) hE
  unfold execPacketConsume
  repeat' (first
    | (with_reducible assumption)
    | (dsimp only)
    | ((with_reducible apply State.count_sound k1))
    | ((with_reducible apply State.offer_sound k2))
    | ((with_reducible apply State.markInput_sound k3))
    | ((with_reducible apply State.decodePacket_sound k4))
    | ((with_reducible apply State.unmarkInput_sound k3))
    | (with_reducible refine run_kept _ _ _ (fun s fine => ?_) ?_)
    | (with_reducible refine live_kept _ _ _ (fun s fine => ?_) ?_)
    | (with_reducible refine ported_kept _ _ _ (fun s fine => ?_) ?_)
    | (with_reducible refine State.takePacket_sound k0 _ _ ?_ _ _ _ (by assumption))
    | (with_reducible refine sound_ite (fun _ => ?_) (fun _ => ?_))
    | (with_reducible refine sound_foldl (fun s x h => ?_) ?_)
    | (with_reducible refine sound_foldl2 (fun s x h => ?_) ?_)
    | (with_reducible refine sound_snd (by assumption) ?_)
    | (with_reducible refine sound_fst (by assumption) ?_)
    | (split))

theorem execSourceExclusion_sound {E : List Part} {base : State} (hE : [Part.objects, Part.recorder, Part.alarms, Part.align] ⊆ E) (t source : Nat) (s : State)
    (fine : Sound E base (s.heard t)) : Kept E base (execSourceExclusion t source s) := by
  have k0 : [Part.objects, Part.recorder, Part.alarms, Part.align] ⊆ E := List.Subset.trans (by decide) hE
  unfold execSourceExclusion
  repeat' (first
    | (with_reducible assumption)
    | (dsimp only)
    | ((with_reducible apply State.excludeDue_sound k0))
    | (with_reducible refine run_kept _ _ _ (fun s fine => ?_) ?_)
    | (with_reducible refine live_kept _ _ _ (fun s fine => ?_) ?_))

theorem execTimeStep_sound {E : List Part} {base : State} (hE : [Part.clock, Part.objects, Part.held, Part.recorder, Part.pair, Part.alarms, Part.gnss, Part.gsol, Part.intake, Part.align, Part.est, Part.trk, Part.ctl, Part.ring, Part.srv, Part.saf, Part.net, Part.user] ⊆ E) (t : Nat) (s : State)
    (fine : Sound E base (s.heard t)) : Kept E base (execTimeStep t s) := by
  have h_clock : Part.clock ∈ E := hE (by decide)
  have k0 : [Part.clock, Part.objects, Part.held, Part.recorder, Part.pair, Part.alarms, Part.gnss, Part.gsol, Part.intake, Part.align, Part.est, Part.trk, Part.ctl, Part.ring, Part.srv, Part.saf, Part.net, Part.user] ⊆ E := List.Subset.trans (by decide) hE
  have k1 : [Part.clock, Part.objects] ⊆ E := List.Subset.trans (by decide) hE
  unfold execTimeStep
  repeat' (first
    | (with_reducible assumption)
    | (dsimp only)
    | ((with_reducible apply State.stepGrids_sound k0))
    | ((with_reducible apply State.beFollower_sound k1))
    | (with_reducible refine run_kept _ _ _ (fun s fine => ?_) ?_)
    | (with_reducible refine live_kept _ _ _ (fun s fine => ?_) ?_)
    | (with_reducible refine ported_kept _ _ _ (fun s fine => ?_) ?_)
    | (with_reducible refine sound_ite (fun _ => ?_) (fun _ => ?_))
    | (with_reducible refine sound_foldl (fun s x h => ?_) ?_)
    | (with_reducible refine sound_foldl2 (fun s x h => ?_) ?_)
    | (fail_if_no_progress with_reducible refine Sound.upd_clock h_clock _ ?_)
    | (with_reducible refine sound_snd (by assumption) ?_)
    | (with_reducible refine sound_fst (by assumption) ?_)
    | (split))

theorem execTimeSourceQualify_sound {E : List Part} {base : State} (hE : [Part.clock] ⊆ E) (t source : Nat) (offsetPs : Int) (uncertaintyNs : Nat) (s : State)
    (fine : Sound E base (s.heard t)) : Kept E base (execTimeSourceQualify t source offsetPs uncertaintyNs s) := by
  have h_clock : Part.clock ∈ E := hE (by decide)
  have k0 : [Part.clock] ⊆ E := List.Subset.trans (by decide) hE
  unfold execTimeSourceQualify
  repeat' (first
    | (with_reducible assumption)
    | (dsimp only)
    | ((with_reducible apply State.awaitChange_sound k0))
    | (with_reducible refine run_kept _ _ _ (fun s fine => ?_) ?_)
    | (with_reducible refine live_kept _ _ _ (fun s fine => ?_) ?_)
    | (with_reducible refine ported_kept _ _ _ (fun s fine => ?_) ?_)
    | (with_reducible refine sound_ite (fun _ => ?_) (fun _ => ?_))
    | (with_reducible refine sound_foldl (fun s x h => ?_) ?_)
    | (with_reducible refine sound_foldl2 (fun s x h => ?_) ?_)
    | (fail_if_no_progress with_reducible refine Sound.upd_clock h_clock _ ?_)
    | (with_reducible refine sound_snd (by assumption) ?_)
    | (with_reducible refine sound_fst (by assumption) ?_)
    | (split))

theorem execTimeSourceChange_sound {E : List Part} {base : State} (hE : [Part.clock, Part.objects] ⊆ E) (t : Nat) (offsetPs : Int) (uncertaintyNs : Nat) (s : State)
    (fine : Sound E base (s.heard t)) : Kept E base (execTimeSourceChange t offsetPs uncertaintyNs s) := by
  have h_clock : Part.clock ∈ E := hE (by decide)
  have k0 : [Part.clock, Part.objects] ⊆ E := List.Subset.trans (by decide) hE
  unfold execTimeSourceChange
  repeat' (first
    | (with_reducible assumption)
    | (dsimp only)
    | ((with_reducible apply State.returnOfSignals_sound k0))
    | (with_reducible refine run_kept _ _ _ (fun s fine => ?_) ?_)
    | (with_reducible refine live_kept _ _ _ (fun s fine => ?_) ?_)
    | (with_reducible refine ported_kept _ _ _ (fun s fine => ?_) ?_)
    | (with_reducible refine sound_ite (fun _ => ?_) (fun _ => ?_))
    | (with_reducible refine sound_foldl (fun s x h => ?_) ?_)
    | (with_reducible refine sound_foldl2 (fun s x h => ?_) ?_)
    | (fail_if_no_progress with_reducible refine Sound.upd_clock h_clock _ ?_)
    | (with_reducible refine sound_snd (by assumption) ?_)
    | (with_reducible refine sound_fst (by assumption) ?_)
    | (split))

theorem execTimeSourceLoss_sound {E : List Part} {base : State} (hE : [Part.clock, Part.objects, Part.recorder, Part.alarms] ⊆ E) (t source : Nat) (grandmaster : Option Nat) (s : State)
    (fine : Sound E base (s.heard t)) : Kept E base (execTimeSourceLoss t source grandmaster s) := by
  have k0 : [Part.clock, Part.objects, Part.recorder, Part.alarms] ⊆ E := List.Subset.trans (by decide) hE
  have k1 : [Part.clock, Part.objects] ⊆ E := List.Subset.trans (by decide) hE
  unfold execTimeSourceLoss
  repeat' (first
    | (with_reducible assumption)
    | (dsimp only)
    | ((with_reducible apply State.newGrandmaster_sound k0))
    | ((with_reducible apply State.loseSource_sound k1))
    | (with_reducible refine run_kept _ _ _ (fun s fine => ?_) ?_)
    | (with_reducible refine live_kept _ _ _ (fun s fine => ?_) ?_)
    | (with_reducible refine ported_kept _ _ _ (fun s fine => ?_) ?_)
    | (with_reducible refine sound_ite (fun _ => ?_) (fun _ => ?_))
    | (with_reducible refine sound_foldl (fun s x h => ?_) ?_)
    | (with_reducible refine sound_foldl2 (fun s x h => ?_) ?_)
    | (with_reducible refine sound_snd (by assumption) ?_)
    | (with_reducible refine sound_fst (by assumption) ?_)
    | (split))

theorem execSlewDone_sound {E : List Part} {base : State} (hE : [Part.clock, Part.objects] ⊆ E) (t : Nat) (s : State)
    (fine : Sound E base (s.heard t)) : Kept E base (execSlewDone t s) := by
  have h_clock : Part.clock ∈ E := hE (by decide)
  have k0 : [Part.objects] ⊆ E := List.Subset.trans (by decide) hE
  unfold execSlewDone
  repeat' (first
    | (with_reducible assumption)
    | (dsimp only)
    | ((with_reducible apply State.setObj_sound k0))
    | (with_reducible refine run_kept _ _ _ (fun s fine => ?_) ?_)
    | (with_reducible refine live_kept _ _ _ (fun s fine => ?_) ?_)
    | (with_reducible refine ported_kept _ _ _ (fun s fine => ?_) ?_)
    | (with_reducible refine sound_ite (fun _ => ?_) (fun _ => ?_))
    | (with_reducible refine sound_foldl (fun s x h => ?_) ?_)
    | (with_reducible refine sound_foldl2 (fun s x h => ?_) ?_)
    | (fail_if_no_progress with_reducible refine Sound.upd_clock h_clock _ ?_)
    | (with_reducible refine sound_snd (by assumption) ?_)
    | (with_reducible refine sound_fst (by assumption) ?_)
    | (split))

theorem execPpsPulse_sound {E : List Part} {base : State} (hE : [Part.clock, Part.objects, Part.wires] ⊆ E) (t output sec : Nat) (s : State)
    (fine : Sound E base (s.heard t)) : Kept E base (execPpsPulse t output sec s) := by
  have h_clock : Part.clock ∈ E := hE (by decide)
  have k0 : [Part.clock] ⊆ E := List.Subset.trans (by decide) hE
  have k1 : [Part.objects] ⊆ E := List.Subset.trans (by decide) hE
  have k2 : [Part.wires] ⊆ E := List.Subset.trans (by decide) hE
  have k3 : [Part.clock, Part.wires] ⊆ E := List.Subset.trans (by decide) hE
  unfold execPpsPulse
  repeat' (first
    | (with_reducible assumption)
    | (dsimp only)
    | ((with_reducible apply State.takePps_sound k0))
    | ((with_reducible apply State.turnLeap_sound k1))
    | ((with_reducible apply State.setObj_sound k1))
    | ((with_reducible apply State.tell_sound k2))
    | ((with_reducible apply State.judgePpsQual_sound k3))
    | (with_reducible refine run_kept _ _ _ (fun s fine => ?_) ?_)
    | (with_reducible refine live_kept _ _ _ (fun s fine => ?_) ?_)
    | (with_reducible refine ported_kept _ _ _ (fun s fine => ?_) ?_)
    | (with_reducible refine sound_ite (fun _ => ?_) (fun _ => ?_))
    | (with_reducible refine sound_foldl (fun s x h => ?_) ?_)
    | (with_reducible refine sound_foldl2 (fun s x h => ?_) ?_)
    | (fail_if_no_progress with_reducible refine Sound.upd_clock h_clock _ ?_))

theorem execTimeMessage_sound {E : List Part} {base : State} (hE : [Part.clock, Part.objects, Part.wires] ⊆ E) (t : Nat) (s : State)
    (fine : Sound E base (s.heard t)) : Kept E base (execTimeMessage t s) := by
  have h_clock : Part.clock ∈ E := hE (by decide)
  have k0 : [Part.wires] ⊆ E := List.Subset.trans (by decide) hE
  have k1 : [Part.objects] ⊆ E := List.Subset.trans (by decide) hE
  unfold execTimeMessage
  repeat' (first
    | (with_reducible assumption)
    | (dsimp only)
    | ((with_reducible apply State.tell_sound k0))
    | ((with_reducible apply State.setObjs_sound k1))
    | (with_reducible refine run_kept _ _ _ (fun s fine => ?_) ?_)
    | (with_reducible refine live_kept _ _ _ (fun s fine => ?_) ?_)
    | (with_reducible refine ported_kept _ _ _ (fun s fine => ?_) ?_)
    | (with_reducible refine sound_ite (fun _ => ?_) (fun _ => ?_))
    | (with_reducible refine sound_foldl (fun s x h => ?_) ?_)
    | (with_reducible refine sound_foldl2 (fun s x h => ?_) ?_)
    | (fail_if_no_progress with_reducible refine Sound.upd_clock h_clock _ ?_)
    | (with_reducible refine sound_snd (by assumption) ?_)
    | (with_reducible refine sound_fst (by assumption) ?_)
    | (split))

theorem execPtpEventRx_sound {E : List Part} {base : State} (hE : [Part.clock, Part.objects, Part.recorder, Part.alarms, Part.wires] ⊆ E) (t inst port : Nat) (head : PtpHead) (msg : PtpMsg) (s : State)
    (fine : Sound E base (s.heard t)) : Kept E base (execPtpEventRx t inst port head msg s) := by
  have h_clock : Part.clock ∈ E := hE (by decide)
  have k0 : [Part.clock] ⊆ E := List.Subset.trans (by decide) hE
  have k1 : [Part.clock, Part.objects] ⊆ E := List.Subset.trans (by decide) hE
  have k2 : [Part.wires] ⊆ E := List.Subset.trans (by decide) hE
  have k3 : [Part.objects] ⊆ E := List.Subset.trans (by decide) hE
  have k4 : [Part.clock, Part.objects, Part.recorder, Part.alarms] ⊆ E := List.Subset.trans (by decide) hE
  unfold execPtpEventRx
  repeat' (first
    | (with_reducible assumption)
    | (dsimp only)
    | ((with_reducible apply State.modPtp_sound k0))
    | ((with_reducible apply State.ptpOffset_sound k1))
    | ((with_reducible apply State.tell_sound k2))
    | ((with_reducible apply State.setObj_sound k3))
    | ((with_reducible apply State.judgeMasters_sound k4))
    | ((with_reducible apply State.putUtc_sound k1))
    | ((with_reducible apply State.ptpSent_sound k0))
    | (with_reducible refine run_kept _ _ _ (fun s fine => ?_) ?_)
    | (with_reducible refine live_kept _ _ _ (fun s fine => ?_) ?_)
    | (with_reducible refine ported_kept _ _ _ (fun s fine => ?_) ?_)
    | (with_reducible refine sound_ite (fun _ => ?_) (fun _ => ?_))
    | (with_reducible refine sound_foldl (fun s x h => ?_) ?_)
    | (with_reducible refine sound_foldl2 (fun s x h => ?_) ?_)
    | (fail_if_no_progress with_reducible refine Sound.upd_clock h_clock _ ?_)
    | (with_reducible refine sound_snd (by assumption) ?_)
    | (with_reducible refine sound_fst (by assumption) ?_)
    | (split))

theorem execPtpTransparentForward_sound {E : List Part} {base : State} (hE : [Part.clock, Part.wires] ⊆ E) (t inst : Nat) (fromPort1 : Bool) (kind : PtpFwd) (ingressPs egressPs correctionPs : Int) (s : State)
    (fine : Sound E base (s.heard t)) : Kept E base (execPtpTransparentForward t inst fromPort1 kind ingressPs egressPs correctionPs s) := by
  have k0 : [Part.wires] ⊆ E := List.Subset.trans (by decide) hE
  have k1 : [Part.clock] ⊆ E := List.Subset.trans (by decide) hE
  unfold execPtpTransparentForward
  repeat' (first
    | (with_reducible assumption)
    | (dsimp only)
    | ((with_reducible apply State.tell_sound k0))
    | ((with_reducible apply State.modPtp_sound k1))
    | (with_reducible refine run_kept _ _ _ (fun s fine => ?_) ?_)
    | (with_reducible refine live_kept _ _ _ (fun s fine => ?_) ?_)
    | (with_reducible refine ported_kept _ _ _ (fun s fine => ?_) ?_)
    | (with_reducible refine sound_ite (fun _ => ?_) (fun _ => ?_))
    | (with_reducible refine sound_foldl (fun s x h => ?_) ?_)
    | (with_reducible refine sound_foldl2 (fun s x h => ?_) ?_)
    | (with_reducible refine sound_snd (by assumption) ?_)
    | (with_reducible refine sound_fst (by assumption) ?_)
    | (split))

theorem execFramingLock_sound {E : List Part} {base : State} (hE : [Part.objects, Part.gnss] ⊆ E) (t port : Nat) (frm : List Bool) (s : State)
    (fine : Sound E base (s.heard t)) : Kept E base (execFramingLock t port frm s) := by
  have k0 : [Part.objects] ⊆ E := List.Subset.trans (by decide) hE
  have k1 : [Part.gnss] ⊆ E := List.Subset.trans (by decide) hE
  unfold execFramingLock
  repeat' (first
    | (with_reducible assumption)
    | (dsimp only)
    | ((with_reducible apply State.setBit_sound k0))
    | ((with_reducible apply State.modPort_sound k1))
    | (with_reducible refine run_kept _ _ _ (fun s fine => ?_) ?_)
    | (with_reducible refine live_kept _ _ _ (fun s fine => ?_) ?_)
    | (with_reducible refine ported_kept _ _ _ (fun s fine => ?_) ?_)
    | (with_reducible refine sound_ite (fun _ => ?_) (fun _ => ?_)))

theorem execFramingError_sound {E : List Part} {base : State} (hE : [Part.objects, Part.recorder, Part.alarms, Part.gnss, Part.gsol] ⊆ E) (t port sampleNo : Nat) (frm : List Bool) (s : State)
    (fine : Sound E base (s.heard t)) : Kept E base (execFramingError t port sampleNo frm s) := by
  have k0 : [Part.objects, Part.recorder, Part.alarms] ⊆ E := List.Subset.trans (by decide) hE
  have k1 : [Part.gnss] ⊆ E := List.Subset.trans (by decide) hE
  have k2 : [Part.objects, Part.recorder, Part.alarms, Part.gnss, Part.gsol] ⊆ E := List.Subset.trans (by decide) hE
  unfold execFramingError
  repeat' (first
    | (with_reducible assumption)
    | (dsimp only)
    | ((with_reducible apply State.count_sound k0))
    | ((with_reducible apply State.modPort_sound k1))
    | ((with_reducible apply State.portFault_sound k2))
    | (with_reducible refine run_kept _ _ _ (fun s fine => ?_) ?_)
    | (with_reducible refine live_kept _ _ _ (fun s fine => ?_) ?_)
    | (with_reducible refine ported_kept _ _ _ (fun s fine => ?_) ?_)
    | (with_reducible refine sound_ite (fun _ => ?_) (fun _ => ?_)))

theorem execIfClockCheck_sound {E : List Part} {base : State} (hE : [Part.objects, Part.recorder, Part.alarms, Part.gnss, Part.gsol] ⊆ E) (t port milliHz sampleNo : Nat) (s : State)
    (fine : Sound E base (s.heard t)) : Kept E base (execIfClockCheck t port milliHz sampleNo s) := by
  have k0 : [Part.objects] ⊆ E := List.Subset.trans (by decide) hE
  have k1 : [Part.gnss] ⊆ E := List.Subset.trans (by decide) hE
  have k2 : [Part.objects, Part.recorder, Part.alarms, Part.gnss, Part.gsol] ⊆ E := List.Subset.trans (by decide) hE
  unfold execIfClockCheck
  repeat' (first
    | (with_reducible assumption)
    | (dsimp only)
    | ((with_reducible apply State.setBit_sound k0))
    | ((with_reducible apply State.stampSample_sound k1))
    | ((with_reducible apply State.portFault_sound k2))
    | (with_reducible refine run_kept _ _ _ (fun s fine => ?_) ?_)
    | (with_reducible refine live_kept _ _ _ (fun s fine => ?_) ?_)
    | (with_reducible refine ported_kept _ _ _ (fun s fine => ?_) ?_)
    | (with_reducible refine sound_ite (fun _ => ?_) (fun _ => ?_)))

theorem execPortFault_sound {E : List Part} {base : State} (hE : [Part.objects, Part.recorder, Part.alarms, Part.gnss, Part.gsol] ⊆ E) (t port : Nat) (cause : PortFaultCause) (s : State)
    (fine : Sound E base (s.heard t)) : Kept E base (execPortFault t port cause s) := by
  have k0 : [Part.objects] ⊆ E := List.Subset.trans (by decide) hE
  have k1 : [Part.objects, Part.recorder, Part.alarms, Part.gnss, Part.gsol] ⊆ E := List.Subset.trans (by decide) hE
  unfold execPortFault
  repeat' (first
    | (with_reducible assumption)
    | (dsimp only)
    | ((with_reducible apply State.setBit_sound k0))
    | ((with_reducible apply State.portFault_sound k1))
    | (with_reducible refine run_kept _ _ _ (fun s fine => ?_) ?_)
    | (with_reducible refine live_kept _ _ _ (fun s fine => ?_) ?_)
    | (with_reducible refine ported_kept _ _ _ (fun s fine => ?_) ?_)
    | (with_reducible refine sound_ite (fun _ => ?_) (fun _ => ?_))
    | (with_reducible refine sound_foldl (fun s x h => ?_) ?_)
    | (with_reducible refine sound_foldl2 (fun s x h => ?_) ?_)
    | (with_reducible refine sound_snd (by assumption) ?_)
    | (with_reducible refine sound_fst (by assumption) ?_)
    | (split))

theorem execPortRetry_sound {E : List Part} {base : State} (hE : [Part.objects, Part.recorder, Part.alarms, Part.gnss] ⊆ E) (t port : Nat) (s : State)
    (fine : Sound E base (s.heard t)) : Kept E base (execPortRetry t port s) := by
  have k0 : [Part.objects, Part.recorder, Part.alarms, Part.gnss] ⊆ E := List.Subset.trans (by decide) hE
  unfold execPortRetry
  repeat' (first
    | (with_reducible assumption)
    | (dsimp only)
    | ((with_reducible apply State.portSearch_sound k0))
    | (with_reducible refine run_kept _ _ _ (fun s fine => ?_) ?_)
    | (with_reducible refine live_kept _ _ _ (fun s fine => ?_) ?_)
    | (with_reducible refine ported_kept _ _ _ (fun s fine => ?_) ?_)
    | (with_reducible refine sound_ite (fun _ => ?_) (fun _ => ?_))
    | (with_reducible refine sound_foldl (fun s x h => ?_) ?_)
    | (with_reducible refine sound_foldl2 (fun s x h => ?_) ?_)
    | (with_reducible refine sound_snd (by assumption) ?_)
    | (with_reducible refine sound_fst (by assumption) ?_)
    | (split))

theorem execFrontendInit_sound {E : List Part} {base : State} (hE : [Part.objects, Part.gnss, Part.wires] ⊆ E) (t port : Nat) (s : State)
    (fine : Sound E base (s.heard t)) : Kept E base (execFrontendInit t port s) := by
  have k0 : [Part.wires] ⊆ E := List.Subset.trans (by decide) hE
  have k1 : [Part.objects] ⊆ E := List.Subset.trans (by decide) hE
  have k2 : [Part.gnss] ⊆ E := List.Subset.trans (by decide) hE
  unfold execFrontendInit
  repeat' (first
    | (with_reducible assumption)
    | (dsimp only)
    | ((with_reducible apply State.tell_sound k0))
    | ((with_reducible apply State.setBit_sound k1))
    | ((with_reducible apply State.modPort_sound k2))
    | (with_reducible refine run_kept _ _ _ (fun s fine => ?_) ?_)
    | (with_reducible refine live_kept _ _ _ (fun s fine => ?_) ?_)
    | (with_reducible refine ported_kept _ _ _ (fun s fine => ?_) ?_)
    | (with_reducible refine sound_ite (fun _ => ?_) (fun _ => ?_)))

theorem execStreamLevelCheck_sound {E : List Part} {base : State} (hE : [Part.objects] ⊆ E) (t port stream : Nat) (counts : List Nat) (s : State)
    (fine : Sound E base (s.heard t)) : Kept E base (execStreamLevelCheck t port stream counts s) := by
  have k0 : [Part.objects] ⊆ E := List.Subset.trans (by decide) hE
  unfold execStreamLevelCheck
  repeat' (first
    | (with_reducible assumption)
    | (dsimp only)
    | ((with_reducible apply State.setObj_sound k0))
    | ((with_reducible apply State.raiseBit_sound k0))
    | (with_reducible refine run_kept _ _ _ (fun s fine => ?_) ?_)
    | (with_reducible refine live_kept _ _ _ (fun s fine => ?_) ?_)
    | (with_reducible refine ported_kept _ _ _ (fun s fine => ?_) ?_)
    | (with_reducible refine sound_ite (fun _ => ?_) (fun _ => ?_)))

theorem execIfLaneCheckerLock_sound {E : List Part} {base : State} (hE : [Part.objects, Part.recorder, Part.alarms, Part.gnss] ⊆ E) (t port lane : Nat) (bits : List Bool) (s : State)
    (fine : Sound E base (s.heard t)) : Kept E base (execIfLaneCheckerLock t port lane bits s) := by
  have k0 : [Part.objects, Part.recorder, Part.alarms] ⊆ E := List.Subset.trans (by decide) hE
  have k1 : [Part.objects] ⊆ E := List.Subset.trans (by decide) hE
  have k2 : [Part.gnss] ⊆ E := List.Subset.trans (by decide) hE
  unfold execIfLaneCheckerLock
  repeat' (first
    | (with_reducible assumption)
    | (dsimp only)
    | ((with_reducible apply State.countBy_sound k0))
    | ((with_reducible apply State.setBit_sound k1))
    | ((with_reducible apply State.modPort_sound k2))
    | (with_reducible refine run_kept _ _ _ (fun s fine => ?_) ?_)
    | (with_reducible refine live_kept _ _ _ (fun s fine => ?_) ?_)
    | (with_reducible refine ported_kept _ _ _ (fun s fine => ?_) ?_)
    | (with_reducible refine sound_ite (fun _ => ?_) (fun _ => ?_)))

theorem execChannelAssign_sound {E : List Part} {base : State} (hE : [Part.objects, Part.gnss] ⊆ E) (t port : Nat) (sky : List SatPrediction) (s : State)
    (fine : Sound E base (s.heard t)) : Kept E base (execChannelAssign t port sky s) := by
  have k0 : [Part.objects, Part.gnss] ⊆ E := List.Subset.trans (by decide) hE
  unfold execChannelAssign
  repeat' (first
    | (with_reducible assumption)
    | (dsimp only)
    | ((with_reducible apply State.assignSignal_sound k0))
    | ((with_reducible apply State.assignBlind_sound k0))
    | (with_reducible refine run_kept _ _ _ (fun s fine => ?_) ?_)
    | (with_reducible refine live_kept _ _ _ (fun s fine => ?_) ?_)
    | (with_reducible refine ported_kept _ _ _ (fun s fine => ?_) ?_)
    | (with_reducible refine sound_ite (fun _ => ?_) (fun _ => ?_))
    | (with_reducible refine sound_foldl (fun s x h => ?_) ?_))

theorem execChannelRelease_sound {E : List Part} {base : State} (hE : [Part.objects, Part.gnss] ⊆ E) (t port c : Nat) (elevation10 : Int) (unhealthy : Bool) (s : State)
    (fine : Sound E base (s.heard t)) : Kept E base (execChannelRelease t port c elevation10 unhealthy s) := by
  have k0 : [Part.objects, Part.gnss] ⊆ E := List.Subset.trans (by decide) hE
  unfold execChannelRelease
  repeat' (first
    | (with_reducible assumption)
    | (dsimp only)
    | ((with_reducible apply State.chanOff_sound k0))
    | (with_reducible refine run_kept _ _ _ (fun s fine => ?_) ?_)
    | (with_reducible refine live_kept _ _ _ (fun s fine => ?_) ?_)
    | (with_reducible refine ported_kept _ _ _ (fun s fine => ?_) ?_)
    | (with_reducible refine sound_ite (fun _ => ?_) (fun _ => ?_)))

theorem execAcqJobStart_sound {E : List Part} {base : State} (hE : [Part.gnss] ⊆ E) (t : Nat) (s : State)
    (fine : Sound E base (s.heard t)) : Kept E base (execAcqJobStart t s) := by
  have h_gnss : Part.gnss ∈ E := hE (by decide)
  unfold execAcqJobStart
  repeat' (first
    | (with_reducible assumption)
    | (dsimp only)
    | (with_reducible refine run_kept _ _ _ (fun s fine => ?_) ?_)
    | (with_reducible refine live_kept _ _ _ (fun s fine => ?_) ?_)
    | (with_reducible refine ported_kept _ _ _ (fun s fine => ?_) ?_)
    | (with_reducible refine sound_ite (fun _ => ?_) (fun _ => ?_))
    | (with_reducible refine sound_foldl (fun s x h => ?_) ?_)
    | (with_reducible refine sound_foldl2 (fun s x h => ?_) ?_)
    | (fail_if_no_progress with_reducible refine Sound.upd_gnss h_gnss _ ?_)
    | (with_reducible refine sound_snd (by assumption) ?_)
    | (with_reducible refine sound_fst (by assumption) ?_)
    | (split))

theorem execAcqJobEnd_sound {E : List Part} {base : State} (hE : [Part.objects, Part.recorder, Part.alarms, Part.gnss] ⊆ E) (t : Nat) (capture : List (List IfSample)) (first last : Nat) (s : State)
    (fine : Sound E base (s.heard t)) : Kept E base (execAcqJobEnd t capture first last s) := by
  have h_gnss : Part.gnss ∈ E := hE (by decide)
  have k0 : [Part.objects, Part.recorder, Part.alarms] ⊆ E := List.Subset.trans (by decide) hE
  have k1 : [Part.objects, Part.gnss] ⊆ E := List.Subset.trans (by decide) hE
  unfold execAcqJobEnd
  repeat' (first
    | (with_reducible assumption)
    | (dsimp only)
    | ((with_reducible apply State.count_sound k0))
    | ((with_reducible apply State.jobResult_sound k1))
    | (with_reducible refine run_kept _ _ _ (fun s fine => ?_) ?_)
    | (with_reducible refine live_kept _ _ _ (fun s fine => ?_) ?_)
    | (with_reducible refine ported_kept _ _ _ (fun s fine => ?_) ?_)
    | (with_reducible refine sound_ite (fun _ => ?_) (fun _ => ?_))
    | (with_reducible refine sound_foldl (fun s x h => ?_) ?_)
    | (with_reducible refine sound_foldl2 (fun s x h => ?_) ?_)
    | (fail_if_no_progress with_reducible refine Sound.upd_gnss h_gnss _ ?_)
    | (with_reducible refine sound_snd (by assumption) ?_)
    | (with_reducible refine sound_fst (by assumption) ?_)
    | (split))

theorem execIntegrationDump_sound {E : List Part} {base : State} (hE : [Part.objects, Part.gnss] ⊆ E) (t port c : Nat) (samples : List IfSample) (nav : Option NavEvent) (s : State)
    (fine : Sound E base (s.heard t)) : Kept E base (execIntegrationDump t port c samples nav s) := by
  have k0 : [Part.objects] ⊆ E := List.Subset.trans (by decide) hE
  have k1 : [Part.objects, Part.gnss] ⊆ E := List.Subset.trans (by decide) hE
  unfold execIntegrationDump
  repeat' (first
    | (with_reducible assumption)
    | (dsimp only)
    | ((with_reducible apply State.navEvent_sound k0))
    | ((with_reducible apply State.phaseSlip_sound k0))
    | ((with_reducible apply State.sidePeak_sound k0))
    | ((with_reducible apply State.putChan_sound k1))
    | (with_reducible refine run_kept _ _ _ (fun s fine => ?_) ?_)
    | (with_reducible refine live_kept _ _ _ (fun s fine => ?_) ?_)
    | (with_reducible refine ported_kept _ _ _ (fun s fine => ?_) ?_)
    | (with_reducible refine sound_ite (fun _ => ?_) (fun _ => ?_))
    | (with_reducible refine sound_foldl (fun s x h => ?_) ?_)
    | (with_reducible refine sound_foldl2 (fun s x h => ?_) ?_)
    | (with_reducible refine sound_snd (by assumption) ?_)
    | (with_reducible refine sound_fst (by assumption) ?_)
    | (split))

theorem execDetectorWindow_sound {E : List Part} {base : State} (hE : [Part.objects, Part.gnss] ⊆ E) (t port c : Nat) (s : State)
    (fine : Sound E base (s.heard t)) : Kept E base (execDetectorWindow t port c s) := by
  have k0 : [Part.objects] ⊆ E := List.Subset.trans (by decide) hE
  have k1 : [Part.objects, Part.gnss] ⊆ E := List.Subset.trans (by decide) hE
  unfold execDetectorWindow
  repeat' (first
    | (with_reducible assumption)
    | (dsimp only)
    | ((with_reducible apply State.setObjs_sound k0))
    | ((with_reducible apply State.windowMoves_sound k1))
    | (with_reducible refine run_kept _ _ _ (fun s fine => ?_) ?_)
    | (with_reducible refine live_kept _ _ _ (fun s fine => ?_) ?_)
    | (with_reducible refine ported_kept _ _ _ (fun s fine => ?_) ?_)
    | (with_reducible refine sound_ite (fun _ => ?_) (fun _ => ?_))
    | (with_reducible refine sound_foldl (fun s x h => ?_) ?_)
    | (with_reducible refine sound_foldl2 (fun s x h => ?_) ?_)
    | (with_reducible refine sound_snd (by assumption) ?_)
    | (with_reducible refine sound_fst (by assumption) ?_)
    | (split))

theorem execPullinTimeout_sound {E : List Part} {base : State} (hE : [Part.objects, Part.recorder, Part.alarms, Part.gnss] ⊆ E) (t port c : Nat) (s : State)
    (fine : Sound E base (s.heard t)) : Kept E base (execPullinTimeout t port c s) := by
  have k0 : [Part.objects, Part.recorder, Part.alarms] ⊆ E := List.Subset.trans (by decide) hE
  have k1 : [Part.objects, Part.gnss] ⊆ E := List.Subset.trans (by decide) hE
  unfold execPullinTimeout
  repeat' (first
    | (with_reducible assumption)
    | (dsimp only)
    | ((with_reducible apply State.count_sound k0))
    | ((with_reducible apply State.toSearch_sound k1))
    | (with_reducible refine run_kept _ _ _ (fun s fine => ?_) ?_)
    | (with_reducible refine live_kept _ _ _ (fun s fine => ?_) ?_)
    | (with_reducible refine ported_kept _ _ _ (fun s fine => ?_) ?_)
    | (with_reducible refine sound_ite (fun _ => ?_) (fun _ => ?_))
    | (with_reducible refine sound_foldl (fun s x h => ?_) ?_)
    | (with_reducible refine sound_foldl2 (fun s x h => ?_) ?_)
    | (with_reducible refine sound_snd (by assumption) ?_)
    | (with_reducible refine sound_fst (by assumption) ?_)
    | (split))

theorem execReacqTimeout_sound {E : List Part} {base : State} (hE : [Part.objects, Part.gnss] ⊆ E) (t port c : Nat) (s : State)
    (fine : Sound E base (s.heard t)) : Kept E base (execReacqTimeout t port c s) := by
  have h_gnss : Part.gnss ∈ E := hE (by decide)
  have k0 : [Part.objects, Part.gnss] ⊆ E := List.Subset.trans (by decide) hE
  unfold execReacqTimeout
  repeat' (first
    | (with_reducible assumption)
    | (dsimp only)
    | ((with_reducible apply State.toSearch_sound k0))
    | (with_reducible refine run_kept _ _ _ (fun s fine => ?_) ?_)
    | (with_reducible refine live_kept _ _ _ (fun s fine => ?_) ?_)
    | (with_reducible refine ported_kept _ _ _ (fun s fine => ?_) ?_)
    | (with_reducible refine sound_ite (fun _ => ?_) (fun _ => ?_))
    | (with_reducible refine sound_foldl (fun s x h => ?_) ?_)
    | (with_reducible refine sound_foldl2 (fun s x h => ?_) ?_)
    | (fail_if_no_progress with_reducible refine Sound.upd_gnss h_gnss _ ?_)
    | (with_reducible refine sound_snd (by assumption) ?_)
    | (with_reducible refine sound_fst (by assumption) ?_)
    | (split))

theorem execMeasurementInstant_sound {E : List Part} {base : State} (hE : [Part.gsol] ⊆ E) (t : Nat) (s : State)
    (fine : Sound E base (s.heard t)) : Kept E base (execMeasurementInstant t s) := by
  have h_gsol : Part.gsol ∈ E := hE (by decide)
  unfold execMeasurementInstant
  repeat' (first
    | (with_reducible assumption)
    | (dsimp only)
    | (with_reducible refine run_kept _ _ _ (fun s fine => ?_) ?_)
    | (with_reducible refine live_kept _ _ _ (fun s fine => ?_) ?_)
    | (with_reducible refine ported_kept _ _ _ (fun s fine => ?_) ?_)
    | (with_reducible refine sound_ite (fun _ => ?_) (fun _ => ?_))
    | (with_reducible refine sound_foldl (fun s x h => ?_) ?_)
    | (with_reducible refine sound_foldl2 (fun s x h => ?_) ?_)
    | (fail_if_no_progress with_reducible refine Sound.upd_gsol h_gsol _ ?_)
    | (with_reducible refine sound_snd (by assumption) ?_)
    | (with_reducible refine sound_fst (by assumption) ?_)
    | (split))

theorem execMeasurementRecordReady_sound {E : List Part} {base : State} (hE : [Part.objects, Part.blobs, Part.pair, Part.gnss, Part.gsol, Part.diag, Part.wires, Part.free] ⊆ E) (t : Nat) (s : State)
    (fine : Sound E base (s.heard t)) : Kept E base (execMeasurementRecordReady t s) := by
  have h_gnss : Part.gnss ∈ E := hE (by decide)
  have h_gsol : Part.gsol ∈ E := hE (by decide)
  have k0 : [Part.objects] ⊆ E := List.Subset.trans (by decide) hE
  have k1 : [Part.blobs] ⊆ E := List.Subset.trans (by decide) hE
  have k2 : [Part.objects, Part.pair, Part.diag, Part.wires, Part.free] ⊆ E := List.Subset.trans (by decide) hE
  have k3 : [Part.pair] ⊆ E := List.Subset.trans (by decide) hE
  have k4 : [Part.gsol] ⊆ E := List.Subset.trans (by decide) hE
  unfold execMeasurementRecordReady
  repeat' (first
    | (with_reducible assumption)
    | (dsimp only)
    | ((with_reducible apply State.setObjs_sound k0))
    | ((with_reducible apply State.setBlob_sound k1))
    | ((with_reducible apply State.commitInput_sound k2))
    | ((with_reducible apply State.nameInput_sound k3))
    | ((with_reducible apply State.keepProduct_sound k4))
    | ((with_reducible apply State.unmarkInput_sound k3))
    | (with_reducible refine run_kept _ _ _ (fun s fine => ?_) ?_)
    | (with_reducible refine live_kept _ _ _ (fun s fine => ?_) ?_)
    | (with_reducible refine ported_kept _ _ _ (fun s fine => ?_) ?_)
    | (with_reducible refine sound_ite (fun _ => ?_) (fun _ => ?_))
    | (with_reducible refine sound_foldl (fun s x h => ?_) ?_)
    | (with_reducible refine sound_foldl2 (fun s x h => ?_) ?_)
    | (fail_if_no_progress with_reducible refine Sound.upd_gnss_gsol h_gnss h_gsol _ ?_))

theorem execSolutionReady_sound {E : List Part} {base : State} (hE : [Part.clock, Part.objects, Part.recorder, Part.pair, Part.alarms, Part.gsol, Part.align, Part.diag, Part.wires, Part.free] ⊆ E) (t which : Nat) (s : State)
    (fine : Sound E base (s.heard t)) : Kept E base (execSolutionReady t which s) := by
  have h_gsol : Part.gsol ∈ E := hE (by decide)
  have k0 : [Part.objects, Part.recorder, Part.alarms, Part.gsol] ⊆ E := List.Subset.trans (by decide) hE
  have k1 : [Part.objects] ⊆ E := List.Subset.trans (by decide) hE
  have k2 : [Part.objects, Part.pair, Part.diag, Part.wires, Part.free] ⊆ E := List.Subset.trans (by decide) hE
  have k3 : [Part.pair] ⊆ E := List.Subset.trans (by decide) hE
  have k4 : [Part.gsol] ⊆ E := List.Subset.trans (by decide) hE
  have k5 : [Part.objects, Part.recorder, Part.alarms, Part.align] ⊆ E := List.Subset.trans (by decide) hE
  have k6 : [Part.clock] ⊆ E := List.Subset.trans (by decide) hE
  have k7 : [Part.clock, Part.objects] ⊆ E := List.Subset.trans (by decide) hE
  unfold execSolutionReady
  repeat' (first
    | (with_reducible assumption)
    | (dsimp only)
    | ((with_reducible apply State.baselines_sound k0))
    | ((with_reducible apply State.setObjs_sound k1))
    | ((with_reducible apply State.setObj_sound k1))
    | ((with_reducible apply State.commitInput_sound k2))
    | ((with_reducible apply State.nameInput_sound k3))
    | ((with_reducible apply State.keepProduct_sound k4))
    | ((with_reducible apply State.productSample_sound k5))
    | ((with_reducible apply State.unmarkInput_sound k3))
    | ((with_reducible apply State.clockRun_sound k6))
    | ((with_reducible apply State.servo_sound k7))
    | ((with_reducible apply State.ownOffset_sound k1))
    | (with_reducible refine run_kept _ _ _ (fun s fine => ?_) ?_)
    | (with_reducible refine live_kept _ _ _ (fun s fine => ?_) ?_)
    | (with_reducible refine ported_kept _ _ _ (fun s fine => ?_) ?_)
    | (with_reducible refine sound_ite (fun _ => ?_) (fun _ => ?_))
    | (with_reducible refine sound_foldl (fun s x h => ?_) ?_)
    | (with_reducible refine sound_foldl2 (fun s x h => ?_) ?_)
    | (fail_if_no_progress with_reducible refine Sound.upd_gsol h_gsol _ ?_))

theorem execAttitudeReady_sound {E : List Part} {base : State} (hE : [Part.objects, Part.recorder, Part.pair, Part.alarms, Part.gsol, Part.align, Part.diag, Part.wires, Part.free] ⊆ E) (t : Nat) (s : State)
    (fine : Sound E base (s.heard t)) : Kept E base (execAttitudeReady t s) := by
  have h_gsol : Part.gsol ∈ E := hE (by decide)
  have k0 : [Part.objects, Part.recorder, Part.alarms, Part.gsol] ⊆ E := List.Subset.trans (by decide) hE
  have k1 : [Part.objects] ⊆ E := List.Subset.trans (by decide) hE
  have k2 : [Part.objects, Part.pair, Part.diag, Part.wires, Part.free] ⊆ E := List.Subset.trans (by decide) hE
  have k3 : [Part.pair] ⊆ E := List.Subset.trans (by decide) hE
  have k4 : [Part.gsol] ⊆ E := List.Subset.trans (by decide) hE
  have k5 : [Part.align] ⊆ E := List.Subset.trans (by decide) hE
  unfold execAttitudeReady
  repeat' (first
    | (with_reducible assumption)
    | (dsimp only)
    | ((with_reducible apply State.baselines_sound k0))
    | ((with_reducible apply State.setObjs_sound k1))
    | ((with_reducible apply State.commitInput_sound k2))
    | ((with_reducible apply State.nameInput_sound k3))
    | ((with_reducible apply State.keepProduct_sound k4))
    | ((with_reducible apply State.attitudeProduct_sound k5))
    | ((with_reducible apply State.unmarkInput_sound k3))
    | (with_reducible refine run_kept _ _ _ (fun s fine => ?_) ?_)
    | (with_reducible refine live_kept _ _ _ (fun s fine => ?_) ?_)
    | (with_reducible refine ported_kept _ _ _ (fun s fine => ?_) ?_)
    | (with_reducible refine sound_ite (fun _ => ?_) (fun _ => ?_))
    | (with_reducible refine sound_foldl (fun s x h => ?_) ?_)
    | (with_reducible refine sound_foldl2 (fun s x h => ?_) ?_)
    | (fail_if_no_progress with_reducible refine Sound.upd_gsol h_gsol _ ?_))

theorem execKeptDataWrite_sound {E : List Part} {base : State} (hE : [Part.clock, Part.objects, Part.mram, Part.gsol] ⊆ E) (t : Nat) (w : KeptWrite) (s : State)
    (fine : Sound E base (s.heard t)) : Kept E base (execKeptDataWrite t w s) := by
  have h_gsol : Part.gsol ∈ E := hE (by decide)
  have k0 : [Part.mram] ⊆ E := List.Subset.trans (by decide) hE
  have k1 : [Part.clock, Part.objects] ⊆ E := List.Subset.trans (by decide) hE
  unfold execKeptDataWrite
  repeat' (first
    | (with_reducible assumption)
    | (dsimp only)
    | ((with_reducible apply State.putKept_sound k0))
    | ((with_reducible apply State.putUtc_sound k1))
    | (with_reducible refine run_kept _ _ _ (fun s fine => ?_) ?_)
    | (with_reducible refine live_kept _ _ _ (fun s fine => ?_) ?_)
    | (with_reducible refine ported_kept _ _ _ (fun s fine => ?_) ?_)
    | (with_reducible refine sound_ite (fun _ => ?_) (fun _ => ?_))
    | (with_reducible refine sound_foldl (fun s x h => ?_) ?_)
    | (with_reducible refine sound_foldl2 (fun s x h => ?_) ?_)
    | (fail_if_no_progress with_reducible refine Sound.upd_gsol h_gsol _ ?_)
    | (with_reducible refine sound_snd (by assumption) ?_)
    | (with_reducible refine sound_fst (by assumption) ?_)
    | (split))

theorem execHarbourWake_sound {E : List Part} {base : State} (hE : [Part.objects, Part.gsol] ⊆ E) (t : Nat) (s : State)
    (fine : Sound E base (s.heard t)) : Kept E base (execHarbourWake t s) := by
  have h_gsol : Part.gsol ∈ E := hE (by decide)
  have k0 : [Part.objects] ⊆ E := List.Subset.trans (by decide) hE
  unfold execHarbourWake
  repeat' (first
    | (with_reducible assumption)
    | (dsimp only)
    | ((with_reducible apply State.setObj_sound k0))
    | (with_reducible refine run_kept _ _ _ (fun s fine => ?_) ?_)
    | (with_reducible refine live_kept _ _ _ (fun s fine => ?_) ?_)
    | (with_reducible refine ported_kept _ _ _ (fun s fine => ?_) ?_)
    | (with_reducible refine sound_ite (fun _ => ?_) (fun _ => ?_))
    | (with_reducible refine sound_foldl (fun s x h => ?_) ?_)
    | (with_reducible refine sound_foldl2 (fun s x h => ?_) ?_)
    | (fail_if_no_progress with_reducible refine Sound.upd_gsol h_gsol _ ?_))

theorem execHarbourWakeEnd_sound {E : List Part} {base : State} (hE : [Part.objects, Part.recorder, Part.alarms, Part.gnss] ⊆ E) (t : Nat) (lacking : Bool) (s : State)
    (fine : Sound E base (s.heard t)) : Kept E base (execHarbourWakeEnd t lacking s) := by
  have k0 : [Part.objects, Part.recorder, Part.alarms] ⊆ E := List.Subset.trans (by decide) hE
  have k1 : [Part.objects, Part.gnss] ⊆ E := List.Subset.trans (by decide) hE
  unfold execHarbourWakeEnd
  repeat' (first
    | (with_reducible assumption)
    | (dsimp only)
    | ((with_reducible apply State.count_sound k0))
    | ((with_reducible apply State.harbourSleep_sound k1))
    | (with_reducible refine run_kept _ _ _ (fun s fine => ?_) ?_)
    | (with_reducible refine live_kept _ _ _ (fun s fine => ?_) ?_)
    | (with_reducible refine ported_kept _ _ _ (fun s fine => ?_) ?_)
    | (with_reducible refine sound_ite (fun _ => ?_) (fun _ => ?_)))

theorem execWarmStateWrite_sound {E : List Part} {base : State} (hE : [Part.mram, Part.est] ⊆ E) (t : Nat) (s : State)
    (fine : Sound E base (s.heard t)) : Kept E base (execWarmStateWrite t s) := by
  have h_mram : Part.mram ∈ E := hE (by decide)
  have h_est : Part.est ∈ E := hE (by decide)
  unfold execWarmStateWrite
  repeat' (first
    | (with_reducible assumption)
    | (dsimp only)
    | (with_reducible refine run_kept _ _ _ (fun s fine => ?_) ?_)
    | (with_reducible refine live_kept _ _ _ (fun s fine => ?_) ?_)
    | (with_reducible refine ported_kept _ _ _ (fun s fine => ?_) ?_)
    | (with_reducible refine sound_ite (fun _ => ?_) (fun _ => ?_))
    | (with_reducible refine sound_foldl (fun s x h => ?_) ?_)
    | (with_reducible refine sound_foldl2 (fun s x h => ?_) ?_)
    | (fail_if_no_progress with_reducible refine Sound.upd_mram_est h_mram h_est _ ?_))

theorem execTrackProcessing_sound {E : List Part} {base : State} (hE : [Part.objects, Part.recorder, Part.alarms, Part.align, Part.trk, Part.free] ⊆ E) (t : Nat) (s : State)
    (fine : Sound E base (s.heard t)) : Kept E base (execTrackProcessing t s) := by
  have h_align : Part.align ∈ E := hE (by decide)
  have h_trk : Part.trk ∈ E := hE (by decide)
  have k0 : [Part.objects, Part.recorder, Part.alarms, Part.trk, Part.free] ⊆ E := List.Subset.trans (by decide) hE
  have k1 : [Part.objects, Part.recorder, Part.alarms] ⊆ E := List.Subset.trans (by decide) hE
  have k2 : [Part.objects, Part.recorder, Part.alarms, Part.align, Part.trk, Part.free] ⊆ E := List.Subset.trans (by decide) hE
  unfold execTrackProcessing
  repeat' (first
    | (with_reducible assumption)
    | (dsimp only)
    | ((with_reducible apply State.expireTracks_sound k0))
    | ((with_reducible apply State.countBy_sound k1))
    | ((with_reducible apply State.scan_sound k2))
    | (with_reducible refine run_kept _ _ _ (fun s fine => ?_) ?_)
    | (with_reducible refine live_kept _ _ _ (fun s fine => ?_) ?_)
    | (with_reducible refine ported_kept _ _ _ (fun s fine => ?_) ?_)
    | (with_reducible refine sound_ite (fun _ => ?_) (fun _ => ?_))
    | (with_reducible refine sound_foldl (fun s x h => ?_) ?_)
    | (with_reducible refine sound_foldl2 (fun s x h => ?_) ?_)
    | (fail_if_no_progress with_reducible refine Sound.upd_trk h_trk _ ?_)
    | (fail_if_no_progress with_reducible refine Sound.upd_align_trk h_align h_trk _ ?_))

theorem execTrackTimeout_sound {E : List Part} {base : State} (hE : [Part.objects, Part.recorder, Part.alarms, Part.trk, Part.free] ⊆ E) (t track : Nat) (s : State)
    (fine : Sound E base (s.heard t)) : Kept E base (execTrackTimeout t track s) := by
  have k0 : [Part.objects, Part.recorder, Part.alarms, Part.trk, Part.free] ⊆ E := List.Subset.trans (by decide) hE
  unfold execTrackTimeout
  repeat' (first
    | (with_reducible assumption)
    | (dsimp only)
    | ((with_reducible apply State.freeTrack_sound k0))
    | (with_reducible refine run_kept _ _ _ (fun s fine => ?_) ?_)
    | (with_reducible refine live_kept _ _ _ (fun s fine => ?_) ?_)
    | (with_reducible refine ported_kept _ _ _ (fun s fine => ?_) ?_)
    | (with_reducible refine sound_ite (fun _ => ?_) (fun _ => ?_)))

theorem execEngineStart_sound {E : List Part} {base : State} (hE : [Part.objects, Part.recorder, Part.alarms, Part.est, Part.ctl] ⊆ E) (t : Nat) (s : State)
    (fine : Sound E base (s.heard t)) : Kept E base (execEngineStart t s) := by
  have k0 : [Part.objects, Part.recorder, Part.alarms, Part.est, Part.ctl] ⊆ E := List.Subset.trans (by decide) hE
  unfold execEngineStart
  repeat' (first
    | (with_reducible assumption)
    | (dsimp only)
    | ((with_reducible apply State.engine_sound k0))
    | (with_reducible refine run_kept _ _ _ (fun s fine => ?_) ?_)
    | (with_reducible refine live_kept _ _ _ (fun s fine => ?_) ?_)
    | (with_reducible refine ported_kept _ _ _ (fun s fine => ?_) ?_)
    | (with_reducible refine sound_ite (fun _ => ?_) (fun _ => ?_)))

theorem execRingFrameStart_sound {E : List Part} {base : State} (hE : [Part.objects, Part.recorder, Part.alarms, Part.ring, Part.diag, Part.wires, Part.free] ⊆ E) (t : Nat) (s : State)
    (fine : Sound E base (s.heard t)) : Kept E base (execRingFrameStart t s) := by
  have h_ring : Part.ring ∈ E := hE (by decide)
  have k0 : [Part.objects, Part.recorder, Part.alarms, Part.ring, Part.diag] ⊆ E := List.Subset.trans (by decide) hE
  have k1 : [Part.ring] ⊆ E := List.Subset.trans (by decide) hE
  have k2 : [Part.objects] ⊆ E := List.Subset.trans (by decide) hE
  have k3 : [Part.objects, Part.diag, Part.wires, Part.free] ⊆ E := List.Subset.trans (by decide) hE
  unfold execRingFrameStart
  repeat' (first
    | (with_reducible assumption)
    | (dsimp only)
    | ((with_reducible apply State.judgeFrame_sound k0))
    | ((with_reducible apply State.buildFrame_sound k1))
    | ((with_reducible apply State.setObj_sound k2))
    | ((with_reducible apply State.setObjs_sound k2))
    | ((with_reducible apply State.frameContainers_sound k1))
    | ((with_reducible apply State.sendRing_sound k3))
    | (with_reducible refine run_kept _ _ _ (fun s fine => ?_) ?_)
    | (with_reducible refine live_kept _ _ _ (fun s fine => ?_) ?_)
    | (with_reducible refine ported_kept _ _ _ (fun s fine => ?_) ?_)
    | (with_reducible refine sound_ite (fun _ => ?_) (fun _ => ?_))
    | (with_reducible refine sound_foldl (fun s x h => ?_) ?_)
    | (with_reducible refine sound_foldl2 (fun s x h => ?_) ?_)
    | (fail_if_no_progress with_reducible refine Sound.upd_ring h_ring _ ?_))

theorem execRingPacketForward_sound {E : List Part} {base : State} (hE : [Part.objects, Part.recorder, Part.alarms, Part.ring, Part.diag, Part.wires, Part.free] ⊆ E) (t port : Nat) (pkt : List Byte) (twin : Twin) (s : State)
    (fine : Sound E base (s.heard t)) : Kept E base (execRingPacketForward t port pkt twin s) := by
  have k0 : [Part.objects, Part.recorder, Part.alarms, Part.ring, Part.diag, Part.wires, Part.free] ⊆ E := List.Subset.trans (by decide) hE
  unfold execRingPacketForward
  repeat' (first
    | (with_reducible assumption)
    | (dsimp only)
    | ((with_reducible apply State.passPacket_sound k0))
    | (with_reducible refine run_kept _ _ _ (fun s fine => ?_) ?_)
    | (with_reducible refine live_kept _ _ _ (fun s fine => ?_) ?_)
    | (with_reducible refine ported_kept _ _ _ (fun s fine => ?_) ?_)
    | (with_reducible refine sound_ite (fun _ => ?_) (fun _ => ?_)))

theorem execCommandSectionRx_sound {E : List Part} {base : State} (hE : [Part.objects, Part.ring] ⊆ E) (t port : Nat) (pkt : List Byte) (subPs : Nat) (s : State)
    (fine : Sound E base (s.heard t)) : Kept E base (execCommandSectionRx t port pkt subPs s) := by
  have h_ring : Part.ring ∈ E := hE (by decide)
  have k0 : [Part.ring] ⊆ E := List.Subset.trans (by decide) hE
  have k1 : [Part.objects] ⊆ E := List.Subset.trans (by decide) hE
  unfold execCommandSectionRx
  repeat' (first
    | (with_reducible assumption)
    | (dsimp only)
    | ((with_reducible apply State.modRingPort_sound k0))
    | ((with_reducible apply State.setObj_sound k1))
    | (with_reducible refine run_kept _ _ _ (fun s fine => ?_) ?_)
    | (with_reducible refine live_kept _ _ _ (fun s fine => ?_) ?_)
    | (with_reducible refine ported_kept _ _ _ (fun s fine => ?_) ?_)
    | (with_reducible refine sound_ite (fun _ => ?_) (fun _ => ?_))
    | (with_reducible refine sound_foldl (fun s x h => ?_) ?_)
    | (with_reducible refine sound_foldl2 (fun s x h => ?_) ?_)
    | (fail_if_no_progress with_reducible refine Sound.upd_ring h_ring _ ?_)
    | (with_reducible refine sound_snd (by assumption) ?_)
    | (with_reducible refine sound_fst (by assumption) ?_)
    | (split))

theorem execCommandSectionReturn_sound {E : List Part} {base : State} (hE : [Part.objects, Part.recorder, Part.alarms] ⊆ E) (t ringNo : Nat) (pkt : Option (List Byte)) (subPs : Nat) (s : State)
    (fine : Sound E base (s.heard t)) : Kept E base (execCommandSectionReturn t ringNo pkt subPs s) := by
  have k0 : [Part.objects] ⊆ E := List.Subset.trans (by decide) hE
  have k1 : [Part.objects, Part.recorder, Part.alarms] ⊆ E := List.Subset.trans (by decide) hE
  unfold execCommandSectionReturn
  repeat' (first
    | (with_reducible assumption)
    | (dsimp only)
    | ((with_reducible apply State.setObj_sound k0))
    | ((with_reducible apply State.setBit_sound k0))
    | ((with_reducible apply State.alarmIf_sound k1))
    | (with_reducible refine run_kept _ _ _ (fun s fine => ?_) ?_)
    | (with_reducible refine live_kept _ _ _ (fun s fine => ?_) ?_)
    | (with_reducible refine ported_kept _ _ _ (fun s fine => ?_) ?_)
    | (with_reducible refine sound_ite (fun _ => ?_) (fun _ => ?_))
    | (with_reducible refine sound_foldl (fun s x h => ?_) ?_)
    | (with_reducible refine sound_foldl2 (fun s x h => ?_) ?_)
    | (with_reducible refine sound_snd (by assumption) ?_)
    | (with_reducible refine sound_fst (by assumption) ?_)
    | (split))

theorem execSyncPacketRx_sound {E : List Part} {base : State} (hE : [Part.clock, Part.objects, Part.held, Part.recorder, Part.pair, Part.alarms, Part.gnss, Part.gsol, Part.intake, Part.align, Part.est, Part.trk, Part.ctl, Part.ring, Part.srv, Part.saf, Part.net, Part.diag, Part.user] ⊆ E) (t port : Nat) (pkt : List Byte) (s : State)
    (fine : Sound E base (s.heard t)) : Kept E base (execSyncPacketRx t port pkt s) := by
  have h_clock : Part.clock ∈ E := hE (by decide)
  have h_ring : Part.ring ∈ E := hE (by decide)
  have k0 : [Part.ring] ⊆ E := List.Subset.trans (by decide) hE
  have k1 : [Part.objects] ⊆ E := List.Subset.trans (by decide) hE
  have k2 : [Part.objects, Part.recorder, Part.diag] ⊆ E := List.Subset.trans (by decide) hE
  have k3 : [Part.clock, Part.objects, Part.held, Part.recorder, Part.pair, Part.alarms, Part.gnss, Part.gsol, Part.intake, Part.align, Part.est, Part.trk, Part.ctl, Part.ring, Part.srv, Part.saf, Part.net, Part.user] ⊆ E := List.Subset.trans (by decide) hE
  unfold execSyncPacketRx
  repeat' (first
    | (with_reducible assumption)
    | (dsimp only)
    | ((with_reducible apply State.modRingPort_sound k0))
    | ((with_reducible apply State.setObjs_sound k1))
    | ((with_reducible apply State.recheckTests_sound k2))
    | ((with_reducible apply State.follow_sound k3))
    | (with_reducible refine run_kept _ _ _ (fun s fine => ?_) ?_)
    | (with_reducible refine live_kept _ _ _ (fun s fine => ?_) ?_)
    | (with_reducible refine ported_kept _ _ _ (fun s fine => ?_) ?_)
    | (with_reducible refine sound_ite (fun _ => ?_) (fun _ => ?_))
    | (with_reducible refine sound_foldl (fun s x h => ?_) ?_)
    | (with_reducible refine sound_foldl2 (fun s x h => ?_) ?_)
    | (fail_if_no_progress with_reducible refine Sound.upd_ring h_ring _ ?_)
    | (fail_if_no_progress with_reducible refine Sound.upd_clock h_clock _ ?_)
    | (fail_if_no_progress with_reducible refine Sound.upd_clock_ring h_clock h_ring _ ?_)
    | (with_reducible refine sound_snd (by assumption) ?_)
    | (with_reducible refine sound_fst (by assumption) ?_)
    | (split))

theorem execRingTimeLoss_sound {E : List Part} {base : State} (hE : [Part.clock, Part.objects] ⊆ E) (t : Nat) (s : State)
    (fine : Sound E base (s.heard t)) : Kept E base (execRingTimeLoss t s) := by
  have k0 : [Part.clock, Part.objects] ⊆ E := List.Subset.trans (by decide) hE
  unfold execRingTimeLoss
  repeat' (first
    | (with_reducible assumption)
    | (dsimp only)
    | ((with_reducible apply State.enterHoldover_sound k0))
    | (with_reducible refine run_kept _ _ _ (fun s fine => ?_) ?_)
    | (with_reducible refine live_kept _ _ _ (fun s fine => ?_) ?_)
    | (with_reducible refine ported_kept _ _ _ (fun s fine => ?_) ?_)
    | (with_reducible refine sound_ite (fun _ => ?_) (fun _ => ?_)))

theorem execFeedbackPacketPass_sound {E : List Part} {base : State} (hE : [Part.objects, Part.recorder, Part.alarms, Part.ring, Part.diag, Part.wires, Part.free] ⊆ E) (t port : Nat) (pkt : List Byte) (twin : Twin) (s : State)
    (fine : Sound E base (s.heard t)) : Kept E base (execFeedbackPacketPass t port pkt twin s) := by
  have h_ring : Part.ring ∈ E := hE (by decide)
  have k0 : [Part.objects, Part.recorder, Part.alarms, Part.ring, Part.diag, Part.wires, Part.free] ⊆ E := List.Subset.trans (by decide) hE
  unfold execFeedbackPacketPass
  repeat' (first
    | (with_reducible assumption)
    | (dsimp only)
    | ((with_reducible apply State.passPacket_sound k0))
    | (with_reducible refine run_kept _ _ _ (fun s fine => ?_) ?_)
    | (with_reducible refine live_kept _ _ _ (fun s fine => ?_) ?_)
    | (with_reducible refine ported_kept _ _ _ (fun s fine => ?_) ?_)
    | (with_reducible refine sound_ite (fun _ => ?_) (fun _ => ?_))
    | (with_reducible refine sound_foldl (fun s x h => ?_) ?_)
    | (with_reducible refine sound_foldl2 (fun s x h => ?_) ?_)
    | (fail_if_no_progress with_reducible refine Sound.upd_ring h_ring _ ?_))

theorem execFeedbackPacketReturn_sound {E : List Part} {base : State} (hE : [Part.objects, Part.recorder, Part.alarms, Part.ring] ⊆ E) (t ringNo : Nat) (pkt : List Byte) (s : State)
    (fine : Sound E base (s.heard t)) : Kept E base (execFeedbackPacketReturn t ringNo pkt s) := by
  have h_ring : Part.ring ∈ E := hE (by decide)
  have k0 : [Part.objects, Part.recorder, Part.alarms, Part.ring] ⊆ E := List.Subset.trans (by decide) hE
  have k1 : [Part.objects, Part.ring] ⊆ E := List.Subset.trans (by decide) hE
  have k2 : [Part.objects] ⊆ E := List.Subset.trans (by decide) hE
  have k3 : [Part.objects, Part.recorder, Part.alarms] ⊆ E := List.Subset.trans (by decide) hE
  unfold execFeedbackPacketReturn
  repeat' (first
    | (with_reducible assumption)
    | (dsimp only)
    | ((with_reducible apply State.heardPort_sound k0))
    | ((with_reducible apply State.takeSlot_sound k1))
    | ((with_reducible apply State.setObjs_sound k2))
    | ((with_reducible apply State.count_sound k3))
    | ((with_reducible apply State.setBit_sound k2))
    | ((with_reducible apply State.alarmIf_sound k3))
    | (with_reducible refine run_kept _ _ _ (fun s fine => ?_) ?_)
    | (with_reducible refine live_kept _ _ _ (fun s fine => ?_) ?_)
    | (with_reducible refine ported_kept _ _ _ (fun s fine => ?_) ?_)
    | (with_reducible refine sound_ite (fun _ => ?_) (fun _ => ?_))
    | (with_reducible refine sound_foldl (fun s x h => ?_) ?_)
    | (with_reducible refine sound_foldl2 (fun s x h => ?_) ?_)
    | (fail_if_no_progress with_reducible refine Sound.upd_ring h_ring _ ?_))

theorem execOwnerExpiry_sound {E : List Part} {base : State} (hE : [Part.ring] ⊆ E) (t pair : Nat) (s : State)
    (fine : Sound E base (s.heard t)) : Kept E base (execOwnerExpiry t pair s) := by
  have h_ring : Part.ring ∈ E := hE (by decide)
  unfold execOwnerExpiry
  repeat' (first
    | (with_reducible assumption)
    | (dsimp only)
    | (with_reducible refine run_kept _ _ _ (fun s fine => ?_) ?_)
    | (with_reducible refine live_kept _ _ _ (fun s fine => ?_) ?_)
    | (with_reducible refine ported_kept _ _ _ (fun s fine => ?_) ?_)
    | (with_reducible refine sound_ite (fun _ => ?_) (fun _ => ?_))
    | (with_reducible refine sound_foldl (fun s x h => ?_) ?_)
    | (with_reducible refine sound_foldl2 (fun s x h => ?_) ?_)
    | (fail_if_no_progress with_reducible refine Sound.upd_ring h_ring _ ?_))

theorem execRingLinkDown_sound {E : List Part} {base : State} (hE : [Part.objects, Part.recorder, Part.alarms, Part.ring, Part.diag] ⊆ E) (t port : Nat) (cause : LinkCause) (heldNs : Nat) (s : State)
    (fine : Sound E base (s.heard t)) : Kept E base (execRingLinkDown t port cause heldNs s) := by
  have k0 : [Part.objects, Part.recorder, Part.alarms, Part.ring] ⊆ E := List.Subset.trans (by decide) hE
  have k1 : [Part.objects, Part.recorder, Part.diag] ⊆ E := List.Subset.trans (by decide) hE
  unfold execRingLinkDown
  repeat' (first
    | (with_reducible assumption)
    | (dsimp only)
    | ((with_reducible apply State.portFalls_sound k0))
    | ((with_reducible apply State.recheckTests_sound k1))
    | (with_reducible refine run_kept _ _ _ (fun s fine => ?_) ?_)
    | (with_reducible refine live_kept _ _ _ (fun s fine => ?_) ?_)
    | (with_reducible refine ported_kept _ _ _ (fun s fine => ?_) ?_)
    | (with_reducible refine sound_ite (fun _ => ?_) (fun _ => ?_)))

theorem execRingUnwrap_sound {E : List Part} {base : State} (hE : [Part.objects, Part.ring] ⊆ E) (t port : Nat) (s : State)
    (fine : Sound E base (s.heard t)) : Kept E base (execRingUnwrap t port s) := by
  have k0 : [Part.ring] ⊆ E := List.Subset.trans (by decide) hE
  have k1 : [Part.objects] ⊆ E := List.Subset.trans (by decide) hE
  unfold execRingUnwrap
  repeat' (first
    | (with_reducible assumption)
    | (dsimp only)
    | ((with_reducible apply State.modRingPort_sound k0))
    | ((with_reducible apply State.showPort_sound k1))
    | (with_reducible refine run_kept _ _ _ (fun s fine => ?_) ?_)
    | (with_reducible refine live_kept _ _ _ (fun s fine => ?_) ?_)
    | (with_reducible refine ported_kept _ _ _ (fun s fine => ?_) ?_)
    | (with_reducible refine sound_ite (fun _ => ?_) (fun _ => ?_)))

theorem execContainerPass_sound {E : List Part} {base : State} (hE : [Part.objects, Part.recorder, Part.alarms, Part.ring, Part.diag, Part.wires, Part.free] ⊆ E) (t port : Nat) (pkt : List Byte) (twin : Twin) (s : State)
    (fine : Sound E base (s.heard t)) : Kept E base (execContainerPass t port pkt twin s) := by
  have k0 : [Part.objects, Part.recorder, Part.alarms, Part.ring, Part.diag, Part.wires, Part.free] ⊆ E := List.Subset.trans (by decide) hE
  have k1 : [Part.objects, Part.recorder, Part.alarms, Part.ring, Part.wires] ⊆ E := List.Subset.trans (by decide) hE
  have k2 : [Part.ring] ⊆ E := List.Subset.trans (by decide) hE
  have k3 : [Part.objects, Part.recorder, Part.alarms, Part.ring] ⊆ E := List.Subset.trans (by decide) hE
  have k4 : [Part.objects, Part.diag, Part.wires, Part.free] ⊆ E := List.Subset.trans (by decide) hE
  unfold execContainerPass
  repeat' (first
    | (with_reducible assumption)
    | (dsimp only)
    | ((with_reducible apply State.passPacket_sound k0))
    | ((with_reducible apply State.readOnce_sound k1))
    | ((with_reducible apply State.fillContainer_sound k2))
    | ((with_reducible apply State.heardPort_sound k3))
    | ((with_reducible apply State.sendRing_sound k4))
    | (with_reducible refine run_kept _ _ _ (fun s fine => ?_) ?_)
    | (with_reducible refine live_kept _ _ _ (fun s fine => ?_) ?_)
    | (with_reducible refine ported_kept _ _ _ (fun s fine => ?_) ?_)
    | (with_reducible refine sound_ite (fun _ => ?_) (fun _ => ?_))
    | (with_reducible refine sound_foldl (fun s x h => ?_) ?_)
    | (with_reducible refine sound_foldl2 (fun s x h => ?_) ?_)
    | (with_reducible refine sound_snd (by assumption) ?_)
    | (with_reducible refine sound_fst (by assumption) ?_)
    | (split))

theorem execPbtripChange_sound {E : List Part} {base : State} (hE : [Part.alc] ⊆ E) (t bus : Nat) (energised : Bool) (heldNs : Nat) (s : State)
    (fine : Sound E base (s.heard t)) : Kept E base (execPbtripChange t bus energised heldNs s) := by
  have h_alc : Part.alc ∈ E := hE (by decide)
  unfold execPbtripChange
  repeat' (first
    | (with_reducible assumption)
    | (dsimp only)
    | (with_reducible refine run_kept _ _ _ (fun s fine => ?_) ?_)
    | (with_reducible refine live_kept _ _ _ (fun s fine => ?_) ?_)
    | (with_reducible refine ported_kept _ _ _ (fun s fine => ?_) ?_)
    | (with_reducible refine sound_ite (fun _ => ?_) (fun _ => ?_))
    | (with_reducible refine sound_foldl (fun s x h => ?_) ?_)
    | (with_reducible refine sound_foldl2 (fun s x h => ?_) ?_)
    | (fail_if_no_progress with_reducible refine Sound.upd_alc h_alc _ ?_))

theorem execSsiBurst_sound {E : List Part} {base : State} (hE : [Part.objects, Part.recorder, Part.pair, Part.alarms, Part.srv, Part.diag, Part.wires, Part.free] ⊆ E) (t encoder word : Nat) (lowAtStart : Bool) (s : State)
    (fine : Sound E base (s.heard t)) : Kept E base (execSsiBurst t encoder word lowAtStart s) := by
  have k0 : [Part.wires] ⊆ E := List.Subset.trans (by decide) hE
  have k1 : [Part.srv] ⊆ E := List.Subset.trans (by decide) hE
  have k2 : [Part.objects, Part.pair, Part.diag, Part.wires, Part.free] ⊆ E := List.Subset.trans (by decide) hE
  have k3 : [Part.objects, Part.recorder, Part.alarms, Part.srv] ⊆ E := List.Subset.trans (by decide) hE
  unfold execSsiBurst
  repeat' (first
    | (with_reducible assumption)
    | (dsimp only)
    | ((with_reducible apply State.tell_sound k0))
    | ((with_reducible apply State.modEnc_sound k1))
    | ((with_reducible apply State.commitInput_sound k2))
    | ((with_reducible apply State.encoderAngle_sound k3))
    | (with_reducible refine run_kept _ _ _ (fun s fine => ?_) ?_)
    | (with_reducible refine live_kept _ _ _ (fun s fine => ?_) ?_)
    | (with_reducible refine ported_kept _ _ _ (fun s fine => ?_) ?_)
    | (with_reducible refine sound_ite (fun _ => ?_) (fun _ => ?_)))

theorem execEnableTimeout_sound {E : List Part} {base : State} (hE : [Part.objects, Part.recorder, Part.alarms, Part.srv] ⊆ E) (t thruster : Nat) (s : State)
    (fine : Sound E base (s.heard t)) : Kept E base (execEnableTimeout t thruster s) := by
  have k0 : [Part.objects, Part.recorder, Part.alarms, Part.srv] ⊆ E := List.Subset.trans (by decide) hE
  unfold execEnableTimeout
  repeat' (first
    | (with_reducible assumption)
    | (dsimp only)
    | ((with_reducible apply State.timedThr_sound k0))
    | (with_reducible refine run_kept _ _ _ (fun s fine => ?_) ?_)
    | (with_reducible refine live_kept _ _ _ (fun s fine => ?_) ?_))

theorem execDriveDropTimeout_sound {E : List Part} {base : State} (hE : [Part.objects, Part.recorder, Part.alarms, Part.srv] ⊆ E) (t thruster : Nat) (s : State)
    (fine : Sound E base (s.heard t)) : Kept E base (execDriveDropTimeout t thruster s) := by
  have k0 : [Part.objects, Part.recorder, Part.alarms, Part.srv] ⊆ E := List.Subset.trans (by decide) hE
  unfold execDriveDropTimeout
  repeat' (first
    | (with_reducible assumption)
    | (dsimp only)
    | ((with_reducible apply State.timedThr_sound k0))
    | (with_reducible refine run_kept _ _ _ (fun s fine => ?_) ?_)
    | (with_reducible refine live_kept _ _ _ (fun s fine => ?_) ?_))

theorem execStaleHoldTimeout_sound {E : List Part} {base : State} (hE : [Part.objects, Part.recorder, Part.alarms, Part.srv] ⊆ E) (t thruster : Nat) (s : State)
    (fine : Sound E base (s.heard t)) : Kept E base (execStaleHoldTimeout t thruster s) := by
  have k0 : [Part.objects, Part.recorder, Part.alarms, Part.srv] ⊆ E := List.Subset.trans (by decide) hE
  unfold execStaleHoldTimeout
  repeat' (first
    | (with_reducible assumption)
    | (dsimp only)
    | ((with_reducible apply State.timedThr_sound k0))
    | (with_reducible refine run_kept _ _ _ (fun s fine => ?_) ?_)
    | (with_reducible refine live_kept _ _ _ (fun s fine => ?_) ?_))

theorem execOffDelayExpiry_sound {E : List Part} {base : State} (hE : [Part.objects, Part.recorder, Part.alarms, Part.srv] ⊆ E) (t thruster : Nat) (s : State)
    (fine : Sound E base (s.heard t)) : Kept E base (execOffDelayExpiry t thruster s) := by
  have k0 : [Part.objects, Part.recorder, Part.alarms, Part.srv] ⊆ E := List.Subset.trans (by decide) hE
  unfold execOffDelayExpiry
  repeat' (first
    | (with_reducible assumption)
    | (dsimp only)
    | ((with_reducible apply State.timedThr_sound k0))
    | (with_reducible refine run_kept _ _ _ (fun s fine => ?_) ?_)
    | (with_reducible refine live_kept _ _ _ (fun s fine => ?_) ?_))

theorem execDrvfbChange_sound {E : List Part} {base : State} (hE : [Part.objects, Part.pair, Part.srv, Part.diag, Part.wires, Part.free] ⊆ E) (t thruster : Nat) (energised : Bool) (heldNs : Nat) (s : State)
    (fine : Sound E base (s.heard t)) : Kept E base (execDrvfbChange t thruster energised heldNs s) := by
  have k0 : [Part.objects, Part.pair, Part.diag, Part.wires, Part.free] ⊆ E := List.Subset.trans (by decide) hE
  have k1 : [Part.srv] ⊆ E := List.Subset.trans (by decide) hE
  unfold execDrvfbChange
  repeat' (first
    | (with_reducible assumption)
    | (dsimp only)
    | ((with_reducible apply State.commitInput_sound k0))
    | ((with_reducible apply State.driveLevel_sound k1))
    | (with_reducible refine run_kept _ _ _ (fun s fine => ?_) ?_)
    | (with_reducible refine live_kept _ _ _ (fun s fine => ?_) ?_)
    | (with_reducible refine ported_kept _ _ _ (fun s fine => ?_) ?_)
    | (with_reducible refine sound_ite (fun _ => ?_) (fun _ => ?_)))

theorem execDacFrame_sound {E : List Part} {base : State} (hE : [Part.objects, Part.recorder, Part.alarms, Part.ctl, Part.srv, Part.wires] ⊆ E) (t : Nat) (s : State)
    (fine : Sound E base (s.heard t)) : Kept E base (execDacFrame t s) := by
  have h_srv : Part.srv ∈ E := hE (by decide)
  have k0 : [Part.objects, Part.recorder, Part.alarms, Part.ctl, Part.srv, Part.wires] ⊆ E := List.Subset.trans (by decide) hE
  have k1 : [Part.wires] ⊆ E := List.Subset.trans (by decide) hE
  unfold execDacFrame
  repeat' (first
    | (with_reducible assumption)
    | (dsimp only)
    | ((with_reducible apply State.driveEnable_sound k0))
    | ((with_reducible apply State.dacPort_sound k1))
    | (with_reducible refine run_kept _ _ _ (fun s fine => ?_) ?_)
    | (with_reducible refine live_kept _ _ _ (fun s fine => ?_) ?_)
    | (with_reducible refine ported_kept _ _ _ (fun s fine => ?_) ?_)
    | (with_reducible refine sound_ite (fun _ => ?_) (fun _ => ?_))
    | (with_reducible refine sound_foldl (fun s x h => ?_) ?_)
    | (with_reducible refine sound_foldl2 (fun s x h => ?_) ?_)
    | (fail_if_no_progress with_reducible refine Sound.upd_srv h_srv _ ?_))

theorem execSafeInputChange_sound {E : List Part} {base : State} (hE : [Part.objects, Part.recorder, Part.pair, Part.alarms, Part.saf, Part.diag, Part.wires, Part.free] ⊆ E) (t input : Nat) (energised : Bool) (heldNs : Nat) (s : State)
    (fine : Sound E base (s.heard t)) : Kept E base (execSafeInputChange t input energised heldNs s) := by
  have k0 : [Part.objects] ⊆ E := List.Subset.trans (by decide) hE
  have k1 : [Part.objects, Part.recorder, Part.alarms, Part.saf] ⊆ E := List.Subset.trans (by decide) hE
  have k2 : [Part.objects, Part.recorder, Part.pair, Part.alarms, Part.saf, Part.diag, Part.wires, Part.free] ⊆ E := List.Subset.trans (by decide) hE
  unfold execSafeInputChange
  repeat' (first
    | (with_reducible assumption)
    | (dsimp only)
    | ((with_reducible apply State.setBit_sound k0))
    | ((with_reducible apply State.acceptLevel_sound k1))
    | ((with_reducible apply State.safetyEval_sound k2))
    | (with_reducible refine run_kept _ _ _ (fun s fine => ?_) ?_)
    | (with_reducible refine live_kept _ _ _ (fun s fine => ?_) ?_)
    | (with_reducible refine ported_kept _ _ _ (fun s fine => ?_) ?_)
    | (with_reducible refine sound_ite (fun _ => ?_) (fun _ => ?_)))

theorem execSfADiscrepancy_sound {E : List Part} {base : State} (hE : [Part.objects, Part.recorder, Part.pair, Part.alarms, Part.saf, Part.diag, Part.wires, Part.free] ⊆ E) (t thruster : Nat) (s : State)
    (fine : Sound E base (s.heard t)) : Kept E base (execSfADiscrepancy t thruster s) := by
  have k0 : [Part.saf] ⊆ E := List.Subset.trans (by decide) hE
  have k1 : [Part.objects, Part.recorder, Part.pair, Part.alarms, Part.saf, Part.diag, Part.wires, Part.free] ⊆ E := List.Subset.trans (by decide) hE
  unfold execSfADiscrepancy
  repeat' (first
    | (with_reducible assumption)
    | (dsimp only)
    | ((with_reducible apply State.modStop_sound k0))
    | ((with_reducible apply State.safetyEval_sound k1))
    | (with_reducible refine run_kept _ _ _ (fun s fine => ?_) ?_)
    | (with_reducible refine live_kept _ _ _ (fun s fine => ?_) ?_)
    | (with_reducible refine ported_kept _ _ _ (fun s fine => ?_) ?_)
    | (with_reducible refine sound_ite (fun _ => ?_) (fun _ => ?_))
    | (with_reducible refine sound_foldl (fun s x h => ?_) ?_)
    | (with_reducible refine sound_foldl2 (fun s x h => ?_) ?_)
    | (with_reducible refine sound_snd (by assumption) ?_)
    | (with_reducible refine sound_fst (by assumption) ?_)
    | (split))

theorem execSfAResetPulse_sound {E : List Part} {base : State} (hE : [Part.objects, Part.recorder, Part.pair, Part.alarms, Part.saf, Part.diag, Part.wires, Part.free] ⊆ E) (t thruster : Nat) (s : State)
    (fine : Sound E base (s.heard t)) : Kept E base (execSfAResetPulse t thruster s) := by
  have k0 : [Part.saf] ⊆ E := List.Subset.trans (by decide) hE
  have k1 : [Part.objects, Part.recorder, Part.pair, Part.alarms, Part.saf, Part.diag, Part.wires, Part.free] ⊆ E := List.Subset.trans (by decide) hE
  unfold execSfAResetPulse
  repeat' (first
    | (with_reducible assumption)
    | (dsimp only)
    | ((with_reducible apply State.modIn_sound k0))
    | ((with_reducible apply State.sfaReset_sound k1))
    | (with_reducible refine run_kept _ _ _ (fun s fine => ?_) ?_)
    | (with_reducible refine live_kept _ _ _ (fun s fine => ?_) ?_)
    | (with_reducible refine ported_kept _ _ _ (fun s fine => ?_) ?_)
    | (with_reducible refine sound_ite (fun _ => ?_) (fun _ => ?_))
    | (with_reducible refine sound_foldl (fun s x h => ?_) ?_)
    | (with_reducible refine sound_foldl2 (fun s x h => ?_) ?_)
    | (with_reducible refine sound_snd (by assumption) ?_)
    | (with_reducible refine sound_fst (by assumption) ?_)
    | (split))

theorem execTestPulse_sound {E : List Part} {base : State} (hE : [Part.objects, Part.recorder, Part.alarms, Part.intake, Part.saf, Part.diag, Part.wires, Part.free] ⊆ E) (t supply : Nat) (before : List Bool) (drops : List (Option Nat)) (s : State)
    (fine : Sound E base (s.heard t)) : Kept E base (execTestPulse t supply before drops s) := by
  have h_saf : Part.saf ∈ E := hE (by decide)
  have k0 : [Part.wires] ⊆ E := List.Subset.trans (by decide) hE
  have k1 : [Part.objects, Part.recorder, Part.alarms, Part.intake, Part.saf, Part.diag, Part.free] ⊆ E := List.Subset.trans (by decide) hE
  unfold execTestPulse
  repeat' (first
    | (with_reducible assumption)
    | (dsimp only)
    | ((with_reducible apply State.tell_sound k0))
    | ((with_reducible apply State.pulseRead_sound k1))
    | (with_reducible refine run_kept _ _ _ (fun s fine => ?_) ?_)
    | (with_reducible refine live_kept _ _ _ (fun s fine => ?_) ?_)
    | (with_reducible refine ported_kept _ _ _ (fun s fine => ?_) ?_)
    | (with_reducible refine sound_ite (fun _ => ?_) (fun _ => ?_))
    | (with_reducible refine sound_foldl (fun s x h => ?_) ?_)
    | (with_reducible refine sound_foldl2 (fun s x h => ?_) ?_)
    | (fail_if_no_progress with_reducible refine Sound.upd_saf h_saf _ ?_))

theorem execTestFrameCheck_sound {E : List Part} {base : State} (hE : [Part.objects, Part.recorder, Part.pair, Part.alarms, Part.saf, Part.diag, Part.wires, Part.free] ⊆ E) (t : Nat) (s : State)
    (fine : Sound E base (s.heard t)) : Kept E base (execTestFrameCheck t s) := by
  have h_saf : Part.saf ∈ E := hE (by decide)
  have h_diag : Part.diag ∈ E := hE (by decide)
  have k0 : [Part.objects, Part.recorder, Part.alarms, Part.saf, Part.diag] ⊆ E := List.Subset.trans (by decide) hE
  have k1 : [Part.objects, Part.recorder, Part.pair, Part.alarms, Part.saf, Part.diag, Part.wires, Part.free] ⊆ E := List.Subset.trans (by decide) hE
  unfold execTestFrameCheck
  repeat' (first
    | (with_reducible assumption)
    | (dsimp only)
    | ((with_reducible apply State.frameCheck_sound k0))
    | ((with_reducible apply State.safetyEval_sound k1))
    | (with_reducible refine run_kept _ _ _ (fun s fine => ?_) ?_)
    | (with_reducible refine live_kept _ _ _ (fun s fine => ?_) ?_)
    | (with_reducible refine ported_kept _ _ _ (fun s fine => ?_) ?_)
    | (with_reducible refine sound_ite (fun _ => ?_) (fun _ => ?_))
    | (with_reducible refine sound_foldl (fun s x h => ?_) ?_)
    | (with_reducible refine sound_foldl2 (fun s x h => ?_) ?_)
    | (fail_if_no_progress with_reducible refine Sound.upd_saf_diagn h_saf h_diag _ ?_))

theorem execSsOverload_sound {E : List Part} {base : State} (hE : [Part.objects, Part.recorder, Part.pair, Part.alarms, Part.saf, Part.diag, Part.wires, Part.free] ⊆ E) (t supply milliamps heldNs : Nat) (s : State)
    (fine : Sound E base (s.heard t)) : Kept E base (execSsOverload t supply milliamps heldNs s) := by
  have h_saf : Part.saf ∈ E := hE (by decide)
  have k0 : [Part.objects] ⊆ E := List.Subset.trans (by decide) hE
  have k1 : [Part.objects, Part.recorder, Part.alarms] ⊆ E := List.Subset.trans (by decide) hE
  have k2 : [Part.objects, Part.recorder, Part.alarms, Part.saf] ⊆ E := List.Subset.trans (by decide) hE
  have k3 : [Part.objects, Part.recorder, Part.pair, Part.alarms, Part.saf, Part.diag, Part.wires, Part.free] ⊆ E := List.Subset.trans (by decide) hE
  unfold execSsOverload
  repeat' (first
    | (with_reducible assumption)
    | (dsimp only)
    | ((with_reducible apply State.setBit_sound k0))
    | ((with_reducible apply State.count_sound k1))
    | ((with_reducible apply State.showSupplies_sound k0))
    | ((with_reducible apply State.dropInputs_sound k2))
    | ((with_reducible apply State.safetyEval_sound k3))
    | (with_reducible refine run_kept _ _ _ (fun s fine => ?_) ?_)
    | (with_reducible refine live_kept _ _ _ (fun s fine => ?_) ?_)
    | (with_reducible refine ported_kept _ _ _ (fun s fine => ?_) ?_)
    | (with_reducible refine sound_ite (fun _ => ?_) (fun _ => ?_))
    | (with_reducible refine sound_foldl (fun s x h => ?_) ?_)
    | (with_reducible refine sound_foldl2 (fun s x h => ?_) ?_)
    | (fail_if_no_progress with_reducible refine Sound.upd_saf h_saf _ ?_))

theorem execSsRetry_sound {E : List Part} {base : State} (hE : [Part.objects, Part.saf] ⊆ E) (t supply : Nat) (s : State)
    (fine : Sound E base (s.heard t)) : Kept E base (execSsRetry t supply s) := by
  have h_saf : Part.saf ∈ E := hE (by decide)
  have k0 : [Part.objects] ⊆ E := List.Subset.trans (by decide) hE
  unfold execSsRetry
  repeat' (first
    | (with_reducible assumption)
    | (dsimp only)
    | ((with_reducible apply State.showSupplies_sound k0))
    | (with_reducible refine run_kept _ _ _ (fun s fine => ?_) ?_)
    | (with_reducible refine live_kept _ _ _ (fun s fine => ?_) ?_)
    | (with_reducible refine ported_kept _ _ _ (fun s fine => ?_) ?_)
    | (with_reducible refine sound_ite (fun _ => ?_) (fun _ => ?_))
    | (with_reducible refine sound_foldl (fun s x h => ?_) ?_)
    | (with_reducible refine sound_foldl2 (fun s x h => ?_) ?_)
    | (fail_if_no_progress with_reducible refine Sound.upd_saf h_saf _ ?_)
    | (with_reducible refine sound_snd (by assumption) ?_)
    | (with_reducible refine sound_fst (by assumption) ?_)
    | (split))

theorem execSoChannelTest_sound {E : List Part} {base : State} (hE : [Part.objects, Part.recorder, Part.pair, Part.alarms, Part.saf, Part.diag, Part.wires, Part.free] ⊆ E) (t output channel : Nat) (first second rb1 rb2 : Bool) (s : State)
    (fine : Sound E base (s.heard t)) : Kept E base (execSoChannelTest t output channel first second rb1 rb2 s) := by
  have k0 : [Part.objects] ⊆ E := List.Subset.trans (by decide) hE
  have k1 : [Part.saf] ⊆ E := List.Subset.trans (by decide) hE
  have k2 : [Part.wires] ⊆ E := List.Subset.trans (by decide) hE
  have k3 : [Part.objects, Part.recorder, Part.pair, Part.alarms, Part.saf, Part.diag, Part.wires, Part.free] ⊆ E := List.Subset.trans (by decide) hE
  unfold execSoChannelTest
  repeat' (first
    | (with_reducible assumption)
    | (dsimp only)
    | ((with_reducible apply State.setMirrors_sound k0))
    | ((with_reducible apply State.modSo_sound k1))
    | ((with_reducible apply State.tell_sound k2))
    | ((with_reducible apply State.sfeLatch_sound k3))
    | ((with_reducible apply State.showDemands_sound k3))
    | (with_reducible refine run_kept _ _ _ (fun s fine => ?_) ?_)
    | (with_reducible refine live_kept _ _ _ (fun s fine => ?_) ?_)
    | (with_reducible refine ported_kept _ _ _ (fun s fine => ?_) ?_)
    | (with_reducible refine sound_ite (fun _ => ?_) (fun _ => ?_)))

theorem execSoReadbackTimeout_sound {E : List Part} {base : State} (hE : [Part.objects, Part.recorder, Part.pair, Part.alarms, Part.saf, Part.diag, Part.wires, Part.free] ⊆ E) (t output : Nat) (rb1 rb2 : Bool) (s : State)
    (fine : Sound E base (s.heard t)) : Kept E base (execSoReadbackTimeout t output rb1 rb2 s) := by
  have k0 : [Part.objects] ⊆ E := List.Subset.trans (by decide) hE
  have k1 : [Part.objects, Part.recorder, Part.pair, Part.alarms, Part.saf, Part.diag, Part.wires, Part.free] ⊆ E := List.Subset.trans (by decide) hE
  have k2 : [Part.saf] ⊆ E := List.Subset.trans (by decide) hE
  unfold execSoReadbackTimeout
  repeat' (first
    | (with_reducible assumption)
    | (dsimp only)
    | ((with_reducible apply State.setMirrors_sound k0))
    | ((with_reducible apply State.sfeLatch_sound k1))
    | ((with_reducible apply State.modSo_sound k2))
    | ((with_reducible apply State.showDemands_sound k1))
    | (with_reducible refine run_kept _ _ _ (fun s fine => ?_) ?_)
    | (with_reducible refine live_kept _ _ _ (fun s fine => ?_) ?_)
    | (with_reducible refine ported_kept _ _ _ (fun s fine => ?_) ?_)
    | (with_reducible refine sound_ite (fun _ => ?_) (fun _ => ?_)))

theorem execLaneUp_sound {E : List Part} {base : State} (hE : [Part.power, Part.ident, Part.clock, Part.objects, Part.held, Part.recorder, Part.pair, Part.alarms, Part.tap, Part.ctl, Part.srv, Part.saf, Part.diag, Part.wires, Part.free] ⊆ E) (t lane : Nat) (far : FarStraps) (partner : Option PairRole) (partnerActiveNs : Nat) (s : State)
    (fine : Sound E base (s.heard t)) : Kept E base (execLaneUp t lane far partner partnerActiveNs s) := by
  have h_pair : Part.pair ∈ E := hE (by decide)
  have k0 : [Part.pair] ⊆ E := List.Subset.trans (by decide) hE
  have k1 : [Part.objects] ⊆ E := List.Subset.trans (by decide) hE
  have k2 : [Part.objects, Part.recorder, Part.alarms] ⊆ E := List.Subset.trans (by decide) hE
  have k3 : [Part.ident, Part.clock, Part.objects, Part.held, Part.recorder, Part.pair, Part.alarms, Part.tap, Part.ctl, Part.srv, Part.saf, Part.diag, Part.wires, Part.free] ⊆ E := List.Subset.trans (by decide) hE
  have k4 : [Part.power, Part.clock, Part.objects, Part.held, Part.recorder, Part.pair, Part.alarms, Part.tap, Part.ctl, Part.srv, Part.saf, Part.diag, Part.wires, Part.free] ⊆ E := List.Subset.trans (by decide) hE
  unfold execLaneUp
  repeat' (first
    | (with_reducible assumption)
    | (dsimp only)
    | ((with_reducible apply State.modLane_sound k0))
    | ((with_reducible apply State.showLane_sound k1))
    | ((with_reducible apply State.laneAlarm_sound k2))
    | ((with_reducible apply State.strapMismatch_sound k3))
    | ((with_reducible apply State.setObj_sound k1))
    | ((with_reducible apply State.resolveLink_sound k4))
    | (with_reducible refine run_kept _ _ _ (fun s fine => ?_) ?_)
    | (with_reducible refine live_kept _ _ _ (fun s fine => ?_) ?_)
    | (with_reducible refine ported_kept _ _ _ (fun s fine => ?_) ?_)
    | (with_reducible refine sound_ite (fun _ => ?_) (fun _ => ?_))
    | (with_reducible refine sound_foldl (fun s x h => ?_) ?_)
    | (with_reducible refine sound_foldl2 (fun s x h => ?_) ?_)
    | (fail_if_no_progress with_reducible refine Sound.upd_pair h_pair _ ?_ rfl))

theorem execLaneDown_sound {E : List Part} {base : State} (hE : [Part.power, Part.clock, Part.objects, Part.blobs, Part.held, Part.dict, Part.recorder, Part.pair, Part.alarms, Part.mram, Part.tap, Part.ctl, Part.ring, Part.srv, Part.saf, Part.net, Part.diag, Part.user, Part.wires, Part.free] ⊆ E) (t lane : Nat) (cause : LinkCause) (heldNs : Nat) (alive : Bool) (s : State)
    (fine : Sound E base (s.heard t)) : Kept E base (execLaneDown t lane cause heldNs alive s) := by
  have h_pair : Part.pair ∈ E := hE (by decide)
  have k0 : [Part.pair] ⊆ E := List.Subset.trans (by decide) hE
  have k1 : [Part.objects] ⊆ E := List.Subset.trans (by decide) hE
  have k2 : [Part.objects, Part.recorder, Part.alarms] ⊆ E := List.Subset.trans (by decide) hE
  have k3 : [Part.objects, Part.recorder, Part.diag] ⊆ E := List.Subset.trans (by decide) hE
  have k4 : [Part.power, Part.clock, Part.objects, Part.blobs, Part.held, Part.dict, Part.recorder, Part.pair, Part.alarms, Part.mram, Part.tap, Part.ctl, Part.ring, Part.srv, Part.saf, Part.net, Part.diag, Part.user, Part.wires, Part.free] ⊆ E := List.Subset.trans (by decide) hE
  unfold execLaneDown
  repeat' (first
    | (with_reducible assumption)
    | (dsimp only)
    | ((with_reducible apply State.modLane_sound k0))
    | ((with_reducible apply State.showLane_sound k1))
    | ((with_reducible apply State.count_sound k2))
    | ((with_reducible apply State.laneAlarm_sound k2))
    | ((with_reducible apply State.recheckTests_sound k3))
    | ((with_reducible apply State.linkLost_sound k4))
    | (with_reducible refine run_kept _ _ _ (fun s fine => ?_) ?_)
    | (with_reducible refine live_kept _ _ _ (fun s fine => ?_) ?_)
    | (with_reducible refine ported_kept _ _ _ (fun s fine => ?_) ?_)
    | (with_reducible refine sound_ite (fun _ => ?_) (fun _ => ?_))
    | (with_reducible refine sound_foldl (fun s x h => ?_) ?_)
    | (with_reducible refine sound_foldl2 (fun s x h => ?_) ?_)
    | (fail_if_no_progress with_reducible refine Sound.upd_pair h_pair _ ?_ rfl))

theorem execStartupWaitExpiry_sound {E : List Part} {base : State} (hE : [Part.power, Part.clock, Part.objects, Part.held, Part.recorder, Part.pair, Part.alarms, Part.tap, Part.ctl, Part.srv, Part.saf, Part.diag, Part.wires, Part.free] ⊆ E) (t : Nat) (alive : Bool) (s : State)
    (fine : Sound E base (s.heard t)) : Kept E base (execStartupWaitExpiry t alive s) := by
  have h_pair : Part.pair ∈ E := hE (by decide)
  have k0 : [Part.clock, Part.objects, Part.held, Part.recorder, Part.pair, Part.alarms, Part.tap, Part.ctl, Part.srv, Part.saf, Part.diag, Part.wires, Part.free] ⊆ E := List.Subset.trans (by decide) hE
  have k1 : [Part.power, Part.clock, Part.objects, Part.held, Part.recorder, Part.pair, Part.alarms, Part.tap, Part.ctl, Part.srv, Part.saf, Part.diag, Part.wires, Part.free] ⊆ E := List.Subset.trans (by decide) hE
  unfold execStartupWaitExpiry
  repeat' (first
    | (with_reducible assumption)
    | (dsimp only)
    | ((with_reducible apply State.roleTo_sound k0))
    | ((with_reducible apply State.claim_sound k1))
    | (with_reducible refine run_kept _ _ _ (fun s fine => ?_) ?_)
    | (with_reducible refine live_kept _ _ _ (fun s fine => ?_) ?_)
    | (with_reducible refine ported_kept _ _ _ (fun s fine => ?_) ?_)
    | (with_reducible refine sound_ite (fun _ => ?_) (fun _ => ?_))
    | (with_reducible refine sound_foldl (fun s x h => ?_) ?_)
    | (with_reducible refine sound_foldl2 (fun s x h => ?_) ?_)
    | (fail_if_no_progress with_reducible refine Sound.upd_pair h_pair _ ?_ rfl))

theorem execClaimWaitExpiry_sound {E : List Part} {base : State} (hE : [Part.power, Part.clock, Part.objects, Part.held, Part.recorder, Part.pair, Part.alarms, Part.tap, Part.ctl, Part.srv, Part.saf, Part.diag, Part.wires, Part.free] ⊆ E) (t : Nat) (s : State)
    (fine : Sound E base (s.heard t)) : Kept E base (execClaimWaitExpiry t s) := by
  have k0 : [Part.power, Part.clock, Part.objects, Part.held, Part.recorder, Part.pair, Part.alarms, Part.tap, Part.ctl, Part.srv, Part.saf, Part.diag, Part.wires, Part.free] ⊆ E := List.Subset.trans (by decide) hE
  unfold execClaimWaitExpiry
  repeat' (first
    | (with_reducible assumption)
    | (dsimp only)
    | ((with_reducible apply State.claim_sound k0))
    | (with_reducible refine run_kept _ _ _ (fun s fine => ?_) ?_)
    | (with_reducible refine live_kept _ _ _ (fun s fine => ?_) ?_)
    | (with_reducible refine ported_kept _ _ _ (fun s fine => ?_) ?_))

theorem execTakeOverIRise_sound {E : List Part} {base : State} (hE : [Part.pair] ⊆ E) (t : Nat) (s : State)
    (fine : Sound E base (s.heard t)) : Kept E base (execTakeOverIRise t s) := by
  have h_pair : Part.pair ∈ E := hE (by decide)
  unfold execTakeOverIRise
  repeat' (first
    | (with_reducible assumption)
    | (dsimp only)
    | (with_reducible refine run_kept _ _ _ (fun s fine => ?_) ?_)
    | (with_reducible refine live_kept _ _ _ (fun s fine => ?_) ?_)
    | (with_reducible refine ported_kept _ _ _ (fun s fine => ?_) ?_)
    | (with_reducible refine sound_ite (fun _ => ?_) (fun _ => ?_))
    | (with_reducible refine sound_foldl (fun s x h => ?_) ?_)
    | (with_reducible refine sound_foldl2 (fun s x h => ?_) ?_)
    | (fail_if_no_progress with_reducible refine Sound.upd_pair h_pair _ ?_ rfl))

theorem execTakeOverIFall_sound {E : List Part} {base : State} (hE : [Part.pair] ⊆ E) (t : Nat) (s : State)
    (fine : Sound E base (s.heard t)) : Kept E base (execTakeOverIFall t s) := by
  have h_pair : Part.pair ∈ E := hE (by decide)
  have k0 : [Part.pair] ⊆ E := List.Subset.trans (by decide) hE
  unfold execTakeOverIFall
  repeat' (first
    | (with_reducible assumption)
    | (dsimp only)
    | ((with_reducible apply State.decide'_sound k0))
    | (with_reducible refine run_kept _ _ _ (fun s fine => ?_) ?_)
    | (with_reducible refine live_kept _ _ _ (fun s fine => ?_) ?_)
    | (with_reducible refine ported_kept _ _ _ (fun s fine => ?_) ?_)
    | (with_reducible refine sound_ite (fun _ => ?_) (fun _ => ?_))
    | (with_reducible refine sound_foldl (fun s x h => ?_) ?_)
    | (with_reducible refine sound_foldl2 (fun s x h => ?_) ?_)
    | (fail_if_no_progress with_reducible refine Sound.upd_pair h_pair _ ?_ rfl))

theorem execRelease_sound {E : List Part} {base : State} (hE : [Part.pair] ⊆ E) (t lane blocks : Nat) (s : State)
    (fine : Sound E base (s.heard t)) : Kept E base (execRelease t lane blocks s) := by
  have k0 : [Part.pair] ⊆ E := List.Subset.trans (by decide) hE
  unfold execRelease
  repeat' (first
    | (with_reducible assumption)
    | (dsimp only)
    | ((with_reducible apply State.decide'_sound k0))
    | (with_reducible refine run_kept _ _ _ (fun s fine => ?_) ?_)
    | (with_reducible refine live_kept _ _ _ (fun s fine => ?_) ?_)
    | (with_reducible refine ported_kept _ _ _ (fun s fine => ?_) ?_)
    | (with_reducible refine sound_ite (fun _ => ?_) (fun _ => ?_)))

theorem execPartnerGone_sound {E : List Part} {base : State} (hE : [Part.clock, Part.objects, Part.blobs, Part.held, Part.recorder, Part.pair, Part.alarms, Part.tap, Part.gsol, Part.est, Part.ctl, Part.srv, Part.saf, Part.diag, Part.wires, Part.free] ⊆ E) (t lowNs : Nat) (s : State)
    (fine : Sound E base (s.heard t)) : Kept E base (execPartnerGone t lowNs s) := by
  have h_pair : Part.pair ∈ E := hE (by decide)
  have k0 : [Part.pair] ⊆ E := List.Subset.trans (by decide) hE
  have k1 : [Part.clock, Part.objects, Part.held, Part.recorder, Part.pair, Part.alarms, Part.tap, Part.ctl, Part.srv, Part.saf, Part.diag, Part.wires, Part.free] ⊆ E := List.Subset.trans (by decide) hE
  have k2 : [Part.clock, Part.objects, Part.blobs, Part.held, Part.recorder, Part.alarms, Part.gsol, Part.est, Part.ctl, Part.srv, Part.wires] ⊆ E := List.Subset.trans (by decide) hE
  unfold execPartnerGone
  repeat' (first
    | (with_reducible assumption)
    | (dsimp only)
    | ((with_reducible apply State.decide'_sound k0))
    | ((with_reducible apply State.roleTo_sound k1))
    | ((with_reducible apply State.startAfresh_sound k2))
    | (with_reducible refine run_kept _ _ _ (fun s fine => ?_) ?_)
    | (with_reducible refine live_kept _ _ _ (fun s fine => ?_) ?_)
    | (with_reducible refine ported_kept _ _ _ (fun s fine => ?_) ?_)
    | (with_reducible refine sound_ite (fun _ => ?_) (fun _ => ?_))
    | (with_reducible refine sound_foldl (fun s x h => ?_) ?_)
    | (with_reducible refine sound_foldl2 (fun s x h => ?_) ?_)
    | (fail_if_no_progress with_reducible refine Sound.upd_pair h_pair _ ?_ rfl)
    | (with_reducible refine sound_snd (by assumption) ?_)
    | (with_reducible refine sound_fst (by assumption) ?_)
    | (split))

theorem execBothActiveConflict_sound {E : List Part} {base : State} (hE : [Part.clock, Part.objects, Part.held, Part.recorder, Part.pair, Part.alarms, Part.tap, Part.ctl, Part.srv, Part.saf, Part.diag, Part.wires, Part.free] ⊆ E) (t : Nat) (s : State)
    (fine : Sound E base (s.heard t)) : Kept E base (execBothActiveConflict t s) := by
  have k0 : [Part.objects] ⊆ E := List.Subset.trans (by decide) hE
  have k1 : [Part.objects, Part.recorder, Part.alarms] ⊆ E := List.Subset.trans (by decide) hE
  have k2 : [Part.clock, Part.objects, Part.held, Part.recorder, Part.pair, Part.alarms, Part.tap, Part.ctl, Part.srv, Part.saf, Part.diag, Part.wires, Part.free] ⊆ E := List.Subset.trans (by decide) hE
  unfold execBothActiveConflict
  repeat' (first
    | (with_reducible assumption)
    | (dsimp only)
    | ((with_reducible apply State.setBit_sound k0))
    | ((with_reducible apply State.alarm_sound k1))
    | ((with_reducible apply State.roleTo_sound k2))
    | (with_reducible refine run_kept _ _ _ (fun s fine => ?_) ?_)
    | (with_reducible refine live_kept _ _ _ (fun s fine => ?_) ?_)
    | (with_reducible refine ported_kept _ _ _ (fun s fine => ?_) ?_)
    | (with_reducible refine sound_ite (fun _ => ?_) (fun _ => ?_)))

theorem execHardFault_sound {E : List Part} {base : State} (hE : [Part.clock, Part.objects, Part.held, Part.recorder, Part.pair, Part.alarms, Part.tap, Part.ctl, Part.srv, Part.saf, Part.diag, Part.wires, Part.free] ⊆ E) (t : Nat) (d : FaultDetector) (s : State)
    (fine : Sound E base (s.heard t)) : Kept E base (execHardFault t d s) := by
  have h_pair : Part.pair ∈ E := hE (by decide)
  have k0 : [Part.clock, Part.objects, Part.held, Part.recorder, Part.pair, Part.alarms, Part.tap, Part.ctl, Part.srv, Part.saf, Part.diag, Part.wires, Part.free] ⊆ E := List.Subset.trans (by decide) hE
  unfold execHardFault
  repeat' (first
    | (with_reducible assumption)
    | (dsimp only)
    | ((with_reducible apply State.hardFault_sound k0))
    | (with_reducible refine run_kept _ _ _ (fun s fine => ?_) ?_)
    | (with_reducible refine live_kept _ _ _ (fun s fine => ?_) ?_)
    | (with_reducible refine ported_kept _ _ _ (fun s fine => ?_) ?_)
    | (with_reducible refine sound_ite (fun _ => ?_) (fun _ => ?_))
    | (with_reducible refine sound_foldl (fun s x h => ?_) ?_)
    | (with_reducible refine sound_foldl2 (fun s x h => ?_) ?_)
    | (fail_if_no_progress with_reducible refine Sound.upd_pair h_pair _ ?_ rfl)
    | (with_reducible refine sound_snd (by assumption) ?_)
    | (with_reducible refine sound_fst (by assumption) ?_)
    | (split))

theorem execSuspectSelfTestDone_sound {E : List Part} {base : State} (hE : [Part.clock, Part.objects, Part.held, Part.recorder, Part.pair, Part.alarms, Part.tap, Part.ctl, Part.srv, Part.saf, Part.diag, Part.wires, Part.free] ⊆ E) (t : Nat) (passed : Bool) (s : State)
    (fine : Sound E base (s.heard t)) : Kept E base (execSuspectSelfTestDone t passed s) := by
  have h_pair : Part.pair ∈ E := hE (by decide)
  have k0 : [Part.clock, Part.objects, Part.held, Part.recorder, Part.pair, Part.alarms, Part.tap, Part.ctl, Part.srv, Part.saf, Part.diag, Part.wires, Part.free] ⊆ E := List.Subset.trans (by decide) hE
  unfold execSuspectSelfTestDone
  repeat' (first
    | (with_reducible assumption)
    | (dsimp only)
    | ((with_reducible apply State.goOffline_sound k0))
    | (with_reducible refine run_kept _ _ _ (fun s fine => ?_) ?_)
    | (with_reducible refine live_kept _ _ _ (fun s fine => ?_) ?_)
    | (with_reducible refine ported_kept _ _ _ (fun s fine => ?_) ?_)
    | (with_reducible refine sound_ite (fun _ => ?_) (fun _ => ?_))
    | (with_reducible refine sound_foldl (fun s x h => ?_) ?_)
    | (with_reducible refine sound_foldl2 (fun s x h => ?_) ?_)
    | (fail_if_no_progress with_reducible refine Sound.upd_pair h_pair _ ?_ rfl))

theorem execAutoRejoin_sound {E : List Part} {base : State} (hE : [Part.clock, Part.objects, Part.held, Part.recorder, Part.pair, Part.alarms, Part.tap, Part.ctl, Part.srv, Part.saf, Part.diag, Part.wires, Part.free] ⊆ E) (t : Nat) (s : State)
    (fine : Sound E base (s.heard t)) : Kept E base (execAutoRejoin t s) := by
  have h_pair : Part.pair ∈ E := hE (by decide)
  have k0 : [Part.clock, Part.objects, Part.held, Part.recorder, Part.pair, Part.alarms, Part.tap, Part.ctl, Part.srv, Part.saf, Part.diag, Part.wires, Part.free] ⊆ E := List.Subset.trans (by decide) hE
  unfold execAutoRejoin
  repeat' (first
    | (with_reducible assumption)
    | (dsimp only)
    | ((with_reducible apply State.rejoin_sound k0))
    | (with_reducible refine run_kept _ _ _ (fun s fine => ?_) ?_)
    | (with_reducible refine live_kept _ _ _ (fun s fine => ?_) ?_)
    | (with_reducible refine ported_kept _ _ _ (fun s fine => ?_) ?_)
    | (with_reducible refine sound_ite (fun _ => ?_) (fun _ => ?_))
    | (with_reducible refine sound_foldl (fun s x h => ?_) ?_)
    | (with_reducible refine sound_foldl2 (fun s x h => ?_) ?_)
    | (fail_if_no_progress with_reducible refine Sound.upd_pair h_pair _ ?_ rfl))

theorem execInputMessage_sound {E : List Part} {base : State} (hE : [Part.objects, Part.recorder, Part.pair, Part.alarms, Part.gsol, Part.intake, Part.align, Part.srv] ⊆ E) (t : Nat) (inp : PairInput) (s : State)
    (fine : Sound E base (s.heard t)) : Kept E base (execInputMessage t inp s) := by
  have k0 : [Part.pair] ⊆ E := List.Subset.trans (by decide) hE
  have k1 : [Part.objects, Part.recorder, Part.pair, Part.alarms, Part.gsol, Part.intake, Part.align, Part.srv] ⊆ E := List.Subset.trans (by decide) hE
  unfold execInputMessage
  repeat' (first
    | (with_reducible assumption)
    | (dsimp only)
    | ((with_reducible apply State.partnerInput_sound k1))
    | ((with_reducible apply State.unmarkInput_sound k0))
    | (with_reducible refine run_kept _ _ _ (fun s fine => ?_) ?_)
    | (with_reducible refine live_kept _ _ _ (fun s fine => ?_) ?_)
    | (with_reducible refine ported_kept _ _ _ (fun s fine => ?_) ?_)
    | (with_reducible refine State.onMessage_sound k0 _ _ _ (fun s fine => ?_) ?_)
    | (with_reducible refine sound_ite (fun _ => ?_) (fun _ => ?_)))

theorem execTimeMessageSend_sound {E : List Part} {base : State} (hE : [Part.objects, Part.pair, Part.diag, Part.wires, Part.free] ⊆ E) (t : Nat) (s : State)
    (fine : Sound E base (s.heard t)) : Kept E base (execTimeMessageSend t s) := by
  have h_pair : Part.pair ∈ E := hE (by decide)
  have k0 : [Part.objects, Part.pair, Part.diag, Part.wires, Part.free] ⊆ E := List.Subset.trans (by decide) hE
  unfold execTimeMessageSend
  repeat' (first
    | (with_reducible assumption)
    | (dsimp only)
    | ((with_reducible apply State.twSend_sound k0))
    | (with_reducible refine run_kept _ _ _ (fun s fine => ?_) ?_)
    | (with_reducible refine live_kept _ _ _ (fun s fine => ?_) ?_)
    | (with_reducible refine ported_kept _ _ _ (fun s fine => ?_) ?_)
    | (with_reducible refine sound_ite (fun _ => ?_) (fun _ => ?_))
    | (with_reducible refine sound_foldl (fun s x h => ?_) ?_)
    | (with_reducible refine sound_foldl2 (fun s x h => ?_) ?_)
    | (fail_if_no_progress with_reducible refine Sound.upd_pair h_pair _ ?_ rfl))

theorem execTimeMessageTw_sound {E : List Part} {base : State} (hE : [Part.clock, Part.objects, Part.held, Part.recorder, Part.pair, Part.alarms, Part.gnss, Part.gsol, Part.intake, Part.align, Part.est, Part.trk, Part.ctl, Part.ring, Part.srv, Part.saf, Part.net, Part.diag, Part.user, Part.wires, Part.free] ⊆ E) (t lane : Nat) (there back : Int) (err : Option Nat) (step : Option (Int × Nat)) (s : State)
    (fine : Sound E base (s.heard t)) : Kept E base (execTimeMessageTw t lane there back err step s) := by
  have h_clock : Part.clock ∈ E := hE (by decide)
  have k0 : [Part.pair] ⊆ E := List.Subset.trans (by decide) hE
  have k1 : [Part.objects] ⊆ E := List.Subset.trans (by decide) hE
  have k2 : [Part.objects, Part.pair, Part.diag, Part.wires, Part.free] ⊆ E := List.Subset.trans (by decide) hE
  have k3 : [Part.clock, Part.objects, Part.held, Part.recorder, Part.pair, Part.alarms, Part.gnss, Part.gsol, Part.intake, Part.align, Part.est, Part.trk, Part.ctl, Part.ring, Part.srv, Part.saf, Part.net, Part.user] ⊆ E := List.Subset.trans (by decide) hE
  unfold execTimeMessageTw
  repeat' (first
    | (with_reducible assumption)
    | (dsimp only)
    | ((with_reducible apply State.setObj_sound k1))
    | ((with_reducible apply State.twSend_sound k2))
    | ((with_reducible apply State.follow_sound k3))
    | (with_reducible refine run_kept _ _ _ (fun s fine => ?_) ?_)
    | (with_reducible refine live_kept _ _ _ (fun s fine => ?_) ?_)
    | (with_reducible refine ported_kept _ _ _ (fun s fine => ?_) ?_)
    | (with_reducible refine State.onMessage_sound k0 _ _ _ (fun s fine => ?_) ?_)
    | (with_reducible refine sound_ite (fun _ => ?_) (fun _ => ?_))
    | (with_reducible refine sound_foldl (fun s x h => ?_) ?_)
    | (with_reducible refine sound_foldl2 (fun s x h => ?_) ?_)
    | (fail_if_no_progress with_reducible refine Sound.upd_clock h_clock _ ?_)
    | (with_reducible refine sound_snd (by assumption) ?_)
    | (with_reducible refine sound_fst (by assumption) ?_)
    | (split))

theorem execHeartbeatSend_sound {E : List Part} {base : State} (hE : [Part.objects, Part.blobs, Part.recorder, Part.pair, Part.alarms, Part.ring, Part.diag, Part.wires, Part.free] ⊆ E) (t lane : Nat) (s : State)
    (fine : Sound E base (s.heard t)) : Kept E base (execHeartbeatSend t lane s) := by
  have h_pair : Part.pair ∈ E := hE (by decide)
  have k0 : [Part.objects, Part.blobs, Part.recorder, Part.pair, Part.alarms, Part.ring, Part.diag, Part.wires, Part.free] ⊆ E := List.Subset.trans (by decide) hE
  have k1 : [Part.pair] ⊆ E := List.Subset.trans (by decide) hE
  have k2 : [Part.objects] ⊆ E := List.Subset.trans (by decide) hE
  have k3 : [Part.wires] ⊆ E := List.Subset.trans (by decide) hE
  have k4 : [Part.objects, Part.diag, Part.wires, Part.free] ⊆ E := List.Subset.trans (by decide) hE
  unfold execHeartbeatSend
  repeat' (first
    | (with_reducible assumption)
    | (dsimp only)
    | ((with_reducible apply State.closeCycle_sound k0))
    | ((with_reducible apply State.modLane_sound k1))
    | ((with_reducible apply State.setObj_sound k2))
    | ((with_reducible apply State.tell_sound k3))
    | ((with_reducible apply State.spoilCrc_sound k4))
    | (with_reducible refine run_kept _ _ _ (fun s fine => ?_) ?_)
    | (with_reducible refine live_kept _ _ _ (fun s fine => ?_) ?_)
    | (with_reducible refine ported_kept _ _ _ (fun s fine => ?_) ?_)
    | (with_reducible refine sound_ite (fun _ => ?_) (fun _ => ?_))
    | (with_reducible refine sound_foldl (fun s x h => ?_) ?_)
    | (with_reducible refine sound_foldl2 (fun s x h => ?_) ?_)
    | (fail_if_no_progress with_reducible refine Sound.upd_pair h_pair _ ?_ rfl))

theorem execHardFaultNotice_sound {E : List Part} {base : State} (hE : [Part.objects, Part.recorder, Part.pair] ⊆ E) (t : Nat) (s : State)
    (fine : Sound E base (s.heard t)) : Kept E base (execHardFaultNotice t s) := by
  have h_pair : Part.pair ∈ E := hE (by decide)
  have k0 : [Part.pair] ⊆ E := List.Subset.trans (by decide) hE
  have k1 : [Part.objects, Part.recorder] ⊆ E := List.Subset.trans (by decide) hE
  unfold execHardFaultNotice
  repeat' (first
    | (with_reducible assumption)
    | (dsimp only)
    | ((with_reducible apply State.event_sound k1))
    | (with_reducible refine run_kept _ _ _ (fun s fine => ?_) ?_)
    | (with_reducible refine live_kept _ _ _ (fun s fine => ?_) ?_)
    | (with_reducible refine ported_kept _ _ _ (fun s fine => ?_) ?_)
    | (with_reducible refine State.onMessage_sound k0 _ _ _ (fun s fine => ?_) ?_)
    | (with_reducible refine sound_ite (fun _ => ?_) (fun _ => ?_))
    | (with_reducible refine sound_foldl (fun s x h => ?_) ?_)
    | (with_reducible refine sound_foldl2 (fun s x h => ?_) ?_)
    | (fail_if_no_progress with_reducible refine Sound.upd_pair h_pair _ ?_ rfl))

theorem execPartnerDemand_sound {E : List Part} {base : State} (hE : [Part.objects, Part.recorder, Part.pair, Part.alarms, Part.saf, Part.diag, Part.wires, Part.free] ⊆ E) (t demands : Nat) (s : State)
    (fine : Sound E base (s.heard t)) : Kept E base (execPartnerDemand t demands s) := by
  have k0 : [Part.pair] ⊆ E := List.Subset.trans (by decide) hE
  have k1 : [Part.objects, Part.recorder, Part.pair, Part.alarms, Part.saf, Part.diag, Part.wires, Part.free] ⊆ E := List.Subset.trans (by decide) hE
  unfold execPartnerDemand
  repeat' (first
    | (with_reducible assumption)
    | (dsimp only)
    | ((with_reducible apply State.partnerDemand_sound k1))
    | (with_reducible refine run_kept _ _ _ (fun s fine => ?_) ?_)
    | (with_reducible refine live_kept _ _ _ (fun s fine => ?_) ?_)
    | (with_reducible refine ported_kept _ _ _ (fun s fine => ?_) ?_)
    | (with_reducible refine State.onMessage_sound k0 _ _ _ (fun s fine => ?_) ?_))

theorem execSetAckMessage_sound {E : List Part} {base : State} (hE : [Part.objects, Part.recorder, Part.pair, Part.alarms] ⊆ E) (t count : Nat) (digest : List Byte) (s : State)
    (fine : Sound E base (s.heard t)) : Kept E base (execSetAckMessage t count digest s) := by
  have h_pair : Part.pair ∈ E := hE (by decide)
  have k0 : [Part.pair] ⊆ E := List.Subset.trans (by decide) hE
  have k1 : [Part.objects, Part.recorder, Part.alarms] ⊆ E := List.Subset.trans (by decide) hE
  unfold execSetAckMessage
  repeat' (first
    | (with_reducible assumption)
    | (dsimp only)
    | ((with_reducible apply State.count_sound k1))
    | (with_reducible refine run_kept _ _ _ (fun s fine => ?_) ?_)
    | (with_reducible refine live_kept _ _ _ (fun s fine => ?_) ?_)
    | (with_reducible refine ported_kept _ _ _ (fun s fine => ?_) ?_)
    | (with_reducible refine State.onMessage_sound k0 _ _ _ (fun s fine => ?_) ?_)
    | (with_reducible refine sound_ite (fun _ => ?_) (fun _ => ?_))
    | (with_reducible refine sound_foldl (fun s x h => ?_) ?_)
    | (with_reducible refine sound_foldl2 (fun s x h => ?_) ?_)
    | (fail_if_no_progress with_reducible refine Sound.upd_pair h_pair _ ?_ rfl))

theorem execDigestMessage_sound {E : List Part} {base : State} (hE : [Part.objects, Part.blobs, Part.recorder, Part.pair, Part.alarms, Part.ring, Part.diag, Part.wires, Part.free] ⊆ E) (t count : Nat) (output : List Byte) (st : Nat) (lists : List (Option Nat)) (s : State)
    (fine : Sound E base (s.heard t)) : Kept E base (execDigestMessage t count output st lists s) := by
  have h_pair : Part.pair ∈ E := hE (by decide)
  have k0 : [Part.objects, Part.blobs, Part.recorder, Part.pair, Part.alarms, Part.ring, Part.diag, Part.wires, Part.free] ⊆ E := List.Subset.trans (by decide) hE
  have k1 : [Part.pair] ⊆ E := List.Subset.trans (by decide) hE
  have k2 : [Part.objects, Part.recorder, Part.alarms] ⊆ E := List.Subset.trans (by decide) hE
  unfold execDigestMessage
  repeat' (first
    | (with_reducible assumption)
    | (dsimp only)
    | ((with_reducible apply State.closeCycle_sound k0))
    | ((with_reducible apply State.count_sound k2))
    | ((with_reducible apply State.compareLists_sound k2))
    | (with_reducible refine run_kept _ _ _ (fun s fine => ?_) ?_)
    | (with_reducible refine live_kept _ _ _ (fun s fine => ?_) ?_)
    | (with_reducible refine ported_kept _ _ _ (fun s fine => ?_) ?_)
    | (with_reducible refine State.onMessage_sound k1 _ _ _ (fun s fine => ?_) ?_)
    | (with_reducible refine sound_ite (fun _ => ?_) (fun _ => ?_))
    | (with_reducible refine sound_foldl (fun s x h => ?_) ?_)
    | (with_reducible refine sound_foldl2 (fun s x h => ?_) ?_)
    | (fail_if_no_progress with_reducible refine Sound.upd_pair h_pair _ ?_ rfl))

theorem execGanderCompare_sound {E : List Part} {base : State} (hE : [Part.clock, Part.objects, Part.blobs, Part.held, Part.recorder, Part.pair, Part.alarms, Part.tap, Part.ctl, Part.ring, Part.srv, Part.saf, Part.diag, Part.wires, Part.free] ⊆ E) (t : Nat) (s : State)
    (fine : Sound E base (s.heard t)) : Kept E base (execGanderCompare t s) := by
  have h_pair : Part.pair ∈ E := hE (by decide)
  have k0 : [Part.objects, Part.blobs, Part.recorder, Part.pair, Part.alarms, Part.ring, Part.diag, Part.wires, Part.free] ⊆ E := List.Subset.trans (by decide) hE
  have k1 : [Part.clock, Part.objects, Part.held, Part.recorder, Part.pair, Part.alarms, Part.tap, Part.ctl, Part.srv, Part.saf, Part.diag, Part.wires, Part.free] ⊆ E := List.Subset.trans (by decide) hE
  unfold execGanderCompare
  repeat' (first
    | (with_reducible assumption)
    | (dsimp only)
    | ((with_reducible apply State.closeCycle_sound k0))
    | ((with_reducible apply State.compareDigests_sound k1))
    | (with_reducible refine run_kept _ _ _ (fun s fine => ?_) ?_)
    | (with_reducible refine live_kept _ _ _ (fun s fine => ?_) ?_)
    | (with_reducible refine ported_kept _ _ _ (fun s fine => ?_) ?_)
    | (with_reducible refine sound_ite (fun _ => ?_) (fun _ => ?_))
    | (with_reducible refine sound_foldl (fun s x h => ?_) ?_)
    | (with_reducible refine sound_foldl2 (fun s x h => ?_) ?_)
    | (fail_if_no_progress with_reducible refine Sound.upd_pair h_pair _ ?_ rfl)
    | (with_reducible refine sound_snd (by assumption) ?_)
    | (with_reducible refine sound_fst (by assumption) ?_)
    | (split))

theorem execDrillDue_sound {E : List Part} {base : State} (hE : [Part.pair] ⊆ E) (t : Nat) (s : State)
    (fine : Sound E base (s.heard t)) : Kept E base (execDrillDue t s) := by
  have h_pair : Part.pair ∈ E := hE (by decide)
  unfold execDrillDue
  repeat' (first
    | (with_reducible assumption)
    | (dsimp only)
    | (with_reducible refine run_kept _ _ _ (fun s fine => ?_) ?_)
    | (with_reducible refine live_kept _ _ _ (fun s fine => ?_) ?_)
    | (with_reducible refine ported_kept _ _ _ (fun s fine => ?_) ?_)
    | (with_reducible refine sound_ite (fun _ => ?_) (fun _ => ?_))
    | (with_reducible refine sound_foldl (fun s x h => ?_) ?_)
    | (with_reducible refine sound_foldl2 (fun s x h => ?_) ?_)
    | (fail_if_no_progress with_reducible refine Sound.upd_pair h_pair _ ?_ rfl))

theorem execJoinRequest_sound {E : List Part} {base : State} (hE : [Part.objects, Part.pair, Part.diag, Part.wires, Part.free] ⊆ E) (t : Nat) (s : State)
    (fine : Sound E base (s.heard t)) : Kept E base (execJoinRequest t s) := by
  have h_pair : Part.pair ∈ E := hE (by decide)
  have k0 : [Part.pair] ⊆ E := List.Subset.trans (by decide) hE
  have k1 : [Part.objects, Part.pair, Part.diag, Part.wires, Part.free] ⊆ E := List.Subset.trans (by decide) hE
  unfold execJoinRequest
  repeat' (first
    | (with_reducible assumption)
    | (dsimp only)
    | ((with_reducible apply State.twSend_sound k1))
    | (with_reducible refine run_kept _ _ _ (fun s fine => ?_) ?_)
    | (with_reducible refine live_kept _ _ _ (fun s fine => ?_) ?_)
    | (with_reducible refine ported_kept _ _ _ (fun s fine => ?_) ?_)
    | (with_reducible refine State.onMessage_sound k0 _ _ _ (fun s fine => ?_) ?_)
    | (with_reducible refine sound_ite (fun _ => ?_) (fun _ => ?_))
    | (with_reducible refine sound_foldl (fun s x h => ?_) ?_)
    | (with_reducible refine sound_foldl2 (fun s x h => ?_) ?_)
    | (fail_if_no_progress with_reducible refine Sound.upd_pair h_pair _ ?_ rfl))

theorem execSlipwayComplete_sound {E : List Part} {base : State} (hE : [Part.clock, Part.objects, Part.held, Part.recorder, Part.pair, Part.alarms, Part.tap, Part.ctl, Part.srv, Part.saf, Part.diag, Part.wires, Part.free] ⊆ E) (t : Nat) (s : State)
    (fine : Sound E base (s.heard t)) : Kept E base (execSlipwayComplete t s) := by
  have h_pair : Part.pair ∈ E := hE (by decide)
  have k0 : [Part.clock, Part.objects, Part.held, Part.recorder, Part.pair, Part.alarms, Part.tap, Part.ctl, Part.srv, Part.saf, Part.diag, Part.wires, Part.free] ⊆ E := List.Subset.trans (by decide) hE
  have k1 : [Part.objects] ⊆ E := List.Subset.trans (by decide) hE
  have k2 : [Part.objects, Part.recorder, Part.alarms] ⊆ E := List.Subset.trans (by decide) hE
  unfold execSlipwayComplete
  repeat' (first
    | (with_reducible assumption)
    | (dsimp only)
    | ((with_reducible apply State.roleTo_sound k0))
    | ((with_reducible apply State.setObjs_sound k1))
    | ((with_reducible apply State.count_sound k2))
    | ((with_reducible apply State.setBit_sound k1))
    | (with_reducible refine run_kept _ _ _ (fun s fine => ?_) ?_)
    | (with_reducible refine live_kept _ _ _ (fun s fine => ?_) ?_)
    | (with_reducible refine ported_kept _ _ _ (fun s fine => ?_) ?_)
    | (with_reducible refine sound_ite (fun _ => ?_) (fun _ => ?_))
    | (with_reducible refine sound_foldl (fun s x h => ?_) ?_)
    | (with_reducible refine sound_foldl2 (fun s x h => ?_) ?_)
    | (fail_if_no_progress with_reducible refine Sound.upd_pair h_pair _ ?_ rfl))

theorem execSlipwayFail_sound {E : List Part} {base : State} (hE : [Part.clock, Part.objects, Part.held, Part.recorder, Part.pair, Part.alarms, Part.tap, Part.ctl, Part.srv, Part.saf, Part.diag, Part.wires, Part.free] ⊆ E) (t : Nat) (s : State)
    (fine : Sound E base (s.heard t)) : Kept E base (execSlipwayFail t s) := by
  have k0 : [Part.clock, Part.objects, Part.held, Part.recorder, Part.pair, Part.alarms, Part.tap, Part.ctl, Part.srv, Part.saf, Part.diag, Part.wires, Part.free] ⊆ E := List.Subset.trans (by decide) hE
  unfold execSlipwayFail
  repeat' (first
    | (with_reducible assumption)
    | (dsimp only)
    | ((with_reducible apply State.slipFail_sound k0))
    | (with_reducible refine run_kept _ _ _ (fun s fine => ?_) ?_)
    | (with_reducible refine live_kept _ _ _ (fun s fine => ?_) ?_)
    | (with_reducible refine ported_kept _ _ _ (fun s fine => ?_) ?_)
    | (with_reducible refine sound_ite (fun _ => ?_) (fun _ => ?_)))

theorem execSlipwayRetry_sound {E : List Part} {base : State} (hE : [Part.objects, Part.pair, Part.diag, Part.wires, Part.free] ⊆ E) (t : Nat) (s : State)
    (fine : Sound E base (s.heard t)) : Kept E base (execSlipwayRetry t s) := by
  have h_pair : Part.pair ∈ E := hE (by decide)
  have k0 : [Part.objects] ⊆ E := List.Subset.trans (by decide) hE
  have k1 : [Part.objects, Part.pair, Part.diag, Part.wires, Part.free] ⊆ E := List.Subset.trans (by decide) hE
  unfold execSlipwayRetry
  repeat' (first
    | (with_reducible assumption)
    | (dsimp only)
    | ((with_reducible apply State.setObjs_sound k0))
    | ((with_reducible apply State.twSend_sound k1))
    | (with_reducible refine run_kept _ _ _ (fun s fine => ?_) ?_)
    | (with_reducible refine live_kept _ _ _ (fun s fine => ?_) ?_)
    | (with_reducible refine ported_kept _ _ _ (fun s fine => ?_) ?_)
    | (with_reducible refine sound_ite (fun _ => ?_) (fun _ => ?_))
    | (with_reducible refine sound_foldl (fun s x h => ?_) ?_)
    | (with_reducible refine sound_foldl2 (fun s x h => ?_) ?_)
    | (fail_if_no_progress with_reducible refine Sound.upd_pair h_pair _ ?_ rfl)
    | (with_reducible refine sound_snd (by assumption) ?_)
    | (with_reducible refine sound_fst (by assumption) ?_)
    | (split))

theorem execSupervisionFault_sound {E : List Part} {base : State} (hE : [Part.clock, Part.objects, Part.held, Part.recorder, Part.pair, Part.alarms, Part.tap, Part.ctl, Part.srv, Part.saf, Part.diag, Part.wires, Part.free] ⊆ E) (t what rail deviation : Nat) (s : State)
    (fine : Sound E base (s.heard t)) : Kept E base (execSupervisionFault t what rail deviation s) := by
  have h_saf : Part.saf ∈ E := hE (by decide)
  have k0 : [Part.objects] ⊆ E := List.Subset.trans (by decide) hE
  have k1 : [Part.objects, Part.recorder, Part.alarms] ⊆ E := List.Subset.trans (by decide) hE
  have k2 : [Part.objects, Part.recorder, Part.pair, Part.alarms, Part.saf, Part.diag, Part.wires, Part.free] ⊆ E := List.Subset.trans (by decide) hE
  have k3 : [Part.clock, Part.objects, Part.held, Part.recorder, Part.pair, Part.alarms, Part.tap, Part.ctl, Part.srv, Part.saf, Part.diag, Part.wires, Part.free] ⊆ E := List.Subset.trans (by decide) hE
  unfold execSupervisionFault
  repeat' (first
    | (with_reducible assumption)
    | (dsimp only)
    | ((with_reducible apply State.setObj_sound k0))
    | ((with_reducible apply State.setBit_sound k0))
    | ((with_reducible apply State.count_sound k1))
    | ((with_reducible apply State.showDemands_sound k2))
    | ((with_reducible apply State.hardFaultOf_sound k3))
    | (with_reducible refine run_kept _ _ _ (fun s fine => ?_) ?_)
    | (with_reducible refine live_kept _ _ _ (fun s fine => ?_) ?_)
    | (with_reducible refine ported_kept _ _ _ (fun s fine => ?_) ?_)
    | (with_reducible refine sound_ite (fun _ => ?_) (fun _ => ?_))
    | (with_reducible refine sound_foldl (fun s x h => ?_) ?_)
    | (with_reducible refine sound_foldl2 (fun s x h => ?_) ?_)
    | (fail_if_no_progress with_reducible refine Sound.upd_saf h_saf _ ?_))

theorem execChannelReportSend_sound {E : List Part} {base : State} (hE : [Part.net, Part.wires, Part.free] ⊆ E) (t k : Nat) (s : State)
    (fine : Sound E base (s.heard t)) : Kept E base (execChannelReportSend t k s) := by
  have k0 : [Part.net, Part.wires, Part.free] ⊆ E := List.Subset.trans (by decide) hE
  unfold execChannelReportSend
  repeat' (first
    | (with_reducible assumption)
    | (dsimp only)
    | ((with_reducible apply State.sendReport_sound k0))
    | (with_reducible refine run_kept _ _ _ (fun s fine => ?_) ?_)
    | (with_reducible refine live_kept _ _ _ (fun s fine => ?_) ?_)
    | (with_reducible refine ported_kept _ _ _ (fun s fine => ?_) ?_)
    | (with_reducible refine sound_ite (fun _ => ?_) (fun _ => ?_)))

theorem execSafeFrameRx_sound {E : List Part} {base : State} (hE : [Part.objects, Part.held, Part.recorder, Part.pair, Part.alarms, Part.net, Part.diag, Part.wires, Part.free] ⊆ E) (t net peer : Nat) (supervision : Bool) (frame trailer : List Byte) (s : State)
    (fine : Sound E base (s.heard t)) : Kept E base (execSafeFrameRx t net peer supervision frame trailer s) := by
  have k0 : [Part.objects, Part.recorder, Part.alarms] ⊆ E := List.Subset.trans (by decide) hE
  have k1 : [Part.net] ⊆ E := List.Subset.trans (by decide) hE
  have k2 : [Part.objects, Part.held, Part.recorder, Part.pair, Part.alarms, Part.net, Part.diag, Part.wires, Part.free] ⊆ E := List.Subset.trans (by decide) hE
  unfold execSafeFrameRx
  repeat' (first
    | (with_reducible assumption)
    | (dsimp only)
    | ((with_reducible apply State.count_sound k0))
    | ((with_reducible apply State.modConn_sound k1))
    | ((with_reducible apply State.birrathRx_sound k2))
    | ((with_reducible apply State.copyRx_sound k2))
    | (with_reducible refine run_kept _ _ _ (fun s fine => ?_) ?_)
    | (with_reducible refine live_kept _ _ _ (fun s fine => ?_) ?_)
    | (with_reducible refine ported_kept _ _ _ (fun s fine => ?_) ?_)
    | (with_reducible refine sound_ite (fun _ => ?_) (fun _ => ?_))
    | (with_reducible refine sound_foldl (fun s x h => ?_) ?_)
    | (with_reducible refine sound_foldl2 (fun s x h => ?_) ?_)
    | (with_reducible refine sound_snd (by assumption) ?_)
    | (with_reducible refine sound_fst (by assumption) ?_)
    | (split))

theorem execPairingWindowEnd_sound {E : List Part} {base : State} (hE : [Part.objects, Part.recorder, Part.alarms, Part.net] ⊆ E) (t k : Nat) (s : State)
    (fine : Sound E base (s.heard t)) : Kept E base (execPairingWindowEnd t k s) := by
  have k0 : [Part.net] ⊆ E := List.Subset.trans (by decide) hE
  have k1 : [Part.objects, Part.recorder, Part.alarms, Part.net] ⊆ E := List.Subset.trans (by decide) hE
  unfold execPairingWindowEnd
  repeat' (first
    | (with_reducible assumption)
    | (dsimp only)
    | ((with_reducible apply State.modConn_sound k0))
    | ((with_reducible apply State.copyMissing_sound k1))
    | (with_reducible refine run_kept _ _ _ (fun s fine => ?_) ?_)
    | (with_reducible refine live_kept _ _ _ (fun s fine => ?_) ?_)
    | (with_reducible refine ported_kept _ _ _ (fun s fine => ?_) ?_)
    | (with_reducible refine sound_ite (fun _ => ?_) (fun _ => ?_))
    | (with_reducible refine sound_foldl (fun s x h => ?_) ?_))

theorem execConnectionLost_sound {E : List Part} {base : State} (hE : [Part.objects, Part.held, Part.recorder, Part.pair, Part.alarms, Part.net, Part.diag, Part.wires, Part.free] ⊆ E) (t k : Nat) (s : State)
    (fine : Sound E base (s.heard t)) : Kept E base (execConnectionLost t k s) := by
  have k0 : [Part.net] ⊆ E := List.Subset.trans (by decide) hE
  have k1 : [Part.objects] ⊆ E := List.Subset.trans (by decide) hE
  have k2 : [Part.objects, Part.recorder, Part.alarms] ⊆ E := List.Subset.trans (by decide) hE
  have k3 : [Part.objects, Part.held, Part.pair, Part.net, Part.diag, Part.wires, Part.free] ⊆ E := List.Subset.trans (by decide) hE
  unfold execConnectionLost
  repeat' (first
    | (with_reducible assumption)
    | (dsimp only)
    | ((with_reducible apply State.modConn_sound k0))
    | ((with_reducible apply State.setBit_sound k1))
    | ((with_reducible apply State.alarm_sound k2))
    | ((with_reducible apply State.count_sound k2))
    | ((with_reducible apply State.lossAction_sound k3))
    | (with_reducible refine run_kept _ _ _ (fun s fine => ?_) ?_)
    | (with_reducible refine live_kept _ _ _ (fun s fine => ?_) ?_)
    | (with_reducible refine ported_kept _ _ _ (fun s fine => ?_) ?_)
    | (with_reducible refine sound_ite (fun _ => ?_) (fun _ => ?_)))

theorem execChannelReportRx_sound {E : List Part} {base : State} (hE : [Part.objects, Part.recorder, Part.alarms, Part.net] ⊆ E) (t net peer : Nat) (frame : List Byte) (s : State)
    (fine : Sound E base (s.heard t)) : Kept E base (execChannelReportRx t net peer frame s) := by
  have k0 : [Part.objects, Part.recorder, Part.alarms] ⊆ E := List.Subset.trans (by decide) hE
  have k1 : [Part.net] ⊆ E := List.Subset.trans (by decide) hE
  have k2 : [Part.objects] ⊆ E := List.Subset.trans (by decide) hE
  unfold execChannelReportRx
  repeat' (first
    | (with_reducible assumption)
    | (dsimp only)
    | ((with_reducible apply State.count_sound k0))
    | ((with_reducible apply State.modConn_sound k1))
    | ((with_reducible apply State.setObj_sound k2))
    | (with_reducible refine run_kept _ _ _ (fun s fine => ?_) ?_)
    | (with_reducible refine live_kept _ _ _ (fun s fine => ?_) ?_)
    | (with_reducible refine ported_kept _ _ _ (fun s fine => ?_) ?_)
    | (with_reducible refine sound_ite (fun _ => ?_) (fun _ => ?_))
    | (with_reducible refine sound_foldl (fun s x h => ?_) ?_)
    | (with_reducible refine sound_foldl2 (fun s x h => ?_) ?_)
    | (with_reducible refine sound_snd (by assumption) ?_)
    | (with_reducible refine sound_fst (by assumption) ?_)
    | (split))

theorem execProbeSend_sound {E : List Part} {base : State} (hE : [Part.net, Part.wires, Part.free] ⊆ E) (t k : Nat) (s : State)
    (fine : Sound E base (s.heard t)) : Kept E base (execProbeSend t k s) := by
  have k0 : [Part.net] ⊆ E := List.Subset.trans (by decide) hE
  have k1 : [Part.free] ⊆ E := List.Subset.trans (by decide) hE
  have k2 : [Part.wires] ⊆ E := List.Subset.trans (by decide) hE
  unfold execProbeSend
  repeat' (first
    | (with_reducible assumption)
    | (dsimp only)
    | ((with_reducible apply State.modConn_sound k0))
    | ((with_reducible apply State.free_sound k1))
    | ((with_reducible apply State.sendSafe_sound k2))
    | (with_reducible refine run_kept _ _ _ (fun s fine => ?_) ?_)
    | (with_reducible refine live_kept _ _ _ (fun s fine => ?_) ?_)
    | (with_reducible refine ported_kept _ _ _ (fun s fine => ?_) ?_)
    | (with_reducible refine sound_ite (fun _ => ?_) (fun _ => ?_)))

theorem execPrpSupervisionSend_sound {E : List Part} {base : State} (hE : [Part.net, Part.wires] ⊆ E) (t : Nat) (s : State)
    (fine : Sound E base (s.heard t)) : Kept E base (execPrpSupervisionSend t s) := by
  have h_net : Part.net ∈ E := hE (by decide)
  have k0 : [Part.wires] ⊆ E := List.Subset.trans (by decide) hE
  unfold execPrpSupervisionSend
  repeat' (first
    | (with_reducible assumption)
    | (dsimp only)
    | ((with_reducible apply State.tell_sound k0))
    | (with_reducible refine run_kept _ _ _ (fun s fine => ?_) ?_)
    | (with_reducible refine live_kept _ _ _ (fun s fine => ?_) ?_)
    | (with_reducible refine ported_kept _ _ _ (fun s fine => ?_) ?_)
    | (with_reducible refine sound_ite (fun _ => ?_) (fun _ => ?_))
    | (with_reducible refine sound_foldl (fun s x h => ?_) ?_)
    | (with_reducible refine sound_foldl2 (fun s x h => ?_) ?_)
    | (fail_if_no_progress with_reducible refine Sound.upd_net h_net _ ?_))

theorem execNetLinkChange_sound {E : List Part} {base : State} (hE : [Part.objects, Part.net] ⊆ E) (t net : Nat) (up : Bool) (s : State)
    (fine : Sound E base (s.heard t)) : Kept E base (execNetLinkChange t net up s) := by
  have k0 : [Part.objects] ⊆ E := List.Subset.trans (by decide) hE
  have k1 : [Part.objects, Part.net] ⊆ E := List.Subset.trans (by decide) hE
  unfold execNetLinkChange
  repeat' (first
    | (with_reducible assumption)
    | (dsimp only)
    | ((with_reducible apply State.setObj_sound k0))
    | ((with_reducible apply State.requestScheme_sound k1))
    | (with_reducible refine run_kept _ _ _ (fun s fine => ?_) ?_)
    | (with_reducible refine live_kept _ _ _ (fun s fine => ?_) ?_)
    | (with_reducible refine ported_kept _ _ _ (fun s fine => ?_) ?_)
    | (with_reducible refine sound_ite (fun _ => ?_) (fun _ => ?_))
    | (with_reducible refine sound_foldl (fun s x h => ?_) ?_))

theorem execRecordAccept_sound {E : List Part} {base : State} (hE : [Part.recorder] ⊆ E) (t : Nat) (s : State)
    (fine : Sound E base (s.heard t)) : Kept E base (execRecordAccept t s) := by
  have k0 : [Part.recorder] ⊆ E := List.Subset.trans (by decide) hE
  unfold execRecordAccept
  repeat' (first
    | (with_reducible assumption)
    | (dsimp only)
    | ((with_reducible apply State.acceptNext_sound k0))
    | (with_reducible refine run_kept _ _ _ (fun s fine => ?_) ?_)
    | (with_reducible refine live_kept _ _ _ (fun s fine => ?_) ?_)
    | (with_reducible refine ported_kept _ _ _ (fun s fine => ?_) ?_)
    | (with_reducible refine sound_ite (fun _ => ?_) (fun _ => ?_)))

theorem execRecordDrop_sound {E : List Part} {base : State} (hE : [Part.objects, Part.recorder] ⊆ E) (t : Nat) (plane : Plane) (payload : Nat) (s : State)
    (fine : Sound E base (s.heard t)) : Kept E base (execRecordDrop t plane payload s) := by
  have h_recorder : Part.recorder ∈ E := hE (by decide)
  have k0 : [Part.objects] ⊆ E := List.Subset.trans (by decide) hE
  unfold execRecordDrop
  repeat' (first
    | (with_reducible assumption)
    | (dsimp only)
    | ((with_reducible apply State.bump_sound k0))
    | (with_reducible refine run_kept _ _ _ (fun s fine => ?_) ?_)
    | (with_reducible refine live_kept _ _ _ (fun s fine => ?_) ?_)
    | (with_reducible refine ported_kept _ _ _ (fun s fine => ?_) ?_)
    | (with_reducible refine sound_ite (fun _ => ?_) (fun _ => ?_))
    | (with_reducible refine sound_foldl (fun s x h => ?_) ?_)
    | (with_reducible refine sound_foldl2 (fun s x h => ?_) ?_)
    | (fail_if_no_progress with_reducible refine Sound.upd_recorder h_recorder _ ?_))

theorem execDirectoryUpdate_sound {E : List Part} {base : State} (hE : [Part.recorder] ⊆ E) (t : Nat) (s : State)
    (fine : Sound E base (s.heard t)) : Kept E base (execDirectoryUpdate t s) := by
  have k0 : [Part.recorder] ⊆ E := List.Subset.trans (by decide) hE
  unfold execDirectoryUpdate
  repeat' (first
    | (with_reducible assumption)
    | (dsimp only)
    | ((with_reducible apply State.writeDirectory_sound k0))
    | (with_reducible refine run_kept _ _ _ (fun s fine => ?_) ?_)
    | (with_reducible refine live_kept _ _ _ (fun s fine => ?_) ?_)
    | (with_reducible refine ported_kept _ _ _ (fun s fine => ?_) ?_)
    | (with_reducible refine sound_ite (fun _ => ?_) (fun _ => ?_)))

theorem execPanelUpdateRequest_sound {E : List Part} {base : State} (hE : [Part.mram, Part.panel] ⊆ E) (t : Nat) (s : State)
    (fine : Sound E base (s.heard t)) : Kept E base (execPanelUpdateRequest t s) := by
  have h_panel : Part.panel ∈ E := hE (by decide)
  have k0 : [Part.mram, Part.panel] ⊆ E := List.Subset.trans (by decide) hE
  unfold execPanelUpdateRequest
  repeat' (first
    | (with_reducible assumption)
    | (dsimp only)
    | ((with_reducible apply State.requestRows_sound k0))
    | (with_reducible refine run_kept _ _ _ (fun s fine => ?_) ?_)
    | (with_reducible refine live_kept _ _ _ (fun s fine => ?_) ?_)
    | (with_reducible refine ported_kept _ _ _ (fun s fine => ?_) ?_)
    | (with_reducible refine sound_ite (fun _ => ?_) (fun _ => ?_))
    | (with_reducible refine sound_foldl (fun s x h => ?_) ?_)
    | (with_reducible refine sound_foldl2 (fun s x h => ?_) ?_)
    | (fail_if_no_progress with_reducible refine Sound.upd_panel h_panel _ ?_))

theorem execPanelHalfCycle_sound {E : List Part} {base : State} (hE : [Part.panel, Part.wires] ⊆ E) (t : Nat) (s : State)
    (fine : Sound E base (s.heard t)) : Kept E base (execPanelHalfCycle t s) := by
  have h_panel : Part.panel ∈ E := hE (by decide)
  have k0 : [Part.wires] ⊆ E := List.Subset.trans (by decide) hE
  unfold execPanelHalfCycle
  repeat' (first
    | (with_reducible assumption)
    | (dsimp only)
    | ((with_reducible apply State.tell_sound k0))
    | (with_reducible refine run_kept _ _ _ (fun s fine => ?_) ?_)
    | (with_reducible refine live_kept _ _ _ (fun s fine => ?_) ?_)
    | (with_reducible refine ported_kept _ _ _ (fun s fine => ?_) ?_)
    | (with_reducible refine sound_ite (fun _ => ?_) (fun _ => ?_))
    | (with_reducible refine sound_foldl (fun s x h => ?_) ?_)
    | (with_reducible refine sound_foldl2 (fun s x h => ?_) ?_)
    | (fail_if_no_progress with_reducible refine Sound.upd_panel h_panel _ ?_)
    | (with_reducible refine sound_snd (by assumption) ?_)
    | (with_reducible refine sound_fst (by assumption) ?_)
    | (split))

theorem execPanelFrameEnd_sound {E : List Part} {base : State} (hE : [Part.objects, Part.blobs, Part.recorder, Part.alarms, Part.mram, Part.panel] ⊆ E) (t : Nat) (s : State)
    (fine : Sound E base (s.heard t)) : Kept E base (execPanelFrameEnd t s) := by
  have h_mram : Part.mram ∈ E := hE (by decide)
  have h_panel : Part.panel ∈ E := hE (by decide)
  have k0 : [Part.objects, Part.recorder, Part.alarms] ⊆ E := List.Subset.trans (by decide) hE
  have k1 : [Part.blobs] ⊆ E := List.Subset.trans (by decide) hE
  have k2 : [Part.mram, Part.panel] ⊆ E := List.Subset.trans (by decide) hE
  unfold execPanelFrameEnd
  repeat' (first
    | (with_reducible assumption)
    | (dsimp only)
    | ((with_reducible apply State.count_sound k0))
    | ((with_reducible apply State.setBlob_sound k1))
    | ((with_reducible apply State.startFrame_sound k2))
    | (with_reducible refine run_kept _ _ _ (fun s fine => ?_) ?_)
    | (with_reducible refine live_kept _ _ _ (fun s fine => ?_) ?_)
    | (with_reducible refine ported_kept _ _ _ (fun s fine => ?_) ?_)
    | (with_reducible refine sound_ite (fun _ => ?_) (fun _ => ?_))
    | (with_reducible refine sound_foldl (fun s x h => ?_) ?_)
    | (with_reducible refine sound_foldl2 (fun s x h => ?_) ?_)
    | (fail_if_no_progress with_reducible refine Sound.upd_mram h_mram _ ?_)
    | (fail_if_no_progress with_reducible refine Sound.upd_panel h_panel _ ?_)
    | (fail_if_no_progress with_reducible refine Sound.upd_mram_panel h_mram h_panel _ ?_)
    | (with_reducible refine sound_snd (by assumption) ?_)
    | (with_reducible refine sound_fst (by assumption) ?_)
    | (split))

theorem execUserPairFault_sound {E : List Part} {base : State} (hE : [Part.objects, Part.recorder, Part.alarms, Part.diag, Part.user] ⊆ E) (t u cause : Nat) (s : State)
    (fine : Sound E base (s.heard t)) : Kept E base (execUserPairFault t u cause s) := by
  have k0 : [Part.objects, Part.recorder, Part.alarms, Part.diag, Part.user] ⊆ E := List.Subset.trans (by decide) hE
  unfold execUserPairFault
  repeat' (first
    | (with_reducible assumption)
    | (dsimp only)
    | ((with_reducible apply State.userFault_sound k0))
    | (with_reducible refine run_kept _ _ _ (fun s fine => ?_) ?_)
    | (with_reducible refine live_kept _ _ _ (fun s fine => ?_) ?_)
    | (with_reducible refine ported_kept _ _ _ (fun s fine => ?_) ?_)
    | (with_reducible refine sound_ite (fun _ => ?_) (fun _ => ?_)))

theorem execImageVerified_sound {E : List Part} {base : State} (hE : [Part.objects, Part.recorder, Part.user] ⊆ E) (t u : Nat) (partner : Bool) (s : State)
    (fine : Sound E base (s.heard t)) : Kept E base (execImageVerified t u partner s) := by
  have k0 : [Part.user] ⊆ E := List.Subset.trans (by decide) hE
  have k1 : [Part.objects] ⊆ E := List.Subset.trans (by decide) hE
  have k2 : [Part.objects, Part.recorder] ⊆ E := List.Subset.trans (by decide) hE
  unfold execImageVerified
  repeat' (first
    | (with_reducible assumption)
    | (exact fun p h => h)
    | (exact fun p h => storeBytes_wf _ _ _ h)
    | (exact fun _ _ => storeBytes_wf _ _ _ rfl)
    | (dsimp only)
    | ((with_reducible apply State.modUser_sound k0))
    | ((with_reducible apply State.setObj_sound k1))
    | ((with_reducible apply State.event_sound k2))
    | (with_reducible refine run_kept _ _ _ (fun s fine => ?_) ?_)
    | (with_reducible refine live_kept _ _ _ (fun s fine => ?_) ?_)
    | (with_reducible refine ported_kept _ _ _ (fun s fine => ?_) ?_)
    | (with_reducible refine sound_ite (fun _ => ?_) (fun _ => ?_))
    | (with_reducible refine sound_foldl (fun s x h => ?_) ?_)
    | (with_reducible refine sound_foldl2 (fun s x h => ?_) ?_)
    | (with_reducible refine sound_snd (by assumption) ?_)
    | (with_reducible refine sound_fst (by assumption) ?_)
    | (split))

theorem execUserSlotOpen_sound {E : List Part} {base : State} (hE : [Part.objects, Part.recorder, Part.pair, Part.alarms, Part.ctl, Part.diag, Part.user, Part.wires] ⊆ E) (t u : Nat) (s : State)
    (fine : Sound E base (s.heard t)) : Kept E base (execUserSlotOpen t u s) := by
  have k0 : [Part.objects, Part.pair, Part.ctl, Part.diag] ⊆ E := List.Subset.trans (by decide) hE
  have k1 : [Part.objects, Part.recorder, Part.alarms] ⊆ E := List.Subset.trans (by decide) hE
  have k2 : [Part.user] ⊆ E := List.Subset.trans (by decide) hE
  have k3 : [Part.wires] ⊆ E := List.Subset.trans (by decide) hE
  unfold execUserSlotOpen
  repeat' (first
    | (with_reducible assumption)
    | (exact fun p h => h)
    | (exact fun p h => storeBytes_wf _ _ _ h)
    | (exact fun _ _ => storeBytes_wf _ _ _ rfl)
    | (dsimp only)
    | ((with_reducible apply State.opens_sound k0))
    | ((with_reducible apply State.count_sound k1))
    | ((with_reducible apply State.modUser_sound k2))
    | ((with_reducible apply State.tell_sound k3))
    | (with_reducible refine run_kept _ _ _ (fun s fine => ?_) ?_)
    | (with_reducible refine live_kept _ _ _ (fun s fine => ?_) ?_)
    | (with_reducible refine ported_kept _ _ _ (fun s fine => ?_) ?_)
    | (with_reducible refine sound_ite (fun _ => ?_) (fun _ => ?_))
    | (with_reducible refine sound_foldl (fun s x h => ?_) ?_)
    | (with_reducible refine sound_foldl2 (fun s x h => ?_) ?_)
    | (with_reducible refine sound_snd (by assumption) ?_)
    | (with_reducible refine sound_fst (by assumption) ?_)
    | (split))

theorem execOdReadCall_sound {E : List Part} {base : State} (hE : [Part.objects, Part.recorder, Part.alarms, Part.diag, Part.user, Part.wires] ⊆ E) (t u index sub buffer length : Nat) (s : State)
    (fine : Sound E base (s.heard t)) : Kept E base (execOdReadCall t u index sub buffer length s) := by
  have k0 : [Part.wires] ⊆ E := List.Subset.trans (by decide) hE
  have k1 : [Part.objects, Part.recorder, Part.alarms, Part.diag, Part.user] ⊆ E := List.Subset.trans (by decide) hE
  have k2 : [Part.user] ⊆ E := List.Subset.trans (by decide) hE
  unfold execOdReadCall
  repeat' (first
    | (with_reducible assumption)
    | (exact fun p h => h)
    | (exact fun p h => storeBytes_wf _ _ _ h)
    | (exact fun _ _ => storeBytes_wf _ _ _ rfl)
    | (dsimp only)
    | ((with_reducible apply State.tell_sound k0))
    | ((with_reducible apply State.userFault_sound k1))
    | ((with_reducible apply State.modUser_sound k2))
    | (with_reducible refine run_kept _ _ _ (fun s fine => ?_) ?_)
    | (with_reducible refine live_kept _ _ _ (fun s fine => ?_) ?_)
    | (with_reducible refine ported_kept _ _ _ (fun s fine => ?_) ?_)
    | (with_reducible refine sound_ite (fun _ => ?_) (fun _ => ?_))
    | (with_reducible refine sound_foldl (fun s x h => ?_) ?_)
    | (with_reducible refine sound_foldl2 (fun s x h => ?_) ?_)
    | (with_reducible refine sound_snd (by assumption) ?_)
    | (with_reducible refine sound_fst (by assumption) ?_)
    | (split))

theorem execMbWrite_sound {E : List Part} {base : State} (hE : [Part.objects, Part.recorder, Part.alarms, Part.diag, Part.user, Part.wires] ⊆ E) (t u index sub buffer : Nat) (value : List Byte) (s : State)
    (fine : Sound E base (s.heard t)) : Kept E base (execMbWrite t u index sub buffer value s) := by
  have k0 : [Part.user] ⊆ E := List.Subset.trans (by decide) hE
  have k1 : [Part.wires] ⊆ E := List.Subset.trans (by decide) hE
  have k2 : [Part.objects, Part.recorder, Part.alarms, Part.diag, Part.user] ⊆ E := List.Subset.trans (by decide) hE
  unfold execMbWrite
  repeat' (first
    | (with_reducible assumption)
    | (exact fun p h => h)
    | (exact fun p h => storeBytes_wf _ _ _ h)
    | (exact fun _ _ => storeBytes_wf _ _ _ rfl)
    | (dsimp only)
    | ((with_reducible apply State.modUser_sound k0))
    | ((with_reducible apply State.tell_sound k1))
    | ((with_reducible apply State.userFault_sound k2))
    | ((with_reducible apply State.modCall_sound k0))
    | (with_reducible refine run_kept _ _ _ (fun s fine => ?_) ?_)
    | (with_reducible refine live_kept _ _ _ (fun s fine => ?_) ?_)
    | (with_reducible refine ported_kept _ _ _ (fun s fine => ?_) ?_)
    | (with_reducible refine sound_ite (fun _ => ?_) (fun _ => ?_))
    | (with_reducible refine sound_foldl (fun s x h => ?_) ?_)
    | (with_reducible refine sound_foldl2 (fun s x h => ?_) ?_)
    | (with_reducible refine sound_snd (by assumption) ?_)
    | (with_reducible refine sound_fst (by assumption) ?_)
    | (split))

theorem execPropose_sound {E : List Part} {base : State} (hE : [Part.user, Part.wires] ⊆ E) (t u : Nat) (north east heading : Int) (s : State)
    (fine : Sound E base (s.heard t)) : Kept E base (execPropose t u north east heading s) := by
  have k0 : [Part.wires] ⊆ E := List.Subset.trans (by decide) hE
  have k1 : [Part.user] ⊆ E := List.Subset.trans (by decide) hE
  unfold execPropose
  repeat' (first
    | (with_reducible assumption)
    | (dsimp only)
    | ((with_reducible apply State.tell_sound k0))
    | ((with_reducible apply State.modCall_sound k1))
    | (with_reducible refine run_kept _ _ _ (fun s fine => ?_) ?_)
    | (with_reducible refine live_kept _ _ _ (fun s fine => ?_) ?_)
    | (with_reducible refine ported_kept _ _ _ (fun s fine => ?_) ?_)
    | (with_reducible refine sound_ite (fun _ => ?_) (fun _ => ?_))
    | (with_reducible refine sound_foldl (fun s x h => ?_) ?_)
    | (with_reducible refine sound_foldl2 (fun s x h => ?_) ?_)
    | (with_reducible refine sound_snd (by assumption) ?_)
    | (with_reducible refine sound_fst (by assumption) ?_)
    | (split))

theorem execReturnCall_sound {E : List Part} {base : State} (hE : [Part.objects, Part.recorder, Part.alarms, Part.user] ⊆ E) (t u : Nat) (s : State)
    (fine : Sound E base (s.heard t)) : Kept E base (execReturnCall t u s) := by
  have k0 : [Part.objects, Part.recorder, Part.alarms, Part.user] ⊆ E := List.Subset.trans (by decide) hE
  unfold execReturnCall
  repeat' (first
    | (with_reducible assumption)
    | (dsimp only)
    | ((with_reducible apply State.commitCall_sound k0))
    | (with_reducible refine run_kept _ _ _ (fun s fine => ?_) ?_)
    | (with_reducible refine live_kept _ _ _ (fun s fine => ?_) ?_)
    | (with_reducible refine ported_kept _ _ _ (fun s fine => ?_) ?_)
    | (with_reducible refine sound_ite (fun _ => ?_) (fun _ => ?_))
    | (with_reducible refine sound_foldl (fun s x h => ?_) ?_)
    | (with_reducible refine sound_foldl2 (fun s x h => ?_) ?_)
    | (with_reducible refine sound_snd (by assumption) ?_)
    | (with_reducible refine sound_fst (by assumption) ?_)
    | (split))

theorem execSlotOverrun_sound {E : List Part} {base : State} (hE : [Part.objects, Part.recorder, Part.alarms, Part.diag, Part.user] ⊆ E) (t u : Nat) (s : State)
    (fine : Sound E base (s.heard t)) : Kept E base (execSlotOverrun t u s) := by
  have k0 : [Part.user] ⊆ E := List.Subset.trans (by decide) hE
  have k1 : [Part.objects, Part.recorder, Part.alarms] ⊆ E := List.Subset.trans (by decide) hE
  have k2 : [Part.objects, Part.recorder, Part.alarms, Part.diag, Part.user] ⊆ E := List.Subset.trans (by decide) hE
  unfold execSlotOverrun
  repeat' (first
    | (with_reducible assumption)
    | (exact fun p h => h)
    | (exact fun p h => storeBytes_wf _ _ _ h)
    | (exact fun _ _ => storeBytes_wf _ _ _ rfl)
    | (dsimp only)
    | ((with_reducible apply State.modUser_sound k0))
    | ((with_reducible apply State.count_sound k1))
    | ((with_reducible apply State.userFault_sound k2))
    | (with_reducible refine run_kept _ _ _ (fun s fine => ?_) ?_)
    | (with_reducible refine live_kept _ _ _ (fun s fine => ?_) ?_)
    | (with_reducible refine ported_kept _ _ _ (fun s fine => ?_) ?_)
    | (with_reducible refine sound_ite (fun _ => ?_) (fun _ => ?_))
    | (with_reducible refine sound_foldl (fun s x h => ?_) ?_)
    | (with_reducible refine sound_foldl2 (fun s x h => ?_) ?_)
    | (with_reducible refine sound_snd (by assumption) ?_)
    | (with_reducible refine sound_fst (by assumption) ?_)
    | (split))

theorem execScrubPass_sound {E : List Part} {base : State} (hE : [Part.objects, Part.recorder, Part.alarms] ⊆ E) (t : Nat) (corrected : List Nat) (s : State)
    (fine : Sound E base (s.heard t)) : Kept E base (execScrubPass t corrected s) := by
  have k0 : [Part.objects, Part.recorder, Part.alarms] ⊆ E := List.Subset.trans (by decide) hE
  unfold execScrubPass
  repeat' (first
    | (with_reducible assumption)
    | (dsimp only)
    | ((with_reducible apply State.count_sound k0))
    | ((with_reducible apply State.countBy_sound k0))
    | (with_reducible refine run_kept _ _ _ (fun s fine => ?_) ?_)
    | (with_reducible refine live_kept _ _ _ (fun s fine => ?_) ?_)
    | (with_reducible refine ported_kept _ _ _ (fun s fine => ?_) ?_)
    | (with_reducible refine sound_ite (fun _ => ?_) (fun _ => ?_))
    | (with_reducible refine sound_foldl (fun s x h => ?_) ?_))

theorem execUncorrectableWord_sound {E : List Part} {base : State} (hE : [Part.power, Part.clock, Part.objects, Part.blobs, Part.held, Part.dict, Part.recorder, Part.pair, Part.alarms, Part.mram, Part.tap, Part.intake, Part.align, Part.ctl, Part.ring, Part.srv, Part.saf, Part.net, Part.diag, Part.user, Part.wires, Part.free] ⊆ E) (t : Nat) (place : WordPlace) (data read : List Byte) (address : Nat) (s : State)
    (fine : Sound E base (s.heard t)) : Kept E base (execUncorrectableWord t place data read address s) := by
  have k0 : [Part.objects, Part.recorder, Part.alarms] ⊆ E := List.Subset.trans (by decide) hE
  have k1 : [Part.power, Part.clock, Part.objects, Part.blobs, Part.held, Part.dict, Part.recorder, Part.pair, Part.alarms, Part.mram, Part.tap, Part.intake, Part.align, Part.ctl, Part.ring, Part.srv, Part.saf, Part.net, Part.diag, Part.user, Part.wires, Part.free] ⊆ E := List.Subset.trans (by decide) hE
  have k2 : [Part.objects] ⊆ E := List.Subset.trans (by decide) hE
  unfold execUncorrectableWord
  repeat' (first
    | (with_reducible assumption)
    | (dsimp only)
    | ((with_reducible apply State.count_sound k0))
    | ((with_reducible apply State.wordEffect_sound k1))
    | ((with_reducible apply State.setBit_sound k2))
    | ((with_reducible apply State.setObj_sound k2))
    | (with_reducible refine run_kept _ _ _ (fun s fine => ?_) ?_)
    | (with_reducible refine live_kept _ _ _ (fun s fine => ?_) ?_)
    | (with_reducible refine ported_kept _ _ _ (fun s fine => ?_) ?_)
    | (with_reducible refine sound_ite (fun _ => ?_) (fun _ => ?_))
    | (with_reducible refine sound_foldl (fun s x h => ?_) ?_)
    | (with_reducible refine sound_foldl2 (fun s x h => ?_) ?_)
    | (with_reducible refine sound_snd (by assumption) ?_)
    | (with_reducible refine sound_fst (by assumption) ?_)
    | (split))

theorem execInjection_sound {E : List Part} {base : State} (hE : [Part.objects, Part.recorder, Part.alarms, Part.intake, Part.diag, Part.free] ⊆ E) (t : Nat) (s : State)
    (fine : Sound E base (s.heard t)) : Kept E base (execInjection t s) := by
  have h_diag : Part.diag ∈ E := hE (by decide)
  have k0 : [Part.objects, Part.recorder] ⊆ E := List.Subset.trans (by decide) hE
  have k1 : [Part.objects] ⊆ E := List.Subset.trans (by decide) hE
  have k2 : [Part.objects, Part.recorder, Part.alarms] ⊆ E := List.Subset.trans (by decide) hE
  have k3 : [Part.objects, Part.recorder, Part.alarms, Part.intake, Part.diag, Part.free] ⊆ E := List.Subset.trans (by decide) hE
  unfold execInjection
  repeat' (first
    | (with_reducible assumption)
    | (dsimp only)
    | ((with_reducible apply State.event_sound k0))
    | ((with_reducible apply State.setObj_sound k1))
    | ((with_reducible apply State.count_sound k2))
    | ((with_reducible apply State.inject_sound k3))
    | (with_reducible refine run_kept _ _ _ (fun s fine => ?_) ?_)
    | (with_reducible refine live_kept _ _ _ (fun s fine => ?_) ?_)
    | (with_reducible refine ported_kept _ _ _ (fun s fine => ?_) ?_)
    | (with_reducible refine sound_ite (fun _ => ?_) (fun _ => ?_))
    | (with_reducible refine sound_foldl (fun s x h => ?_) ?_)
    | (with_reducible refine sound_foldl2 (fun s x h => ?_) ?_)
    | (fail_if_no_progress with_reducible refine Sound.upd_diagn h_diag _ ?_))

theorem execDetectionTimeout_sound {E : List Part} {base : State} (hE : [Part.objects, Part.recorder, Part.alarms, Part.diag] ⊆ E) (t : Nat) (s : State)
    (fine : Sound E base (s.heard t)) : Kept E base (execDetectionTimeout t s) := by
  have h_diag : Part.diag ∈ E := hE (by decide)
  have k0 : [Part.objects] ⊆ E := List.Subset.trans (by decide) hE
  have k1 : [Part.objects, Part.recorder, Part.alarms] ⊆ E := List.Subset.trans (by decide) hE
  unfold execDetectionTimeout
  repeat' (first
    | (with_reducible assumption)
    | (dsimp only)
    | ((with_reducible apply State.setObj_sound k0))
    | ((with_reducible apply State.alarm_sound k1))
    | (with_reducible refine run_kept _ _ _ (fun s fine => ?_) ?_)
    | (with_reducible refine live_kept _ _ _ (fun s fine => ?_) ?_)
    | (with_reducible refine ported_kept _ _ _ (fun s fine => ?_) ?_)
    | (with_reducible refine sound_ite (fun _ => ?_) (fun _ => ?_))
    | (with_reducible refine sound_foldl (fun s x h => ?_) ?_)
    | (with_reducible refine sound_foldl2 (fun s x h => ?_) ?_)
    | (fail_if_no_progress with_reducible refine Sound.upd_diagn h_diag _ ?_)
    | (with_reducible refine sound_snd (by assumption) ?_)
    | (with_reducible refine sound_fst (by assumption) ?_)
    | (split))

theorem execLinkTestTimeLimit_sound {E : List Part} {base : State} (hE : [Part.objects, Part.recorder, Part.diag] ⊆ E) (t l : Nat) (s : State)
    (fine : Sound E base (s.heard t)) : Kept E base (execLinkTestTimeLimit t l s) := by
  have k0 : [Part.objects, Part.recorder, Part.diag] ⊆ E := List.Subset.trans (by decide) hE
  unfold execLinkTestTimeLimit
  repeat' (first
    | (with_reducible assumption)
    | (dsimp only)
    | ((with_reducible apply State.finishTest_sound k0))
    | (with_reducible refine run_kept _ _ _ (fun s fine => ?_) ?_)
    | (with_reducible refine live_kept _ _ _ (fun s fine => ?_) ?_)
    | (with_reducible refine ported_kept _ _ _ (fun s fine => ?_) ?_)
    | (with_reducible refine sound_ite (fun _ => ?_) (fun _ => ?_)))

theorem execPrbsCheckerLock_sound {E : List Part} {base : State} (hE : [Part.objects, Part.recorder, Part.alarms, Part.diag] ⊆ E) (t l : Nat) (bits : List Bool) (s : State)
    (fine : Sound E base (s.heard t)) : Kept E base (execPrbsCheckerLock t l bits s) := by
  have k0 : [Part.diag] ⊆ E := List.Subset.trans (by decide) hE
  have k1 : [Part.objects] ⊆ E := List.Subset.trans (by decide) hE
  have k2 : [Part.objects, Part.recorder, Part.alarms] ⊆ E := List.Subset.trans (by decide) hE
  unfold execPrbsCheckerLock
  repeat' (first
    | (with_reducible assumption)
    | (dsimp only)
    | ((with_reducible apply State.modTest_sound k0))
    | ((with_reducible apply State.setObjs_sound k1))
    | ((with_reducible apply State.countBy_sound k2))
    | (with_reducible refine run_kept _ _ _ (fun s fine => ?_) ?_)
    | (with_reducible refine live_kept _ _ _ (fun s fine => ?_) ?_)
    | (with_reducible refine ported_kept _ _ _ (fun s fine => ?_) ?_)
    | (with_reducible refine sound_ite (fun _ => ?_) (fun _ => ?_)))

theorem execLoopbackFrame_sound {E : List Part} {base : State} (hE : [Part.objects, Part.recorder, Part.alarms, Part.diag, Part.wires] ⊆ E) (t l : Nat) (received : Option (List Byte)) (s : State)
    (fine : Sound E base (s.heard t)) : Kept E base (execLoopbackFrame t l received s) := by
  have k0 : [Part.diag, Part.wires] ⊆ E := List.Subset.trans (by decide) hE
  have k1 : [Part.objects] ⊆ E := List.Subset.trans (by decide) hE
  have k2 : [Part.objects, Part.recorder, Part.alarms] ⊆ E := List.Subset.trans (by decide) hE
  unfold execLoopbackFrame
  repeat' (first
    | (with_reducible assumption)
    | (dsimp only)
    | ((with_reducible apply State.sendLoopback_sound k0))
    | ((with_reducible apply State.setObjs_sound k1))
    | ((with_reducible apply State.count_sound k2))
    | (with_reducible refine run_kept _ _ _ (fun s fine => ?_) ?_)
    | (with_reducible refine live_kept _ _ _ (fun s fine => ?_) ?_)
    | (with_reducible refine ported_kept _ _ _ (fun s fine => ?_) ?_)
    | (with_reducible refine sound_ite (fun _ => ?_) (fun _ => ?_))
    | (with_reducible refine sound_foldl (fun s x h => ?_) ?_)
    | (with_reducible refine sound_foldl2 (fun s x h => ?_) ?_)
    | (with_reducible refine sound_snd (by assumption) ?_)
    | (with_reducible refine sound_fst (by assumption) ?_)
    | (split))

theorem execTransferTimeout_sound {E : List Part} {base : State} (hE : [Part.power, Part.clock, Part.objects, Part.blobs, Part.held, Part.dict, Part.recorder, Part.pair, Part.alarms, Part.mram, Part.tap, Part.ctl, Part.ring, Part.srv, Part.saf, Part.net, Part.diag, Part.user, Part.wires, Part.free] ⊆ E) (t : Nat) (c : Client) (s : State)
    (fine : Sound E base (s.heard t)) : Kept E base (execTransferTimeout t c s) := by
  have k0 : [Part.power, Part.clock, Part.objects, Part.blobs, Part.held, Part.dict, Part.recorder, Part.pair, Part.alarms, Part.mram, Part.tap, Part.ctl, Part.ring, Part.srv, Part.saf, Part.net, Part.diag, Part.user, Part.wires, Part.free] ⊆ E := List.Subset.trans (by decide) hE
  unfold execTransferTimeout
  repeat' (first
    | (with_reducible assumption)
    | (dsimp only)
    | ((with_reducible apply State.expireTransfer_sound k0))
    | (with_reducible refine run_kept _ _ _ (fun s fine => ?_) ?_)
    | (with_reducible refine live_kept _ _ _ (fun s fine => ?_) ?_)
    | (with_reducible refine ported_kept _ _ _ (fun s fine => ?_) ?_))

theorem execSdoRequest_sound {E : List Part} {base : State} (hE : [Part.power, Part.clock, Part.objects, Part.blobs, Part.held, Part.dict, Part.recorder, Part.pair, Part.alarms, Part.mram, Part.tap, Part.ctl, Part.ring, Part.srv, Part.saf, Part.net, Part.diag, Part.user, Part.wires, Part.free] ⊆ E) (t port cobId : Nat) (req : SdoReq) (s : State)
    (fine : Sound E base (s.heard t)) : Kept E base (execSdoRequest t port cobId req s) := by
  have k0 : [Part.objects, Part.recorder, Part.alarms] ⊆ E := List.Subset.trans (by decide) hE
  have k1 : [Part.power, Part.clock, Part.objects, Part.blobs, Part.held, Part.dict, Part.recorder, Part.pair, Part.alarms, Part.mram, Part.tap, Part.ctl, Part.ring, Part.srv, Part.saf, Part.net, Part.diag, Part.user, Part.wires, Part.free] ⊆ E := List.Subset.trans (by decide) hE
  unfold execSdoRequest
  repeat' (first
    | (with_reducible assumption)
    | (dsimp only)
    | ((with_reducible apply State.canFrame_sound k0))
    | ((with_reducible apply State.sdo_sound k1))
    | (with_reducible refine run_kept _ _ _ (fun s fine => ?_) ?_)
    | (with_reducible refine live_kept _ _ _ (fun s fine => ?_) ?_)
    | (with_reducible refine ported_kept _ _ _ (fun s fine => ?_) ?_)
    | (with_reducible refine sound_ite (fun _ => ?_) (fun _ => ?_)))

theorem execRpdoRx_sound {E : List Part} {base : State} (hE : [Part.power, Part.clock, Part.objects, Part.blobs, Part.held, Part.dict, Part.recorder, Part.pair, Part.alarms, Part.mram, Part.tap, Part.ctl, Part.ring, Part.srv, Part.saf, Part.net, Part.diag, Part.user, Part.wires, Part.free] ⊆ E) (t port cobId : Nat) (data : List Byte) (s : State)
    (fine : Sound E base (s.heard t)) : Kept E base (execRpdoRx t port cobId data s) := by
  have k0 : [Part.objects, Part.recorder, Part.alarms] ⊆ E := List.Subset.trans (by decide) hE
  have k1 : [Part.power, Part.clock, Part.objects, Part.blobs, Part.held, Part.dict, Part.recorder, Part.pair, Part.alarms, Part.mram, Part.tap, Part.ctl, Part.ring, Part.srv, Part.saf, Part.net, Part.diag, Part.user, Part.wires, Part.free] ⊆ E := List.Subset.trans (by decide) hE
  unfold execRpdoRx
  repeat' (first
    | (with_reducible assumption)
    | (dsimp only)
    | ((with_reducible apply State.canFrame_sound k0))
    | ((with_reducible apply State.count_sound k0))
    | ((with_reducible apply State.rpdoValues_sound k1))
    | (with_reducible refine run_kept _ _ _ (fun s fine => ?_) ?_)
    | (with_reducible refine live_kept _ _ _ (fun s fine => ?_) ?_)
    | (with_reducible refine ported_kept _ _ _ (fun s fine => ?_) ?_)
    | (with_reducible refine sound_ite (fun _ => ?_) (fun _ => ?_))
    | (with_reducible refine sound_foldl (fun s x h => ?_) ?_)
    | (with_reducible refine sound_foldl2 (fun s x h => ?_) ?_)
    | (with_reducible refine sound_snd (by assumption) ?_)
    | (with_reducible refine sound_fst (by assumption) ?_)
    | (split))

theorem execSyncRx_sound {E : List Part} {base : State} (hE : [Part.objects, Part.dict, Part.recorder, Part.alarms] ⊆ E) (t port cobId : Nat) (counter : Option Nat) (s : State)
    (fine : Sound E base (s.heard t)) : Kept E base (execSyncRx t port cobId counter s) := by
  have h_dict : Part.dict ∈ E := hE (by decide)
  have k0 : [Part.objects, Part.recorder, Part.alarms] ⊆ E := List.Subset.trans (by decide) hE
  have k1 : [Part.dict] ⊆ E := List.Subset.trans (by decide) hE
  unfold execSyncRx
  repeat' (first
    | (with_reducible assumption)
    | (dsimp only)
    | ((with_reducible apply State.canFrame_sound k0))
    | ((with_reducible apply State.syncTpdo_sound k1))
    | (with_reducible refine run_kept _ _ _ (fun s fine => ?_) ?_)
    | (with_reducible refine live_kept _ _ _ (fun s fine => ?_) ?_)
    | (with_reducible refine ported_kept _ _ _ (fun s fine => ?_) ?_)
    | (with_reducible refine sound_ite (fun _ => ?_) (fun _ => ?_))
    | (with_reducible refine sound_foldl (fun s x h => ?_) ?_)
    | (with_reducible refine sound_foldl2 (fun s x h => ?_) ?_)
    | (fail_if_no_progress with_reducible refine Sound.upd_dict h_dict _ ?_))

theorem execTpdoSend_sound {E : List Part} {base : State} (hE : [Part.dict, Part.wires, Part.free] ⊆ E) (t p : Nat) (s : State)
    (fine : Sound E base (s.heard t)) : Kept E base (execTpdoSend t p s) := by
  have k0 : [Part.free] ⊆ E := List.Subset.trans (by decide) hE
  have k1 : [Part.dict] ⊆ E := List.Subset.trans (by decide) hE
  have k2 : [Part.wires] ⊆ E := List.Subset.trans (by decide) hE
  unfold execTpdoSend
  repeat' (first
    | (with_reducible assumption)
    | (dsimp only)
    | ((with_reducible apply State.free_sound k0))
    | ((with_reducible apply State.modTpdo_sound k1))
    | ((with_reducible apply State.tell_sound k2))
    | (with_reducible refine run_kept _ _ _ (fun s fine => ?_) ?_)
    | (with_reducible refine live_kept _ _ _ (fun s fine => ?_) ?_)
    | (with_reducible refine ported_kept _ _ _ (fun s fine => ?_) ?_)
    | (with_reducible refine sound_ite (fun _ => ?_) (fun _ => ?_))
    | (with_reducible refine sound_foldl (fun s x h => ?_) ?_))

theorem execNmtCommand_sound {E : List Part} {base : State} (hE : [Part.objects, Part.dict, Part.recorder, Part.alarms] ⊆ E) (t port : Nat) (cmd : NmtCmd) (node : Nat) (s : State)
    (fine : Sound E base (s.heard t)) : Kept E base (execNmtCommand t port cmd node s) := by
  have h_dict : Part.dict ∈ E := hE (by decide)
  have k0 : [Part.objects, Part.recorder, Part.alarms] ⊆ E := List.Subset.trans (by decide) hE
  unfold execNmtCommand
  repeat' (first
    | (with_reducible assumption)
    | (dsimp only)
    | ((with_reducible apply State.canFrame_sound k0))
    | (with_reducible refine run_kept _ _ _ (fun s fine => ?_) ?_)
    | (with_reducible refine live_kept _ _ _ (fun s fine => ?_) ?_)
    | (with_reducible refine ported_kept _ _ _ (fun s fine => ?_) ?_)
    | (with_reducible refine sound_ite (fun _ => ?_) (fun _ => ?_))
    | (with_reducible refine sound_foldl (fun s x h => ?_) ?_)
    | (with_reducible refine sound_foldl2 (fun s x h => ?_) ?_)
    | (fail_if_no_progress with_reducible refine Sound.upd_dict h_dict _ ?_)
    | (with_reducible refine sound_snd (by assumption) ?_)
    | (with_reducible refine sound_fst (by assumption) ?_)
    | (split))

theorem execCanHeartbeat_sound {E : List Part} {base : State} (hE : [Part.dict, Part.wires] ⊆ E) (t : Nat) (s : State)
    (fine : Sound E base (s.heard t)) : Kept E base (execCanHeartbeat t s) := by
  have h_dict : Part.dict ∈ E := hE (by decide)
  have k0 : [Part.wires] ⊆ E := List.Subset.trans (by decide) hE
  unfold execCanHeartbeat
  repeat' (first
    | (with_reducible assumption)
    | (dsimp only)
    | ((with_reducible apply State.nodeMessage_sound k0))
    | (with_reducible refine run_kept _ _ _ (fun s fine => ?_) ?_)
    | (with_reducible refine live_kept _ _ _ (fun s fine => ?_) ?_)
    | (with_reducible refine ported_kept _ _ _ (fun s fine => ?_) ?_)
    | (with_reducible refine sound_ite (fun _ => ?_) (fun _ => ?_))
    | (with_reducible refine sound_foldl (fun s x h => ?_) ?_)
    | (with_reducible refine sound_foldl2 (fun s x h => ?_) ?_)
    | (fail_if_no_progress with_reducible refine Sound.upd_dict h_dict _ ?_))

theorem execCanErrorStateChange_sound {E : List Part} {base : State} (hE : [Part.objects, Part.dict, Part.recorder, Part.alarms, Part.diag] ⊆ E) (t port : Nat) (st : CanState) (s : State)
    (fine : Sound E base (s.heard t)) : Kept E base (execCanErrorStateChange t port st s) := by
  have h_dict : Part.dict ∈ E := hE (by decide)
  have k0 : [Part.objects] ⊆ E := List.Subset.trans (by decide) hE
  have k1 : [Part.objects, Part.recorder, Part.alarms] ⊆ E := List.Subset.trans (by decide) hE
  have k2 : [Part.objects, Part.recorder, Part.diag] ⊆ E := List.Subset.trans (by decide) hE
  unfold execCanErrorStateChange
  repeat' (first
    | (with_reducible assumption)
    | (dsimp only)
    | ((with_reducible apply State.setObj_sound k0))
    | ((with_reducible apply State.count_sound k1))
    | ((with_reducible apply State.recheckTests_sound k2))
    | (with_reducible refine run_kept _ _ _ (fun s fine => ?_) ?_)
    | (with_reducible refine live_kept _ _ _ (fun s fine => ?_) ?_)
    | (with_reducible refine ported_kept _ _ _ (fun s fine => ?_) ?_)
    | (with_reducible refine sound_ite (fun _ => ?_) (fun _ => ?_))
    | (with_reducible refine sound_foldl (fun s x h => ?_) ?_)
    | (with_reducible refine sound_foldl2 (fun s x h => ?_) ?_)
    | (fail_if_no_progress with_reducible refine Sound.upd_dict h_dict _ ?_))

theorem execOdRead_sound {E : List Part} {base : State} (hE : [Part.power, Part.clock, Part.objects, Part.blobs, Part.held, Part.dict, Part.recorder, Part.pair, Part.alarms, Part.mram, Part.tap, Part.ctl, Part.ring, Part.srv, Part.saf, Part.net, Part.diag, Part.user, Part.wires, Part.free] ⊆ E) (t : Nat) (c : Client) (broadcast : Bool) (msg : List Byte) (s : State)
    (fine : Sound E base (s.heard t)) : Kept E base (execOdRead t c broadcast msg s) := by
  have k0 : [Part.power, Part.clock, Part.objects, Part.blobs, Part.held, Part.dict, Part.recorder, Part.pair, Part.alarms, Part.mram, Part.tap, Part.ctl, Part.ring, Part.srv, Part.saf, Part.net, Part.diag, Part.user, Part.wires, Part.free] ⊆ E := List.Subset.trans (by decide) hE
  unfold execOdRead
  repeat' (first
    | (with_reducible assumption)
    | (dsimp only)
    | ((with_reducible apply State.odRow_sound k0))
    | (with_reducible refine run_kept _ _ _ (fun s fine => ?_) ?_)
    | (with_reducible refine live_kept _ _ _ (fun s fine => ?_) ?_)
    | (with_reducible refine ported_kept _ _ _ (fun s fine => ?_) ?_))

theorem execOdWrite_sound {E : List Part} {base : State} (hE : [Part.power, Part.clock, Part.objects, Part.blobs, Part.held, Part.dict, Part.recorder, Part.pair, Part.alarms, Part.mram, Part.tap, Part.ctl, Part.ring, Part.srv, Part.saf, Part.net, Part.diag, Part.user, Part.wires, Part.free] ⊆ E) (t : Nat) (c : Client) (broadcast : Bool) (msg : List Byte) (s : State)
    (fine : Sound E base (s.heard t)) : Kept E base (execOdWrite t c broadcast msg s) := by
  have k0 : [Part.power, Part.clock, Part.objects, Part.blobs, Part.held, Part.dict, Part.recorder, Part.pair, Part.alarms, Part.mram, Part.tap, Part.ctl, Part.ring, Part.srv, Part.saf, Part.net, Part.diag, Part.user, Part.wires, Part.free] ⊆ E := List.Subset.trans (by decide) hE
  unfold execOdWrite
  repeat' (first
    | (with_reducible assumption)
    | (dsimp only)
    | ((with_reducible apply State.odRow_sound k0))
    | (with_reducible refine run_kept _ _ _ (fun s fine => ?_) ?_)
    | (with_reducible refine live_kept _ _ _ (fun s fine => ?_) ?_)
    | (with_reducible refine ported_kept _ _ _ (fun s fine => ?_) ?_))

theorem execSessionOpen_sound {E : List Part} {base : State} (hE : [Part.power, Part.clock, Part.objects, Part.blobs, Part.held, Part.dict, Part.recorder, Part.pair, Part.alarms, Part.mram, Part.tap, Part.ctl, Part.ring, Part.srv, Part.saf, Part.net, Part.diag, Part.user, Part.wires, Part.free] ⊆ E) (t : Nat) (c : Client) (broadcast : Bool) (msg : List Byte) (s : State)
    (fine : Sound E base (s.heard t)) : Kept E base (execSessionOpen t c broadcast msg s) := by
  have k0 : [Part.power, Part.clock, Part.objects, Part.blobs, Part.held, Part.dict, Part.recorder, Part.pair, Part.alarms, Part.mram, Part.tap, Part.ctl, Part.ring, Part.srv, Part.saf, Part.net, Part.diag, Part.user, Part.wires, Part.free] ⊆ E := List.Subset.trans (by decide) hE
  unfold execSessionOpen
  repeat' (first
    | (with_reducible assumption)
    | (dsimp only)
    | ((with_reducible apply State.odRow_sound k0))
    | (with_reducible refine run_kept _ _ _ (fun s fine => ?_) ?_)
    | (with_reducible refine live_kept _ _ _ (fun s fine => ?_) ?_)
    | (with_reducible refine ported_kept _ _ _ (fun s fine => ?_) ?_))

theorem execSessionAuthenticate_sound {E : List Part} {base : State} (hE : [Part.power, Part.clock, Part.objects, Part.blobs, Part.held, Part.dict, Part.recorder, Part.pair, Part.alarms, Part.mram, Part.tap, Part.ctl, Part.ring, Part.srv, Part.saf, Part.net, Part.diag, Part.user, Part.wires, Part.free] ⊆ E) (t : Nat) (c : Client) (broadcast : Bool) (msg : List Byte) (s : State)
    (fine : Sound E base (s.heard t)) : Kept E base (execSessionAuthenticate t c broadcast msg s) := by
  have k0 : [Part.power, Part.clock, Part.objects, Part.blobs, Part.held, Part.dict, Part.recorder, Part.pair, Part.alarms, Part.mram, Part.tap, Part.ctl, Part.ring, Part.srv, Part.saf, Part.net, Part.diag, Part.user, Part.wires, Part.free] ⊆ E := List.Subset.trans (by decide) hE
  unfold execSessionAuthenticate
  repeat' (first
    | (with_reducible assumption)
    | (dsimp only)
    | ((with_reducible apply State.odRow_sound k0))
    | (with_reducible refine run_kept _ _ _ (fun s fine => ?_) ?_)
    | (with_reducible refine live_kept _ _ _ (fun s fine => ?_) ?_)
    | (with_reducible refine ported_kept _ _ _ (fun s fine => ?_) ?_))

theorem execSessionClose_sound {E : List Part} {base : State} (hE : [Part.power, Part.clock, Part.objects, Part.blobs, Part.held, Part.dict, Part.recorder, Part.pair, Part.alarms, Part.mram, Part.tap, Part.ctl, Part.ring, Part.srv, Part.saf, Part.net, Part.diag, Part.user, Part.wires, Part.free] ⊆ E) (t : Nat) (c : Client) (broadcast : Bool) (msg : List Byte) (s : State)
    (fine : Sound E base (s.heard t)) : Kept E base (execSessionClose t c broadcast msg s) := by
  have k0 : [Part.power, Part.clock, Part.objects, Part.blobs, Part.held, Part.dict, Part.recorder, Part.pair, Part.alarms, Part.mram, Part.tap, Part.ctl, Part.ring, Part.srv, Part.saf, Part.net, Part.diag, Part.user, Part.wires, Part.free] ⊆ E := List.Subset.trans (by decide) hE
  unfold execSessionClose
  repeat' (first
    | (with_reducible assumption)
    | (dsimp only)
    | ((with_reducible apply State.odRow_sound k0))
    | (with_reducible refine run_kept _ _ _ (fun s fine => ?_) ?_)
    | (with_reducible refine live_kept _ _ _ (fun s fine => ?_) ?_)
    | (with_reducible refine ported_kept _ _ _ (fun s fine => ?_) ?_))

theorem execTimeSecondsRead_sound {E : List Part} {base : State} (hE : [Part.power, Part.clock, Part.objects, Part.blobs, Part.held, Part.dict, Part.recorder, Part.pair, Part.alarms, Part.mram, Part.tap, Part.ctl, Part.ring, Part.srv, Part.saf, Part.net, Part.diag, Part.user, Part.wires, Part.free] ⊆ E) (t : Nat) (c : Client) (via : OdVia) (s : State)
    (fine : Sound E base (s.heard t)) : Kept E base (execTimeSecondsRead t c via s) := by
  have k0 : [Part.power, Part.clock, Part.objects, Part.blobs, Part.held, Part.dict, Part.recorder, Part.pair, Part.alarms, Part.mram, Part.tap, Part.ctl, Part.ring, Part.srv, Part.saf, Part.net, Part.diag, Part.user, Part.wires, Part.free] ⊆ E := List.Subset.trans (by decide) hE
  unfold execTimeSecondsRead
  repeat' (first
    | (with_reducible assumption)
    | (dsimp only)
    | ((with_reducible apply State.clientRead_sound k0))
    | (with_reducible refine run_kept _ _ _ (fun s fine => ?_) ?_)
    | (with_reducible refine live_kept _ _ _ (fun s fine => ?_) ?_)
    | (with_reducible refine ported_kept _ _ _ (fun s fine => ?_) ?_))

theorem execWindowCapture_sound {E : List Part} {base : State} (hE : [Part.power, Part.clock, Part.objects, Part.blobs, Part.held, Part.dict, Part.recorder, Part.pair, Part.alarms, Part.mram, Part.tap, Part.ctl, Part.ring, Part.srv, Part.saf, Part.net, Part.diag, Part.user, Part.wires, Part.free] ⊆ E) (t : Nat) (c : Client) (via : OdVia) (s : State)
    (fine : Sound E base (s.heard t)) : Kept E base (execWindowCapture t c via s) := by
  have k0 : [Part.power, Part.clock, Part.objects, Part.blobs, Part.held, Part.dict, Part.recorder, Part.pair, Part.alarms, Part.mram, Part.tap, Part.ctl, Part.ring, Part.srv, Part.saf, Part.net, Part.diag, Part.user, Part.wires, Part.free] ⊆ E := List.Subset.trans (by decide) hE
  unfold execWindowCapture
  repeat' (first
    | (with_reducible assumption)
    | (dsimp only)
    | ((with_reducible apply State.clientRead_sound k0))
    | (with_reducible refine run_kept _ _ _ (fun s fine => ?_) ?_)
    | (with_reducible refine live_kept _ _ _ (fun s fine => ?_) ?_)
    | (with_reducible refine ported_kept _ _ _ (fun s fine => ?_) ?_))

theorem execReadClear_sound {E : List Part} {base : State} (hE : [Part.power, Part.clock, Part.objects, Part.blobs, Part.held, Part.dict, Part.recorder, Part.pair, Part.alarms, Part.mram, Part.tap, Part.ctl, Part.ring, Part.srv, Part.saf, Part.net, Part.diag, Part.user, Part.wires, Part.free] ⊆ E) (t : Nat) (c : Client) (via : OdVia) (index sub : Nat) (s : State)
    (fine : Sound E base (s.heard t)) : Kept E base (execReadClear t c via index sub s) := by
  have k0 : [Part.power, Part.clock, Part.objects, Part.blobs, Part.held, Part.dict, Part.recorder, Part.pair, Part.alarms, Part.mram, Part.tap, Part.ctl, Part.ring, Part.srv, Part.saf, Part.net, Part.diag, Part.user, Part.wires, Part.free] ⊆ E := List.Subset.trans (by decide) hE
  unfold execReadClear
  repeat' (first
    | (with_reducible assumption)
    | (dsimp only)
    | ((with_reducible apply State.clientRead_sound k0))
    | (with_reducible refine run_kept _ _ _ (fun s fine => ?_) ?_)
    | (with_reducible refine live_kept _ _ _ (fun s fine => ?_) ?_)
    | (with_reducible refine ported_kept _ _ _ (fun s fine => ?_) ?_))

theorem execTwMessageRx_sound {E : List Part} {base : State} (hE : [Part.power, Part.ident, Part.clock, Part.objects, Part.blobs, Part.held, Part.dict, Part.recorder, Part.pair, Part.alarms, Part.mram, Part.tap, Part.ctl, Part.ring, Part.srv, Part.saf, Part.net, Part.diag, Part.user, Part.wires, Part.free] ⊆ E) (t lane : Nat) (words : List (List Byte)) (s : State)
    (fine : Sound E base (s.heard t)) : Kept E base (execTwMessageRx t lane words s) := by
  have k0 : [Part.objects, Part.blobs, Part.recorder, Part.pair, Part.alarms, Part.ring, Part.diag, Part.wires, Part.free] ⊆ E := List.Subset.trans (by decide) hE
  have k1 : [Part.power, Part.ident, Part.clock, Part.objects, Part.blobs, Part.held, Part.dict, Part.recorder, Part.pair, Part.alarms, Part.mram, Part.tap, Part.ctl, Part.ring, Part.srv, Part.saf, Part.net, Part.diag, Part.user, Part.wires, Part.free] ⊆ E := List.Subset.trans (by decide) hE
  have k2 : [Part.power, Part.clock, Part.objects, Part.blobs, Part.held, Part.dict, Part.recorder, Part.pair, Part.alarms, Part.mram, Part.tap, Part.ctl, Part.ring, Part.srv, Part.saf, Part.net, Part.diag, Part.user, Part.wires, Part.free] ⊆ E := List.Subset.trans (by decide) hE
  unfold execTwMessageRx
  repeat' (first
    | (with_reducible assumption)
    | (dsimp only)
    | ((with_reducible apply State.closeCycle_sound k0))
    | ((with_reducible apply State.takeMessage_sound k1))
    | ((with_reducible apply State.serveWaiting_sound k2))
    | (with_reducible refine run_kept _ _ _ (fun s fine => ?_) ?_)
    | (with_reducible refine live_kept _ _ _ (fun s fine => ?_) ?_)
    | (with_reducible refine ported_kept _ _ _ (fun s fine => ?_) ?_))

theorem execWriteMessage_sound {E : List Part} {base : State} (hE : [Part.power, Part.clock, Part.objects, Part.blobs, Part.held, Part.dict, Part.recorder, Part.pair, Part.alarms, Part.mram, Part.tap, Part.ctl, Part.ring, Part.srv, Part.saf, Part.net, Part.diag, Part.user, Part.wires, Part.free] ⊆ E) (t key : Nat) (v : Val) (stamp : Nat) (verdict : Option Nat) (src : Option (Nat × Nat)) (s : State)
    (fine : Sound E base (s.heard t)) : Kept E base (execWriteMessage t key v stamp verdict src s) := by
  have k0 : [Part.power, Part.clock, Part.objects, Part.blobs, Part.held, Part.dict, Part.recorder, Part.pair, Part.alarms, Part.mram, Part.tap, Part.ctl, Part.ring, Part.srv, Part.saf, Part.net, Part.diag, Part.user, Part.wires, Part.free] ⊆ E := List.Subset.trans (by decide) hE
  unfold execWriteMessage
  repeat' (first
    | (with_reducible assumption)
    | (dsimp only)
    | ((with_reducible apply State.takeWrite_sound k0))
    | ((with_reducible apply State.serveWaiting_sound k0))
    | (with_reducible refine run_kept _ _ _ (fun s fine => ?_) ?_)
    | (with_reducible refine live_kept _ _ _ (fun s fine => ?_) ?_)
    | (with_reducible refine ported_kept _ _ _ (fun s fine => ?_) ?_))

theorem execSessionIdleTimeout_sound {E : List Part} {base : State} (hE : [Part.objects, Part.dict, Part.recorder] ⊆ E) (t : Nat) (c : Client) (s : State)
    (fine : Sound E base (s.heard t)) : Kept E base (execSessionIdleTimeout t c s) := by
  have k0 : [Part.objects, Part.dict, Part.recorder] ⊆ E := List.Subset.trans (by decide) hE
  unfold execSessionIdleTimeout
  repeat' (first
    | (with_reducible assumption)
    | (dsimp only)
    | ((with_reducible apply State.endSession_sound k0))
    | (with_reducible refine run_kept _ _ _ (fun s fine => ?_) ?_)
    | (with_reducible refine live_kept _ _ _ (fun s fine => ?_) ?_)
    | (with_reducible refine ported_kept _ _ _ (fun s fine => ?_) ?_)
    | (with_reducible refine sound_ite (fun _ => ?_) (fun _ => ?_))
    | (with_reducible refine sound_foldl (fun s x h => ?_) ?_)
    | (with_reducible refine sound_foldl2 (fun s x h => ?_) ?_)
    | (with_reducible refine sound_snd (by assumption) ?_)
    | (with_reducible refine sound_fst (by assumption) ?_)
    | (split))

theorem execLockoutExpiry_sound {E : List Part} {base : State} (hE : [Part.dict] ⊆ E) (t : Nat) (s : State)
    (fine : Sound E base (s.heard t)) : Kept E base (execLockoutExpiry t s) := by
  have h_dict : Part.dict ∈ E := hE (by decide)
  unfold execLockoutExpiry
  repeat' (first
    | (with_reducible assumption)
    | (dsimp only)
    | (with_reducible refine run_kept _ _ _ (fun s fine => ?_) ?_)
    | (with_reducible refine live_kept _ _ _ (fun s fine => ?_) ?_)
    | (with_reducible refine ported_kept _ _ _ (fun s fine => ?_) ?_)
    | (with_reducible refine sound_ite (fun _ => ?_) (fun _ => ?_))
    | (with_reducible refine sound_foldl (fun s x h => ?_) ?_)
    | (with_reducible refine sound_foldl2 (fun s x h => ?_) ?_)
    | (fail_if_no_progress with_reducible refine Sound.upd_dict h_dict _ ?_)
    | (with_reducible refine sound_snd (by assumption) ?_)
    | (with_reducible refine sound_fst (by assumption) ?_)
    | (split))

theorem execClientForget_sound {E : List Part} {base : State} (hE : [Part.dict] ⊆ E) (t : Nat) (c : Client) (s : State)
    (fine : Sound E base (s.heard t)) : Kept E base (execClientForget t c s) := by
  have h_dict : Part.dict ∈ E := hE (by decide)
  have k0 : [Part.dict] ⊆ E := List.Subset.trans (by decide) hE
  unfold execClientForget
  repeat' (first
    | (with_reducible assumption)
    | (dsimp only)
    | ((with_reducible apply State.endTransfer_sound k0))
    | (with_reducible refine run_kept _ _ _ (fun s fine => ?_) ?_)
    | (with_reducible refine live_kept _ _ _ (fun s fine => ?_) ?_)
    | (with_reducible refine ported_kept _ _ _ (fun s fine => ?_) ?_)
    | (with_reducible refine sound_ite (fun _ => ?_) (fun _ => ?_))
    | (with_reducible refine sound_foldl (fun s x h => ?_) ?_)
    | (with_reducible refine sound_foldl2 (fun s x h => ?_) ?_)
    | (fail_if_no_progress with_reducible refine Sound.upd_dict h_dict _ ?_))

theorem execStoreComplete_sound {E : List Part} {base : State} (hE : [Part.power, Part.objects, Part.dict, Part.recorder, Part.alarms, Part.mram] ⊆ E) (t : Nat) (ok : Bool) (s : State)
    (fine : Sound E base (s.heard t)) : Kept E base (execStoreComplete t ok s) := by
  have h_power : Part.power ∈ E := hE (by decide)
  have h_dict : Part.dict ∈ E := hE (by decide)
  have h_mram : Part.mram ∈ E := hE (by decide)
  have k0 : [Part.objects] ⊆ E := List.Subset.trans (by decide) hE
  have k1 : [Part.objects, Part.recorder, Part.alarms] ⊆ E := List.Subset.trans (by decide) hE
  unfold execStoreComplete
  repeat' (first
    | (with_reducible assumption)
    | (dsimp only)
    | ((with_reducible apply State.setObjs_sound k0))
    | ((with_reducible apply State.count_sound k1))
    | ((with_reducible apply State.unalarm_sound k1))
    | ((with_reducible apply State.setObj_sound k0))
    | ((with_reducible apply State.alarm_sound k1))
    | (with_reducible refine run_kept _ _ _ (fun s fine => ?_) ?_)
    | (with_reducible refine live_kept _ _ _ (fun s fine => ?_) ?_)
    | (with_reducible refine ported_kept _ _ _ (fun s fine => ?_) ?_)
    | (with_reducible refine sound_ite (fun _ => ?_) (fun _ => ?_))
    | (with_reducible refine sound_foldl (fun s x h => ?_) ?_)
    | (with_reducible refine sound_foldl2 (fun s x h => ?_) ?_)
    | (fail_if_no_progress with_reducible refine Sound.upd_dict h_dict _ ?_)
    | (fail_if_no_progress with_reducible refine Sound.upd_mram h_mram _ ?_)
    | (fail_if_no_progress with_reducible refine Sound.upd_power h_power _ ?_)
    | (fail_if_no_progress with_reducible refine Sound.upd_power_dict_mram h_power h_dict h_mram _ ?_)
    | (with_reducible refine sound_snd (by assumption) ?_)
    | (with_reducible refine sound_fst (by assumption) ?_)
    | (split))

theorem execCycleBoundary_sound {E : List Part} {base : State} (hE : [Part.power, Part.clock, Part.objects, Part.blobs, Part.held, Part.dict, Part.recorder, Part.pair, Part.alarms, Part.mram, Part.tap, Part.gnss, Part.gsol, Part.intake, Part.align, Part.est, Part.trk, Part.ctl, Part.ring, Part.alc, Part.srv, Part.saf, Part.net, Part.panel, Part.diag, Part.user, Part.wires, Part.free] ⊆ E) (t : Nat) (s : State)
    (fine : Sound E base (s.heard t)) : Kept E base (execCycleBoundary t s) := by
  have k0 : [Part.power, Part.clock, Part.objects, Part.blobs, Part.held, Part.dict, Part.recorder, Part.pair, Part.alarms, Part.mram, Part.tap, Part.gnss, Part.gsol, Part.intake, Part.align, Part.est, Part.trk, Part.ctl, Part.ring, Part.alc, Part.srv, Part.saf, Part.net, Part.panel, Part.diag, Part.user, Part.wires, Part.free] ⊆ E := List.Subset.trans (by decide) hE
  have k1 : [Part.power, Part.clock, Part.objects, Part.blobs, Part.held, Part.dict, Part.recorder, Part.pair, Part.alarms, Part.mram, Part.tap, Part.ctl, Part.ring, Part.srv, Part.saf, Part.net, Part.diag, Part.user, Part.wires, Part.free] ⊆ E := List.Subset.trans (by decide) hE
  unfold execCycleBoundary
  repeat' (first
    | (with_reducible assumption)
    | (dsimp only)
    | ((with_reducible apply State.cycleOpens_sound k0))
    | ((with_reducible apply State.serveWaiting_sound k1))
    | (with_reducible refine run_kept _ _ _ (fun s fine => ?_) ?_)
    | (with_reducible refine live_kept _ _ _ (fun s fine => ?_) ?_)
    | (with_reducible refine ported_kept _ _ _ (fun s fine => ?_) ?_)
    | (with_reducible refine sound_ite (fun _ => ?_) (fun _ => ?_)))

theorem execSampleBoundary_sound {E : List Part} {base : State} (hE : [Part.power, Part.clock, Part.objects, Part.blobs, Part.held, Part.dict, Part.recorder, Part.pair, Part.alarms, Part.mram, Part.tap, Part.gnss, Part.gsol, Part.intake, Part.align, Part.est, Part.trk, Part.ctl, Part.ring, Part.alc, Part.srv, Part.saf, Part.net, Part.panel, Part.diag, Part.user, Part.wires, Part.free] ⊆ E) (t : Nat) (s : State)
    (fine : Sound E base (s.heard t)) : Kept E base (execSampleBoundary t s) := by
  have k0 : [Part.power, Part.clock, Part.objects, Part.blobs, Part.held, Part.dict, Part.recorder, Part.pair, Part.alarms, Part.mram, Part.tap, Part.gnss, Part.gsol, Part.intake, Part.align, Part.est, Part.trk, Part.ctl, Part.ring, Part.alc, Part.srv, Part.saf, Part.net, Part.panel, Part.diag, Part.user, Part.wires, Part.free] ⊆ E := List.Subset.trans (by decide) hE
  have k1 : [Part.power, Part.clock, Part.objects, Part.blobs, Part.held, Part.dict, Part.recorder, Part.pair, Part.alarms, Part.mram, Part.tap, Part.ctl, Part.ring, Part.srv, Part.saf, Part.net, Part.diag, Part.user, Part.wires, Part.free] ⊆ E := List.Subset.trans (by decide) hE
  unfold execSampleBoundary
  repeat' (first
    | (with_reducible assumption)
    | (dsimp only)
    | ((with_reducible apply State.periodOpens_sound k0))
    | ((with_reducible apply State.serveWaiting_sound k1))
    | (with_reducible refine run_kept _ _ _ (fun s fine => ?_) ?_)
    | (with_reducible refine live_kept _ _ _ (fun s fine => ?_) ?_)
    | (with_reducible refine ported_kept _ _ _ (fun s fine => ?_) ?_)
    | (with_reducible refine sound_ite (fun _ => ?_) (fun _ => ?_)))

theorem execSlipwayMessage_sound {E : List Part} {base : State} (hE : [Part.power, Part.clock, Part.objects, Part.blobs, Part.held, Part.dict, Part.recorder, Part.pair, Part.alarms, Part.mram, Part.tap, Part.gnss, Part.gsol, Part.intake, Part.align, Part.est, Part.trk, Part.ctl, Part.ring, Part.alc, Part.srv, Part.saf, Part.net, Part.panel, Part.diag, Part.user, Part.wires, Part.free] ⊆ E) (t : Nat) (b : SlipBlock) (progress : Nat) (s : State)
    (fine : Sound E base (s.heard t)) : Kept E base (execSlipwayMessage t b progress s) := by
  have k0 : [Part.pair] ⊆ E := List.Subset.trans (by decide) hE
  have k1 : [Part.power, Part.clock, Part.objects, Part.blobs, Part.held, Part.dict, Part.recorder, Part.pair, Part.alarms, Part.mram, Part.tap, Part.gnss, Part.gsol, Part.intake, Part.align, Part.est, Part.trk, Part.ctl, Part.ring, Part.alc, Part.srv, Part.saf, Part.net, Part.panel, Part.diag, Part.user, Part.wires, Part.free] ⊆ E := List.Subset.trans (by decide) hE
  have k2 : [Part.objects] ⊆ E := List.Subset.trans (by decide) hE
  unfold execSlipwayMessage
  repeat' (first
    | (with_reducible assumption)
    | (dsimp only)
    | ((with_reducible apply State.slipBlock_sound k1))
    | ((with_reducible apply State.setObjs_sound k2))
    | (with_reducible refine run_kept _ _ _ (fun s fine => ?_) ?_)
    | (with_reducible refine live_kept _ _ _ (fun s fine => ?_) ?_)
    | (with_reducible refine ported_kept _ _ _ (fun s fine => ?_) ?_)
    | (with_reducible refine State.onMessage_sound k0 _ _ _ (fun s fine => ?_) ?_)
    | (with_reducible refine sound_ite (fun _ => ?_) (fun _ => ?_)))

theorem execSetMessage_sound {E : List Part} {base : State} (hE : [Part.power, Part.clock, Part.objects, Part.blobs, Part.held, Part.dict, Part.recorder, Part.pair, Part.alarms, Part.mram, Part.tap, Part.gnss, Part.gsol, Part.intake, Part.align, Part.est, Part.trk, Part.ctl, Part.ring, Part.alc, Part.srv, Part.saf, Part.net, Part.panel, Part.diag, Part.user, Part.wires, Part.free] ⊆ E) (t : Nat) (cut : SetCut) (s : State)
    (fine : Sound E base (s.heard t)) : Kept E base (execSetMessage t cut s) := by
  have h_pair : Part.pair ∈ E := hE (by decide)
  have k0 : [Part.pair] ⊆ E := List.Subset.trans (by decide) hE
  have k1 : [Part.power, Part.clock, Part.objects, Part.blobs, Part.held, Part.dict, Part.recorder, Part.pair, Part.alarms, Part.mram, Part.tap, Part.gnss, Part.gsol, Part.intake, Part.align, Part.est, Part.trk, Part.ctl, Part.ring, Part.alc, Part.srv, Part.saf, Part.net, Part.panel, Part.diag, Part.user, Part.wires, Part.free] ⊆ E := List.Subset.trans (by decide) hE
  have k2 : [Part.objects, Part.pair, Part.diag, Part.wires, Part.free] ⊆ E := List.Subset.trans (by decide) hE
  have k3 : [Part.clock, Part.objects, Part.held, Part.recorder, Part.pair, Part.alarms, Part.tap, Part.ctl, Part.srv, Part.saf, Part.diag, Part.wires, Part.free] ⊆ E := List.Subset.trans (by decide) hE
  unfold execSetMessage
  repeat' (first
    | (with_reducible assumption)
    | (dsimp only)
    | ((with_reducible apply State.setWork_sound k1))
    | ((with_reducible apply State.twSend_sound k2))
    | ((with_reducible apply State.roleTo_sound k3))
    | (with_reducible refine run_kept _ _ _ (fun s fine => ?_) ?_)
    | (with_reducible refine live_kept _ _ _ (fun s fine => ?_) ?_)
    | (with_reducible refine ported_kept _ _ _ (fun s fine => ?_) ?_)
    | (with_reducible refine State.onMessage_sound k0 _ _ _ (fun s fine => ?_) ?_)
    | (with_reducible refine sound_ite (fun _ => ?_) (fun _ => ?_))
    | (with_reducible refine sound_foldl (fun s x h => ?_) ?_)
    | (with_reducible refine sound_foldl2 (fun s x h => ?_) ?_)
    | (fail_if_no_progress with_reducible refine Sound.upd_pair h_pair _ ?_ rfl))

theorem execTakeover_sound {E : List Part} {base : State} (hE : [Part.power, Part.clock, Part.objects, Part.blobs, Part.held, Part.dict, Part.recorder, Part.pair, Part.alarms, Part.mram, Part.tap, Part.gnss, Part.gsol, Part.intake, Part.align, Part.est, Part.trk, Part.ctl, Part.ring, Part.alc, Part.srv, Part.saf, Part.net, Part.panel, Part.diag, Part.user, Part.wires, Part.free] ⊆ E) (t : Nat) (s : State)
    (fine : Sound E base (s.heard t)) : Kept E base (execTakeover t s) := by
  have h_pair : Part.pair ∈ E := hE (by decide)
  have k0 : [Part.power, Part.clock, Part.objects, Part.blobs, Part.held, Part.dict, Part.recorder, Part.pair, Part.alarms, Part.mram, Part.tap, Part.gnss, Part.gsol, Part.intake, Part.align, Part.est, Part.trk, Part.ctl, Part.ring, Part.alc, Part.srv, Part.saf, Part.net, Part.panel, Part.diag, Part.user, Part.wires, Part.free] ⊆ E := List.Subset.trans (by decide) hE
  have k1 : [Part.clock, Part.objects, Part.held, Part.recorder, Part.pair, Part.alarms, Part.tap, Part.ctl, Part.srv, Part.saf, Part.diag, Part.wires, Part.free] ⊆ E := List.Subset.trans (by decide) hE
  have k2 : [Part.objects, Part.recorder, Part.alarms] ⊆ E := List.Subset.trans (by decide) hE
  have k3 : [Part.objects] ⊆ E := List.Subset.trans (by decide) hE
  have k4 : [Part.power, Part.clock, Part.objects, Part.blobs, Part.held, Part.dict, Part.recorder, Part.pair, Part.alarms, Part.mram, Part.tap, Part.ctl, Part.ring, Part.srv, Part.saf, Part.net, Part.diag, Part.user, Part.wires, Part.free] ⊆ E := List.Subset.trans (by decide) hE
  have k5 : [Part.objects, Part.recorder, Part.alarms, Part.ring, Part.diag, Part.wires, Part.free] ⊆ E := List.Subset.trans (by decide) hE
  unfold execTakeover
  repeat' (first
    | (with_reducible assumption)
    | (dsimp only)
    | ((with_reducible apply State.catchWork_sound k0))
    | ((with_reducible apply State.roleTo_sound k1))
    | ((with_reducible apply State.count_sound k2))
    | ((with_reducible apply State.setObj_sound k3))
    | ((with_reducible apply State.endAcks_sound k4))
    | ((with_reducible apply State.takeFrames_sound k5))
    | (with_reducible refine run_kept _ _ _ (fun s fine => ?_) ?_)
    | (with_reducible refine live_kept _ _ _ (fun s fine => ?_) ?_)
    | (with_reducible refine ported_kept _ _ _ (fun s fine => ?_) ?_)
    | (with_reducible refine sound_ite (fun _ => ?_) (fun _ => ?_))
    | (with_reducible refine sound_foldl (fun s x h => ?_) ?_)
    | (with_reducible refine sound_foldl2 (fun s x h => ?_) ?_)
    | (fail_if_no_progress with_reducible refine Sound.upd_pair h_pair _ ?_ rfl)
    | (with_reducible refine sound_snd (by assumption) ?_)
    | (with_reducible refine sound_fst (by assumption) ?_)
    | (split))

theorem execModeSupervision_sound {E : List Part} {base : State} (hE : [Part.power, Part.clock, Part.objects, Part.blobs, Part.held, Part.dict, Part.recorder, Part.pair, Part.alarms, Part.mram, Part.tap, Part.gnss, Part.gsol, Part.intake, Part.align, Part.est, Part.trk, Part.ctl, Part.ring, Part.alc, Part.srv, Part.saf, Part.net, Part.panel, Part.diag, Part.user, Part.wires, Part.free] ⊆ E) (t : Nat) (s : State)
    (fine : Sound E base (s.heard t)) : Kept E base (execModeSupervision t s) := by
  have k0 : [Part.power, Part.clock, Part.objects, Part.blobs, Part.held, Part.dict, Part.recorder, Part.pair, Part.alarms, Part.mram, Part.tap, Part.gnss, Part.gsol, Part.intake, Part.align, Part.est, Part.trk, Part.ctl, Part.ring, Part.alc, Part.srv, Part.saf, Part.net, Part.panel, Part.diag, Part.user, Part.wires, Part.free] ⊆ E := List.Subset.trans (by decide) hE
  have k1 : [Part.power, Part.objects, Part.recorder, Part.alarms, Part.ctl] ⊆ E := List.Subset.trans (by decide) hE
  unfold execModeSupervision
  repeat' (first
    | (with_reducible assumption)
    | (dsimp only)
    | ((with_reducible apply State.catchWork_sound k0))
    | ((with_reducible apply State.supervise_sound k1))
    | (with_reducible refine run_kept _ _ _ (fun s fine => ?_) ?_)
    | (with_reducible refine live_kept _ _ _ (fun s fine => ?_) ?_)
    | (with_reducible refine ported_kept _ _ _ (fun s fine => ?_) ?_)
    | (with_reducible refine sound_ite (fun _ => ?_) (fun _ => ?_)))

theorem execModeRequest_sound {E : List Part} {base : State} (hE : [Part.power, Part.clock, Part.objects, Part.blobs, Part.held, Part.dict, Part.recorder, Part.pair, Part.alarms, Part.mram, Part.tap, Part.gnss, Part.gsol, Part.intake, Part.align, Part.est, Part.trk, Part.ctl, Part.ring, Part.alc, Part.srv, Part.saf, Part.net, Part.panel, Part.diag, Part.user, Part.wires, Part.free] ⊆ E) (t : Nat) (s : State)
    (fine : Sound E base (s.heard t)) : Kept E base (execModeRequest t s) := by
  have k0 : [Part.power, Part.clock, Part.objects, Part.blobs, Part.held, Part.dict, Part.recorder, Part.pair, Part.alarms, Part.mram, Part.tap, Part.gnss, Part.gsol, Part.intake, Part.align, Part.est, Part.trk, Part.ctl, Part.ring, Part.alc, Part.srv, Part.saf, Part.net, Part.panel, Part.diag, Part.user, Part.wires, Part.free] ⊆ E := List.Subset.trans (by decide) hE
  have k1 : [Part.power, Part.objects, Part.recorder, Part.alarms, Part.ctl] ⊆ E := List.Subset.trans (by decide) hE
  unfold execModeRequest
  repeat' (first
    | (with_reducible assumption)
    | (dsimp only)
    | ((with_reducible apply State.catchWork_sound k0))
    | ((with_reducible apply State.supervise_sound k1))
    | (with_reducible refine run_kept _ _ _ (fun s fine => ?_) ?_)
    | (with_reducible refine live_kept _ _ _ (fun s fine => ?_) ?_)
    | (with_reducible refine ported_kept _ _ _ (fun s fine => ?_) ?_)
    | (with_reducible refine sound_ite (fun _ => ?_) (fun _ => ?_)))

theorem execDisengageRequest_sound {E : List Part} {base : State} (hE : [Part.power, Part.clock, Part.objects, Part.blobs, Part.held, Part.dict, Part.recorder, Part.pair, Part.alarms, Part.mram, Part.tap, Part.gnss, Part.gsol, Part.intake, Part.align, Part.est, Part.trk, Part.ctl, Part.ring, Part.alc, Part.srv, Part.saf, Part.net, Part.panel, Part.diag, Part.user, Part.wires, Part.free] ⊆ E) (t : Nat) (s : State)
    (fine : Sound E base (s.heard t)) : Kept E base (execDisengageRequest t s) := by
  have k0 : [Part.power, Part.clock, Part.objects, Part.blobs, Part.held, Part.dict, Part.recorder, Part.pair, Part.alarms, Part.mram, Part.tap, Part.gnss, Part.gsol, Part.intake, Part.align, Part.est, Part.trk, Part.ctl, Part.ring, Part.alc, Part.srv, Part.saf, Part.net, Part.panel, Part.diag, Part.user, Part.wires, Part.free] ⊆ E := List.Subset.trans (by decide) hE
  have k1 : [Part.power, Part.objects, Part.recorder, Part.alarms, Part.ctl] ⊆ E := List.Subset.trans (by decide) hE
  unfold execDisengageRequest
  repeat' (first
    | (with_reducible assumption)
    | (dsimp only)
    | ((with_reducible apply State.catchWork_sound k0))
    | ((with_reducible apply State.supervise_sound k1))
    | (with_reducible refine run_kept _ _ _ (fun s fine => ?_) ?_)
    | (with_reducible refine live_kept _ _ _ (fun s fine => ?_) ?_)
    | (with_reducible refine ported_kept _ _ _ (fun s fine => ?_) ?_)
    | (with_reducible refine sound_ite (fun _ => ?_) (fun _ => ?_)))

theorem execBollardRequest_sound {E : List Part} {base : State} (hE : [Part.power, Part.clock, Part.objects, Part.blobs, Part.held, Part.dict, Part.recorder, Part.pair, Part.alarms, Part.mram, Part.tap, Part.gnss, Part.gsol, Part.intake, Part.align, Part.est, Part.trk, Part.ctl, Part.ring, Part.alc, Part.srv, Part.saf, Part.net, Part.panel, Part.diag, Part.user, Part.wires, Part.free] ⊆ E) (t : Nat) (s : State)
    (fine : Sound E base (s.heard t)) : Kept E base (execBollardRequest t s) := by
  have k0 : [Part.power, Part.clock, Part.objects, Part.blobs, Part.held, Part.dict, Part.recorder, Part.pair, Part.alarms, Part.mram, Part.tap, Part.gnss, Part.gsol, Part.intake, Part.align, Part.est, Part.trk, Part.ctl, Part.ring, Part.alc, Part.srv, Part.saf, Part.net, Part.panel, Part.diag, Part.user, Part.wires, Part.free] ⊆ E := List.Subset.trans (by decide) hE
  have k1 : [Part.power, Part.objects, Part.recorder, Part.alarms, Part.ctl] ⊆ E := List.Subset.trans (by decide) hE
  unfold execBollardRequest
  repeat' (first
    | (with_reducible assumption)
    | (dsimp only)
    | ((with_reducible apply State.catchWork_sound k0))
    | ((with_reducible apply State.supervise_sound k1))
    | (with_reducible refine run_kept _ _ _ (fun s fine => ?_) ?_)
    | (with_reducible refine live_kept _ _ _ (fun s fine => ?_) ?_)
    | (with_reducible refine ported_kept _ _ _ (fun s fine => ?_) ?_)
    | (with_reducible refine sound_ite (fun _ => ?_) (fun _ => ?_)))

theorem execCapstanStart_sound {E : List Part} {base : State} (hE : [Part.power, Part.clock, Part.objects, Part.blobs, Part.held, Part.dict, Part.recorder, Part.pair, Part.alarms, Part.mram, Part.tap, Part.gnss, Part.gsol, Part.intake, Part.align, Part.est, Part.trk, Part.ctl, Part.ring, Part.alc, Part.srv, Part.saf, Part.net, Part.panel, Part.diag, Part.user, Part.wires, Part.free] ⊆ E) (t : Nat) (s : State)
    (fine : Sound E base (s.heard t)) : Kept E base (execCapstanStart t s) := by
  have h_ctl : Part.ctl ∈ E := hE (by decide)
  have k0 : [Part.power, Part.clock, Part.objects, Part.blobs, Part.held, Part.dict, Part.recorder, Part.pair, Part.alarms, Part.mram, Part.tap, Part.gnss, Part.gsol, Part.intake, Part.align, Part.est, Part.trk, Part.ctl, Part.ring, Part.alc, Part.srv, Part.saf, Part.net, Part.panel, Part.diag, Part.user, Part.wires, Part.free] ⊆ E := List.Subset.trans (by decide) hE
  have k1 : [Part.objects, Part.recorder, Part.alarms, Part.align, Part.ctl, Part.ring, Part.alc] ⊆ E := List.Subset.trans (by decide) hE
  have k2 : [Part.objects, Part.recorder, Part.alarms] ⊆ E := List.Subset.trans (by decide) hE
  have k3 : [Part.objects, Part.recorder] ⊆ E := List.Subset.trans (by decide) hE
  have k4 : [Part.objects, Part.recorder, Part.pair, Part.alarms, Part.diag] ⊆ E := List.Subset.trans (by decide) hE
  unfold execCapstanStart
  repeat' (first
    | (with_reducible assumption)
    | (dsimp only)
    | ((with_reducible apply State.catchWork_sound k0))
    | ((with_reducible apply State.allocate_sound k1))
    | ((with_reducible apply State.count_sound k2))
    | ((with_reducible apply State.event_sound k3))
    | ((with_reducible apply State.formDigest_sound k4))
    | (with_reducible refine run_kept _ _ _ (fun s fine => ?_) ?_)
    | (with_reducible refine live_kept _ _ _ (fun s fine => ?_) ?_)
    | (with_reducible refine ported_kept _ _ _ (fun s fine => ?_) ?_)
    | (with_reducible refine sound_ite (fun _ => ?_) (fun _ => ?_))
    | (with_reducible refine sound_foldl (fun s x h => ?_) ?_)
    | (with_reducible refine sound_foldl2 (fun s x h => ?_) ?_)
    | (fail_if_no_progress with_reducible refine Sound.upd_ctl h_ctl _ ?_))

theorem execSafeProduce_sound {E : List Part} {base : State} (hE : [Part.objects, Part.recorder, Part.alarms, Part.net, Part.wires] ⊆ E) (t k : Nat) (s : State)
    (fine : Sound E base (s.heard t)) : Kept E base (execSafeProduce t k s) := by
  have k0 : [Part.objects, Part.recorder, Part.alarms, Part.net, Part.wires] ⊆ E := List.Subset.trans (by decide) hE
  unfold execSafeProduce
  repeat' (first
    | (with_reducible assumption)
    | (dsimp only)
    | ((with_reducible apply State.produce_sound k0))
    | (with_reducible refine run_kept _ _ _ (fun s fine => ?_) ?_)
    | (with_reducible refine live_kept _ _ _ (fun s fine => ?_) ?_)
    | (with_reducible refine ported_kept _ _ _ (fun s fine => ?_) ?_)
    | (with_reducible refine sound_ite (fun _ => ?_) (fun _ => ?_))
    | (with_reducible refine sound_foldl (fun s x h => ?_) ?_)
    | (with_reducible refine sound_foldl2 (fun s x h => ?_) ?_)
    | (with_reducible refine sound_snd (by assumption) ?_)
    | (with_reducible refine sound_fst (by assumption) ?_)
    | (split))

theorem execStrapLevelChange_sound {E : List Part} {base : State} (hE : [Part.objects, Part.recorder, Part.pair, Part.alarms, Part.est, Part.ctl, Part.srv, Part.saf, Part.wires] ⊆ E) (t : Nat) (pad : StrapName) (s : State)
    (fine : Sound E base (s.heard t)) : Kept E base (execStrapLevelChange t pad s) := by
  have k0 : [Part.objects] ⊆ E := List.Subset.trans (by decide) hE
  have k1 : [Part.objects, Part.recorder, Part.pair, Part.alarms, Part.est, Part.ctl, Part.srv, Part.saf, Part.wires] ⊆ E := List.Subset.trans (by decide) hE
  unfold execStrapLevelChange
  repeat' (first
    | (with_reducible assumption)
    | (dsimp only)
    | ((with_reducible apply State.setBit_sound k0))
    | (with_reducible refine run_kept _ _ _ (fun s fine => ?_) ?_)
    | (with_reducible refine live_kept _ _ _ (fun s fine => ?_) ?_))

theorem execInputPresent_sound {E : List Part} {base : State} (hE : [Part.power, Part.objects] ⊆ E) (t input v10mV stableNs : Nat) (s : State)
    (fine : Sound E base (s.heard t)) : Kept E base (execInputPresent t input v10mV stableNs s) := by
  have k0 : [Part.power] ⊆ E := List.Subset.trans (by decide) hE
  have k1 : [Part.objects] ⊆ E := List.Subset.trans (by decide) hE
  unfold execInputPresent
  repeat' (first
    | (with_reducible assumption)
    | (dsimp only)
    | ((with_reducible apply State.putInput_sound k0))
    | ((with_reducible apply State.showInputs_sound k1))
    | (with_reducible refine run_kept _ _ _ (fun s fine => ?_) ?_)
    | (with_reducible refine live_kept _ _ _ (fun s fine => ?_) ?_)
    | (with_reducible refine ported_kept _ _ _ (fun s fine => ?_) ?_)
    | (with_reducible refine sound_ite (fun _ => ?_) (fun _ => ?_)))

theorem execInputAbsent_sound {E : List Part} {base : State} (hE : [Part.power, Part.objects, Part.recorder, Part.alarms] ⊆ E) (t input v10mV stableNs : Nat) (s : State)
    (fine : Sound E base (s.heard t)) : Kept E base (execInputAbsent t input v10mV stableNs s) := by
  have k0 : [Part.power] ⊆ E := List.Subset.trans (by decide) hE
  have k1 : [Part.objects] ⊆ E := List.Subset.trans (by decide) hE
  have k2 : [Part.objects, Part.recorder, Part.alarms] ⊆ E := List.Subset.trans (by decide) hE
  have k3 : [Part.objects, Part.recorder] ⊆ E := List.Subset.trans (by decide) hE
  unfold execInputAbsent
  repeat' (first
    | (with_reducible assumption)
    | (dsimp only)
    | ((with_reducible apply State.putInput_sound k0))
    | ((with_reducible apply State.showInputs_sound k1))
    | ((with_reducible apply State.count_sound k2))
    | ((with_reducible apply State.event_sound k3))
    | (with_reducible refine run_kept _ _ _ (fun s fine => ?_) ?_)
    | (with_reducible refine live_kept _ _ _ (fun s fine => ?_) ?_)
    | (with_reducible refine ported_kept _ _ _ (fun s fine => ?_) ?_)
    | (with_reducible refine sound_ite (fun _ => ?_) (fun _ => ?_)))

theorem execSupplyWarningChange_sound {E : List Part} {base : State} (hE : [Part.objects] ⊆ E) (t input : Nat) (high set : Bool) (v10mV : Nat) (s : State)
    (fine : Sound E base (s.heard t)) : Kept E base (execSupplyWarningChange t input high set v10mV s) := by
  have k0 : [Part.objects] ⊆ E := List.Subset.trans (by decide) hE
  unfold execSupplyWarningChange
  repeat' (first
    | (with_reducible assumption)
    | (dsimp only)
    | ((with_reducible apply State.setBit_sound k0))
    | (with_reducible refine run_kept _ _ _ (fun s fine => ?_) ?_)
    | (with_reducible refine live_kept _ _ _ (fun s fine => ?_) ?_)
    | (with_reducible refine ported_kept _ _ _ (fun s fine => ?_) ?_)
    | (with_reducible refine sound_ite (fun _ => ?_) (fun _ => ?_)))

theorem execTotalSupplyLoss_sound {E : List Part} {base : State} (hE : [Part.power, Part.clock, Part.objects, Part.held, Part.recorder, Part.pair, Part.alarms, Part.mram, Part.tap, Part.ctl, Part.srv, Part.saf, Part.panel, Part.diag, Part.wires, Part.free] ⊆ E) (t v10mV stableNs written : Nat) (s : State)
    (fine : Sound E base (s.heard t)) : Kept E base (execTotalSupplyLoss t v10mV stableNs written s) := by
  have h_power : Part.power ∈ E := hE (by decide)
  have k0 : [Part.power] ⊆ E := List.Subset.trans (by decide) hE
  have k1 : [Part.objects] ⊆ E := List.Subset.trans (by decide) hE
  have k2 : [Part.power, Part.clock, Part.objects, Part.held, Part.recorder, Part.pair, Part.alarms, Part.mram, Part.tap, Part.ctl, Part.srv, Part.saf, Part.panel, Part.diag, Part.wires, Part.free] ⊆ E := List.Subset.trans (by decide) hE
  unfold execTotalSupplyLoss
  repeat' (first
    | (with_reducible assumption)
    | (dsimp only)
    | ((with_reducible apply State.putInput_sound k0))
    | ((with_reducible apply State.showInputs_sound k1))
    | ((with_reducible apply State.shutdown_sound k2))
    | (with_reducible refine run_kept _ _ _ (fun s fine => ?_) ?_)
    | (with_reducible refine live_kept _ _ _ (fun s fine => ?_) ?_)
    | (with_reducible refine ported_kept _ _ _ (fun s fine => ?_) ?_)
    | (with_reducible refine sound_ite (fun _ => ?_) (fun _ => ?_))
    | (with_reducible refine sound_foldl (fun s x h => ?_) ?_)
    | (with_reducible refine sound_foldl2 (fun s x h => ?_) ?_)
    | (fail_if_no_progress with_reducible refine Sound.upd_power h_power _ ?_))

theorem execMrstNAct_sound {E : List Part} {base : State} (hE : [Part.power, Part.clock, Part.objects, Part.held, Part.recorder, Part.pair, Part.alarms, Part.mram, Part.tap, Part.ctl, Part.srv, Part.saf, Part.panel, Part.diag, Part.wires, Part.free] ⊆ E) (t written : Nat) (s : State)
    (fine : Sound E base (s.heard t)) : Kept E base (execMrstNAct t written s) := by
  have h_power : Part.power ∈ E := hE (by decide)
  have k0 : [Part.power, Part.clock, Part.objects, Part.held, Part.recorder, Part.pair, Part.alarms, Part.mram, Part.tap, Part.ctl, Part.srv, Part.saf, Part.panel, Part.diag, Part.wires, Part.free] ⊆ E := List.Subset.trans (by decide) hE
  unfold execMrstNAct
  repeat' (first
    | (with_reducible assumption)
    | (dsimp only)
    | ((with_reducible apply State.shutdown_sound k0))
    | (with_reducible refine run_kept _ _ _ (fun s fine => ?_) ?_)
    | (with_reducible refine live_kept _ _ _ (fun s fine => ?_) ?_)
    | (with_reducible refine ported_kept _ _ _ (fun s fine => ?_) ?_)
    | (with_reducible refine sound_ite (fun _ => ?_) (fun _ => ?_))
    | (with_reducible refine sound_foldl (fun s x h => ?_) ?_)
    | (with_reducible refine sound_foldl2 (fun s x h => ?_) ?_)
    | (fail_if_no_progress with_reducible refine Sound.upd_power h_power _ ?_))

theorem execTapInstruction_sound {E : List Part} {base : State} (hE : [Part.tap, Part.wires] ⊆ E) (t : Nat) (ir : TapIr) (s : State)
    (fine : Sound E base (s.heard t)) : Kept E base (execTapInstruction t ir s) := by
  have h_tap : Part.tap ∈ E := hE (by decide)
  have k0 : [Part.wires] ⊆ E := List.Subset.trans (by decide) hE
  refine live_kept _ _ _ (fun s fine => ?_) fine
  apply State.tell_sound k0
  refine ⟨fine.od', fine.blobs', fine.ident', ?_, fine.mem', fine.power, fine.ident, fine.clock, fine.od, fine.blobs, fine.held, fine.dict, fine.recorder, fine.pair, fine.alarms, fine.saturated, fine.mram, .inr h_tap, fine.gnss, fine.gsol, fine.intake, fine.align, fine.est, fine.trk, fine.ctl, fine.ring, fine.alc, fine.srv, fine.saf, fine.net, fine.panel, fine.diagn, fine.user, fine.out, fine.freeCount⟩
  dsimp only
  split
  · exact tapFits_secured _ _
  · next h =>
    have h : ¬ (s.pair.role = .active ∨ s.pair.role = .standby) := h
    revert h
    cases s.pair.role <;> simp [tapFits]

theorem execHoldupStoreCharged_sound {E : List Part} {base : State} (hE : [Part.objects, Part.recorder, Part.alarms] ⊆ E) (t : Nat) (tornCirc tornPerm : Bool) (s : State)
    (fine : Sound E base (s.heard t)) : Kept E base (execHoldupStoreCharged t tornCirc tornPerm s) := by
  have k0 : [Part.objects] ⊆ E := List.Subset.trans (by decide) hE
  have k1 : [Part.objects, Part.recorder, Part.alarms] ⊆ E := List.Subset.trans (by decide) hE
  unfold execHoldupStoreCharged
  repeat' (first
    | (with_reducible assumption)
    | (dsimp only)
    | ((with_reducible apply State.setBit_sound k0))
    | ((with_reducible apply State.openRecorder_sound k1))
    | (with_reducible refine run_kept _ _ _ (fun s fine => ?_) ?_)
    | (with_reducible refine live_kept _ _ _ (fun s fine => ?_) ?_)
    | (with_reducible refine ported_kept _ _ _ (fun s fine => ?_) ?_)
    | (with_reducible refine sound_ite (fun _ => ?_) (fun _ => ?_)))

theorem execConfigurationImageRead_sound {E : List Part} {base : State} (hE : [Part.power, Part.clock, Part.objects, Part.blobs, Part.recorder, Part.alarms, Part.mram, Part.gsol, Part.ctl] ⊆ E) (t : Nat) (currentReads previousReads : Bool) (s : State)
    (fine : Sound E base (s.heard t)) : Kept E base (execConfigurationImageRead t currentReads previousReads s) := by
  have h_power : Part.power ∈ E := hE (by decide)
  have h_mram : Part.mram ∈ E := hE (by decide)
  have k0 : [Part.clock, Part.objects, Part.blobs, Part.gsol, Part.ctl] ⊆ E := List.Subset.trans (by decide) hE
  have k1 : [Part.objects] ⊆ E := List.Subset.trans (by decide) hE
  have k2 : [Part.objects, Part.recorder, Part.alarms, Part.mram] ⊆ E := List.Subset.trans (by decide) hE
  have k3 : [Part.objects, Part.recorder, Part.alarms] ⊆ E := List.Subset.trans (by decide) hE
  unfold execConfigurationImageRead
  repeat' (first
    | (with_reducible assumption)
    | (dsimp only)
    | ((with_reducible apply State.reloadConfig_sound k0))
    | ((with_reducible apply State.setObj_sound k1))
    | ((with_reducible apply State.checkKept_sound k2))
    | ((with_reducible apply State.setObjs_sound k1))
    | ((with_reducible apply State.alarm_sound k3))
    | (with_reducible refine run_kept _ _ _ (fun s fine => ?_) ?_)
    | (with_reducible refine live_kept _ _ _ (fun s fine => ?_) ?_)
    | (with_reducible refine ported_kept _ _ _ (fun s fine => ?_) ?_)
    | (with_reducible refine sound_ite (fun _ => ?_) (fun _ => ?_))
    | (with_reducible refine sound_foldl (fun s x h => ?_) ?_)
    | (with_reducible refine sound_foldl2 (fun s x h => ?_) ?_)
    | (fail_if_no_progress with_reducible refine Sound.upd_mram h_mram _ ?_)
    | (fail_if_no_progress with_reducible refine Sound.upd_power h_power _ ?_))

theorem execTimeFirstSet_sound {E : List Part} {base : State} (hE : [Part.clock, Part.objects, Part.held, Part.recorder, Part.pair, Part.alarms, Part.gnss, Part.gsol, Part.intake, Part.align, Part.est, Part.trk, Part.ctl, Part.ring, Part.srv, Part.saf, Part.net, Part.user] ⊆ E) (t : Nat) (src : TimeOrigin) (taiNs : Nat) (taiUtc : Int) (s : State)
    (fine : Sound E base (s.heard t)) : Kept E base (execTimeFirstSet t src taiNs taiUtc s) := by
  have h_clock : Part.clock ∈ E := hE (by decide)
  have k0 : [Part.clock, Part.objects, Part.held, Part.recorder, Part.pair, Part.alarms, Part.gnss, Part.gsol, Part.intake, Part.align, Part.est, Part.trk, Part.ctl, Part.ring, Part.srv, Part.saf, Part.net, Part.user] ⊆ E := List.Subset.trans (by decide) hE
  have k1 : [Part.clock, Part.objects] ⊆ E := List.Subset.trans (by decide) hE
  have k2 : [Part.objects] ⊆ E := List.Subset.trans (by decide) hE
  unfold execTimeFirstSet
  repeat' (first
    | (with_reducible assumption)
    | (dsimp only)
    | ((with_reducible apply State.stepGrids_sound k0))
    | ((with_reducible apply State.putUtc_sound k1))
    | ((with_reducible apply State.setObj_sound k2))
    | ((with_reducible apply State.setObjs_sound k2))
    | (with_reducible refine run_kept _ _ _ (fun s fine => ?_) ?_)
    | (with_reducible refine live_kept _ _ _ (fun s fine => ?_) ?_)
    | (with_reducible refine ported_kept _ _ _ (fun s fine => ?_) ?_)
    | (with_reducible refine sound_ite (fun _ => ?_) (fun _ => ?_))
    | (with_reducible refine sound_foldl (fun s x h => ?_) ?_)
    | (with_reducible refine sound_foldl2 (fun s x h => ?_) ?_)
    | (fail_if_no_progress with_reducible refine Sound.upd_clock h_clock _ ?_)
    | (with_reducible refine sound_snd (by assumption) ?_)
    | (with_reducible refine sound_fst (by assumption) ?_)
    | (split))

theorem execResetsReleased_sound {E : List Part} {base : State} (hE : [Part.power] ⊆ E) (t : Nat) (s : State)
    (fine : Sound E base (s.heard t)) : Kept E base (execResetsReleased t s) := by
  have h_power : Part.power ∈ E := hE (by decide)
  unfold execResetsReleased
  repeat' (first
    | (with_reducible assumption)
    | (dsimp only)
    | (with_reducible refine run_kept _ _ _ (fun s fine => ?_) ?_)
    | (with_reducible refine live_kept _ _ _ (fun s fine => ?_) ?_)
    | (with_reducible refine ported_kept _ _ _ (fun s fine => ?_) ?_)
    | (with_reducible refine sound_ite (fun _ => ?_) (fun _ => ?_))
    | (with_reducible refine sound_foldl (fun s x h => ?_) ?_)
    | (with_reducible refine sound_foldl2 (fun s x h => ?_) ?_)
    | (fail_if_no_progress with_reducible refine Sound.upd_power h_power _ ?_))

theorem execPortsEnabled_sound {E : List Part} {base : State} (hE : [Part.power, Part.objects, Part.dict, Part.recorder, Part.pair, Part.alarms, Part.saf, Part.net, Part.wires] ⊆ E) (t : Nat) (s : State)
    (fine : Sound E base (s.heard t)) : Kept E base (execPortsEnabled t s) := by
  have h_power : Part.power ∈ E := hE (by decide)
  have h_pair : Part.pair ∈ E := hE (by decide)
  have h_saf : Part.saf ∈ E := hE (by decide)
  have k0 : [Part.objects] ⊆ E := List.Subset.trans (by decide) hE
  have k1 : [Part.objects, Part.recorder, Part.alarms, Part.net] ⊆ E := List.Subset.trans (by decide) hE
  have k2 : [Part.objects, Part.dict, Part.wires] ⊆ E := List.Subset.trans (by decide) hE
  have k3 : [Part.wires] ⊆ E := List.Subset.trans (by decide) hE
  unfold execPortsEnabled
  repeat' (first
    | (with_reducible assumption)
    | (dsimp only)
    | ((with_reducible apply State.setObj_sound k0))
    | ((with_reducible apply State.restartConn_sound k1))
    | ((with_reducible apply State.showSupplies_sound k0))
    | ((with_reducible apply State.startCan_sound k2))
    | ((with_reducible apply State.nodeMessage_sound k3))
    | (with_reducible refine run_kept _ _ _ (fun s fine => ?_) ?_)
    | (with_reducible refine live_kept _ _ _ (fun s fine => ?_) ?_)
    | (with_reducible refine ported_kept _ _ _ (fun s fine => ?_) ?_)
    | (with_reducible refine sound_ite (fun _ => ?_) (fun _ => ?_))
    | (with_reducible refine sound_foldl (fun s x h => ?_) ?_)
    | (with_reducible refine sound_foldl2 (fun s x h => ?_) ?_)
    | (fail_if_no_progress with_reducible refine Sound.upd_power_pair_saf h_power h_pair h_saf _ ?_ rfl))

theorem execSafetySelfTestDone_sound {E : List Part} {base : State} (hE : [Part.power, Part.objects, Part.recorder, Part.pair, Part.alarms, Part.saf, Part.diag, Part.wires, Part.free] ⊆ E) (t : Nat) (passed : Bool) (mirrors : List (Bool × Bool)) (s : State)
    (fine : Sound E base (s.heard t)) : Kept E base (execSafetySelfTestDone t passed mirrors s) := by
  have h_power : Part.power ∈ E := hE (by decide)
  have h_saf : Part.saf ∈ E := hE (by decide)
  have k0 : [Part.objects] ⊆ E := List.Subset.trans (by decide) hE
  have k1 : [Part.objects, Part.recorder, Part.pair, Part.alarms, Part.saf, Part.diag, Part.wires, Part.free] ⊆ E := List.Subset.trans (by decide) hE
  unfold execSafetySelfTestDone
  repeat' (first
    | (with_reducible assumption)
    | (dsimp only)
    | ((with_reducible apply State.setMirrors_sound k0))
    | ((with_reducible apply State.safetyEval_sound k1))
    | (with_reducible refine run_kept _ _ _ (fun s fine => ?_) ?_)
    | (with_reducible refine live_kept _ _ _ (fun s fine => ?_) ?_)
    | (with_reducible refine ported_kept _ _ _ (fun s fine => ?_) ?_)
    | (with_reducible refine sound_ite (fun _ => ?_) (fun _ => ?_))
    | (with_reducible refine sound_foldl (fun s x h => ?_) ?_)
    | (with_reducible refine sound_foldl2 (fun s x h => ?_) ?_)
    | (fail_if_no_progress with_reducible refine Sound.upd_power h_power _ ?_)
    | (fail_if_no_progress with_reducible refine Sound.upd_saf h_saf _ ?_))

theorem execHoldReady_sound {E : List Part} {base : State} (hE : [Part.power, Part.objects, Part.blobs, Part.recorder, Part.alarms, Part.mram, Part.est, Part.ctl, Part.panel, Part.user] ⊆ E) (t : Nat) (panelReads : Bool) (s : State)
    (fine : Sound E base (s.heard t)) : Kept E base (execHoldReady t panelReads s) := by
  have h_power : Part.power ∈ E := hE (by decide)
  have h_mram : Part.mram ∈ E := hE (by decide)
  have h_ctl : Part.ctl ∈ E := hE (by decide)
  have k0 : [Part.objects] ⊆ E := List.Subset.trans (by decide) hE
  have k1 : [Part.objects, Part.est] ⊆ E := List.Subset.trans (by decide) hE
  have k2 : [Part.objects, Part.blobs, Part.recorder, Part.alarms, Part.user] ⊆ E := List.Subset.trans (by decide) hE
  have k3 : [Part.blobs, Part.mram, Part.panel] ⊆ E := List.Subset.trans (by decide) hE
  unfold execHoldReady
  repeat' (first
    | (with_reducible assumption)
    | (dsimp only)
    | ((with_reducible apply State.setObj_sound k0))
    | ((with_reducible apply State.estStart_sound k1))
    | ((with_reducible apply State.startUser_sound k2))
    | ((with_reducible apply State.panelStart_sound k3))
    | (with_reducible refine run_kept _ _ _ (fun s fine => ?_) ?_)
    | (with_reducible refine live_kept _ _ _ (fun s fine => ?_) ?_)
    | (with_reducible refine ported_kept _ _ _ (fun s fine => ?_) ?_)
    | (with_reducible refine sound_ite (fun _ => ?_) (fun _ => ?_))
    | (with_reducible refine sound_foldl (fun s x h => ?_) ?_)
    | (with_reducible refine sound_foldl2 (fun s x h => ?_) ?_)
    | (fail_if_no_progress with_reducible refine Sound.upd_mram h_mram _ ?_)
    | (fail_if_no_progress with_reducible refine Sound.upd_power_ctl h_power h_ctl _ ?_))

theorem execOcxoWarm_sound {E : List Part} {base : State} (hE : [Part.objects] ⊆ E) (t stableNs : Nat) (s : State)
    (fine : Sound E base (s.heard t)) : Kept E base (execOcxoWarm t stableNs s) := by
  have k0 : [Part.objects] ⊆ E := List.Subset.trans (by decide) hE
  unfold execOcxoWarm
  repeat' (first
    | (with_reducible assumption)
    | (dsimp only)
    | ((with_reducible apply State.setBit_sound k0))
    | (with_reducible refine run_kept _ _ _ (fun s fine => ?_) ?_)
    | (with_reducible refine live_kept _ _ _ (fun s fine => ?_) ?_)
    | (with_reducible refine ported_kept _ _ _ (fun s fine => ?_) ?_)
    | (with_reducible refine sound_ite (fun _ => ?_) (fun _ => ?_)))

theorem execResumeAbandon_sound {E : List Part} {base : State} (hE : [Part.power, Part.objects, Part.recorder, Part.alarms, Part.ctl] ⊆ E) (t : Nat) (s : State)
    (fine : Sound E base (s.heard t)) : Kept E base (execResumeAbandon t s) := by
  have k0 : [Part.power, Part.objects, Part.recorder, Part.alarms, Part.ctl] ⊆ E := List.Subset.trans (by decide) hE
  unfold execResumeAbandon
  repeat' (first
    | (with_reducible assumption)
    | (dsimp only)
    | ((with_reducible apply State.abandonResume_sound k0))
    | (with_reducible refine run_kept _ _ _ (fun s fine => ?_) ?_)
    | (with_reducible refine live_kept _ _ _ (fun s fine => ?_) ?_)
    | (with_reducible refine ported_kept _ _ _ (fun s fine => ?_) ?_)
    | (with_reducible refine sound_ite (fun _ => ?_) (fun _ => ?_)))

theorem execThermalWarning_sound {E : List Part} {base : State} (hE : [Part.power, Part.objects, Part.recorder, Part.alarms, Part.mram] ⊆ E) (t : Nat) (case10 junction10 : Int) (s : State)
    (fine : Sound E base (s.heard t)) : Kept E base (execThermalWarning t case10 junction10 s) := by
  have h_power : Part.power ∈ E := hE (by decide)
  have k0 : [Part.power, Part.mram] ⊆ E := List.Subset.trans (by decide) hE
  have k1 : [Part.objects] ⊆ E := List.Subset.trans (by decide) hE
  have k2 : [Part.objects, Part.recorder, Part.alarms] ⊆ E := List.Subset.trans (by decide) hE
  unfold execThermalWarning
  repeat' (first
    | (with_reducible assumption)
    | (dsimp only)
    | ((with_reducible apply State.weighLife_sound k0))
    | ((with_reducible apply State.setObjs_sound k1))
    | ((with_reducible apply State.setBit_sound k1))
    | ((with_reducible apply State.alarmIf_sound k2))
    | (with_reducible refine run_kept _ _ _ (fun s fine => ?_) ?_)
    | (with_reducible refine live_kept _ _ _ (fun s fine => ?_) ?_)
    | (with_reducible refine ported_kept _ _ _ (fun s fine => ?_) ?_)
    | (with_reducible refine sound_ite (fun _ => ?_) (fun _ => ?_))
    | (with_reducible refine sound_foldl (fun s x h => ?_) ?_)
    | (with_reducible refine sound_foldl2 (fun s x h => ?_) ?_)
    | (fail_if_no_progress with_reducible refine Sound.upd_power h_power _ ?_))

theorem execPpsSettingWrite_sound {E : List Part} {base : State} (hE : [Part.power, Part.clock, Part.objects, Part.blobs, Part.held, Part.dict, Part.recorder, Part.pair, Part.alarms, Part.mram, Part.tap, Part.ctl, Part.ring, Part.srv, Part.saf, Part.net, Part.diag, Part.user, Part.wires, Part.free] ⊆ E) (t : Nat) (c : Client) (via : OdVia) (output : Nat) (compensation : Bool) (value : Int) (s : State)
    (fine : Sound E base (s.heard t)) : Kept E base (execPpsSettingWrite t c via output compensation value s) := by
  have k0 : [Part.power, Part.clock, Part.objects, Part.blobs, Part.held, Part.dict, Part.recorder, Part.pair, Part.alarms, Part.mram, Part.tap, Part.ctl, Part.ring, Part.srv, Part.saf, Part.net, Part.diag, Part.user, Part.wires, Part.free] ⊆ E := List.Subset.trans (by decide) hE
  unfold execPpsSettingWrite
  repeat' (first
    | (with_reducible assumption)
    | (dsimp only)
    | ((with_reducible apply State.clientNum_sound k0))
    | (with_reducible refine run_kept _ _ _ (fun s fine => ?_) ?_)
    | (with_reducible refine live_kept _ _ _ (fun s fine => ?_) ?_)
    | (with_reducible refine ported_kept _ _ _ (fun s fine => ?_) ?_)
    | (with_reducible refine sound_ite (fun _ => ?_) (fun _ => ?_)))

theorem execKeptDataErase_sound {E : List Part} {base : State} (hE : [Part.power, Part.clock, Part.objects, Part.blobs, Part.held, Part.dict, Part.recorder, Part.pair, Part.alarms, Part.mram, Part.tap, Part.ctl, Part.ring, Part.srv, Part.saf, Part.net, Part.diag, Part.user, Part.wires, Part.free] ⊆ E) (t : Nat) (c : Client) (via : OdVia) (s : State)
    (fine : Sound E base (s.heard t)) : Kept E base (execKeptDataErase t c via s) := by
  have k0 : [Part.power, Part.clock, Part.objects, Part.blobs, Part.held, Part.dict, Part.recorder, Part.pair, Part.alarms, Part.mram, Part.tap, Part.ctl, Part.ring, Part.srv, Part.saf, Part.net, Part.diag, Part.user, Part.wires, Part.free] ⊆ E := List.Subset.trans (by decide) hE
  unfold execKeptDataErase
  repeat' (first
    | (with_reducible assumption)
    | (dsimp only)
    | ((with_reducible apply State.clientNum_sound k0))
    | (with_reducible refine run_kept _ _ _ (fun s fine => ?_) ?_)
    | (with_reducible refine live_kept _ _ _ (fun s fine => ?_) ?_)
    | (with_reducible refine ported_kept _ _ _ (fun s fine => ?_) ?_))

theorem execHarbourModeOn_sound {E : List Part} {base : State} (hE : [Part.power, Part.clock, Part.objects, Part.blobs, Part.held, Part.dict, Part.recorder, Part.pair, Part.alarms, Part.mram, Part.tap, Part.ctl, Part.ring, Part.srv, Part.saf, Part.net, Part.diag, Part.user, Part.wires, Part.free] ⊆ E) (t : Nat) (c : Client) (via : OdVia) (s : State)
    (fine : Sound E base (s.heard t)) : Kept E base (execHarbourModeOn t c via s) := by
  have k0 : [Part.power, Part.clock, Part.objects, Part.blobs, Part.held, Part.dict, Part.recorder, Part.pair, Part.alarms, Part.mram, Part.tap, Part.ctl, Part.ring, Part.srv, Part.saf, Part.net, Part.diag, Part.user, Part.wires, Part.free] ⊆ E := List.Subset.trans (by decide) hE
  unfold execHarbourModeOn
  repeat' (first
    | (with_reducible assumption)
    | (dsimp only)
    | ((with_reducible apply State.clientNum_sound k0))
    | (with_reducible refine run_kept _ _ _ (fun s fine => ?_) ?_)
    | (with_reducible refine live_kept _ _ _ (fun s fine => ?_) ?_)
    | (with_reducible refine ported_kept _ _ _ (fun s fine => ?_) ?_))

theorem execHarbourModeOff_sound {E : List Part} {base : State} (hE : [Part.power, Part.clock, Part.objects, Part.blobs, Part.held, Part.dict, Part.recorder, Part.pair, Part.alarms, Part.mram, Part.tap, Part.ctl, Part.ring, Part.srv, Part.saf, Part.net, Part.diag, Part.user, Part.wires, Part.free] ⊆ E) (t : Nat) (c : Client) (via : OdVia) (s : State)
    (fine : Sound E base (s.heard t)) : Kept E base (execHarbourModeOff t c via s) := by
  have k0 : [Part.power, Part.clock, Part.objects, Part.blobs, Part.held, Part.dict, Part.recorder, Part.pair, Part.alarms, Part.mram, Part.tap, Part.ctl, Part.ring, Part.srv, Part.saf, Part.net, Part.diag, Part.user, Part.wires, Part.free] ⊆ E := List.Subset.trans (by decide) hE
  unfold execHarbourModeOff
  repeat' (first
    | (with_reducible assumption)
    | (dsimp only)
    | ((with_reducible apply State.clientNum_sound k0))
    | (with_reducible refine run_kept _ _ _ (fun s fine => ?_) ?_)
    | (with_reducible refine live_kept _ _ _ (fun s fine => ?_) ?_)
    | (with_reducible refine ported_kept _ _ _ (fun s fine => ?_) ?_))

theorem execSourceReadmit_sound {E : List Part} {base : State} (hE : [Part.power, Part.clock, Part.objects, Part.blobs, Part.held, Part.dict, Part.recorder, Part.pair, Part.alarms, Part.mram, Part.tap, Part.ctl, Part.ring, Part.srv, Part.saf, Part.net, Part.diag, Part.user, Part.wires, Part.free] ⊆ E) (t : Nat) (c : Client) (via : OdVia) (source : Nat) (s : State)
    (fine : Sound E base (s.heard t)) : Kept E base (execSourceReadmit t c via source s) := by
  have k0 : [Part.power, Part.clock, Part.objects, Part.blobs, Part.held, Part.dict, Part.recorder, Part.pair, Part.alarms, Part.mram, Part.tap, Part.ctl, Part.ring, Part.srv, Part.saf, Part.net, Part.diag, Part.user, Part.wires, Part.free] ⊆ E := List.Subset.trans (by decide) hE
  unfold execSourceReadmit
  repeat' (first
    | (with_reducible assumption)
    | (dsimp only)
    | ((with_reducible apply State.clientNum_sound k0))
    | (with_reducible refine run_kept _ _ _ (fun s fine => ?_) ?_)
    | (with_reducible refine live_kept _ _ _ (fun s fine => ?_) ?_)
    | (with_reducible refine ported_kept _ _ _ (fun s fine => ?_) ?_)
    | (with_reducible refine sound_ite (fun _ => ?_) (fun _ => ?_)))

theorem execCalibrationCommit_sound {E : List Part} {base : State} (hE : [Part.power, Part.clock, Part.objects, Part.blobs, Part.held, Part.dict, Part.recorder, Part.pair, Part.alarms, Part.mram, Part.tap, Part.ctl, Part.ring, Part.srv, Part.saf, Part.net, Part.diag, Part.user, Part.wires, Part.free] ⊆ E) (t : Nat) (c : Client) (via : OdVia) (s : State)
    (fine : Sound E base (s.heard t)) : Kept E base (execCalibrationCommit t c via s) := by
  have k0 : [Part.power, Part.clock, Part.objects, Part.blobs, Part.held, Part.dict, Part.recorder, Part.pair, Part.alarms, Part.mram, Part.tap, Part.ctl, Part.ring, Part.srv, Part.saf, Part.net, Part.diag, Part.user, Part.wires, Part.free] ⊆ E := List.Subset.trans (by decide) hE
  unfold execCalibrationCommit
  repeat' (first
    | (with_reducible assumption)
    | (dsimp only)
    | ((with_reducible apply State.clientNum_sound k0))
    | (with_reducible refine run_kept _ _ _ (fun s fine => ?_) ?_)
    | (with_reducible refine live_kept _ _ _ (fun s fine => ?_) ?_)
    | (with_reducible refine ported_kept _ _ _ (fun s fine => ?_) ?_))

theorem execTrackDelete_sound {E : List Part} {base : State} (hE : [Part.power, Part.clock, Part.objects, Part.blobs, Part.held, Part.dict, Part.recorder, Part.pair, Part.alarms, Part.mram, Part.tap, Part.ctl, Part.ring, Part.srv, Part.saf, Part.net, Part.diag, Part.user, Part.wires, Part.free] ⊆ E) (t : Nat) (c : Client) (via : OdVia) (track : Nat) (s : State)
    (fine : Sound E base (s.heard t)) : Kept E base (execTrackDelete t c via track s) := by
  have k0 : [Part.power, Part.clock, Part.objects, Part.blobs, Part.held, Part.dict, Part.recorder, Part.pair, Part.alarms, Part.mram, Part.tap, Part.ctl, Part.ring, Part.srv, Part.saf, Part.net, Part.diag, Part.user, Part.wires, Part.free] ⊆ E := List.Subset.trans (by decide) hE
  unfold execTrackDelete
  repeat' (first
    | (with_reducible assumption)
    | (dsimp only)
    | ((with_reducible apply State.clientNum_sound k0))
    | (with_reducible refine run_kept _ _ _ (fun s fine => ?_) ?_)
    | (with_reducible refine live_kept _ _ _ (fun s fine => ?_) ?_)
    | (with_reducible refine ported_kept _ _ _ (fun s fine => ?_) ?_)
    | (with_reducible refine sound_ite (fun _ => ?_) (fun _ => ?_)))

theorem execJoystickWrite_sound {E : List Part} {base : State} (hE : [Part.power, Part.clock, Part.objects, Part.blobs, Part.held, Part.dict, Part.recorder, Part.pair, Part.alarms, Part.mram, Part.tap, Part.ctl, Part.ring, Part.srv, Part.saf, Part.net, Part.diag, Part.user, Part.wires, Part.free] ⊆ E) (t : Nat) (c : Client) (via : OdVia) (axis : Nat) (value : Int) (s : State)
    (fine : Sound E base (s.heard t)) : Kept E base (execJoystickWrite t c via axis value s) := by
  have k0 : [Part.power, Part.clock, Part.objects, Part.blobs, Part.held, Part.dict, Part.recorder, Part.pair, Part.alarms, Part.mram, Part.tap, Part.ctl, Part.ring, Part.srv, Part.saf, Part.net, Part.diag, Part.user, Part.wires, Part.free] ⊆ E := List.Subset.trans (by decide) hE
  unfold execJoystickWrite
  repeat' (first
    | (with_reducible assumption)
    | (dsimp only)
    | ((with_reducible apply State.clientNum_sound k0))
    | (with_reducible refine run_kept _ _ _ (fun s fine => ?_) ?_)
    | (with_reducible refine live_kept _ _ _ (fun s fine => ?_) ?_)
    | (with_reducible refine ported_kept _ _ _ (fun s fine => ?_) ?_)
    | (with_reducible refine sound_ite (fun _ => ?_) (fun _ => ?_)))

theorem execControlRateWrite_sound {E : List Part} {base : State} (hE : [Part.power, Part.clock, Part.objects, Part.blobs, Part.held, Part.dict, Part.recorder, Part.pair, Part.alarms, Part.mram, Part.tap, Part.ctl, Part.ring, Part.srv, Part.saf, Part.net, Part.diag, Part.user, Part.wires, Part.free] ⊆ E) (t : Nat) (c : Client) (via : OdVia) (value : Int) (s : State)
    (fine : Sound E base (s.heard t)) : Kept E base (execControlRateWrite t c via value s) := by
  have k0 : [Part.power, Part.clock, Part.objects, Part.blobs, Part.held, Part.dict, Part.recorder, Part.pair, Part.alarms, Part.mram, Part.tap, Part.ctl, Part.ring, Part.srv, Part.saf, Part.net, Part.diag, Part.user, Part.wires, Part.free] ⊆ E := List.Subset.trans (by decide) hE
  unfold execControlRateWrite
  repeat' (first
    | (with_reducible assumption)
    | (dsimp only)
    | ((with_reducible apply State.clientNum_sound k0))
    | (with_reducible refine run_kept _ _ _ (fun s fine => ?_) ?_)
    | (with_reducible refine live_kept _ _ _ (fun s fine => ?_) ?_)
    | (with_reducible refine ported_kept _ _ _ (fun s fine => ?_) ?_))

theorem execOutputPhaseWrite_sound {E : List Part} {base : State} (hE : [Part.power, Part.clock, Part.objects, Part.blobs, Part.held, Part.dict, Part.recorder, Part.pair, Part.alarms, Part.mram, Part.tap, Part.ctl, Part.ring, Part.srv, Part.saf, Part.net, Part.diag, Part.user, Part.wires, Part.free] ⊆ E) (t : Nat) (c : Client) (via : OdVia) (value : Int) (s : State)
    (fine : Sound E base (s.heard t)) : Kept E base (execOutputPhaseWrite t c via value s) := by
  have k0 : [Part.power, Part.clock, Part.objects, Part.blobs, Part.held, Part.dict, Part.recorder, Part.pair, Part.alarms, Part.mram, Part.tap, Part.ctl, Part.ring, Part.srv, Part.saf, Part.net, Part.diag, Part.user, Part.wires, Part.free] ⊆ E := List.Subset.trans (by decide) hE
  unfold execOutputPhaseWrite
  repeat' (first
    | (with_reducible assumption)
    | (dsimp only)
    | ((with_reducible apply State.clientNum_sound k0))
    | (with_reducible refine run_kept _ _ _ (fun s fine => ?_) ?_)
    | (with_reducible refine live_kept _ _ _ (fun s fine => ?_) ?_)
    | (with_reducible refine ported_kept _ _ _ (fun s fine => ?_) ?_))

theorem execBankSwap_sound {E : List Part} {base : State} (hE : [Part.power, Part.clock, Part.objects, Part.blobs, Part.held, Part.dict, Part.recorder, Part.pair, Part.alarms, Part.mram, Part.tap, Part.ctl, Part.ring, Part.srv, Part.saf, Part.net, Part.diag, Part.user, Part.wires, Part.free] ⊆ E) (t : Nat) (c : Client) (via : OdVia) (s : State)
    (fine : Sound E base (s.heard t)) : Kept E base (execBankSwap t c via s) := by
  have k0 : [Part.power, Part.clock, Part.objects, Part.blobs, Part.held, Part.dict, Part.recorder, Part.pair, Part.alarms, Part.mram, Part.tap, Part.ctl, Part.ring, Part.srv, Part.saf, Part.net, Part.diag, Part.user, Part.wires, Part.free] ⊆ E := List.Subset.trans (by decide) hE
  unfold execBankSwap
  repeat' (first
    | (with_reducible assumption)
    | (dsimp only)
    | ((with_reducible apply State.clientNum_sound k0))
    | (with_reducible refine run_kept _ _ _ (fun s fine => ?_) ?_)
    | (with_reducible refine live_kept _ _ _ (fun s fine => ?_) ?_)
    | (with_reducible refine ported_kept _ _ _ (fun s fine => ?_) ?_))

theorem execBankCopy_sound {E : List Part} {base : State} (hE : [Part.power, Part.clock, Part.objects, Part.blobs, Part.held, Part.dict, Part.recorder, Part.pair, Part.alarms, Part.mram, Part.tap, Part.ctl, Part.ring, Part.srv, Part.saf, Part.net, Part.diag, Part.user, Part.wires, Part.free] ⊆ E) (t : Nat) (c : Client) (via : OdVia) (s : State)
    (fine : Sound E base (s.heard t)) : Kept E base (execBankCopy t c via s) := by
  have k0 : [Part.power, Part.clock, Part.objects, Part.blobs, Part.held, Part.dict, Part.recorder, Part.pair, Part.alarms, Part.mram, Part.tap, Part.ctl, Part.ring, Part.srv, Part.saf, Part.net, Part.diag, Part.user, Part.wires, Part.free] ⊆ E := List.Subset.trans (by decide) hE
  unfold execBankCopy
  repeat' (first
    | (with_reducible assumption)
    | (dsimp only)
    | ((with_reducible apply State.clientNum_sound k0))
    | (with_reducible refine run_kept _ _ _ (fun s fine => ?_) ?_)
    | (with_reducible refine live_kept _ _ _ (fun s fine => ?_) ?_)
    | (with_reducible refine ported_kept _ _ _ (fun s fine => ?_) ?_))

theorem execBusLimitWrite_sound {E : List Part} {base : State} (hE : [Part.power, Part.clock, Part.objects, Part.blobs, Part.held, Part.dict, Part.recorder, Part.pair, Part.alarms, Part.mram, Part.tap, Part.ctl, Part.ring, Part.srv, Part.saf, Part.net, Part.diag, Part.user, Part.wires, Part.free] ⊆ E) (t : Nat) (c : Client) (via : OdVia) (bus : Nat) (value : Int) (s : State)
    (fine : Sound E base (s.heard t)) : Kept E base (execBusLimitWrite t c via bus value s) := by
  have k0 : [Part.power, Part.clock, Part.objects, Part.blobs, Part.held, Part.dict, Part.recorder, Part.pair, Part.alarms, Part.mram, Part.tap, Part.ctl, Part.ring, Part.srv, Part.saf, Part.net, Part.diag, Part.user, Part.wires, Part.free] ⊆ E := List.Subset.trans (by decide) hE
  unfold execBusLimitWrite
  repeat' (first
    | (with_reducible assumption)
    | (dsimp only)
    | ((with_reducible apply State.clientNum_sound k0))
    | (with_reducible refine run_kept _ _ _ (fun s fine => ?_) ?_)
    | (with_reducible refine live_kept _ _ _ (fun s fine => ?_) ?_)
    | (with_reducible refine ported_kept _ _ _ (fun s fine => ?_) ?_)
    | (with_reducible refine sound_ite (fun _ => ?_) (fun _ => ?_)))

theorem execAllocationWrite_sound {E : List Part} {base : State} (hE : [Part.power, Part.clock, Part.objects, Part.blobs, Part.held, Part.dict, Part.recorder, Part.pair, Part.alarms, Part.mram, Part.tap, Part.ctl, Part.ring, Part.srv, Part.saf, Part.net, Part.diag, Part.user, Part.wires, Part.free] ⊆ E) (t : Nat) (c : Client) (via : OdVia) (thruster : Nat) (value : Int) (s : State)
    (fine : Sound E base (s.heard t)) : Kept E base (execAllocationWrite t c via thruster value s) := by
  have k0 : [Part.power, Part.clock, Part.objects, Part.blobs, Part.held, Part.dict, Part.recorder, Part.pair, Part.alarms, Part.mram, Part.tap, Part.ctl, Part.ring, Part.srv, Part.saf, Part.net, Part.diag, Part.user, Part.wires, Part.free] ⊆ E := List.Subset.trans (by decide) hE
  unfold execAllocationWrite
  repeat' (first
    | (with_reducible assumption)
    | (dsimp only)
    | ((with_reducible apply State.clientNum_sound k0))
    | (with_reducible refine run_kept _ _ _ (fun s fine => ?_) ?_)
    | (with_reducible refine live_kept _ _ _ (fun s fine => ?_) ?_)
    | (with_reducible refine ported_kept _ _ _ (fun s fine => ?_) ?_)
    | (with_reducible refine sound_ite (fun _ => ?_) (fun _ => ?_)))

theorem execGeometryWrite_sound {E : List Part} {base : State} (hE : [Part.power, Part.clock, Part.objects, Part.blobs, Part.held, Part.dict, Part.recorder, Part.pair, Part.alarms, Part.mram, Part.tap, Part.ctl, Part.ring, Part.srv, Part.saf, Part.net, Part.diag, Part.user, Part.wires, Part.free] ⊆ E) (t : Nat) (c : Client) (via : OdVia) (index sub : Nat) (v : Val) (s : State)
    (fine : Sound E base (s.heard t)) : Kept E base (execGeometryWrite t c via index sub v s) := by
  have k0 : [Part.power, Part.clock, Part.objects, Part.blobs, Part.held, Part.dict, Part.recorder, Part.pair, Part.alarms, Part.mram, Part.tap, Part.ctl, Part.ring, Part.srv, Part.saf, Part.net, Part.diag, Part.user, Part.wires, Part.free] ⊆ E := List.Subset.trans (by decide) hE
  unfold execGeometryWrite
  repeat' (first
    | (with_reducible assumption)
    | (dsimp only)
    | ((with_reducible apply State.clientWrite_sound k0))
    | (with_reducible refine run_kept _ _ _ (fun s fine => ?_) ?_)
    | (with_reducible refine live_kept _ _ _ (fun s fine => ?_) ?_)
    | (with_reducible refine ported_kept _ _ _ (fun s fine => ?_) ?_)
    | (with_reducible refine sound_ite (fun _ => ?_) (fun _ => ?_)))

theorem execGeometryModeWrite_sound {E : List Part} {base : State} (hE : [Part.power, Part.clock, Part.objects, Part.blobs, Part.held, Part.dict, Part.recorder, Part.pair, Part.alarms, Part.mram, Part.tap, Part.ctl, Part.ring, Part.srv, Part.saf, Part.net, Part.diag, Part.user, Part.wires, Part.free] ⊆ E) (t : Nat) (c : Client) (via : OdVia) (value : Int) (s : State)
    (fine : Sound E base (s.heard t)) : Kept E base (execGeometryModeWrite t c via value s) := by
  have k0 : [Part.power, Part.clock, Part.objects, Part.blobs, Part.held, Part.dict, Part.recorder, Part.pair, Part.alarms, Part.mram, Part.tap, Part.ctl, Part.ring, Part.srv, Part.saf, Part.net, Part.diag, Part.user, Part.wires, Part.free] ⊆ E := List.Subset.trans (by decide) hE
  unfold execGeometryModeWrite
  repeat' (first
    | (with_reducible assumption)
    | (dsimp only)
    | ((with_reducible apply State.clientNum_sound k0))
    | (with_reducible refine run_kept _ _ _ (fun s fine => ?_) ?_)
    | (with_reducible refine live_kept _ _ _ (fun s fine => ?_) ?_)
    | (with_reducible refine ported_kept _ _ _ (fun s fine => ?_) ?_))

theorem execServoRateWrite_sound {E : List Part} {base : State} (hE : [Part.power, Part.clock, Part.objects, Part.blobs, Part.held, Part.dict, Part.recorder, Part.pair, Part.alarms, Part.mram, Part.tap, Part.ctl, Part.ring, Part.srv, Part.saf, Part.net, Part.diag, Part.user, Part.wires, Part.free] ⊆ E) (t : Nat) (c : Client) (via : OdVia) (value : Int) (s : State)
    (fine : Sound E base (s.heard t)) : Kept E base (execServoRateWrite t c via value s) := by
  have k0 : [Part.power, Part.clock, Part.objects, Part.blobs, Part.held, Part.dict, Part.recorder, Part.pair, Part.alarms, Part.mram, Part.tap, Part.ctl, Part.ring, Part.srv, Part.saf, Part.net, Part.diag, Part.user, Part.wires, Part.free] ⊆ E := List.Subset.trans (by decide) hE
  unfold execServoRateWrite
  repeat' (first
    | (with_reducible assumption)
    | (dsimp only)
    | ((with_reducible apply State.clientNum_sound k0))
    | (with_reducible refine run_kept _ _ _ (fun s fine => ?_) ?_)
    | (with_reducible refine live_kept _ _ _ (fun s fine => ?_) ?_)
    | (with_reducible refine ported_kept _ _ _ (fun s fine => ?_) ?_))

theorem execServoBankSwap_sound {E : List Part} {base : State} (hE : [Part.power, Part.clock, Part.objects, Part.blobs, Part.held, Part.dict, Part.recorder, Part.pair, Part.alarms, Part.mram, Part.tap, Part.ctl, Part.ring, Part.srv, Part.saf, Part.net, Part.diag, Part.user, Part.wires, Part.free] ⊆ E) (t : Nat) (c : Client) (via : OdVia) (s : State)
    (fine : Sound E base (s.heard t)) : Kept E base (execServoBankSwap t c via s) := by
  have k0 : [Part.power, Part.clock, Part.objects, Part.blobs, Part.held, Part.dict, Part.recorder, Part.pair, Part.alarms, Part.mram, Part.tap, Part.ctl, Part.ring, Part.srv, Part.saf, Part.net, Part.diag, Part.user, Part.wires, Part.free] ⊆ E := List.Subset.trans (by decide) hE
  unfold execServoBankSwap
  repeat' (first
    | (with_reducible assumption)
    | (dsimp only)
    | ((with_reducible apply State.clientNum_sound k0))
    | (with_reducible refine run_kept _ _ _ (fun s fine => ?_) ?_)
    | (with_reducible refine live_kept _ _ _ (fun s fine => ?_) ?_)
    | (with_reducible refine ported_kept _ _ _ (fun s fine => ?_) ?_))

theorem execServoBankCopy_sound {E : List Part} {base : State} (hE : [Part.power, Part.clock, Part.objects, Part.blobs, Part.held, Part.dict, Part.recorder, Part.pair, Part.alarms, Part.mram, Part.tap, Part.ctl, Part.ring, Part.srv, Part.saf, Part.net, Part.diag, Part.user, Part.wires, Part.free] ⊆ E) (t : Nat) (c : Client) (via : OdVia) (s : State)
    (fine : Sound E base (s.heard t)) : Kept E base (execServoBankCopy t c via s) := by
  have k0 : [Part.power, Part.clock, Part.objects, Part.blobs, Part.held, Part.dict, Part.recorder, Part.pair, Part.alarms, Part.mram, Part.tap, Part.ctl, Part.ring, Part.srv, Part.saf, Part.net, Part.diag, Part.user, Part.wires, Part.free] ⊆ E := List.Subset.trans (by decide) hE
  unfold execServoBankCopy
  repeat' (first
    | (with_reducible assumption)
    | (dsimp only)
    | ((with_reducible apply State.clientNum_sound k0))
    | (with_reducible refine run_kept _ _ _ (fun s fine => ?_) ?_)
    | (with_reducible refine live_kept _ _ _ (fun s fine => ?_) ?_)
    | (with_reducible refine ported_kept _ _ _ (fun s fine => ?_) ?_))

theorem execSfARemoteReset_sound {E : List Part} {base : State} (hE : [Part.power, Part.clock, Part.objects, Part.blobs, Part.held, Part.dict, Part.recorder, Part.pair, Part.alarms, Part.mram, Part.tap, Part.ctl, Part.ring, Part.srv, Part.saf, Part.net, Part.diag, Part.user, Part.wires, Part.free] ⊆ E) (t : Nat) (c : Client) (via : OdVia) (value : Int) (s : State)
    (fine : Sound E base (s.heard t)) : Kept E base (execSfARemoteReset t c via value s) := by
  have k0 : [Part.power, Part.clock, Part.objects, Part.blobs, Part.held, Part.dict, Part.recorder, Part.pair, Part.alarms, Part.mram, Part.tap, Part.ctl, Part.ring, Part.srv, Part.saf, Part.net, Part.diag, Part.user, Part.wires, Part.free] ⊆ E := List.Subset.trans (by decide) hE
  unfold execSfARemoteReset
  repeat' (first
    | (with_reducible assumption)
    | (dsimp only)
    | ((with_reducible apply State.clientNum_sound k0))
    | (with_reducible refine run_kept _ _ _ (fun s fine => ?_) ?_)
    | (with_reducible refine live_kept _ _ _ (fun s fine => ?_) ?_)
    | (with_reducible refine ported_kept _ _ _ (fun s fine => ?_) ?_))

theorem execSafetyReset_sound {E : List Part} {base : State} (hE : [Part.power, Part.clock, Part.objects, Part.blobs, Part.held, Part.dict, Part.recorder, Part.pair, Part.alarms, Part.mram, Part.tap, Part.ctl, Part.ring, Part.srv, Part.saf, Part.net, Part.diag, Part.user, Part.wires, Part.free] ⊆ E) (t : Nat) (c : Client) (via : OdVia) (value : Int) (s : State)
    (fine : Sound E base (s.heard t)) : Kept E base (execSafetyReset t c via value s) := by
  have k0 : [Part.power, Part.clock, Part.objects, Part.blobs, Part.held, Part.dict, Part.recorder, Part.pair, Part.alarms, Part.mram, Part.tap, Part.ctl, Part.ring, Part.srv, Part.saf, Part.net, Part.diag, Part.user, Part.wires, Part.free] ⊆ E := List.Subset.trans (by decide) hE
  unfold execSafetyReset
  repeat' (first
    | (with_reducible assumption)
    | (dsimp only)
    | ((with_reducible apply State.clientNum_sound k0))
    | (with_reducible refine run_kept _ _ _ (fun s fine => ?_) ?_)
    | (with_reducible refine live_kept _ _ _ (fun s fine => ?_) ?_)
    | (with_reducible refine ported_kept _ _ _ (fun s fine => ?_) ?_))

theorem execRejoinWrite_sound {E : List Part} {base : State} (hE : [Part.power, Part.clock, Part.objects, Part.blobs, Part.held, Part.dict, Part.recorder, Part.pair, Part.alarms, Part.mram, Part.tap, Part.ctl, Part.ring, Part.srv, Part.saf, Part.net, Part.diag, Part.user, Part.wires, Part.free] ⊆ E) (t : Nat) (c : Client) (via : OdVia) (value : Int) (s : State)
    (fine : Sound E base (s.heard t)) : Kept E base (execRejoinWrite t c via value s) := by
  have k0 : [Part.power, Part.clock, Part.objects, Part.blobs, Part.held, Part.dict, Part.recorder, Part.pair, Part.alarms, Part.mram, Part.tap, Part.ctl, Part.ring, Part.srv, Part.saf, Part.net, Part.diag, Part.user, Part.wires, Part.free] ⊆ E := List.Subset.trans (by decide) hE
  unfold execRejoinWrite
  repeat' (first
    | (with_reducible assumption)
    | (dsimp only)
    | ((with_reducible apply State.clientNum_sound k0))
    | (with_reducible refine run_kept _ _ _ (fun s fine => ?_) ?_)
    | (with_reducible refine live_kept _ _ _ (fun s fine => ?_) ?_)
    | (with_reducible refine ported_kept _ _ _ (fun s fine => ?_) ?_))

theorem execDrillNow_sound {E : List Part} {base : State} (hE : [Part.power, Part.clock, Part.objects, Part.blobs, Part.held, Part.dict, Part.recorder, Part.pair, Part.alarms, Part.mram, Part.tap, Part.ctl, Part.ring, Part.srv, Part.saf, Part.net, Part.diag, Part.user, Part.wires, Part.free] ⊆ E) (t : Nat) (c : Client) (via : OdVia) (value : Int) (s : State)
    (fine : Sound E base (s.heard t)) : Kept E base (execDrillNow t c via value s) := by
  have k0 : [Part.power, Part.clock, Part.objects, Part.blobs, Part.held, Part.dict, Part.recorder, Part.pair, Part.alarms, Part.mram, Part.tap, Part.ctl, Part.ring, Part.srv, Part.saf, Part.net, Part.diag, Part.user, Part.wires, Part.free] ⊆ E := List.Subset.trans (by decide) hE
  unfold execDrillNow
  repeat' (first
    | (with_reducible assumption)
    | (dsimp only)
    | ((with_reducible apply State.clientNum_sound k0))
    | (with_reducible refine run_kept _ _ _ (fun s fine => ?_) ?_)
    | (with_reducible refine live_kept _ _ _ (fun s fine => ?_) ?_)
    | (with_reducible refine ported_kept _ _ _ (fun s fine => ?_) ?_))

theorem execSafeTestCommand_sound {E : List Part} {base : State} (hE : [Part.power, Part.clock, Part.objects, Part.blobs, Part.held, Part.dict, Part.recorder, Part.pair, Part.alarms, Part.mram, Part.tap, Part.ctl, Part.ring, Part.srv, Part.saf, Part.net, Part.diag, Part.user, Part.wires, Part.free] ⊆ E) (t : Nat) (c : Client) (via : OdVia) (k : Nat) (value : Int) (s : State)
    (fine : Sound E base (s.heard t)) : Kept E base (execSafeTestCommand t c via k value s) := by
  have k0 : [Part.power, Part.clock, Part.objects, Part.blobs, Part.held, Part.dict, Part.recorder, Part.pair, Part.alarms, Part.mram, Part.tap, Part.ctl, Part.ring, Part.srv, Part.saf, Part.net, Part.diag, Part.user, Part.wires, Part.free] ⊆ E := List.Subset.trans (by decide) hE
  unfold execSafeTestCommand
  repeat' (first
    | (with_reducible assumption)
    | (dsimp only)
    | ((with_reducible apply State.clientNum_sound k0))
    | (with_reducible refine run_kept _ _ _ (fun s fine => ?_) ?_)
    | (with_reducible refine live_kept _ _ _ (fun s fine => ?_) ?_)
    | (with_reducible refine ported_kept _ _ _ (fun s fine => ?_) ?_)
    | (with_reducible refine sound_ite (fun _ => ?_) (fun _ => ?_)))

theorem execPanelEnableWrite_sound {E : List Part} {base : State} (hE : [Part.power, Part.clock, Part.objects, Part.blobs, Part.held, Part.dict, Part.recorder, Part.pair, Part.alarms, Part.mram, Part.tap, Part.ctl, Part.ring, Part.srv, Part.saf, Part.net, Part.diag, Part.user, Part.wires, Part.free] ⊆ E) (t : Nat) (c : Client) (via : OdVia) (value : Int) (s : State)
    (fine : Sound E base (s.heard t)) : Kept E base (execPanelEnableWrite t c via value s) := by
  have k0 : [Part.power, Part.clock, Part.objects, Part.blobs, Part.held, Part.dict, Part.recorder, Part.pair, Part.alarms, Part.mram, Part.tap, Part.ctl, Part.ring, Part.srv, Part.saf, Part.net, Part.diag, Part.user, Part.wires, Part.free] ⊆ E := List.Subset.trans (by decide) hE
  unfold execPanelEnableWrite
  repeat' (first
    | (with_reducible assumption)
    | (dsimp only)
    | ((with_reducible apply State.clientNum_sound k0))
    | (with_reducible refine run_kept _ _ _ (fun s fine => ?_) ?_)
    | (with_reducible refine live_kept _ _ _ (fun s fine => ?_) ?_)
    | (with_reducible refine ported_kept _ _ _ (fun s fine => ?_) ?_))

theorem execReadClearArm_sound {E : List Part} {base : State} (hE : [Part.power, Part.clock, Part.objects, Part.blobs, Part.held, Part.dict, Part.recorder, Part.pair, Part.alarms, Part.mram, Part.tap, Part.ctl, Part.ring, Part.srv, Part.saf, Part.net, Part.diag, Part.user, Part.wires, Part.free] ⊆ E) (t : Nat) (c : Client) (via : OdVia) (value : Int) (s : State)
    (fine : Sound E base (s.heard t)) : Kept E base (execReadClearArm t c via value s) := by
  have k0 : [Part.power, Part.clock, Part.objects, Part.blobs, Part.held, Part.dict, Part.recorder, Part.pair, Part.alarms, Part.mram, Part.tap, Part.ctl, Part.ring, Part.srv, Part.saf, Part.net, Part.diag, Part.user, Part.wires, Part.free] ⊆ E := List.Subset.trans (by decide) hE
  unfold execReadClearArm
  repeat' (first
    | (with_reducible assumption)
    | (dsimp only)
    | ((with_reducible apply State.clientNum_sound k0))
    | (with_reducible refine run_kept _ _ _ (fun s fine => ?_) ?_)
    | (with_reducible refine live_kept _ _ _ (fun s fine => ?_) ?_)
    | (with_reducible refine ported_kept _ _ _ (fun s fine => ?_) ?_))

theorem execInjectionArm_sound {E : List Part} {base : State} (hE : [Part.power, Part.clock, Part.objects, Part.blobs, Part.held, Part.dict, Part.recorder, Part.pair, Part.alarms, Part.mram, Part.tap, Part.ctl, Part.ring, Part.srv, Part.saf, Part.net, Part.diag, Part.user, Part.wires, Part.free] ⊆ E) (t : Nat) (c : Client) (via : OdVia) (s : State)
    (fine : Sound E base (s.heard t)) : Kept E base (execInjectionArm t c via s) := by
  have k0 : [Part.power, Part.clock, Part.objects, Part.blobs, Part.held, Part.dict, Part.recorder, Part.pair, Part.alarms, Part.mram, Part.tap, Part.ctl, Part.ring, Part.srv, Part.saf, Part.net, Part.diag, Part.user, Part.wires, Part.free] ⊆ E := List.Subset.trans (by decide) hE
  unfold execInjectionArm
  repeat' (first
    | (with_reducible assumption)
    | (dsimp only)
    | ((with_reducible apply State.clientNum_sound k0))
    | (with_reducible refine run_kept _ _ _ (fun s fine => ?_) ?_)
    | (with_reducible refine live_kept _ _ _ (fun s fine => ?_) ?_)
    | (with_reducible refine ported_kept _ _ _ (fun s fine => ?_) ?_))

theorem execInjectionCancel_sound {E : List Part} {base : State} (hE : [Part.power, Part.clock, Part.objects, Part.blobs, Part.held, Part.dict, Part.recorder, Part.pair, Part.alarms, Part.mram, Part.tap, Part.ctl, Part.ring, Part.srv, Part.saf, Part.net, Part.diag, Part.user, Part.wires, Part.free] ⊆ E) (t : Nat) (c : Client) (via : OdVia) (s : State)
    (fine : Sound E base (s.heard t)) : Kept E base (execInjectionCancel t c via s) := by
  have k0 : [Part.power, Part.clock, Part.objects, Part.blobs, Part.held, Part.dict, Part.recorder, Part.pair, Part.alarms, Part.mram, Part.tap, Part.ctl, Part.ring, Part.srv, Part.saf, Part.net, Part.diag, Part.user, Part.wires, Part.free] ⊆ E := List.Subset.trans (by decide) hE
  unfold execInjectionCancel
  repeat' (first
    | (with_reducible assumption)
    | (dsimp only)
    | ((with_reducible apply State.clientNum_sound k0))
    | (with_reducible refine run_kept _ _ _ (fun s fine => ?_) ?_)
    | (with_reducible refine live_kept _ _ _ (fun s fine => ?_) ?_)
    | (with_reducible refine ported_kept _ _ _ (fun s fine => ?_) ?_))

theorem execLinkTestGenerate_sound {E : List Part} {base : State} (hE : [Part.power, Part.clock, Part.objects, Part.blobs, Part.held, Part.dict, Part.recorder, Part.pair, Part.alarms, Part.mram, Part.tap, Part.ctl, Part.ring, Part.srv, Part.saf, Part.net, Part.diag, Part.user, Part.wires, Part.free] ⊆ E) (t : Nat) (c : Client) (via : OdVia) (l : Nat) (s : State)
    (fine : Sound E base (s.heard t)) : Kept E base (execLinkTestGenerate t c via l s) := by
  have k0 : [Part.power, Part.clock, Part.objects, Part.blobs, Part.held, Part.dict, Part.recorder, Part.pair, Part.alarms, Part.mram, Part.tap, Part.ctl, Part.ring, Part.srv, Part.saf, Part.net, Part.diag, Part.user, Part.wires, Part.free] ⊆ E := List.Subset.trans (by decide) hE
  unfold execLinkTestGenerate
  repeat' (first
    | (with_reducible assumption)
    | (dsimp only)
    | ((with_reducible apply State.clientNum_sound k0))
    | (with_reducible refine run_kept _ _ _ (fun s fine => ?_) ?_)
    | (with_reducible refine live_kept _ _ _ (fun s fine => ?_) ?_)
    | (with_reducible refine ported_kept _ _ _ (fun s fine => ?_) ?_)
    | (with_reducible refine sound_ite (fun _ => ?_) (fun _ => ?_)))

theorem execLinkTestCheck_sound {E : List Part} {base : State} (hE : [Part.power, Part.clock, Part.objects, Part.blobs, Part.held, Part.dict, Part.recorder, Part.pair, Part.alarms, Part.mram, Part.tap, Part.ctl, Part.ring, Part.srv, Part.saf, Part.net, Part.diag, Part.user, Part.wires, Part.free] ⊆ E) (t : Nat) (c : Client) (via : OdVia) (l : Nat) (s : State)
    (fine : Sound E base (s.heard t)) : Kept E base (execLinkTestCheck t c via l s) := by
  have k0 : [Part.power, Part.clock, Part.objects, Part.blobs, Part.held, Part.dict, Part.recorder, Part.pair, Part.alarms, Part.mram, Part.tap, Part.ctl, Part.ring, Part.srv, Part.saf, Part.net, Part.diag, Part.user, Part.wires, Part.free] ⊆ E := List.Subset.trans (by decide) hE
  unfold execLinkTestCheck
  repeat' (first
    | (with_reducible assumption)
    | (dsimp only)
    | ((with_reducible apply State.clientNum_sound k0))
    | (with_reducible refine run_kept _ _ _ (fun s fine => ?_) ?_)
    | (with_reducible refine live_kept _ _ _ (fun s fine => ?_) ?_)
    | (with_reducible refine ported_kept _ _ _ (fun s fine => ?_) ?_)
    | (with_reducible refine sound_ite (fun _ => ?_) (fun _ => ?_)))

theorem execLinkTestLoopback_sound {E : List Part} {base : State} (hE : [Part.power, Part.clock, Part.objects, Part.blobs, Part.held, Part.dict, Part.recorder, Part.pair, Part.alarms, Part.mram, Part.tap, Part.ctl, Part.ring, Part.srv, Part.saf, Part.net, Part.diag, Part.user, Part.wires, Part.free] ⊆ E) (t : Nat) (c : Client) (via : OdVia) (l : Nat) (s : State)
    (fine : Sound E base (s.heard t)) : Kept E base (execLinkTestLoopback t c via l s) := by
  have k0 : [Part.power, Part.clock, Part.objects, Part.blobs, Part.held, Part.dict, Part.recorder, Part.pair, Part.alarms, Part.mram, Part.tap, Part.ctl, Part.ring, Part.srv, Part.saf, Part.net, Part.diag, Part.user, Part.wires, Part.free] ⊆ E := List.Subset.trans (by decide) hE
  unfold execLinkTestLoopback
  repeat' (first
    | (with_reducible assumption)
    | (dsimp only)
    | ((with_reducible apply State.clientNum_sound k0))
    | (with_reducible refine run_kept _ _ _ (fun s fine => ?_) ?_)
    | (with_reducible refine live_kept _ _ _ (fun s fine => ?_) ?_)
    | (with_reducible refine ported_kept _ _ _ (fun s fine => ?_) ?_)
    | (with_reducible refine sound_ite (fun _ => ?_) (fun _ => ?_)))

theorem execLinkTestStop_sound {E : List Part} {base : State} (hE : [Part.power, Part.clock, Part.objects, Part.blobs, Part.held, Part.dict, Part.recorder, Part.pair, Part.alarms, Part.mram, Part.tap, Part.ctl, Part.ring, Part.srv, Part.saf, Part.net, Part.diag, Part.user, Part.wires, Part.free] ⊆ E) (t : Nat) (c : Client) (via : OdVia) (l : Nat) (s : State)
    (fine : Sound E base (s.heard t)) : Kept E base (execLinkTestStop t c via l s) := by
  have k0 : [Part.power, Part.clock, Part.objects, Part.blobs, Part.held, Part.dict, Part.recorder, Part.pair, Part.alarms, Part.mram, Part.tap, Part.ctl, Part.ring, Part.srv, Part.saf, Part.net, Part.diag, Part.user, Part.wires, Part.free] ⊆ E := List.Subset.trans (by decide) hE
  unfold execLinkTestStop
  repeat' (first
    | (with_reducible assumption)
    | (dsimp only)
    | ((with_reducible apply State.clientNum_sound k0))
    | (with_reducible refine run_kept _ _ _ (fun s fine => ?_) ?_)
    | (with_reducible refine live_kept _ _ _ (fun s fine => ?_) ?_)
    | (with_reducible refine ported_kept _ _ _ (fun s fine => ?_) ?_)
    | (with_reducible refine sound_ite (fun _ => ?_) (fun _ => ?_)))

theorem execUserPairRun_sound {E : List Part} {base : State} (hE : [Part.power, Part.clock, Part.objects, Part.blobs, Part.held, Part.dict, Part.recorder, Part.pair, Part.alarms, Part.mram, Part.tap, Part.ctl, Part.ring, Part.srv, Part.saf, Part.net, Part.diag, Part.user, Part.wires, Part.free] ⊆ E) (t : Nat) (c : Client) (via : OdVia) (u : Nat) (s : State)
    (fine : Sound E base (s.heard t)) : Kept E base (execUserPairRun t c via u s) := by
  have k0 : [Part.power, Part.clock, Part.objects, Part.blobs, Part.held, Part.dict, Part.recorder, Part.pair, Part.alarms, Part.mram, Part.tap, Part.ctl, Part.ring, Part.srv, Part.saf, Part.net, Part.diag, Part.user, Part.wires, Part.free] ⊆ E := List.Subset.trans (by decide) hE
  unfold execUserPairRun
  repeat' (first
    | (with_reducible assumption)
    | (dsimp only)
    | ((with_reducible apply State.clientNum_sound k0))
    | (with_reducible refine run_kept _ _ _ (fun s fine => ?_) ?_)
    | (with_reducible refine live_kept _ _ _ (fun s fine => ?_) ?_)
    | (with_reducible refine ported_kept _ _ _ (fun s fine => ?_) ?_)
    | (with_reducible refine sound_ite (fun _ => ?_) (fun _ => ?_)))

theorem execUserPairStop_sound {E : List Part} {base : State} (hE : [Part.power, Part.clock, Part.objects, Part.blobs, Part.held, Part.dict, Part.recorder, Part.pair, Part.alarms, Part.mram, Part.tap, Part.ctl, Part.ring, Part.srv, Part.saf, Part.net, Part.diag, Part.user, Part.wires, Part.free] ⊆ E) (t : Nat) (c : Client) (via : OdVia) (u : Nat) (s : State)
    (fine : Sound E base (s.heard t)) : Kept E base (execUserPairStop t c via u s) := by
  have k0 : [Part.power, Part.clock, Part.objects, Part.blobs, Part.held, Part.dict, Part.recorder, Part.pair, Part.alarms, Part.mram, Part.tap, Part.ctl, Part.ring, Part.srv, Part.saf, Part.net, Part.diag, Part.user, Part.wires, Part.free] ⊆ E := List.Subset.trans (by decide) hE
  unfold execUserPairStop
  repeat' (first
    | (with_reducible assumption)
    | (dsimp only)
    | ((with_reducible apply State.clientNum_sound k0))
    | (with_reducible refine run_kept _ _ _ (fun s fine => ?_) ?_)
    | (with_reducible refine live_kept _ _ _ (fun s fine => ?_) ?_)
    | (with_reducible refine ported_kept _ _ _ (fun s fine => ?_) ?_)
    | (with_reducible refine sound_ite (fun _ => ?_) (fun _ => ?_)))

theorem execImageWrite_sound {E : List Part} {base : State} (hE : [Part.power, Part.clock, Part.objects, Part.blobs, Part.held, Part.dict, Part.recorder, Part.pair, Part.alarms, Part.mram, Part.tap, Part.ctl, Part.ring, Part.srv, Part.saf, Part.net, Part.diag, Part.user, Part.wires, Part.free] ⊆ E) (t : Nat) (c : Client) (via : OdVia) (u : Nat) (image : List Byte) (s : State)
    (fine : Sound E base (s.heard t)) : Kept E base (execImageWrite t c via u image s) := by
  have k0 : [Part.power, Part.clock, Part.objects, Part.blobs, Part.held, Part.dict, Part.recorder, Part.pair, Part.alarms, Part.mram, Part.tap, Part.ctl, Part.ring, Part.srv, Part.saf, Part.net, Part.diag, Part.user, Part.wires, Part.free] ⊆ E := List.Subset.trans (by decide) hE
  unfold execImageWrite
  repeat' (first
    | (with_reducible assumption)
    | (dsimp only)
    | ((with_reducible apply State.clientWrite_sound k0))
    | (with_reducible refine run_kept _ _ _ (fun s fine => ?_) ?_)
    | (with_reducible refine live_kept _ _ _ (fun s fine => ?_) ?_)
    | (with_reducible refine ported_kept _ _ _ (fun s fine => ?_) ?_)
    | (with_reducible refine sound_ite (fun _ => ?_) (fun _ => ?_)))

theorem execClientNonce_sound {E : List Part} {base : State} (hE : [Part.power, Part.clock, Part.objects, Part.blobs, Part.held, Part.dict, Part.recorder, Part.pair, Part.alarms, Part.mram, Part.tap, Part.ctl, Part.ring, Part.srv, Part.saf, Part.net, Part.diag, Part.user, Part.wires, Part.free] ⊆ E) (t : Nat) (c : Client) (via : OdVia) (nonce : List Byte) (s : State)
    (fine : Sound E base (s.heard t)) : Kept E base (execClientNonce t c via nonce s) := by
  have k0 : [Part.power, Part.clock, Part.objects, Part.blobs, Part.held, Part.dict, Part.recorder, Part.pair, Part.alarms, Part.mram, Part.tap, Part.ctl, Part.ring, Part.srv, Part.saf, Part.net, Part.diag, Part.user, Part.wires, Part.free] ⊆ E := List.Subset.trans (by decide) hE
  unfold execClientNonce
  repeat' (first
    | (with_reducible assumption)
    | (dsimp only)
    | ((with_reducible apply State.clientWrite_sound k0))
    | (with_reducible refine run_kept _ _ _ (fun s fine => ?_) ?_)
    | (with_reducible refine live_kept _ _ _ (fun s fine => ?_) ?_)
    | (with_reducible refine ported_kept _ _ _ (fun s fine => ?_) ?_))

theorem execClientTag_sound {E : List Part} {base : State} (hE : [Part.power, Part.clock, Part.objects, Part.blobs, Part.held, Part.dict, Part.recorder, Part.pair, Part.alarms, Part.mram, Part.tap, Part.ctl, Part.ring, Part.srv, Part.saf, Part.net, Part.diag, Part.user, Part.wires, Part.free] ⊆ E) (t : Nat) (c : Client) (via : OdVia) (clientTag : List Byte) (s : State)
    (fine : Sound E base (s.heard t)) : Kept E base (execClientTag t c via clientTag s) := by
  have k0 : [Part.power, Part.clock, Part.objects, Part.blobs, Part.held, Part.dict, Part.recorder, Part.pair, Part.alarms, Part.mram, Part.tap, Part.ctl, Part.ring, Part.srv, Part.saf, Part.net, Part.diag, Part.user, Part.wires, Part.free] ⊆ E := List.Subset.trans (by decide) hE
  unfold execClientTag
  repeat' (first
    | (with_reducible assumption)
    | (dsimp only)
    | ((with_reducible apply State.clientWrite_sound k0))
    | (with_reducible refine run_kept _ _ _ (fun s fine => ?_) ?_)
    | (with_reducible refine live_kept _ _ _ (fun s fine => ?_) ?_)
    | (with_reducible refine ported_kept _ _ _ (fun s fine => ?_) ?_))

theorem execSessionCloseWrite_sound {E : List Part} {base : State} (hE : [Part.power, Part.clock, Part.objects, Part.blobs, Part.held, Part.dict, Part.recorder, Part.pair, Part.alarms, Part.mram, Part.tap, Part.ctl, Part.ring, Part.srv, Part.saf, Part.net, Part.diag, Part.user, Part.wires, Part.free] ⊆ E) (t : Nat) (c : Client) (via : OdVia) (value : Int) (s : State)
    (fine : Sound E base (s.heard t)) : Kept E base (execSessionCloseWrite t c via value s) := by
  have k0 : [Part.power, Part.clock, Part.objects, Part.blobs, Part.held, Part.dict, Part.recorder, Part.pair, Part.alarms, Part.mram, Part.tap, Part.ctl, Part.ring, Part.srv, Part.saf, Part.net, Part.diag, Part.user, Part.wires, Part.free] ⊆ E := List.Subset.trans (by decide) hE
  unfold execSessionCloseWrite
  repeat' (first
    | (with_reducible assumption)
    | (dsimp only)
    | ((with_reducible apply State.clientNum_sound k0))
    | (with_reducible refine run_kept _ _ _ (fun s fine => ?_) ?_)
    | (with_reducible refine live_kept _ _ _ (fun s fine => ?_) ?_)
    | (with_reducible refine ported_kept _ _ _ (fun s fine => ?_) ?_))

theorem execPairKeyWrite_sound {E : List Part} {base : State} (hE : [Part.power, Part.clock, Part.objects, Part.blobs, Part.held, Part.dict, Part.recorder, Part.pair, Part.alarms, Part.mram, Part.tap, Part.ctl, Part.ring, Part.srv, Part.saf, Part.net, Part.diag, Part.user, Part.wires, Part.free] ⊆ E) (t : Nat) (c : Client) (via : OdVia) (key : List Byte) (s : State)
    (fine : Sound E base (s.heard t)) : Kept E base (execPairKeyWrite t c via key s) := by
  have k0 : [Part.power, Part.clock, Part.objects, Part.blobs, Part.held, Part.dict, Part.recorder, Part.pair, Part.alarms, Part.mram, Part.tap, Part.ctl, Part.ring, Part.srv, Part.saf, Part.net, Part.diag, Part.user, Part.wires, Part.free] ⊆ E := List.Subset.trans (by decide) hE
  unfold execPairKeyWrite
  repeat' (first
    | (with_reducible assumption)
    | (dsimp only)
    | ((with_reducible apply State.clientWrite_sound k0))
    | (with_reducible refine run_kept _ _ _ (fun s fine => ?_) ?_)
    | (with_reducible refine live_kept _ _ _ (fun s fine => ?_) ?_)
    | (with_reducible refine ported_kept _ _ _ (fun s fine => ?_) ?_))

theorem execStoreParameters_sound {E : List Part} {base : State} (hE : [Part.power, Part.clock, Part.objects, Part.blobs, Part.held, Part.dict, Part.recorder, Part.pair, Part.alarms, Part.mram, Part.tap, Part.ctl, Part.ring, Part.srv, Part.saf, Part.net, Part.diag, Part.user, Part.wires, Part.free] ⊆ E) (t : Nat) (c : Client) (via : OdVia) (part : Nat) (value : Int) (s : State)
    (fine : Sound E base (s.heard t)) : Kept E base (execStoreParameters t c via part value s) := by
  have k0 : [Part.power, Part.clock, Part.objects, Part.blobs, Part.held, Part.dict, Part.recorder, Part.pair, Part.alarms, Part.mram, Part.tap, Part.ctl, Part.ring, Part.srv, Part.saf, Part.net, Part.diag, Part.user, Part.wires, Part.free] ⊆ E := List.Subset.trans (by decide) hE
  unfold execStoreParameters
  repeat' (first
    | (with_reducible assumption)
    | (dsimp only)
    | ((with_reducible apply State.clientNum_sound k0))
    | (with_reducible refine run_kept _ _ _ (fun s fine => ?_) ?_)
    | (with_reducible refine live_kept _ _ _ (fun s fine => ?_) ?_)
    | (with_reducible refine ported_kept _ _ _ (fun s fine => ?_) ?_))

theorem execRestoreDefaults_sound {E : List Part} {base : State} (hE : [Part.power, Part.clock, Part.objects, Part.blobs, Part.held, Part.dict, Part.recorder, Part.pair, Part.alarms, Part.mram, Part.tap, Part.ctl, Part.ring, Part.srv, Part.saf, Part.net, Part.diag, Part.user, Part.wires, Part.free] ⊆ E) (t : Nat) (c : Client) (via : OdVia) (part : Nat) (value : Int) (s : State)
    (fine : Sound E base (s.heard t)) : Kept E base (execRestoreDefaults t c via part value s) := by
  have k0 : [Part.power, Part.clock, Part.objects, Part.blobs, Part.held, Part.dict, Part.recorder, Part.pair, Part.alarms, Part.mram, Part.tap, Part.ctl, Part.ring, Part.srv, Part.saf, Part.net, Part.diag, Part.user, Part.wires, Part.free] ⊆ E := List.Subset.trans (by decide) hE
  unfold execRestoreDefaults
  repeat' (first
    | (with_reducible assumption)
    | (dsimp only)
    | ((with_reducible apply State.clientNum_sound k0))
    | (with_reducible refine run_kept _ _ _ (fun s fine => ?_) ?_)
    | (with_reducible refine live_kept _ _ _ (fun s fine => ?_) ?_)
    | (with_reducible refine ported_kept _ _ _ (fun s fine => ?_) ?_))

theorem execAreaWrite_sound {E : List Part} {base : State} (hE : [Part.power, Part.clock, Part.objects, Part.blobs, Part.held, Part.dict, Part.recorder, Part.pair, Part.alarms, Part.mram, Part.tap, Part.ctl, Part.ring, Part.srv, Part.saf, Part.net, Part.diag, Part.user, Part.wires, Part.free] ⊆ E) (t : Nat) (c : Client) (via : OdVia) (value : Int) (s : State)
    (fine : Sound E base (s.heard t)) : Kept E base (execAreaWrite t c via value s) := by
  have k0 : [Part.power, Part.clock, Part.objects, Part.blobs, Part.held, Part.dict, Part.recorder, Part.pair, Part.alarms, Part.mram, Part.tap, Part.ctl, Part.ring, Part.srv, Part.saf, Part.net, Part.diag, Part.user, Part.wires, Part.free] ⊆ E := List.Subset.trans (by decide) hE
  unfold execAreaWrite
  repeat' (first
    | (with_reducible assumption)
    | (dsimp only)
    | ((with_reducible apply State.clientNum_sound k0))
    | (with_reducible refine run_kept _ _ _ (fun s fine => ?_) ?_)
    | (with_reducible refine live_kept _ _ _ (fun s fine => ?_) ?_)
    | (with_reducible refine ported_kept _ _ _ (fun s fine => ?_) ?_))

theorem execCursorWrite_sound {E : List Part} {base : State} (hE : [Part.power, Part.clock, Part.objects, Part.blobs, Part.held, Part.dict, Part.recorder, Part.pair, Part.alarms, Part.mram, Part.tap, Part.ctl, Part.ring, Part.srv, Part.saf, Part.net, Part.diag, Part.user, Part.wires, Part.free] ⊆ E) (t : Nat) (c : Client) (via : OdVia) (value : Int) (s : State)
    (fine : Sound E base (s.heard t)) : Kept E base (execCursorWrite t c via value s) := by
  have k0 : [Part.power, Part.clock, Part.objects, Part.blobs, Part.held, Part.dict, Part.recorder, Part.pair, Part.alarms, Part.mram, Part.tap, Part.ctl, Part.ring, Part.srv, Part.saf, Part.net, Part.diag, Part.user, Part.wires, Part.free] ⊆ E := List.Subset.trans (by decide) hE
  unfold execCursorWrite
  repeat' (first
    | (with_reducible assumption)
    | (dsimp only)
    | ((with_reducible apply State.clientNum_sound k0))
    | (with_reducible refine run_kept _ _ _ (fun s fine => ?_) ?_)
    | (with_reducible refine live_kept _ _ _ (fun s fine => ?_) ?_)
    | (with_reducible refine ported_kept _ _ _ (fun s fine => ?_) ?_))

theorem execRecorderSeal_sound {E : List Part} {base : State} (hE : [Part.power, Part.clock, Part.objects, Part.blobs, Part.held, Part.dict, Part.recorder, Part.pair, Part.alarms, Part.mram, Part.tap, Part.ctl, Part.ring, Part.srv, Part.saf, Part.net, Part.diag, Part.user, Part.wires, Part.free] ⊆ E) (t : Nat) (c : Client) (via : OdVia) (s : State)
    (fine : Sound E base (s.heard t)) : Kept E base (execRecorderSeal t c via s) := by
  have k0 : [Part.power, Part.clock, Part.objects, Part.blobs, Part.held, Part.dict, Part.recorder, Part.pair, Part.alarms, Part.mram, Part.tap, Part.ctl, Part.ring, Part.srv, Part.saf, Part.net, Part.diag, Part.user, Part.wires, Part.free] ⊆ E := List.Subset.trans (by decide) hE
  unfold execRecorderSeal
  repeat' (first
    | (with_reducible assumption)
    | (dsimp only)
    | ((with_reducible apply State.clientNum_sound k0))
    | (with_reducible refine run_kept _ _ _ (fun s fine => ?_) ?_)
    | (with_reducible refine live_kept _ _ _ (fun s fine => ?_) ?_)
    | (with_reducible refine ported_kept _ _ _ (fun s fine => ?_) ?_))

theorem execRecorderUnseal_sound {E : List Part} {base : State} (hE : [Part.power, Part.clock, Part.objects, Part.blobs, Part.held, Part.dict, Part.recorder, Part.pair, Part.alarms, Part.mram, Part.tap, Part.ctl, Part.ring, Part.srv, Part.saf, Part.net, Part.diag, Part.user, Part.wires, Part.free] ⊆ E) (t : Nat) (c : Client) (via : OdVia) (s : State)
    (fine : Sound E base (s.heard t)) : Kept E base (execRecorderUnseal t c via s) := by
  have k0 : [Part.power, Part.clock, Part.objects, Part.blobs, Part.held, Part.dict, Part.recorder, Part.pair, Part.alarms, Part.mram, Part.tap, Part.ctl, Part.ring, Part.srv, Part.saf, Part.net, Part.diag, Part.user, Part.wires, Part.free] ⊆ E := List.Subset.trans (by decide) hE
  unfold execRecorderUnseal
  repeat' (first
    | (with_reducible assumption)
    | (dsimp only)
    | ((with_reducible apply State.clientNum_sound k0))
    | (with_reducible refine run_kept _ _ _ (fun s fine => ?_) ?_)
    | (with_reducible refine live_kept _ _ _ (fun s fine => ?_) ?_)
    | (with_reducible refine ported_kept _ _ _ (fun s fine => ?_) ?_))

theorem execObjectWrite_sound {E : List Part} {base : State} (hE : [Part.power, Part.clock, Part.objects, Part.blobs, Part.held, Part.dict, Part.recorder, Part.pair, Part.alarms, Part.mram, Part.tap, Part.ctl, Part.ring, Part.srv, Part.saf, Part.net, Part.diag, Part.user, Part.wires, Part.free] ⊆ E) (t : Nat) (c : Client) (via : OdVia) (index sub : Nat) (v : Val) (s : State)
    (fine : Sound E base (s.heard t)) : Kept E base (execObjectWrite t c via index sub v s) := by
  have k0 : [Part.power, Part.clock, Part.objects, Part.blobs, Part.held, Part.dict, Part.recorder, Part.pair, Part.alarms, Part.mram, Part.tap, Part.ctl, Part.ring, Part.srv, Part.saf, Part.net, Part.diag, Part.user, Part.wires, Part.free] ⊆ E := List.Subset.trans (by decide) hE
  unfold execObjectWrite
  repeat' (first
    | (with_reducible assumption)
    | (dsimp only)
    | ((with_reducible apply State.clientWrite_sound k0))
    | (with_reducible refine run_kept _ _ _ (fun s fine => ?_) ?_)
    | (with_reducible refine live_kept _ _ _ (fun s fine => ?_) ?_)
    | (with_reducible refine ported_kept _ _ _ (fun s fine => ?_) ?_))

/-- Every command runs in the shared frame, its effect blind to the queue. -/
theorem exec_is_run (c : Instr) : ∃ t f, ∀ s, exec c s = s.run t f := by
  cases c with
  | suppliesValid t _ _ _ _ _ => exact ⟨t, _, fun s => by simp only [exec, execSuppliesValid]; rfl⟩
  | strapLevelChange t _ => exact ⟨t, _, fun s => by simp only [exec, execStrapLevelChange, State.live]; rfl⟩
  | inputPresent t _ _ _ => exact ⟨t, _, fun s => by simp only [exec, execInputPresent]; rfl⟩
  | inputAbsent t _ _ _ => exact ⟨t, _, fun s => by simp only [exec, execInputAbsent]; rfl⟩
  | supplyWarningChange t _ _ _ _ => exact ⟨t, _, fun s => by simp only [exec, execSupplyWarningChange, State.live]; rfl⟩
  | totalSupplyLoss t _ _ _ => exact ⟨t, _, fun s => by simp only [exec, execTotalSupplyLoss]; rfl⟩
  | shutdownEnd t _ => exact ⟨t, _, fun s => by simp only [exec, execShutdownEnd]; rfl⟩
  | mrstNAct t _ => exact ⟨t, _, fun s => by simp only [exec, execMrstNAct]; rfl⟩
  | mrstNRelease t _ => exact ⟨t, _, fun s => by simp only [exec, execMrstNRelease]; rfl⟩
  | tapInstruction t _ => exact ⟨t, _, fun s => by simp only [exec, execTapInstruction, State.live]; rfl⟩
  | holdupStoreCharged t _ _ => exact ⟨t, _, fun s => by simp only [exec, execHoldupStoreCharged]; rfl⟩
  | configurationImageRead t _ _ => exact ⟨t, _, fun s => by simp only [exec, execConfigurationImageRead]; rfl⟩
  | resetsReleased t => exact ⟨t, _, fun s => by simp only [exec, execResetsReleased]; rfl⟩
  | portsEnabled t => exact ⟨t, _, fun s => by simp only [exec, execPortsEnabled]; rfl⟩
  | safetySelfTestDone t _ _ => exact ⟨t, _, fun s => by simp only [exec, execSafetySelfTestDone]; rfl⟩
  | holdReady t _ => exact ⟨t, _, fun s => by simp only [exec, execHoldReady]; rfl⟩
  | ocxoWarm t _ => exact ⟨t, _, fun s => by simp only [exec, execOcxoWarm, State.live]; rfl⟩
  | resumeAbandon t => exact ⟨t, _, fun s => by simp only [exec, execResumeAbandon, State.live]; rfl⟩
  | thermalWarning t _ _ => exact ⟨t, _, fun s => by simp only [exec, execThermalWarning, State.live]; rfl⟩
  | cycleBoundary t => exact ⟨t, _, fun s => by simp only [exec, execCycleBoundary, State.live]; rfl⟩
  | modeSupervision t => exact ⟨t, _, fun s => by simp only [exec, execModeSupervision, State.live]; rfl⟩
  | engineStart t => exact ⟨t, _, fun s => by simp only [exec, execEngineStart, State.live]; rfl⟩
  | capstanStart t => exact ⟨t, _, fun s => by simp only [exec, execCapstanStart, State.live]; rfl⟩
  | ganderCompare t => exact ⟨t, _, fun s => by simp only [exec, execGanderCompare, State.ported]; rfl⟩
  | ringFrameStart t => exact ⟨t, _, fun s => by simp only [exec, execRingFrameStart, State.live]; rfl⟩
  | ringPacketForward t _ _ _ => exact ⟨t, _, fun s => by simp only [exec, execRingPacketForward, State.ported]; rfl⟩
  | commandSectionRx t _ _ _ => exact ⟨t, _, fun s => by simp only [exec, execCommandSectionRx, State.ported]; rfl⟩
  | commandSectionReturn t _ _ _ => exact ⟨t, _, fun s => by simp only [exec, execCommandSectionReturn, State.ported]; rfl⟩
  | syncPacketRx t _ _ => exact ⟨t, _, fun s => by simp only [exec, execSyncPacketRx, State.ported]; rfl⟩
  | feedbackPacketPass t _ _ _ => exact ⟨t, _, fun s => by simp only [exec, execFeedbackPacketPass, State.ported]; rfl⟩
  | feedbackPacketReturn t _ _ => exact ⟨t, _, fun s => by simp only [exec, execFeedbackPacketReturn, State.ported]; rfl⟩
  | ownerExpiry t _ => exact ⟨t, _, fun s => by simp only [exec, execOwnerExpiry, State.live]; rfl⟩
  | containerPass t _ _ _ => exact ⟨t, _, fun s => by simp only [exec, execContainerPass, State.ported]; rfl⟩
  | ringLinkDown t _ _ _ => exact ⟨t, _, fun s => by simp only [exec, execRingLinkDown, State.ported]; rfl⟩
  | ringUnwrap t _ => exact ⟨t, _, fun s => by simp only [exec, execRingUnwrap, State.ported]; rfl⟩
  | ringTimeLoss t => exact ⟨t, _, fun s => by simp only [exec, execRingTimeLoss, State.live]; rfl⟩
  | sampleBoundary t => exact ⟨t, _, fun s => by simp only [exec, execSampleBoundary, State.live]; rfl⟩
  | ssiBurst t _ _ _ => exact ⟨t, _, fun s => by simp only [exec, execSsiBurst, State.live]; rfl⟩
  | dacFrame t => exact ⟨t, _, fun s => by simp only [exec, execDacFrame, State.live]; rfl⟩
  | drvfbChange t _ _ _ => exact ⟨t, _, fun s => by simp only [exec, execDrvfbChange, State.live]; rfl⟩
  | enableTimeout t _ => exact ⟨t, _, fun s => by simp only [exec, execEnableTimeout, State.live]; rfl⟩
  | driveDropTimeout t _ => exact ⟨t, _, fun s => by simp only [exec, execDriveDropTimeout, State.live]; rfl⟩
  | staleHoldTimeout t _ => exact ⟨t, _, fun s => by simp only [exec, execStaleHoldTimeout, State.live]; rfl⟩
  | offDelayExpiry t _ => exact ⟨t, _, fun s => by simp only [exec, execOffDelayExpiry, State.live]; rfl⟩
  | servoRateWrite t _ _ _ => exact ⟨t, _, fun s => by simp only [exec, execServoRateWrite, State.ported]; rfl⟩
  | servoBankSwap t _ _ => exact ⟨t, _, fun s => by simp only [exec, execServoBankSwap, State.ported]; rfl⟩
  | servoBankCopy t _ _ => exact ⟨t, _, fun s => by simp only [exec, execServoBankCopy, State.ported]; rfl⟩
  | timeSecondsRead t _ _ => exact ⟨t, _, fun s => by simp only [exec, execTimeSecondsRead, State.ported]; rfl⟩
  | timeFirstSet t _ _ _ => exact ⟨t, _, fun s => by simp only [exec, execTimeFirstSet, State.live]; rfl⟩
  | timeSourceQualify t _ _ _ => exact ⟨t, _, fun s => by simp only [exec, execTimeSourceQualify, State.live]; rfl⟩
  | timeSourceChange t _ _ => exact ⟨t, _, fun s => by simp only [exec, execTimeSourceChange, State.live]; rfl⟩
  | timeSourceLoss t _ _ => exact ⟨t, _, fun s => by simp only [exec, execTimeSourceLoss, State.live]; rfl⟩
  | slewDone t => exact ⟨t, _, fun s => by simp only [exec, execSlewDone, State.live]; rfl⟩
  | timeStep t => exact ⟨t, _, fun s => by simp only [exec, execTimeStep, State.live]; rfl⟩
  | ppsPulse t _ _ => exact ⟨t, _, fun s => by simp only [exec, execPpsPulse, State.live]; rfl⟩
  | ppsSettingWrite t _ _ _ _ _ => exact ⟨t, _, fun s => by simp only [exec, execPpsSettingWrite, State.ported]; rfl⟩
  | timeMessage t => exact ⟨t, _, fun s => by simp only [exec, execTimeMessage, State.ported]; rfl⟩
  | ptpEventRx t _ _ _ _ => exact ⟨t, _, fun s => by simp only [exec, execPtpEventRx, State.ported]; rfl⟩
  | ptpTransparentForward t _ _ _ _ _ _ => exact ⟨t, _, fun s => by simp only [exec, execPtpTransparentForward, State.ported]; rfl⟩
  | framingLock t _ _ => exact ⟨t, _, fun s => by simp only [exec, execFramingLock, State.live]; rfl⟩
  | framingError t _ _ _ => exact ⟨t, _, fun s => by simp only [exec, execFramingError, State.live]; rfl⟩
  | ifClockCheck t _ _ _ => exact ⟨t, _, fun s => by simp only [exec, execIfClockCheck, State.live]; rfl⟩
  | portFault t _ _ => exact ⟨t, _, fun s => by simp only [exec, execPortFault, State.live]; rfl⟩
  | portRetry t _ => exact ⟨t, _, fun s => by simp only [exec, execPortRetry, State.live]; rfl⟩
  | frontendInit t _ => exact ⟨t, _, fun s => by simp only [exec, execFrontendInit, State.live]; rfl⟩
  | streamLevelCheck t _ _ _ => exact ⟨t, _, fun s => by simp only [exec, execStreamLevelCheck, State.live]; rfl⟩
  | channelAssign t _ _ => exact ⟨t, _, fun s => by simp only [exec, execChannelAssign, State.live]; rfl⟩
  | channelRelease t _ _ _ _ => exact ⟨t, _, fun s => by simp only [exec, execChannelRelease, State.live]; rfl⟩
  | acqJobStart t => exact ⟨t, _, fun s => by simp only [exec, execAcqJobStart, State.live]; rfl⟩
  | acqJobEnd t _ _ _ => exact ⟨t, _, fun s => by simp only [exec, execAcqJobEnd, State.live]; rfl⟩
  | integrationDump t _ _ _ _ => exact ⟨t, _, fun s => by simp only [exec, execIntegrationDump, State.live]; rfl⟩
  | detectorWindow t _ _ => exact ⟨t, _, fun s => by simp only [exec, execDetectorWindow, State.live]; rfl⟩
  | pullinTimeout t _ _ => exact ⟨t, _, fun s => by simp only [exec, execPullinTimeout, State.live]; rfl⟩
  | reacqTimeout t _ _ => exact ⟨t, _, fun s => by simp only [exec, execReacqTimeout, State.live]; rfl⟩
  | measurementInstant t => exact ⟨t, _, fun s => by simp only [exec, execMeasurementInstant, State.live]; rfl⟩
  | measurementRecordReady t => exact ⟨t, _, fun s => by simp only [exec, execMeasurementRecordReady, State.live]; rfl⟩
  | solutionReady t _ => exact ⟨t, _, fun s => by simp only [exec, execSolutionReady, State.live]; rfl⟩
  | attitudeReady t => exact ⟨t, _, fun s => by simp only [exec, execAttitudeReady, State.live]; rfl⟩
  | keptDataWrite t _ => exact ⟨t, _, fun s => by simp only [exec, execKeptDataWrite, State.live]; rfl⟩
  | keptDataErase t _ _ => exact ⟨t, _, fun s => by simp only [exec, execKeptDataErase, State.ported]; rfl⟩
  | harbourModeOn t _ _ => exact ⟨t, _, fun s => by simp only [exec, execHarbourModeOn, State.ported]; rfl⟩
  | harbourModeOff t _ _ => exact ⟨t, _, fun s => by simp only [exec, execHarbourModeOff, State.ported]; rfl⟩
  | harbourWake t => exact ⟨t, _, fun s => by simp only [exec, execHarbourWake, State.live]; rfl⟩
  | harbourWakeEnd t _ => exact ⟨t, _, fun s => by simp only [exec, execHarbourWakeEnd, State.live]; rfl⟩
  | packetCommit t _ => exact ⟨t, _, fun s => by simp only [exec, execPacketCommit, State.ported]; rfl⟩
  | packetDiscard t _ => exact ⟨t, _, fun s => by simp only [exec, execPacketDiscard, State.ported]; rfl⟩
  | packetGapTimeout t _ => exact ⟨t, _, fun s => by simp only [exec, execPacketGapTimeout, State.ported]; rfl⟩
  | queueRead t _ => exact ⟨t, _, fun s => by simp only [exec, execQueueRead, State.ported]; rfl⟩
  | packetConsume t _ _ => exact ⟨t, _, fun s => by simp only [exec, execPacketConsume, State.ported]; rfl⟩
  | chainOutput t _ _ _ => exact ⟨t, _, fun s => by simp only [exec, execChainOutput, State.live]; rfl⟩
  | chainClockWindow t _ _ => exact ⟨t, _, fun s => by simp only [exec, execChainClockWindow, State.live]; rfl⟩
  | chainClockLoss t _ _ => exact ⟨t, _, fun s => by simp only [exec, execChainClockLoss, State.live]; rfl⟩
  | sourceExclusion t _ => exact ⟨t, _, fun s => by simp only [exec, execSourceExclusion, State.live]; rfl⟩
  | sourceReadmit t _ _ _ => exact ⟨t, _, fun s => by simp only [exec, execSourceReadmit, State.ported]; rfl⟩
  | warmStateWrite t => exact ⟨t, _, fun s => by simp only [exec, execWarmStateWrite, State.live]; rfl⟩
  | calibrationCommit t _ _ => exact ⟨t, _, fun s => by simp only [exec, execCalibrationCommit, State.ported]; rfl⟩
  | trackProcessing t => exact ⟨t, _, fun s => by simp only [exec, execTrackProcessing, State.live]; rfl⟩
  | trackDelete t _ _ _ => exact ⟨t, _, fun s => by simp only [exec, execTrackDelete, State.ported]; rfl⟩
  | trackTimeout t _ => exact ⟨t, _, fun s => by simp only [exec, execTrackTimeout, State.live]; rfl⟩
  | modeRequest t => exact ⟨t, _, fun s => by simp only [exec, execModeRequest, State.live]; rfl⟩
  | disengageRequest t => exact ⟨t, _, fun s => by simp only [exec, execDisengageRequest, State.live]; rfl⟩
  | bollardRequest t => exact ⟨t, _, fun s => by simp only [exec, execBollardRequest, State.live]; rfl⟩
  | joystickWrite t _ _ _ _ => exact ⟨t, _, fun s => by simp only [exec, execJoystickWrite, State.ported]; rfl⟩
  | controlRateWrite t _ _ _ => exact ⟨t, _, fun s => by simp only [exec, execControlRateWrite, State.ported]; rfl⟩
  | outputPhaseWrite t _ _ _ => exact ⟨t, _, fun s => by simp only [exec, execOutputPhaseWrite, State.ported]; rfl⟩
  | bankSwap t _ _ => exact ⟨t, _, fun s => by simp only [exec, execBankSwap, State.ported]; rfl⟩
  | bankCopy t _ _ => exact ⟨t, _, fun s => by simp only [exec, execBankCopy, State.ported]; rfl⟩
  | pbtripChange t _ _ _ => exact ⟨t, _, fun s => by simp only [exec, execPbtripChange, State.live]; rfl⟩
  | busLimitWrite t _ _ _ _ => exact ⟨t, _, fun s => by simp only [exec, execBusLimitWrite, State.ported]; rfl⟩
  | allocationWrite t _ _ _ _ => exact ⟨t, _, fun s => by simp only [exec, execAllocationWrite, State.ported]; rfl⟩
  | geometryWrite t _ _ _ _ _ => exact ⟨t, _, fun s => by simp only [exec, execGeometryWrite, State.ported]; rfl⟩
  | geometryModeWrite t _ _ _ => exact ⟨t, _, fun s => by simp only [exec, execGeometryModeWrite, State.ported]; rfl⟩
  | twMessageRx t _ _ => exact ⟨t, _, fun s => by simp only [exec, execTwMessageRx, State.ported]; rfl⟩
  | inputMessage t _ => exact ⟨t, _, fun s => by simp only [exec, execInputMessage, State.ported]; rfl⟩
  | setMessage t _ => exact ⟨t, _, fun s => by simp only [exec, execSetMessage, State.ported]; rfl⟩
  | setAckMessage t _ _ => exact ⟨t, _, fun s => by simp only [exec, execSetAckMessage, State.ported]; rfl⟩
  | digestMessage t _ _ _ _ => exact ⟨t, _, fun s => by simp only [exec, execDigestMessage, State.ported]; rfl⟩
  | timeMessageTw t _ _ _ _ _ => exact ⟨t, _, fun s => by simp only [exec, execTimeMessageTw, State.ported]; rfl⟩
  | timeMessageSend t => exact ⟨t, _, fun s => by simp only [exec, execTimeMessageSend, State.ported]; rfl⟩
  | writeMessage t _ _ _ _ _ => exact ⟨t, _, fun s => by simp only [exec, execWriteMessage, State.ported]; rfl⟩
  | slipwayMessage t _ _ => exact ⟨t, _, fun s => by simp only [exec, execSlipwayMessage, State.ported]; rfl⟩
  | joinRequest t => exact ⟨t, _, fun s => by simp only [exec, execJoinRequest, State.ported]; rfl⟩
  | hardFaultNotice t => exact ⟨t, _, fun s => by simp only [exec, execHardFaultNotice, State.ported]; rfl⟩
  | partnerDemand t _ => exact ⟨t, _, fun s => by simp only [exec, execPartnerDemand, State.ported]; rfl⟩
  | heartbeatSend t _ => exact ⟨t, _, fun s => by simp only [exec, execHeartbeatSend, State.ported]; rfl⟩
  | release t _ _ => exact ⟨t, _, fun s => by simp only [exec, execRelease, State.ported]; rfl⟩
  | laneDown t _ _ _ _ => exact ⟨t, _, fun s => by simp only [exec, execLaneDown, State.ported]; rfl⟩
  | laneUp t _ _ _ _ => exact ⟨t, _, fun s => by simp only [exec, execLaneUp, State.ported]; rfl⟩
  | partnerGone t _ => exact ⟨t, _, fun s => by simp only [exec, execPartnerGone, State.ported]; rfl⟩
  | startupWaitExpiry t _ => exact ⟨t, _, fun s => by simp only [exec, execStartupWaitExpiry, State.ported]; rfl⟩
  | claimWaitExpiry t => exact ⟨t, _, fun s => by simp only [exec, execClaimWaitExpiry, State.ported]; rfl⟩
  | bothActiveConflict t => exact ⟨t, _, fun s => by simp only [exec, execBothActiveConflict, State.ported]; rfl⟩
  | takeOverIFall t => exact ⟨t, _, fun s => by simp only [exec, execTakeOverIFall, State.ported]; rfl⟩
  | takeover t => exact ⟨t, _, fun s => by simp only [exec, execTakeover, State.ported]; rfl⟩
  | hardFault t _ => exact ⟨t, _, fun s => by simp only [exec, execHardFault, State.live]; rfl⟩
  | suspectSelfTestDone t _ => exact ⟨t, _, fun s => by simp only [exec, execSuspectSelfTestDone, State.live]; rfl⟩
  | rejoinWrite t _ _ _ => exact ⟨t, _, fun s => by simp only [exec, execRejoinWrite, State.ported]; rfl⟩
  | autoRejoin t => exact ⟨t, _, fun s => by simp only [exec, execAutoRejoin, State.ported]; rfl⟩
  | slipwayComplete t => exact ⟨t, _, fun s => by simp only [exec, execSlipwayComplete, State.ported]; rfl⟩
  | slipwayFail t => exact ⟨t, _, fun s => by simp only [exec, execSlipwayFail, State.ported]; rfl⟩
  | slipwayRetry t => exact ⟨t, _, fun s => by simp only [exec, execSlipwayRetry, State.ported]; rfl⟩
  | drillDue t => exact ⟨t, _, fun s => by simp only [exec, execDrillDue, State.live]; rfl⟩
  | drillNow t _ _ _ => exact ⟨t, _, fun s => by simp only [exec, execDrillNow, State.ported]; rfl⟩
  | safeInputChange t _ _ _ => exact ⟨t, _, fun s => by simp only [exec, execSafeInputChange, State.ported]; rfl⟩
  | sfADiscrepancy t _ => exact ⟨t, _, fun s => by simp only [exec, execSfADiscrepancy, State.ported]; rfl⟩
  | sfAResetPulse t _ => exact ⟨t, _, fun s => by simp only [exec, execSfAResetPulse, State.ported]; rfl⟩
  | testPulse t _ _ _ => exact ⟨t, _, fun s => by simp only [exec, execTestPulse, State.ported]; rfl⟩
  | testFrameCheck t => exact ⟨t, _, fun s => by simp only [exec, execTestFrameCheck, State.ported]; rfl⟩
  | ssOverload t _ _ _ => exact ⟨t, _, fun s => by simp only [exec, execSsOverload, State.ported]; rfl⟩
  | ssRetry t _ => exact ⟨t, _, fun s => by simp only [exec, execSsRetry, State.ported]; rfl⟩
  | soChannelTest t _ _ _ _ _ _ => exact ⟨t, _, fun s => by simp only [exec, execSoChannelTest, State.ported]; rfl⟩
  | soReadbackTimeout t _ _ _ => exact ⟨t, _, fun s => by simp only [exec, execSoReadbackTimeout, State.ported]; rfl⟩
  | sfARemoteReset t _ _ _ => exact ⟨t, _, fun s => by simp only [exec, execSfARemoteReset, State.ported]; rfl⟩
  | safetyReset t _ _ _ => exact ⟨t, _, fun s => by simp only [exec, execSafetyReset, State.ported]; rfl⟩
  | supervisionFault t _ _ _ => exact ⟨t, _, fun s => by simp only [exec, execSupervisionFault, State.live]; rfl⟩
  | safeProduce t _ => exact ⟨t, _, fun s => by simp only [exec, execSafeProduce, State.ported]; rfl⟩
  | safeFrameRx t _ _ _ _ _ => exact ⟨t, _, fun s => by simp only [exec, execSafeFrameRx, State.ported]; rfl⟩
  | pairingWindowEnd t _ => exact ⟨t, _, fun s => by simp only [exec, execPairingWindowEnd, State.ported]; rfl⟩
  | channelReportRx t _ _ _ => exact ⟨t, _, fun s => by simp only [exec, execChannelReportRx, State.ported]; rfl⟩
  | channelReportSend t _ => exact ⟨t, _, fun s => by simp only [exec, execChannelReportSend, State.ported]; rfl⟩
  | probeSend t _ => exact ⟨t, _, fun s => by simp only [exec, execProbeSend, State.ported]; rfl⟩
  | connectionLost t _ => exact ⟨t, _, fun s => by simp only [exec, execConnectionLost, State.ported]; rfl⟩
  | prpSupervisionSend t => exact ⟨t, _, fun s => by simp only [exec, execPrpSupervisionSend, State.ported]; rfl⟩
  | safeTestCommand t _ _ _ _ => exact ⟨t, _, fun s => by simp only [exec, execSafeTestCommand, State.ported]; rfl⟩
  | sdoRequest t _ _ _ => exact ⟨t, _, fun s => by simp only [exec, execSdoRequest, State.ported]; rfl⟩
  | transferTimeout t _ => exact ⟨t, _, fun s => by simp only [exec, execTransferTimeout, State.ported]; rfl⟩
  | rpdoRx t _ _ _ => exact ⟨t, _, fun s => by simp only [exec, execRpdoRx, State.ported]; rfl⟩
  | syncRx t _ _ _ => exact ⟨t, _, fun s => by simp only [exec, execSyncRx, State.ported]; rfl⟩
  | tpdoSend t _ => exact ⟨t, _, fun s => by simp only [exec, execTpdoSend, State.ported]; rfl⟩
  | nmtCommand t _ _ _ => exact ⟨t, _, fun s => by simp only [exec, execNmtCommand, State.ported]; rfl⟩
  | canHeartbeat t => exact ⟨t, _, fun s => by simp only [exec, execCanHeartbeat, State.ported]; rfl⟩
  | odRead t _ _ _ => exact ⟨t, _, fun s => by simp only [exec, execOdRead, State.ported]; rfl⟩
  | odWrite t _ _ _ => exact ⟨t, _, fun s => by simp only [exec, execOdWrite, State.ported]; rfl⟩
  | sessionOpen t _ _ _ => exact ⟨t, _, fun s => by simp only [exec, execSessionOpen, State.ported]; rfl⟩
  | sessionAuthenticate t _ _ _ => exact ⟨t, _, fun s => by simp only [exec, execSessionAuthenticate, State.ported]; rfl⟩
  | sessionClose t _ _ _ => exact ⟨t, _, fun s => by simp only [exec, execSessionClose, State.ported]; rfl⟩
  | clientNonce t _ _ _ => exact ⟨t, _, fun s => by simp only [exec, execClientNonce, State.ported]; rfl⟩
  | clientTag t _ _ _ => exact ⟨t, _, fun s => by simp only [exec, execClientTag, State.ported]; rfl⟩
  | sessionCloseWrite t _ _ _ => exact ⟨t, _, fun s => by simp only [exec, execSessionCloseWrite, State.ported]; rfl⟩
  | sessionIdleTimeout t _ => exact ⟨t, _, fun s => by simp only [exec, execSessionIdleTimeout, State.live]; rfl⟩
  | pairKeyWrite t _ _ _ => exact ⟨t, _, fun s => by simp only [exec, execPairKeyWrite, State.ported]; rfl⟩
  | lockoutExpiry t => exact ⟨t, _, fun s => by simp only [exec, execLockoutExpiry, State.live]; rfl⟩
  | clientForget t _ => exact ⟨t, _, fun s => by simp only [exec, execClientForget, State.live]; rfl⟩
  | storeParameters t _ _ _ _ => exact ⟨t, _, fun s => by simp only [exec, execStoreParameters, State.ported]; rfl⟩
  | restoreDefaults t _ _ _ _ => exact ⟨t, _, fun s => by simp only [exec, execRestoreDefaults, State.ported]; rfl⟩
  | objectWrite t _ _ _ _ _ => exact ⟨t, _, fun s => by simp only [exec, execObjectWrite, State.ported]; rfl⟩
  | recordAccept t => exact ⟨t, _, fun s => by simp only [exec, execRecordAccept, State.live]; rfl⟩
  | recordDrop t _ _ => exact ⟨t, _, fun s => by simp only [exec, execRecordDrop, State.live]; rfl⟩
  | directoryUpdate t => exact ⟨t, _, fun s => by simp only [exec, execDirectoryUpdate, State.live]; rfl⟩
  | recorderSeal t _ _ => exact ⟨t, _, fun s => by simp only [exec, execRecorderSeal, State.ported]; rfl⟩
  | recorderUnseal t _ _ => exact ⟨t, _, fun s => by simp only [exec, execRecorderUnseal, State.ported]; rfl⟩
  | windowCapture t _ _ => exact ⟨t, _, fun s => by simp only [exec, execWindowCapture, State.ported]; rfl⟩
  | areaWrite t _ _ _ => exact ⟨t, _, fun s => by simp only [exec, execAreaWrite, State.ported]; rfl⟩
  | cursorWrite t _ _ _ => exact ⟨t, _, fun s => by simp only [exec, execCursorWrite, State.ported]; rfl⟩
  | panelHalfCycle t => exact ⟨t, _, fun s => by simp only [exec, execPanelHalfCycle, State.live]; rfl⟩
  | panelFrameEnd t => exact ⟨t, _, fun s => by simp only [exec, execPanelFrameEnd, State.live]; rfl⟩
  | panelUpdateRequest t => exact ⟨t, _, fun s => by simp only [exec, execPanelUpdateRequest, State.live]; rfl⟩
  | panelEnableWrite t _ _ _ => exact ⟨t, _, fun s => by simp only [exec, execPanelEnableWrite, State.ported]; rfl⟩
  | readClearArm t _ _ _ => exact ⟨t, _, fun s => by simp only [exec, execReadClearArm, State.ported]; rfl⟩
  | readClear t _ _ _ _ => exact ⟨t, _, fun s => by simp only [exec, execReadClear, State.ported]; rfl⟩
  | scrubPass t _ => exact ⟨t, _, fun s => by simp only [exec, execScrubPass, State.live]; rfl⟩
  | uncorrectableWord t _ _ _ _ => exact ⟨t, _, fun s => by simp only [exec, execUncorrectableWord, State.live]; rfl⟩
  | injectionArm t _ _ => exact ⟨t, _, fun s => by simp only [exec, execInjectionArm, State.ported]; rfl⟩
  | injectionCancel t _ _ => exact ⟨t, _, fun s => by simp only [exec, execInjectionCancel, State.ported]; rfl⟩
  | injection t => exact ⟨t, _, fun s => by simp only [exec, execInjection, State.live]; rfl⟩
  | detectionTimeout t => exact ⟨t, _, fun s => by simp only [exec, execDetectionTimeout, State.live]; rfl⟩
  | linkTestGenerate t _ _ _ => exact ⟨t, _, fun s => by simp only [exec, execLinkTestGenerate, State.ported]; rfl⟩
  | linkTestCheck t _ _ _ => exact ⟨t, _, fun s => by simp only [exec, execLinkTestCheck, State.ported]; rfl⟩
  | linkTestLoopback t _ _ _ => exact ⟨t, _, fun s => by simp only [exec, execLinkTestLoopback, State.ported]; rfl⟩
  | linkTestStop t _ _ _ => exact ⟨t, _, fun s => by simp only [exec, execLinkTestStop, State.ported]; rfl⟩
  | linkTestTimeLimit t _ => exact ⟨t, _, fun s => by simp only [exec, execLinkTestTimeLimit, State.live]; rfl⟩
  | loopbackFrame t _ _ => exact ⟨t, _, fun s => by simp only [exec, execLoopbackFrame, State.ported]; rfl⟩
  | userSlotOpen t _ => exact ⟨t, _, fun s => by simp only [exec, execUserSlotOpen, State.ported]; rfl⟩
  | odReadCall t _ _ _ _ _ => exact ⟨t, _, fun s => by simp only [exec, execOdReadCall, State.live]; rfl⟩
  | mbWrite t _ _ _ _ _ => exact ⟨t, _, fun s => by simp only [exec, execMbWrite, State.live]; rfl⟩
  | propose t _ _ _ _ => exact ⟨t, _, fun s => by simp only [exec, execPropose, State.live]; rfl⟩
  | returnCall t _ => exact ⟨t, _, fun s => by simp only [exec, execReturnCall, State.live]; rfl⟩
  | slotOverrun t _ => exact ⟨t, _, fun s => by simp only [exec, execSlotOverrun, State.live]; rfl⟩
  | userPairFault t _ _ => exact ⟨t, _, fun s => by simp only [exec, execUserPairFault, State.live]; rfl⟩
  | userPairRun t _ _ _ => exact ⟨t, _, fun s => by simp only [exec, execUserPairRun, State.ported]; rfl⟩
  | userPairStop t _ _ _ => exact ⟨t, _, fun s => by simp only [exec, execUserPairStop, State.ported]; rfl⟩
  | imageWrite t _ _ _ _ => exact ⟨t, _, fun s => by simp only [exec, execImageWrite, State.ported]; rfl⟩
  | imageVerified t _ _ => exact ⟨t, _, fun s => by simp only [exec, execImageVerified, State.live]; rfl⟩
  | takeOverIRise t => exact ⟨t, _, fun s => by simp only [exec, execTakeOverIRise, State.ported]; rfl⟩
  | ifLaneCheckerLock t _ _ _ => exact ⟨t, _, fun s => by simp only [exec, execIfLaneCheckerLock, State.live]; rfl⟩
  | prbsCheckerLock t _ _ => exact ⟨t, _, fun s => by simp only [exec, execPrbsCheckerLock, State.live]; rfl⟩
  | storeComplete t _ => exact ⟨t, _, fun s => by simp only [exec, execStoreComplete, State.live]; rfl⟩
  | netLinkChange t _ _ => exact ⟨t, _, fun s => by simp only [exec, execNetLinkChange, State.ported]; rfl⟩
  | canErrorStateChange t _ _ => exact ⟨t, _, fun s => by simp only [exec, execCanErrorStateChange, State.ported]; rfl⟩
  | serialCharacterRx t _ _ _ _ _ => exact ⟨t, _, fun s => by simp only [exec, execSerialCharacterRx, State.ported]; rfl⟩

/-! ### From what is kept to the frame of a step -/

theorem at_max (s : State) (t : Nat) : (s.at (max s.now t)).clock = (s.at t).clock := by
  unfold State.at
  simp

/-- What is kept stands as after the passage of time alone. -/
theorem Sound.agree {E : List Part} {s s' : State} {t : Nat} (h : Sound E (s.heard t) s') (hn : s'.now = max s.now t) (p : Part) (hp : p ∉ E) :
    (s.at s'.now).agree s' p := by
  rw [hn]
  cases p <;> simp only [State.agree]
  case clock => rw [at_max]; exact h.clock.resolve_right hp
  case alarms => exact ⟨h.alarms.resolve_right hp, h.saturated.resolve_right hp⟩
  case power => exact h.power.resolve_right hp
  case ident => exact h.ident.resolve_right hp
  case objects => exact h.od.resolve_right hp
  case blobs => exact h.blobs.resolve_right hp
  case held => exact h.held.resolve_right hp
  case dict => exact h.dict.resolve_right hp
  case recorder => exact h.recorder.resolve_right hp
  case pair => exact h.pair.resolve_right hp
  case mram => exact h.mram.resolve_right hp
  case tap => exact h.tap.resolve_right hp
  case gnss => exact h.gnss.resolve_right hp
  case gsol => exact h.gsol.resolve_right hp
  case intake => exact h.intake.resolve_right hp
  case align => exact h.align.resolve_right hp
  case est => exact h.est.resolve_right hp
  case trk => exact h.trk.resolve_right hp
  case ctl => exact h.ctl.resolve_right hp
  case ring => exact h.ring.resolve_right hp
  case alc => exact h.alc.resolve_right hp
  case srv => exact h.srv.resolve_right hp
  case saf => exact h.saf.resolve_right hp
  case net => exact h.net.resolve_right hp
  case panel => exact h.panel.resolve_right hp
  case diag => exact h.diagn.resolve_right hp
  case user => exact h.user.resolve_right hp
  case wires => exact h.out.resolve_right hp
  case free => exact h.freeCount.resolve_right hp

/-- The clock of the outside world after a command. -/
theorem exec_now (c : Instr) (s : State) (t : Nat) (h : ∃ f, ∀ s, exec c s = s.run t f) (s' : State) (e : exec c s = .next s') :
    s'.now = max s.now t := by
  obtain ⟨f, hf⟩ := h
  rw [hf, s.run_eq] at e
  cases e
  rfl

/-! ### The start of a timeline, where the straps are sampled -/

theorem sampleStraps_inv (s : State) (p : StrapPads) (h : s.Inv) : (s.sampleStraps p).Inv := by
  unfold State.sampleStraps
  dsimp only
  have h0 : State.Inv { s with ident := { duty := if p.role.1 then .worker else .manager, twin := if p.twin.1 then .b else .a, node := ofBits (p.nodes.map (·.1)), held := p.blocks }, pair := { s.pair with offlineHeld := p.blocks } } := h
  have h1 := State.setObjs_sound (E := [.objects, .recorder, .alarms]) (by decide) _ [(0x2000, 1, if p.role.1 then 1 else 0), (0x2000, 2, if p.twin.1 then 1 else 0),
    (0x2000, 3, if p.role.1 then (ofBits (p.nodes.map (·.1)) : Int) else 255), (0x2000, 4, (p.word : Nat)), (0x2001, 1, (p.faults : Nat))] (sound_of_inv _ h0 [.objects, .recorder, .alarms])
  split
  · exact (State.event_sound (by decide) _ _ _ _ _ _ (State.setObj_sound (by decide) _ _ _ _ h1)).inv
  · exact h1.inv

theorem startUp_inv (s : State) (p : StrapPads) : (s.startUp p).Inv := by
  unfold State.startUp
  dsimp only
  apply sampleStraps_inv
  refine (State.showInputs_sound (E := [.objects, .recorder, .alarms]) (by decide) _ (State.count_sound (by decide) _ _ _ _ (State.setObjs_sound (by decide) _ _ (sound_of_inv _ ?_ _)))).inv
  exact ⟨rfl, rfl⟩

theorem tryStart_inv (s : State) (p : StrapPads) (h : s.Inv) : (s.tryStart p).Inv := by
  unfold State.tryStart
  split
  · exact startUp_inv s p
  · exact h


end Sys2Proof.Machine
end

