-- ==== Sys2Proof/Laws/Wire.lean ====
section
/-! SUPPORT. The symbol code: what the decoder makes of the words the encoder forms, of a word of the wrong length, and of a word with one
check lane changed. -/

namespace Sys2Proof.Machine

theorem leBytes_length (n v : Nat) : (leBytes n v).length = n := by
  induction n generalizing v with
  | zero => rfl
  | succ n ih => simp [leBytes, ih]

theorem codeWord_length (d : List Byte) : (codeWord d).length = d.length + 3 := by
  simp [codeWord, leBytes_length]

theorem codeWord_take (d : List Byte) (h : d.length = 16) : (codeWord d).take 16 = d := by
  simp [codeWord, ← h]

/-- A word of the code reads clean. -/
theorem readWord_codeWord (d : List Byte) (h : d.length = 16) : readWord (codeWord d) = .clean d := by
  have hc : isCodeWord (codeWord d) = true := by simp [isCodeWord, codeWord_length, codeWord_take d h, h]
  simp [readWord, hc, codeWord_take d h]

/-- A word of another length than 19 lanes is uncorrectable. -/
theorem readWord_of_length (w : List Byte) (h : w.length ≠ 19) : readWord w = .bad := by
  simp only [readWord, isCodeWord, h, decide_false, Bool.false_and, Bool.false_eq_true, if_false]
  split <;> rfl

/-- A word of the code with its first check lane changed is corrected. -/
theorem readWord_check_lane (d : List Byte) (h : d.length = 16) (v : Byte) (hv : (codeWord d)[16]? ≠ some v) :
    ∃ x, readWord (put (codeWord d) 16 [v]) = .corrected x := by
  obtain ⟨a, b, c, hw⟩ : ∃ a b c, codeWord d = d ++ [a, b, c] := ⟨_, _, _, rfl⟩
  have hput : ∀ x y : Byte, put (d ++ [x, b, c]) 16 [y] = d ++ [y, b, c] := by
    intro x y
    simp [put, ← h, List.drop_append]
  have hne : v ≠ a := by
    intro e
    simp [hw, ← h, e] at hv
  have hbad : isCodeWord (d ++ [v, b, c]) = false := by
    have : (d ++ [v, b, c]).take 16 = d := by simp [← h]
    simp [isCodeWord, this, hw, hne]
  have hgood : isCodeWord (d ++ [a, b, c]) = true := by
    have : (d ++ [a, b, c]).take 16 = d := by simp [← h]
    simp [isCodeWord, this, hw, h]
  have hsome : (laneCorrected (d ++ [v, b, c]) 16).isSome = true := by
    rw [laneCorrected, List.find?_isSome]
    exact ⟨d ++ [a, b, c], List.mem_map.mpr ⟨a.toNat, List.mem_range.mpr a.isLt, by rw [hput]; simp⟩, hgood⟩
  obtain ⟨y, hy⟩ := Option.isSome_iff_exists.mp hsome
  have hmem : y ∈ (List.range 19).filterMap (laneCorrected (d ++ [v, b, c])) := List.mem_filterMap.mpr ⟨16, by decide, hy⟩
  rw [hw, hput]
  unfold readWord
  simp only [hbad, Bool.false_eq_true, if_false]
  cases hh : ((List.range 19).filterMap (laneCorrected (d ++ [v, b, c]))).head? with
  | none => rw [List.head?_eq_none_iff] at hh; rw [hh] at hmem; cases hmem
  | some z => exact ⟨z.take 16, by simp [h]⟩

end Sys2Proof.Machine
end

