-- ==== Sys2Proof/Tests/Slice0.lean ====
section
/-! SUPPORT. Tests: for every statement with hypotheses, states and operands that meet them; a command that breaks each check of
well-formedness; figures from the worked examples of the specification. -/

namespace Sys2Proof.Tests

open Sys2Proof Machine Claims

set_option linter.unusedVariables false

set_option maxRecDepth 8000

/-- A manager twin in operation, alone and OFFLINE. -/
def mgr : State := { State.reset with
  now := 100000000000
  power := { stage := .ready, inA := true, portsOn := true, resetsReleased := true, configured := true, safetyTested := true }
  clock := { state := .freeRunning, units := 100000000000 * 281474976710656, ticks := 25000000000 }
  recorder := { ready := true, stopped := false } }

/-- A worker of node 3. -/
def wkr : State := { mgr with ident := { duty := .worker, node := 3 } }

/-- A module 50 ms into its start-up. -/
def starting : State := { State.reset with
  now := 50000000, power := { stage := .starting, inA := true }, recorder := { stopped := false } }

/-- Straps that agree: worker, twin A, node 1. -/
def pads : StrapPads :=
  { role := (true, false), twin := (false, true), node := [(true, false), (false, true), (false, true), (false, true), (false, true)] }

/-- Without power. -/
def down : State := { State.reset with now := 7 }

/-- With some objects set. -/
def o (s : State) (l : List (Nat × Nat × Int)) : State := s.setObjs l

/-- A manager twin that is ACTIVE, its partner STANDBY. -/
def act : State :=
  { mgr with pair := { role := .active, partnerRole := some .standby, lanes := [{ up := true, los := false, blockLock := true }, { up := true, los := false }] } }

/-- An ACTIVE worker twin. -/
def actW : State := { act with ident := wkr.ident }

/-- A STANDBY manager twin. -/
def stb : State := { mgr with pair := { role := .standby, partnerRole := some .active, lanes := act.pair.lanes } }

/-- With safe connection `k` set up in direction `dir`. -/
def conn (s : State) (k : Nat) (dir : Int) : State := o s
  [(0x7100+k,1,dir),(0x7100+k,2,77),(0x7100+k,3,9),(0x7100+k,4,168430081),(0x7100+k,5,6000),(0x7100+k,6,20),(0x7140,5,1),(0x7140,6,1)]

/-- With every safe connection in state `q`. -/
def wc (s : State) (q : SafeConn) : State := {s with net.conns := List.replicate 16 q}

/-- Part of a state or operand used below. -/
def call0 : UserCall := ⟨99999990000, true, 3, 4, [], none, [(okey 0x5000 1, [7#8, 8#8])]⟩

/-- With both user pairs in state `q`. -/
def up (s : State) (q : UserPair) : State := {(o s [(0xA000,2,50),(0xA001,2,50)]) with user := [q, q]}

/-- With an open session of CAN client 0. -/
def eng (s : State) : State := {s with dict.sessions := [⟨.can 0, 5, [], [], true, none, 99999999999⟩], mram.pairKey := [1#8]}

/-- With a message of type `k` waiting. -/
def wt (s : State) (k : TwKind) : State := {s with pair.waiting := [(k, 4, 0)]}

/-- The row of an object. -/
def rw (i sub : Nat) : OdRow := (odRow i sub).getD
  { base := 0, count := 1, sub0 := 0, subN := 0, ty := .u8, acc := .ro, dflt := 0, rng := .rng 0 1 }

/-- A write sent in one piece, without a trailer. -/
def v0 : OdVia := {}

/-- With one client. -/
def kc (s : State) (k : ClientRec) : State := {s with dict.clients := [k]}

/-- Part of a state or operand used below. -/
def gps1 : SatId := { system := 0, number := 5 }

/-- Part of a state or operand used below. -/
def ch0 : Chan := { idx := 3, state := .pullin, signal := 0, sat := gps1, stream := 0, blind := false }

/-- Part of a state or operand used below. -/
def gate1 : State := o mgr [(0x3000,1,1),(0x3000,8,4),(0x3000,3,1),(0x3000,5,1),(0x3010,1,1575420000)]

/-- 256 framing samples in lock. -/
def frm1 : List Bool := (List.range 64).flatMap fun _ => [true, false, false, false]

/-- Part of a state or operand used below. -/
def own0 : PtpHead := ⟨0, false, false⟩

/-- Part of a state or operand used below. -/
def ptpOn : State := o mgr [(0x2110,1,1),(0x2110,0x0B,7)]

/-- Part of a state or operand used below. -/
def run0 : AcqRun := ⟨.blind, [(3, 0)], 0, 0, 0, 1, 0, 1, 1, 1, 1, 0, 0⟩

/-- Part of a state or operand used below. -/
def kal : KeptItem := .almanac 0 100 [1#8]

/-- Part of a state or operand used below. -/
def ch1 : Chan := { ch0 with code := 1023 * 281474976710656 - 1, codeStep := 1, codeNew := 1 }

/-- Part of a state or operand used below. -/
def smp : IfSample := ⟨[true, false, false, false], [false, true, false, false], [true, true, false, false]⟩

/-- With serial port `n` in state `q`. -/
def port (s : State) (n : Nat) (q : RxPort) : State :=
  {s with intake.serial := (s.intake.serial.take n) ++ q :: s.intake.serial.drop (n+1)}

/-- Part of a state or operand used below. -/
def chr (b : Byte) (at' : Nat) : RxChar := ⟨b, false, 5, 6, at', 0⟩

/-- A sentence with a valid checksum. -/
def sentence : List RxChar := [0x24#8, 0x41#8, 0x2A#8, 0x34#8, 0x31#8].map fun b => chr b 99000000000

/-- With chain `n` in state `q`. -/
def chn (s : State) (n : Nat) (q : Chain) : State :=
  {s with intake.chains := (s.intake.chains.take n) ++ q :: s.intake.chains.drop (n+1)}

/-- Part of a state or operand used below. -/
def sde (n : Nat) : List SdEdge := List.replicate n ⟨0, true, true⟩

/-- Part of a state or operand used below. -/
def feedT : State := (chn (o mgr [(0x4043,1,1),(0x4043,6,0),(0x4043,8,0)]) 3 {inRange := true, cicCount := 33})

/-- Part of a state or operand used below. -/
def sec0 : CmdSection := ⟨0, 7, 2, .a, 9, List.replicate 32 {}⟩

/-- Part of a state or operand used below. -/
def pkt : SyncPacket :=
  { ring2 := false, ringState := 1, frame := 8, start := 5000*65536, d1 := 2000000, d2 := 2000001, stepNs := 0, stepSec := 0, timeState := 2, estErr := 100, owners := List.replicate 32 (0, 0), grants := [] }

/-- Part of a state or operand used below. -/
def sl (n : Nat) : SlotIn := ⟨n, 3, 2, false, false, true, 77 + n, 600, 5, {}, {}⟩

/-- A feedback packet with some slots filled. -/
def fbWith (l : List SlotIn) : List Byte := l.foldl (fun b q => put b (16 + 48 * q.slot) q.bytes) (blankFeedback 8)

/-- With the ports of the ring. -/
def rp (s : State) (a b : RingPort) : State := {s with ring.ports := [a, b]}

/-- A container. -/
def box (slot units : Nat) (filled : Bool) (dest kind : Nat) (p : List Byte) : Container := ⟨slot, units, filled, dest, kind, 7, p⟩

/-- Following, with frame 8 stamped at both ring ports. -/
def stamped (s : State) : State := rp {s with clock.state := .following} {stamp := some (8, 3000000)} {stamp := some (8, 4000000)}

/-- With every encoder in state `q`, 900 µs into a sample. -/
def enc (s : State) (q : Encoder) : State :=
  {s with srv := {s.srv with enc := List.replicate 4 q, sampling := true, sampleAt := (s.at 0).mt - 900000, gridAt := (s.at 0).mt - 900000}}

/-- With both thrusters in state `th`, a sample due. -/
def due (s : State) (th : Thruster) : State :=
  {s with srv := {s.srv with thr := [th, th], sampling := true, sampleAt := (s.at 0).mt - 2000000, gridAt := (s.at 0).mt - 2000000}}

/-- Part of a state or operand used below. -/
def hdB (k : Nat) : TwHeader := ⟨k, .b, 3, 5, 9, 4⟩

/-- Part of a state or operand used below. -/
def solR : SolResult :=
  { fix := 3, sats := 9, lat := 1, lon := 2, height := 3, vn := 0, ve := 0, vd := 0, hStd := 100, vStd := 100, clockPs := 0, clockStdPs := 10, instant := 99900000000, exclude := 0 }

/-- Part of a state or operand used below. -/
def attR : AttResult :=
  { gb := (8, 8), gc := (9, 9), heading := 1000, pitch := 0, roll := 0, headingStd := 10, pitchStd := 10, rollStd := 10, instant := 99900000000 }

/-- Part of a state or operand used below. -/
def cut0 : SetCut :=
  { count := 0, inputs := [], horizon := 0, feedback := [], levels := [], sample := {}, writes := [], drill := false, stepNs := none, mark := 0, resume := none, user := [], digest := [] }

/-- Part of a state or operand used below. -/
def words0 (h : TwHeader) (p : List Byte) : List (List Byte) := messageWords (h.bytes (p.length / 16)) p

/-- Part of a state or operand used below. -/
def p16 : List Byte := List.replicate 16 7#8

/-- Part of a state or operand used below. -/
def sM : State := {(wt stb .set) with ctl.cycling := true}

/-- Part of a state or operand used below. -/
def takenOf (s : State) (k : TwKind) : State := ((Claims.Seen s 0).takeWaiting k).getD s

/-- Part of a state or operand used below. -/
def rec0 : Rec :=
  { ty := 2, sev := 3, source := 4, plane := .control, time := some 5, utcOff := 37, leapAt := none, seqNo := 0, twinB := false, payload := [1#8] }

/-- Part of a state or operand used below. -/
def declO (i ty n : Nat) : MailDecl := ⟨i, ty, true, n, List.replicate n 0⟩

/-- Part of a state or operand used below. -/
def dup (k n : Nat) : List Byte := safeHeader 0x51 9 0 0 n

/-- Part of a state or operand used below. -/
def rec8 (n : Nat) (p : List Byte) : Rec :=
  { ty := 2, sev := 3, source := 4, plane := .control, time := some 5, utcOff := 37, leapAt := none, seqNo := n, twinB := false, payload := p }

/-- A client message. -/
def ms (op id i sub off : Nat) (fin : Bool) (d : List Byte) : List Byte := odBytes op fin false false id (okey i sub) off d

/-- What it is read as. -/
def mo (op id i sub off : Nat) (fin : Bool) (d : List Byte) : OdMsg := (OdMsg.ofBytes (ms op id i sub off fin d)).getD
  ⟨0,0,true,0,0,0,0,[],none⟩

/-- Part of a state or operand used below. -/
def takenA (s : State) : State := ((Claims.Seen s 0).takeWaiting .write).getD s

/-- Part of a state or operand used below. -/
def rpd (nmt : Nmt) : State := {(o act [(0x1403,1,0x345),(0x1603,0,1),(0x1603,1,0x50100C10)]) with dict.nmt := nmt}

/-- Part of a state or operand used below. -/
def k3 : State := kc mgr {client := .ring 3, lastHeard := 99000000000}

/-- Part of a state or operand used below. -/
def img : Image := ⟨[],[],true⟩

/-- Part of a state or operand used below. -/
def sa : Session := ⟨.ring 3, 5, [], [], false, none, 9⟩

/-- Part of a state or operand used below. -/
def img0 : List Byte := [0x43#8,0x4C#8,0x56#8,0x55#8,1#8,0#8,0#8,0#8, 9#8,0#8,0#8,0#8, 2#8,0#8,0#8,0#8, 0#8,0#8,0#8,0#8,
  4#8,0#8,0#8,0#8, 0#8,0#8, 3#8, 0#8,0#8,0#8,0#8,0#8, 7#8,7#8] ++ List.replicate 64 5#8

/-- 64 bits of the line test sequence. -/
def bits64 : List Bool := (List.range 33).foldl (fun b _ => b ++ [(b.getD (b.length - 31) false) != (b.getD (b.length - 28) false)])
  (true :: List.replicate 30 false)

/-- The word of code p16 reads clean. -/
theorem readWord_p16 : readWord (codeWord p16) = .clean p16 := readWord_codeWord _ (by decide)

/-- The words of a message spell its header and payload. -/
theorem spells_messageWords (h : TwHeader) (n : Nat) (p : List Byte) (hp : ∀ d ∈ pieces 16 (p.length / 16) p, d.length = 16) :
    Spells (messageWords (h.bytes n) p) (h.bytes n) p := by
  have hd : ∀ d ∈ h.bytes n :: pieces 16 (p.length / 16) p
      ++ [leBytes 4 (crc32c (h.bytes n ++ (pieces 16 (p.length / 16) p).flatten)) ++ List.replicate 12 0], d.length = 16 := by
    intro d hdm
    simp only [List.cons_append, List.mem_cons, List.mem_append, List.not_mem_nil, or_false] at hdm
    rcases hdm with rfl | hdm | rfl
    · simp [TwHeader.bytes, leBytes_length]
    · exact hp d hdm
    · simp [leBytes_length]
  constructor
  · intro w hw
    obtain ⟨d, hdm, rfl⟩ := List.mem_map.mp hw
    rw [readWord_codeWord d (hd d hdm)]
    nofun
  · simp only [messageWords, List.map_map]
    apply List.map_congr_left
    intro d hdm
    simp [readWord_codeWord d (hd d hdm), codeWord_take d (hd d hdm), WordRead.data]

/-- A byte other than the first check lane of a word. -/
def otherLane (w : List Byte) : Byte := (w[16]?).getD 0 + 1

theorem otherLane_ne (w : List Byte) : w[16]? ≠ some (otherLane w) := by
  unfold otherLane
  cases w[16]? with
  | none => simp
  | some x => simp

/-- The state a command leaves. -/
def after (c : Instr) (s : State) : State := match exec c s with
  | .next t => t
  | _ => s

/-! ### Worked examples -/

/-- The straps of W05-B (chapter 2): worker, twin B, node 5, sampled when the supplies become valid (R17). -/
theorem test_straps_w05b :
    (after (.suppliesValid 0 0 ⟨(true, false), (true, false), [(true, false), (false, true), (true, false), (false, true), (false, true)]⟩ 1800 2000000 0)
      State.reset).strapped = (.worker, .b, 5) := by decide

/-- Holdover after three days locked (chapter 4): 616 ns after 600.6 s and 3,255 ns after 2,400 s (R141). -/
theorem test_holdover_error :
    ({ mgr with clock := { state := .holdover, holdEntryErr := some 15, holdFrom := some 0, holdDiscipline := 259200, holdWarm := true },
                now := 600600000000 }.estErrNs,
     { mgr with clock := { state := .holdover, holdEntryErr := some 15, holdFrom := some 0, holdDiscipline := 259200, holdWarm := true },
                now := 2400000000000 }.estErrNs) = (some 616, some 3255) := by decide

/-- Chain 17 with N = 3, R = 32 (chapter 7): settling 17 and 33 CIC outputs, twice the group delay 541 and 1,053 periods. -/
theorem test_chain_settling :
    (settleCic 3 0x12, settleCic 3 0x0D, groupDelay2 3 32 0x12, groupDelay2 3 32 0x0D) = (17, 33, 541, 1053) := by decide

/-- The grants of chapter 14: 40, 512 and 10 units of 1,830. -/
theorem test_ring_grants :
    grantBudget 1000000 0 = 1830 ∧
    grantsOf (((List.replicate 66 0).set 2 40).set 4 3000) 0 1830 = ((List.replicate 66 0).set 2 40).set 4 512 := by decide

/-- Encoder and DAC frame of chapter 13: 3,328 cycles and 3,437.5 ns. -/
theorem test_servo_lengths : leadCycles 25 2000 = 3328 ∧ dacFramePs 4 8 = 3437500 := by decide

/-- A panel at 0 °C (chapter 21): 32 and 38 half-cycles, 51.6 V and 43.0 V. -/
theorem test_panel_pulses : mgr.pulses = (32, 38, 51600, 43000) := by decide +kernel

/-- The BLOCK24 value of chapter 18: exponent 10 and its three mantissas. -/
theorem test_block24 : blockOf [140, -85, 620] = (10, [1146880, -696320, 5079040], false) := by decide +kernel

/-- The ACTIVE manager twin keeps IDCODE and turns every other instruction into BYPASS (R77). -/
theorem test_tap_active : (after (.tapInstruction 0 (.other 3)) act).tap = .bypass ∧ (after (.tapInstruction 0 .idcode) act).tap = .idcode := by
  decide

/-- Memory of the user pairs keeps its canonical form, and so does the reset state. -/
theorem test_memory_canonical :
    (State.reset.user.all fun p => Memory.wf p.tcm) = true ∧ Memory.wf (storeBytes [] 7 [1#8, 0#8, 3#8]) = true ∧
    storeBytes (storeBytes [] 7 [1#8]) 7 [0#8] = [] := by decide

/-- The invariant of every step holds at reset. -/
theorem test_reset_inv : State.reset.Inv := ⟨by decide, by decide⟩

/-! ### Well-formedness -/

/-- Commands with every operand at the end of its range are well formed. -/
theorem test_wellformed_1 : ([
    .suppliesValid 0 1 pads 0 0 0,
    .inputPresent 0 1 0 0,
    .inputAbsent 0 1 0 0,
    .supplyWarningChange 0 1 false false 6000,
    .shutdownEnd 0 pads,
    .mrstNRelease 0 pads,
    .safetySelfTestDone 0 false (List.replicate 8 (true, true)),
    .ringPacketForward 0 1 [] .b,
    .commandSectionRx 0 1 [] 999,
    .commandSectionReturn 0 1 none 999,
    .syncPacketRx 0 1 [],
    .feedbackPacketPass 0 1 (List.replicate 3184 0) .b,
    .feedbackPacketReturn 0 1 (List.replicate 3184 0),
    .ownerExpiry 0 31,
    .containerPass 0 1 [] .b,
    .ringLinkDown 0 1 .los 0,
    .ringUnwrap 0 1,
    .ssiBurst 0 3 0 false,
    .drvfbChange 0 1 false 0,
    .enableTimeout 0 1,
    .driveDropTimeout 0 1,
    .staleHoldTimeout 0 1,
    .offDelayExpiry 0 1,
    .servoRateWrite 0 (.can 1) v0 0,
    .servoBankSwap 0 (.can 1) v0,
    .servoBankCopy 0 (.can 1) v0,
    .timeSecondsRead 0 (.can 1) v0,
    .timeFirstSet 0 (.source 2) 0 0,
    .timeSourceQualify 0 2 0 0,
    .timeSourceLoss 0 2 none,
    .ppsPulse 0 1 0,
    .ppsSettingWrite 0 (.can 1) v0 1 false 0,
    .ptpEventRx 0 1 1 own0 .management,
    .ptpTransparentForward 0 1 false .general 0 0 0,
    .framingLock 0 2 (List.replicate 256 true),
    .framingError 0 2 0 (List.replicate 4 true),
    .ifClockCheck 0 2 0 0,
    .portFault 0 2 .absent,
    .portRetry 0 2,
    .frontendInit 0 2] : List Instr).all Instr.wf = true := by decide +kernel

/-- Commands with every operand at the end of its range are well formed. -/
theorem test_wellformed_2 : ([
    .streamLevelCheck 0 2 3 (List.replicate 16 0),
    .channelAssign 0 2 [],
    .channelRelease 0 2 127 0 false,
    .acqJobEnd 0 [] 0 0,
    .integrationDump 0 2 127 [] none,
    .detectorWindow 0 2 127,
    .pullinTimeout 0 2 127,
    .reacqTimeout 0 2 127,
    .solutionReady 0 3,
    .keptDataErase 0 (.can 1) v0,
    .harbourModeOn 0 (.can 1) v0,
    .harbourModeOff 0 (.can 1) v0,
    .packetCommit 0 11,
    .packetDiscard 0 11,
    .packetGapTimeout 0 11,
    .queueRead 0 11,
    .packetConsume 0 11 none,
    .chainOutput 0 23 23 [],
    .chainClockWindow 0 23 0,
    .chainClockLoss 0 23 0,
    .sourceExclusion 0 21,
    .sourceReadmit 0 (.can 1) v0 21,
    .calibrationCommit 0 (.can 1) v0,
    .trackDelete 0 (.can 1) v0 63,
    .trackTimeout 0 63,
    .joystickWrite 0 (.can 1) v0 2 0,
    .controlRateWrite 0 (.can 1) v0 0,
    .outputPhaseWrite 0 (.can 1) v0 0,
    .bankSwap 0 (.can 1) v0,
    .bankCopy 0 (.can 1) v0,
    .pbtripChange 0 7 false 0,
    .busLimitWrite 0 (.can 1) v0 7 0,
    .allocationWrite 0 (.can 1) v0 31 0,
    .geometryWrite 0 (.can 1) v0 0xFFFF 0xFF (.num 0),
    .geometryModeWrite 0 (.can 1) v0 0,
    .twMessageRx 0 1 [],
    .timeMessageTw 0 1 0 0 none none,
    .slipwayMessage 0 .inStep 100,
    .heartbeatSend 0 1,
    .release 0 1 0] : List Instr).all Instr.wf = true := by decide +kernel

/-- Commands with every operand at the end of its range are well formed. -/
theorem test_wellformed_3 : ([
    .laneDown 0 1 .los 0 false,
    .laneUp 0 1 ⟨.manager, .b, 0⟩ none 0,
    .hardFault 0 (.lockstep 7),
    .rejoinWrite 0 (.can 1) v0 0,
    .drillNow 0 (.can 1) v0 0,
    .safeInputChange 0 15 false 0,
    .sfADiscrepancy 0 1,
    .sfAResetPulse 0 1,
    .testPulse 0 15 [] [],
    .ssOverload 0 15 0 0,
    .ssRetry 0 15,
    .soChannelTest 0 7 1 false false false false,
    .soReadbackTimeout 0 7 false false,
    .sfARemoteReset 0 (.can 1) v0 0,
    .safetyReset 0 (.can 1) v0 0,
    .supervisionFault 0 2 7 0,
    .safeProduce 0 15,
    .safeFrameRx 0 1 0 false [] [],
    .pairingWindowEnd 0 15,
    .channelReportRx 0 1 0 [],
    .channelReportSend 0 15,
    .probeSend 0 15,
    .connectionLost 0 15,
    .safeTestCommand 0 (.can 1) v0 15 0,
    .sdoRequest 0 1 0 (.uploadSegment true),
    .transferTimeout 0 (.can 1),
    .rpdoRx 0 1 536870911 [],
    .syncRx 0 1 536870911 none,
    .tpdoSend 0 7,
    .nmtCommand 0 1 .start 127,
    .odRead 0 (.can 1) false [],
    .odWrite 0 (.can 1) false [],
    .sessionOpen 0 (.can 1) false [],
    .sessionAuthenticate 0 (.can 1) false [],
    .sessionClose 0 (.can 1) false [],
    .clientNonce 0 (.can 1) v0 (List.replicate 16 1#8),
    .clientTag 0 (.can 1) v0 (List.replicate 32 1#8),
    .sessionCloseWrite 0 (.can 1) v0 0,
    .sessionIdleTimeout 0 (.can 1),
    .pairKeyWrite 0 (.can 1) v0 (List.replicate 32 1#8)] : List Instr).all Instr.wf = true := by decide +kernel

/-- Commands with every operand at the end of its range are well formed. -/
theorem test_wellformed_4 : ([
    .clientForget 0 (.can 1),
    .storeParameters 0 (.can 1) v0 3 0,
    .restoreDefaults 0 (.can 1) v0 3 0,
    .objectWrite 0 (.can 1) v0 0xFFFF 0xFF (.num 0),
    .recorderSeal 0 (.can 1) v0,
    .recorderUnseal 0 (.can 1) v0,
    .windowCapture 0 (.can 1) v0,
    .areaWrite 0 (.can 1) v0 0,
    .cursorWrite 0 (.can 1) v0 0,
    .panelEnableWrite 0 (.can 1) v0 0,
    .readClearArm 0 (.can 1) v0 0,
    .readClear 0 (.can 1) v0 0xFFFF 0xFF,
    .uncorrectableWord 0 .currentImage (List.replicate 16 0) (List.replicate 19 0) 0,
    .injectionArm 0 (.can 1) v0,
    .injectionCancel 0 (.can 1) v0,
    .linkTestGenerate 0 (.can 1) v0 17,
    .linkTestCheck 0 (.can 1) v0 17,
    .linkTestLoopback 0 (.can 1) v0 17,
    .linkTestStop 0 (.can 1) v0 17,
    .linkTestTimeLimit 0 17,
    .loopbackFrame 0 17 none,
    .userSlotOpen 0 1,
    .odReadCall 0 1 0xFFFF 0xFF 0 0,
    .mbWrite 0 1 0xFFFF 0xFF 0 [],
    .propose 0 1 0 0 0,
    .returnCall 0 1,
    .slotOverrun 0 1,
    .userPairFault 0 1 5,
    .userPairRun 0 (.can 1) v0 1,
    .userPairStop 0 (.can 1) v0 1,
    .imageWrite 0 (.can 1) v0 1 [],
    .imageVerified 0 1 false,
    .ifLaneCheckerLock 0 2 7 [],
    .prbsCheckerLock 0 17 [],
    .netLinkChange 0 1 false,
    .canErrorStateChange 0 1 .active,
    .serialCharacterRx 0 11 0#8 false 0 0] : List Instr).all Instr.wf = true := by decide +kernel

/-- Each of these commands breaks one check of its well-formedness and is refused by it. -/
theorem test_illformed_1 : ([
    .suppliesValid 0 2 pads 0 0 0,
    .suppliesValid 0 1 { pads with node := [] } 0 0 0,
    .inputPresent 0 2 0 0,
    .inputAbsent 0 2 0 0,
    .supplyWarningChange 0 2 false false 6000,
    .supplyWarningChange 0 1 false false 6001,
    .shutdownEnd 0 { pads with node := [] },
    .mrstNRelease 0 { pads with node := [] },
    .safetySelfTestDone 0 false [],
    .ringPacketForward 0 2 [] .b,
    .commandSectionRx 0 2 [] 999,
    .commandSectionRx 0 1 [] 1000,
    .commandSectionReturn 0 2 none 999,
    .commandSectionReturn 0 1 none 1000,
    .syncPacketRx 0 2 [],
    .feedbackPacketPass 0 2 (List.replicate 3184 0) .b,
    .feedbackPacketPass 0 1 [] .b,
    .feedbackPacketReturn 0 2 (List.replicate 3184 0),
    .feedbackPacketReturn 0 1 [],
    .ownerExpiry 0 32,
    .containerPass 0 2 [] .b,
    .ringLinkDown 0 2 .los 0,
    .ringUnwrap 0 2,
    .ssiBurst 0 4 0 false,
    .drvfbChange 0 2 false 0,
    .enableTimeout 0 2,
    .driveDropTimeout 0 2,
    .staleHoldTimeout 0 2,
    .offDelayExpiry 0 2,
    .servoRateWrite 0 (.can 2) v0 0,
    .servoBankSwap 0 (.can 2) v0,
    .servoBankCopy 0 (.can 2) v0,
    .timeSecondsRead 0 (.can 2) v0,
    .timeFirstSet 0 (.source 3) 0 0,
    .timeSourceQualify 0 3 0 0,
    .timeSourceLoss 0 3 none,
    .ppsPulse 0 2 0,
    .ppsSettingWrite 0 (.can 1) v0 2 false 0,
    .ppsSettingWrite 0 (.can 2) v0 1 false 0,
    .ptpEventRx 0 2 1 own0 .management] : List Instr).all (fun c => !c.wf) = true := by decide +kernel

/-- Each of these commands breaks one check of its well-formedness and is refused by it. -/
theorem test_illformed_2 : ([
    .ptpEventRx 0 1 2 own0 .management,
    .ptpTransparentForward 0 2 false .general 0 0 0,
    .framingLock 0 3 (List.replicate 256 true),
    .framingLock 0 2 [],
    .framingError 0 3 0 (List.replicate 4 true),
    .framingError 0 2 0 [],
    .ifClockCheck 0 3 0 0,
    .portFault 0 3 .absent,
    .portRetry 0 3,
    .frontendInit 0 3,
    .streamLevelCheck 0 3 3 (List.replicate 16 0),
    .streamLevelCheck 0 2 4 (List.replicate 16 0),
    .streamLevelCheck 0 2 3 [],
    .channelAssign 0 3 [],
    .channelRelease 0 3 127 0 false,
    .channelRelease 0 2 128 0 false,
    .acqJobEnd 0 [] 1 0,
    .integrationDump 0 3 127 [] none,
    .integrationDump 0 2 128 [] none,
    .detectorWindow 0 3 127,
    .detectorWindow 0 2 128,
    .pullinTimeout 0 3 127,
    .pullinTimeout 0 2 128,
    .reacqTimeout 0 3 127,
    .reacqTimeout 0 2 128,
    .solutionReady 0 4,
    .keptDataErase 0 (.can 2) v0,
    .harbourModeOn 0 (.can 2) v0,
    .harbourModeOff 0 (.can 2) v0,
    .packetCommit 0 12,
    .packetDiscard 0 12,
    .packetGapTimeout 0 12,
    .queueRead 0 12,
    .packetConsume 0 12 none,
    .chainOutput 0 24 23 [],
    .chainOutput 0 23 24 [],
    .chainClockWindow 0 24 0,
    .chainClockLoss 0 24 0,
    .sourceExclusion 0 22,
    .sourceReadmit 0 (.can 1) v0 22] : List Instr).all (fun c => !c.wf) = true := by decide +kernel

/-- Each of these commands breaks one check of its well-formedness and is refused by it. -/
theorem test_illformed_3 : ([
    .sourceReadmit 0 (.can 2) v0 21,
    .calibrationCommit 0 (.can 2) v0,
    .trackDelete 0 (.can 1) v0 64,
    .trackDelete 0 (.can 2) v0 63,
    .trackTimeout 0 64,
    .joystickWrite 0 (.can 1) v0 3 0,
    .joystickWrite 0 (.can 2) v0 2 0,
    .controlRateWrite 0 (.can 2) v0 0,
    .outputPhaseWrite 0 (.can 2) v0 0,
    .bankSwap 0 (.can 2) v0,
    .bankCopy 0 (.can 2) v0,
    .pbtripChange 0 8 false 0,
    .busLimitWrite 0 (.can 1) v0 8 0,
    .busLimitWrite 0 (.can 2) v0 7 0,
    .allocationWrite 0 (.can 1) v0 32 0,
    .allocationWrite 0 (.can 2) v0 31 0,
    .geometryWrite 0 (.can 1) v0 0x10000 0xFF (.num 0),
    .geometryWrite 0 (.can 1) v0 0xFFFF 0x100 (.num 0),
    .geometryWrite 0 (.can 2) v0 0xFFFF 0xFF (.num 0),
    .geometryModeWrite 0 (.can 2) v0 0,
    .twMessageRx 0 2 [],
    .twMessageRx 0 1 [[]],
    .timeMessageTw 0 2 0 0 none none,
    .slipwayMessage 0 .inStep 101,
    .heartbeatSend 0 2,
    .release 0 2 0,
    .laneDown 0 2 .los 0 false,
    .laneUp 0 2 ⟨.manager, .b, 0⟩ none 0,
    .hardFault 0 (.lockstep 8),
    .rejoinWrite 0 (.can 2) v0 0,
    .drillNow 0 (.can 2) v0 0,
    .safeInputChange 0 16 false 0,
    .sfADiscrepancy 0 2,
    .sfAResetPulse 0 2,
    .testPulse 0 16 [] [],
    .ssOverload 0 16 0 0,
    .ssRetry 0 16,
    .soChannelTest 0 8 1 false false false false,
    .soChannelTest 0 7 2 false false false false,
    .soReadbackTimeout 0 8 false false] : List Instr).all (fun c => !c.wf) = true := by decide +kernel

/-- Each of these commands breaks one check of its well-formedness and is refused by it. -/
theorem test_illformed_4 : ([
    .sfARemoteReset 0 (.can 2) v0 0,
    .safetyReset 0 (.can 2) v0 0,
    .supervisionFault 0 3 7 0,
    .supervisionFault 0 2 8 0,
    .safeProduce 0 16,
    .safeFrameRx 0 2 0 false [] [],
    .pairingWindowEnd 0 16,
    .channelReportRx 0 2 0 [],
    .channelReportSend 0 16,
    .probeSend 0 16,
    .connectionLost 0 16,
    .safeTestCommand 0 (.can 1) v0 16 0,
    .safeTestCommand 0 (.can 2) v0 15 0,
    .sdoRequest 0 2 0 (.uploadSegment true),
    .transferTimeout 0 (.can 2),
    .rpdoRx 0 2 536870911 [],
    .rpdoRx 0 1 536870912 [],
    .syncRx 0 2 536870911 none,
    .syncRx 0 1 536870912 none,
    .tpdoSend 0 8,
    .nmtCommand 0 2 .start 127,
    .nmtCommand 0 1 .start 128,
    .odRead 0 (.can 2) false [],
    .odWrite 0 (.can 2) false [],
    .sessionOpen 0 (.can 2) false [],
    .sessionAuthenticate 0 (.can 2) false [],
    .sessionClose 0 (.can 2) false [],
    .clientNonce 0 (.can 1) v0 [],
    .clientNonce 0 (.can 2) v0 (List.replicate 16 1#8),
    .clientTag 0 (.can 1) v0 [],
    .clientTag 0 (.can 2) v0 (List.replicate 32 1#8),
    .sessionCloseWrite 0 (.can 2) v0 0,
    .sessionIdleTimeout 0 (.can 2),
    .pairKeyWrite 0 (.can 1) v0 [],
    .pairKeyWrite 0 (.can 2) v0 (List.replicate 32 1#8),
    .clientForget 0 (.can 2),
    .storeParameters 0 (.can 1) v0 0 0,
    .storeParameters 0 (.can 1) v0 4 0,
    .storeParameters 0 (.can 2) v0 3 0,
    .restoreDefaults 0 (.can 1) v0 0 0] : List Instr).all (fun c => !c.wf) = true := by decide +kernel

/-- Each of these commands breaks one check of its well-formedness and is refused by it. -/
theorem test_illformed_5 : ([
    .restoreDefaults 0 (.can 1) v0 4 0,
    .restoreDefaults 0 (.can 2) v0 3 0,
    .objectWrite 0 (.can 1) v0 0x10000 0xFF (.num 0),
    .objectWrite 0 (.can 1) v0 0xFFFF 0x100 (.num 0),
    .objectWrite 0 (.can 2) v0 0xFFFF 0xFF (.num 0),
    .recorderSeal 0 (.can 2) v0,
    .recorderUnseal 0 (.can 2) v0,
    .windowCapture 0 (.can 2) v0,
    .areaWrite 0 (.can 2) v0 0,
    .cursorWrite 0 (.can 2) v0 0,
    .panelEnableWrite 0 (.can 2) v0 0,
    .readClearArm 0 (.can 2) v0 0,
    .readClear 0 (.can 1) v0 0x10000 0xFF,
    .readClear 0 (.can 1) v0 0xFFFF 0x100,
    .readClear 0 (.can 2) v0 0xFFFF 0xFF,
    .uncorrectableWord 0 .currentImage [] (List.replicate 19 0) 0,
    .uncorrectableWord 0 .currentImage (List.replicate 16 0) [] 0,
    .injectionArm 0 (.can 2) v0,
    .injectionCancel 0 (.can 2) v0,
    .linkTestGenerate 0 (.can 1) v0 18,
    .linkTestGenerate 0 (.can 2) v0 17,
    .linkTestCheck 0 (.can 1) v0 18,
    .linkTestCheck 0 (.can 2) v0 17,
    .linkTestLoopback 0 (.can 1) v0 18,
    .linkTestLoopback 0 (.can 2) v0 17,
    .linkTestStop 0 (.can 1) v0 18,
    .linkTestStop 0 (.can 2) v0 17,
    .linkTestTimeLimit 0 18,
    .loopbackFrame 0 18 none,
    .userSlotOpen 0 2,
    .odReadCall 0 1 0x10000 0xFF 0 0,
    .odReadCall 0 1 0xFFFF 0x100 0 0,
    .odReadCall 0 2 0xFFFF 0xFF 0 0,
    .mbWrite 0 1 0x10000 0xFF 0 [],
    .mbWrite 0 1 0xFFFF 0x100 0 [],
    .mbWrite 0 2 0xFFFF 0xFF 0 [],
    .propose 0 2 0 0 0,
    .returnCall 0 2,
    .slotOverrun 0 2,
    .userPairFault 0 2 5] : List Instr).all (fun c => !c.wf) = true := by decide +kernel

/-- Each of these commands breaks one check of its well-formedness and is refused by it. -/
theorem test_illformed_6 : ([
    .userPairFault 0 1 6,
    .userPairRun 0 (.can 1) v0 2,
    .userPairRun 0 (.can 2) v0 1,
    .userPairStop 0 (.can 1) v0 2,
    .userPairStop 0 (.can 2) v0 1,
    .imageWrite 0 (.can 1) v0 2 [],
    .imageWrite 0 (.can 2) v0 1 [],
    .imageVerified 0 2 false,
    .ifLaneCheckerLock 0 3 7 [],
    .ifLaneCheckerLock 0 2 8 [],
    .prbsCheckerLock 0 18 [],
    .netLinkChange 0 2 false,
    .canErrorStateChange 0 2 .active,
    .serialCharacterRx 0 12 0#8 false 0 0] : List Instr).all (fun c => !c.wf) = true := by decide +kernel

/-- An image of more than 4 MiB is ill formed (R774). -/
theorem test_illformed_image (b : List Byte) (h : b.length = 4194305) : (Instr.imageWrite 0 .inner {} 0 b).wf = false := by
  simp [Instr.wf, h]

/-! ### Hypotheses that can be met -/

/-- The hypotheses of FrontIsExecuted, IdlePasses can be met. -/
theorem test_witness_FrontCommandIsExecuted :
    (∃ (c : Instr) (rest : List Instr) (s : State), s.pending = c :: rest) ∧
    (∃ s : State, s.pending = []) :=
  ⟨⟨.heartbeatSend 0 1, [.takeOverIRise 5], { act with pending := [.heartbeatSend 0 1, .takeOverIRise 5] }, rfl⟩,
   ⟨State.reset, rfl⟩⟩

/-- The hypotheses of InvKept can be met. -/
theorem test_witness_StepKeepsInv :
    ∃ (s s' : State), s.Inv ∧ step s = .next s' :=
  ⟨{ act with pending := [.heartbeatSend 0 1] }, after (.heartbeatSend 0 1) act, ⟨by decide, by decide⟩, rfl⟩

/-- The hypotheses of FrameOfParts can be met. -/
theorem test_witness_FrameOfParts :
    ∃ (c : Instr) (s s' : State) (p : Part), s.Inv ∧ exec c s = .next s' ∧ p ∉ effects c :=
  ⟨.heartbeatSend 0 1, act, after (.heartbeatSend 0 1) act, .user, ⟨by decide, by decide⟩, rfl, by decide⟩

/-- The hypotheses of FrameOfObjects can be met. -/
theorem test_witness_FrameOfObjects :
    ∃ (c : Instr) (l : List (Nat × Nat)) (s s' : State), indices c = some l ∧ s.Inv ∧ exec c s = .next s' :=
  ⟨.heartbeatSend 0 1, (indices (.heartbeatSend 0 1)).getD [], act, after (.heartbeatSend 0 1) act, rfl, ⟨by decide, by decide⟩, rfl⟩

/-- The hypotheses of StrapsHold can be met. -/
theorem test_witness_StrapsHold :
    (∃ (s : State) (t input v10mV stableNs gauge : Nat) (p : StrapPads), s.power.stage = Stage.down ∧ s.power.mrstLow = false ∧
      s.power.inA = false ∧ s.power.inB = false ∧ input < 2 ∧ 1760 < v10mV ∧ 2000000 ≤ stableNs ∧ Steady s t input stableNs) ∧
    (∃ (c : Instr) (s s' : State), s.Inv ∧ maySample c = false ∧ exec c s = .next s') :=
  ⟨⟨down, 5, 1, 1761, 2000000, 77, pads, by decide, by decide, by decide, by decide, by decide, by decide, by decide,
      (by intro x h; cases h)⟩,
   ⟨.heartbeatSend 0 1, act, after (.heartbeatSend 0 1) act, ⟨by decide, by decide⟩, rfl, rfl⟩⟩

/-- The hypotheses of TapRule, TapInstruction can be met. -/
theorem test_witness_TapRule :
    (∃ (s : State) (t : Nat) (ir : TapIr), s.running = true) ∧
    (∃ (c : Instr) (s s' : State), s.Inv ∧ exec c s = .next s' ∧ (s'.role = .active ∨ s'.role = .standby)) ∧
    (∃ (s : State) (t : Nat) (ir : TapIr), s.running = true) :=
  ⟨⟨act, 0, (.other 3), by decide⟩,
   ⟨.heartbeatSend 0 1, act, after (.heartbeatSend 0 1) act, ⟨by decide, by decide⟩, rfl, by decide⟩,
   ⟨mgr, 0, (.other 3), by decide⟩⟩

/-- The hypotheses of CounterSaturates can be met. -/
theorem test_witness_CounterSaturates :
    (∃ (s : State) (p : Plane) (i sub : Nat), s.Inv ∧ okey i sub ∉ recorderKeys ∧ s.obj i sub < 0xFFFFFFFF) ∧
    (∃ (s : State) (p : Plane) (i sub : Nat), s.Inv ∧ okey i sub ∉ recorderKeys ∧ s.obj i sub = 0xFFFFFFFF ∧ s.saturated.contains (okey
      i sub) = true) ∧
    (∃ (s : State) (p : Plane) (i sub : Nat), s.Inv ∧ okey i sub ∉ recorderKeys ∧ s.obj i sub = 0xFFFFFFFF ∧ s.saturated.contains (okey
      i sub) = false ∧ s.recorder.stopped = false ∧ queueBytes (s.recorder.queue p) + storedSize (eventPayload i sub []).length ≤
      queueLimit p) :=
  ⟨⟨mgr, .data, 0x4003, 0x15, ⟨by decide, by decide⟩, by decide, by decide⟩,
   ⟨{(o mgr [(0x4003,0x15,0xFFFFFFFF)]) with saturated := [okey 0x4003 0x15]}, .data, 0x4003, 0x15, ⟨by decide, by decide⟩, by decide,
      by decide, by decide⟩,
   ⟨(o mgr [(0x4003,0x15,0xFFFFFFFF)]), .data, 0x4003, 0x15, ⟨by decide, by decide⟩, by decide, by decide, by decide, by decide,
      by decide⟩⟩

/-- The hypotheses of GrantsFit can be met. -/
theorem test_witness_GrantsFit :
    (∃ (demand : List Nat) (u k : Nat), demand.length = 66 ∧ (demand.map fun d => min d 512).sum ≤ u ∧ k < 66 ∧ 0 < demand.getD k 0) ∧
    (∃ (demand : List Nat) (u k : Nat), demand.length = 66 ∧ ((demand.map fun d => min d 512).filter fun d => decide (0 < d)).length ≤
      u ∧ k < 66 ∧ 0 < demand.getD k 0) :=
  ⟨⟨(List.replicate 66 0).set 65 3000, 512, 65, by decide, by decide, by decide, by decide⟩,
   ⟨List.replicate 66 3000, 66, 0, by decide, by decide, by decide, by decide⟩⟩

/-- The hypotheses of StrapLevelChange can be met. -/
theorem test_witness_StrapLevelChange :
    ∃ (s : State) (t : Nat) (pad : StrapName), s.Inv ∧ s.running = true :=
  ⟨mgr, 0, .role, ⟨by decide, by decide⟩, by decide⟩

/-- The hypotheses of DacPads, ManagerPads can be met. -/
theorem test_witness_PadsByRole :
    (∃ (s : State) (n : Nat), s.isManager = false ∧ s.pad (PadGroup.dacPort n) ≠ PadState.highZ) ∧
    (∃ (s : State) (n : Nat), s.isManager = false ∧ s.role ≠ PairRole.active) ∧
    (∃ (s : State), s.isManager = true) :=
  ⟨⟨actW, 3, by decide, by decide⟩,
   ⟨wkr, 3, by decide, by decide⟩,
   ⟨mgr, by decide⟩⟩

/-- The hypotheses of TransferTimeout can be met. -/
theorem test_witness_TransferTimeout :
    ∃ (s : State) (t : Nat) (c : Client) (x : Transfer), s.running = true ∧ s.power.portsOn = true ∧ c ≠ Client.inner ∧ s.transfer c =
      some x ∧ x.lastAt + 1000000000 ≤ max s.now t :=
  ⟨{mgr with dict.transfers := [⟨.can 0, okey 0x3000 7, false, List.replicate 10 3#8, 7, 0⟩]}, 0, (.can 0), ⟨.can 0, okey 0x3000 7,
    false, List.replicate 10 3#8, 7, 0⟩, by decide, by decide, by decide, by decide, by decide⟩

/-- The hypotheses of RecorderCursor can be met. -/
theorem test_witness_RecorderCursor :
    (∃ (s : State) (t : Nat) (c : Client) (via : OdVia) (n : Int) (r : OdRow), Goes (Instr.areaWrite t c via n) s t c 0x9002 1 (Val.num
      n) r) ∧
    (∃ (s : State) (t : Nat) (c : Client) (via : OdVia) (n : Int) (r : OdRow), Goes (Instr.cursorWrite t c via n) s t c 0x9002 2
      (Val.num n) r) :=
  ⟨⟨(kc mgr {client := .can 1, lastHeard := 5, cursor := 7, window := [1#8]}), 0, (.can 1), v0, 1, (rw 0x9002 1), ⟨⟨by decide, by decide⟩,
      by decide, by decide, _, _, _, _, rfl, ⟨rfl, rfl, rfl⟩, ⟨by decide, by decide, fun h => absurd h (by decide), by decide⟩⟩⟩,
   ⟨(kc mgr {client := .can 1, lastHeard := 5, area := 1, window := [1#8]}), 0, (.can 1), v0, 1, (rw 0x9002 2), ⟨⟨by decide, by decide⟩,
      by decide, by decide, _, _, _, _, rfl, ⟨rfl, rfl, rfl⟩, ⟨by decide, by decide, fun h => absurd h (by decide), by decide⟩⟩⟩⟩

/-- The hypotheses of SuppliesValid, ShutdownEnd, MrstRelease, TotalSupplyLoss, MrstAct can be met. -/
theorem test_witness_PowerTimelines :
    (∃ (s : State) (t input v10mV stableNs gauge : Nat) (straps : StrapPads), s.power.stage = Stage.down ∧ s.power.mrstLow = false ∧
      s.power.inA = false ∧ s.power.inB = false ∧ input < 2 ∧ 1760 < v10mV ∧ 2000000 ≤ stableNs ∧ Steady s t input stableNs ∧
      (s.power.lostAt = none ∨ s.power.cleanMark = false)) ∧
    (∃ (s : State) (t input v10mV stableNs gauge : Nat) (straps : StrapPads) (l : Nat), s.power.stage = Stage.down ∧ s.power.mrstLow =
      false ∧ s.power.inA = false ∧ s.power.inB = false ∧ input < 2 ∧ 1760 < v10mV ∧ 2000000 ≤ stableNs ∧ Steady s t input stableNs ∧
      s.power.lostAt = some l ∧ s.power.cleanMark = true) ∧
    (∃ (s : State) (t : Nat) (straps : StrapPads) (from' : Nat), s.power.stage = Stage.closing ∧ s.power.lossAt = some from' ∧ from' +
      5000000 ≤ max s.now t ∧ (s.power.mrstLow = true ∨ s.power.inA = false ∧ s.power.inB = false)) ∧
    (∃ (s : State) (t : Nat) (straps : StrapPads) (from' : Nat), s.power.stage = Stage.closing ∧ s.power.lossAt = some from' ∧ from' +
      5000000 ≤ max s.now t ∧ s.power.mrstLow = false ∧ (s.power.inA = true ∨ s.power.inB = true)) ∧
    (∃ (s : State) (t : Nat) (straps : StrapPads), s.power.stage = Stage.down ∧ (s.power.inA = true ∨ s.power.inB = true)) ∧
    (∃ (s : State) (t : Nat) (straps : StrapPads), (s.power.stage ≠ Stage.down ∨ s.power.inA = false ∧ s.power.inB = false)) ∧
    (∃ (s : State) (t v10mV stableNs written : Nat), s.Inv ∧ s.running = true ∧ s.power.stage ≠ Stage.closing ∧ s.power.inA ≠
      s.power.inB ∧ v10mV < 1640 ∧ 45000 ≤ stableNs ∧ Steady s t (if s.power.inA = true then 0 else 1) stableNs) ∧
    (∃ (s : State) (t written : Nat), s.Inv ∧ s.running = true ∧ s.power.stage ≠ Stage.closing) :=
  ⟨⟨down, 5, 1, 1761, 2000000, 40, pads, by decide, by decide, by decide, by decide, by decide, by decide, by decide,
      (by intro x h; cases h), by decide⟩,
   ⟨{down with power.lostAt := some 1, power.cleanMark := true}, 5000000000, 1, 1761, 2000000, 200, pads, 1, by decide, by decide,
      by decide, by decide, by decide, by decide, by decide, (by intro x h; cases h), by decide, by decide⟩,
   ⟨{(down.setBit 0x2020 3 6 true) with power := { stage := .closing, lossAt := some 1000, mrstLow := true }}, 90000000, pads, 1000,
      by decide, by decide, by decide, by decide⟩,
   ⟨{down with power := { stage := .closing, lossAt := some 1000, inA := true }}, 90000000, pads, 1000, by decide, by decide, by decide,
      by decide, by decide⟩,
   ⟨{down with power := { inB := true, mrstLow := true}}, 90000000, pads, by decide, by decide⟩,
   ⟨mgr, 0, pads, by decide⟩,
   ⟨mgr, 0, 1639, 45000, 0, ⟨by decide, by decide⟩, by decide, by decide, by decide, by decide, by decide, (by intro x h; cases h)⟩,
   ⟨{mgr with pair.role := .active}, 0, 0, ⟨by decide, by decide⟩, by decide, by decide⟩⟩

/-- The hypotheses of InputPresent, InputAbsent, SupplyWarning, OcxoWarm, ThermalWarning can be met. -/
theorem test_witness_SupplyAndThermal :
    (∃ (s : State) (t input v10mV stableNs : Nat), s.Inv ∧ s.running = true ∧ input < 2 ∧ s.hasInput input = false ∧ s.hasInput (1 -
      input) = true ∧ 1760 < v10mV ∧ 2000000 ≤ stableNs ∧ Steady s t input stableNs) ∧
    (∃ (s : State) (t input v10mV stableNs : Nat), s.Inv ∧ s.running = true ∧ input < 2 ∧ s.hasInput input = true ∧ s.hasInput (1 -
      input) = true ∧ v10mV < 1640 ∧ 45000 ≤ stableNs ∧ Steady s t input stableNs ∧ s.obj 0x2020 (8 + input) < 0xFFFFFFFF) ∧
    (∃ (s : State) (t input v : Nat) (high set : Bool), s.Inv ∧ s.running = true ∧ input < 2 ∧
      (match high, set with | false, true => v ≤ 1760 | false, false => 1760 ≤ v | true, true => 3250 ≤ v | true, false => v ≤ 3200)) ∧
    (∃ (s : State) (t stable : Nat), s.Inv ∧ s.running = true ∧ (10000000000 ≤ stable ∧ s.power.origin + 10000000000 ≤ max s.now t ∨
      s.power.origin + 240000000000 ≤ max s.now t)) ∧
    (∃ (s : State) (t : Nat) (c j : Int), s.Inv ∧ s.running = true ∧ -550 ≤ c ∧ c ≤ 1500 ∧ -550 ≤ j ∧ j ≤ 1500 ∧ 950 < c) ∧
    (∃ (s : State) (t : Nat) (c j : Int), s.Inv ∧ s.running = true ∧ -550 ≤ c ∧ c ≤ 1500 ∧ -550 ≤ j ∧ j ≤ 1500 ∧ 1200 < j) :=
  ⟨⟨mgr, 0, 1, 1761, 2000000, ⟨by decide, by decide⟩, by decide, by decide, by decide, by decide, by decide, by decide,
      (by intro x h; cases h)⟩,
   ⟨{mgr with power.inB := true}, 0, 1, 1639, 45000, ⟨by decide, by decide⟩, by decide, by decide, by decide, by decide, by decide,
      by decide, (by intro x h; cases h), by decide⟩,
   ⟨mgr, 0, 0, 3250, true, true, ⟨by decide, by decide⟩, by decide, by decide, by decide⟩,
   ⟨mgr, 0, 10000000000, ⟨by decide, by decide⟩, by decide, by decide⟩,
   ⟨mgr, 0, 951, 1201, ⟨by decide, by decide⟩, by decide, by decide, by decide, by decide, by decide, by decide⟩,
   ⟨mgr, 0, 951, 1201, ⟨by decide, by decide⟩, by decide, by decide, by decide, by decide, by decide, by decide⟩⟩

/-- The hypotheses of HoldupCharged, ImageRead, ResetsReleased, PortsEnabled, SafetySelfTest, HoldReady, ResumeAbandon, FrontPads can be met. -/
theorem test_witness_StartupSteps :
    (∃ (s : State) (t : Nat) (tornCirc tornPerm : Bool), s.Inv ∧ s.power.stage = Stage.starting ∧ s.bit 0x2020 3 6 = false ∧
      s.power.origin + 8000000 ≤ max s.now t) ∧
    (∃ (s : State) (t : Nat) (c p : Bool), s.Inv ∧ s.power.stage = Stage.starting ∧ s.power.configured = false ∧ s.power.origin +
      6000000 ≤ max s.now t ∧
      ((if (fun (g : Option Image) (ok : Bool) => match g with | some g => g.valid && ok | none => false) s.mram.current c = true then 0 else if (fun (g : Option Image) (ok : Bool) => match g with | some g => g.valid && ok | none => false) s.mram.previous p = true then 1 else 2) = 1)) ∧
    (∃ (s : State) (t : Nat), s.power.stage = Stage.starting ∧ s.power.origin + 30000000 ≤ max s.now t ∧ s.obj 0x3340 4 ≠ 1) ∧
    (∃ (s : State) (t : Nat), s.Inv ∧ s.power.stage = Stage.starting ∧ s.power.configured = true ∧ s.power.portsOn = false ∧
      s.power.origin + 35000000 ≤ max s.now t) ∧
    (∃ (s : State) (t : Nat) (passed : Bool) (mirrors : List (Bool × Bool)), s.Inv ∧ s.power.stage = Stage.starting ∧
      s.power.safetyTested = false ∧ s.saf.failed = false ∧ s.power.origin + 40000000 ≤ max s.now t ∧ passed = false) ∧
    (∃ (s : State) (t : Nat) (panelReads : Bool), s.Inv ∧ s.power.stage = Stage.starting ∧ s.power.portsOn = true ∧
      s.power.safetyTested = true ∧ s.power.origin + 45000000 ≤ max s.now t) ∧
    (∃ (s : State) (t : Nat) (k : KeptMode), s.Inv ∧ s.running = true ∧ s.ctl.resume = some k ∧ s.power.origin + 10000000000 ≤ max
      s.now t) ∧
    (∃ (s : State) (p : Nat), (s.power.stage = Stage.starting ∨ s.power.stage = Stage.ready) ∧ s.power.resetsReleased = false) ∧
    (∃ (s : State) (p : Nat), (s.power.stage = Stage.starting ∨ s.power.stage = Stage.ready) ∧ s.obj 0x3340 4 = 1 ∧ s.obj (0x3000 + p)
      1 ≠ 0) ∧
    (∃ (s : State) (p : Nat), (s.power.stage = Stage.starting ∨ s.power.stage = Stage.ready) ∧ s.power.resetsReleased = true ∧ s.obj
      0x3340 4 ≠ 1) ∧
    (∃ (s : State) (p : Nat), (s.power.stage = Stage.starting ∨ s.power.stage = Stage.ready) ∧ 5000000 ≤ s.sinceOrigin) :=
  ⟨⟨starting, 0, true, true, ⟨by decide, by decide⟩, by decide, by decide, by decide⟩,
   ⟨{starting with mram := {starting.mram with previous := some ⟨[],[],true⟩}}, 0, false, true, ⟨by decide, by decide⟩, by decide,
      by decide, by decide, by decide⟩,
   ⟨starting, 0, by decide, by decide, by decide⟩,
   ⟨{starting with power.configured := true}, 0, ⟨by decide, by decide⟩, by decide, by decide, by decide, by decide⟩,
   ⟨starting, 0, false, [(true,true)], ⟨by decide, by decide⟩, by decide, by decide, by decide, by decide, by decide⟩,
   ⟨{starting with power := {starting.power with configured := true, safetyTested := true, portsOn := true}}, 0, true, ⟨by decide, by
      decide⟩, by decide, by decide, by decide, by decide⟩,
   ⟨{mgr with ctl.resume := some ⟨2, 0, []⟩}, 0, ⟨2, 0, []⟩, ⟨by decide, by decide⟩, by decide, by decide, by decide⟩,
   ⟨starting, 1, by decide, by decide⟩,
   ⟨(o mgr [(0x3340,4,1)]), 1, by decide, by decide, by decide⟩,
   ⟨mgr, 1, by decide, by decide, by decide⟩,
   ⟨mgr, 1, by decide, by decide⟩⟩

/-- The hypotheses of TimeFirstSet, TimeSourceQualify, TimeSourceChange, TimeSourceLoss, SlewDone, TimeStep can be met. -/
theorem test_witness_TimeSources :
    (∃ (s : State) (t : Nat) (src : TimeOrigin) (tai : Nat) (taiUtc : Int), s.Inv ∧ s.running = true ∧ s.clock.state = TimeState.unset
      ∧ tai < 2 ^ 48 * 1000000000 ∧ -32768 ≤ taiUtc ∧ taiUtc ≤ 32767 ∧ (∀ (n : Nat), src = TimeOrigin.source n → s.isManager = true ∧
      s.sourceRank n ≠ none ∧ (nth false s.clock.qualified n = true ∨ s.mayQualify n = true))) ∧
    (∃ (s : State) (t source unc : Nat) (off : Int), s.running = true ∧ s.isManager = true ∧ source < 3 ∧ s.clock.qualified.length = 3
      ∧ s.clock.offsets.length = 3 ∧ s.mayQualify source = true ∧ s.clock.state ≠ TimeState.following ∧ s.clock.state ≠ TimeState.unset
      ∧ s.selectedSource = none ∧ s.sourceRank source ≠ none) ∧
    (∃ (s : State) (t src unc : Nat) (off : Int), s.Inv ∧ s.running = true ∧ s.isManager = true ∧ s.clock.state ≠ TimeState.following ∧
      s.clock.change = some src ∧ (s.at t).atSecond = true ∧ s.clock.changeAt / 1000000000 < (s.at t).mt / 1000000000 ∧ (∀ (p :
      PlannedStep), s.clock.step = some p → p.atSec = none) ∧ (↑off.natAbs : Int) + 1000 * (↑(if src = 0 then nth 0 s.clock.uncertainty
      0 else unc) : Int) < 500000) ∧
    (∃ (s : State) (t src unc : Nat) (off : Int), s.Inv ∧ s.running = true ∧ s.isManager = true ∧ s.clock.state ≠ TimeState.following ∧
      s.clock.change = some src ∧ (s.at t).atSecond = true ∧ s.clock.changeAt / 1000000000 < (s.at t).mt / 1000000000 ∧ (∀ (p :
      PlannedStep), s.clock.step = some p → p.atSec = none) ∧ 500000 ≤ (↑off.natAbs : Int) + 1000 * (↑(if src = 0 then nth 0
      s.clock.uncertainty 0 else unc) : Int)) ∧
    (∃ (s : State) (t source : Nat) (g : Option Nat) (m : Nat), s.Inv ∧ s.running = true ∧ s.isManager = true ∧ s.clock.state ≠
      TimeState.following ∧ source < 3 ∧ s.obj 0x2100 5 = (↑source : Int) + 1 ∧ (∀ (m : Nat), g = some m → 1 ≤ source ∧ s.obj (0x2110 +
      (source - 1)) 9 ≠ (↑m : Int) ∧ s.obj (0x2110 + (source - 1)) 0x10 < 0xFFFFFFFF) ∧ g = some m) ∧
    (∃ (s : State) (t n : Nat), s.Inv ∧ s.running = true ∧ s.clock.state = TimeState.slewing ∧ s.clock.slewLeft.natAbs < 10000 ∧
      s.selectedSource = some n) ∧
    (∃ (s : State) (t sec : Nat) (a : Int), s.Inv ∧ s.running = true ∧ s.clock.step = some { amountNs := a, atSec := some sec } ∧
      s.boundaryNs sec ≤ (↑(s.at t).mt : Int) ∧ s.obj 0x2100 0x0D < 0xFFFFFFFF ∧ 0 ≤ (↑(s.at t).mt : Int) + a ∧ (↑(s.at t).mt : Int) +
      a < 2 ^ 48 * 1000000000 ∧ (s.at t).hasLeader = true) ∧
    (∃ (s : State) (t sec : Nat) (a : Int) (n : Nat), s.Inv ∧ s.running = true ∧ s.clock.step = some
      { amountNs := a, atSec := some sec } ∧ s.boundaryNs sec ≤ (↑(s.at t).mt : Int) ∧ s.obj 0x2100 0x0D < 0xFFFFFFFF ∧ 0 ≤ (↑(s.at
      t).mt : Int) + a ∧ (↑(s.at t).mt : Int) + a < 2 ^ 48 * 1000000000 ∧ (s.at t).hasLeader = false ∧ s.selectedSource = some n) ∧
    (∃ (s : State) (t sec : Nat) (a : Int), s.Inv ∧ s.running = true ∧ s.clock.step = some { amountNs := a, atSec := some sec } ∧
      s.boundaryNs sec ≤ (↑(s.at t).mt : Int) ∧ s.obj 0x2100 0x0D < 0xFFFFFFFF ∧ 0 ≤ (↑(s.at t).mt : Int) + a ∧ (↑(s.at t).mt : Int) +
      a < 2 ^ 48 * 1000000000 ∧ (s.at t).hasLeader = false ∧ s.selectedSource = none) :=
  ⟨⟨{wkr with clock := {}}, 0, .coarse, 281474976710655999999999, 37, ⟨by decide, by decide⟩, by decide, by decide, by decide, by decide,
      by decide, (by intro x h; cases h)⟩,
   ⟨{mgr with clock.gnssRun := 10}, 0, 0, 5, 100, by decide, by decide, by decide, by decide, by decide, by decide, by decide, by decide,
      by decide, by decide⟩,
   ⟨{mgr with clock.change := some 0}, 0, 0, 499, 999, ⟨by decide, by decide⟩, by decide, by decide, by decide, by decide, by decide,
      by decide, by decide, by decide⟩,
   ⟨{mgr with clock.change := some 2}, 0, 2, 500, 0, ⟨by decide, by decide⟩, by decide, by decide, by decide, by decide, by decide,
      by decide, by decide, by decide⟩,
   ⟨(o mgr [(0x2100,5,3)]), 0, 2, (some 9), 9, ⟨by decide, by decide⟩, by decide, by decide, by decide, by decide, by decide, by decide,
      by decide⟩,
   ⟨{(o mgr [(0x2100,5,1)]) with clock.state := .slewing, clock.slewLeft := -9999}, 0, 0, ⟨by decide, by decide⟩, by decide, by decide,
      by decide, by decide⟩,
   ⟨{stb with clock.step := some ⟨-5000, some 99⟩, clock.state := .following}, 100500000000, 99, (-5000), ⟨by decide, by decide⟩,
      by decide, by decide, by decide, by decide, by decide, by decide, by decide⟩,
   ⟨{(o mgr [(0x2100,5,1)]) with clock.step := some ⟨5000, some 99⟩}, 0, 99, 5000, 0, ⟨by decide, by decide⟩, by decide, by decide,
      by decide, by decide, by decide, by decide, by decide, by decide⟩,
   ⟨{wkr with clock.step := some ⟨-5000, some 99⟩}, 100500000000, 99, (-5000), ⟨by decide, by decide⟩, by decide, by decide, by decide,
      by decide, by decide, by decide, by decide, by decide⟩⟩

/-- The hypotheses of PpsPulse, TimeMessage, PtpEventRx, PtpForward can be met. -/
theorem test_witness_TimeOutputs_1 :
    (∃ (s : State) (t output sec : Nat), s.Inv ∧ s.running = true ∧ s.clock.state ≠ TimeState.unset ∧ output < 2 ∧
      s.clock.lastPulse.length = 2 ∧ s.clock.pulseInfo.length = 2 ∧ s.nextPulse output sec = true ∧ ((↑(s.at t).mt : Int) -
      (s.boundaryNs sec - (nth (10000, 0) ((Seen s t).takePps output sec).clock.ppsForce output).2)).natAbs ≤ 4 ∧ s.obj (0x2120 +
      output) 1 = 1) ∧
    (∃ (s : State) (t output sec : Nat), s.Inv ∧ s.running = true ∧ s.clock.state ≠ TimeState.unset ∧ output < 2 ∧
      s.clock.lastPulse.length = 2 ∧ s.clock.pulseInfo.length = 2 ∧ s.nextPulse output sec = true ∧ ((↑(s.at t).mt : Int) -
      (s.boundaryNs sec - (nth (10000, 0) ((Seen s t).takePps output sec).clock.ppsForce output).2)).natAbs ≤ 4 ∧ s.obj (0x2120 +
      output) 1 ≠ 1) ∧
    (∃ (s : State) (t : Nat) (p : PulseInfo) (q : PlannedStep), s.Inv ∧ s.running = true ∧ s.power.portsOn = true ∧ s.lastPulseInfo =
      some p ∧ s.clock.described ≠ some p.sec ∧ p.edgeAt + 10000000 ≤ max s.now t ∧ max s.now t ≤ p.edgeAt + 100000000 ∧ s.clock.step =
      some q ∧ q.atSec = none) ∧
    (∃ (s : State) (t inst port : Nat) (head : PtpHead) (n : Nat) (x corr : Int), s.Inv ∧ s.running = true ∧ s.power.portsOn = true ∧
      s.isManager = true ∧ inst < 2 ∧ s.clock.ptp.length = 2 ∧ s.obj (0x2110 + inst) 1 = 1 ∧ ((↑head.domain : Int) = s.obj (0x2110 +
      inst) 2 ∧ head.ethernet = decide (s.obj (0x2110 + inst) 3 = 1) ∧ head.unicast = false) ∧ (s.ptpInst inst).syncSeq = some n) ∧
    (∃ (s : State) (t inst port : Nat) (head : PtpHead) (n : Nat) (x corr : Int), s.Inv ∧ s.running = true ∧ s.power.portsOn = true ∧
      s.isManager = true ∧ inst < 2 ∧ s.clock.ptp.length = 2 ∧ s.obj (0x2110 + inst) 1 = 1 ∧ ((↑head.domain : Int) = s.obj (0x2110 +
      inst) 2 ∧ head.ethernet = decide (s.obj (0x2110 + inst) 3 = 1) ∧ head.unicast = false) ∧ (s.ptpInst inst).delaySeq = some n) ∧
    (∃ (s : State) (t inst port : Nat) (head : PtpHead) (n : Nat) (corr : Int), s.Inv ∧ s.running = true ∧ s.power.portsOn = true ∧
      s.isManager = true ∧ inst < 2 ∧ s.clock.ptp.length = 2 ∧ s.obj (0x2110 + inst) 1 = 1 ∧ ((↑head.domain : Int) = s.obj (0x2110 +
      inst) 2 ∧ head.ethernet = decide (s.obj (0x2110 + inst) 3 = 1) ∧ head.unicast = false) ∧ (Seen s t).ptpState inst = 6) ∧
    (∃ (s : State) (t inst port : Nat) (head : PtpHead), s.Inv ∧ s.running = true ∧ s.power.portsOn = true ∧ s.isManager = true ∧ inst
      < 2 ∧ s.clock.ptp.length = 2 ∧ s.obj (0x2110 + inst) 1 = 1 ∧ (Seen s t).ptpState inst = 6 ∧ (Seen s t).ptpMaySend inst 1
      (intervalNs (s.obj (0x2110 + inst) 6)) = true) ∧
    (∃ (s : State) (t inst port : Nat) (head : PtpHead), s.Inv ∧ s.running = true ∧ s.power.portsOn = true ∧ s.isManager = true ∧ inst
      < 2 ∧ s.clock.ptp.length = 2 ∧ s.obj (0x2110 + inst) 1 = 1 ∧ (Seen s t).ptpState inst = 9 ∧ (Seen s t).ptpMaySend inst 2
      (intervalNs (s.obj (0x2110 + inst) 7)) = true) ∧
    (∃ (s : State) (t inst port : Nat) (head : PtpHead) (n : Nat) (two : Bool) (x corr : Int), s.Inv ∧ s.running = true ∧
      s.power.portsOn = true ∧ s.isManager = true ∧ inst < 2 ∧ s.clock.ptp.length = 2 ∧ s.obj (0x2110 + inst) 1 = 1 ∧ ¬((↑head.domain :
      Int) = s.obj (0x2110 + inst) 2 ∧ head.ethernet = decide (s.obj (0x2110 + inst) 3 = 1) ∧ head.unicast = false)) ∧
    (∃ (s : State) (t inst n : Nat) (one : Bool) (kind : PtpFwd) (ingress egress corr : Int), s.running = true ∧ s.power.portsOn = true
      ∧ inst < 2 ∧ s.clock.ptp.length = 2 ∧ s.obj (0x2110 + inst) 1 ≠ 0 ∧ (kind = PtpFwd.sync n false ∨ kind = PtpFwd.delayReq)) ∧
    (∃ (s : State) (t inst n : Nat) (one : Bool) (kind : PtpFwd) (ingress egress corr : Int), s.running = true ∧ s.power.portsOn = true
      ∧ inst < 2 ∧ s.clock.ptp.length = 2 ∧ s.obj (0x2110 + inst) 1 ≠ 0 ∧ kind = PtpFwd.sync n true) ∧
    (∃ (s : State) (t inst n : Nat) (one : Bool) (kind : PtpFwd) (ingress egress corr : Int), s.running = true ∧ s.power.portsOn = true
      ∧ inst < 2 ∧ s.clock.ptp.length = 2 ∧ s.obj (0x2110 + inst) 1 ≠ 0 ∧ (kind = PtpFwd.general ∨ kind = PtpFwd.internal)) :=
  ⟨⟨(o mgr [(0x2120,1,1)]), 0, 0, 100, ⟨by decide, by decide⟩, by decide, by decide, by decide, by decide, by decide, by decide,
      by decide, by decide⟩,
   ⟨(o mgr [(0x2120,1,0)]), 0, 0, 100, ⟨by decide, by decide⟩, by decide, by decide, by decide, by decide, by decide, by decide,
      by decide, by decide⟩,
   ⟨{(o mgr [(0x2130,7,65535),(0x2130,8,5)]) with clock.pulseInfo := [some ⟨99, 99950000000, 1, none⟩, none], clock.step := some ⟨7000, none⟩},
      0, ⟨99, 99950000000, 1, none⟩, ⟨7000, none⟩, ⟨by decide, by decide⟩, by decide, by decide, by decide, by decide, by decide,
      by decide, by decide, by decide⟩,
   ⟨{ptpOn with clock.ptp := [{delaySeq := some 4, syncSeq := some 6, t1 := 10, t2 := 700000, t3 := 5},{}]}, 0, 0, 1, own0, 6, 1000, 50,
      ⟨by decide, by decide⟩, by decide, by decide, by decide, by decide, by decide, by decide, by decide, by decide⟩,
   ⟨{ptpOn with clock.ptp := [{delaySeq := some 4, syncSeq := some 6, t1 := 10, t2 := 700000, t3 := 5},{}]}, 0, 0, 1, own0, 4, 900000, 7,
      ⟨by decide, by decide⟩, by decide, by decide, by decide, by decide, by decide, by decide, by decide, by decide⟩,
   ⟨{(o ptpOn [(0x2100,5,1)]) with clock.state := .locked, clock.gnssSet := true}, 0, 0, 1, own0, 4, 5, ⟨by decide, by decide⟩, by decide,
      by decide, by decide, by decide, by decide, by decide, by decide, by decide⟩,
   ⟨{(o ptpOn [(0x2100,5,1)]) with clock.state := .locked, clock.gnssSet := true}, 0, 0, 1, own0, ⟨by decide, by decide⟩, by decide,
      by decide, by decide, by decide, by decide, by decide, by decide, by decide⟩,
   ⟨{ptpOn with clock.ptp := [{foreign := [([1,6,0,0,5,77], 99999999999)]}, {}]}, 0, 0, 1, own0, ⟨by decide, by decide⟩, by decide,
      by decide, by decide, by decide, by decide, by decide, by decide, by decide⟩,
   ⟨ptpOn, 0, 0, 1, ⟨3, false, false⟩, 9, true, 4, 5, ⟨by decide, by decide⟩, by decide, by decide, by decide, by decide, by decide,
      by decide, by decide⟩,
   ⟨(o mgr [(0x2111,1,1),(0x2111,0x0C,20)]), 0, 1, 8, false, (.sync 8 false), 1000, 5000, 7, by decide, by decide, by decide, by decide,
      by decide, by decide⟩,
   ⟨(o mgr [(0x2111,1,1),(0x2111,0x0C,20)]), 0, 1, 8, true, (.sync 8 true), 1000, 5000, 7, by decide, by decide, by decide, by decide,
      by decide, by decide⟩,
   ⟨(o mgr [(0x2111,1,1),(0x2111,0x0C,20)]), 0, 1, 8, true, .general, 1000, 5000, 7, by decide, by decide, by decide, by decide,
      by decide, by decide⟩⟩

/-- The hypotheses of PtpForward, TimeSecondsRead can be met. -/
theorem test_witness_TimeOutputs_2 :
    (∃ (s : State) (t inst n : Nat) (one : Bool) (kind : PtpFwd) (ingress egress corr r : Int), s.running = true ∧ s.power.portsOn =
      true ∧ inst < 2 ∧ s.clock.ptp.length = 2 ∧ s.obj (0x2110 + inst) 1 ≠ 0 ∧ kind = PtpFwd.followUp n ∧ (s.ptpInst inst).residence =
      [(one, n, r)]) ∧
    (∃ (s : State) (t : Nat) (c : Client) (via : OdVia), s.running = true ∧ s.power.portsOn = true ∧ ReadMet s t c via 0x2100 1) :=
  ⟨⟨{(o mgr [(0x2111,1,1),(0x2111,0x0C,20)]) with clock.ptp := [{}, {residence := [(true, 8, 90)]}]}, 0, 1, 8, true, (.followUp 8), 1000,
      5000, 7, 90, by decide, by decide, by decide, by decide, by decide, by decide, by decide⟩,
   ⟨mgr, 0, (.can 1), v0, by decide, by decide, trivial⟩⟩

/-- The hypotheses of FramingLock, FramingError, IfClockCheck, PortFault, PortRetry can be met. -/
theorem test_witness_IfPorts :
    (∃ (s : State) (t port : Nat) (frm : List Bool), s.Inv ∧ s.running = true ∧ port < 3 ∧ s.gnss.ports.length = 3 ∧ s.obj (0x3000 +
      port) 1 ≠ 0 ∧ s.bit (0x3000 + port) 8 4 = true ∧ (s.ifPort port).searching = true ∧ frm.length = 256 ∧ (fours frm).all framedOk =
      true) ∧
    (∃ (s : State) (t port n : Nat) (frm : List Bool), s.Inv ∧ s.running = true ∧ port < 3 ∧ s.gnss.ports.length = 3 ∧ s.bit (0x3000 +
      port) 8 2 = true ∧ framedOk frm = false ∧ (∀ (m : Nat), (s.ifPort port).lastErr = some m → m < n) ∧ s.obj (0x3000 + port) 9 <
      0xFFFFFFFF ∧ (s.ifPort port).lastErr = none) ∧
    (∃ (s : State) (t port n : Nat) (frm : List Bool) (m : Nat), s.Inv ∧ s.running = true ∧ port < 3 ∧ s.gnss.ports.length = 3 ∧ s.bit
      (0x3000 + port) 8 2 = true ∧ framedOk frm = false ∧ (∀ (m : Nat), (s.ifPort port).lastErr = some m → m < n) ∧ s.obj (0x3000 +
      port) 9 < 0xFFFFFFFF ∧ (s.ifPort port).lastErr = some m ∧ m + 1 = n ∧ 2 ≤ (s.ifPort port).errRun) ∧
    (∃ (s : State) (t port f n : Nat), s.Inv ∧ s.running = true ∧ port < 3 ∧ s.gnss.ports.length = 3 ∧ (((↑f : Int) - (↑(ifClockHz
      (s.nat (0x3000 + port) 2 % 4) * 1000) : Int)).natAbs * 1000000 ≤ 20 * (ifClockHz (s.nat (0x3000 + port) 2 % 4) * 1000) ∨ s.obj
      (0x3000 + port) 1 = 0)) ∧
    (∃ (s : State) (t port f n : Nat), s.Inv ∧ s.running = true ∧ port < 3 ∧ s.gnss.ports.length = 3 ∧ ¬((↑f : Int) - (↑(ifClockHz
      (s.nat (0x3000 + port) 2 % 4) * 1000) : Int)).natAbs * 1000000 ≤ 20 * (ifClockHz (s.nat (0x3000 + port) 2 % 4) * 1000) ∧ s.obj
      (0x3000 + port) 1 ≠ 0 ∧ s.bit (0x3000 + port) 8 3 = false) ∧
    (∃ (s : State) (t port : Nat) (cause : PortFaultCause), s.Inv ∧ s.running = true ∧ port < 3 ∧ s.gnss.ports.length = 3 ∧ s.obj
      (0x3000 + port) 1 ≠ 0 ∧ s.bit (0x3000 + port) 8 3 = false) ∧
    (∃ (s : State) (t port f : Nat), s.Inv ∧ s.running = true ∧ s.gnss.ports.length = 3 ∧ port < 3 ∧ (s.ifPort port).faultAt = some f ∧
      f + 1000000000 ≤ max s.now t) :=
  ⟨⟨{(o mgr [(0x3001,1,1),(0x3001,8,16)]) with gnss.ports := [{},{searching:=true},{}]}, 0, 1, frm1, ⟨by decide, by decide⟩, by decide,
      by decide, by decide, by decide, by decide, by decide, by decide, by decide⟩,
   ⟨(o mgr [(0x3002,8,4)]), 0, 2, 9, [true,true,false,false], ⟨by decide, by decide⟩, by decide, by decide, by decide, by decide,
      by decide, by decide, by decide, by decide⟩,
   ⟨{(o mgr [(0x3002,8,4)]) with gnss.ports := [{},{},{errRun:=2,lastErr:=some 8}]}, 0, 2, 9, [true,true,false,false], 8, ⟨by decide, by
      decide⟩, by decide, by decide, by decide, by decide, by decide, by decide, by decide, by decide, by decide, by decide⟩,
   ⟨(o mgr [(0x3000,1,1)]), 0, 0, 163683273600, 0, ⟨by decide, by decide⟩, by decide, by decide, by decide, by decide⟩,
   ⟨(o mgr [(0x3000,1,1)]), 0, 0, 163683273601, 0, ⟨by decide, by decide⟩, by decide, by decide, by decide, by decide, by decide,
      by decide⟩,
   ⟨(o mgr [(0x3002,1,2)]), 0, 2, .absent, ⟨by decide, by decide⟩, by decide, by decide, by decide, by decide, by decide⟩,
   ⟨{(o mgr [(0x3002,1,2),(0x3002,8,8)]) with gnss.ports := [{},{},{faultAt := some 99000000000}]}, 0, 2, 99000000000, ⟨by decide, by
      decide⟩, by decide, by decide, by decide, by decide, by decide⟩⟩

/-- The hypotheses of FrontendInit, StreamLevel, LaneCheckerLock can be met. -/
theorem test_witness_FrontEnds :
    (∃ (s : State) (t port : Nat), s.Inv ∧ s.running = true ∧ port < 3 ∧ s.gnss.ports.length = 3 ∧ s.power.resetsReleased = true ∧
      s.obj 0x3340 4 ≠ 1 ∧ (s.ifPort port).initPending = true) ∧
    (∃ (s : State) (t port stream : Nat) (counts : List Nat), s.Inv ∧ s.running = true ∧ port < 3 ∧ stream < 4 ∧ s.portTracks port =
      true ∧ s.bit (0x3000 + port) 3 stream = true ∧ s.bit (0x3000 + port) 8 2 = true ∧ List.foldl (fun (x1 x2 : Nat) => x1 + x2) 0
      counts ≠ 0) ∧
    (∃ (s : State) (t port lane : Nat) (bits : List Bool), s.Inv ∧ s.running = true ∧ port < 3 ∧ lane < 8 ∧ s.gnss.ports.length = 3 ∧
      (s.ifPort port).lanes.length = 8 ∧ s.obj (0x3000 + port) 1 = 2 ∧ s.obj (0x3000 + port) 0x0B + (↑((nth { } (s.ifPort port).lanes
      lane).run' bits).2 : Int) ≤ 0xFFFFFFFF) :=
  ⟨⟨(o mgr [(0x3002,1,1)]), 0, 2, ⟨by decide, by decide⟩, by decide, by decide, by decide, by decide, by decide, by decide⟩,
   ⟨(o gate1 [(0x3000,4,1)]), 0, 0, 0, [100,3], ⟨by decide, by decide⟩, by decide, by decide, by decide, by decide, by decide, by decide,
      by decide⟩,
   ⟨(o mgr [(0x3001,1,2)]), 0, 1, 7, [true,false,true], ⟨by decide, by decide⟩, by decide, by decide, by decide, by decide, by decide,
      by decide, by decide⟩⟩

/-- The hypotheses of ChannelAssign, ChannelRelease, AcqJobStart, AcqJobEnd, PullinTimeout, ReacqTimeout can be met. -/
theorem test_witness_ChannelLife :
    (∃ (s : State) (t port : Nat) (sky : List SatPrediction) (i : Nat) (k : Chan), s.Inv ∧ s.running = true ∧ port < 3 ∧ s.portTracks
      port = true ∧ s.bit (0x3000 + port) 8 2 = true ∧ s.obj 0x3340 4 ≠ 1 ∧ s.chan i = some k) ∧
    (∃ (s : State) (t port c : Nat) (el : Int) (bad : Bool), s.running = true ∧ port < 3 ∧ c < 128 ∧ (bad = true ∨ el ≤ 10 * s.obj
      (0x3000 + port) 6 - 20)) ∧
    (∃ (s : State) (t : Nat), s.running = true ∧ s.gnss.run = none ∧ s.gnss.queue ≠ [] ∧ (∀ q ∈ s.gnss.queue, (s.chan q.channel).isSome
      = true)) ∧
    (∃ (s : State) (t first last : Nat) (r : AcqRun) (capture : List (List IfSample)), s.Inv ∧ s.running = true ∧ s.gnss.run = some r ∧
      capture.length = r.blocks ∧ (∀ b ∈ capture, b.length = s.sampleHz r.port * r.tcohMs / 1000) ∧ first + r.blocks * (s.sampleHz
      r.port * r.tcohMs / 1000) ≤ last ∧ r.startAt + r.blocks * r.tcohMs * 1000000 ≤ max s.now t ∧ s.obj 0x3020 6 < 0xFFFFFFFF) ∧
    (∃ (s : State) (t port c : Nat) (k : Chan), s.Inv ∧ s.running = true ∧ s.chan (128 * port + c) = some k ∧ k.state =
      ChanState.pullin ∧ k.stateFrom + 200000000 ≤ max s.now t ∧ s.obj 0x3020 7 < 0xFFFFFFFF) ∧
    (∃ (s : State) (t port c : Nat) (k : Chan), s.running = true ∧ s.chan (128 * port + c) = some k ∧ k.state = ChanState.reacq ∧
      k.stateFrom + 1000000 * s.nat (0x3040 + k.signal) 0x0C ≤ max s.now t) :=
  ⟨⟨{gate1 with gnss.chans := [ch0], mram.kept := [(.position 100 1 2 3, 9)]}, 0, 0, [⟨gps1, 300, 40, 10⟩], 3, ch0, ⟨by decide, by
      decide⟩, by decide, by decide, by decide, by decide, by decide, by decide⟩,
   ⟨{mgr with gnss.chans := [ch0]}, 0, 0, 3, 500, true, by decide, by decide, by decide, by decide⟩,
   ⟨{gate1 with gnss.chans := [ch0], gnss.queue := [⟨.blind, 3⟩]}, 0, by decide, by decide, by decide, by decide⟩,
   ⟨{gate1 with gnss.chans := [ch0], gnss.run := some run0}, 0, 9, 9, run0, [], ⟨by decide, by decide⟩, by decide, by decide, by decide,
      by decide, by decide, by decide, by decide⟩,
   ⟨{mgr with gnss.chans := [ch0]}, 0, 0, 3, ch0, ⟨by decide, by decide⟩, by decide, by decide, by decide, by decide, by decide⟩,
   ⟨{mgr with gnss.chans := [{ch0 with state := .reacq}]}, 0, 0, 3, {ch0 with state := .reacq}, by decide, by decide, by decide,
      by decide⟩⟩

/-- The hypotheses of IntegrationDump, DetectorWindow can be met. -/
theorem test_witness_ChannelTracking :
    (∃ (s : State) (t port c : Nat) (samples : List IfSample) (nav : Option NavEvent) (k : Chan), s.running = true ∧ s.chan (128 * port
      + c) = some k ∧ (k.state = ChanState.pullin ∨ k.state = ChanState.fll ∨ k.state = ChanState.pll) ∧ k.endsAt samples.length
      (s.integrationPeriods k) = true) ∧
    (∃ (s : State) (t port c : Nat) (k : Chan) (w : WinSums), s.Inv ∧ s.running = true ∧ port < 3 ∧ c < 128 ∧ s.chan (128 * port + c) =
      some k ∧ k.full = some w) :=
  ⟨⟨{gate1 with gnss.chans := [ch1]}, 0, 0, 3, [smp], none, ch1, by decide, by decide, by decide, by decide +kernel⟩,
   ⟨{gate1 with gnss.chans := [{ch0 with full := some {dumps := 20, p2 := 4, diff := 3}}]}, 0, 0, 3,
      {ch0 with full := some {dumps := 20, p2 := 4, diff := 3}}, {dumps := 20, p2 := 4, diff := 3}, ⟨by decide, by decide⟩, by decide,
      by decide, by decide, by decide, by decide⟩⟩

/-- The hypotheses of MeasurementInstant, RecordReady, SolutionReady, AttitudeReady can be met. -/
theorem test_witness_GnssResults :
    (∃ (s : State) (t : Nat), s.running = true ∧ s.gsol.ratePending = none ∧ (s.at t).onGrid = true) ∧
    (∃ (s : State) (t : Nat), s.Inv ∧ s.running = true ∧ s.gsol.latched = true ∧ s.p1Works = true ∧ s.gsol.latchAt + 2000000 ≤ (s.at
      t).mt) ∧
    (∃ (s : State) (t which : Nat), s.Inv ∧ s.running = true ∧ which < 4 ∧ s.isManager = true ∧ s.gsol.latched = false ∧
      s.gsol.entriesAt ≠ 0 ∧ s.gsol.entriesAt + solutionDelay which ≤ (s.at t).mt ∧ s.gsol.formed.length = 6 ∧ nth none s.gsol.formed
      which ≠ some s.gsol.entriesAt) ∧
    (∃ (s : State) (t : Nat), s.Inv ∧ s.running = true ∧ s.obj 0x3328 9 = 1 ∧ s.gsol.latched = false ∧ s.gsol.entriesAt ≠ 0 ∧
      s.gsol.entriesAt + 8000000 ≤ (s.at t).mt ∧ s.gsol.formed.length = 6 ∧ nth none s.gsol.formed 4 ≠ some s.gsol.entriesAt) :=
  ⟨⟨{mgr with gnss.chans := [ch0]}, 0, by decide, by decide, by decide⟩,
   ⟨{mgr with gsol.latchAt := 99900000000, gsol.latched := true}, 0, ⟨by decide, by decide⟩, by decide, by decide, by decide, by decide⟩,
   ⟨{mgr with gsol.entriesAt := 99900000000}, 0, 3, ⟨by decide, by decide⟩, by decide, by decide, by decide, by decide, by decide,
      by decide, by decide, by decide⟩,
   ⟨{(o mgr [(0x3328,9,1)]) with gsol.entriesAt := 99900000000}, 0, ⟨by decide, by decide⟩, by decide, by decide, by decide, by decide,
      by decide, by decide, by decide⟩⟩

/-- The hypotheses of KeptDataWrite, KeptErase, HarbourWake, HarbourWakeEnd can be met. -/
theorem test_witness_KeptDataAndHarbour :
    (∃ (s : State) (t : Nat) (x : KeptItem), s.Inv ∧ s.running = true ∧ (∀ (a : Nat) (b c d : Int), x ≠ KeptItem.position a b c d)) ∧
    (∃ (s : State) (t : Nat) (x y : KeptItem), s.Inv ∧ s.running = true ∧ x ≠ y) ∧
    (∃ (s : State) (t : Nat), s.Inv ∧ s.running = true ∧ s.obj 0x3313 1 ≠ 0 ∧ (∀ (a : Nat), s.gsol.lastFixWrite = some a → a +
      60000000000 ≤ max s.now t)) ∧
    (∃ (s : State) (t : Nat) (c : Client) (via : OdVia) (r : OdRow), Goes (Instr.keptDataErase t c via) s t c 0x3330 8 (Val.num 1) r) ∧
    (∃ (s : State) (t : Nat), s.Inv ∧ s.running = true ∧ s.obj 0x3340 4 = 1 ∧ s.gsol.wakeFrom + 60000000000 * s.nat 0x3340 2 ≤ max
      s.now t) ∧
    (∃ (s : State) (t : Nat) (lacking : Bool), s.Inv ∧ s.running = true ∧ s.obj 0x3340 4 = 2 ∧ (s.gsol.wakeFrom + 1000000000 * s.nat
      0x3340 3 + if lacking = true then 60000000000 else 0) ≤ max s.now t) :=
  ⟨⟨mgr, 0, kal, ⟨by decide, by decide⟩, by decide, (by intro a b c d h; cases h)⟩,
   ⟨mgr, 0, kal, (.frequency 1 100 3), ⟨by decide, by decide⟩, by decide, by decide⟩,
   ⟨{(o mgr [(0x3313,1,3)]) with gsol.lastFixWrite := some 40000000000, mram.kept := [(.almanac 0 90 [], 1)]}, 0, ⟨by decide, by decide⟩,
      by decide, by decide, by decide⟩,
   ⟨{(eng mgr) with mram := {(eng mgr).mram with kept := [(.almanac 1 5 [], 1)]}}, 0, (.can 0), v0, (rw 0x3330 8), ⟨⟨by decide, by
      decide⟩, by decide, by decide, _, _, _, _, rfl, ⟨rfl, rfl, rfl⟩, ⟨by decide, by decide, fun _ => ⟨_, rfl⟩, by decide⟩⟩⟩,
   ⟨(o mgr [(0x3340,4,1),(0x3340,2,1)]), 0, ⟨by decide, by decide⟩, by decide, by decide, by decide⟩,
   ⟨{(o mgr [(0x3340,4,2),(0x3340,3,39)]) with gnss.chans := [ch0]}, 0, true, ⟨by decide, by decide⟩, by decide, by decide, by decide⟩⟩

/-- The hypotheses of SerialCharacter, PacketCommit, PacketDiscard, PacketGap, QueueRead, PacketConsume can be met. -/
theorem test_witness_SerialIntake :
    (∃ (s : State) (t port a b : Nat) (x : Byte) (err : Bool), s.Inv ∧ s.running = true ∧ s.power.portsOn = true ∧ port < 12 ∧ s.obj
      (0x4000 + port) 1 ≠ 0 ∧ s.obj (0x9214 + port) 1 ≠ 3 ∧ a ≤ 8 + 1000000000 / (16 * s.nat (0x4000 + port) 2) ∧ b ≤ 8 + 1000000000 /
      (16 * s.nat (0x4000 + port) 2) ∧ s.intake.serial.length = 12 ∧ s.obj (0x4000 + port) 1 = 1 ∧ (s.rx port).verdict = none ∧ (s.rx
      port).inPacket = false ∧ x = 36#8) ∧
    (∃ (s : State) (t port flags : Nat), s.Inv ∧ s.running = true ∧ s.power.portsOn = true ∧ port < 12 ∧ s.intake.serial.length = 12 ∧
      (s.rx port).verdict = some true ∧ (s.rx port).ignoring = false ∧ s.packetFlags port (s.rx port) = some flags) ∧
    (∃ (s : State) (t port : Nat), s.Inv ∧ s.running = true ∧ s.power.portsOn = true ∧ port < 12 ∧ s.intake.serial.length = 12 ∧ (s.rx
      port).verdict = some false ∧ (s.rx port).ignoring = false ∧ s.obj (0x4000 + port) 1 = 1 ∧ s.obj (0x4000 + port) 0x15 <
      0xFFFFFFFF) ∧
    (∃ (s : State) (t port : Nat), s.Inv ∧ s.running = true ∧ s.power.portsOn = true ∧ port < 12 ∧ s.intake.serial.length = 12 ∧ (s.rx
      port).verdict = none ∧ (s.rx port).inPacket = true ∧ (s.nat (0x4000 + port) 0x0A * 1000000000 < (max s.now t - (s.rx
      port).lastAt) * s.nat (0x4000 + port) 2 ∨ ∃ (f : RxChar), (s.rx port).chars.head? = some f ∧ 1000000000 < max s.now t - f.at') ∧
      s.obj (0x4000 + port) 1 = 1) ∧
    (∃ (s : State) (t port : Nat), s.running = true ∧ s.power.portsOn = true ∧ port < 12 ∧ s.intake.serial.length = 12) ∧
    (∃ (s : State) (t port : Nat) (k : PacketMark) (rest : List PacketMark) (d : Option Decoded), s.Inv ∧ s.running = true ∧
      s.power.portsOn = true ∧ port < 12 ∧ s.intake.serial.length = 12 ∧ (s.rx port).heldUntil ≤ max s.now t ∧ (s.rx port).packets = k
      :: rest) :=
  ⟨⟨(o mgr [(0x4002,1,1)]), 0, 2, 7, 8, 36#8, false, ⟨by decide, by decide⟩, by decide, by decide, by decide, by decide, by decide,
      by decide, by decide, by decide, by decide, by decide, by decide, by decide⟩,
   ⟨(port (o mgr [(0x4002,1,1)]) 2 {chars := sentence, inPacket := true, verdict := some true}), 0, 2, 0, ⟨by decide, by decide⟩,
      by decide, by decide, by decide, by decide, by decide, by decide, by decide⟩,
   ⟨(port (o mgr [(0x4002,1,1)]) 2 {chars := sentence, inPacket := true, verdict := some false}), 0, 2, ⟨by decide, by decide⟩, by decide,
      by decide, by decide, by decide, by decide, by decide, by decide, by decide⟩,
   ⟨(port (o mgr [(0x4002,1,1)]) 2 {chars := sentence, inPacket := true, lastAt := 99000000000}), 100000000001, 2, ⟨by decide, by decide⟩,
      by decide, by decide, by decide, by decide, by decide, by decide, by decide, by decide⟩,
   ⟨mgr, 0, 11, by decide, by decide, by decide, by decide⟩,
   ⟨(port (o mgr [(0x4002,1,1)]) 2 {words := [5,6,7], packets := [⟨2, 5, 0, 0⟩, ⟨1, 6, 0, 0⟩], notices := 2}), 0, 2, ⟨2, 5, 0, 0⟩, [⟨1, 6,
      0, 0⟩], none, ⟨by decide, by decide⟩, by decide, by decide, by decide, by decide, by decide, by decide⟩⟩

/-- The hypotheses of ChainOutput, ChainClockWindow, ChainClockLoss can be met. -/
theorem test_witness_Chains :
    (∃ (s : State) (t chain input : Nat) (edges : List SdEdge) (k' : Chain) (o : ChainOut), s.Inv ∧ s.running = true ∧ chain < 24 ∧
      s.intake.chains.length = 24 ∧ s.obj (0x4040 + chain) 1 ≠ 0 ∧ s.nat (0x4040 + chain) 2 = input ∧ (s.chain chain).inRange = true ∧
      Chain.feed (s.nat (0x4040 + chain) 4) (s.nat (0x4040 + chain) 5) (s.nat (0x4040 + chain) 6) (s.nat (0x4040 + chain) 7) (s.nat
      (0x4040 + chain) 8) (s.chain chain) (List.filter (fun (e : SdEdge) => decide (e.rising = decide (s.obj (0x4040 + chain) 3 = 0)))
      edges) = (k', [o]) ∧ o.ago ≤ 400 ∧ settleCic (s.nat (0x4040 + chain) 4) (s.nat (0x4040 + chain) 7) ≤ o.cic) ∧
    (∃ (s : State) (t chain edges : Nat), s.Inv ∧ s.running = true ∧ chain < 24 ∧ s.intake.chains.length = 24 ∧ (s.chain chain).window
      ≠ some ((s.at t).mt / 100000)) ∧
    (∃ (s : State) (t chain silent : Nat), s.Inv ∧ s.running = true ∧ chain < 24 ∧ s.intake.chains.length = 24 ∧ 1000 ≤ silent ∧ 1000 ≤
      max s.now t - (s.chain chain).lastEdge) :=
  ⟨⟨feedT, 0, 3, 3, (sde 64), (Chain.feed 3 64 0 3 0 (feedT.chain 3) (sde 64)).1, ((Chain.feed 3 64 0 3 0 (feedT.chain 3) (sde
      64)).2.headD ⟨0, 0, 0⟩), ⟨by decide, by decide⟩, by decide, by decide, by decide, by decide, by decide, by decide, rfl,
      by decide, by decide⟩,
   ⟨mgr, 0, 0, 2051, ⟨by decide, by decide⟩, by decide, by decide, by decide, by decide⟩,
   ⟨(chn (o mgr [(0x4043,1,1),(0x4043,0x10,13)]) 3 {inRange := true}), 0, 3, 1000, ⟨by decide, by decide⟩, by decide, by decide,
      by decide, by decide, by decide⟩⟩

/-- The hypotheses of SourceExclusion, WarmStateWrite, TrackProcessing, TrackTimeout can be met. -/
theorem test_witness_AlignmentAndTracks :
    (∃ (s : State) (t source f : Nat), s.Inv ∧ s.running = true ∧ source < 22 ∧ s.align.sources.length = 22 ∧ s.obj (0x4120 + source) 6
      = 4 ∧ (s.src source).suspectFrom = some f ∧ f + 30000000000 ≤ max s.now t) ∧
    (∃ (s : State) (t : Nat), s.running = true ∧ s.isManager = true ∧ s.power.stage = Stage.ready ∧ s.est.x.length = estStates ∧
      s.est.lastWarm + 10000000000 ≤ (s.at t).mt) ∧
    (∃ (s : State) (t : Nat), s.Inv ∧ s.running = true ∧ s.isManager = true ∧ s.pair.setAgreed = true ∧ s.align.frozen = true ∧
      s.trk.doneFor < s.align.snap.t0) ∧
    (∃ (s : State) (t track : Nat), s.Inv ∧ s.running = true ∧ track < 64 ∧ 2 ≤ s.obj (trackObj track) 1 ∧ 10000000000 ≤
      s.align.snap.t0 - (s.track track).lastHit) :=
  ⟨⟨{(o mgr [(0x4123,6,4)]) with align.sources := List.replicate 22 {suspectFrom := some 70000000000}}, 0, 3, 70000000000, ⟨by decide, by
      decide⟩, by decide, by decide, by decide, by decide, by decide, by decide⟩,
   ⟨{mgr with est.x := (List.range 66).map (fun (n:Nat) => (n:Rat)), mram.warm := [⟨1,[],[]⟩, ⟨2,[],[]⟩]}, 0, by decide, by decide,
      by decide, by decide, by decide⟩,
   ⟨{mgr with pair.setAgreed := true, align.frozen := true, align.snap := {t0 := 5}}, 0, ⟨by decide, by decide⟩, by decide, by decide,
      by decide, by decide, by decide⟩,
   ⟨{(o mgr [(0x4315,1,3)]) with align.snap := {t0 := 10000000000}}, 0, 5, ⟨by decide, by decide⟩, by decide, by decide, by decide,
      by decide⟩⟩

/-- The hypotheses of CycleBoundary, SampleBoundary, EngineStart, CapstanStart, PbtripChange can be met. -/
theorem test_witness_CycleGrid :
    (∃ (s : State) (t : Nat), s.running = true ∧ s.isManager = true ∧ s.power.stage = Stage.ready ∧ (s.ctl.cycling = true →
      s.ctl.gridAt < (↑(s.at t).mt : Int) / (↑s.tcNs : Int) * (↑s.tcNs : Int))) ∧
    (∃ (s : State) (t : Nat), s.running = true ∧ s.isManager = false ∧ s.power.stage = Stage.ready ∧ (s.srv.sampling = true →
      s.srv.gridAt < (↑(s.at t).mt : Int) / (↑(tsNs (s.obj 0x6000 1)) : Int) * (↑(tsNs (s.obj 0x6000 1)) : Int))) ∧
    (∃ (s : State) (t : Nat), s.Inv ∧ s.running = true ∧ s.isManager = true ∧ s.ctl.cycling = true ∧ s.ctl.supervised = true ∧
      s.ctl.demanded = false ∧ (s.mode = 1 ∨ s.mode = 7)) ∧
    (∃ (s : State) (t : Nat), s.Inv ∧ s.running = true ∧ s.isManager = true ∧ s.ctl.cycling = true ∧ s.ctl.allocated = false ∧ s.ctl.t0
      + 600000 ≤ (↑(s.at t).mt : Int)) ∧
    (∃ (s : State) (t bus held : Nat) (on : Bool), s.running = true ∧ s.isManager = true ∧ bus < 8 ∧ s.alc.level.length = 8 ∧ 1000000 ≤
      held) :=
  ⟨⟨mgr, 0, by decide, by decide, by decide, by decide⟩,
   ⟨wkr, 0, by decide, by decide, by decide, by decide⟩,
   ⟨{mgr with ctl.cycling := true, ctl.worked := true, ctl.supervised := true, ctl.demand := [1,2,3]}, 0, ⟨by decide, by decide⟩,
      by decide, by decide, by decide, by decide, by decide, by decide⟩,
   ⟨{mgr with ctl.cycling := true, ctl.worked := true}, 0, ⟨by decide, by decide⟩, by decide, by decide, by decide, by decide, by decide⟩,
   ⟨mgr, 0, 7, 1000000, false, by decide, by decide, by decide, by decide, by decide⟩⟩

/-- The hypotheses of GateOpens can be met. -/
theorem test_witness_GateOpens :
    (∃ (s : State) (t stamp n : Nat) (v : Int), s.Inv ∧ s.running = true ∧ s.isManager = true ∧ s.power.stage = Stage.ready ∧ s.role =
      PairRole.offline ∧ s.ctl.cycling = false ∧ s.pair.drillPlaced = false ∧ (∀ k ∈ s.dict.clients, k.waiting = []) ∧ s.held =
      [{ key := okey 0x5130 1, val := Val.num v, stamp := stamp, session := n }]) ∧
    (∃ (s : State) (t stamp n : Nat), s.Inv ∧ s.running = true ∧ s.isManager = true ∧ s.power.stage = Stage.ready ∧ s.role =
      PairRole.offline ∧ s.ctl.cycling = false ∧ s.pair.drillPlaced = false ∧ (∀ k ∈ s.dict.clients, k.waiting = []) ∧ s.held =
      [{ key := okey 0x5038 2, val := Val.num 1, stamp := stamp, session := n }]) ∧
    (∃ (s : State) (t stamp n p : Nat), s.Inv ∧ s.running = true ∧ s.isManager = true ∧ s.power.stage = Stage.ready ∧ s.role =
      PairRole.offline ∧ s.ctl.cycling = false ∧ s.pair.drillPlaced = false ∧ (∀ k ∈ s.dict.clients, k.waiting = []) ∧ p < 4 ∧
      s.dict.storeJob = none ∧ s.held = [{ key := okey 0x1010 p, val := Val.num 0x65766173, stamp := stamp, session := n }]) ∧
    (∃ (s : State) (t stamp n : Nat) (b : List Byte), s.Inv ∧ s.running = true ∧ s.isManager = true ∧ s.power.stage = Stage.ready ∧
      s.role = PairRole.offline ∧ s.ctl.cycling = false ∧ s.pair.drillPlaced = false ∧ (∀ k ∈ s.dict.clients, k.waiting = []) ∧ s.held
      = [{ key := okey 0x1E20 9, val := Val.bytes b, stamp := stamp, session := n }]) ∧
    (∃ (s : State) (t stamp n : Nat), s.Inv ∧ s.running = true ∧ s.isManager = true ∧ s.power.stage = Stage.ready ∧ s.role =
      PairRole.offline ∧ s.ctl.cycling = false ∧ s.pair.drillPlaced = false ∧ (∀ k ∈ s.dict.clients, k.waiting = []) ∧
      s.recorder.sealState = 0 ∧ s.held = [{ key := okey 0x9001 2, val := Val.num 0x6C616573, stamp := stamp, session := n }]) :=
  ⟨⟨{mgr with held := [{ key := okey 0x5130 1, val := .num 1, stamp := 5, session := 2 }]}, 0, 5, 2, 1, ⟨by decide, by decide⟩, by decide,
      by decide, by decide, by decide, by decide, by decide, by decide, by decide⟩,
   ⟨{(o mgr [(0x5038,3,7),(0x5038,2,1)]) with held := [{ key := okey 0x5038 2, val := .num 1, stamp := 5, session := 2 }]}, 0, 5, 2, ⟨by
      decide, by decide⟩, by decide, by decide, by decide, by decide, by decide, by decide, by decide, by decide⟩,
   ⟨{mgr with held := [{ key := okey 0x1010 3, val := .num 0x65766173, stamp := 5, session := 2 }]}, 0, 5, 2, 3, ⟨by decide, by decide⟩,
      by decide, by decide, by decide, by decide, by decide, by decide, by decide, by decide, by decide, by decide⟩,
   ⟨{mgr with held := [{ key := okey 0x1E20 9, val := .bytes [1], stamp := 5, session := 2 }]}, 0, 5, 2, [1], ⟨by decide, by decide⟩,
      by decide, by decide, by decide, by decide, by decide, by decide, by decide, by decide⟩,
   ⟨{mgr with held := [{ key := okey 0x9001 2, val := .num 0x6C616573, stamp := 5, session := 2 }]}, 0, 5, 2, ⟨by decide, by decide⟩,
      by decide, by decide, by decide, by decide, by decide, by decide, by decide, by decide, by decide⟩⟩

/-- The hypotheses of ModeSupervision, ModeRequest, DisengageRequest, BollardRequest can be met. -/
theorem test_witness_ControlModes :
    (∃ (s : State) (t : Nat), s.Inv ∧ s.running = true ∧ (s.at t).mayDoSupervision = true ∧ s.workDue = false ∧ s.bollardDemand = false
      ∧ s.obj 0x5010 1 ≠ 7 ∧ 3 ≤ s.mode ∧ s.mode ≤ 6 ∧ s.valid 0 = false) ∧
    (∃ (s : State) (t m : Nat), s.Inv ∧ s.running = true ∧ (s.at t).mayDoSupervision = true ∧ s.workDue = false ∧ Undisturbed s ∧ s.obj
      0x5010 1 = (↑m : Int) ∧ 2 ≤ m ∧ m ≤ 6 ∧ (supervising s t).refusal m = none ∧ (m ≠ s.mode → ((supervising s t).candidate
      m).withinTolerance s.ctl.demand = true)) ∧
    (∃ (s : State) (t : Nat), s.Inv ∧ s.running = true ∧ (s.at t).mayDoSupervision = true ∧ s.workDue = false ∧ Undisturbed s ∧ s.mode
      ≠ 1 ∧ s.obj 0x5010 1 = 1) ∧
    (∃ (s : State) (t : Nat), s.Inv ∧ s.running = true ∧ (s.at t).mayDoSupervision = true ∧ s.workDue = false ∧ s.bollardDemand = false
      ∧ s.mode ≠ 7 ∧ s.obj 0x5010 1 = 7) :=
  ⟨⟨{(o mgr [(0x5000,1,3)]) with ctl.cycling := true, ctl.worked := true}, 0, ⟨by decide, by decide⟩, by decide, by decide, by decide,
      by decide, by decide, by decide, by decide, by decide⟩,
   ⟨{(o mgr [(0x5000,1,2),(0x5010,1,2)]) with ctl.cycling := true, ctl.worked := true}, 0, 2, ⟨by decide, by decide⟩, by decide,
      by decide, by decide, ⟨by decide, by decide⟩, by decide, by decide, by decide, by decide, by decide⟩,
   ⟨{(o mgr [(0x5000,1,2),(0x5010,1,1)]) with ctl.cycling := true, ctl.worked := true}, 0, ⟨by decide, by decide⟩, by decide, by decide,
      by decide, ⟨by decide, by decide⟩, by decide, by decide⟩,
   ⟨{(o mgr [(0x5000,1,2),(0x5010,1,7)]) with ctl.cycling := true, ctl.worked := true}, 0, ⟨by decide, by decide⟩, by decide, by decide,
      by decide, by decide, by decide, by decide⟩⟩

/-- The hypotheses of RingFrameStart, RingPacketForward, CommandSectionRx, CommandSectionReturn, FeedbackPacketPass, FeedbackPacketReturn can be met. -/
theorem test_witness_RingFrames :
    (∃ (s : State) (t : Nat), s.Inv ∧ s.running = true ∧ s.originates = true ∧ s.ctl.cycling = true ∧ nextFrame s ≤ (↑(s.at t).mt :
      Int) ∧ (∀ (q : Nat), nth false s.diagn.wyCrc q = false)) ∧
    (∃ (s : State) (t port : Nat) (pkt : List Byte) (twin : Twin), s.Inv ∧ s.running = true ∧ s.power.portsOn = true ∧ port < 2 ∧
      s.underTest (2 + port) = false ∧ (Seen s t).removes pkt twin = false ∧ (∀ (q : Nat), nth false s.diagn.wyCrc q = false) ∧ s.obj
      (0x8110 + port) 3 + (↑(passed s t pkt).2.1 : Int) ≤ 0xFFFFFFFF) ∧
    (∃ (s : State) (t port sub : Nat) (pkt : List Byte) (sec : CmdSection), s.Inv ∧ s.running = true ∧ s.power.portsOn = true ∧ port <
      2 ∧ s.underTest (2 + port) = false ∧ s.originates = false ∧ s.ring.ports.length = 2 ∧ readCommand pkt = some sec ∧ (∀ (f : Nat)
      (a : Int), (s.ringPort port).stamp = some (f, a) → f ≠ sec.frame)) ∧
    (∃ (s : State) (t ringNo sub : Nat) (b : List Byte) (c : CmdSection), s.Inv ∧ s.running = true ∧ s.originates = true ∧ ringNo < 2 ∧
      readCommand b = some c ∧ c.frame = s.nat 0x8100 2 ∧ c.twin = s.ident.twin ∧ (s.at t).mtPs - (↑sub : Int) - s.ring.start * 1000 ≤
      500000000) ∧
    (∃ (s : State) (t ringNo sub : Nat), s.Inv ∧ s.running = true ∧ s.originates = true ∧ ringNo < 2 ∧ 500000000 ≤ (s.at t).mtPs -
      (↑sub : Int) - s.ring.start * 1000) ∧
    (∃ (s : State) (t port : Nat) (pkt : List Byte) (twin : Twin), s.Inv ∧ s.running = true ∧ s.power.portsOn = true ∧ port < 2 ∧
      s.underTest (2 + port) = false ∧ s.originates = false ∧ feedbackIntact pkt = true ∧ (Seen s t).removes pkt twin = false ∧
      s.ownSlot < 66 ∧ (∀ (q : Nat), nth false s.diagn.wyCrc q = false) ∧ ((field (slotBytes pkt s.ownSlot) 0 1 = 0 ∨ field (slotBytes
      pkt s.ownSlot) 4 4 = s.serial) ∧ s.ring.isOwner ≠ some false)) ∧
    (∃ (s : State) (t port : Nat) (pkt : List Byte) (twin : Twin), s.Inv ∧ s.running = true ∧ s.power.portsOn = true ∧ port < 2 ∧
      s.underTest (2 + port) = false ∧ s.originates = false ∧ feedbackIntact pkt = true ∧ (Seen s t).removes pkt twin = false ∧
      s.ownSlot < 66 ∧ (∀ (q : Nat), nth false s.diagn.wyCrc q = false) ∧ ¬((field (slotBytes pkt s.ownSlot) 0 1 = 0 ∨ field (slotBytes
      pkt s.ownSlot) 4 4 = s.serial) ∧ s.ring.isOwner ≠ some false)) ∧
    (∃ (s : State) (t ringNo : Nat) (pkt : List Byte), s.Inv ∧ s.running = true ∧ s.originates = true ∧ ringNo < 2 ∧ feedbackIntact pkt
      = true ∧ s.ring.slots.length = 66) :=
  ⟨⟨{act with ctl.cycling := true}, 0, ⟨by decide, by decide⟩, by decide, by decide, by decide, by decide,
      (by intro q; match q with | 0 => rfl | 1 => rfl | _ + 2 => rfl)⟩,
   ⟨wkr, 0, 1, sec0.bytes, .a, ⟨by decide, by decide⟩, by decide, by decide, by decide, by decide, by decide,
      (by intro q; match q with | 0 => rfl | 1 => rfl | _ + 2 => rfl), by decide +kernel⟩,
   ⟨wkr, 0, 1, 50, sec0.bytes, sec0, ⟨by decide, by decide⟩, by decide, by decide, by decide, by decide, by decide, by decide,
      by decide +kernel, (by intro q x h; cases h)⟩,
   ⟨{(o act [(0x8100,2,9)]) with ring.start := 99999990000}, 0, 0, 50, sec0.bytes, sec0, ⟨by decide, by decide⟩, by decide, by decide,
      by decide, by decide +kernel, by decide, by decide, by decide⟩,
   ⟨{(o act [(0x8100,2,9)]) with ring.start := 99999000000}, 0, 1, 50, ⟨by decide, by decide⟩, by decide, by decide, by decide, by decide⟩,
   ⟨wkr, 0, 1, (blankFeedback 8), .a, ⟨by decide, by decide⟩, by decide, by decide, by decide, by decide, by decide, by decide +kernel,
      by decide, by decide, (by intro q; match q with | 0 => rfl | 1 => rfl | _ + 2 => rfl), by decide⟩,
   ⟨wkr, 0, 1, (fbWith [sl 6]), .a, ⟨by decide, by decide⟩, by decide, by decide, by decide, by decide, by decide, by decide +kernel,
      by decide, by decide, (by intro q; match q with | 0 => rfl | 1 => rfl | _ + 2 => rfl), by decide⟩,
   ⟨act, 0, 0, (fbWith [sl 3, sl 65, sl 2]), ⟨by decide, by decide⟩, by decide, by decide, by decide, by decide +kernel, by decide⟩⟩

/-- The hypotheses of SyncPacketRx, RingTimeLoss, OwnerExpiry, RingLinkDown, RingUnwrap, ContainerPass can be met. -/
theorem test_witness_RingState :
    (∃ (s : State) (t port : Nat) (b : List Byte) (pkt : SyncPacket) (x y : Int), s.Inv ∧ s.running = true ∧ s.power.portsOn = true ∧
      port < 2 ∧ s.ring.ports.length = 2 ∧ s.underTest (2 + port) = false ∧ s.originates = false ∧ readSync b = some pkt ∧
      pkt.ringState = 1 ∧ pkt.d1 ≠ 0xFFFFFFFF ∧ pkt.d2 ≠ 0xFFFFFFFF ∧ (s.ringPort 1).stamp = some (pkt.frame, x) ∧ (s.ringPort 0).stamp
      = some (pkt.frame, y) ∧ pkt.timeState ≠ 0 ∧ pkt.stepNs = 0 ∧ s.clock.state ≠ TimeState.holdover ∧ s.clock.state ≠ TimeState.unset
      ∧ s.followsTwin = false ∧ (s.isManager = false ∨ s.linkUp = false)) ∧
    (∃ (s : State) (t : Nat), s.Inv ∧ s.running = true ∧ s.clock.state = TimeState.following ∧ s.followsTwin = false ∧ (∀ p < 2, ∀ l ∈
      (s.ringPort p).lastSync, 10000000 ≤ max s.now t - l) ∧ (s.isManager = false ∨ s.linkUp = false)) ∧
    (∃ (s : State) (t pair : Nat), s.running = true ∧ s.originates = true ∧ pair < 32 ∧ s.ring.owners.length = 32 ∧ (nth { }
      s.ring.owners pair).lastSeen + 1000000000 ≤ max s.now t) ∧
    (∃ (s : State) (t port held : Nat) (cause : LinkCause), s.Inv ∧ s.running = true ∧ s.power.portsOn = true ∧ port < 2 ∧
      s.ring.ports.length = 2 ∧ (s.ringPort port).down = false ∧ (cause = LinkCause.los → 10000 ≤ held) ∧ (cause = LinkCause.silence →
      (∀ (l : Nat), (s.ringPort port).lastPacket = some l → 2000000 ≤ max s.now t - l) ∧ ((s.ringPort port).lastPacket = none →
      s.power.origin + 37000000 ≤ max s.now t)) ∧ s.obj (0x8110 + port) 5 < 0xFFFFFFFF) ∧
    (∃ (s : State) (t port : Nat), s.Inv ∧ s.running = true ∧ s.power.portsOn = true ∧ port < 2 ∧ s.ring.ports.length = 2 ∧ (s.ringPort
      port).wrapped = true ∧ 100 ≤ (s.ringPort port).intactRun ∧ s.underTest (2 + port) = false ∧ (Seen s t).inGuard = true) ∧
    (∃ (s : State) (t port : Nat) (pkt : List Byte) (twin : Twin) (c : Container) (d : Nat) (b : List Byte) (rest : List (Nat × List
      Byte)), s.Inv ∧ s.running = true ∧ s.power.portsOn = true ∧ port < 2 ∧ s.underTest (2 + port) = false ∧ field pkt 0 1 = 0xA4 ∧
      readContainer pkt = some c ∧ c.slot = s.ownSlot ∧ c.filled = false ∧ s.originates = false ∧ s.ring.queue = (d, b) :: rest ∧ (∀ (f
      : Nat) (x : Container), s.ring.filledNow = some (f, x) → f ≠ s.nat 0x8100 2)) ∧
    (∃ (s : State) (t port : Nat) (pkt : List Byte) (twin : Twin) (c : Container), s.Inv ∧ s.running = true ∧ s.power.portsOn = true ∧
      port < 2 ∧ s.underTest (2 + port) = false ∧ field pkt 0 1 = 0xA4 ∧ readContainer pkt = some c ∧ c.filled = true ∧ (c.dest =
      s.ownSlot ∨ c.dest = 0xFF) ∧ c.slot ≠ s.ownSlot ∧ c.kind = 1 ∧ (s.ring.readNow.1 = s.nat 0x8100 2 → c.slot ∉ s.ring.readNow.2)) ∧
    (∃ (s : State) (t port : Nat) (pkt : List Byte) (twin : Twin) (c : Container), s.Inv ∧ s.running = true ∧ s.power.portsOn = true ∧
      port < 2 ∧ s.underTest (2 + port) = false ∧ field pkt 0 1 = 0xA4 ∧ readContainer pkt = some c ∧ c.slot ≠ s.ownSlot ∧ c.dest ≠
      s.ownSlot ∧ c.dest ≠ 0xFF ∧ (Seen s t).removes pkt twin = false) :=
  ⟨⟨(stamped wkr), 0, 1, pkt.bytes, pkt, 4000000, 3000000, ⟨by decide, by decide⟩, by decide, by decide, by decide, by decide, by decide,
      by decide, by decide +kernel, by decide, by decide, by decide, by decide, by decide, by decide, by decide, by decide, by decide,
      by decide, by decide⟩,
   ⟨{wkr with clock.state := .following}, 0, ⟨by decide, by decide⟩, by decide, by decide, by decide, by decide, by decide⟩,
   ⟨act, 0, 31, by decide, by decide, by decide, by decide, by decide⟩,
   ⟨wkr, 0, 1, 10000, .los, ⟨by decide, by decide⟩, by decide, by decide, by decide, by decide, by decide, by decide, by decide,
      by decide⟩,
   ⟨{(o wkr [(0x8111,1,9)]) with ring.ports := [{},{wrapped := true, down := true, intactRun := 100}], ring.start := (wkr.at 0).mt - 995000},
      0, 1, ⟨by decide, by decide⟩, by decide, by decide, by decide, by decide, by decide, by decide, by decide, by decide⟩,
   ⟨{wkr with ring.queue := [(5,List.replicate 64 1#8),(6,[2#8])]}, 0, 1, (box 6 1 false 0 0 []).bytes, .a, (box 6 1 false 0 0 []), 5,
      (List.replicate 64 1#8), [(6,[2#8])], ⟨by decide, by decide⟩, by decide, by decide, by decide, by decide, by decide,
      by decide +kernel, by decide, by decide, by decide, by decide, (by intro q x h; cases h)⟩,
   ⟨wkr, 0, 1, (box 9 1 true 6 1 [4#8]).bytes, .a, (box 9 1 true 6 1 [4#8]), ⟨by decide, by decide⟩, by decide, by decide, by decide,
      by decide, by decide, by decide +kernel, by decide, by decide, by decide, by decide, by decide⟩,
   ⟨wkr, 0, 1, (box 9 1 true 5 1 [4#8]).bytes, .a, (box 9 1 true 5 1 [4#8]), ⟨by decide, by decide⟩, by decide, by decide, by decide,
      by decide, by decide, by decide +kernel, by decide, by decide, by decide, by decide⟩⟩

/-- The hypotheses of SsiBurst, ThrusterTimeouts, DrvfbChange, DacFrame can be met. -/
theorem test_witness_WorkerServo :
    (∃ (s : State) (t e word : Nat) (low : Bool), s.Inv ∧ s.running = true ∧ s.isManager = false ∧ e < 4 ∧ s.srv.enc.length = 4 ∧ s.obj
      (0x6020 + e) 1 = 1 ∧ s.role = PairRole.active ∧ s.obj (0x6020 + e) 9 < 0xFFFFFFFF ∧ (Seen s t).leadCome e = true ∧ (nth { }
      s.srv.enc e).done = false) ∧
    (∃ (s : State) (t j : Nat), s.Inv ∧ s.running = true ∧ s.isManager = false ∧ j < 2 ∧ s.srv.thr.length = 2 ∧ (Seen s t).sampleDue =
      true ∧ (s.thr j).stepped = false ∧ s.obj (0x6010 + j) 2 ≠ 0 ∧ (Seen s t).sfaActs j = false ∧ s.thrState j = 2 ∧ (s.thr j).lasted
      (max s.now t) (s.nat (0x6010 + j) 0x12) = true) ∧
    (∃ (s : State) (t j : Nat), s.Inv ∧ s.running = true ∧ s.isManager = false ∧ j < 2 ∧ s.srv.thr.length = 2 ∧ (Seen s t).sampleDue =
      true ∧ (s.thr j).stepped = false ∧ s.obj (0x6010 + j) 2 ≠ 0 ∧ (Seen s t).sfaActs j = false ∧ 3 ≤ s.thrState j ∧ s.thrState j ≤ 6
      ∧ (s.thr j).dropped (max s.now t) (s.nat (0x6010 + j) 0x13) = true) ∧
    (∃ (s : State) (t j : Nat), s.Inv ∧ s.running = true ∧ s.isManager = false ∧ j < 2 ∧ s.srv.thr.length = 2 ∧ (Seen s t).sampleDue =
      true ∧ (s.thr j).stepped = false ∧ s.obj (0x6010 + j) 2 ≠ 0 ∧ (Seen s t).sfaActs j = false ∧ s.thrState j = 5 ∧ (s.thr j).lasted
      (max s.now t) (s.nat 0x6000 2) = true ∧ (s.thr j).dropped (max s.now t) (s.nat (0x6010 + j) 0x13) = false) ∧
    (∃ (s : State) (t j : Nat), s.Inv ∧ s.running = true ∧ s.isManager = false ∧ j < 2 ∧ s.srv.thr.length = 2 ∧ (Seen s t).sampleDue =
      true ∧ (s.thr j).stepped = false ∧ s.obj (0x6010 + j) 2 ≠ 0 ∧ (Seen s t).sfaActs j = false ∧ (s.thrState j = 4 ∧ (Seen s
      t).entryFresh = true ∧ s.newestAllocated j = false ∨ s.thrState j = 6 ∧ (Seen s t).entryFresh = false) ∧ (s.thr j).zeroed (max
      s.now t) (s.nat (0x6010 + j) 0x14) = true ∧ (s.thr j).dropped (max s.now t) (s.nat (0x6010 + j) 0x13) = false) ∧
    (∃ (s : State) (t j held : Nat) (e : Bool), s.running = true ∧ s.isManager = false ∧ j < 2 ∧ s.srv.ownFb.length = 2 ∧ 200000 ≤
      held) ∧
    (∃ (s : State) (t : Nat), s.Inv ∧ s.running = true ∧ s.isManager = false ∧ s.srv.thr.length = 2 ∧ s.srv.framesDue = true ∧ s.role =
      PairRole.active ∧ s.srv.sampleAt + (↑(tsNs (s.obj 0x6000 1) / 8) : Int) ≤ (↑(s.at t).mt : Int)) :=
  ⟨⟨(enc (o actW [(0x6021,1,1)]) {}), 0, 1, 1000, true, ⟨by decide, by decide⟩, by decide, by decide, by decide, by decide, by decide,
      by decide, by decide, by decide, by decide⟩,
   ⟨(due (o wkr [(0x6011,2,1),(0x6081,1,2)]) {}), 0, 1, ⟨by decide, by decide⟩, by decide, by decide, by decide, by decide, by decide,
      by decide, by decide, by decide, by decide, by decide⟩,
   ⟨(due (o wkr [(0x6011,2,1),(0x6081,1,4)]) {lowFrom := some 5, zeroFrom := some 7}), 0, 1, ⟨by decide, by decide⟩, by decide, by decide,
      by decide, by decide, by decide, by decide, by decide, by decide, by decide, by decide, by decide⟩,
   ⟨(due (o wkr [(0x6011,2,1),(0x6081,1,5)]) {drvfb := true, ys := 9}), 0, 1, ⟨by decide, by decide⟩, by decide, by decide, by decide,
      by decide, by decide, by decide, by decide, by decide, by decide, by decide, by decide⟩,
   ⟨(due (o wkr [(0x6011,2,1),(0x6081,1,6)]) {drvfb := true, zeroFrom := some 7}), 0, 1, ⟨by decide, by decide⟩, by decide, by decide,
      by decide, by decide, by decide, by decide, by decide, by decide, by decide, by decide, by decide⟩,
   ⟨actW, 0, 1, 200000, true, by decide, by decide, by decide, by decide, by decide⟩,
   ⟨{(o actW [(0x6080,1,3),(0x6050,1,2)]) with srv.framesDue := true, srv.sampleAt := 99000000000}, 0, ⟨by decide, by decide⟩, by decide,
      by decide, by decide, by decide, by decide, by decide⟩⟩

/-- The hypotheses of SafeInputChange, SfaDiscrepancy, SfaResetPulse, TestPulse, TestFrameCheck, SsOverload, SsRetry can be met. -/
theorem test_witness_SafeInputs :
    (∃ (s : State) (t i held : Nat) (e : Bool), s.Inv ∧ s.running = true ∧ s.power.portsOn = true ∧ i < 16 ∧ (Seen s t).pulsing i =
      false ∧ s.nat (0x7040 + i) 2 * 1000 ≤ held) ∧
    (∃ (s : State) (t j f : Nat), s.Inv ∧ s.running = true ∧ s.power.portsOn = true ∧ j < 2 ∧ s.saf.stops.length = 2 ∧ s.sfaOn j = true
      ∧ s.obj (0x7010 + j) 3 ≠ 255 ∧ s.power.safetyTested = true ∧ (nth { } s.saf.stops j).differFrom = some f ∧ f + s.nat (0x7010 + j)
      4 * 1000000 < max s.now t) ∧
    (∃ (s : State) (t j p : Nat), s.Inv ∧ s.running = true ∧ s.power.portsOn = true ∧ j < 2 ∧ s.sfaOn j = true ∧ s.nat (0x7010 + j) 5 <
      16 ∧ s.bit (0x7040 + s.nat (0x7010 + j) 5) 3 2 = false ∧ (nth { } s.saf.ins (s.nat (0x7010 + j) 5)).pulse = some p ∧ (∀ c ∈
      s.sfaChannels j, s.siOn c = true) ∧ (nth { } s.saf.stops j).discrepancy = false ∧ s.bit 0x7000 3 j = true) ∧
    (∃ (s : State) (t k : Nat) (before : List Bool) (drops : List (Option Nat)), s.running = true ∧ s.power.portsOn = true ∧ k < 16 ∧
      s.ssOn k = true ∧ s.saf.pulseAt.length = 16 ∧ (max s.now t - s.saf.framesFrom) / 5000000 % 16 = k ∧ (∀ (f : Nat), nth none
      s.saf.pulseAt k = some f → (f - s.saf.framesFrom) / 5000000 ≠ (max s.now t - s.saf.framesFrom) / 5000000)) ∧
    (∃ (s : State) (t i : Nat), s.Inv ∧ s.running = true ∧ s.power.portsOn = true ∧ i < 16 ∧ s.saf.ins.length = 16 ∧ (∃ (k : Nat),
      s.feedOf i = some k ∧ s.ssOn k = true) ∧ (nth { } s.saf.ins i).tested = true ∧ s.saf.judged < (max s.now t - s.saf.framesFrom) /
      80000000 ∧ (nth { } s.saf.ins i).noDrop = true ∧ 1 ≤ (nth { } s.saf.ins i).noDropRun) ∧
    (∃ (s : State) (t i : Nat), s.Inv ∧ s.running = true ∧ s.power.portsOn = true ∧ i < 16 ∧ s.saf.ins.length = 16 ∧ (∃ (k : Nat),
      s.feedOf i = some k ∧ s.ssOn k = true) ∧ (nth { } s.saf.ins i).tested = true ∧ s.saf.judged < (max s.now t - s.saf.framesFrom) /
      80000000 ∧ (nth { } s.saf.ins i).cross = true ∧ 1 ≤ (nth { } s.saf.ins i).crossRun) ∧
    (∃ (s : State) (t k milliamps held : Nat), s.Inv ∧ s.running = true ∧ s.power.portsOn = true ∧ k < 16 ∧ s.saf.ssOff.length = 16 ∧
      s.ssOn k = true ∧ 300 < milliamps ∧ 100000 ≤ held) ∧
    (∃ (s : State) (t k f : Nat), s.running = true ∧ s.power.portsOn = true ∧ k < 16 ∧ nth none s.saf.ssOff k = some f ∧ f + 1000000000
      ≤ max s.now t) :=
  ⟨⟨(o wkr [(0x7010,1,1),(0x7010,2,4),(0x7044,3,3)]), 0, 4, 100000000, false, ⟨by decide, by decide⟩, by decide, by decide, by decide,
      by decide, by decide⟩,
   ⟨{(o wkr [(0x7010,1,1),(0x7010,2,4),(0x7010,3,5),(0x7044,3,3)]) with saf.stops := [{differFrom := some 5},{}]}, 0, 0, 5, ⟨by decide, by
      decide⟩, by decide, by decide, by decide, by decide, by decide, by decide, by decide, by decide, by decide⟩,
   ⟨{(o wkr [(0x7010,1,1),(0x7010,2,4),(0x7010,3,5),(0x7010,5,6),(0x7044,3,3),(0x7045,3,3),(0x7000,3,1)]) with saf.ins := List.replicate 16 {pulse := some 99999999}},
      0, 0, 99999999, ⟨by decide, by decide⟩, by decide, by decide, by decide, by decide, by decide, by decide, by decide, by decide,
      by decide, by decide⟩,
   ⟨{(o wkr [(0x7044,1,2)]) with saf.framesFrom := 99989000000}, 0, 2, [true], [none], by decide, by decide, by decide, by decide,
      by decide, by decide, by decide⟩,
   ⟨{(o wkr [(0x7044,1,2)]) with saf.ins := List.replicate 16 {noDropRun := 1, crossRun := 1, tested := true, noDrop := true, cross := true}},
      0, 4, ⟨by decide, by decide⟩, by decide, by decide, by decide, by decide, by decide, by decide, by decide, by decide, by decide⟩,
   ⟨{(o wkr [(0x7044,1,2)]) with saf.ins := List.replicate 16 {noDropRun := 1, crossRun := 1, tested := true, noDrop := true, cross := true}},
      0, 4, ⟨by decide, by decide⟩, by decide, by decide, by decide, by decide, by decide, by decide, by decide, by decide, by decide⟩,
   ⟨(o wkr [(0x7044,1,2),(0x7045,1,2),(0x7044,3,3)]), 0, 2, 301, 100000, ⟨by decide, by decide⟩, by decide, by decide, by decide,
      by decide, by decide, by decide, by decide⟩,
   ⟨{(o wkr [(0x7044,1,2)]) with saf.ssOff := List.replicate 16 (some 5)}, 0, 2, 5, by decide, by decide, by decide, by decide, by decide⟩⟩

/-- The hypotheses of SoChannelTest, SoReadback, SupervisionFault can be met. -/
theorem test_witness_SafeOutputTests :
    (∃ (s : State) (t n c : Nat) (first second rb1 rb2 : Bool), s.Inv ∧ s.running = true ∧ s.power.portsOn = true ∧ n < 8 ∧ c < 2 ∧
      s.power.safetyTested = true ∧ s.obj (0x7030 + n) 1 ≠ 0 ∧ s.bit (0x7030 + n) 5 4 = false ∧ (Seen s t).soTestDue n c = true ∧ (if
      s.bit (0x7030 + n) 5 0 = true then !first || second else first || second) = true) ∧
    (∃ (s : State) (t n c : Nat) (first second rb1 rb2 : Bool), s.Inv ∧ s.running = true ∧ s.power.portsOn = true ∧ n < 8 ∧ c < 2 ∧
      s.power.safetyTested = true ∧ s.obj (0x7030 + n) 1 ≠ 0 ∧ s.bit (0x7030 + n) 5 4 = false ∧ (Seen s t).soTestDue n c = true ∧ s.bit
      (0x7030 + n) 5 0 = true ∧ (if s.bit (0x7030 + n) 5 0 = true then !first || second else first || second) = false) ∧
    (∃ (s : State) (t n : Nat) (rb1 rb2 : Bool), s.Inv ∧ s.running = true ∧ s.power.portsOn = true ∧ n < 8 ∧ s.power.safetyTested =
      true ∧ s.obj (0x7030 + n) 1 ≠ 0 ∧ s.bit (0x7030 + n) 5 4 = false ∧ s.obj (0x7030 + n) 2 ≠ 0 ∧ if s.bit (0x7030 + n) 5 0 = true
      then (nth { } s.saf.outs n).onAt + s.nat (0x7030 + n) 4 * 1000000 ≤ max s.now t ∧ (rb1 = true ∨ s.obj (0x7030 + n) 2 = 2 ∧ rb2 =
      true) else (nth { } s.saf.outs n).offAt + s.nat (0x7030 + n) 3 * 1000000 ≤ max s.now t ∧ (rb1 = false ∨ s.obj (0x7030 + n) 2 = 2
      ∧ rb2 = false)) ∧
    (∃ (s : State) (t what rail dev : Nat), s.Inv ∧ s.running = true ∧ what < 3 ∧ (if what = 0 then 50 else 10) < ((Seen s
      t).seenDeviation what rail dev).1 ∧ (s.role = PairRole.active ∨ s.role = PairRole.standby)) :=
  ⟨⟨(o wkr [(0x7033,1,3)]), 0, 3, 0, true, true, true, true, ⟨by decide, by decide⟩, by decide, by decide, by decide, by decide,
      by decide, by decide, by decide, by decide, by decide⟩,
   ⟨(o wkr [(0x7033,5,3),(0x7033,1,3)]), 0, 3, 0, true, false, true, true, ⟨by decide, by decide⟩, by decide, by decide, by decide,
      by decide, by decide, by decide, by decide, by decide, by decide, by decide⟩,
   ⟨(o wkr [(0x7033,1,3),(0x7033,2,1)]), 0, 3, false, true, ⟨by decide, by decide⟩, by decide, by decide, by decide, by decide, by decide,
      by decide, by decide, by decide⟩,
   ⟨act, 0, 0, 0, 51, ⟨by decide, by decide⟩, by decide, by decide, by decide, by decide⟩⟩

/-- The hypotheses of TwMessageRx, InputMessage, SetMessage, SetAckMessage can be met. -/
theorem test_witness_TwinMessages_1 :
    (∃ (s : State) (t lane : Nat) (words : List (List Byte)) (h : TwHeader) (payload : List Byte) (k : TwKind), s.Inv ∧ s.running =
      true ∧ s.power.portsOn = true ∧ lane < 2 ∧ s.pair.lanes.length = 2 ∧ s.bit (0x8010 + lane) 1 3 = false ∧ Unqueued s ∧ h.kind <
      256 ∧ h.role < 8 ∧ h.seqNo < 2 ^ 32 ∧ h.count < 2 ^ 32 ∧ h.highest < 2 ^ 32 ∧ payload.length % 16 = 0 ∧ payload.length / 16 <
      65536 ∧ Spells words (h.bytes (payload.length / 16)) payload ∧ (nth { } s.pair.lanes lane).up = true ∧ h.twin ≠ s.ident.twin ∧
      twKindOf h.kind = some k ∧ s.pair.isNew h.seqNo = true) ∧
    (∃ (s : State) (t lane : Nat) (words : List (List Byte)), s.Inv ∧ s.running = true ∧ s.power.portsOn = true ∧ lane < 2 ∧
      s.pair.lanes.length = 2 ∧ s.bit (0x8010 + lane) 1 3 = false ∧ Unqueued s ∧ (∃ w ∈ words, readWord w = WordRead.bad) ∧ s.obj
      (0x8010 + lane) 4 + (↑(List.filter (fun (w : List Byte) => decide (readWord w = WordRead.bad)) words).length : Int) ≤ 0xFFFFFFFF) ∧
    (∃ (s : State) (t lane : Nat) (words : List (List Byte)), s.Inv ∧ s.running = true ∧ s.power.portsOn = true ∧ lane < 2 ∧
      s.pair.lanes.length = 2 ∧ s.bit (0x8010 + lane) 1 3 = false ∧ Unqueued s ∧ (∀ w ∈ words, readWord w ≠ WordRead.bad) ∧ field
      ((List.map (fun (w : List Byte) => (readWord w).data) words).getLastD []) 0 4 ≠ crc32c (List.map (fun (w : List Byte) =>
      (readWord w).data) words).dropLast.flatten ∧ s.obj (0x8010 + lane) 5 < 0xFFFFFFFF) ∧
    (∃ (s : State) (t port : Nat) (words : List Nat) (d : Option Decoded), s.Inv ∧ s.running = true ∧ s.power.portsOn = true ∧ Waits s
      TwKind.input ∧ s.role ≠ PairRole.offline ∧ s.role ≠ PairRole.watch ∧ port < 12) ∧
    (∃ (s : State) (t : Nat) (b : List Byte), s.Inv ∧ s.running = true ∧ s.power.portsOn = true ∧ Waits s TwKind.input ∧ s.role ≠
      PairRole.offline ∧ s.role ≠ PairRole.watch ∧ Pooled s 38 5) ∧
    (∃ (s : State) (t which : Nat) (r : SolResult), s.Inv ∧ s.running = true ∧ s.power.portsOn = true ∧ Waits s TwKind.input ∧ s.role ≠
      PairRole.offline ∧ s.role ≠ PairRole.watch ∧ which < 4 ∧ Pooled s 36 which) ∧
    (∃ (s : State) (t st : Nat) (r : AttResult), s.Inv ∧ s.running = true ∧ s.power.portsOn = true ∧ Waits s TwKind.input ∧ s.role ≠
      PairRole.offline ∧ s.role ≠ PairRole.watch ∧ Pooled s 37 4) ∧
    (∃ (s : State) (t c : Nat) (v : Int) (stamp : Nat), s.Inv ∧ s.running = true ∧ s.power.portsOn = true ∧ Waits s TwKind.input ∧
      s.role ≠ PairRole.offline ∧ s.role ≠ PairRole.watch ∧ c < 24 ∧ s.intake.chains.length = 24 ∧ s.isManager = false ∧ s.ownChain c =
      false) ∧
    (∃ (s : State) (t e a : Nat) (low : Bool), s.Inv ∧ s.running = true ∧ s.power.portsOn = true ∧ Waits s TwKind.input ∧ s.role ≠
      PairRole.offline ∧ s.role ≠ PairRole.watch ∧ e < 4 ∧ s.srv.enc.length = 4 ∧ s.isManager = false ∧ s.ownIsActive = false) ∧
    (∃ (s : State) (t j : Nat) (e : Bool), s.Inv ∧ s.running = true ∧ s.power.portsOn = true ∧ Waits s TwKind.input ∧ s.role ≠
      PairRole.offline ∧ s.role ≠ PairRole.watch ∧ j < 2 ∧ s.srv.farFb.length = 2 ∧ s.isManager = false) ∧
    (∃ (s u : State) (t : Nat) (cut : SetCut), s.Inv ∧ s.running = true ∧ s.power.portsOn = true ∧ (Seen s t).takeWaiting TwKind.set =
      some u ∧ s.role ≠ PairRole.active ∧ s.workDue = true ∧ (u.setWork cut).role = PairRole.standby) ∧
    (∃ (s : State) (t count : Nat) (digest : List Byte), s.running = true ∧ s.power.portsOn = true ∧ Waits s TwKind.setAck ∧ s.role =
      PairRole.active) :=
  ⟨⟨act, 0, 0, (words0 (hdB 3) p16), (hdB 3), p16, .setAck, ⟨by decide, by decide⟩, by decide, by decide, by decide, by decide, by decide,
      (by intro x h; cases h), by decide, by decide, by decide, by decide, by decide, by decide, by decide, spells_messageWords _ _ _
      (by decide), by decide, by decide, by decide, by decide⟩,
   ⟨act, 0, 1, [[]], ⟨by decide, by decide⟩, by decide, by decide, by decide, by decide, by decide, (by intro x h; cases h), by decide,
      by decide⟩,
   ⟨act, 0, 1, [codeWord p16, codeWord p16, codeWord p16], ⟨by decide, by decide⟩, by decide, by decide, by decide, by decide, by decide,
      (by intro x h; cases h), by simp [readWord_p16], (by simp [readWord_p16, WordRead.data]; decide), by decide⟩,
   ⟨(wt act .input), 0, 11, [], none, ⟨by decide, by decide⟩, by decide, by decide, ⟨_, _, List.mem_singleton.mpr rfl⟩, by decide,
      by decide, by decide⟩,
   ⟨(wt act .input), 0, [1#8], ⟨by decide, by decide⟩, by decide, by decide, ⟨_, _, List.mem_singleton.mpr rfl⟩, by decide, by decide,
      (by intro x h; cases h)⟩,
   ⟨(wt act .input), 0, 0, solR, ⟨by decide, by decide⟩, by decide, by decide, ⟨_, _, List.mem_singleton.mpr rfl⟩, by decide, by decide,
      by decide, (by intro x h; cases h)⟩,
   ⟨(wt act .input), 0, 1, attR, ⟨by decide, by decide⟩, by decide, by decide, ⟨_, _, List.mem_singleton.mpr rfl⟩, by decide, by decide,
      (by intro x h; cases h)⟩,
   ⟨(wt {actW with pair := {actW.pair with role := .standby, partnerRole := some .active}} .input), 0, 23, (-3), 8, ⟨by decide, by
      decide⟩, by decide, by decide, ⟨_, _, List.mem_singleton.mpr rfl⟩, by decide, by decide, by decide, by decide, by decide,
      by decide⟩,
   ⟨(wt {actW with pair := {actW.pair with role := .standby, partnerRole := some .active}} .input), 0, 1, 900, true, ⟨by decide, by
      decide⟩, by decide, by decide, ⟨_, _, List.mem_singleton.mpr rfl⟩, by decide, by decide, by decide, by decide, by decide,
      by decide⟩,
   ⟨(wt actW .input), 0, 1, true, ⟨by decide, by decide⟩, by decide, by decide, ⟨_, _, List.mem_singleton.mpr rfl⟩, by decide, by decide,
      by decide, by decide, by decide⟩,
   ⟨sM, (takenOf sM .set), 0, cut0, ⟨by decide, by decide⟩, by decide, by decide, rfl, by decide, by decide, by decide⟩,
   ⟨(wt act .setAck), 0, 0, [], by decide, by decide, ⟨_, _, List.mem_singleton.mpr rfl⟩, by decide⟩⟩

/-- The hypotheses of DigestMessage, GanderCompare, WriteMessage can be met. -/
theorem test_witness_TwinMessages_2 :
    (∃ (s : State) (t count st : Nat) (output : List Byte) (lists : List (Option Nat)) (d : DigestRec), s.running = true ∧
      s.power.portsOn = true ∧ Waits s TwKind.digest ∧ s.pair.formed = some d ∧ d.at' ≤ (↑(s.at t).mt : Int)) ∧
    (∃ (s : State) (t : Nat) (own p : DigestRec), s.Inv ∧ s.running = true ∧ s.power.portsOn = true ∧ s.digestDue = true ∧ (Seen s
      t).closeCycle.pair.ownDigest = some own ∧ s.pair.partnerDigest = some p ∧ p.count = own.count ∧ p.at' ≤ own.deadline ∧ p.output =
      own.output ∧ p.state = own.state ∧ s.obj 0x8020 2 < 0xFFFFFFFF) ∧
    (∃ (s : State) (t : Nat) (own p : DigestRec), s.Inv ∧ s.running = true ∧ s.power.portsOn = true ∧ s.digestDue = true ∧ (Seen s
      t).closeCycle.pair.ownDigest = some own ∧ s.pair.partnerDigest = some p ∧ p.count = own.count ∧ p.at' ≤ own.deadline ∧ (p.output
      ≠ own.output ∨ p.state ≠ own.state) ∧ s.role = PairRole.standby ∧ s.pair.partnerFaultNow = false) ∧
    (∃ (s : State) (t : Nat) (own : DigestRec), s.Inv ∧ s.running = true ∧ s.power.portsOn = true ∧ s.digestDue = true ∧ (Seen s
      t).closeCycle.pair.ownDigest = some own ∧ (∀ (p : DigestRec), s.pair.partnerDigest = some p → p.count ≠ own.count ∨ own.deadline
      < p.at') ∧ s.obj 0x8020 5 < 0xFFFFFFFF) ∧
    (∃ (s : State) (t i sub stamp : Nat) (v : Val) (r : OdRow), s.running = true ∧ s.power.portsOn = true ∧ Unqueued s ∧ Waits s
      TwKind.write ∧ sub < 256 ∧ s.row i sub = some r ∧ PairWide i sub r v ∧ (s.role = PairRole.standby ∨ s.role = PairRole.slipway)) ∧
    (∃ (s : State) (t i sub stamp : Nat) (v : Val) (r : OdRow) (verdict : Option Nat) (src : Option (Nat × Nat)), s.running = true ∧
      s.power.portsOn = true ∧ Unqueued s ∧ Waits s TwKind.write ∧ sub < 256 ∧ s.row i sub = some r ∧ PairWide i sub r v ∧ (s.role =
      PairRole.offline ∨ s.role = PairRole.watch)) ∧
    (∃ (s : State) (t i sub stamp : Nat) (v : Val) (r : OdRow) (x : State) (k n : Nat), s.running = true ∧ s.power.portsOn = true ∧
      Unqueued s ∧ Waits s TwKind.write ∧ sub < 256 ∧ s.row i sub = some r ∧ PairWide i sub r v ∧ s.role = PairRole.active ∧ s.linkUp =
      true ∧ s.pair.partnerRole = some PairRole.standby ∧ (Seen s t).takeWaiting TwKind.write = some x ∧ x.valueObjection false i sub r
      v = none ∧ k < s.net.conns.length ∧ s.isPlaced (some (k, n)) (okey i sub) = false) ∧
    (∃ (s : State) (t i sub stamp : Nat) (v : Val) (r : OdRow) (x : State) (k n : Nat), s.running = true ∧ s.power.portsOn = true ∧
      Unqueued s ∧ Waits s TwKind.write ∧ sub < 256 ∧ s.row i sub = some r ∧ PairWide i sub r v ∧ s.role = PairRole.active ∧ s.linkUp =
      true ∧ s.pair.partnerRole = some PairRole.standby ∧ (Seen s t).takeWaiting TwKind.write = some x ∧ x.valueObjection false i sub r
      v = none ∧ s.isPlaced (some (k, n)) (okey i sub) = true) ∧
    (∃ (s : State) (t i sub stamp : Nat) (v : Val) (r : OdRow) (x : State) (a : Nat), s.running = true ∧ s.power.portsOn = true ∧
      Unqueued s ∧ Waits s TwKind.write ∧ sub < 256 ∧ s.row i sub = some r ∧ PairWide i sub r v ∧ s.role = PairRole.active ∧ s.linkUp =
      true ∧ s.pair.partnerRole = some PairRole.standby ∧ (Seen s t).takeWaiting TwKind.write = some x ∧ x.valueObjection false i sub r
      v = some a) :=
  ⟨⟨(wt {act with pair.formed := some ⟨5,[1#8],2,0,0⟩} .digest), 0, 5, 6, [1#8], [], ⟨5,[1#8],2,0,0⟩, by decide, by decide, ⟨_, _,
      List.mem_singleton.mpr rfl⟩, by decide, by decide⟩,
   ⟨{stb with ctl.cycling := true, pair.ownDigest := some ⟨5,[1#8],2,0,7⟩, pair.partnerDigest := some ⟨5,[1#8],2,6,0⟩}, 0,
      ⟨5,[1#8],2,0,7⟩, ⟨5,[1#8],2,6,0⟩, ⟨by decide, by decide⟩, by decide, by decide, by decide, by decide, by decide, by decide,
      by decide, by decide, by decide, by decide⟩,
   ⟨{stb with ctl.cycling := true, pair.ownDigest := some ⟨5,[1#8],2,0,7⟩, pair.partnerDigest := some ⟨5,[1#8],3,6,0⟩}, 0,
      ⟨5,[1#8],2,0,7⟩, ⟨5,[1#8],3,6,0⟩, ⟨by decide, by decide⟩, by decide, by decide, by decide, by decide, by decide, by decide,
      by decide, by decide, by decide, by decide⟩,
   ⟨{act with ctl.cycling := true, pair.misses := 9, pair.formed := some ⟨5,[1#8],2,0,7⟩}, 0, ⟨5,[1#8],2,0,7⟩, ⟨by decide, by decide⟩,
      by decide, by decide, by decide, by decide, by decide, by decide⟩,
   ⟨(wt stb .write), 0, 0x5130, 1, 5, (.num 1), (rw 0x5130 1), by decide, by decide, (by intro x h; cases h), ⟨_, _,
      List.mem_singleton.mpr rfl⟩, by decide, by decide, ⟨by decide, by decide⟩, by decide⟩,
   ⟨(wt {stb with pair.role := .watch} .write), 0, 0x5130, 1, 5, (.num 1), (rw 0x5130 1), none, none, by decide, by decide,
      (by intro x h; cases h), ⟨_, _, List.mem_singleton.mpr rfl⟩, by decide, by decide, ⟨by decide, by decide⟩, by decide⟩,
   ⟨(wt act .write), 0, 0x5130, 1, 5, (.num 1), (rw 0x5130 1), (takenA (wt act .write)), 1, 2, by decide, by decide,
      (by intro x h; cases h), ⟨_, _, List.mem_singleton.mpr rfl⟩, by decide, by decide, ⟨by decide, by decide⟩, by decide, by decide,
      by decide, rfl, by decide, by decide, by decide⟩,
   ⟨(wc (wt act .write) {placed := [(2, okey 0x5130 1)]}), 0, 0x5130, 1, 5, (.num 1), (rw 0x5130 1), (takenA (wc (wt act .write)
      {placed := [(2, okey 0x5130 1)]})), 1, 2, by decide, by decide, (by intro x h; cases h), ⟨_, _, List.mem_singleton.mpr rfl⟩,
      by decide, by decide, ⟨by decide, by decide⟩, by decide, by decide, by decide, rfl, by decide, by decide⟩,
   ⟨(wt act .write), 0, 0x5130, 1, 5, (.num 9), (rw 0x5130 1), (takenA (wt act .write)), 0x06090030, by decide, by decide,
      (by intro x h; cases h), ⟨_, _, List.mem_singleton.mpr rfl⟩, by decide, by decide, ⟨by decide, by decide⟩, by decide, by decide,
      by decide, rfl, by decide⟩⟩

/-- The hypotheses of TimeMessageTw, TimeMessageSend, HeartbeatSend, ControlMessages can be met. -/
theorem test_witness_TwinTimeAndControl :
    (∃ (s : State) (t lane : Nat) (there back : Int) (err : Option Nat), s.Inv ∧ s.running = true ∧ s.power.portsOn = true ∧ lane < 2 ∧
      (nth { } s.pair.lanes lane).up = true ∧ Waits s TwKind.time ∧ s.pair.partnerRole = some PairRole.active ∧ s.role ≠
      PairRole.active ∧ (lane = 0 ∨ (nth { } s.pair.lanes 0).up = false)) ∧
    (∃ (s : State) (t : Nat), s.running = true ∧ s.power.portsOn = true ∧ s.role = PairRole.active ∧ s.linkUp = true ∧ s.pair.lastTime
      + 1000000 ≤ max s.now t) ∧
    (∃ (s : State) (t lane : Nat), s.Inv ∧ s.running = true ∧ s.power.portsOn = true ∧ lane < 2 ∧ s.pair.lanes.length = 2 ∧ (nth { }
      s.pair.lanes lane).lastSent + 10000 ≤ max s.now t ∧ s.bit (0x8010 + lane) 1 3 = false ∧ DigestStays s t) ∧
    (∃ (s : State) (t demands : Nat), s.Inv ∧ s.running = true ∧ s.power.portsOn = true ∧ Waits s TwKind.control) :=
  ⟨⟨(wt stb .time), 0, 0, 5, 7, (some 3), ⟨by decide, by decide⟩, by decide, by decide, by decide, by decide, ⟨_, _,
      List.mem_singleton.mpr rfl⟩, by decide, by decide, by decide⟩,
   ⟨act, 0, by decide, by decide, by decide, by decide, by decide⟩,
   ⟨act, 0, 1, ⟨by decide, by decide⟩, by decide, by decide, by decide, by decide, by decide, by decide, (by intro x h; cases h)⟩,
   ⟨(wt (o wkr [(0x7010,1,1),(0x7010,7,1)]) .control), 0, 257, ⟨by decide, by decide⟩, by decide, by decide, ⟨_, _, List.mem_singleton.mpr
      rfl⟩⟩⟩

/-- The hypotheses of Takeover, TakeoverTriggers, TakeOverIRise, LaneDown, LaneUp, PartnerGone can be met. -/
theorem test_witness_Takeovers :
    (∃ (s : State) (t at' cause : Nat), s.Inv ∧ s.running = true ∧ s.power.portsOn = true ∧ s.pair.decided = some (at', cause) ∧ s.role
      = PairRole.standby ∧ at' + 2000 ≤ max s.now t) ∧
    (∃ (s : State) (t lane blocks : Nat), s.running = true ∧ s.power.portsOn = true ∧ s.role = PairRole.standby ∧ s.pair.decided = none
      ∧ lane < 2 ∧ (nth { } s.pair.lanes lane).blockLock = true) ∧
    (∃ (s : State) (t : Nat), s.running = true ∧ s.power.portsOn = true) ∧
    (∃ (s : State) (t lane held : Nat) (cause : LinkCause) (alive : Bool), s.Inv ∧ s.running = true ∧ s.power.portsOn = true ∧ lane < 2
      ∧ s.pair.lanes.length = 2 ∧ (nth { } s.pair.lanes lane).up = true ∧ (cause = LinkCause.silence → (nth { } s.pair.lanes
      lane).lastHeard + 30000 ≤ max s.now t) ∧ (cause = LinkCause.los → 10000 ≤ held) ∧ s.obj (0x8010 + lane) 6 < 0xFFFFFFFF ∧ (nth { }
      s.pair.lanes (1 - lane)).up = false ∧ s.role = PairRole.standby) ∧
    (∃ (s : State) (t lane held : Nat) (cause : LinkCause) (alive : Bool), s.Inv ∧ s.running = true ∧ s.power.portsOn = true ∧ lane < 2
      ∧ s.pair.lanes.length = 2 ∧ (nth { } s.pair.lanes lane).up = true ∧ (cause = LinkCause.silence → (nth { } s.pair.lanes
      lane).lastHeard + 30000 ≤ max s.now t) ∧ (cause = LinkCause.los → 10000 ≤ held) ∧ s.obj (0x8010 + lane) 6 < 0xFFFFFFFF ∧ (nth { }
      s.pair.lanes (1 - lane)).up = true) ∧
    (∃ (s : State) (t lane ns : Nat) (far : FarStraps) (partner : Option PairRole), s.Inv ∧ s.running = true ∧ s.power.portsOn = true ∧
      lane < 2 ∧ s.pair.lanes.length = 2 ∧ (nth { } s.pair.lanes lane).up = false ∧ 100 ≤ (nth { } s.pair.lanes lane).intactRun ∧ s.bit
      (0x8010 + lane) 1 3 = false ∧ ¬(far.duty = s.ident.duty ∧ far.twin ≠ s.ident.twin ∧ (∀ (h : Twin × PairRole), (nth { }
      s.pair.lanes lane).heard = some h → h.1 ≠ s.ident.twin) ∧ (s.isManager = true ∨ far.node = s.ident.node))) ∧
    (∃ (s : State) (t lane ns : Nat) (far : FarStraps) (partner : Option PairRole), s.Inv ∧ s.running = true ∧ s.power.portsOn = true ∧
      lane < 2 ∧ s.pair.lanes.length = 2 ∧ (nth { } s.pair.lanes lane).up = false ∧ 100 ≤ (nth { } s.pair.lanes lane).intactRun ∧ s.bit
      (0x8010 + lane) 1 3 = false ∧ (far.duty = s.ident.duty ∧ far.twin ≠ s.ident.twin ∧ (∀ (h : Twin × PairRole), (nth { }
      s.pair.lanes lane).heard = some h → h.1 ≠ s.ident.twin) ∧ (s.isManager = true ∨ far.node = s.ident.node)) ∧ s.linkUp = false ∧
      s.resolvable = true ∧ (nth { } s.pair.lanes lane).partnerRole partner = some PairRole.active) ∧
    (∃ (s : State) (t lane ns : Nat) (far : FarStraps) (partner : Option PairRole), s.Inv ∧ s.running = true ∧ s.power.portsOn = true ∧
      lane < 2 ∧ s.pair.lanes.length = 2 ∧ (nth { } s.pair.lanes lane).up = false ∧ 100 ≤ (nth { } s.pair.lanes lane).intactRun ∧ s.bit
      (0x8010 + lane) 1 3 = false ∧ (far.duty = s.ident.duty ∧ far.twin ≠ s.ident.twin ∧ (∀ (h : Twin × PairRole), (nth { }
      s.pair.lanes lane).heard = some h → h.1 ≠ s.ident.twin) ∧ (s.isManager = true ∨ far.node = s.ident.node)) ∧ s.linkUp = false ∧
      s.resolvable = true ∧ ((nth { } s.pair.lanes lane).partnerRole partner = none ∨ (nth { } s.pair.lanes lane).partnerRole partner =
      some PairRole.offline ∨ (nth { } s.pair.lanes lane).partnerRole partner = some PairRole.suspect)) ∧
    (∃ (s : State) (t lane ns : Nat) (far : FarStraps) (partner : Option PairRole), s.Inv ∧ s.running = true ∧ s.power.portsOn = true ∧
      lane < 2 ∧ s.pair.lanes.length = 2 ∧ (nth { } s.pair.lanes lane).up = false ∧ 100 ≤ (nth { } s.pair.lanes lane).intactRun ∧ s.bit
      (0x8010 + lane) 1 3 = false ∧ (far.duty = s.ident.duty ∧ far.twin ≠ s.ident.twin ∧ (∀ (h : Twin × PairRole), (nth { }
      s.pair.lanes lane).heard = some h → h.1 ≠ s.ident.twin) ∧ (s.isManager = true ∨ far.node = s.ident.node)) ∧ s.linkUp = false ∧
      s.role = PairRole.active ∧ (nth { } s.pair.lanes lane).partnerRole partner = some PairRole.active) ∧
    (∃ (s : State) (t low : Nat), s.Inv ∧ s.running = true ∧ s.power.portsOn = true ∧ s.linkUp = false ∧ 1000000 ≤ low ∧ 4 ≤ (Seen s
      t).ringGap ∧ s.pair.lostAt + 1000000 ≤ max s.now t ∧ s.role = PairRole.standby ∧ s.pair.decided = none) ∧
    (∃ (s : State) (t low : Nat), s.Inv ∧ s.running = true ∧ s.power.portsOn = true ∧ s.linkUp = false ∧ 1000000 ≤ low ∧ 4 ≤ (Seen s
      t).ringGap ∧ s.pair.lostAt + 1000000 ≤ max s.now t ∧ (s.role = PairRole.slipway ∨ s.role = PairRole.suspect ∧ s.pair.selfTest =
      SelfTest.passed)) :=
  ⟨⟨{mgr with pair.role := .standby, pair.decided := some (99999998000, 3)}, 0, 99999998000, 3, ⟨by decide, by decide⟩, by decide,
      by decide, by decide, by decide, by decide⟩,
   ⟨{stb with pair.takeIn := true}, 0, 0, 1, by decide, by decide, by decide, by decide, by decide, by decide⟩,
   ⟨mgr, 0, by decide, by decide⟩,
   ⟨{stb with pair.lanes := [{},{up := true}]}, 0, 1, 0, .sync, false, ⟨by decide, by decide⟩, by decide, by decide, by decide, by decide,
      by decide, by decide, by decide, by decide, by decide, by decide⟩,
   ⟨{stb with pair.lanes := [{up := true},{up := true}]}, 0, 1, 0, .sync, false, ⟨by decide, by decide⟩, by decide, by decide, by decide,
      by decide, by decide, by decide, by decide, by decide, by decide⟩,
   ⟨{mgr with pair.lanes := [{intactRun := 100},{}]}, 0, 0, 12, ⟨.worker, .b, 4⟩, (some .active), ⟨by decide, by decide⟩, by decide,
      by decide, by decide, by decide, by decide, by decide, by decide, by decide⟩,
   ⟨{mgr with pair.lanes := [{intactRun := 100},{}]}, 0, 0, 12, ⟨.manager, .b, 4⟩, (some .active), ⟨by decide, by decide⟩, by decide,
      by decide, by decide, by decide, by decide, by decide, by decide, by decide, by decide, by decide, by decide⟩,
   ⟨{mgr with pair.lanes := [{intactRun := 100},{}]}, 0, 0, 12, ⟨.manager, .b, 4⟩, none, ⟨by decide, by decide⟩, by decide, by decide,
      by decide, by decide, by decide, by decide, by decide, by decide, by decide, by decide, by decide⟩,
   ⟨{mgr with pair.role := .active, pair.lanes := [{intactRun := 100},{}]}, 0, 0, 100000000000, ⟨.manager, .b, 4⟩, (some .active), ⟨by
      decide, by decide⟩, by decide, by decide, by decide, by decide, by decide, by decide, by decide, by decide, by decide, by decide,
      by decide⟩,
   ⟨{stb with pair.lanes := [{},{}]}, 0, 1000000, ⟨by decide, by decide⟩, by decide, by decide, by decide, by decide, by decide,
      by decide, by decide, by decide⟩,
   ⟨{mgr with pair.role := .slipway}, 0, 1000000, ⟨by decide, by decide⟩, by decide, by decide, by decide, by decide, by decide,
      by decide, by decide⟩⟩

/-- The hypotheses of StartupWait, ClaimWait, BothActive, RejoinWrite can be met. -/
theorem test_witness_RolesResolved :
    (∃ (s : State) (t : Nat) (alive : Bool), s.Inv ∧ s.running = true ∧ s.power.portsOn = true ∧ s.resolvable = true ∧ s.linkUp = false
      ∧ 35000000 + s.startWaitNs + s.power.origin ≤ max s.now t ∧ (alive = true ∨ (Seen s t).partnerOnRing = true)) ∧
    (∃ (s : State) (t : Nat) (alive : Bool), s.Inv ∧ s.running = true ∧ s.power.portsOn = true ∧ s.resolvable = true ∧ s.linkUp = false
      ∧ 35000000 + s.startWaitNs + s.power.origin ≤ max s.now t ∧ alive = false ∧ (Seen s t).partnerOnRing = false) ∧
    (∃ (s : State) (t : Nat), s.Inv ∧ s.running = true ∧ s.power.portsOn = true ∧ (s.role = PairRole.watch ∨ s.resolvable = true ∧
      s.pair.claiming = true) ∧ s.pair.takeIn = false ∧ s.pair.waitFrom + (if s.preferred = true then 1 else 2) * s.startWaitNs ≤ max
      s.now t) ∧
    (∃ (s : State) (t : Nat), s.Inv ∧ s.running = true ∧ s.power.portsOn = true ∧ s.role = PairRole.active ∧ s.linkUp = false ∧
      s.pair.takeIn = true ∧ max s.pair.takeSince (max s.pair.lostAt s.pair.activeSince) + 1000000 ≤ max s.now t ∧ s.preferred = false) ∧
    (∃ (s : State) (t : Nat) (c : Client) (via : OdVia) (n : Int) (r : OdRow), Goes (Instr.rejoinWrite t c via n) s t c 0x8000 6
      (Val.num n) r ∧ s.linkUp = true ∧ s.pair.partnerRole = some PairRole.active) ∧
    (∃ (s : State) (t : Nat) (c : Client) (via : OdVia) (n : Int) (r : OdRow), Goes (Instr.rejoinWrite t c via n) s t c 0x8000 6
      (Val.num n) r ∧ s.role = PairRole.offline ∧ s.pair.partnerRole ≠ some PairRole.active) :=
  ⟨⟨mgr, 0, true, ⟨by decide, by decide⟩, by decide, by decide, by decide, by decide, by decide, by decide⟩,
   ⟨mgr, 0, false, ⟨by decide, by decide⟩, by decide, by decide, by decide, by decide, by decide, by decide, by decide⟩,
   ⟨{mgr with pair.role := .watch}, 0, ⟨by decide, by decide⟩, by decide, by decide, by decide, by decide, by decide⟩,
   ⟨{act with ident := {twin := .b}, pair.takeIn := true, pair.lanes := [{},{}]}, 0, ⟨by decide, by decide⟩, by decide, by decide,
      by decide, by decide, by decide, by decide, by decide⟩,
   ⟨{(eng mgr) with pair := {stb.pair with role := .suspect, selfTest := .passed}}, 0, (.can 0), v0, 1, (rw 0x8000 6), ⟨⟨by decide, by
      decide⟩, by decide, by decide, _, _, _, _, rfl, ⟨rfl, rfl, rfl⟩, ⟨by decide, by decide, fun _ => ⟨_, rfl⟩, by decide⟩⟩,
      by decide, by decide⟩,
   ⟨{(eng mgr) with pair := {offlineRejoins := true, selfTest := .passed}}, 0, (.can 0), v0, 1, (rw 0x8000 6), ⟨⟨by decide, by decide⟩, by
      decide, by decide, _, _, _, _, rfl, ⟨rfl, rfl, rfl⟩, ⟨by decide, by decide, fun _ => ⟨_, rfl⟩, by decide⟩⟩, by decide, by decide⟩⟩

/-- The hypotheses of HardFault, SelfTestDone, AutoRejoin can be met. -/
theorem test_witness_FaultsAndRejoin :
    (∃ (s : State) (t : Nat) (d : FaultDetector), s.Inv ∧ s.running = true ∧ (∀ (p : Nat), d = FaultDetector.lockstep p → p ≤ 5) ∧
      (s.role = PairRole.active ∨ s.role = PairRole.standby)) ∧
    (∃ (s : State) (t : Nat) (ok : Bool), s.Inv ∧ s.running = true ∧ s.pair.selfTest = SelfTest.running) ∧
    (∃ (s : State) (t : Nat), s.Inv ∧ s.running = true ∧ s.power.portsOn = true ∧ s.mayRejoin = true ∧ s.pair.selfTestAt + 60000000000
      ≤ max s.now t ∧ s.linkUp = true ∧ s.pair.partnerRole = some PairRole.active ∧ (List.filter (fun (f : Nat) => decide (max s.now t
      < f + 86400000000000)) s.pair.rejoinTimes).length < s.nat 0x8000 7) :=
  ⟨⟨act, 0, .engine, ⟨by decide, by decide⟩, by decide, (by intro x h; cases h), by decide⟩,
   ⟨{mgr with pair.role := .suspect, pair.selfTest := .running}, 0, true, ⟨by decide, by decide⟩, by decide, by decide⟩,
   ⟨{stb with pair.role := .suspect, pair.selfTest := .passed}, 0, ⟨by decide, by decide⟩, by decide, by decide, by decide, by decide,
      by decide, by decide, by decide⟩⟩

/-- The hypotheses of JoinRequest, SlipwayMessage, SlipwayComplete, SlipwayFail, SlipwayRetry, DrillDue can be met. -/
theorem test_witness_Slipway :
    (∃ (s : State) (t : Nat), s.running = true ∧ s.power.portsOn = true ∧ Waits s TwKind.control ∧ s.role = PairRole.active) ∧
    (∃ (s : State) (t p n size : Nat) (b : SlipBlock), s.Inv ∧ s.running = true ∧ s.power.portsOn = true ∧ List.find? (fun (w : TwKind
      × Nat × Nat) => decide (w.1 = TwKind.slipway)) s.pair.waiting = some (TwKind.slipway, n, size) ∧ s.role = PairRole.slipway ∧
      s.obj 0x8040 1 ≠ 0 ∧ b = SlipBlock.inStep) ∧
    (∃ (s : State) (t : Nat), s.Inv ∧ s.running = true ∧ s.power.portsOn = true ∧ s.role = PairRole.slipway ∧ s.obj 0x8040 1 = 4 ∧ 10 ≤
      s.pair.joinMatches ∧ s.obj 0x8040 4 < 0xFFFFFFFF) ∧
    (∃ (s : State) (t : Nat), s.Inv ∧ s.running = true ∧ s.power.portsOn = true ∧ s.role = PairRole.slipway ∧ s.obj 0x8040 1 ≠ 0 ∧
      (s.linkUp = false ∨ s.pair.partnerRole ≠ some PairRole.active ∨ s.pair.slipDiverged = true) ∧ s.obj 0x8040 5 < 0xFFFFFFFF) ∧
    (∃ (s : State) (t f : Nat), s.Inv ∧ s.running = true ∧ s.power.portsOn = true ∧ s.role = PairRole.slipway ∧ s.pair.slipFailedAt =
      some f ∧ f + 10000000000 ≤ max s.now t ∧ s.linkUp = true ∧ s.pair.partnerRole = some PairRole.active) ∧
    (∃ (s : State) (t : Nat), s.running = true ∧ s.role = PairRole.active ∧ s.nat 0x8030 1 ≠ 0 ∧ s.clock.state ≠ TimeState.unset ∧
      ((↑((s.at t).mt / 1000000000) : Int) - s.obj 0x8030 2) % (↑(s.nat 0x8030 1 * 3600) : Int) = 0 ∧ s.pair.lastDrillMark < (s.at
      t).mt / 1000000000) :=
  ⟨⟨(wt act .control), 0, by decide, by decide, ⟨_, _, List.mem_singleton.mpr rfl⟩, by decide⟩,
   ⟨(o (wt {stb with pair.role := .slipway} .slipway) [(0x8040,1,3)]), 0, 101, 4, 0, .inStep, ⟨by decide, by decide⟩, by decide,
      by decide, by decide, by decide, by decide, by decide⟩,
   ⟨{(o stb [(0x8040,1,4)]) with pair.role := .slipway, pair.joinMatches := 10}, 0, ⟨by decide, by decide⟩, by decide, by decide,
      by decide, by decide, by decide, by decide⟩,
   ⟨{(o stb [(0x8040,1,4)]) with pair.role := .slipway, pair.partnerRole := none}, 0, ⟨by decide, by decide⟩, by decide, by decide,
      by decide, by decide, by decide, by decide⟩,
   ⟨{stb with pair.role := .slipway, pair.slipFailedAt := some 90000000000}, 0, 90000000000, ⟨by decide, by decide⟩, by decide, by decide,
      by decide, by decide, by decide, by decide, by decide⟩,
   ⟨(o {act with clock := {act.clock with units := 7260*1000000000*281474976710656 , ticks := 25000000000 }}
      [(0x8030,1,1),(0x8030,2,60)]), 0, by decide, by decide, by decide, by decide, by decide, by decide⟩⟩

/-- The hypotheses of SafeProduce, SafeFrameRx, PairingWindowEnd, ChannelReportRx, ChannelReportSend can be met. -/
theorem test_witness_SafeNetMessages :
    (∃ (s : State) (t k inst : Nat), s.Inv ∧ s.running = true ∧ s.power.portsOn = true ∧ k < 16 ∧ s.net.conns.length = 16 ∧ s.connDir k
      = 1 ∧ s.clock.state ≠ TimeState.unset ∧ productionInstant (s.connPeriod k) (s.at t).mt = some inst ∧ (∀ l ∈ (s.conn k).produced,
      l < inst)) ∧
    (∃ (s : State) (t net peer k link n l : Nat) (frame payload trailer : List Byte), s.Inv ∧ s.running = true ∧ s.power.portsOn = true
      ∧ net < 2 ∧ s.net.conns.length = 16 ∧ splitFrame frame = some (0x52, link, 0, n, payload) ∧ s.connOf 2 peer link = some k ∧
      checkOk frame (s.nat (0x7100 + k) 2) = false ∧ s.obj (0x7120 + k) 0x0A < 0xFFFFFFFF) ∧
    (∃ (s : State) (t net peer k link n l : Nat) (frame payload trailer : List Byte), s.Inv ∧ s.running = true ∧ s.power.portsOn = true
      ∧ net < 2 ∧ s.net.conns.length = 16 ∧ splitFrame frame = some (0x52, link, 0, n, payload) ∧ s.connOf 2 peer link = some k ∧
      checkOk frame (s.nat (0x7100 + k) 2) = true ∧ payload.length = entriesBytes (s.connEntries k) ∧ (s.conn k).lost = false ∧ (s.conn
      k).lastSeq = some l ∧ 0 < (n + 65536 - l) % 65536 ∧ (n + 65536 - l) % 65536 ≤ (s.connExpect k + s.connPeriod k - 1) /
      s.connPeriod k) ∧
    (∃ (s : State) (t k : Nat) (c : FrameCopy), s.Inv ∧ s.running = true ∧ s.power.portsOn = true ∧ k < 16 ∧ s.net.conns.length = 16 ∧
      s.connDir k = 2 ∧ (s.conn k).copies = [c] ∧ c.net < 2 ∧ c.at' + s.nat 0x7140 2 * 1000 ≤ max s.now t ∧ s.obj (0x7120 + k) 2 = 0 ∧
      s.obj (0x7120 + k) (8 - c.net) < 0xFFFFFFFF) ∧
    (∃ (s : State) (t net peer k link flags n : Nat) (frame body : List Byte), s.Inv ∧ s.running = true ∧ s.power.portsOn = true ∧ net
      < 2 ∧ s.net.conns.length = 16 ∧ splitFrame frame = some (0x53, link, flags, n, body) ∧ s.connOf 1 peer link = some k ∧ checkOk
      frame (reportIdentity (s.nat (0x7100 + k) 2)) = true ∧ body.length = 4 ∧ BitVec.toNat (body.getD 0 0) ≤ 4) ∧
    (∃ (s : State) (t k : Nat), s.Inv ∧ s.running = true ∧ s.power.portsOn = true ∧ k < 16 ∧ s.net.conns.length = 16 ∧ s.connDir k = 2
      ∧ ((s.conn k).reportDue = true ∨ (s.conn k).reportSent + s.connPeriod k ≤ max s.now t)) :=
  ⟨⟨(conn mgr 3 1), 0, 3, 99982000000, ⟨by decide, by decide⟩, by decide, by decide, by decide, by decide, by decide, by decide,
      by decide, by decide⟩,
   ⟨(wc (conn mgr 3 2) {lastSeq := some 65535}), 0, 1, 168430081, 3, 9, 4, 65535, (checkedFrame 0x52 9 0 4 78 []), [], [], ⟨by decide, by
      decide⟩, by decide, by decide, by decide, by decide, by decide, by decide, by decide, by decide⟩,
   ⟨(wc (conn mgr 3 2) {lastSeq := some 4}), 0, 0, 168430081, 3, 9, 5, 4, (checkedFrame 0x52 9 0 5 77 []), [], [], ⟨by decide, by decide⟩,
      by decide, by decide, by decide, by decide, by decide, by decide, by decide, by decide, by decide, by decide, by decide,
      by decide⟩,
   ⟨(wc (conn mgr 3 2) {copies := [⟨1, 5, [], 7⟩]}), 0, 3, ⟨1, 5, [], 7⟩, ⟨by decide, by decide⟩, by decide, by decide, by decide,
      by decide, by decide, by decide, by decide, by decide, by decide, by decide⟩,
   ⟨(conn mgr 3 1), 0, 1, 168430081, 3, 9, 0, 8, (checkedFrame 0x53 9 0 8 (reportIdentity 77) [4#8,0#8,0#8,0#8]), [4#8,0#8,0#8,0#8], ⟨by
      decide, by decide⟩, by decide, by decide, by decide, by decide, by decide, by decide, by decide, by decide, by decide⟩,
   ⟨(conn mgr 3 2), 0, 3, ⟨by decide, by decide⟩, by decide, by decide, by decide, by decide, by decide, by decide⟩⟩

/-- The hypotheses of SafeCopyRx, ProbeSend, ConnectionLost, PrpSupervision, NetLinkChange can be met. -/
theorem test_witness_SafeNetSupervision :
    (∃ (s : State) (t net peer k link n : Nat) (frame payload trailer : List Byte), s.Inv ∧ s.running = true ∧ s.power.portsOn = true ∧
      net < 2 ∧ s.net.conns.length = 16 ∧ splitFrame frame = some (0x51, link, 0, n, payload) ∧ s.connOf 2 peer link = some k ∧
      prpSeqOf net trailer = none) ∧
    (∃ (s : State) (t net peer k link n : Nat) (frame payload trailer : List Byte) (prp : Nat), s.Inv ∧ s.running = true ∧
      s.power.portsOn = true ∧ net < 2 ∧ s.net.conns.length = 16 ∧ splitFrame frame = some (0x51, link, 0, n, payload) ∧ s.connOf 2
      peer link = some k ∧ prpSeqOf net trailer = some prp ∧ (∀ c ∈ (s.conn k).copies, c.prp ≠ prp)) ∧
    (∃ (s : State) (t net peer k link n : Nat) (frame payload trailer : List Byte) (prp : Nat) (c : FrameCopy), s.Inv ∧ s.running =
      true ∧ s.power.portsOn = true ∧ net < 2 ∧ s.net.conns.length = 16 ∧ splitFrame frame = some (0x51, link, 0, n, payload) ∧
      s.connOf 2 peer link = some k ∧ prpSeqOf net trailer = some prp ∧ (s.conn k).copies = [c] ∧ c.prp = prp ∧ c.net ≠ net ∧ max s.now
      t ≤ c.at' + s.nat 0x7140 2 * 1000 ∧ c.frame ≠ frame ∧ s.obj (0x7120 + k) 6 < 0xFFFFFFFF) ∧
    (∃ (s : State) (t net peer k link n : Nat) (frame payload trailer : List Byte) (prp : Nat) (c : FrameCopy) (l : Nat), s.Inv ∧
      s.running = true ∧ s.power.portsOn = true ∧ net < 2 ∧ s.net.conns.length = 16 ∧ splitFrame frame = some (0x51, link, 0, n,
      payload) ∧ s.connOf 2 peer link = some k ∧ prpSeqOf net trailer = some prp ∧ (s.conn k).copies = [c] ∧ c.prp = prp ∧ c.net ≠ net
      ∧ max s.now t ≤ c.at' + s.nat 0x7140 2 * 1000 ∧ c.frame = frame ∧ payload.length = entriesBytes (s.connEntries k) ∧ (s.conn
      k).lost = false ∧ (s.conn k).lastSeq = some l ∧ 0 < (n + 65536 - l) % 65536 ∧ (n + 65536 - l) % 65536 ≤ (s.connExpect k +
      s.connPeriod k - 1) / s.connPeriod k) ∧
    (∃ (s : State) (t k : Nat), s.running = true ∧ s.power.portsOn = true ∧ k < 16 ∧ s.net.conns.length = 16 ∧ s.connDir k = 1 ∧ (s.at
      t).producerScheme k ≠ 0 ∧ s.netUp (if ((s.at t).producerScheme k - 1) % 2 = 0 then 1 else 0) = true ∧ (s.conn k).probeSent +
      1000000000 ≤ max s.now t) ∧
    (∃ (s : State) (t k : Nat), s.Inv ∧ s.running = true ∧ s.power.portsOn = true ∧ k < 16 ∧ s.net.conns.length = 16 ∧ s.connDir k = 2
      ∧ (s.conn k).lost = false ∧ (s.conn k).lastAt + s.connExpect k < max s.now t ∧ s.obj (0x7120 + k) 0x0B < 0xFFFFFFFF) ∧
    (∃ (s : State) (t : Nat), s.running = true ∧ s.power.portsOn = true ∧ s.net.supervisionAt + s.nat 0x7140 4 * 1000000 ≤ max s.now t) ∧
    (∃ (s : State) (t net : Nat) (up : Bool), s.Inv ∧ s.running = true ∧ s.power.portsOn = true ∧ net < 2) :=
  ⟨⟨(wc (conn mgr 3 2) {lastSeq := some 4}), 0, 0, 168430081, 3, 9, 5, (dup 3 5), [], [], ⟨by decide, by decide⟩, by decide, by decide,
      by decide, by decide, by decide, by decide, by decide⟩,
   ⟨(wc (conn mgr 3 2) {lastSeq := some 4}), 0, 0, 168430081, 3, 9, 5, (dup 3 5), [], (prpTrailer 7 10 46), 7, ⟨by decide, by decide⟩,
      by decide, by decide, by decide, by decide, by decide, by decide, by decide, by decide⟩,
   ⟨(wc (conn mgr 3 2) {lastSeq := some 4, copies := [⟨1, 7, dup 3 6, 99999999000⟩]}), 0, 0, 168430081, 3, 9, 5, (dup 3 5), [],
      (prpTrailer 7 10 46), 7, ⟨1, 7, dup 3 6, 99999999000⟩, ⟨by decide, by decide⟩, by decide, by decide, by decide, by decide,
      by decide, by decide, by decide, by decide, by decide, by decide, by decide, by decide, by decide⟩,
   ⟨(wc (conn mgr 3 2) {lastSeq := some 4, copies := [⟨1, 7, dup 3 5, 99999999000⟩]}), 0, 0, 168430081, 3, 9, 5, (dup 3 5), [],
      (prpTrailer 7 10 46), 7, ⟨1, 7, dup 3 5, 99999999000⟩, 4, ⟨by decide, by decide⟩, by decide, by decide, by decide, by decide,
      by decide, by decide, by decide, by decide, by decide, by decide, by decide, by decide, by decide, by decide, by decide,
      by decide, by decide⟩,
   ⟨(wc (conn mgr 3 1) {report := some (2, 99999999999)}), 0, 3, by decide, by decide, by decide, by decide, by decide, by decide,
      by decide, by decide⟩,
   ⟨(conn mgr 3 2), 0, 3, ⟨by decide, by decide⟩, by decide, by decide, by decide, by decide, by decide, by decide, by decide, by decide⟩,
   ⟨mgr, 0, by decide, by decide, by decide⟩,
   ⟨mgr, 0, 1, true, ⟨by decide, by decide⟩, by decide, by decide, by decide⟩⟩

/-- The hypotheses of RecordAccept, RecordDrop, DirectoryUpdate, WindowCapture can be met. -/
theorem test_witness_Recorder :
    (∃ (s : State) (t : Nat) (p : Plane) (it : IntakeItem) (rest : List IntakeItem), s.running = true ∧ s.recorder.ready = true ∧
      s.recorder.stopped = false ∧ s.recorder.dropped = (0, 0, 0) ∧ s.recorder.firstDone = some p ∧ s.recorder.queue p = it :: rest) ∧
    (∃ (s : State) (t n : Nat) (p : Plane), s.Inv ∧ s.running = true ∧ s.recorder.stopped = false ∧ queueLimit p < queueBytes
      (s.recorder.queue p) + storedSize n ∧ s.obj 0x9000 (6 + p.code) < 0xFFFFFFFF) ∧
    (∃ (s : State) (t : Nat), s.running = true ∧ s.recorder.ready = true) ∧
    (∃ (s : State) (t : Nat) (c : Client) (via : OdVia), s.running = true ∧ s.power.portsOn = true ∧ ReadMet s t c via 0x9002 3 ∧
      List.find? (fun (r : Rec) => decide (((readStart s t c via 0x9002 3).clientRec c).cursor ≤ r.seqNo)) (if ((readStart s t c via
      0x9002 3).clientRec c).area = 0 then s.recorder.circ else s.recorder.perm) = none) ∧
    (∃ (s : State) (t : Nat) (c : Client) (via : OdVia) (r : Rec), s.running = true ∧ s.power.portsOn = true ∧ ReadMet s t c via 0x9002
      3 ∧ List.find? (fun (r : Rec) => decide (((readStart s t c via 0x9002 3).clientRec c).cursor ≤ r.seqNo)) (if ((readStart s t c
      via 0x9002 3).clientRec c).area = 0 then s.recorder.circ else s.recorder.perm) = some r) :=
  ⟨⟨{mgr with recorder.qData := [⟨rec0, 5, none, true⟩]}, 0, .data, ⟨rec0, 5, none, true⟩, [], by decide, by decide, by decide, by decide,
      by decide, by decide⟩,
   ⟨mgr, 0, 100000000, .management, ⟨by decide, by decide⟩, by decide, by decide, by decide, by decide⟩,
   ⟨mgr, 0, by decide, by decide⟩,
   ⟨mgr, 0, (.can 1), v0, by decide, by decide, trivial, by decide⟩,
   ⟨{mgr with recorder.circ := [rec8 8 [1#8]]}, 0, (.net 1), v0, (rec8 8 [1#8]), by decide, by decide, ⟨by decide, by decide⟩, by decide⟩⟩

/-- The hypotheses of PanelHalfCycle, PanelFrameEnd, PanelUpdate can be met. -/
theorem test_witness_Panel :
    (∃ (s : State) (t : Nat) (f : PanelFrame), s.running = true ∧ s.panel.frame = some f ∧ f.done < f.total ∧ 1953125 * f.done ≤ 2 *
      (max s.now t - f.startAt)) ∧
    (∃ (s : State) (t : Nat) (f : PanelFrame), s.Inv ∧ s.running = true ∧ s.panel.frame = some f ∧ f.total ≤ f.done ∧ 1953125 * f.total
      ≤ 2 * (max s.now t - f.startAt) ∧ s.panel.redrive = false ∧ (∀ r < 4, nth none s.panel.latched r = none) ∧ s.obj 0x9100 9 <
      0xFFFFFFFF) ∧
    (∃ (s : State) (t : Nat), s.running = true ∧ s.power.stage = Stage.ready ∧ s.obj 0x9100 1 ≠ 0 ∧ s.panel.frame = none ∧ (∀ r < 4,
      nth none s.panel.latched r = none) ∧ s.changedRows ≠ []) ∧
    (∃ (s : State) (t : Nat) (f : PanelFrame), s.running = true ∧ s.power.stage = Stage.ready ∧ s.obj 0x9100 1 ≠ 0 ∧ s.panel.frame =
      some f) :=
  ⟨⟨{mgr with panel.frame := some ⟨[(1,5),(2,6)], 3, 4, 100, 200, 9, 5⟩}, 0, ⟨[(1,5),(2,6)], 3, 4, 100, 200, 9, 5⟩, by decide, by decide,
      by decide, by decide⟩,
   ⟨{mgr with panel.frame := some ⟨[(1,5),(2,6)], 3, 4, 100, 200, 18, 5⟩, mram.panelDirty := some [5,6]}, 0, ⟨[(1,5),(2,6)], 3, 4, 100,
      200, 18, 5⟩, ⟨by decide, by decide⟩, by decide, by decide, by decide, by decide, by decide, by decide, by decide⟩,
   ⟨{(o mgr [(0x9100,1,1)]) with panel.target := [9,0,0,0]}, 0, by decide, by decide, by decide, by decide, by decide, by decide⟩,
   ⟨{(o mgr [(0x9100,1,1)]) with panel.target := [9,0,0,0], panel.frame := some ⟨[(1,5),(2,6)], 3, 4, 100, 200, 2, 5⟩}, 0, ⟨[(1,5),(2,6)],
      3, 4, 100, 200, 2, 5⟩, by decide, by decide, by decide, by decide⟩⟩

/-- The hypotheses of ScrubPass, UncorrectableWord, ReadClear, ReadClearArm can be met. -/
theorem test_witness_MemoryAndClears :
    (∃ (s : State) (t a b c : Nat), s.Inv ∧ s.running = true ∧ s.obj 0x9300 8 < 0xFFFFFFFF ∧ s.obj 0x9300 1 + (↑a : Int) ≤ 0xFFFFFFFF ∧
      s.obj 0x9300 2 + (↑b : Int) ≤ 0xFFFFFFFF ∧ s.obj 0x9300 3 + (↑c : Int) ≤ 0xFFFFFFFF ∧ s.obj 0x9300 9 + (↑(a + b + c) : Int) ≤
      0xFFFFFFFF) ∧
    (∃ (s : State) (t addr : Nat) (place : WordPlace) (data read : List Byte) (m : Nat), s.Inv ∧ s.running = true ∧ readWord read =
      WordRead.bad ∧ place.memory = some m ∧ s.obj 0x9300 (4 + m) < 0xFFFFFFFF) ∧
    (∃ (s : State) (t addr : Nat) (place : WordPlace) (data read : List Byte) (m : Nat), s.Inv ∧ s.running = true ∧ readWord read =
      WordRead.bad ∧ place = WordPlace.control m ∧ (s.role = PairRole.active ∨ s.role = PairRole.standby)) ∧
    (∃ (s : State) (t addr : Nat) (place : WordPlace) (data read : List Byte) (c : Client) (via : OdVia) (w : Bool) (k : Nat), s.Inv ∧
      s.running = true ∧ readWord read = WordRead.bad ∧ place = WordPlace.objectStore c via w k ∧ c ≠ Client.inner) ∧
    (∃ (s : State) (t addr : Nat) (place : WordPlace) (data read : List Byte) (u : Nat), s.Inv ∧ s.running = true ∧ readWord read =
      WordRead.bad ∧ place = WordPlace.tcm u ∧ u < 2 ∧ s.user.length = 2 ∧ (s.userPair u).runs = true) ∧
    (∃ (s : State) (place : WordPlace) (read d : List Byte) (m : Nat), s.Inv ∧ s.running = true ∧ readWord read = .corrected d ∧
      place.memory = some m ∧ s.obj 0x9300 (1 + m) < 0xFFFFFFFF) ∧
    (∃ (s : State) (t i sub : Nat) (c : Client) (via : OdVia) (kind : ClearKind), s.Inv ∧ s.running = true ∧ s.power.portsOn = true ∧
      ReadMet s t c via i sub ∧ clearable i sub = some kind ∧ ((readStart s t c via i sub).clientRec c).armKey = some (okey i sub) ∧
      max s.now t ≤ ((readStart s t c via i sub).clientRec c).armAt + 1000000000) ∧
    (∃ (s : State) (t i sub : Nat) (c : Client) (via : OdVia) (kind : ClearKind), s.Inv ∧ s.running = true ∧ s.power.portsOn = true ∧
      ReadMet s t c via i sub ∧ clearable i sub = some kind ∧ ((readStart s t c via i sub).clientRec c).armKey ≠ some (okey i sub) ∧
      kind = ClearKind.counter) ∧
    (∃ (s : State) (t : Nat) (c : Client) (via : OdVia) (n : Int) (r : OdRow), Goes (Instr.readClearArm t c via n) s t c 0x9200 8
      (Val.num n) r) :=
  ⟨⟨mgr, 0, 1, 2, 3, ⟨by decide, by decide⟩, by decide, by decide, by decide, by decide, by decide, by decide⟩,
   ⟨act, 0, 5, (.control 1), p16, [], 1, ⟨by decide, by decide⟩, by decide, by decide, by decide, by decide⟩,
   ⟨act, 0, 5, (.control 1), p16, [], 1, ⟨by decide, by decide⟩, by decide, by decide, by decide, by decide⟩,
   ⟨wkr, 0, 5, (.objectStore (.net 5) v0 true 77), (List.replicate 16 1#8), [], (.net 5), v0, true, 77, ⟨by decide, by decide⟩, by decide,
      by decide, by decide, by decide⟩,
   ⟨(up act {runs := true}), 0, 5, (.tcm 1), (List.replicate 16 1#8), [], 1, ⟨by decide, by decide⟩, by decide, by decide, by decide,
      by decide, by decide, by decide⟩,
   (let ⟨x, hx⟩ := readWord_check_lane p16 (by decide) (otherLane (codeWord p16)) (otherLane_ne _); ⟨act, .control 1, _, x, 1, ⟨by decide,
      by decide⟩, by decide, hx, rfl, by decide⟩),
   ⟨{(o mgr [(0x2020,7,3)]) with dict.clients := [{client := .can 0, lastHeard := 5, armKey := some (okey 0x2020 7), armAt := 99999999999}]},
      0, 0x2020, 7, (.can 0), v0, (.bits 3), ⟨by decide, by decide⟩, by decide, by decide, trivial, by decide, by decide, by decide⟩,
   ⟨(o mgr [(0x4043,0x18,3)]), 0, 0x4043, 0x18, (.can 0), v0, .counter, ⟨by decide, by decide⟩, by decide, by decide, trivial, by decide,
      by decide, by decide⟩,
   ⟨(eng mgr), 0, (.can 0), v0, (256*(0x2020*256+7)), (rw 0x9200 8), ⟨⟨by decide, by decide⟩, by decide, by decide, _, _, _, _, rfl, ⟨rfl,
      rfl, rfl⟩, ⟨by decide, by decide, fun _ => ⟨_, rfl⟩, by decide⟩⟩⟩⟩

/-- The hypotheses of InjectionArms, Injection, DetectionTimeout can be met. -/
theorem test_witness_Injections :
    (∃ (s : State) (t : Nat) (c : Client) (via : OdVia) (r : OdRow), Goes (Instr.injectionArm t c via) s t c 0x9200 4 (Val.num 1) r) ∧
    (∃ (s : State) (t : Nat) (c : Client) (via : OdVia) (r : OdRow), Goes (Instr.injectionCancel t c via) s t c 0x9200 4 (Val.num 0) r) ∧
    (∃ (s : State) (t : Nat), s.Inv ∧ s.running = true ∧ (s.obj 0x9200 5 = 1 ∨ s.obj 0x9200 5 = 2) ∧ 0 < s.diagn.left ∧ s.diagn.armedAt
      + 10000000 ≤ s.diagn.boundaryAt ∧ s.diagn.lastBoundary ≠ some s.diagn.boundaryAt ∧ s.obj 0x9200 6 < 0xFFFFFFFF) ∧
    (∃ (s : State) (t c i a : Nat), s.Inv ∧ s.running = true ∧ s.diagn.awaiting = some (c, i, a) ∧ a + 1000000000 ≤ max s.now t) :=
  ⟨⟨(o (eng mgr) [(0x9200,1,8),(0x9200,3,1)]), 0, (.can 0), v0, (rw 0x9200 4), ⟨⟨by decide, by decide⟩, by decide, by decide, _, _, _, _,
      rfl, ⟨rfl, rfl, rfl⟩, ⟨by decide, by decide, fun _ => ⟨_, rfl⟩, by decide⟩⟩⟩,
   ⟨(o (eng mgr) [(0x9200,1,8),(0x9200,3,1)]), 0, (.can 0), v0, (rw 0x9200 4), ⟨⟨by decide, by decide⟩, by decide, by decide, _, _, _, _,
      rfl, ⟨rfl, rfl, rfl⟩, ⟨by decide, by decide, fun _ => ⟨_, rfl⟩, by decide⟩⟩⟩,
   ⟨{(o mgr [(0x9200,5,1),(0x9200,1,8),(0x5000,1,1)]) with diagn.left := 1, diagn.boundaryAt := 10000000}, 0, ⟨by decide, by decide⟩,
      by decide, by decide, by decide, by decide, by decide, by decide⟩,
   ⟨{mgr with diagn.awaiting := some (3,4,5)}, 0, 3, 4, 5, ⟨by decide, by decide⟩, by decide, by decide, by decide⟩⟩

/-- The hypotheses of LinkTestStarts, LinkTestStops, LinkTestTimeLimit, LoopbackFrame, PrbsLock can be met. -/
theorem test_witness_LinkTests :
    (∃ (w : Instr) (s : State) (t l : Nat) (c : Client) (via : OdVia) (n : Int) (r : OdRow), l < 18 ∧ n ≠ 0 ∧ s.diagn.tests.length = 18
      ∧ s.pair.lanes.length = 2 ∧ s.ring.ports.length = 2 ∧ (w = Instr.linkTestGenerate t c via l ∨ w = Instr.linkTestCheck t c via l ∨
      w = Instr.linkTestLoopback t c via l) ∧ Goes w s t c (0x9210 + l) 1 (Val.num n) r ∧ l < 2) ∧
    (∃ (w : Instr) (s : State) (t l : Nat) (c : Client) (via : OdVia) (n : Int) (r : OdRow), l < 18 ∧ n ≠ 0 ∧ s.diagn.tests.length = 18
      ∧ s.pair.lanes.length = 2 ∧ s.ring.ports.length = 2 ∧ (w = Instr.linkTestGenerate t c via l ∨ w = Instr.linkTestCheck t c via l ∨
      w = Instr.linkTestLoopback t c via l) ∧ Goes w s t c (0x9210 + l) 1 (Val.num n) r ∧ 2 ≤ l ∧ l < 4) ∧
    (∃ (s : State) (t l : Nat) (c : Client) (via : OdVia) (r : OdRow), l < 18 ∧ Goes (Instr.linkTestStop t c via l) s t c (0x9210 + l)
      1 (Val.num 0) r ∧ s.underTest l = true) ∧
    (∃ (s : State) (t l : Nat), s.Inv ∧ s.running = true ∧ l < 18 ∧ s.underTest l = true ∧ s.nat (0x9210 + l) 2 ≠ 0 ∧ (s.linkTest
      l).startAt + s.nat (0x9210 + l) 2 * 1000000000 ≤ max s.now t) ∧
    (∃ (s : State) (t l : Nat) (received : Option (List Byte)) (f : List Byte), s.Inv ∧ s.running = true ∧ s.power.portsOn = true ∧ 4 ≤
      l ∧ l < 18 ∧ s.underTest l = true ∧ s.diagn.tests.length = 18 ∧ ((s.linkTest l).frame ≠ none → ((s.linkTest l).sentAt + if 16 ≤ l
      then 10000000 else if received.isSome = true then 0 else s.serialFrameNs (l - 4) + 200000000) ≤ max s.now t) ∧ (s.linkTest
      l).frame = some f ∧ received = some f) ∧
    (∃ (s : State) (t l : Nat) (received : Option (List Byte)) (f : List Byte), s.Inv ∧ s.running = true ∧ s.power.portsOn = true ∧ 4 ≤
      l ∧ l < 18 ∧ s.underTest l = true ∧ s.diagn.tests.length = 18 ∧ ((s.linkTest l).frame ≠ none → ((s.linkTest l).sentAt + if 16 ≤ l
      then 10000000 else if received.isSome = true then 0 else s.serialFrameNs (l - 4) + 200000000) ≤ max s.now t) ∧ (s.linkTest
      l).frame = some f ∧ received ≠ some f ∧ s.obj (0x9210 + l) 5 < 0xFFFFFFFF) ∧
    (∃ (s : State) (t l : Nat) (bits : List Bool), s.Inv ∧ s.running = true ∧ l < 4 ∧ s.diagn.tests.length = 18 ∧ s.underTest l = true
      ∧ (s.linkTest l).bits + bits.length ≤ lineBits l (max s.now t - (s.linkTest l).startAt)) ∧
    (∃ (bits : List Bool), bits.length = 64 ∧ (∃ n < 31, bits.getD n false = true) ∧ (∀ (n : Nat), 31 ≤ n → n < 64 → bits.getD n false
      = (bits.getD (n - 31) false != bits.getD (n - 28) false))) :=
  ⟨⟨(.linkTestGenerate 0 (.can 0) v0 1), (eng act), 0, 1, (.can 0), v0, 1, (rw 0x9211 1), by decide, by decide, by decide, by decide,
      by decide, by decide, ⟨⟨by decide, by decide⟩, by decide, by decide, _, _, _, _, rfl, ⟨rfl, rfl, rfl⟩, ⟨by decide, by decide, fun
      _ => ⟨_, rfl⟩, by decide⟩⟩, by decide⟩,
   ⟨(.linkTestGenerate 0 (.can 0) v0 3), (o (eng mgr) [(0x8100,1,1)]), 0, 3, (.can 0), v0, 1, (rw 0x9213 1), by decide, by decide,
      by decide, by decide, by decide, by decide, ⟨⟨by decide, by decide⟩, by decide, by decide, _, _, _, _, rfl, ⟨rfl, rfl, rfl⟩, ⟨by
      decide, by decide, fun _ => ⟨_, rfl⟩, by decide⟩⟩, by decide, by decide⟩,
   ⟨(o (eng mgr) [(0x9215,3,2),(0x9215,1,3),(0x9215,5,9)]), 0, 5, (.can 0), v0, (rw 0x9215 1), by decide, ⟨⟨by decide, by decide⟩, by
      decide, by decide, _, _, _, _, rfl, ⟨rfl, rfl, rfl⟩, ⟨by decide, by decide, fun _ => ⟨_, rfl⟩, by decide⟩⟩, by decide⟩,
   ⟨(o mgr [(0x9210,3,2),(0x9210,1,3),(0x9210,2,1)]), 0, 0, ⟨by decide, by decide⟩, by decide, by decide, by decide, by decide, by decide⟩,
   ⟨{(o mgr [(0x9215,3,1),(0x9215,1,3)]) with diagn.tests := List.replicate 18 {frame := some [1#8]}}, 0, 5, (some [1#8]), [1#8], ⟨by
      decide, by decide⟩, by decide, by decide, by decide, by decide, by decide, by decide, by decide, by decide, by decide⟩,
   ⟨{(o mgr [(0x9221,3,1),(0x9221,1,3)]) with diagn.tests := List.replicate 18 {frame := some [1#8]}}, 0, 17, none, [1#8], ⟨by decide, by
      decide⟩, by decide, by decide, by decide, by decide, by decide, by decide, by decide, by decide, by decide, by decide⟩,
   ⟨(o mgr [(0x9211,3,1),(0x9211,1,2)]), 0, 1, bits64, ⟨by decide, by decide⟩, by decide, by decide, by decide, by decide, by decide⟩,
   ⟨bits64, by decide, by decide, by decide⟩⟩

/-- The hypotheses of UserSlotOpen, OdReadCall, MbWrite, Propose, Return can be met. -/
theorem test_witness_UserCalls :
    (∃ (s : State) (t u : Nat) (opens at' : Int), s.running = true ∧ s.power.portsOn = true ∧ u < 2 ∧ s.user.length = 2 ∧ (s.userPair
      u).runs = true ∧ s.slotInstant = some (opens, at') ∧ opens ≤ (↑(s.at t).mt : Int) ∧ (s.userPair u).call = none ∧ (s.userPair
      u).lastOpen ≠ some at'.toNat) ∧
    (∃ (s : State) (t u i sub buffer length : Nat) (c : UserCall) (a : Nat), s.Inv ∧ s.running = true ∧ Calls s t u c ∧ s.viewRead c i
      sub = Except.error a) ∧
    (∃ (s : State) (t u i sub buffer length : Nat) (c : UserCall) (b : List Byte), s.Inv ∧ s.running = true ∧ Calls s t u c ∧
      s.viewRead c i sub = Except.ok b ∧ buffer + (List.take length b).length ≤ tcmSize) ∧
    (∃ (s : State) (t u i sub buffer : Nat) (v : List Byte) (c : UserCall), s.running = true ∧ Calls s t u c ∧ List.find? (fun (d :
      MailDecl) => decide (d.index = i) && d.isOut && decide (sub = 0)) (s.userPair u).decls = none) ∧
    (∃ (s : State) (t u i sub buffer : Nat) (v : List Byte) (c : UserCall) (d : MailDecl), s.running = true ∧ Calls s t u c ∧
      List.find? (fun (d : MailDecl) => decide (d.index = i) && d.isOut && decide (sub = 0)) (s.userPair u).decls = some d ∧ buffer +
      v.length ≤ tcmSize ∧ v.length ≠ d.size) ∧
    (∃ (s : State) (t u i sub buffer : Nat) (v : List Byte) (c : UserCall) (d : MailDecl), s.running = true ∧ Calls s t u c ∧
      List.find? (fun (d : MailDecl) => decide (d.index = i) && d.isOut && decide (sub = 0)) (s.userPair u).decls = some d ∧ buffer +
      v.length ≤ tcmSize ∧ v.length = d.size ∧ (d.ty = 1 → leNat v ≤ 1)) ∧
    (∃ (s : State) (t u : Nat) (n e h : Int) (c : UserCall), s.running = true ∧ Calls s t u c) ∧
    (∃ (s : State) (t u : Nat) (c : UserCall) (q : Nat × List Byte), s.Inv ∧ s.running = true ∧ Calls s t u c ∧ c.mail.getLast? = some
      q) ∧
    (∃ (s : State) (t u : Nat) (c : UserCall) (n e h : Int), s.Inv ∧ s.running = true ∧ Calls s t u c ∧ c.offset = some (n, e, h)) :=
  ⟨⟨{(up mgr {runs := true}) with ctl.cycling := true, ctl.t0 := 99900000000}, 0, 1, 99900500000, 99900000000, by decide, by decide,
      by decide, by decide, by decide, by decide, by decide, by decide, by decide⟩,
   ⟨(up mgr {runs := true, call := some call0, tcm := [(4, 9#8)]}), 0, 1, 0x5FFF, 1, 3, 1, call0, 0x06020000, ⟨by decide, by decide⟩,
      by decide, ⟨by decide, by decide⟩, by decide⟩,
   ⟨(up mgr {runs := true, call := some call0, tcm := [(4, 9#8)]}), 0, 1, 0x5000, 1, 3, 1, call0, [7#8, 8#8], ⟨by decide, by decide⟩,
      by decide, ⟨by decide, by decide⟩, by decide, by decide⟩,
   ⟨(up mgr {runs := true, call := some call0}), 0, 1, 0xA040, 0, 3, [5#8], call0, by decide, ⟨by decide, by decide⟩, by decide⟩,
   ⟨(up mgr {runs := true, call := some call0, decls := [declO 0xA040 5 1]}), 0, 1, 0xA040, 0, 3, [5#8,5#8], call0, (declO 0xA040 5 1),
      by decide, ⟨by decide, by decide⟩, by decide, by decide, by decide⟩,
   ⟨(up mgr {runs := true, call := some call0, decls := [declO 0xA040 5 1]}), 0, 1, 0xA040, 0, 3, [5#8], call0, (declO 0xA040 5 1),
      by decide, ⟨by decide, by decide⟩, by decide, by decide, by decide, by decide⟩,
   ⟨(up mgr {runs := true, call := some call0}), 0, 1, 5, 6, 7, call0, by decide, ⟨by decide, by decide⟩⟩,
   ⟨(up mgr {runs := true, call := some {call0 with mail := [(0xA040,[6#8])]}, decls := [declO 0xA040 5 1]}), 0, 1,
      {call0 with mail := [(0xA040,[6#8])]}, (0xA040,[6#8]), ⟨by decide, by decide⟩, by decide, ⟨by decide, by decide⟩, by decide⟩,
   ⟨(up mgr {runs := true, call := some {call0 with offset := some (1,2,3)}}), 0, 1, {call0 with offset := some (1,2,3)}, 1, 2, 3, ⟨by
      decide, by decide⟩, by decide, ⟨by decide, by decide⟩, by decide⟩⟩

/-- The hypotheses of SlotOverrun, UserPairFault, ImageWrite, ImageVerified can be met. -/
theorem test_witness_UserPairLife :
    (∃ (s : State) (t u : Nat) (c : UserCall), s.Inv ∧ s.running = true ∧ u < 2 ∧ s.user.length = 2 ∧ (s.userPair u).call = some c ∧
      c.openedAt + s.slotNs u ≤ max s.now t ∧ s.obj (0xA000 + u) 7 < 0xFFFFFFFF) ∧
    (∃ (s : State) (t u : Nat) (c : UserCall), s.Inv ∧ s.running = true ∧ u < 2 ∧ s.user.length = 2 ∧ (s.userPair u).call = some c ∧
      c.openedAt + s.slotNs u ≤ max s.now t ∧ 2 ≤ (s.userPair u).overrunRun) ∧
    (∃ (s : State) (t u : Nat) (c : UserCall), s.Inv ∧ s.running = true ∧ u < 2 ∧ s.user.length = 2 ∧ (s.userPair u).call = some c ∧
      c.openedAt + s.slotNs u ≤ max s.now t ∧ (s.userPair u).overrunRun < 2) ∧
    (∃ (s : State) (t u cause : Nat), s.Inv ∧ s.running = true ∧ u < 2 ∧ s.user.length = 2 ∧ (s.userPair u).runs = true ∧ (cause = 1 ∨
      cause = 2 ∨ cause = 3 ∨ cause = 5)) ∧
    (∃ (s : State) (t u : Nat) (c : Client) (via : OdVia) (b : List Byte) (r : OdRow), u < 2 ∧ s.user.length = 2 ∧ Goes
      (Instr.imageWrite t c via u b) s t c (0xA010 + u) 0 (Val.bytes b) r ∧ Alone s) ∧
    (∃ (s : State) (t u : Nat) (partner : Bool) (b : List Byte), s.Inv ∧ s.running = true ∧ u < 2 ∧ s.user.length = 2 ∧ (s.userPair
      u).held = some b ∧ (s.userPair u).loadDue = false) :=
  ⟨⟨(up mgr {runs := true, call := some call0, overrunRun := 2}), 100001000000, 1, call0, ⟨by decide, by decide⟩, by decide, by decide,
      by decide, by decide, by decide, by decide⟩,
   ⟨(up mgr {runs := true, call := some call0, overrunRun := 2}), 100001000000, 1, call0, ⟨by decide, by decide⟩, by decide, by decide,
      by decide, by decide, by decide, by decide⟩,
   ⟨(up mgr {runs := true, call := some call0, overrunRun := 1}), 100001000000, 1, call0, ⟨by decide, by decide⟩, by decide, by decide,
      by decide, by decide, by decide, by decide⟩,
   ⟨(up mgr {runs := true, call := some call0}), 0, 1, 5, ⟨by decide, by decide⟩, by decide, by decide, by decide, by decide, by decide⟩,
   ⟨(eng mgr), 0, 1, (.can 0), v0, img0, (rw 0xA011 0), by decide, by decide, ⟨⟨by decide, by decide⟩, by decide, by decide, _, _, _, _,
      rfl, ⟨rfl, rfl, rfl⟩, ⟨by decide, by decide, fun _ => ⟨_, rfl⟩, by decide⟩⟩, (by unfold Alone; decide)⟩,
   ⟨(up mgr {held := some [1#8]}), 0, 1, true, [1#8], ⟨by decide, by decide⟩, by decide, by decide, by decide, by decide, by decide⟩⟩

/-- The hypotheses of SdoRequests can be met. -/
theorem test_witness_SdoTransfers :
    (∃ (s : State) (t p cob i sub : Nat) (x : Except Nat (List Byte)) (y : State), s.Inv ∧ s.running = true ∧ s.power.portsOn = true ∧
      p < 2 ∧ nth false s.dict.busOff p = false ∧ cob = 0x600 + nth 0 s.dict.nodeIds p ∧ ((framed s t p).expireTransfer (Client.can
      p)).fetch (Client.can p) none i sub = (x, y)) ∧
    (∃ (s : State) (t p cob : Nat) (q : Transfer) (g : Bool), s.Inv ∧ s.running = true ∧ s.power.portsOn = true ∧ p < 2 ∧ nth false
      s.dict.busOff p = false ∧ cob = 0x600 + nth 0 s.dict.nodeIds p ∧ s.transfer (Client.can p) = some q ∧ q.write = false ∧ max s.now
      t < q.lastAt + 1000000000) ∧
    (∃ (s : State) (t p cob i sub : Nat) (r : OdRow) (b : List Byte), s.Inv ∧ s.running = true ∧ s.power.portsOn = true ∧ p < 2 ∧ nth
      false s.dict.busOff p = false ∧ cob = 0x600 + nth 0 s.dict.nodeIds p ∧ Alone s ∧ sub < 256 ∧ PairWide i sub r (s.toVal i sub b) ∧
      Allowed ((((framed s t p).expireTransfer (Client.can p)).endTransfer (Client.can p)).hear (Client.can p) none) (Client.can p)
      none i sub r (s.toVal i sub b)) ∧
    (∃ (s : State) (t p cob other : Nat) (req : SdoReq), s.Inv ∧ s.running = true ∧ s.power.portsOn = true ∧ p < 2 ∧ nth false
      s.dict.busOff p = false ∧ cob = 0x600 + nth 0 s.dict.nodeIds p ∧ other ≠ cob) :=
  ⟨⟨mgr, 0, 1, 0x601, 0x2100, 1, (.ok (leBytes 6 100)), ((((Claims.framed mgr 0 1).expireTransfer (.can 1)).fetch (.can 1) none 0x2100
      1).2), ⟨by decide, by decide⟩, by decide, by decide, by decide, by decide, by decide, rfl⟩,
   ⟨{(eng mgr) with dict.transfers := [⟨.can 0, okey 0x3000 7, false, List.replicate 10 3#8, 7, 99900000000⟩]}, 0, 0, 0x601, ⟨.can 0, okey
      0x3000 7, false, List.replicate 10 3#8, 7, 99900000000⟩, true, ⟨by decide, by decide⟩, by decide, by decide, by decide,
      by decide, by decide, by decide, by decide, by decide⟩,
   ⟨mgr, 0, 1, 0x601, 0x5130, 1, (rw 0x5130 1), [1#8], ⟨by decide, by decide⟩, by decide, by decide, by decide, by decide, by decide,
      (by unfold Alone; decide), by decide, ⟨by decide, by decide⟩, ⟨by decide, by decide, fun h => absurd h (by decide), by decide⟩⟩,
   ⟨mgr, 0, 1, 0x601, 5, .abort, ⟨by decide, by decide⟩, by decide, by decide, by decide, by decide, by decide, by decide⟩⟩

/-- The hypotheses of RpdoRx, SyncRx, TpdoSend, NmtCommand, CanHeartbeat, CanErrorState can be met. -/
theorem test_witness_CanServices :
    (∃ (s : State) (t p cob q e : Nat) (data : List Byte) (r : OdRow), s.Inv ∧ s.running = true ∧ s.power.portsOn = true ∧ p < 2 ∧ nth
      false s.dict.busOff p = false ∧ q < 8 ∧ List.find? (fun (n : Nat) => !(s.nat (0x1400 + n) 1).testBit 31 && decide (s.nat (0x1400
      + n) 1 % 2048 = cob)) (List.range 8) = some q ∧ s.mapping (0x1600 + q) = [e] ∧ odRow (e / 65536) (e / 256 % 256) = some r ∧
      s.dict.nmt ≠ Nmt.operational) ∧
    (∃ (s : State) (t p cob q e : Nat) (data : List Byte) (r : OdRow), s.Inv ∧ s.running = true ∧ s.power.portsOn = true ∧ p < 2 ∧ nth
      false s.dict.busOff p = false ∧ q < 8 ∧ List.find? (fun (n : Nat) => !(s.nat (0x1400 + n) 1).testBit 31 && decide (s.nat (0x1400
      + n) 1 % 2048 = cob)) (List.range 8) = some q ∧ s.mapping (0x1600 + q) = [e] ∧ odRow (e / 65536) (e / 256 % 256) = some r ∧
      s.dict.nmt = Nmt.operational ∧ data.length < e % 256 / 8 ∧ s.obj (0x1E00 + p) 5 < 0xFFFFFFFF) ∧
    (∃ (s : State) (t p cob q e : Nat) (data : List Byte) (r : OdRow) (v : Val), s.Inv ∧ s.running = true ∧ s.power.portsOn = true ∧ p
      < 2 ∧ nth false s.dict.busOff p = false ∧ q < 8 ∧ List.find? (fun (n : Nat) => !(s.nat (0x1400 + n) 1).testBit 31 && decide
      (s.nat (0x1400 + n) 1 % 2048 = cob)) (List.range 8) = some q ∧ s.mapping (0x1600 + q) = [e] ∧ odRow (e / 65536) (e / 256 % 256) =
      some r ∧ s.dict.nmt = Nmt.operational ∧ e % 256 / 8 ≤ data.length ∧ (s.role = PairRole.active ∨ s.role = PairRole.offline) ∧
      (framed s t p).safeLocked (e / 65536) (e / 256 % 256) = false ∧ v = s.toVal (e / 65536) (e / 256 % 256) (List.take (e % 256 / 8)
      data) ∧ (framed s t p).valueObjection false (e / 65536) (e / 256 % 256) r v = none) ∧
    (∃ (s : State) (t p : Nat) (counter : Option Nat) (q at' : Nat), s.running = true ∧ s.power.portsOn = true ∧ p < 2 ∧ nth false
      s.dict.busOff p = false ∧ s.dict.nmt = Nmt.operational ∧ s.dict.tpdo.length = 8 ∧ s.dict.lastSync = some (q, at') ∧ q ≠ p ∧ max
      s.now t ≤ at' + 100000) ∧
    (∃ (s : State) (t p : Nat) (counter : Option Nat), s.running = true ∧ s.power.portsOn = true ∧ p < 2 ∧ nth false s.dict.busOff p =
      false ∧ s.dict.nmt = Nmt.operational ∧ s.dict.tpdo.length = 8 ∧ (∀ (q at' : Nat), s.dict.lastSync = some (q, at') → q = p ∨ at' +
      100000 < max s.now t)) ∧
    (∃ (s : State) (t p : Nat), s.running = true ∧ s.power.portsOn = true ∧ p < 8 ∧ s.dict.tpdo.length = 8 ∧ s.dict.nmt =
      Nmt.operational ∧ (s.nat (0x1800 + p) 1).testBit 31 = false ∧ (nth { } s.dict.tpdo p).due = true ∧ (∀ (l : Nat), (nth { }
      s.dict.tpdo p).lastSent = some l → l + s.nat (0x1800 + p) 3 * 100000 ≤ max s.now t)) ∧
    (∃ (s : State) (t p node : Nat) (cmd : NmtCmd), s.running = true ∧ s.power.portsOn = true ∧ p < 2 ∧ nth false s.dict.busOff p =
      false ∧ (node = 0 ∨ node = nth 0 s.dict.nodeIds p)) ∧
    (∃ (s : State) (t : Nat), s.running = true ∧ s.power.portsOn = true ∧ s.nat 0x1017 0 ≠ 0 ∧ s.dict.lastHeartbeat + s.nat 0x1017 0 *
      1000000 ≤ max s.now t) ∧
    (∃ (s : State) (t p : Nat) (st : CanState), s.Inv ∧ s.running = true ∧ s.power.portsOn = true ∧ p < 2 ∧ s.dict.busOff.length = 2 ∧
      st = CanState.busOff ∧ nth false s.dict.busOff p = false ∧ s.obj (0x1E00 + p) 7 < 0xFFFFFFFF) ∧
    (∃ (s : State) (t p : Nat) (st : CanState), s.Inv ∧ s.running = true ∧ s.power.portsOn = true ∧ p < 2 ∧ s.dict.busOff.length = 2 ∧
      st ≠ CanState.active) :=
  ⟨⟨(rpd .preOp), 0, 0, 0x345, 3, 0x50100C10, [5#8], (rw 0x5010 0xC), ⟨by decide, by decide⟩, by decide, by decide, by decide, by decide,
      by decide, by decide, by decide, by decide, by decide⟩,
   ⟨(rpd .operational), 0, 0, 0x345, 3, 0x50100C10, [5#8], (rw 0x5010 0xC), ⟨by decide, by decide⟩, by decide, by decide, by decide,
      by decide, by decide, by decide, by decide, by decide, by decide, by decide, by decide⟩,
   ⟨(rpd .operational), 0, 0, 0x345, 3, 0x50100C10, [5#8,0#8], (rw 0x5010 0xC), (.num 5), ⟨by decide, by decide⟩, by decide, by decide,
      by decide, by decide, by decide, by decide, by decide, by decide, by decide, by decide, by decide, by decide, by decide,
      by decide⟩,
   ⟨{(o mgr [(0x1805,2,3)]) with dict.nmt := .operational, dict.lastSync := some (0, 99999999999)}, 0, 1, (some 4), 0, 99999999999,
      by decide, by decide, by decide, by decide, by decide, by decide, by decide, by decide, by decide⟩,
   ⟨{(o mgr [(0x1805,2,3)]) with dict.nmt := .operational, dict.tpdo := List.replicate 8 {started := true, syncs := 2}}, 0, 1, none,
      by decide, by decide, by decide, by decide, by decide, by decide, (by intro q x h; cases h)⟩,
   ⟨{(o mgr [(0x1805,1,0x185),(0x1A05,0,1),(0x1A05,1,0x50000108)]) with dict.nmt := .operational, dict.tpdo := List.replicate 8 {due := true, lastSent := some 4}},
      0, 5, by decide, by decide, by decide, by decide, by decide, by decide, by decide, by decide⟩,
   ⟨mgr, 0, 1, 0, .start, by decide, by decide, by decide, by decide, by decide⟩,
   ⟨(o mgr [(0x1017,0,100)]), 0, by decide, by decide, by decide, by decide⟩,
   ⟨(o mgr [(0x9221,3,1)]), 0, 1, .busOff, ⟨by decide, by decide⟩, by decide, by decide, by decide, by decide, by decide, by decide,
      by decide⟩,
   ⟨mgr, 0, 1, .passive, ⟨by decide, by decide⟩, by decide, by decide, by decide, by decide, by decide⟩⟩

/-- The hypotheses of OdRead, OdWriteC, ClientForget can be met. -/
theorem test_witness_OdNetwork :
    (∃ (s : State) (t : Nat) (c : Client) (msg : List Byte) (m : OdMsg) (x : Except Nat (List Byte)) (y : State) (id : Nat), s.Inv ∧
      s.running = true ∧ s.power.portsOn = true ∧ isNetClient c = true ∧ (s.obj 0x1E10 1 = 0 → isEthernet c = false) ∧ OdMsg.ofBytes
      msg = some m ∧ m.opcode = 1 ∧ m.offset = 0 ∧ Served (Seen s t) c m ∧ (served (Seen s t) c m).fetch c m.tag m.index m.sub = (x, y)
      ∧ c = Client.net id ∧ m.tag = none) ∧
    (∃ (s : State) (t : Nat) (c : Client) (msg : List Byte) (m : OdMsg) (a : Answered) (id : Nat), s.Inv ∧ s.running = true ∧
      s.power.portsOn = true ∧ isNetClient c = true ∧ (s.obj 0x1E10 1 = 0 → isEthernet c = false) ∧ OdMsg.ofBytes msg = some m ∧
      m.opcode = 1 ∧ m.version = 1 ∧ ((Seen s t).forgetSilent.dict.clients.any fun (q : ClientRec) => decide (q.client = c)) = true ∧
      ((Seen s t).forgetSilent.clientRec c).request = none ∧ ((Seen s t).forgetSilent.clientRec c).waiting = [] ∧ ((Seen s
      t).forgetSilent.clientRec c).answered = [a] ∧ a.reqId = m.reqId ∧ max s.now t ≤ a.at' + 2000000000 ∧ (∀ (g : OdTag), m.tag = some
      g → a.counter = some g.counter) ∧ c = Client.net id) ∧
    (∃ (s : State) (t : Nat) (c : Client) (msg : List Byte) (m : OdMsg) (a : Answered), s.Inv ∧ s.running = true ∧ s.power.portsOn =
      true ∧ isNetClient c = true ∧ (s.obj 0x1E10 1 = 0 → isEthernet c = false) ∧ OdMsg.ofBytes msg = some m ∧ m.opcode = 1 ∧ m.version
      = 1 ∧ ((Seen s t).forgetSilent.dict.clients.any fun (q : ClientRec) => decide (q.client = c)) = true ∧ ((Seen s
      t).forgetSilent.clientRec c).request = none ∧ ((Seen s t).forgetSilent.clientRec c).waiting = [] ∧ ((Seen s
      t).forgetSilent.clientRec c).answered = [a] ∧ a.reqId = m.reqId ∧ max s.now t ≤ a.at' + 2000000000 ∧ (∀ (g : OdTag), m.tag = some
      g → a.counter = some g.counter) ∧ s.obj 0x1E10 8 < 0xFFFFFFFF) ∧
    (∃ (s : State) (t : Nat) (c : Client) (msg : List Byte) (m q : OdMsg), s.Inv ∧ s.running = true ∧ s.power.portsOn = true ∧
      isNetClient c = true ∧ (s.obj 0x1E10 1 = 0 → isEthernet c = false) ∧ OdMsg.ofBytes msg = some m ∧ m.opcode = 1 ∧ m.version = 1 ∧
      ((Seen s t).forgetSilent.dict.clients.any fun (q : ClientRec) => decide (q.client = c)) = true ∧ ((Seen s
      t).forgetSilent.clientRec c).request = some q) ∧
    (∃ (s : State) (t : Nat) (c : Client) (msg : List Byte) (broadcast : Bool), s.Inv ∧ s.running = true ∧ s.power.portsOn = true ∧
      isNetClient c = true ∧ (s.obj 0x1E10 1 = 0 → isEthernet c = false) ∧ (OdMsg.ofBytes msg = none ∨ ∃ (m : OdMsg), OdMsg.ofBytes msg
      = some m ∧ m.opcode = 1 ∧ (m.version ≠ 1 ∨ broadcast = true)) ∧ s.obj 0x1E10 6 < 0xFFFFFFFF) ∧
    (∃ (s : State) (t : Nat) (c : Client) (msg : List Byte) (m : OdMsg) (r : OdRow), s.running = true ∧ s.power.portsOn = true ∧
      OdMsg.ofBytes msg = some m ∧ m.opcode = 2 ∧ Served (Seen s t) c m ∧ s.row m.index m.sub = some r ∧ m.offset = 0 ∧ m.final = true
      ∧ Alone s ∧ PairWide m.index m.sub r (s.toVal m.index m.sub m.data) ∧ Allowed (((served (Seen s t) c m).endTransfer c).hear c
      none) c m.tag m.index m.sub r (s.toVal m.index m.sub m.data)) ∧
    (∃ (s : State) (t : Nat) (c : Client) (msg : List Byte) (m : OdMsg) (r : OdRow), s.running = true ∧ s.power.portsOn = true ∧
      OdMsg.ofBytes msg = some m ∧ m.opcode = 2 ∧ Served (Seen s t) c m ∧ s.row m.index m.sub = some r ∧ m.offset = 0 ∧ m.final = false
      ∧ isGuarded r.acc = false) ∧
    (∃ (s : State) (t : Nat) (c : Client) (msg : List Byte) (m : OdMsg) (r : OdRow), s.running = true ∧ s.power.portsOn = true ∧
      OdMsg.ofBytes msg = some m ∧ m.opcode = 2 ∧ Served (Seen s t) c m ∧ s.row m.index m.sub = some r ∧ 0 < m.offset ∧ (∀ (q :
      Transfer), s.transfer c = some q → q.nextOff ≠ m.offset)) ∧
    (∃ (s : State) (t : Nat) (c : Client) (k : ClientRec), s.running = true ∧ isNetClient c = true ∧ k ∈ s.dict.clients ∧ k.client = c
      ∧ k.lastHeard + 60000000000 ≤ max s.now t) :=
  ⟨⟨mgr, 0, (.net 3), (ms 1 5 0x2FFF 1 0 true []), (mo 1 5 0x2FFF 1 0 true []), (.error 0x06020000), (((Claims.served (Claims.Seen mgr 0)
      (.net 3) (mo 1 5 0x2FFF 1 0 true [])).fetch (.net 3) none 0x2FFF 1).2), 3, ⟨by decide, by decide⟩, by decide, by decide,
      by decide, by decide, by decide, by decide, by decide, ⟨by decide, by decide⟩, rfl, by decide, by decide⟩,
   ⟨{(kc mgr {client := .net 3, lastHeard := 99000000000, answered := [⟨5, none, 77, .done, [], 99000000000⟩]}) with dict.sessions := []},
      0, (.net 3), (ms 1 5 0x5000 1 0 true []), (mo 1 5 0x5000 1 0 true []), ⟨5, none, 77, .done, [], 99000000000⟩, 3, ⟨by decide, by
      decide⟩, by decide, by decide, by decide, by decide, by decide, by decide, by decide, by decide, by decide, by decide, by decide,
      by decide, by decide, by decide, by decide⟩,
   ⟨(kc mgr {client := .ring 3, lastHeard := 99000000000, answered := [⟨5, none, 77, .done, [], 99000000000⟩]}), 0, (.ring 3), (ms 1 5
      0x5000 1 0 true []), (mo 1 5 0x5000 1 0 true []), ⟨5, none, 77, .done, [], 99000000000⟩, ⟨by decide, by decide⟩, by decide,
      by decide, by decide, by decide, by decide, by decide, by decide, by decide, by decide, by decide, by decide, by decide,
      by decide, by decide, by decide⟩,
   ⟨(kc mgr {client := .net 3, lastHeard := 99000000000, request := some (mo 1 5 0x5000 1 0 true [])}), 0, (.net 3), (ms 1 5 0x5000 1 0
      true []), (mo 1 5 0x5000 1 0 true []), (mo 1 5 0x5000 1 0 true []), ⟨by decide, by decide⟩, by decide, by decide, by decide,
      by decide, by decide, by decide, by decide, by decide, by decide⟩,
   ⟨k3, 0, (.ring 3), [], false, ⟨by decide, by decide⟩, by decide, by decide, by decide, by decide, by decide, by decide⟩,
   ⟨k3, 0, (.ring 3), (ms 2 5 0x5010 1 0 true [2#8]), (mo 2 5 0x5010 1 0 true [2#8]), (rw 0x5010 1), by decide, by decide, by decide,
      by decide, ⟨by decide, by decide⟩, by decide, by decide, by decide, (by unfold Alone; decide), ⟨by decide, by decide⟩, ⟨by
      decide, by decide, fun h => absurd h (by decide), by decide⟩⟩,
   ⟨k3, 0, (.ring 3), (ms 2 5 0x5010 1 0 false [2#8]), (mo 2 5 0x5010 1 0 false [2#8]), (rw 0x5010 1), by decide, by decide, by decide,
      by decide, ⟨by decide, by decide⟩, by decide, by decide, by decide, by decide⟩,
   ⟨k3, 0, (.ring 3), (ms 2 5 0x5010 1 7 true [2#8]), (mo 2 5 0x5010 1 7 true [2#8]), (rw 0x5010 1), by decide, by decide, by decide,
      by decide, ⟨by decide, by decide⟩, by decide, by decide, by decide⟩,
   ⟨(kc mgr {client := .ring 3, lastHeard := 5}), 0, (.ring 3), {client := .ring 3, lastHeard := 5}, by decide, by decide, by decide,
      by decide, by decide⟩⟩

/-- The hypotheses of SessionOpen, SessionAuthenticate, SessionClose, SessionIdle, LockoutExpiry, CanSessions can be met. -/
theorem test_witness_Sessions_1 :
    (∃ (s : State) (t : Nat) (c : Client) (msg : List Byte) (m : OdMsg), s.running = true ∧ s.power.portsOn = true ∧ OdMsg.ofBytes msg
      = some m ∧ m.opcode = 3 ∧ Served (Seen s t) c m ∧ m.data.length = 16 ∧ (s.at t).lockedOut = true) ∧
    (∃ (s : State) (t : Nat) (c : Client) (msg : List Byte) (m : OdMsg), s.running = true ∧ s.power.portsOn = true ∧ OdMsg.ofBytes msg
      = some m ∧ m.opcode = 3 ∧ Served (Seen s t) c m ∧ m.data.length = 16 ∧ (s.at t).lockedOut = false ∧ s.mram.pairKey ≠ [] ∧ 4 ≤
      (List.filter (fun (x : Session) => decide (x.client ≠ c) && isNetClient x.client) s.dict.sessions).length) ∧
    (∃ (s : State) (t : Nat) (c : Client) (msg : List Byte) (m : OdMsg), s.running = true ∧ s.power.portsOn = true ∧ OdMsg.ofBytes msg
      = some m ∧ m.opcode = 3 ∧ Served (Seen s t) c m ∧ m.data.length = 16 ∧ (s.at t).lockedOut = false ∧ s.mram.pairKey ≠ [] ∧
      (List.filter (fun (x : Session) => decide (x.client ≠ c) && isNetClient x.client) s.dict.sessions).length < 4) ∧
    (∃ (s : State) (t : Nat) (c : Client) (msg : List Byte) (m : OdMsg) (x : Session), s.Inv ∧ s.running = true ∧ s.power.portsOn =
      true ∧ OdMsg.ofBytes msg = some m ∧ m.opcode = 4 ∧ Served (Seen s t) c m ∧ (s.at t).lockedOut = false ∧ s.challengeOf c = some x
      ∧ (∀ y ∈ s.dict.sessions, y.client = c → y = x) ∧ m.data = s.clientTag x) ∧
    (∃ (s : State) (t : Nat) (c : Client) (msg : List Byte) (m : OdMsg) (x : Session), s.Inv ∧ s.running = true ∧ s.power.portsOn =
      true ∧ OdMsg.ofBytes msg = some m ∧ m.opcode = 4 ∧ Served (Seen s t) c m ∧ (s.at t).lockedOut = false ∧ s.challengeOf c = some x
      ∧ (∀ y ∈ s.dict.sessions, y.client = c → y = x) ∧ m.data ≠ s.clientTag x ∧ s.obj 0x1E20 8 < 0xFFFFFFFF) ∧
    (∃ (s : State) (t : Nat) (c : Client) (msg : List Byte) (m : OdMsg), s.running = true ∧ s.power.portsOn = true ∧ OdMsg.ofBytes msg
      = some m ∧ m.opcode = 5 ∧ Served (Seen s t) c m) ∧
    (∃ (s : State) (t : Nat) (c : Client) (x : Session), s.running = true ∧ s.openedSession c = some x ∧ x.lastUsed + s.nat 0x1E20 7 *
      1000000000 ≤ max s.now t) ∧
    (∃ (s : State) (t u : Nat), s.running = true ∧ s.dict.lockUntil = some u ∧ u ≤ max s.now t) ∧
    (∃ (s : State) (t p : Nat) (via : OdVia) (b : List Byte) (r : OdRow), Goes (Instr.clientNonce t (Client.can p) via b) s t
      (Client.can p) 0x1E20 1 (Val.bytes b) r ∧ (s.at t).lockedOut = true) ∧
    (∃ (s : State) (t p : Nat) (via : OdVia) (b : List Byte) (r : OdRow), Goes (Instr.clientNonce t (Client.can p) via b) s t
      (Client.can p) 0x1E20 1 (Val.bytes b) r ∧ (s.at t).lockedOut = false) ∧
    (∃ (s : State) (t p : Nat) (via : OdVia) (b : List Byte) (r : OdRow) (x : Session), Goes (Instr.clientTag t (Client.can p) via b) s
      t (Client.can p) 0x1E20 3 (Val.bytes b) r ∧ (s.at t).lockedOut = false ∧ s.challengeOf (Client.can p) = some x ∧ (∀ y ∈
      s.dict.sessions, y.client = Client.can p → y = x) ∧ b = s.clientTag x) ∧
    (∃ (s : State) (t p : Nat) (via : OdVia) (b : List Byte) (r : OdRow) (x : Session), Goes (Instr.clientTag t (Client.can p) via b) s
      t (Client.can p) 0x1E20 3 (Val.bytes b) r ∧ (s.at t).lockedOut = false ∧ s.challengeOf (Client.can p) = some x ∧ (∀ y ∈
      s.dict.sessions, y.client = Client.can p → y = x) ∧ b ≠ s.clientTag x) :=
  ⟨⟨{mgr with dict.lockUntil := some 200000000000}, 0, (.ring 3), (ms 3 5 0 0 0 true (List.replicate 16 5#8)), (mo 3 5 0 0 0 true
      (List.replicate 16 5#8)), by decide, by decide, by decide, by decide, ⟨by decide, by decide⟩, by decide, by decide⟩,
   ⟨{mgr with mram.pairKey := [1#8], dict.sessions := List.replicate 4 ⟨.ring 4, 5, [], [], false, none, 9⟩}, 0, (.ring 3), (ms 3 5 0 0 0
      true (List.replicate 16 5#8)), (mo 3 5 0 0 0 true (List.replicate 16 5#8)), by decide, by decide, by decide, by decide, ⟨by
      decide, by decide⟩, by decide, by decide, by decide, by decide⟩,
   ⟨{mgr with mram.pairKey := [1#8]}, 0, (.ring 3), (ms 3 5 0 0 0 true (List.replicate 16 5#8)), (mo 3 5 0 0 0 true (List.replicate 16
      5#8)), by decide, by decide, by decide, by decide, ⟨by decide, by decide⟩, by decide, by decide, by decide, by decide⟩,
   ⟨{mgr with mram.pairKey := [1#8], dict.sessions := [sa]}, 0, (.ring 3), (ms 4 5 0 0 0 true (({mgr with mram.pairKey := [1#8]} :
      State).clientTag sa)), (mo 4 5 0 0 0 true (({mgr with mram.pairKey := [1#8]} : State).clientTag sa)), sa, ⟨by decide, by decide⟩,
      by decide, by decide, rfl, by decide, ⟨by decide, by decide⟩, by decide, by decide, by decide, by decide +kernel⟩,
   ⟨{mgr with mram.pairKey := [1#8], dict.sessions := [sa]}, 0, (.ring 3), (ms 4 5 0 0 0 true [3#8]), (mo 4 5 0 0 0 true [3#8]), sa, ⟨by
      decide, by decide⟩, by decide, by decide, by decide, by decide, ⟨by decide, by decide⟩, by decide, by decide, by decide,
      by decide +kernel, by decide⟩,
   ⟨{mgr with mram.pairKey := [1#8], dict.sessions := [{sa with isOpen := true}, {sa with client := .net 7, isOpen := true}]}, 0, (.ring
      3), (ms 5 5 0 0 0 true []), (mo 5 5 0 0 0 true []), by decide, by decide, by decide, by decide, ⟨by decide, by decide⟩⟩,
   ⟨{mgr with mram.pairKey := [1#8], dict.sessions := [{sa with isOpen := true}]}, 2000000000000, (.ring 3), {sa with isOpen := true},
      by decide, by decide, by decide⟩,
   ⟨{mgr with dict.lockUntil := some 5}, 0, 5, by decide, by decide, by decide⟩,
   ⟨{mgr with dict.lockUntil := some 700000000000}, 0, 0, v0, (List.replicate 16 1#8), (rw 0x1E20 1), ⟨⟨by decide, by decide⟩, by decide,
      by decide, _, _, _, _, rfl, ⟨rfl, rfl, rfl⟩, ⟨by decide, by decide, fun h => absurd h (by decide), by decide⟩⟩, by decide⟩,
   ⟨mgr, 0, 0, v0, (List.replicate 16 1#8), (rw 0x1E20 1), ⟨⟨by decide, by decide⟩, by decide, by decide, _, _, _, _, rfl, ⟨rfl, rfl,
      rfl⟩, ⟨by decide, by decide, fun h => absurd h (by decide), by decide⟩⟩, by decide⟩,
   ⟨{mgr with mram.pairKey := [1#8], dict.sessions := [⟨.can 0, 5, [], [], false, none, 9⟩]}, 0, 0, v0, (({mgr with mram.pairKey := [1#8]}
      : State).clientTag ⟨.can 0, 5, [], [], false, none, 9⟩), (rw 0x1E20 3), ⟨.can 0, 5, [], [], false, none, 9⟩, ⟨⟨by decide, by
      decide⟩, by decide, by decide, _, _, _, _, rfl, ⟨rfl, rfl, rfl⟩, ⟨by decide, by decide, fun h => absurd h (by decide), by
      decide⟩⟩, by decide, by decide, by decide, rfl⟩,
   ⟨{mgr with mram.pairKey := [1#8], dict.sessions := [⟨.can 0, 5, [], [], false, none, 9⟩]}, 0, 0, v0, ((mgr.clientTag ⟨.can 0, 5, [],
      [], false, none, 9⟩)), (rw 0x1E20 3), ⟨.can 0, 5, [], [], false, none, 9⟩, ⟨⟨by decide, by decide⟩, by decide, by decide, _, _,
      _, _, rfl, ⟨rfl, rfl, rfl⟩, ⟨by decide, by decide, fun h => absurd h (by decide), by decide⟩⟩, by decide, by decide, by decide,
      by decide +kernel⟩⟩

/-- The hypotheses of CanSessions can be met. -/
theorem test_witness_Sessions_2 :
    ∃ (s : State) (t p : Nat) (via : OdVia) (b : List Byte) (r : OdRow) (n : Int), Goes (Instr.sessionCloseWrite t (Client.can p) via
      n) s t (Client.can p) 0x1E20 6 (Val.num n) r :=
  ⟨{mgr with mram.pairKey := [1#8], dict.sessions := [⟨.can 0, 5, [], [], true, none, 9⟩]}, 0, 0, v0, (List.replicate 16 5#8), (rw
    0x1E20 6), 1, ⟨⟨by decide, by decide⟩, by decide, by decide, _, _, _, _, rfl, ⟨rfl, rfl, rfl⟩, ⟨by decide, by decide, fun _ => ⟨_,
    rfl⟩, by decide⟩⟩⟩

/-- The hypotheses of StoreComplete, ObjectWriteHere can be met. -/
theorem test_witness_StoreAndPlainWrites :
    (∃ (s : State) (t : Nat) (j : StoreJob), s.Inv ∧ s.running = true ∧ s.dict.storeJob = some j ∧ s.obj 0x1E30 2 < 0xFFFFFFFF) ∧
    (∃ (s : State) (t : Nat) (j : StoreJob), s.Inv ∧ s.running = true ∧ s.dict.storeJob = some j ∧ s.obj 0x1E30 4 < 0xFFFFFFFF) ∧
    (∃ (s : State) (t i sub : Nat) (c : Client) (via : OdVia) (n : Int) (r : OdRow), r.acc = OdAcc.rw ∧ i < 0x2000 ∧ i ≠ 0x1E20 ∧ Goes
      (Instr.objectWrite t c via i sub (Val.num n)) s t c i sub (Val.num n) r) :=
  ⟨⟨{mgr with dict.storeJob := some ⟨99000000000, false, img⟩}, 0, ⟨99000000000, false, img⟩, ⟨by decide, by decide⟩, by decide,
      by decide, by decide⟩,
   ⟨{mgr with dict.storeJob := some ⟨99000000000, false, img⟩}, 0, ⟨99000000000, false, img⟩, ⟨by decide, by decide⟩, by decide,
      by decide, by decide⟩,
   ⟨(eng mgr), 0, 0x1017, 0, (.can 0), v0, 65535, (rw 0x1017 0), by decide, by decide, by decide, ⟨⟨by decide, by decide⟩, by decide, by
      decide, _, _, _, _, rfl, ⟨rfl, rfl, rfl⟩, ⟨by decide, by decide, fun _ => ⟨_, rfl⟩, by decide⟩⟩⟩⟩

/-- The hypotheses of NamedWrites, WritesAlone, BankCopies can be met. -/
theorem test_witness_NamedWritesAlone :
    (∃ (w : Instr) (t : Nat) (c : Client) (via : OdVia) (i sub : Nat) (v : Val), namedWrite w = some (t, c, via, i, sub, v)) ∧
    (∃ (w : Instr) (s : State) (t : Nat) (c : Client) (i sub : Nat) (v : Val) (r : OdRow), Goes w s t c i sub v r ∧ PairWide i sub r v
      ∧ Alone s) ∧
    (∃ (s : State) (t : Nat) (c : Client) (via : OdVia) (r : OdRow) (k : Nat), Alone s ∧ s.nat 0x5038 1 ≤ 1 ∧ Goes (Instr.bankCopy t c
      via) s t c 0x5038 2 (Val.num 2) r ∧ 1 ≤ k ∧ k ≤ 0x8D) ∧
    (∃ (s : State) (t : Nat) (c : Client) (via : OdVia) (r : OdRow), Alone s ∧ s.nat 0x5038 1 ≤ 1 ∧ Goes (Instr.bankCopy t c via) s t c
      0x5038 2 (Val.num 2) r ∧ s.obj 0x5130 1 = 0) ∧
    (∃ (s : State) (t : Nat) (c : Client) (via : OdVia) (r : OdRow), Alone s ∧ s.nat 0x6048 1 ≤ 1 ∧ Goes (Instr.servoBankCopy t c via)
      s t c 0x6048 2 (Val.num 2) r) :=
  ⟨⟨.rejoinWrite 0 (.can 1) v0 1, 0, .can 1, v0, 0x8000, 6, .num 1, by decide⟩,
   ⟨(.bankSwap 0 (.can 0) v0), (eng mgr), 0, (.can 0), 0x5038, 2, (.num 1), (rw 0x5038 2), ⟨⟨by decide, by decide⟩, by decide, by decide,
      _, _, _, _, rfl, ⟨rfl, rfl, rfl⟩, ⟨by decide, by decide, fun _ => ⟨_, rfl⟩, by decide⟩⟩, ⟨by decide, by decide⟩,
      (by unfold Alone; decide)⟩,
   ⟨(eng mgr), 0, (.can 0), v0, (rw 0x5038 2), 5, (by unfold Alone; decide), by decide, ⟨⟨by decide, by decide⟩, by decide, by decide, _,
      _, _, _, rfl, ⟨rfl, rfl, rfl⟩, ⟨by decide, by decide, fun _ => ⟨_, rfl⟩, by decide⟩⟩, by decide, by decide⟩,
   ⟨(eng mgr), 0, (.can 0), v0, (rw 0x5038 2), (by unfold Alone; decide), by decide, ⟨⟨by decide, by decide⟩, by decide, by decide, _, _,
      _, _, rfl, ⟨rfl, rfl, rfl⟩, ⟨by decide, by decide, fun _ => ⟨_, rfl⟩, by decide⟩⟩, by decide⟩,
   ⟨(eng {wkr with held := [⟨okey 0x6040 1, .num 1, 5, 2⟩]}), 0, (.can 0), v0, (rw 0x6048 2), (by unfold Alone; decide), by decide, ⟨⟨by
      decide, by decide⟩, by decide, by decide, _, _, _, _, rfl, ⟨rfl, rfl, rfl⟩, ⟨by decide, by decide, fun _ => ⟨_, rfl⟩, by
      decide⟩⟩⟩⟩

/-- The hypotheses of WritesPaired, WritesMapped can be met. -/
theorem test_witness_WritesBesideStandby :
    (∃ (w : Instr) (s : State) (t : Nat) (c : Client) (i sub : Nat) (v : Val) (r : OdRow), Goes w s t c i sub v r ∧ PairWide i sub r v
      ∧ s.role = PairRole.active ∧ s.linkUp = true ∧ s.pair.partnerRole = some PairRole.standby ∧ (∀ (x : Transfer), s.transfer c =
      some x → max s.now t < x.lastAt + 1000000000)) ∧
    (∃ (w : Instr) (s : State) (t : Nat) (c : Client) (i sub : Nat) (v : Val) (r : OdRow), Goes w s t c i sub v r ∧ r.acc =
      OdAcc.rwMapped ∧ (s.role = PairRole.active ∨ s.role = PairRole.offline)) :=
  ⟨⟨(.geometryModeWrite 0 (.can 0) v0 1), (eng act), 0, (.can 0), 0x5130, 1, (.num 1), (rw 0x5130 1), ⟨⟨by decide, by decide⟩, by decide,
      by decide, _, _, _, _, rfl, ⟨rfl, rfl, rfl⟩, ⟨by decide, by decide, fun _ => ⟨_, rfl⟩, by decide⟩⟩, ⟨by decide, by decide⟩,
      by decide, by decide, by decide, by decide⟩,
   ⟨(.busLimitWrite 0 (.can 0) v0 7 5), (eng act), 0, (.can 0), 0x5127, 2, (.num 5), (rw 0x5127 2), ⟨⟨by decide, by decide⟩, by decide, by
      decide, _, _, _, _, rfl, ⟨rfl, rfl, rfl⟩, ⟨by decide, by decide, fun _ => ⟨_, rfl⟩, by decide⟩⟩, by decide, by decide⟩⟩

/-- The hypotheses of WritesRefused can be met. -/
theorem test_witness_WritesRefused :
    ∃ (w : Instr) (s : State) (t : Nat) (c : Client) (via : OdVia) (i sub a : Nat) (x v : Val) (u : State) (tag : Option OdTag), s.Inv
      ∧ s.running = true ∧ s.power.portsOn = true ∧ namedWrite w = some (t, c, via, i, sub, x) ∧ WriteMet s t c via i sub x u tag v ∧
      (s.missing i sub = some a ∨ ∃ (r : OdRow), s.row i sub = some r ∧ (accessAbort r = some a ∨ accessAbort r = none ∧ (isGuarded
      r.acc = true ∧ (u.hear c none).sessionFor c tag i sub = Except.error a ∨ (isGuarded r.acc = true → ∃ (y : Session), (u.hear c
      none).sessionFor c tag i sub = Except.ok y) ∧ (u.hear c none).valueObjection true i sub r v = some a))) :=
  ⟨(.injectionArm 0 (.can 1) v0), act, 0, (.can 1), v0, 0x9200, 4, 0x0F000001, (.num 1), (.num 1), (Claims.Seen act 0), none, ⟨by
    decide, by decide⟩, by decide, by decide, by decide, ⟨rfl, rfl, rfl⟩, Or.inr ⟨_, rfl, Or.inr ⟨by decide, Or.inl ⟨by decide, by
    decide⟩⟩⟩⟩

end Sys2Proof.Tests
end

section
/-! The straps (R17): what each command has kept of the machine, as one lemma over the commands, and what the start of a timeline makes
of the strap pads. -/

namespace Sys2Proof.Machine

open Sys2Proof

/-! ### What a command that samples no strap has kept -/

/-- Every command but the three at which the straps may be sampled keeps, from the instant it is executed at, the canonical stores, the
test access port, the strapped identity and every part of the machine that is not among its effects. -/
theorem exec_kept : ∀ c, maySample c = false → ∃ t, ∀ {base : State} (s : State), Sound (effects c) base (s.heard t) →
    Kept (effects c) base (exec c s)
  | .suppliesValid .., h => nomatch h
  | .strapLevelChange t pad, _ => ⟨t, execStrapLevelChange_sound (List.Subset.refl _) t pad⟩
  | .inputPresent t input v10mV stableNs, _ => ⟨t, execInputPresent_sound (List.Subset.refl _) t input v10mV stableNs⟩
  | .inputAbsent t input v10mV stableNs, _ => ⟨t, execInputAbsent_sound (List.Subset.refl _) t input v10mV stableNs⟩
  | .supplyWarningChange t input high set v10mV, _ => ⟨t, execSupplyWarningChange_sound (List.Subset.refl _) t input high set v10mV⟩
  | .totalSupplyLoss t v10mV stableNs written, _ => ⟨t, execTotalSupplyLoss_sound (List.Subset.refl _) t v10mV stableNs written⟩
  | .shutdownEnd .., h => nomatch h
  | .mrstNAct t written, _ => ⟨t, execMrstNAct_sound (List.Subset.refl _) t written⟩
  | .mrstNRelease .., h => nomatch h
  | .tapInstruction t ir, _ => ⟨t, execTapInstruction_sound (List.Subset.refl _) t ir⟩
  | .holdupStoreCharged t tornCirc tornPerm, _ => ⟨t, execHoldupStoreCharged_sound (List.Subset.refl _) t tornCirc tornPerm⟩
  | .configurationImageRead t currentReads previousReads, _ =>
      ⟨t, execConfigurationImageRead_sound (List.Subset.refl _) t currentReads previousReads⟩
  | .resetsReleased t, _ => ⟨t, execResetsReleased_sound (List.Subset.refl _) t⟩
  | .portsEnabled t, _ => ⟨t, execPortsEnabled_sound (List.Subset.refl _) t⟩
  | .safetySelfTestDone t passed mirrors, _ => ⟨t, execSafetySelfTestDone_sound (List.Subset.refl _) t passed mirrors⟩
  | .holdReady t panelReads, _ => ⟨t, execHoldReady_sound (List.Subset.refl _) t panelReads⟩
  | .ocxoWarm t stableNs, _ => ⟨t, execOcxoWarm_sound (List.Subset.refl _) t stableNs⟩
  | .resumeAbandon t, _ => ⟨t, execResumeAbandon_sound (List.Subset.refl _) t⟩
  | .thermalWarning t case10 junction10, _ => ⟨t, execThermalWarning_sound (List.Subset.refl _) t case10 junction10⟩
  | .cycleBoundary t, _ => ⟨t, execCycleBoundary_sound (List.Subset.refl _) t⟩
  | .modeSupervision t, _ => ⟨t, execModeSupervision_sound (List.Subset.refl _) t⟩
  | .engineStart t, _ => ⟨t, execEngineStart_sound (List.Subset.refl _) t⟩
  | .capstanStart t, _ => ⟨t, execCapstanStart_sound (List.Subset.refl _) t⟩
  | .ganderCompare t, _ => ⟨t, execGanderCompare_sound (List.Subset.refl _) t⟩
  | .ringFrameStart t, _ => ⟨t, execRingFrameStart_sound (List.Subset.refl _) t⟩
  | .ringPacketForward t port pkt twin, _ => ⟨t, execRingPacketForward_sound (List.Subset.refl _) t port pkt twin⟩
  | .commandSectionRx t port pkt subPs, _ => ⟨t, execCommandSectionRx_sound (List.Subset.refl _) t port pkt subPs⟩
  | .commandSectionReturn t ringNo pkt subPs, _ => ⟨t, execCommandSectionReturn_sound (List.Subset.refl _) t ringNo pkt subPs⟩
  | .syncPacketRx t port pkt, _ => ⟨t, execSyncPacketRx_sound (List.Subset.refl _) t port pkt⟩
  | .feedbackPacketPass t port pkt twin, _ => ⟨t, execFeedbackPacketPass_sound (List.Subset.refl _) t port pkt twin⟩
  | .feedbackPacketReturn t ringNo pkt, _ => ⟨t, execFeedbackPacketReturn_sound (List.Subset.refl _) t ringNo pkt⟩
  | .ownerExpiry t pair, _ => ⟨t, execOwnerExpiry_sound (List.Subset.refl _) t pair⟩
  | .containerPass t port pkt twin, _ => ⟨t, execContainerPass_sound (List.Subset.refl _) t port pkt twin⟩
  | .ringLinkDown t port cause heldNs, _ => ⟨t, execRingLinkDown_sound (List.Subset.refl _) t port cause heldNs⟩
  | .ringUnwrap t port, _ => ⟨t, execRingUnwrap_sound (List.Subset.refl _) t port⟩
  | .ringTimeLoss t, _ => ⟨t, execRingTimeLoss_sound (List.Subset.refl _) t⟩
  | .sampleBoundary t, _ => ⟨t, execSampleBoundary_sound (List.Subset.refl _) t⟩
  | .ssiBurst t encoder word lowAtStart, _ => ⟨t, execSsiBurst_sound (List.Subset.refl _) t encoder word lowAtStart⟩
  | .dacFrame t, _ => ⟨t, execDacFrame_sound (List.Subset.refl _) t⟩
  | .drvfbChange t thruster energised heldNs, _ => ⟨t, execDrvfbChange_sound (List.Subset.refl _) t thruster energised heldNs⟩
  | .enableTimeout t thruster, _ => ⟨t, execEnableTimeout_sound (List.Subset.refl _) t thruster⟩
  | .driveDropTimeout t thruster, _ => ⟨t, execDriveDropTimeout_sound (List.Subset.refl _) t thruster⟩
  | .staleHoldTimeout t thruster, _ => ⟨t, execStaleHoldTimeout_sound (List.Subset.refl _) t thruster⟩
  | .offDelayExpiry t thruster, _ => ⟨t, execOffDelayExpiry_sound (List.Subset.refl _) t thruster⟩
  | .servoRateWrite t c via value, _ => ⟨t, execServoRateWrite_sound (List.Subset.refl _) t c via value⟩
  | .servoBankSwap t c via, _ => ⟨t, execServoBankSwap_sound (List.Subset.refl _) t c via⟩
  | .servoBankCopy t c via, _ => ⟨t, execServoBankCopy_sound (List.Subset.refl _) t c via⟩
  | .timeSecondsRead t c via, _ => ⟨t, execTimeSecondsRead_sound (List.Subset.refl _) t c via⟩
  | .timeFirstSet t src taiNs taiUtc, _ => ⟨t, execTimeFirstSet_sound (List.Subset.refl _) t src taiNs taiUtc⟩
  | .timeSourceQualify t source offsetPs uncertaintyNs, _ =>
      ⟨t, execTimeSourceQualify_sound (List.Subset.refl _) t source offsetPs uncertaintyNs⟩
  | .timeSourceChange t offsetPs uncertaintyNs, _ => ⟨t, execTimeSourceChange_sound (List.Subset.refl _) t offsetPs uncertaintyNs⟩
  | .timeSourceLoss t source grandmaster, _ => ⟨t, execTimeSourceLoss_sound (List.Subset.refl _) t source grandmaster⟩
  | .slewDone t, _ => ⟨t, execSlewDone_sound (List.Subset.refl _) t⟩
  | .timeStep t, _ => ⟨t, execTimeStep_sound (List.Subset.refl _) t⟩
  | .ppsPulse t output sec, _ => ⟨t, execPpsPulse_sound (List.Subset.refl _) t output sec⟩
  | .ppsSettingWrite t c via output compensation value, _ =>
      ⟨t, execPpsSettingWrite_sound (List.Subset.refl _) t c via output compensation value⟩
  | .timeMessage t, _ => ⟨t, execTimeMessage_sound (List.Subset.refl _) t⟩
  | .ptpEventRx t inst port head msg, _ => ⟨t, execPtpEventRx_sound (List.Subset.refl _) t inst port head msg⟩
  | .ptpTransparentForward t inst fromPort1 kind ingressPs egressPs correctionPs, _ =>
      ⟨t, execPtpTransparentForward_sound (List.Subset.refl _) t inst fromPort1 kind ingressPs egressPs correctionPs⟩
  | .framingLock t port frm, _ => ⟨t, execFramingLock_sound (List.Subset.refl _) t port frm⟩
  | .framingError t port sampleNo frm, _ => ⟨t, execFramingError_sound (List.Subset.refl _) t port sampleNo frm⟩
  | .ifClockCheck t port milliHz sampleNo, _ => ⟨t, execIfClockCheck_sound (List.Subset.refl _) t port milliHz sampleNo⟩
  | .portFault t port cause, _ => ⟨t, execPortFault_sound (List.Subset.refl _) t port cause⟩
  | .portRetry t port, _ => ⟨t, execPortRetry_sound (List.Subset.refl _) t port⟩
  | .frontendInit t port, _ => ⟨t, execFrontendInit_sound (List.Subset.refl _) t port⟩
  | .streamLevelCheck t port stream counts, _ => ⟨t, execStreamLevelCheck_sound (List.Subset.refl _) t port stream counts⟩
  | .channelAssign t port sky, _ => ⟨t, execChannelAssign_sound (List.Subset.refl _) t port sky⟩
  | .channelRelease t port c elevation10 unhealthy, _ => ⟨t, execChannelRelease_sound (List.Subset.refl _) t port c elevation10 unhealthy⟩
  | .acqJobStart t, _ => ⟨t, execAcqJobStart_sound (List.Subset.refl _) t⟩
  | .acqJobEnd t capture first last, _ => ⟨t, execAcqJobEnd_sound (List.Subset.refl _) t capture first last⟩
  | .integrationDump t port c samples nav, _ => ⟨t, execIntegrationDump_sound (List.Subset.refl _) t port c samples nav⟩
  | .detectorWindow t port c, _ => ⟨t, execDetectorWindow_sound (List.Subset.refl _) t port c⟩
  | .pullinTimeout t port c, _ => ⟨t, execPullinTimeout_sound (List.Subset.refl _) t port c⟩
  | .reacqTimeout t port c, _ => ⟨t, execReacqTimeout_sound (List.Subset.refl _) t port c⟩
  | .measurementInstant t, _ => ⟨t, execMeasurementInstant_sound (List.Subset.refl _) t⟩
  | .measurementRecordReady t, _ => ⟨t, execMeasurementRecordReady_sound (List.Subset.refl _) t⟩
  | .solutionReady t which, _ => ⟨t, execSolutionReady_sound (List.Subset.refl _) t which⟩
  | .attitudeReady t, _ => ⟨t, execAttitudeReady_sound (List.Subset.refl _) t⟩
  | .keptDataWrite t w, _ => ⟨t, execKeptDataWrite_sound (List.Subset.refl _) t w⟩
  | .keptDataErase t c via, _ => ⟨t, execKeptDataErase_sound (List.Subset.refl _) t c via⟩
  | .harbourModeOn t c via, _ => ⟨t, execHarbourModeOn_sound (List.Subset.refl _) t c via⟩
  | .harbourModeOff t c via, _ => ⟨t, execHarbourModeOff_sound (List.Subset.refl _) t c via⟩
  | .harbourWake t, _ => ⟨t, execHarbourWake_sound (List.Subset.refl _) t⟩
  | .harbourWakeEnd t lacking, _ => ⟨t, execHarbourWakeEnd_sound (List.Subset.refl _) t lacking⟩
  | .packetCommit t port, _ => ⟨t, execPacketCommit_sound (List.Subset.refl _) t port⟩
  | .packetDiscard t port, _ => ⟨t, execPacketDiscard_sound (List.Subset.refl _) t port⟩
  | .packetGapTimeout t port, _ => ⟨t, execPacketGapTimeout_sound (List.Subset.refl _) t port⟩
  | .queueRead t port, _ => ⟨t, execQueueRead_sound (List.Subset.refl _) t port⟩
  | .packetConsume t port d, _ => ⟨t, execPacketConsume_sound (List.Subset.refl _) t port d⟩
  | .chainOutput t chain input edges, _ => ⟨t, execChainOutput_sound (List.Subset.refl _) t chain input edges⟩
  | .chainClockWindow t chain edges, _ => ⟨t, execChainClockWindow_sound (List.Subset.refl _) t chain edges⟩
  | .chainClockLoss t chain silentNs, _ => ⟨t, execChainClockLoss_sound (List.Subset.refl _) t chain silentNs⟩
  | .sourceExclusion t source, _ => ⟨t, execSourceExclusion_sound (List.Subset.refl _) t source⟩
  | .sourceReadmit t c via source, _ => ⟨t, execSourceReadmit_sound (List.Subset.refl _) t c via source⟩
  | .warmStateWrite t, _ => ⟨t, execWarmStateWrite_sound (List.Subset.refl _) t⟩
  | .calibrationCommit t c via, _ => ⟨t, execCalibrationCommit_sound (List.Subset.refl _) t c via⟩
  | .trackProcessing t, _ => ⟨t, execTrackProcessing_sound (List.Subset.refl _) t⟩
  | .trackDelete t c via track, _ => ⟨t, execTrackDelete_sound (List.Subset.refl _) t c via track⟩
  | .trackTimeout t track, _ => ⟨t, execTrackTimeout_sound (List.Subset.refl _) t track⟩
  | .modeRequest t, _ => ⟨t, execModeRequest_sound (List.Subset.refl _) t⟩
  | .disengageRequest t, _ => ⟨t, execDisengageRequest_sound (List.Subset.refl _) t⟩
  | .bollardRequest t, _ => ⟨t, execBollardRequest_sound (List.Subset.refl _) t⟩
  | .joystickWrite t c via axis value, _ => ⟨t, execJoystickWrite_sound (List.Subset.refl _) t c via axis value⟩
  | .controlRateWrite t c via value, _ => ⟨t, execControlRateWrite_sound (List.Subset.refl _) t c via value⟩
  | .outputPhaseWrite t c via value, _ => ⟨t, execOutputPhaseWrite_sound (List.Subset.refl _) t c via value⟩
  | .bankSwap t c via, _ => ⟨t, execBankSwap_sound (List.Subset.refl _) t c via⟩
  | .bankCopy t c via, _ => ⟨t, execBankCopy_sound (List.Subset.refl _) t c via⟩
  | .pbtripChange t bus energised heldNs, _ => ⟨t, execPbtripChange_sound (List.Subset.refl _) t bus energised heldNs⟩
  | .busLimitWrite t c via bus value, _ => ⟨t, execBusLimitWrite_sound (List.Subset.refl _) t c via bus value⟩
  | .allocationWrite t c via thruster value, _ => ⟨t, execAllocationWrite_sound (List.Subset.refl _) t c via thruster value⟩
  | .geometryWrite t c via index sub v, _ => ⟨t, execGeometryWrite_sound (List.Subset.refl _) t c via index sub v⟩
  | .geometryModeWrite t c via value, _ => ⟨t, execGeometryModeWrite_sound (List.Subset.refl _) t c via value⟩
  | .twMessageRx t lane words, _ => ⟨t, execTwMessageRx_sound (List.Subset.refl _) t lane words⟩
  | .inputMessage t inp, _ => ⟨t, execInputMessage_sound (List.Subset.refl _) t inp⟩
  | .setMessage t cut, _ => ⟨t, execSetMessage_sound (List.Subset.refl _) t cut⟩
  | .setAckMessage t count digest, _ => ⟨t, execSetAckMessage_sound (List.Subset.refl _) t count digest⟩
  | .digestMessage t count output st lists, _ => ⟨t, execDigestMessage_sound (List.Subset.refl _) t count output st lists⟩
  | .timeMessageTw t lane there back err step, _ => ⟨t, execTimeMessageTw_sound (List.Subset.refl _) t lane there back err step⟩
  | .timeMessageSend t, _ => ⟨t, execTimeMessageSend_sound (List.Subset.refl _) t⟩
  | .writeMessage t key v stamp verdict src, _ => ⟨t, execWriteMessage_sound (List.Subset.refl _) t key v stamp verdict src⟩
  | .slipwayMessage t b progress, _ => ⟨t, execSlipwayMessage_sound (List.Subset.refl _) t b progress⟩
  | .joinRequest t, _ => ⟨t, execJoinRequest_sound (List.Subset.refl _) t⟩
  | .hardFaultNotice t, _ => ⟨t, execHardFaultNotice_sound (List.Subset.refl _) t⟩
  | .partnerDemand t demands, _ => ⟨t, execPartnerDemand_sound (List.Subset.refl _) t demands⟩
  | .heartbeatSend t lane, _ => ⟨t, execHeartbeatSend_sound (List.Subset.refl _) t lane⟩
  | .release t lane blocks, _ => ⟨t, execRelease_sound (List.Subset.refl _) t lane blocks⟩
  | .laneDown t lane cause heldNs alive, _ => ⟨t, execLaneDown_sound (List.Subset.refl _) t lane cause heldNs alive⟩
  | .laneUp t lane far partner partnerActiveNs, _ => ⟨t, execLaneUp_sound (List.Subset.refl _) t lane far partner partnerActiveNs⟩
  | .partnerGone t lowNs, _ => ⟨t, execPartnerGone_sound (List.Subset.refl _) t lowNs⟩
  | .startupWaitExpiry t alive, _ => ⟨t, execStartupWaitExpiry_sound (List.Subset.refl _) t alive⟩
  | .claimWaitExpiry t, _ => ⟨t, execClaimWaitExpiry_sound (List.Subset.refl _) t⟩
  | .bothActiveConflict t, _ => ⟨t, execBothActiveConflict_sound (List.Subset.refl _) t⟩
  | .takeOverIFall t, _ => ⟨t, execTakeOverIFall_sound (List.Subset.refl _) t⟩
  | .takeover t, _ => ⟨t, execTakeover_sound (List.Subset.refl _) t⟩
  | .hardFault t d, _ => ⟨t, execHardFault_sound (List.Subset.refl _) t d⟩
  | .suspectSelfTestDone t passed, _ => ⟨t, execSuspectSelfTestDone_sound (List.Subset.refl _) t passed⟩
  | .rejoinWrite t c via value, _ => ⟨t, execRejoinWrite_sound (List.Subset.refl _) t c via value⟩
  | .autoRejoin t, _ => ⟨t, execAutoRejoin_sound (List.Subset.refl _) t⟩
  | .slipwayComplete t, _ => ⟨t, execSlipwayComplete_sound (List.Subset.refl _) t⟩
  | .slipwayFail t, _ => ⟨t, execSlipwayFail_sound (List.Subset.refl _) t⟩
  | .slipwayRetry t, _ => ⟨t, execSlipwayRetry_sound (List.Subset.refl _) t⟩
  | .drillDue t, _ => ⟨t, execDrillDue_sound (List.Subset.refl _) t⟩
  | .drillNow t c via value, _ => ⟨t, execDrillNow_sound (List.Subset.refl _) t c via value⟩
  | .safeInputChange t input energised heldNs, _ => ⟨t, execSafeInputChange_sound (List.Subset.refl _) t input energised heldNs⟩
  | .sfADiscrepancy t thruster, _ => ⟨t, execSfADiscrepancy_sound (List.Subset.refl _) t thruster⟩
  | .sfAResetPulse t thruster, _ => ⟨t, execSfAResetPulse_sound (List.Subset.refl _) t thruster⟩
  | .testPulse t supply before drops, _ => ⟨t, execTestPulse_sound (List.Subset.refl _) t supply before drops⟩
  | .testFrameCheck t, _ => ⟨t, execTestFrameCheck_sound (List.Subset.refl _) t⟩
  | .ssOverload t supply milliamps heldNs, _ => ⟨t, execSsOverload_sound (List.Subset.refl _) t supply milliamps heldNs⟩
  | .ssRetry t supply, _ => ⟨t, execSsRetry_sound (List.Subset.refl _) t supply⟩
  | .soChannelTest t output channel first second rb1 rb2, _ =>
      ⟨t, execSoChannelTest_sound (List.Subset.refl _) t output channel first second rb1 rb2⟩
  | .soReadbackTimeout t output rb1 rb2, _ => ⟨t, execSoReadbackTimeout_sound (List.Subset.refl _) t output rb1 rb2⟩
  | .sfARemoteReset t c via value, _ => ⟨t, execSfARemoteReset_sound (List.Subset.refl _) t c via value⟩
  | .safetyReset t c via value, _ => ⟨t, execSafetyReset_sound (List.Subset.refl _) t c via value⟩
  | .supervisionFault t what rail deviation, _ => ⟨t, execSupervisionFault_sound (List.Subset.refl _) t what rail deviation⟩
  | .safeProduce t k, _ => ⟨t, execSafeProduce_sound (List.Subset.refl _) t k⟩
  | .safeFrameRx t net peer supervision frame trailer, _ =>
      ⟨t, execSafeFrameRx_sound (List.Subset.refl _) t net peer supervision frame trailer⟩
  | .pairingWindowEnd t k, _ => ⟨t, execPairingWindowEnd_sound (List.Subset.refl _) t k⟩
  | .channelReportRx t net peer frame, _ => ⟨t, execChannelReportRx_sound (List.Subset.refl _) t net peer frame⟩
  | .channelReportSend t k, _ => ⟨t, execChannelReportSend_sound (List.Subset.refl _) t k⟩
  | .probeSend t k, _ => ⟨t, execProbeSend_sound (List.Subset.refl _) t k⟩
  | .connectionLost t k, _ => ⟨t, execConnectionLost_sound (List.Subset.refl _) t k⟩
  | .prpSupervisionSend t, _ => ⟨t, execPrpSupervisionSend_sound (List.Subset.refl _) t⟩
  | .safeTestCommand t c via k value, _ => ⟨t, execSafeTestCommand_sound (List.Subset.refl _) t c via k value⟩
  | .sdoRequest t port cobId req, _ => ⟨t, execSdoRequest_sound (List.Subset.refl _) t port cobId req⟩
  | .transferTimeout t c, _ => ⟨t, execTransferTimeout_sound (List.Subset.refl _) t c⟩
  | .rpdoRx t port cobId data, _ => ⟨t, execRpdoRx_sound (List.Subset.refl _) t port cobId data⟩
  | .syncRx t port cobId counter, _ => ⟨t, execSyncRx_sound (List.Subset.refl _) t port cobId counter⟩
  | .tpdoSend t p, _ => ⟨t, execTpdoSend_sound (List.Subset.refl _) t p⟩
  | .nmtCommand t port cmd node, _ => ⟨t, execNmtCommand_sound (List.Subset.refl _) t port cmd node⟩
  | .canHeartbeat t, _ => ⟨t, execCanHeartbeat_sound (List.Subset.refl _) t⟩
  | .odRead t c broadcast msg, _ => ⟨t, execOdRead_sound (List.Subset.refl _) t c broadcast msg⟩
  | .odWrite t c broadcast msg, _ => ⟨t, execOdWrite_sound (List.Subset.refl _) t c broadcast msg⟩
  | .sessionOpen t c broadcast msg, _ => ⟨t, execSessionOpen_sound (List.Subset.refl _) t c broadcast msg⟩
  | .sessionAuthenticate t c broadcast msg, _ => ⟨t, execSessionAuthenticate_sound (List.Subset.refl _) t c broadcast msg⟩
  | .sessionClose t c broadcast msg, _ => ⟨t, execSessionClose_sound (List.Subset.refl _) t c broadcast msg⟩
  | .clientNonce t c via nonce, _ => ⟨t, execClientNonce_sound (List.Subset.refl _) t c via nonce⟩
  | .clientTag t c via tg, _ => ⟨t, execClientTag_sound (List.Subset.refl _) t c via tg⟩
  | .sessionCloseWrite t c via value, _ => ⟨t, execSessionCloseWrite_sound (List.Subset.refl _) t c via value⟩
  | .sessionIdleTimeout t c, _ => ⟨t, execSessionIdleTimeout_sound (List.Subset.refl _) t c⟩
  | .pairKeyWrite t c via key, _ => ⟨t, execPairKeyWrite_sound (List.Subset.refl _) t c via key⟩
  | .lockoutExpiry t, _ => ⟨t, execLockoutExpiry_sound (List.Subset.refl _) t⟩
  | .clientForget t c, _ => ⟨t, execClientForget_sound (List.Subset.refl _) t c⟩
  | .storeParameters t c via part value, _ => ⟨t, execStoreParameters_sound (List.Subset.refl _) t c via part value⟩
  | .restoreDefaults t c via part value, _ => ⟨t, execRestoreDefaults_sound (List.Subset.refl _) t c via part value⟩
  | .objectWrite t c via index sub v, _ => ⟨t, execObjectWrite_sound (List.Subset.refl _) t c via index sub v⟩
  | .recordAccept t, _ => ⟨t, execRecordAccept_sound (List.Subset.refl _) t⟩
  | .recordDrop t plane payload, _ => ⟨t, execRecordDrop_sound (List.Subset.refl _) t plane payload⟩
  | .directoryUpdate t, _ => ⟨t, execDirectoryUpdate_sound (List.Subset.refl _) t⟩
  | .recorderSeal t c via, _ => ⟨t, execRecorderSeal_sound (List.Subset.refl _) t c via⟩
  | .recorderUnseal t c via, _ => ⟨t, execRecorderUnseal_sound (List.Subset.refl _) t c via⟩
  | .windowCapture t c via, _ => ⟨t, execWindowCapture_sound (List.Subset.refl _) t c via⟩
  | .areaWrite t c via value, _ => ⟨t, execAreaWrite_sound (List.Subset.refl _) t c via value⟩
  | .cursorWrite t c via value, _ => ⟨t, execCursorWrite_sound (List.Subset.refl _) t c via value⟩
  | .panelHalfCycle t, _ => ⟨t, execPanelHalfCycle_sound (List.Subset.refl _) t⟩
  | .panelFrameEnd t, _ => ⟨t, execPanelFrameEnd_sound (List.Subset.refl _) t⟩
  | .panelUpdateRequest t, _ => ⟨t, execPanelUpdateRequest_sound (List.Subset.refl _) t⟩
  | .panelEnableWrite t c via value, _ => ⟨t, execPanelEnableWrite_sound (List.Subset.refl _) t c via value⟩
  | .readClearArm t c via value, _ => ⟨t, execReadClearArm_sound (List.Subset.refl _) t c via value⟩
  | .readClear t c via index sub, _ => ⟨t, execReadClear_sound (List.Subset.refl _) t c via index sub⟩
  | .scrubPass t corrected, _ => ⟨t, execScrubPass_sound (List.Subset.refl _) t corrected⟩
  | .uncorrectableWord t place data read address, _ => ⟨t, execUncorrectableWord_sound (List.Subset.refl _) t place data read address⟩
  | .injectionArm t c via, _ => ⟨t, execInjectionArm_sound (List.Subset.refl _) t c via⟩
  | .injectionCancel t c via, _ => ⟨t, execInjectionCancel_sound (List.Subset.refl _) t c via⟩
  | .injection t, _ => ⟨t, execInjection_sound (List.Subset.refl _) t⟩
  | .detectionTimeout t, _ => ⟨t, execDetectionTimeout_sound (List.Subset.refl _) t⟩
  | .linkTestGenerate t c via l, _ => ⟨t, execLinkTestGenerate_sound (List.Subset.refl _) t c via l⟩
  | .linkTestCheck t c via l, _ => ⟨t, execLinkTestCheck_sound (List.Subset.refl _) t c via l⟩
  | .linkTestLoopback t c via l, _ => ⟨t, execLinkTestLoopback_sound (List.Subset.refl _) t c via l⟩
  | .linkTestStop t c via l, _ => ⟨t, execLinkTestStop_sound (List.Subset.refl _) t c via l⟩
  | .linkTestTimeLimit t l, _ => ⟨t, execLinkTestTimeLimit_sound (List.Subset.refl _) t l⟩
  | .loopbackFrame t l received, _ => ⟨t, execLoopbackFrame_sound (List.Subset.refl _) t l received⟩
  | .userSlotOpen t u, _ => ⟨t, execUserSlotOpen_sound (List.Subset.refl _) t u⟩
  | .odReadCall t u index sub buffer length, _ => ⟨t, execOdReadCall_sound (List.Subset.refl _) t u index sub buffer length⟩
  | .mbWrite t u index sub buffer value, _ => ⟨t, execMbWrite_sound (List.Subset.refl _) t u index sub buffer value⟩
  | .propose t u north east heading, _ => ⟨t, execPropose_sound (List.Subset.refl _) t u north east heading⟩
  | .returnCall t u, _ => ⟨t, execReturnCall_sound (List.Subset.refl _) t u⟩
  | .slotOverrun t u, _ => ⟨t, execSlotOverrun_sound (List.Subset.refl _) t u⟩
  | .userPairFault t u cause, _ => ⟨t, execUserPairFault_sound (List.Subset.refl _) t u cause⟩
  | .userPairRun t c via u, _ => ⟨t, execUserPairRun_sound (List.Subset.refl _) t c via u⟩
  | .userPairStop t c via u, _ => ⟨t, execUserPairStop_sound (List.Subset.refl _) t c via u⟩
  | .imageWrite t c via u image, _ => ⟨t, execImageWrite_sound (List.Subset.refl _) t c via u image⟩
  | .imageVerified t u partner, _ => ⟨t, execImageVerified_sound (List.Subset.refl _) t u partner⟩
  | .takeOverIRise t, _ => ⟨t, execTakeOverIRise_sound (List.Subset.refl _) t⟩
  | .ifLaneCheckerLock t port lane bits, _ => ⟨t, execIfLaneCheckerLock_sound (List.Subset.refl _) t port lane bits⟩
  | .prbsCheckerLock t l bits, _ => ⟨t, execPrbsCheckerLock_sound (List.Subset.refl _) t l bits⟩
  | .storeComplete t ok, _ => ⟨t, execStoreComplete_sound (List.Subset.refl _) t ok⟩
  | .netLinkChange t net up, _ => ⟨t, execNetLinkChange_sound (List.Subset.refl _) t net up⟩
  | .canErrorStateChange t port st, _ => ⟨t, execCanErrorStateChange_sound (List.Subset.refl _) t port st⟩
  | .serialCharacterRx t port b charError startLateNs endLateNs, _ =>
      ⟨t, execSerialCharacterRx_sound (List.Subset.refl _) t port b charError startLateNs endLateNs⟩

/-- What such a command has kept of a state with the invariant. -/
theorem exec_sound {c : Instr} {s s' : State} (hs : s.Inv) (hc : maySample c = false) (e : exec c s = .next s') :
    ∃ t, Sound (effects c) (s.heard t) s' := by
  obtain ⟨t, kept⟩ := exec_kept c hc
  exact ⟨t, kept s (sound_of_inv (s.heard t) hs _) s' e⟩

/-! ### The start of a timeline -/

/-- The strapped identity that the pads of the straps show (R17, R67). -/
def StrapPads.identity (p : StrapPads) : Duty × Twin × Nat :=
  (if p.role.1 then .worker else .manager, if p.twin.1 then .b else .a, ofBits (p.nodes.map (·.1)))

@[simp] theorem State.strapped_handed (r s : State) (t : Nat) : (r.handed s t).strapped = r.strapped := rfl

@[simp] theorem State.strapped_heard (s : State) (t : Nat) : (s.heard t).strapped = s.strapped := rfl

/-- Sampling makes the pads the strapped identity, whether or not a strap fault blocks the module. -/
@[simp] theorem State.strapped_sampleStraps (s : State) (p : StrapPads) : (s.sampleStraps p).strapped = p.identity := by
  unfold State.sampleStraps
  dsimp only
  split <;> simp [State.strapped, StrapPads.identity]

@[simp] theorem State.strapped_startUp (s : State) (p : StrapPads) : (s.startUp p).strapped = p.identity :=
  State.strapped_sampleStraps _ p

/-- A start that nothing holds samples the straps. -/
theorem State.strapped_tryStart {s : State} (p : StrapPads) (hd : s.power.stage = .down) (hm : s.power.mrstLow = false)
    (hi : s.power.inA = true ∨ s.power.inB = true) : (s.tryStart p).strapped = p.identity := by
  rw [State.tryStart, if_pos ⟨hd, by simp [hm], hi⟩, State.strapped_startUp]

/-- An input that stood long enough for the claim stood long enough for the filter, once time has passed to `t`. -/
theorem State.steadyFor_heard {s : State} {t input stableNs : Nat} (h : Claims.Steady s t input stableNs) :
    (s.heard t).steadyFor input stableNs = true := by
  unfold State.steadyFor
  split
  case h_1 a ha => exact decide_eq_true (h a ha)
  case h_2 => rfl

theorem State.judgedPresent_heard {s : State} {t input v10mV stableNs : Nat} (hv : 1760 < v10mV) (hn : 2000000 ≤ stableNs)
    (h : Claims.Steady s t input stableNs) : (s.heard t).judgedPresent input v10mV stableNs = true := by
  simp [State.judgedPresent, hv, hn, State.steadyFor_heard h]

theorem State.putInput_present (s : State) (input : Nat) :
    (s.putInput input true).power.inA = true ∨ (s.putInput input true).power.inB = true := by
  unfold State.putInput
  by_cases h : input = 0
  · exact .inl (by simp [h])
  · exact .inr (by simp [h])

@[simp] theorem State.putInput_stage (s : State) (input : Nat) (on : Bool) :
    (s.putInput input on).power.stage = s.power.stage := by
  unfold State.putInput
  split <;> rfl

@[simp] theorem State.putInput_mrstLow (s : State) (input : Nat) (on : Bool) :
    (s.putInput input on).power.mrstLow = s.power.mrstLow := by
  unfold State.putInput
  split <;> rfl

/-- SUPPLIES_VALID of a module that is down and not held by MRST_N (R17, R81): the timeline begins with what the pads show. -/
theorem suppliesValid_samples {s : State} {t input v10mV stableNs : Nat} (gauge : Nat) (p : StrapPads)
    (hd : s.power.stage = .down) (hm : s.power.mrstLow = false) (hA : s.power.inA = false) (hB : s.power.inB = false)
    (hin : input < 2) (hv : 1760 < v10mV) (hn : 2000000 ≤ stableNs) (hs : Claims.Steady s t input stableNs) :
    Answers (.suppliesValid t input p v10mV stableNs gauge) s fun s' => s'.strapped = p.identity := by
  simp only [Answers, exec, execSuppliesValid]
  refine State.run_answers ?_
  have hfree : ¬ (2 ≤ input ∨ (s.heard t).power.inA = true ∨ (s.heard t).power.inB = true ∨
      ¬ (s.heard t).judgedPresent input v10mV stableNs = true) := by
    simp [hA, hB, State.judgedPresent_heard hv hn hs, hin]
  rw [State.strapped_handed, if_neg hfree, if_neg (by simp [State.running, hd])]
  exact State.strapped_tryStart p (by simpa using hd) (by simpa using hm) (State.putInput_present _ _)

/-! ### The powered period -/

theorem exec_strapped {c : Instr} {s s' : State} (hs : s.Inv) (hc : maySample c = false) (e : exec c s = .next s') :
    s'.strapped = s.strapped := by
  obtain ⟨t, sound⟩ := exec_sound hs hc e
  exact sound.ident'.trans (s.strapped_heard t)

/-- Settles O7: the start of a timeline samples the pads, and every command that begins none keeps the strapped identity. -/
theorem strapsHold : Obligations.StrapsHold :=
  ⟨fun _ _ _ _ _ gauge p hd hm hA hB hin hv hn hsteady => suppliesValid_samples gauge p hd hm hA hB hin hv hn hsteady,
    fun _ _ _ => exec_strapped⟩

end Sys2Proof.Machine
end

section
/-! The pads and signals (R57, R59, R72, R77): what the test access port executes in the roles that drive the vessel, with the invariant
of every command that keeps it so; the sticky bit of a strap; which pads of the servo the role lets a module drive. -/

namespace Sys2Proof.Machine

open Sys2Proof

/-! ### Every command keeps the invariant -/

theorem State.run_inv {s s' : State} {t : Nat} {f : State → State} (hf : ∀ u : State, u.Inv → (f u).Inv) (hs : s.Inv)
    (e : s.run t f = .next s') : s'.Inv := by
  rw [s.run_eq] at e
  cases e
  exact hf _ hs

/-- The internal reset is sound whatever it ends: its stores are empty and the port executes BYPASS. -/
theorem State.internalReset_inv (s : State) : s.internalReset.Inv := ⟨rfl, rfl⟩

theorem State.showInputs_inv {s : State} (h : s.Inv) : s.showInputs.Inv :=
  (State.showInputs_sound (List.Subset.refl _) s (sound_of_inv s h _)).inv

/-! The supplies, their judgement and MRST_N are no part of the invariant: of the commands at which a timeline may begin, what they show
and the start itself are all that could break it. -/

theorem execSuppliesValid_inv {s s' : State} {t input v10mV stableNs gauge : Nat} {p : StrapPads} (hs : s.Inv)
    (e : execSuppliesValid t input p v10mV stableNs gauge s = .next s') : s'.Inv := by
  unfold execSuppliesValid at e
  refine State.run_inv (fun u hu => ?_) hs e
  exact ite_inv hu (ite_inv (State.showInputs_inv hu) (tryStart_inv _ p hu))

theorem execShutdownEnd_inv {s s' : State} {t : Nat} {p : StrapPads} (hs : s.Inv)
    (e : execShutdownEnd t p s = .next s') : s'.Inv := by
  unfold execShutdownEnd at e
  refine State.run_inv (fun u hu => ?_) hs e
  exact ite_inv hu (tryStart_inv _ p (State.internalReset_inv _))

theorem execMrstNRelease_inv {s s' : State} {t : Nat} {p : StrapPads} (hs : s.Inv)
    (e : execMrstNRelease t p s = .next s') : s'.Inv := by
  unfold execMrstNRelease at e
  refine State.run_inv (fun u hu => ?_) hs e
  exact tryStart_inv _ p hu

/-- Every command keeps the canonical stores and the rule of the test access port. -/
theorem exec_inv {c : Instr} {s s' : State} (hs : s.Inv) (e : exec c s = .next s') : s'.Inv := by
  cases hc : maySample c with
  | false =>
    obtain ⟨_, sound⟩ := exec_sound hs hc e
    exact sound.inv
  | true =>
    unfold maySample at hc
    split at hc
    case h_1 => exact execSuppliesValid_inv hs e
    case h_2 => exact execShutdownEnd_inv hs e
    case h_3 => exact execMrstNRelease_inv hs e
    case h_4 => cases hc

/-! ### The test access port -/

theorem tapFits_iff (r : PairRole) (t : TapIr) :
    tapFits r t = true ↔ (r = .active ∨ r = .standby → t = .idcode ∨ t = .bypass) := by
  cases r <;> cases t <;> simp [tapFits]

theorem TapIr.secured_eq (ir : TapIr) : ir.secured = if ir ≠ .idcode then .bypass else ir := by
  cases ir <;> rfl

/-- TAP_INSTRUCTION (R77): in ACTIVE and STANDBY every instruction but IDCODE is BYPASS, and the port shifts what it executes. -/
theorem tapInstruction_answers {s : State} (t : Nat) (ir : TapIr) (hr : s.running = true) :
    Answers (.tapInstruction t ir) s fun s' =>
      s'.tap = (if (s.role = .active ∨ s.role = .standby) ∧ ir ≠ .idcode then .bypass else ir) ∧ s'.out = [.tapShift s'.tap] := by
  simp only [Answers, exec, execTapInstruction]
  refine State.live_answers hr ⟨?_, rfl⟩
  change (if s.role = .active ∨ s.role = .standby then ir.secured else ir) = _
  rw [TapIr.secured_eq, ← ite_and]

/-- Settles O8: the instruction is secured when it comes, and the invariant keeps it so over every command. -/
theorem tapRule : Obligations.TapRule :=
  ⟨⟨fun _ t ir hr => tapInstruction_answers t ir hr,
      fun _ _ s' hs e => (tapFits_iff s'.role s'.tap).1 (exec_inv hs e).2⟩,
    fun _ t ir hr => tapInstruction_answers t ir hr⟩

/-! ### The sticky bit of a strap -/

/-- A bit that is set joins the bits of its object, and no other object changes. -/
theorem State.setBit_true_joins {s : State} (i sub n : Nat) (h : s.odOk) :
    s.sameObjects (s.setBit i sub n true) [okey i sub] ∧
      ∀ m, (s.setBit i sub n true).bit i sub m = (s.bit i sub m || decide (m = n)) := by
  constructor
  · intro k _ hk
    exact (s.objK_setObjK _ _ _ h).trans (if_neg (List.ne_of_not_mem_cons hk))
  · intro m
    rw [s.bit_setBit _ _ _ _ _ _ _ h]
    by_cases hm : m = n <;> simp [hm]

/-- Settles O12: each pad sets its own bit of 2000h:05. -/
theorem strapLevelChange : Obligations.StrapLevelChange := by
  intro s t pad hs hr
  simp only [Answers, exec, execStrapLevelChange]
  have joins (n : Nat) := State.setBit_true_joins (s := s.heard t) 0x2000 5 n hs.odOk
  cases pad with
  | role => exact State.live_answers hr (joins 0)
  | twin => exact State.live_answers hr (joins 1)
  | node => exact State.live_answers hr (joins 2)

/-! ### The pads of a role -/

theorem State.workerDrives_iff (s : State) :
    s.workerDrives = true ↔ s.drives = true ∧ s.isManager = false ∧ s.role = .active := by
  simp [State.workerDrives, and_assoc]

theorem State.workerDrives_of_isManager {s : State} (hm : s.isManager = true) : s.workerDrives = false := by
  simp [State.workerDrives, hm]

/-- A DAC port is driven exactly where the worker drives its outputs (R57). -/
theorem State.pad_dacPort_ne_highZ_iff (s : State) (n : Nat) : s.pad (.dacPort n) ≠ .highZ ↔ s.workerDrives = true := by
  unfold State.pad
  cases s.workerDrives <;> simp

theorem dacPort_role {s : State} {n : Nat} (h : s.pad (.dacPort n) ≠ .highZ) : s.role = .active := by
  obtain ⟨-, -, hrole⟩ := s.workerDrives_iff.1 ((s.pad_dacPort_ne_highZ_iff n).1 h)
  exact hrole

theorem manager_servo_pads {s : State} (hm : s.isManager = true) (n : Nat) :
    s.pad (.encoderClock n) = .highZ ∧ s.pad (.excitation n) = .off ∧ s.pad (.dacPort n) = .highZ ∧
      s.pad (.driveEnable n) = .off := by
  simp [State.pad, State.workerDrives_of_isManager hm, onOff]

/-- A command whose effect leaves the state alone lets time pass and does nothing else. -/
theorem State.live_eq_at {s : State} {t : Nat} {f : State → State} (h : f (s.heard t) = s.heard t) : s.live t f = .next (s.at t) := by
  unfold State.live
  rw [State.run_eq, h, ite_self]
  rfl

theorem ssiBurst_of_isManager {s : State} (hm : s.isManager = true) (t encoder word : Nat) (low : Bool) :
    Answers (.ssiBurst t encoder word low) s fun s' => s' = s.at t := by
  simp only [Answers, exec, execSsiBurst]
  exact ⟨_, State.live_eq_at (if_pos (.inl hm)), rfl⟩

theorem drvfbChange_of_isManager {s : State} (hm : s.isManager = true) (t thruster held : Nat) (e : Bool) :
    Answers (.drvfbChange t thruster e held) s fun s' => s' = s.at t := by
  simp only [Answers, exec, execDrvfbChange]
  exact ⟨_, State.live_eq_at (if_pos (.inl hm)), rfl⟩

/-- Settles O13: a manager never counts as a worker that drives, and both commands leave it at their first check. -/
theorem padsByRole : Obligations.PadsByRole :=
  ⟨fun _ _ _ => ⟨dacPort_role, fun hrole => by_contra fun h => hrole (dacPort_role h)⟩,
    fun _ hm => ⟨manager_servo_pads hm,
      fun t encoder word low => ssiBurst_of_isManager hm t encoder word low,
      fun t thruster held e => drvfbChange_of_isManager hm t thruster held e⟩⟩

end Sys2Proof.Machine
end

section
/-! Transfers of the object dictionary (R683): the bytes and the answer that go to a client leave its transfers and the held writes
alone, and a segmented transfer whose segments are 1.0 s apart aborts. -/

namespace Sys2Proof.Machine

open Sys2Proof

/-! ### Bytes to a client -/

@[simp] theorem State.sendOd_dict (s : State) (c : Client) (b : List Byte) : (s.sendOd c b).dict = s.dict := by
  cases c <;> rfl

@[simp] theorem State.sendOd_held (s : State) (c : Client) (b : List Byte) : (s.sendOd c b).held = s.held := by
  cases c <;> rfl

/-- What was sent before stays sent. -/
theorem State.mem_out_sendOd {s : State} {o : Out} (c : Client) (b : List Byte) (h : o ∈ s.out) : o ∈ (s.sendOd c b).out := by
  cases c with
  | net id => exact List.mem_append_left _ h
  | inner | can p | ring slot => exact h

/-! ### The answer to a client -/

@[simp] theorem State.answer_held (s : State) (c : Client) (key : Nat) (r : Reply) : (s.answer c key r).held = s.held := by
  unfold State.answer
  split
  · rfl
  · rfl
  · dsimp only
    split <;> simp

@[simp] theorem State.answer_transfers (s : State) (c : Client) (key : Nat) (r : Reply) :
    (s.answer c key r).dict.transfers = s.dict.transfers := by
  unfold State.answer
  split
  · rfl
  · rfl
  · dsimp only
    split <;> simp

/-- Every client but the module itself sees its reply (R664, R671). -/
theorem State.reply_mem_out_answer (s : State) {c : Client} (key : Nat) (r : Reply) (hc : c ≠ .inner) :
    Out.reply c key r ∈ (s.answer c key r).out := by
  unfold State.answer
  split
  · exact absurd rfl hc
  · simp
  · dsimp only
    split
    · simp
    · exact State.mem_out_sendOd _ _ (by simp)

/-! ### The end of a transfer -/

@[simp] theorem State.endTransfer_held (s : State) (c : Client) : (s.endTransfer c).held = s.held := rfl

theorem State.transfer_endTransfer (s : State) (c : Client) : (s.endTransfer c).transfer c = none := by
  simp [State.transfer, State.endTransfer]

theorem State.transfer_answer (s : State) (c d : Client) (key : Nat) (r : Reply) :
    (s.answer c key r).transfer d = s.transfer d := by
  simp [State.transfer]

/-- R683: an aborted transfer is gone, its client sees the abort code, and the held writes are as before. -/
theorem State.abortTransfer_ends (s : State) {c : Client} (key a : Nat) (hc : c ≠ .inner) :
    (s.abortTransfer c key a).transfer c = none ∧ Out.reply c key (.abort a) ∈ (s.abortTransfer c key a).out ∧
      (s.abortTransfer c key a).held = s.held :=
  ⟨(State.transfer_answer _ _ _ _ _).trans (s.transfer_endTransfer c), State.reply_mem_out_answer _ _ _ hc,
    (State.answer_held _ _ _ _).trans (s.endTransfer_held c)⟩

/-- A transfer whose last segment is 1.0 s old aborts. -/
theorem State.expireTransfer_of_due {s : State} {c : Client} {x : Transfer} (hx : s.transfer c = some x)
    (due : x.lastAt + 1000000000 ≤ s.now) : s.expireTransfer c = s.abortTransfer c x.key abortTimeout := by
  unfold State.expireTransfer
  rw [hx]
  exact if_neg (Nat.not_lt.2 due)

/-- Settles O14: at the instant of the command the transfer is due, and an abort ends it with nothing held. -/
theorem transferTimeout : Obligations.TransferTimeout := by
  intro s t c x hr hp hc hx due
  simp only [Answers, exec, execTransferTimeout]
  refine State.ported_answers hr hp ?_
  have hx' : (s.heard t).transfer c = some x := hx
  rw [State.expireTransfer_of_due hx' due]
  exact (s.heard t).abortTransfer_ends x.key abortTimeout hc

end Sys2Proof.Machine
end

section
/-! The read cursor and window of a client (R720, R723): what a client's record holds after it is put, heard and answered, how a write
that is met comes to the object's own effect over CAN and over a network, and the writes of 9002h. -/

namespace Sys2Proof.Machine

open Sys2Proof

/-! ### The record of a client -/

@[simp] theorem State.client_clientRec (s : State) (c : Client) : (s.clientRec c).client = c := by
  unfold State.clientRec
  cases h : s.dict.clients.find? fun (k : ClientRec) => decide (k.client = c) with
  | none => rfl
  | some k => simpa using List.find?_some h

/-- A record put is its client's record. -/
theorem State.clientRec_putClient (s : State) {k : ClientRec} {c : Client} (hk : k.client = c) : (s.putClient k).clientRec c = k := by
  subst hk
  have others : ((s.dict.clients.filter fun (q : ClientRec) => decide (q.client ≠ k.client)).find? fun (q : ClientRec) =>
      decide (q.client = k.client)) = none := List.find?_eq_none.2 fun q hq => by simpa using (List.mem_filter.1 hq).2
  simp only [State.clientRec, State.putClient, List.find?_append, others]
  simp

@[simp] theorem State.now_putClient (s : State) (k : ClientRec) : (s.putClient k).now = s.now := rfl

@[simp] theorem State.od_putClient (s : State) (k : ClientRec) : (s.putClient k).od = s.od := rfl

@[simp] theorem State.user_putClient (s : State) (k : ClientRec) : (s.putClient k).user = s.user := rfl

/-! ### Where a client reads the recorder -/

/-- Area, cursor and window of a client (R720). -/
structure ReadPlace where
  area : Nat
  cursor : Nat
  window : List Byte

def ClientRec.place (k : ClientRec) : ReadPlace := ⟨k.area, k.cursor, k.window⟩

def State.place (s : State) (c : Client) : ReadPlace := (s.clientRec c).place

/-- The records alone decide it: a client without one reads nowhere in particular, whatever the time. -/
theorem State.place_eq_find (s : State) (c : Client) : s.place c =
    ((s.dict.clients.find? fun (k : ClientRec) => decide (k.client = c)).map ClientRec.place).getD ⟨0, 0, []⟩ := by
  unfold State.place State.clientRec
  cases s.dict.clients.find? fun (k : ClientRec) => decide (k.client = c) <;> rfl

theorem State.place_congr {a b : State} (c : Client) (h : a.dict.clients = b.dict.clients) : a.place c = b.place c := by
  rw [State.place_eq_find, State.place_eq_find, h]

theorem State.place_putClient (s : State) {k : ClientRec} {c : Client} (hk : k.client = c) : (s.putClient k).place c = k.place := by
  rw [State.place, s.clientRec_putClient hk]

/-- A change of the records that moves no client leaves everyone's place. -/
theorem State.place_of_map {a b : State} {f : ClientRec → ClientRec} (c : Client) (h : a.dict.clients = b.dict.clients.map f)
    (hf : ∀ k, (f k).client = k.client ∧ (f k).place = k.place) : a.place c = b.place c := by
  have same : ((fun (k : ClientRec) => decide (k.client = c)) ∘ f) = fun (k : ClientRec) => decide (k.client = c) :=
    funext fun k => by simp [(hf k).1]
  have placed : ClientRec.place ∘ f = ClientRec.place := funext fun k => (hf k).2
  rw [State.place_eq_find, State.place_eq_find, h, List.find?_map, same, Option.map_map, placed]

@[simp] theorem State.place_handed (r s : State) (t : Nat) (c : Client) : (r.handed s t).place c = r.place c :=
  State.place_congr c rfl

@[simp] theorem State.place_endTransfer (s : State) (c d : Client) : (s.endTransfer c).place d = s.place d := rfl

@[simp] theorem State.place_answer (s : State) (c d : Client) (key : Nat) (r : Reply) : (s.answer c key r).place d = s.place d := by
  unfold State.answer
  split
  · rfl
  · rfl
  · dsimp only
    split
    · rfl
    · refine State.place_of_map d (congrArg Dict.clients (State.sendOd_dict _ _ _)) fun k => ?_
      split <;> exact ⟨rfl, rfl⟩

@[simp] theorem State.place_hear (s : State) (c : Client) (reads : Option Nat) : (s.hear c reads).place c = s.place c := by
  cases c with
  | inner => rfl
  | can _ | net _ | ring _ => exact s.place_putClient (s.client_clientRec _)

/-! ### What an answer, an aborted transfer and a silent client leave alone -/

@[simp] theorem State.od_sendOd (s : State) (c : Client) (b : List Byte) : (s.sendOd c b).od = s.od := by
  cases c <;> rfl

@[simp] theorem State.user_sendOd (s : State) (c : Client) (b : List Byte) : (s.sendOd c b).user = s.user := by
  cases c <;> rfl

@[simp] theorem State.od_answer (s : State) (c : Client) (key : Nat) (r : Reply) : (s.answer c key r).od = s.od := by
  unfold State.answer
  split
  · rfl
  · rfl
  · dsimp only
    split
    · rfl
    · simp only [State.od_sendOd]
      rfl

@[simp] theorem State.user_answer (s : State) (c : Client) (key : Nat) (r : Reply) : (s.answer c key r).user = s.user := by
  unfold State.answer
  split
  · rfl
  · rfl
  · dsimp only
    split
    · rfl
    · simp only [State.user_sendOd]
      rfl

@[simp] theorem State.od_endTransfer (s : State) (c : Client) : (s.endTransfer c).od = s.od := rfl

@[simp] theorem State.user_endTransfer (s : State) (c : Client) : (s.endTransfer c).user = s.user := rfl

@[simp] theorem State.od_hear (s : State) (c : Client) (reads : Option Nat) : (s.hear c reads).od = s.od := by
  cases c <;> rfl

/-- A transfer that is not due stands; one that is due ends with the time-out's abort code. -/
theorem State.expireTransfer_cases (s : State) (c : Client) :
    s.expireTransfer c = s ∨ ∃ x : Transfer, s.expireTransfer c = s.abortTransfer c x.key abortTimeout := by
  unfold State.expireTransfer
  split
  case h_1 => exact .inl rfl
  case h_2 x _ =>
    split
    · exact .inl rfl
    · exact .inr ⟨x, rfl⟩

@[simp] theorem State.place_abortTransfer (s : State) (c d : Client) (key a : Nat) : (s.abortTransfer c key a).place d = s.place d := by
  simp [State.abortTransfer]

@[simp] theorem State.od_abortTransfer (s : State) (c : Client) (key a : Nat) : (s.abortTransfer c key a).od = s.od := by
  simp [State.abortTransfer]

@[simp] theorem State.user_abortTransfer (s : State) (c : Client) (key a : Nat) : (s.abortTransfer c key a).user = s.user := by
  simp [State.abortTransfer]

@[simp] theorem State.place_expireTransfer (s : State) (c d : Client) : (s.expireTransfer c).place d = s.place d := by
  obtain h | ⟨x, h⟩ := s.expireTransfer_cases c <;> simp [h]

@[simp] theorem State.od_expireTransfer (s : State) (c : Client) : (s.expireTransfer c).od = s.od := by
  obtain h | ⟨x, h⟩ := s.expireTransfer_cases c <;> simp [h]

@[simp] theorem State.user_expireTransfer (s : State) (c : Client) : (s.expireTransfer c).user = s.user := by
  obtain h | ⟨x, h⟩ := s.expireTransfer_cases c <;> simp [h]

theorem State.foldl_endTransfer_eq (l : List ClientRec) (s : State) :
    l.foldl (fun (u : State) k => u.endTransfer k.client) s =
      { s with dict := { s.dict with transfers := (l.foldl (fun (u : State) k => u.endTransfer k.client) s).dict.transfers } } := by
  induction l generalizing s with
  | nil => rfl
  | cons k l ih => exact ih (s.endTransfer k.client)

/-- Who is forgotten loses record and transfer; nothing else changes (R670). -/
theorem State.forgetSilent_eq (s : State) : s.forgetSilent = { s with dict := { s.dict with
    clients := s.dict.clients.filter fun (k : ClientRec) => !(isNetClient k.client && decide (k.lastHeard + 60000000000 ≤ s.now))
    transfers := s.forgetSilent.dict.transfers } } :=
  State.foldl_endTransfer_eq _ _

@[simp] theorem State.now_forgetSilent (s : State) : s.forgetSilent.now = s.now := by rw [State.forgetSilent_eq]

@[simp] theorem State.od_forgetSilent (s : State) : s.forgetSilent.od = s.od := by rw [State.forgetSilent_eq]

@[simp] theorem State.user_forgetSilent (s : State) : s.forgetSilent.user = s.user := by rw [State.forgetSilent_eq]

/-- The SDO server of a port is never forgotten. -/
theorem State.place_forgetSilent_can (s : State) (p : Nat) : s.forgetSilent.place (.can p) = s.place (.can p) := by
  rw [State.place_eq_find, State.place_eq_find, State.forgetSilent_eq, List.find?_filter]
  congr 3
  funext k
  by_cases h : k.client = .can p <;> simp [h, isNetClient]

/-! ### A message that is served -/

theorem State.row_congr {a b : State} (h : a.user = b.user) (i sub : Nat) : a.row i sub = b.row i sub := by
  unfold State.row State.mailDecl
  rw [h]

theorem State.toVal_congr {a b : State} (h : a.user = b.user) (i sub : Nat) (bytes : List Byte) :
    a.toVal i sub bytes = b.toVal i sub bytes := by
  unfold State.toVal
  rw [State.row_congr h]

theorem State.user_served (x : State) (c : Client) (m : OdMsg) : (Claims.served x c m).user = x.user := by
  simp [Claims.served]

theorem State.od_served (x : State) (c : Client) (m : OdMsg) : (Claims.served x c m).od = x.od := by
  simp [Claims.served]

/-- Neither being heard, nor a transfer that aborts, nor the message being served moves the client. -/
theorem State.place_served (x : State) (c : Client) (m : OdMsg) : (Claims.served x c m).place c = x.forgetSilent.place c :=
  calc (Claims.served x c m).place c
      = ((x.forgetSilent.putClient { x.forgetSilent.clientRec c with lastHeard := x.forgetSilent.now }).expireTransfer c).place c :=
        State.place_putClient _ (State.client_clientRec _ c)
    _ = (x.forgetSilent.putClient { x.forgetSilent.clientRec c with lastHeard := x.forgetSilent.now }).place c :=
        State.place_expireTransfer _ c c
    _ = x.forgetSilent.place c := State.place_putClient _ (State.client_clientRec _ c)

/-- A message that repeats none of the responses kept for its client, and is a write, is judged as one (R671). -/
theorem State.odServe_write {s : State} {c : Client} {m : OdMsg} (hop : m.opcode = 2)
    (fresh : ∀ a ∈ (s.clientRec c).answered, ¬ (a.reqId = m.reqId ∧ s.now ≤ a.at' + 2000000000 ∧
      ∀ g, m.tag = some g → a.counter = some g.counter)) :
    s.odServe c m = ((s.expireTransfer c).putClient { (s.expireTransfer c).clientRec c with request := some m }).odWrite
      c m.tag m.index m.sub m.offset m.final m.data := by
  unfold State.odServe
  dsimp only
  rw [List.find?_eq_none.2 ?repeatsNone]
  case repeatsNone =>
    intro a ha same
    refine fresh a ha ?_
    cases htag : m.tag <;> simp_all
  simp only [hop]

/-- A write message that the claims call served is judged as a write in the state they name. -/
theorem State.odArrive_write {x : State} {c : Client} {m : OdMsg} (h : Claims.Served x c m) (hop : m.opcode = 2) :
    x.odArrive c false (some m) = (Claims.served x c m).odWrite c m.tag m.index m.sub m.offset m.final m.data := by
  obtain ⟨hnet, hether, hver, hreq, hroom, hidle, hwait, hfresh⟩ := h
  have enabled : ¬ (¬ isNetClient c = true ∨ x.obj 0x1E10 1 = 0 ∧ isEthernet c = true) := by
    rintro (hn | ⟨h0, he⟩)
    · exact hn hnet
    · simp [hether h0] at he
  have request : ¬ (m.version ≠ 1 ∨ ¬ isRequest m.opcode = true ∨ false = true) := by simp [hver, hreq]
  have room : ¬ (¬ (x.forgetSilent.dict.clients.any fun (q : ClientRec) => decide (q.client = c)) = true ∧
      16 ≤ (x.forgetSilent.dict.clients.filter fun (q : ClientRec) => isNetClient q.client).length) :=
    fun ⟨hk, hl⟩ => hroom.elim hk fun hl' => absurd hl (Nat.not_le.2 hl')
  unfold State.odArrive
  dsimp only
  rw [if_neg enabled, if_neg request, if_neg room, if_neg (by simp [hidle, hwait])]
  refine State.odServe_write hop ?_
  rw [State.clientRec_putClient _ (by simp), State.now_putClient, State.now_forgetSilent]
  exact hfresh

/-- The last segment of a value, or the whole of it, ends the transfer and writes the value (R654, R669). -/
theorem State.odWrite_final {s : State} {c : Client} {m : OdMsg} {bytes : List Byte} (h : Claims.Carried s c m bytes)
    (hdata : m.data = bytes.drop m.offset) (tag : Option OdTag) :
    s.odWrite c tag m.index m.sub m.offset true m.data =
      (s.endTransfer c).writeObject c tag m.index m.sub (s.toVal m.index m.sub bytes) := by
  have whole : bytes.take m.offset ++ m.data = bytes := by rw [hdata, List.take_append_drop]
  unfold State.odWrite
  by_cases h0 : m.offset = 0
  · have all : m.data = bytes := by simpa [h0] using hdata
    simp [h0, all]
  · obtain ⟨x, hx, hkey, hwrite, hnext, hbytes⟩ := h.resolve_left h0
    simp [h0, hx, hkey, hwrite, hnext, hbytes, whole]

/-! ### A write that is met -/

/-- Both paths of a client come to the write of the object in the state, and with the trailer and value, in which it is met. -/
theorem State.clientWrite_of_met {s u : State} {t i sub : Nat} {c : Client} {via : OdVia} {v w : Val} {tag : Option OdTag}
    (h : Claims.WriteMet s t c via i sub v u tag w) : (s.heard t).clientWrite c via i sub v = u.writeObject c tag i sub w := by
  unfold Claims.WriteMet at h
  unfold State.clientWrite
  split at h
  case h_1 => exact h.elim
  case h_2 p =>
    obtain ⟨rfl, rfl, rfl⟩ := h
    rfl
  case h_3 =>
    obtain ⟨hserved, hcarried, rfl, rfl, rfl⟩ := h
    rw [if_pos hserved.1]
    refine (State.odArrive_write hserved rfl).trans ((State.odWrite_final hcarried rfl _).trans ?_)
    rw [State.toVal_congr (State.user_served _ _ _)]
    rfl

/-- When a write is met, its client is one that is answered and stands where it stood once silent clients were forgotten, and no object
has changed. -/
theorem place_od_of_met {s u : State} {t i sub : Nat} {c : Client} {via : OdVia} {v w : Val} {tag : Option OdTag}
    (h : Claims.WriteMet s t c via i sub v u tag w) :
    c ≠ .inner ∧ u.place c = (s.heard t).forgetSilent.place c ∧ u.od = s.od := by
  unfold Claims.WriteMet at h
  split at h
  case h_1 => exact h.elim
  case h_2 p =>
    obtain ⟨rfl, -, -⟩ := h
    exact ⟨nofun, (State.place_forgetSilent_can _ p).symm, rfl⟩
  case h_3 hinner _ =>
    obtain ⟨-, -, rfl, -, -⟩ := h
    exact ⟨hinner, State.place_served (s.heard t) c _, (State.od_endTransfer _ c).trans (State.od_served (s.heard t) c _)⟩

/-- A write without a session that nothing stands against is accepted (R661). -/
theorem State.writeObject_of_allowed {s : State} {c : Client} {tag : Option OdTag} {i sub : Nat} {r : OdRow} {v : Val}
    (h : Claims.Allowed (s.hear c none) c tag i sub r v) (hg : isGuarded r.acc = false) :
    s.writeObject c tag i sub v = (s.hear c none).accept c i sub r v 0 := by
  obtain ⟨hrow, haccess, -, hvalue⟩ := h
  have there : (s.hear c none).missing i sub = none := by simp [State.missing, hrow]
  simp [State.writeObject, there, hrow, haccess, hg, hvalue]

/-! ### The writes of 9002h -/

/-- The record of a client after a write of `n` to 9002h:01, or else to 9002h:02 (R723). -/
def ClientRec.moved (k : ClientRec) (sub : Nat) (n : Int) : ClientRec :=
  if sub = 1 then { k with area := n.toNat, cursor := 0, window := [], windowSeq := none }
  else { k with cursor := n.toNat, window := [], windowSeq := none }

@[simp] theorem ClientRec.client_moved (k : ClientRec) (sub : Nat) (n : Int) : (k.moved sub n).client = k.client := by
  unfold ClientRec.moved
  split <;> rfl

theorem State.place_moved (s : State) (c : Client) (sub : Nat) (n : Int) :
    ((s.clientRec c).moved sub n).place = if sub = 1 then ⟨n.toNat, 0, []⟩ else ⟨(s.place c).area, n.toNat, []⟩ := by
  unfold ClientRec.moved
  split <;> rfl

theorem State.accept_window {s : State} {c : Client} {sub : Nat} {r : OdRow} (n : Int) (hr : r.acc = .rw) :
    s.accept c 0x9002 sub r (.num n) 0 = (s.putClient ((s.clientRec c).moved sub n)).answer c (okey 0x9002 sub) .done := by
  simp [State.accept, actsHere, hr, State.writeHere, ClientRec.moved]

/-- Area and cursor of 9002h are plain rw objects. -/
theorem acc_of_row_window {s : State} {sub : Nat} {r : OdRow} (hsub : sub = 1 ∨ sub = 2) (h : s.row 0x9002 sub = some r) :
    r.acc = .rw := by
  have hrow : odRow 0x9002 sub = some r := h
  have both : (odRow 0x9002 1).map (·.acc) = some .rw ∧ (odRow 0x9002 2).map (·.acc) = some .rw := by decide
  rcases hsub with rfl | rfl
  · simpa [hrow] using both.1
  · simpa [hrow] using both.2

/-- A write of 9002h:01 or 9002h:02 that is met and allowed is answered, moves its client, and changes no object. -/
theorem clientWrite_window {s u : State} {t sub : Nat} {c : Client} {via : OdVia} {n : Int} {tag : Option OdTag} {r : OdRow}
    (hsub : sub = 1 ∨ sub = 2) (met : Claims.WriteMet s t c via 0x9002 sub (.num n) u tag (.num n))
    (ok : Claims.Allowed (u.hear c none) c tag 0x9002 sub r (.num n)) :
    let s' := ((s.heard t).clientNum c via 0x9002 sub n).handed s t
    Claims.Replied s' c 0x9002 sub .done ∧ s'.od = s.od ∧
      s'.place c = if sub = 1 then ⟨n.toNat, 0, []⟩ else ⟨((s.heard t).forgetSilent.place c).area, n.toNat, []⟩ := by
  have hacc : r.acc = .rw := acc_of_row_window hsub ok.1
  obtain ⟨hinner, hplace, hod⟩ := place_od_of_met met
  have effect : (s.heard t).clientNum c via 0x9002 sub n =
      ((u.hear c none).putClient (((u.hear c none).clientRec c).moved sub n)).answer c (okey 0x9002 sub) .done :=
    calc (s.heard t).clientNum c via 0x9002 sub n
        = u.writeObject c tag 0x9002 sub (.num n) := State.clientWrite_of_met met
      _ = (u.hear c none).accept c 0x9002 sub r (.num n) 0 := State.writeObject_of_allowed ok (by rw [hacc]; rfl)
      _ = _ := State.accept_window n hacc
  rw [effect]
  refine ⟨State.reply_mem_out_answer _ _ _ hinner, by simp [hod], ?_⟩
  rw [State.place_handed, State.place_answer, State.place_putClient _ (by simp), State.place_moved, State.place_hear, hplace]

/-- Settles O15: each is a write of 9002h, which puts the client's record with the cursor moved and the window empty. -/
theorem recorderCursor : Obligations.RecorderCursor := by
  intro s t c via n r
  simp only [Answers, exec, execAreaWrite, execCursorWrite]
  constructor
  · rintro ⟨-, hr, hp, _, _, u, tag, hw, met, ok⟩
    cases hw
    obtain ⟨hreply, hod, hplace⟩ := clientWrite_window (.inl rfl) met ok
    obtain ⟨harea, hcursor, hwindow⟩ := ReadPlace.mk.inj hplace
    exact State.ported_answers hr hp ⟨hreply, harea, hcursor, hwindow, hod⟩
  · rintro ⟨-, hr, hp, _, _, u, tag, hw, met, ok⟩
    cases hw
    obtain ⟨hreply, hod, hplace⟩ := clientWrite_window (.inr rfl) met ok
    obtain ⟨harea, hcursor, hwindow⟩ := ReadPlace.mk.inj hplace
    exact State.ported_answers hr hp ⟨hreply, hcursor, harea, hwindow, hod⟩

end Sys2Proof.Machine
end
